-- ==== Sys2Proof/Word.lean ====
section
/-! DEFINITION. The word types of the module: 32-bit register words and bytes (R10). -/

namespace Sys2Proof

/-- A register is 32 bits wide (R10). -/
abbrev Word := BitVec 32

/-- The smallest addressable unit of memory. -/
abbrev Byte := BitVec 8

end Sys2Proof
end

