-- ==== Sys2Proof/Syntax.lean ====
section
/-! DEFINITION. The commands of the module, with their operands: one constructor per row of spec/opcode_table.json.
An event command carries what arrives from outside (an edge, a frame, a measurement); a register command carries the
access it comes with; a queue command names the ring whose next descriptor it is. -/

namespace Sys2Proof

/-- The ordering codes of Table 0-1 (R1). -/
inductive OrderCode where
  | f | a | c | d
  deriving DecidableEq, Repr

/-- The identity, privilege and security of an access (R55, Table 2-11). -/
structure Acc where
  master : Fin 48
  priv : Bool
  sec : Bool
  deriving DecidableEq, Repr

/-- What an access does: read, write, or instruction fetch (R56). -/
inductive AccKind where
  | read | write | exec
  deriving DecidableEq, Repr

/-- What the boot ROM's cryptographic and flash-read checks find (R477): the slots (2p for A, 2p + 1 for B of
partition p) that fail, with the reason 1 signature, 2 tag or 5 uncorrectable read. The others pass. -/
abbrev BootFails := List (Fin 12 × Fin 6)


/-- What an antenna receives of one signal of one satellite at an epoch (Table 13-4): antenna, signal, satellite,
elevation, and the measured quantities. -/
structure GObs where
  ant : Fin 2
  sig : Fin 15
  svid : BitVec 8
  elev : Int
  pr : BitVec 64
  cp : BitVec 64
  dop : BitVec 32
  cn0 : BitVec 8
  prstd : BitVec 8
  fcn : BitVec 8
  halfcyc : Bool
  mp : Bool
  deriving DecidableEq, Repr

/-- What the baseband computes from ANT0 at an epoch (R318, R323): time of week, week, whether time is valid, CLKOFF,
drift, and, where the satellites allow, a standalone solution. -/
structure GTime where
  tow : BitVec 32
  week : BitVec 16
  tvalid : Bool
  clkoff : BitVec 64
  drift : BitVec 32
  deriving DecidableEq, Repr

/-- A standalone solution (Table 13-3, SOL): 10^-9 degree, mm, mm/s; whether SBAS corrections were applied. -/
structure GSol where
  lat : BitVec 64
  lon : BitVec 64
  h : BitVec 32
  ve : BitVec 32
  vn : BitVec 32
  vu : BitVec 32
  herr : BitVec 32
  verr : BitVec 32
  nsv : BitVec 8
  sbas : Bool
  deriving DecidableEq, Repr

/-- A baseline of the heading solver (Table 13-3, HDG): µrad, mm; whether the ambiguities are resolved. -/
structure GHdg where
  az : BitVec 32
  el : BitVec 32
  len : BitVec 32
  sigma : BitVec 32
  resolved : Bool
  deriving DecidableEq, Repr


/-- What a camera port has received of a frame when it ends (Table 17-5): its lines, whether a line was shorter or longer
than W. -/
structure FrameCut where
  lines : BitVec 16
  shortLine : Bool
  longLine : Bool
  deriving DecidableEq, Repr

/-- A linear RGB pixel of 12 bits per channel (R399, R401). -/
abbrev Rgb12 := BitVec 12 × BitVec 12 × BitVec 12


/-- A step of a controller's transmission (R423): a start of frame, or how the frame on the bus ended: sent, with its
timestamp point; lost to arbitration; an error, with its code. -/
inductive CanTx where
  | start
  | sent (ts : Word)
  | lost
  | error (lec : Fin 8)
  deriving DecidableEq, Repr

/-- What the partner of a pair tells at link up (R451): ordering code, wiring map (banks, HS channels, DIO points), pair
state, TERM. -/
structure TdmPeer where
  code : OrderCode
  sol : BitVec 16
  hs : BitVec 96
  dio : BitVec 64
  pstate : Fin 7
  term : BitVec 16
  deriving DecidableEq, Repr

/-- An edge the partner sends for a SPLIT channel (Table 20-2): class, channel, level, command, te in pair time. -/
structure TdmEdge where
  cls : Fin 3
  ch : Fin 96
  level : Bool
  cmd : Option (BitVec 16)
  te : BitVec 64
  deriving DecidableEq, Repr

/-- An item of a frame from the partner (Table 20-3, Table 20-2): entries of table 0, or of table 6, from one index on, at
the partner's address of the first; a
descriptor of queue 0x01 to 0x04 with its data; a slot of a shadow page as a write leaves it; a write of a mirrored register; loop
state; an APPLIED cell with its value; YLD cells; a record sent (its endpoint, where it goes, what it says); TSEQ; an
endpoint's odometer (2^-16 count); HEARTBEAT; increments of axes (2^-16 count) up to an instant, whether LOST or of another
kind than here; an L3 solution; a toggle of TDM_HBI; the mirror backed up beyond 64 MiB. -/
inductive MirrorItem where
  | table (brd : Bool) (first : Fin 4096) (addr : BitVec 40) (data : List Byte)
  | desc (q : Fin 4) (op : BitVec 8) (len : Word) (addr : BitVec 40) (arg0 arg1 arg2 arg3 : Word) (data : List Byte)
  | slot (c : Fin 256) (n : Fin 64) (w0 w1 w2 w3 : Word)
  | write (addr : BitVec 32) (value : Word)
  | loop (n : Fin 64) (u i : Word) (zone : Fin 8) (state : Fin 7)
  | mark (l : Fin 8) (idx : BitVec 24) (cell : BitVec 16) (value : Fin 3)
  | yld (sref : Word) (cells : List (BitVec 24 × BitVec 16))
  | issue (e : Fin 4096) (bus : Fin 14) (node : BitVec 8) (seq : BitVec 16) (rev : BitVec 8) (level cancel imm : Bool)
      (rate : BitVec 16) (act : BitVec 64)
  | tseq (v : BitVec 16)
  | odo (e : Fin 4096) (v : BitVec 64)
  | heartbeat (pstate : Fin 7) (term : BitVec 16) (ready : Bool)
  | axes (inst : BitVec 64) (l : List (Fin 8 × BitVec 64 × Bool × Bool))
  | line
  | solution (inst : BitVec 64) (e n hdg v : BitVec 32) (state : Fin 4)
  | overflow
  deriving DecidableEq, Repr

/-- A CTRL frame (R449, R451, R455, R456, R209): the identity; the join is complete; a conflict, with the sender's TERM; a
handover begins; the effective safe state of a SPLIT channel, from a PARTNER endpoint or no longer. -/
inductive TdmCtrl where
  | identity (peer : TdmPeer)
  | joined
  | conflict (term : BitVec 16)
  | handover
  | safe (cls : Fin 3) (ch : Fin 96) (ep on : Bool) (cmd : BitVec 16)
  deriving DecidableEq, Repr

/-- The commands the module takes: one constructor per row of spec/opcode_table.json. -/
inductive Instr where
  /-- REGISTER_WRITE (R11). A write to a register field that has no behaviour of its own takes the value under the access codes, locks and reserved-field rules. -/
  | registerWrite (acc : Acc) (a : BitVec 38) (value : Word) (fails : BootFails)
  /-- COUNTER_READ_CLEAR (R11). A read of an RC counter register returns its value and clears it. -/
  | counterReadClear (acc : Acc) (a : BitVec 38)
  /-- UNIT_LOCK (R11). A write of 1 to a unit's LOCK bit makes its RWL fields read-only until the next clearing reset. -/
  | unitLock (acc : Acc) (u : Fin 57)
  /-- ABSENT_UNIT_ACCESS (R5). An access to the window of an absent unit reads zero, drops a write and records or folds an ABSENT_UNIT_ACCESS event. -/
  | absentUnitAccess (kind : AccKind) (addr : BitVec 40)
  /-- ACCESS_FAULT (R57). An access denied by a target's access table returns zero or is dropped, is captured and recorded, and raises the target's access-fault interrupt. -/
  | accessFault (acc : Acc) (target : Fin 18) (kind : AccKind) (addr : BitVec 40)
  /-- UNMAPPED_ACCESS (R543). An access to an address outside every target range is denied and recorded as ACCESS_FAULT with target 0xFF. -/
  | unmappedAccess (acc : Acc) (kind : AccKind) (addr : BitVec 40)
  /-- ACC_LOCK (R58). A write of 1 to ACC_Tt_CTL.LOCK makes that target's entries and OWNER read-only until the next MOD or stronger reset. -/
  | accLock (acc : Acc) (target : Fin 18)
  /-- RING_CONFIGURE (R38). A write of RNG_CFGn other than a stop binds and enables a ring, or is refused with CFG_BUSY, CFG_ERR or BIND_CONFLICT. -/
  | ringConfigure (acc : Acc) (n : Fin 64) (value : Word)
  /-- RING_STOP (R38). A write of SIZE 0 to RNG_CFGn stops the ring, lets started descriptors finish and completes the rest ABORTED. -/
  | ringStop (acc : Acc) (n : Fin 64) (value : Word)
  /-- RING_DOORBELL (R35). A write of a new producer index to a work ring's RNG_DBn makes entries available or is ignored with DB_ERR. -/
  | ringDoorbell (acc : Acc) (n : Fin 64) (idx : Word)
  /-- COMPLETION_DOORBELL (R35). A write of a new consumer index to a completion ring's RNG_DBn frees space or is ignored with DB_ERR. -/
  | completionDoorbell (acc : Acc) (n : Fin 64) (idx : Word)
  /-- DESCRIPTOR_FETCH_DENIED (R544). A denied descriptor fetch completes ACCESS, stops the ring and sets FETCH_ERR. -/
  | descriptorFetchDenied (n : Fin 64)
  /-- NOP (R33). Opcode 0x00 on any queue completes OK with no action. -/
  | nop (n : Fin 64)
  /-- COMPLETION_WRITE (R37). The module writes a completion entry, or a held completion once the completion ring has room or is enabled again. -/
  | completionWrite (n : Fin 64)
  /-- COALESCE_TIMEOUT (R42). RNG_COALn.TIME µs after the first uncounted IRQ completion the ring raises its completion interrupt. -/
  | coalesceTimeout (n : Fin 64)
  /-- TABLE_DOORBELL (R46). A write to RNG_TDB queues a reload of a range of channel-table entries, or is dropped with TDB_BUSY or RANGE. -/
  | tableDoorbell (acc : Acc) (value : Word)
  /-- ENTRY_RELOAD (R46). The module reads a queued channel-table entry, checks its generations and accepts it or keeps its accepted copy. -/
  | entryReload
  /-- REIN_ARBITRATE (R50). At a burst boundary the Rein arbiter grants the highest-ranked waiting request, round-robin among equal ranks. -/
  | reinArbitrate (t : Fin 17) (cycles : BitVec 16) (arrivals : List (Fin 48 × Fin 65 × BitVec 16))
  /-- REIN_LOCK_TIMEOUT (R52). A lock holder that presents no burst within 1,024 cycles loses the lock, sets LOCK_TIMEOUT and is recorded. -/
  | reinLockTimeout (t : Fin 17) (idle : BitVec 16)
  /-- REIN_STARVATION (R53). A wait counter that exceeds LIMIT sets the master's starvation bit and raises the target's starvation interrupt. -/
  | reinStarvation (t : Fin 17) (span : BitVec 16 × List (Fin 48 × Fin 65 × BitVec 16))
  /-- REIN_RANK_WRITE (R54). A write to REIN_RANKm takes effect per the master's state at each target, deferring inside a lock. -/
  | reinRankWrite (acc : Acc) (m : Fin 39) (value : Word)
  /-- STRIDE_TICK (R74). Every 50 µs all enabled axes update their rate and state and any source switch takes effect. -/
  | strideTick
  /-- AXIS_ENABLE (R82). A write of EN 1 to STR_AXCFGa loads the preset and enters RUN or LOST, or is refused with CFG_ERR. -/
  | axisEnable (acc : Acc) (a : Fin 8) (value : Word)
  /-- AXIS_DISABLE (R82). A write of EN 0 to STR_AXCFGa freezes position and rate and enters DISABLED. -/
  | axisDisable (acc : Acc) (a : Fin 8) (value : Word)
  /-- AXIS_CFG_WRITE (R90). A write to an axis's configuration, fallback or scale registers while it runs applies per its field or is ignored with CFG_ERR. -/
  | axisCfgWrite (acc : Acc) (a : Fin 8) (k : Fin 12) (value : Word)
  /-- PULSE_EDGE (R273). An accepted pulse-input edge or quadrature change is counted, timestamped and passed to Stride. -/
  | pulseEdge (n : Fin 24) (level : Bool) (both : Bool) (ts : Word)
  /-- ZERO_CROSSING (R277). A positive-going zero crossing on an enabled ZX input is stamped and passed to Stride. -/
  | zeroCrossing (z : Fin 2) (ts : Word)
  /-- STANDSTILL_ENTRY (R79). An axis whose measured rate stays below RATE for DWELL ms enters standstill. -/
  | standstillEntry (a : Fin 8)
  /-- SOURCE_TIMEOUT (R80). A source slot with no counted edge for TIMEOUT ms, or another loss condition, becomes unhealthy. -/
  | sourceTimeout (a : Fin 8) (j : Fin 3)
  /-- SOURCE_RESTORE (R80). A slot whose reinstatement conditions have held for RESTORE ms becomes healthy again. -/
  | sourceRestore (a : Fin 8) (j : Fin 3)
  /-- AXIS_XCHK (R81). An active source out of cross-check tolerance for XDWELL ms fails, sets XCHK_FAIL and is recorded. -/
  | axisXchk (a : Fin 8)
  /-- AXIS_LOST (R84). An axis whose COAST time elapses, or that has no healthy slot and no coast, enters LOST and is recorded. -/
  | axisLost (a : Fin 8)
  /-- TRIGGER_ARM (R87). A write of STR_TRGCFGn with EN 1 arms or re-arms a trigger and judges LATE. -/
  | triggerArm (acc : Acc) (n : Fin 32) (value : Word)
  /-- TRIGGER_FIRE (R87). An armed trigger whose axis crosses its target fires its action, clears EN and captures the crossing time. -/
  | triggerFire (n : Fin 32)
  /-- STRIDE_SNAPSHOT (R88). A write of STR_SNAP_DB.GO captures position, fraction and rate of all axes and the MTB in one µs. -/
  | strideSnapshot (acc : Acc)
  /-- AXIS_POS_READ (R93). A read of STR_AXPOS_LOa latches the other position and rate registers of that axis. -/
  | axisPosRead (acc : Acc) (a : Fin 8)
  /-- ENDPOINT_TICK (R101). Every 250 µs the module advances odometers, look-aheads, rate commands and service states of processed endpoints. -/
  | endpointTick (work : List (Fin 4096) × List (Fin 128))
  /-- REJOIN_CWAIT_EXPIRY (R109). An endpoint that has its consistent ticks but meets no commit point within CWAIT ms goes IN at the next tick. -/
  | rejoinCwaitExpiry (e : Fin 4096)
  /-- EP_OUT (R116). The EPT command sends a range of endpoints OUT with cause COMMAND at the next tick. -/
  | epOut (n : Fin 64)
  /-- EP_RETURN (R116). The EPT command sends OUT endpoints with valid entries to REJOIN at the next tick. -/
  | epReturn (n : Fin 64)
  /-- STATE_COPY (R116). The EPT command copies the state records of one tick to memory. -/
  | stateCopy (n : Fin 64)
  /-- EPT_COUNT_WRITE (R114). A write of EPT_COUNT.N takes endpoints out of or into processing at the next tick. -/
  | eptCountWrite (acc : Acc) (value : Word)
  /-- EPT_ENABLE (R117). A write of EPT_CTL.EN starts endpoint tick processing, ending cause RESET for endpoints below N. -/
  | eptEnable (acc : Acc) (value : Word)
  /-- EDGE_EMIT (R128). An armed edge fires at its emission instant and reaches its channel. -/
  | edgeEmit
  /-- SLOT_PAGE_WRITE (R132). A write to a slot page is taken on a writable shadow or refused with LOCKED_WR as an access fault. -/
  | slotPageWrite (acc : Acc) (c : Fin 256) (p : Fin 2) (n : Fin 64) (k : Fin 4) (value : Word)
  /-- COMMIT (R133). The SLT command makes the shadow pages of the named clusters pending on a commit point. -/
  | sltCommit (n : Fin 64)
  /-- CANCEL (R133). The SLT command drops pending commits of the named clusters and unlocks their shadows. -/
  | sltCancel (n : Fin 64)
  /-- PAGE_COPY (R133). The SLT command copies each named active page to its shadow. -/
  | pageCopy (n : Fin 64)
  /-- COMMIT_SWAP (R136). At a commit point's crossing the cluster carries pending edges, emits overflow off-edges and activates the new page. -/
  | commitSwap
  /-- RECORD_REPEAT (R140). An issued record is sent again 1 ms after its previous transmission, up to REPEAT times. -/
  | recordRepeat
  /-- TSYNC (R143). Every PERIOD ms the module sends a TSYNC frame on each enabled bus. -/
  | tsync
  /-- TFOLLOW (R143). Within 1 ms of each TSYNC the module sends a TFOLLOW carrying the TSYNC's timestamp. -/
  | tfollow (b : Fin 14) (mtb : BitVec 64)
  /-- NSTATUS (R144). An NSTATUS frame from a node updates its health and status. -/
  | nstatus (b : Fin 14) (n : BitVec 8) (tseq : BitVec 16) (seq : BitVec 16) (timeOk : Bool) (fault : Bool)
  /-- NODE_TIMEOUT (R144). A node with no good NSTATUS within NTO ms becomes unhealthy, sets NODE_LOST and its endpoints go OUT. -/
  | nodeTimeout (b : Fin 14) (n : BitVec 8)
  /-- SENSE_DATA (R131). A SENSE_DATA frame from a node stores its values in the SENSE endpoints' records. -/
  | senseData (b : Fin 14) (n : BitVec 8) (vals : List (BitVec 12 × Word))
  /-- TILE_FETCH (R159). A tile that a footprint comes near is fetched into the tile cache, replacing a frame if needed. -/
  | tileFetch (l : Fin 8) (idx : BitVec 24) (ecc : Bool)
  /-- TILE_WRITEBACK (R159). Every COV_WB ms, or on eviction, a dirty APPLIED frame is written back to DRAM. -/
  | tileWriteback (ecc : List (Fin 128))
  /-- COV_MISS_TIMEOUT (R171). An endpoint whose cache misses last MISSTO ms gets an OFF decision edge and its frontier cleared. -/
  | covMissTimeout (e : Fin 4096)
  /-- COV_POOL_TAIL_WRITE (R158). A write of COV_POOLTAIL adds frames to the pool ring. -/
  | covPoolTailWrite (acc : Acc) (value : Word)
  /-- FIELD_LOAD (R174). The COV command loads a field descriptor at an endpoint tick, writing back the old field first. -/
  | fieldLoad (n : Fin 64)
  /-- FIELD_UNLOAD (R174). The COV command writes back dirty tiles, drops the cache and unloads the field. -/
  | fieldUnload (n : Fin 64) (ecc : List (Fin 128))
  /-- COV_FLUSH (R174). The COV command FLUSH writes back every dirty tile. -/
  | covFlush (n : Fin 64) (ecc : List (Fin 128))
  /-- TILE_INVAL (R174). The COV command drops cached copies of a range of tiles of a non-APPLIED layer. -/
  | tileInval (n : Fin 64)
  /-- LOOP_SAMPLE (R185). A loop due on its time or axis instant computes its output and sends it to its destination. -/
  | loopSample (n : Fin 64)
  /-- GROUP_SAMPLE (R194). A min-select group samples its members and sends the lowest output to its destination. -/
  | groupSample (g : Fin 16)
  /-- COEF_APPLY (R191). A write to BRD_APPLY marks loops whose coefficient shadows become active at their next sample. -/
  | coefApply (acc : Acc) (hi : Bool) (value : Word)
  /-- OSC_RELEASE (R196). Writing 1 to a loop's OSC flag releases it at its next sample by a transfer. -/
  | oscRelease (acc : Acc) (n : Fin 64)
  /-- SW_VALUE_WRITE (R180). A write to BRD_SWVALs sets a software source value and restarts its timeout. -/
  | swValueWrite (acc : Acc) (k : Fin 16) (value : Word)
  /-- SW_VALUE_TIMEOUT (R180). A software value not written within BRD_SWTO ms becomes invalid. -/
  | swValueTimeout (k : Fin 16)
  /-- LOOP_MANUAL (R198). The BRD command sets named loops to MANUAL with a commanded output. -/
  | loopManual (n : Fin 64)
  /-- LOOP_AUTO (R198). The BRD command returns named loops from MANUAL by a transfer. -/
  | loopAuto (n : Fin 64)
  /-- INT_SET (R198). The BRD command sets the integrators of named loops. -/
  | intSet (n : Fin 64)
  /-- SOL_CMD_WRITE (R210). A write to SOL_CMDj sets a free channel's level and command or is ignored with HELD_WR. -/
  | solCmdWrite (acc : Acc) (n : Fin 64) (value : Word)
  /-- SOL_ENABLE (R210). A write of SOL_CTL.EN switches all channels of the die off, or on at their sources' levels. -/
  | solEnable (acc : Acc) (d : Fin 2) (value : Word)
  /-- TOKEN_GRANT (R217). A free bank token is granted to the earliest waiting request that can start. -/
  | tokenGrant (k : Fin 16) (v : BitVec 16)
  /-- PEAK_SKIP (R217). A request still in WAIT after DEFER µs enters HOLD directly and counts a skipped peak. -/
  | peakSkip (n : Fin 64)
  /-- BOOST_END (R212). A channel in BOOST whose current reaches I_PEAK goes to PEAK or PKDEC. -/
  | boostEnd (n : Fin 64)
  /-- BOOST_TO (R212). A BOOST phase lasting T_BMAX goes to PEAK and sets BOOST_TO. -/
  | boostTo (n : Fin 64)
  /-- PEAK_END (R212). A channel whose T_PEAK elapses goes to PKDEC. -/
  | peakEnd (n : Fin 64)
  /-- HOLD_ENTRY (R212). A channel in PKDEC whose current falls to the hold command enters HOLD and releases the token. -/
  | holdEntry (n : Fin 64)
  /-- DECAY_END (R212). A decaying channel whose current reaches zero enters OFF. -/
  | decayEnd (n : Fin 64)
  /-- BAND_EVAL (R216). Every 10 ms each channel updates its tracked temperature band. -/
  | bandEval (d : Fin 2) (temps : List (Fin 8 × BitVec 16)) (currents : List (Fin 32 × BitVec 16)) (volts : List (Fin 2 × BitVec 16))
  /-- SOL_FAULT (R220). A latching channel fault takes the channel to FAULT, releases the token and is recorded. -/
  | solFault (n : Fin 64) (cause : Fin 3) (us : BitVec 32)
  /-- SOL_BANK_FAULT (R220). A bank high-side overcurrent opens the switch, faults all four channels and is recorded once. -/
  | solBankFault (k : Fin 16)
  /-- SOL_REG_ERR (R220). A HOLD error above REG_TOL for REG_T ms sets REG_ERR. -/
  | solRegErr (n : Fin 64) (err : BitVec 16) (ms : BitVec 16)
  /-- SOL_FAULT_RELEASE (R221). Writing 1 to the flag named by FCAUSE releases a channel from FAULT to OFF. -/
  | solFaultRelease (acc : Acc) (n : Fin 64)
  /-- BOOST_ENABLE (R204). A write of SOL_BSTCFGb enables a converter, which ramps to SETPT, or is refused with CONFIG. -/
  | boostEnable (acc : Acc) (b : Fin 4) (value : Word)
  /-- BOOST_UV (R204). A converter below 80 % of SETPT for 10 ms sets UV. -/
  | boostUv (b : Fin 4) (v : BitVec 16) (ms : BitVec 16)
  /-- SOL_BOOST_FAULT (R204). A converter reaching the OV threshold stops switching, sets OV and is recorded. -/
  | solBoostFault (b : Fin 4) (v : BitVec 16)
  /-- LSW_CMD_WRITE (R231). A write to LSW_CMDj sets a free channel's level and duty or is ignored with HELD_WR. -/
  | lswCmdWrite (acc : Acc) (n : Fin 96) (value : Word)
  /-- INRUSH_END (R234). At the end of T_INR the channel goes ON or latches OVERLOAD if still limiting. -/
  | inrushEnd (n : Fin 96) (limiting : Bool)
  /-- LSW_FAULT (R236). A SHORT, OVERLOAD or OT latch takes the channel to RETRY or FAULT and is recorded. -/
  | lswFault (n : Fin 96) (cause : Fin 3) (us : BitVec 32)
  /-- LSW_RETRY (R236). RSPACE ms after a latch a channel still at level ON restarts with a fresh window. -/
  | lswRetry (n : Fin 96)
  /-- RETRY_COUNT_CLEAR (R236). After 1,000 ms without a latch a channel's RETRIES returns to 0. -/
  | retryCountClear (n : Fin 96)
  /-- LSW_FAULT_RELEASE (R236). Writing 1 to the FCAUSE flag releases a channel from FAULT to OFF and clears RETRIES. -/
  | lswFaultRelease (acc : Acc) (n : Fin 96)
  /-- LSW_OPEN_LOAD (R237). An open-load test condition lasting 10 ms sets OPEN. -/
  | lswOpenLoad (n : Fin 96) (ms : BitVec 16)
  /-- CLUSTER_THERM_SAMPLE (R240). Every 250 µs a cluster sensor sample applies stage 1, stage 2 or the end of the thermal rule. -/
  | clusterThermSample (c : Fin 12) (temp : BitVec 16) (currents : List (Fin 8 × BitVec 16)) (volts : List (Fin 4 × BitVec 16))
  /-- LSW_GRP_OVL (R241). A group or die overload begins, sheds one channel and is recorded once. -/
  | lswGrpOvl (d : Fin 2) (t : Fin 5) (inst : BitVec 16) (mean : BitVec 16) (us : BitVec 16)
  /-- SHED_STEP (R241). Each 1 ms while the overload current persists one further channel is shed. -/
  | shedStep (d : Fin 2) (t : Fin 5) (inst : BitVec 16)
  /-- SHED_RESTORE (R244). With AUTO set, after RST_T ms at low current the most recently shed channel returns. -/
  | shedRestore (d : Fin 2) (g : Fin 4) (inst : BitVec 16) (ms : BitVec 16)
  /-- SHED_RETURN_WRITE (R244). Writing 1 to a channel's SHED flag returns it at once. -/
  | shedReturnWrite (acc : Acc) (ch : Fin 160)
  /-- LSW_SUPPLY (R245). A loss of ground, reverse battery or undervoltage at a die acts on its outputs and is recorded. -/
  | lswSupply (d : Fin 2) (kind : Fin 3) (begin_ : Bool) (ms : BitVec 16)
  /-- DEBOUNCED_EDGE (R252). A DIO input level held for DEBOUNCE µs changes the debounced level, is stamped and may flag EDGE. -/
  | debouncedEdge (n : Fin 64) (level : Bool) (us : BitVec 32)
  /-- DIO_CMD_WRITE (R253). A write to DIO_CMDj sets a free output's level or is ignored with HELD_WR. -/
  | dioCmdWrite (acc : Acc) (n : Fin 64) (on : Bool)
  /-- DIO_FAULT (R255). An OVERLOAD for 5 ms or OT latches the output in FAULT and is recorded. -/
  | dioFault (n : Fin 64) (ot : Bool) (us : BitVec 32)
  /-- DIO_DIAG_FLAG (R255). An OPEN or EXTV condition lasting 10 ms sets its flag. -/
  | dioDiagFlag (n : Fin 64) (extv : Bool) (ms : BitVec 16)
  /-- DIO_FAULT_RELEASE (R255). Writing 1 to the FCAUSE flag releases a DIO output to OFF. -/
  | dioFaultRelease (acc : Acc) (n : Fin 64)
  /-- DIO_SUPPLY (R255). A cluster field supply fault for 1 ms switches the cluster off and is recorded. -/
  | dioSupply (c : Fin 8) (ma : BitVec 13) (ms : BitVec 16)
  /-- DIO_SUPPLY_RELEASE (R255). Writing 1 to DIO_CLSTATc.SUPPLY restores the cluster outputs to their sources' levels. -/
  | dioSupplyRelease (acc : Acc) (c : Fin 8)
  /-- DIO_HOLD (R256). HOLD_LIM ms after HOLD entry a point with HLEN goes to its safe state and is recorded. -/
  | dioHold (n : Fin 64)
  /-- HOLD_RELEASE (R257). A write of DIO_CTL.HREL with the heartbeat present ends HOLD for every point of the die. -/
  | holdRelease (acc : Acc) (d : Fin 2) (value : Word)
  /-- AFE_RESULT (R264). A conversion completes and its stamped result with status is published. -/
  | afeResult (j : Fin 48) (x : BitVec 40) (vexc : BitVec 24) (err : BitVec 7)
  /-- AFE_OPEN (R268). An input's comparator trips, marking results SUSPECT then OPEN and recording the trip. -/
  | afeOpen (at_ : Fin 48 × BitVec 40 × BitVec 40 × BitVec 24)
  /-- COMPARATOR_CLEAR (R268). A tripped comparator clears and the input makes a settling restart. -/
  | comparatorClear (at_ : Fin 48 × BitVec 40 × BitVec 40 × BitVec 24)
  /-- AFE_EXC_FAULT (R266). An excitation source overloaded for 1 ms switches off, sets EXCF and is recorded. -/
  | afeExcFault (n : Fin 12) (us : BitVec 32)
  /-- EXC_RESTORE (R266). Writing 1 to EXCF turns the source back on with a settling restart. -/
  | excRestore (acc : Acc) (n : Fin 12)
  /-- EXC_CONFIG_WRITE (R267). A write to AFE_EXCCFGn changing EN or VSEL restarts settling of the cluster. -/
  | excConfigWrite (acc : Acc) (n : Fin 12) (value : Word)
  /-- FIR_WRITE (R267). A write to a FIR set restarts settling of every input that uses it. -/
  | firWrite (acc : Acc) (f : Fin 3) (tap : Option (Fin 32)) (value : Word)
  /-- AFE_ENABLE (R267). A write of AFE_CTL.EN 1 starts conversions with a settling restart of every input. -/
  | afeEnable (acc : Acc) (value : Word)
  /-- AFE_RESULT_READ (R281). A read of AFE_RESi latches AFE_TSi. -/
  | afeResultRead (acc : Acc) (j : Fin 48)
  /-- PULSE_RATE_UPDATE (R273). Every 1 ms each pulse input updates its rate. -/
  | pulseRateUpdate
  /-- IMPACT (R276). An impact on an IMPACT input is measured and counted in PLS_CNTn or PLS_AUXn. -/
  | plsImpact (n : Fin 24) (peak : BitVec 10) (ts : Word)
  /-- PLS_OPEN (R275). A pin held within 2.0 V to 3.0 V for OPENT ms reports OPEN and is recorded. -/
  | plsOpen (n : Fin 24) (ms : BitVec 16)
  /-- PLS_OPEN_CLEAR (R275). An OPEN report clears at the first edge, after OPENT ms outside the window, or when the test stops. -/
  | plsOpenClear (n : Fin 24) (ms : BitVec 16)
  /-- ZX_OK_CLEAR (R277). A zero-cross input whose OK clears sets ZXF. -/
  | zxOkClear (z : Fin 2)
  /-- IMU_SAMPLE (R278). The inertial unit delivers a stamped sample to Weave and its registers. -/
  | imuSample (ax : BitVec 16) (ay : BitVec 16) (az : BitVec 16) (gx : BitVec 16) (gy : BitVec 16) (gz : BitVec 16) (temp : BitVec 16) (ts : Word)
  /-- IMU_SELF_TEST (R278). A write of 1 to IMU_CTL.ST starts a 50 ms self-test. -/
  | imuSelfTest (acc : Acc)
  /-- SELF_TEST_END (R278). The self-test ends with ST_PASS or ST_FAIL. -/
  | selfTestEnd (pass : Bool)
  /-- IMU_SAMPLE_READ (R283). A read of IMU_AXY latches the other sample registers. -/
  | imuSampleRead (acc : Acc)
  /-- SAMPLES (R287). The WVE command takes packed sample records and aligns them. -/
  | wveSamples (n : Fin 64)
  /-- TRACK_COAST_EXPIRY (R307). A COASTING track without association for WVE_TRKCOAST.T ms is deleted. -/
  | trackCoastExpiry (x : Fin 256)
  /-- SRC_LOAD (R286). The WVE command loads source entries, restarting sources whose kind or binding changed. -/
  | srcLoad (n : Fin 64)
  /-- GEOM_LOAD (R304). The WVE command replaces the geometry block at the next epoch. -/
  | geomLoad (n : Fin 64)
  /-- FIELD_SET (R309). The WVE command sets a new field frame from the next epoch. -/
  | fieldSet (n : Fin 64)
  /-- WVE_EPOCH (R294). At each inertial sample instant Weave votes, fuses and issues the motion solution. -/
  | wveEpoch
  /-- WVE_SRC_STATE (R302). A source whose samples stop or slow changes availability state and is recorded. -/
  | wveSrcState (slot : Fin 32)
  /-- OUTPUT_FLUSH_TIMEOUT (R311). FLUSH ms after its first record an output descriptor completes. -/
  | outputFlushTimeout (n : Fin 64)
  /-- GNSS_EPOCH (R318). At each epoch the baseband produces measurements, solution, heading and CLKOFF. -/
  | gnssEpoch (obs : List GObs) (time : GTime) (sol : Option GSol) (hdg : Option GHdg)
  /-- RESTART_COLD (R319). A write of RESTART 1 discards all held data and tracking and re-queues searches. -/
  | restartCold (acc : Acc)
  /-- RESTART_WARM (R319). A write of RESTART 2 discards ephemerides and re-queues searches. -/
  | restartWarm (acc : Acc)
  /-- RESTART_HOT (R319). A write of RESTART 3 re-queues searches only. -/
  | restartHot (acc : Acc)
  /-- ACQUISITION_FOUND (R319). An acquisition job finds a signal and hands it to a tracking channel. -/
  | acquisitionFound (ant : Fin 2) (sig : Fin 15) (svid : BitVec 8)
  /-- NAV_RECORD (R322). A received navigation message frame is written as a NAV record. -/
  | navRecord (sig : Fin 15) (svid : BitVec 8) (words : List Word)
  /-- INJECTION (R325). A write of GNS_INJ_CTL.GO takes an injected solution set or rejects it. -/
  | gnsInjection (acc : Acc) (value : Word)
  /-- GNS_INJ_STALE (R325). No accepted injection for TO ms falls back to the standalone solution and is recorded. -/
  | gnsInjStale
  /-- NOTCH_MOVE (R327). A notch filter change, written or automatic, takes effect and flags NOTCHCHG. -/
  | notchMove (a : Fin 2) (b : Fin 3) (f : Fin 4) (tone : BitVec 16)
  /-- GNS_JAM (R328). A jamming indicator at or above JTH for 1 s sets JAM and is recorded. -/
  | gnsJam (a : Fin 2) (b : Fin 3) (power : BitVec 16) (agc : BitVec 8)
  /-- GNS_ANT (R329). An antenna supply going OPEN or SHORT sets its flag and is recorded. -/
  | gnsAnt (a : Fin 2) (current : BitVec 12) (ms : BitVec 16)
  /-- ANT_RETRY (R329). Every 1,000 ms a shorted antenna supply is retried. -/
  | antRetry (a : Fin 2) (current : BitVec 12)
  /-- SERVO_MEASUREMENT (R342). A valid offset from the selected input updates the servo and its state. -/
  | servoMeasurement (src : Fin 4) (link : BitVec 64)
  /-- PTP_OFFSET (R341). A write of TIM_PTPINST takes a PTP offset set or drops it with PTP_REJ. -/
  | ptpOffset (acc : Acc) (inst : Word)
  /-- PTP_TIMEOUT (R340). No PTP offset accepted for PTPTO ms makes the PTP input invalid. -/
  | ptpTimeout
  /-- TIME_STEP (R343). At the next whole second reported time steps by the first offset, sets STEP and is recorded. -/
  | timeStep
  /-- HOLDOVER_EXPIRY (R342). An error above ERRLIM or HOLD_LIM s in HOLDOVER passes the servo to UNTRUSTED. -/
  | holdoverExpiry
  /-- TIME_SET (R344). A write of GO sets reported time out of FREE or is ignored with CONFIG. -/
  | timeSet (acc : Acc) (value : Word)
  /-- UTC_CHANGE (R338). When reported time reaches AT, NEXT is copied into OFF and AT is cleared. -/
  | utcChange
  /-- TIME_PULSE (R345). A time pulse edge is emitted when reported time reaches it. -/
  | timePulse (p : Fin 2)
  /-- TP_CONFIG_APPLY (R345). A pulse configuration write takes effect at the next whole second. -/
  | tpConfigApply (p : Fin 2)
  /-- MTB_READ (R339). A read of TIM_MTB_LO latches MTB, reported time and rate for the same ns. -/
  | mtbRead (acc : Acc)
  /-- LOSS_UPDATE (R352). Every 10 ms each loss channel forms its filtered, normalised loss rate. -/
  | lossUpdate
  /-- TRACE_APPEND (R359). Every 10 ms YLD appends a pose and cutting entry to the cut trace. -/
  | traceAppend
  /-- SAMPLE_PERIOD_END (R358). At each SPER multiple YLD closes the period's mass, moisture and loss sums. -/
  | samplePeriodEnd
  /-- YIELD_RECORD (R362). A period's record is formed, its cells attributed in the YIELD layer and placed on queue 0x07. -/
  | yieldRecord
  /-- YLD_ENABLE (R368). A write of YLD_CTL.EN 1 starts the delay line or is refused with CONFIG. -/
  | yldEnable (acc : Acc) (value : Word)
  /-- SREF_WRITE (R364). A write of YLD_SREF sets the next reference while EN is 0, else sets CONFIG. -/
  | srefWrite (acc : Acc) (value : Word)
  /-- IMG_LINK (R388). A camera link going up or down changes LINK_UP and is recorded. -/
  | imgLink (c : Fin 8) (up : Bool) (cut : FrameCut)
  /-- FRAME_START (R393). A frame start arrives, is stamped and may start a parameter group. -/
  | frameStart (c : Fin 8) (cut : FrameCut)
  /-- FRAME_END (R403). A frame ends, classed as whole, short or long, and its raw data is complete. -/
  | frameEnd (c : Fin 8) (cut : FrameCut)
  /-- CCI_TRANSACTION (R391). A write of IMG_CCICMDc.GO runs a CCI transaction after the ledger's writes. -/
  | cciTransaction (acc : Acc) (c : Fin 8) (value : Option Word) (ack : Bool) (data : BitVec 8)
  /-- PARAMETER_SET_SUBMIT (R392). A write of IMG_PSETGOc.GO takes a parameter set, superseding an unstarted one. -/
  | parameterSetSubmit (acc : Acc) (c : Fin 8) (value : Word)
  /-- CCI_GROUP_COMPLETE (R393). A parameter group's last write completes, fixing the frame from which it applies. -/
  | cciGroupComplete (c : Fin 8)
  /-- CONTEXT_DISPATCH (R397). The scheduler starts a raw frame, or a stripe, on a free pipeline. -/
  | contextDispatch (p : Fin 4)
  /-- RAW_FRAME_AGE_DROP (R397). A raw frame not started within MAXAGE ms of its FE is dropped. -/
  | rawFrameAgeDrop (c : Fin 8)
  /-- CONTEXT_APPLY (R398). A write of IMG_CTXAPPLYx.GO applies a context block at the context's next frame. -/
  | contextApply (acc : Acc) (x : Fin 16) (value : Word)
  /-- FRAME_PROCESSED (R400). A pipeline finishes a frame and writes its outputs into a buffer set or drops it. -/
  | frameProcessed (p : Fin 4) (raw : List (BitVec 12)) (px : List Rgb12) (wb : List Rgb12)
  /-- ENCODE_FRAME (R404). The encoder codes a frame of a stream into an access unit or skips it. -/
  | encodeFrame (k : Fin 4) (size : BitVec 24)
  /-- FORCE_IDR (R405). A write of IMG_ENCIDRs forces an IDR at the next coded frame. -/
  | forceIdr (acc : Acc) (k : Fin 4) (value : Word)
  /-- PANEL_POWER_UP (R410). A write of PWR 1 starts the panel power sequence or is refused with CONFIG. -/
  | panelPowerUp (acc : Acc) (p : Fin 2) (value : Word)
  /-- PANEL_POWER_DOWN (R414). A write of PWR 0 takes the panel through DOWN from the last step reached. -/
  | panelPowerDown (acc : Acc) (p : Fin 2) (value : Word)
  /-- PANEL_STEP (R413). A rail up or down, or a sequence delay expiring, advances the panel to its next power step. -/
  | panelStep (p : Fin 2) (rail : Bool)
  /-- LINK_TRAINED (R413). A successful link training moves the panel to BLACK. -/
  | linkTrained (p : Fin 2)
  /-- DSP_LINK (R414). A third failed training takes the panel DOWN with LINK_FAIL and is recorded. -/
  | dspLink (p : Fin 2)
  /-- DSP_RAIL (R413). A rail not up in 20 ms or sagging switches all off, enters FAULT and is recorded. -/
  | dspRail (p : Fin 2) (rail : Fin 4) (us : BitVec 16)
  /-- RAIL_FAULT_RELEASE (R413). Writing 1 to RAIL releases the panel from FAULT to OFF. -/
  | railFaultRelease (acc : Acc) (p : Fin 2) (value : Word)
  /-- HPD_LOSS (R414). HPD low for 2 ms in ON turns the backlight off and retrains the link. -/
  | hpdLoss (p : Fin 2)
  /-- PANEL_FRAME_START (R411). At frame start the panel takes the next frame descriptor or repeats, and latches band, VCOM and overdrive. -/
  | panelFrameStart (p : Fin 2)
  /-- UNDERRUN (R412). Pixels late for scan-out blank the rest of the frame and set UNDERRUN. -/
  | dspUnderrun (p : Fin 2) (pix : BitVec 22)
  /-- CAN_ENABLE (R422). A write of CAN_CTLn.EN 1 starts the controller or is refused with CONFIG. -/
  | canEnable (acc : Acc) (n : Fin 12) (value : Word)
  /-- TXB_SEND (R424). A write of GO to a transmit buffer makes it PENDING or sets TXB_BUSY. -/
  | txbSend (acc : Acc) (n : Fin 12) (b : Fin 3) (value : Word)
  /-- TXB_ABORT (R424). A write of ABORT withdraws a pending buffer or stops retries of one on the bus. -/
  | txbAbort (acc : Acc) (n : Fin 12) (b : Fin 3) (value : Word)
  /-- CAN_FRAME_TX (R423). Before each start of frame the controller chooses and transmits the next candidate frame. -/
  | canFrameTx (n : Fin 12) (e : CanTx)
  /-- CAN_SEND (R425). The CAN queue command sends a frame of LEN data bytes. -/
  | canSend (n : Fin 64)
  /-- SEND_DLC0 (R425). The CAN queue command sends a frame with DLC 0. -/
  | sendDlc0 (n : Fin 64)
  /-- CAN_FRAME_RX (R426). A received frame is filtered and delivered to the ring, a mailbox or the ISO 11783 assist. -/
  | canFrameRx (n : Fin 12) (idw : BitVec 31) (brs : Bool) (rtr : Bool) (esi : Bool) (dlc : Fin 16) (data : List Byte) (ts : Word) (err : Fin 8) (heavy : Bool) (fails : BootFails)
  /-- MAILBOX_LOCK (R428). A read of CAN_MBn_m_ID locks the mailbox. -/
  | mailboxLock (acc : Acc) (n : Fin 12) (m : Fin 16)
  /-- MAILBOX_RELEASE (R428). A read of CAN_MBn_m_TS or an UNLOCK write releases the mailbox and moves in its shadow. -/
  | mailboxRelease (acc : Acc) (n : Fin 12) (m : Fin 16) (value : Option Word)
  /-- CAN_BUSOFF (R430). A transmit error counter above 255 takes the controller to BUS_OFF, aborting transmissions. -/
  | canBusoff (n : Fin 12) (lec : Fin 8)
  /-- CAN_RECOVER (R430). A write of RECOVER in BUS_OFF moves the controller to RECOVERING. -/
  | canRecover (acc : Acc) (n : Fin 12) (value : Word)
  /-- CAN_LISTEN_ENTRY (R429). 128 × 11 recessive bits in RECOVERING move the controller to LISTEN. -/
  | canListenEntry (n : Fin 12)
  /-- CAN_REJOIN (R431). N good frames or LTO ms of idle end LISTEN and the controller becomes ACTIVE. -/
  | canRejoin (n : Fin 12)
  /-- ADDRESS_CLAIM (R434). At EN or rejoin the controller sends Address Claimed for PREF after a random delay. -/
  | addressClaim (n : Fin 4)
  /-- ADDRESS_CLAIMED (R434). 250 ms after a claim without contention the address is CLAIMED. -/
  | addressClaimed (n : Fin 4)
  /-- CAN_TP_ABORT (R435). A transport session timeout or error aborts the session and is recorded. -/
  | canTpAbort (n : Fin 4)
  /-- ETH_SEND (R438). The Ethernet queue command sends a frame out of a port. -/
  | ethSend (n : Fin 64) (ts : Word)
  /-- ETH_FRAME_RX (R437). A frame received on a port is forwarded by the switch and delivered to the host as selected. -/
  | ethFrameRx (p : Fin 11) (frame : List Byte) (ts : BitVec 64) (fails : BootFails)
  /-- ETH_LINK (R436). A port link change sets LINK_CHG and is recorded. -/
  | ethLink (p : Fin 11) (up : Bool) (speed : Fin 3)
  /-- ETH_PLCA (R440). A foreign beacon or collision on a T1S segment sets PLCA_ERR and is recorded. -/
  | ethPlca (k : Fin 2)
  /-- FDB_AGE_OUT (R437). A learned address unused for AGE s is removed. -/
  | fdbAgeOut
  /-- TDM_ENABLE (R446). A write of TDM_CTL.EN 1 starts the Tandem unit listening for a partner. -/
  | tdmEnable (acc : Acc) (value : Word)
  /-- SOLO_ENTRY (R446). No partner heard within 100 ms of EN puts the module in SOLO. -/
  | soloEntry
  /-- TDM_LINK (R448). The Ecrek link going up or down sets LINK_CHG and is recorded, with the identity exchange at link up. -/
  | tdmLink (up : Option (BitVec 4 × TdmPeer)) (fails : BootFails)
  /-- TDM_LANE (R448). A lane with excessive block errors is removed and recorded. -/
  | tdmLane (l : Fin 4) (errors : Word)
  /-- LINK_RETRAIN (R448). Every 100 ms a down link retrains while EN is 1. -/
  | linkRetrain (lanes : BitVec 4) (peer : TdmPeer) (fails : BootFails)
  /-- LINK_TIME_MEASURE (R450). Every 1 ms TIME frames measure the partner's MTB offset and rate. -/
  | linkTimeMeasure (ofs : BitVec 64) (rate : BitVec 32) (pofs : BitVec 64) (locked : Bool)
  /-- HEARTBEAT_SEND (R452). Every 1 ms the module sends a HEARTBEAT frame and toggles TDM_HBO. -/
  | heartbeatSend
  /-- HB_LOST (R452). Three periods without the partner's heartbeat set HB_LOST and act per pair state. -/
  | hbLost
  /-- TAKEOVER (R454). At the takeover point the module becomes ACTIVE, unmasks outputs and sends TSYNC. -/
  | tdmTakeover (pos : List (Fin 8 × BitVec 64))
  /-- TDM_CONFLICT (R455). Two active modules detected; the one with lower TERM is fenced. -/
  | tdmConflict (term : BitVec 16) (fails : BootFails)
  /-- HANDOVER (R456). A write of TDM_CTL.HANDOVER hands the role to a READY STANDBY at the next takeover point. -/
  | tdmHandover (acc : Acc) (value : Word)
  /-- JOIN (R465). A write of TDM_CTL.JOIN starts mirroring at the next stride tick. -/
  | tdmJoin (acc : Acc) (value : Word)
  /-- MIRROR_START (R458). At the stride tick mirroring begins, D_a is captured and the module becomes STANDBY. -/
  | mirrorStart (pos : List (Fin 8 × BitVec 64))
  /-- MIRROR_FRAME (R457). A MIRROR frame applies forwarded state on the STANDBY. -/
  | mirrorFrame (items : List MirrorItem)
  /-- READY_SET (R465). 2 s of clean mirroring sets READY. -/
  | readySet
  /-- SPLIT_EDGE (R463). An EDGE frame for a SPLIT channel is emitted at its pair-time te or on late arrival. -/
  | splitEdge (edge : Option TdmEdge)
  /-- TDM_SEND (R466). The Tandem queue command sends firmware data to the partner's memory. -/
  | tdmSend (n : Fin 64) (answer : Option Bool)
  /-- BEGIN (R474). The UPD command erases the inactive slot and writes a checked container header. -/
  | updBegin (n : Fin 64)
  /-- DATA (R474). The UPD command writes container bytes into flash. -/
  | updData (n : Fin 64)
  /-- UPD_COMMIT (R474). The UPD command COMMIT stages a fully written container. -/
  | updCommit (n : Fin 64)
  /-- ABORT (R474). The UPD command marks the inactive slot empty and returns the partition to IDLE. -/
  | updAbort (n : Fin 64)
  /-- ACTIVATE (R474). The UPD command restarts the A-die or power dies from a staged slot. -/
  | updActivate (n : Fin 64) (fails : BootFails)
  /-- CONFIRM (R479). The UPD command confirms a partition in TRIAL and raises its rollback counter. -/
  | updConfirm (n : Fin 64)
  /-- UPD_RESTART_APP (R482). A write of UPD_RESTART.APP makes an APP reset with cause UPD. -/
  | updRestartApp (acc : Acc) (fails : BootFails)
  /-- UPD_RESTART_RTX (R482). A write of UPD_RESTART.RTX makes an RTX reset with cause UPD. -/
  | updRestartRtx (acc : Acc) (fails : BootFails)
  /-- KEY_REVOKE (R485). A write to UPD_KEYREV revokes signing keys for good. -/
  | keyRevoke (acc : Acc) (keys : BitVec 4)
  /-- EVENT_INTAKE (R488). An event reaching the recorder is staged as a new record or folded into the open one, or lost. -/
  | eventIntake
  /-- RECORD_CLOSE (R488). An open record closes FLUSHT ms after its first occurrence. -/
  | recordClose
  /-- JOURNAL_WRITE (R490). A closed record is written from staging to the flash journal. -/
  | journalWrite
  /-- READ (R494). The EVR command copies journal bytes from an offset. -/
  | evrRead (n : Fin 64) (ecc : Option (BitVec 29))
  /-- READ_STAGE (R494). The EVR command copies staged records. -/
  | evrReadStage (n : Fin 64)
  /-- RECORD (R491). The EVR command records a firmware event. -/
  | evrRecord (n : Fin 64)
  /-- EVR_FLUSH (R494). The EVR command FLUSH closes the open record and completes when staging is written. -/
  | evrFlush (n : Fin 64)
  /-- ERASE (R492). The EVR command erases the journal and writes EVR_ERASED first. -/
  | evrErase (n : Fin 64)
  /-- FREEZE_START (R493). A write of FREEZE 1 stops journal writes. -/
  | freezeStart (acc : Acc)
  /-- FREEZE_END (R493). A write of FREEZE 0 ends the freeze and staging drains. -/
  | freezeEnd (acc : Acc)
  /-- FREEZE_TIMEOUT (R493). A freeze lasting FRZTO s ends by itself and sets UNFROZEN. -/
  | freezeTimeout
  /-- TRIM_ENTRY (R500). KL30 below the TRIM threshold for 1 ms enters TRIM. -/
  | trimEntry (kl30 : BitVec 16) (us : BitVec 16)
  /-- TRIM_EXIT (R500). KL30 above the exit threshold for 100 ms ends supply TRIM. -/
  | trimExit (kl30 : BitVec 16) (ms : BitVec 16)
  /-- LOW_SUPPLY (R499). KL30 below the low-supply threshold for 50 µs makes a MOD reset with sub-cause LOWSUP. -/
  | lowSupply (kl30 : BitVec 16) (us : BitVec 16)
  /-- POWER_DIE_CUTOFF (R245). A group supply below 5.0 V turns the power-die outputs off until it exceeds 6.0 V for 10 ms. -/
  | powerDieCutoff (begin_ : Bool) (kl30 : BitVec 16) (ms : BitVec 16)
  /-- IGN_CHANGE (R499). A debounced IGN rise or fall sets IGNON or IGNOFF. -/
  | ignChange (level : Bool) (mv : BitVec 16) (ms : BitVec 16)
  /-- REQ_RUN (R504). A power request for RUN ends a requested TRIM or leaves PARK. -/
  | reqRun (acc : Acc) (key : BitVec 16) (fails : BootFails)
  /-- REQ_TRIM (R504). A power request enters requested TRIM. -/
  | reqTrim (acc : Acc) (key : BitVec 16)
  /-- REQ_PARK (R505). A power request enters PARK, halting the APP cores and powering off IMG, DSP and APP. -/
  | reqPark (acc : Acc) (key : BitVec 16)
  /-- REQ_SLEEP (R505). A power request enters SLEEP with DRAM in self-refresh. -/
  | reqSleep (acc : Acc) (key : BitVec 16)
  /-- REQ_DORMANT (R505). A power request enters DORMANT with only AON powered. -/
  | reqDormant (acc : Acc) (key : BitVec 16)
  /-- WAKE (R506). An enabled wake source wakes the module from SLEEP, DORMANT or PARK and is recorded. -/
  | pwrWake (src : Option (Fin 3)) (ms : BitVec 16) (fails : BootFails)
  /-- DOMAIN_ENABLE_WRITE (R502). A write of PWRM_DOMEN powers IMG, DSP or NAV up or down. -/
  | domainEnableWrite (acc : Acc) (value : Word)
  /-- RST_CMD_MOD (R510). A keyed write of RST_CMD with KIND 4 makes a MOD reset. -/
  | rstCmdMod (acc : Acc) (key : BitVec 16)
  /-- RST_CMD_RTX (R510). A keyed write of RST_CMD with KIND 5 makes an RTX reset. -/
  | rstCmdRtx (acc : Acc) (key : BitVec 16) (fails : BootFails)
  /-- RST_CMD_APP (R510). A keyed write of RST_CMD with KIND 6 makes an APP reset. -/
  | rstCmdApp (acc : Acc) (key : BitVec 16) (fails : BootFails)
  /-- RESET_POR (R510). The AON supply rising from below 1.5 V resets everything and starts the MTB at 0. -/
  | resetPor
  /-- RESET_BOR (R510). Both supplies below the AON threshold for 10 ms make a BOR reset. -/
  | resetBor (kl30 : BitVec 16) (ign : BitVec 16) (ms : BitVec 16)
  /-- RESET_PIN (R510). RESET_N low for 10 µs makes a PIN reset. -/
  | resetPin (ns : BitVec 32)
  /-- RESET_WDT (R510). A watchdog or lockstep failure makes a WDT reset. -/
  | resetWdt
  /-- RESET_MOD (R510). A MOD reset stops the heartbeat and restarts the module through start-up. -/
  | resetMod (temp : BitVec 16) (ms : BitVec 16)
  /-- RESET_RTX (R510). An RTX reset returns RTX and CTL state to reset values and sends outputs to safe states within 2 ms. -/
  | resetRtx (upd : Bool) (fails : BootFails)
  /-- RESET_APP (R510). An APP reset restarts the application cores while engines and outputs keep running. -/
  | resetApp (cause : Fin 3) (fails : BootFails)
  /-- STARTUP_RELEASE (R517). After KL30 stays above the release threshold for 10 ms the reset is released and start-up steps run. -/
  | startupRelease (kl30 : BitVec 16) (ms : BitVec 16) (fails : BootFails)
  /-- HEARTBEAT_LOSS (R512). A die that misses the C-die heartbeat for 30 µs turns off or holds its outputs. -/
  | heartbeatLoss (d : Fin 2)
  /-- WD_ARM (R513). A write of EN 1 arms a watchdog with its timeout. -/
  | wdArm (acc : Acc) (w : Fin 2) (value : Word)
  /-- WD_KICK (R513). A write to RST_WDKICKw restarts the count or, with a wrong value, counts as expiry. -/
  | wdKick (acc : Acc) (w : Fin 2) (value : Word) (fails : BootFails)
  /-- WD_WARN (R513). WARN % of TO elapsing sets WDWARNw and is recorded. -/
  | wdWarn (w : Fin 2)
  /-- WD_EXPIRY (R513). A watchdog reaching its timeout makes the reset its configuration names. -/
  | wdExpiry (w : Fin 2) (fails : BootFails)
  /-- PMU_SNAPSHOT (R523). A write of PMU_SNAP_DB.GO latches all counters and the MTB and writes a record. -/
  | pmuSnapshot (acc : Acc) (value : Word)
  /-- PMU_OVERFLOW (R521). A counter wrapping at 2^48 sets its overflow bit and may interrupt or sample. -/
  | pmuOverflow (n : Fin 56) (inc : BitVec 48) (pc : BitVec 64) (btgt : BitVec 64) (run : BitVec 16)
  /-- PMU_BW_WINDOW (R526). At the end of each WIN µs the bandwidth counters are copied and restarted. -/
  | pmuBwWindow
  /-- PMU_COUNTER_READ (R528). A read of PMU_CNT_LOn latches PMU_CNT_HIn. -/
  | pmuCounterRead (acc : Acc) (n : Fin 56) (hi : Bool)
  /-- LSW_ENABLE (R232). A write of LSW_CTL.EN switches all load-switch channels of the die off, or on with member m's PWM period staggered m eighths behind member 0. -/
  | lswEnable (acc : Acc) (d : Fin 2) (value : Word)
  /-- SERVO_ENABLE (R342). A write of TIM_CTL.EN freezes RATE and ignores measurements when 0, and lets valid inputs steer the servo again when 1. -/
  | servoEnable (acc : Acc) (en : Bool)
  /-- INTEGRATION (R422). After EN, an enabled CAN controller that observes 11 recessive bits integrates on the bus and enters ACTIVE. -/
  | canIntegration (n : Fin 12)
  /-- PLCA_BEACON (R440). On each T1S segment with PLCA enabled the module sends the beacon and, in its transmit opportunity, up to 1 + BURST frames. -/
  | plcaBeacon (k : Fin 2) (ts : Word)
  /-- CTRL_FRAME (R449). A received Ecrek CTRL frame applies identity, join or conflict steps, or copies a PARTNER endpoint's effective safe state to a SPLIT channel within 1 ms. -/
  | ctrlFrame (c : TdmCtrl) (fails : BootFails)
  /-- BLOCK_FRAME (R466). A received Ecrek BLOCK frame is written into memory as master TDM under the receiver's access tables. -/
  | blockFrame (addr : BitVec 40) (data : List Byte)
  /-- LOST_LOCK (R319). A GNSS tracking channel loses lock on its signal, which marks SLIP and queues a reacquisition job for 10 s. -/
  | lostLock (ch : Fin 256)
  /-- DEBUG_PORT_TEST (R526). The debug port takes the module into or out of test, which changes PMU mode to or from TEST and clears PMC00 to PMC31. -/
  | debugPortTest (enter : Bool)
  /-- YLD_POOL_TAIL_WRITE (R363). A write of YLD_POOLTAIL adds frames to the YLD pool ring and ends the pool-empty condition. -/
  | yldPoolTailWrite (acc : Acc) (value : Word)
  deriving DecidableEq, Repr

end Sys2Proof
end

