-- ==== Sys2Proof/Config.lean ====
section
/-! DEFINITION. What an implementation fixes and the manual leaves open: constants with no body, so that no proof can
see a value of them. A free value of a step is one of these applied to State.freeSeq (log entry 8). -/

namespace Sys2Proof.Config

/-- A fresh value the manual leaves open, by the number of the draw (State.freeSeq): a 64-bit pattern of which the
user takes as many bits as the open field has (log entry 8). -/
opaque freeValue : Nat → BitVec 64

/-- The encoding of the kind of a denied access in the payload of event ACCESS_FAULT: from WRITE and EXEC.
R57 names the argument and gives no encoding (log entry 9). -/
opaque accessKindWord : Bool → Bool → BitVec 32

/-- The sign and payload of the NaN that an operation makes: IEEE 754 leaves them open (log entry 54). -/
opaque nanBits : BitVec 23

/-- The container header a partition's factory slot was made with: the manual gives no image (log entry 7). -/
opaque factoryHeader : Nat → List (BitVec 8)

end Sys2Proof.Config
end

