-- ==== Sys2Proof/Machine/SMap.lean ====
section
/-! DEFINITION. Sparse maps from natural numbers, as plain data: a list of (key, value) pairs with strictly rising
keys and no entry equal to what an unlisted key reads as. Registers, memory and every arrayed record of a unit are
such maps. The default is an argument, because it is a fact of the manual (a reset value), not data. -/

namespace Sys2Proof.Machine

/-- A sparse map: keys rise strictly, and no listed value is the default of its key (SMap.Wf). -/
abbrev SMap (α : Type) := List (Nat × α)

/-- The listed value of a key. -/
def SMap.find {α : Type} : SMap α → Nat → Option α
  | [], _ => none
  | (k', v) :: m, k => if k' = k then some v else SMap.find m k

/-- The value of a key: the listed one, else the default. -/
def SMap.get {α : Type} (d : Nat → α) (m : SMap α) (k : Nat) : α :=
  match SMap.find m k with
  | some v => v
  | none => d k

/-- The map without a key. -/
def SMap.erase {α : Type} (m : SMap α) (k : Nat) : SMap α := m.filter (fun p => p.1 ≠ k)

/-- Insert before the first larger key. -/
def SMap.ins {α : Type} : SMap α → Nat → α → SMap α
  | [], k, v => [(k, v)]
  | (k', v') :: m, k, v => if k < k' then (k, v) :: (k', v') :: m else (k', v') :: SMap.ins m k v

/-- Set a key. Writing the default removes the entry, so that equal maps are equal lists. -/
def SMap.set {α : Type} [DecidableEq α] (d : Nat → α) (m : SMap α) (k : Nat) (v : α) : SMap α :=
  if v = d k then SMap.erase m k else SMap.ins (SMap.erase m k) k v

/-- Apply a function to the value of a key. -/
def SMap.upd {α : Type} [DecidableEq α] (d : Nat → α) (m : SMap α) (k : Nat) (f : α → α) : SMap α :=
  SMap.set d m k (f (SMap.get d m k))

/-- The canonical form: keys strictly rising, no entry equal to its default. -/
abbrev SMap.Wf {α : Type} (d : Nat → α) (m : SMap α) : Prop :=
  m.Pairwise (fun p q => p.1 < q.1) ∧ ∀ p ∈ m, p.2 ≠ d p.1

/-- The listed keys. -/
def SMap.keys {α : Type} (m : SMap α) : List Nat := m.map (·.1)

/-- Keep the entries a test accepts, the others going back to their defaults. -/
def SMap.keep {α : Type} (m : SMap α) (p : Nat → Bool) : SMap α := m.filter (fun e => p e.1)

/-- Rewrite every listed value, dropping entries that become the default. -/
def SMap.mapKeep {α : Type} [DecidableEq α] (d : Nat → α) (m : SMap α) (f : Nat → α → α) : SMap α :=
  m.filterMap (fun e => let v := f e.1 e.2; if v = d e.1 then none else some (e.1, v))

end Sys2Proof.Machine
end

