-- ==== Sys2Proof/Machine/RegTypes.lean ====
section
/-! DEFINITION. The types of a register map: fields, access codes (R11), power domains (R502), reset kinds (R510). -/

namespace Sys2Proof.Machine

/-- A field of a register: the register's address and its bits (R10). -/
structure Fld where
  addr : Nat
  hi : Nat
  lo : Nat
  deriving DecidableEq, Repr

/-- The access codes of Table 0-6 (R11). `cmd` is a W1S field that starts an action and reads 0
(its Retention is a dash): HREL, RECOVER, JOIN, HANDOVER, GO, ABORT, UNLOCK, RESTART. -/
inductive Access where
  | rw | ro | wo | w1c | w1s | rc | rwl | cmd
  deriving DecidableEq, Repr

/-- What holds a field: a power domain of R502 (`pwr` the die's own, `die` the die domain of a PMU counter),
the part itself (`fixed`), flash, or nothing (`none`). -/
inductive Dom where
  | aon | smon | rtx | ctl | app | mem | sram | img | dsp | nav | net | afe | pwr0 | pwr1
  | pwr | die | fixed | flash | none
  deriving DecidableEq, Repr

/-- The reset kinds of Table 23-4 (R510). -/
inductive ResetKind where
  | por | bor | pin | wdt | mod | rtx | app | tko
  deriving DecidableEq, Repr

/-- Strength rises from APP to POR; TKO has the strength of RTX (R510). -/
def ResetKind.strength : ResetKind → Nat
  | .app => 0 | .rtx => 1 | .tko => 1 | .mod => 2 | .wdt => 3 | .pin => 4 | .bor => 5 | .por => 6

/-- KIND of RST_CAUSE (Table 23-4). -/
def ResetKind.code : ResetKind → Nat
  | .por => 0 | .bor => 1 | .pin => 2 | .wdt => 3 | .mod => 4 | .rtx => 5 | .app => 6 | .tko => 7

/-- One field of a register map. -/
structure FieldRow where
  hi : Nat
  lo : Nat
  access : Access
  reset : Nat
  dom : Dom
  kind : ResetKind
  deriving DecidableEq, Repr

/-- One register of a register map: its address at index 0, the strides and counts of its indices (largest stride
first), and its fields. Bits of no field are reserved. -/
structure RegRow where
  base : Nat
  dims : List (Nat × Nat)
  fields : List FieldRow
  deriving DecidableEq, Repr

end Sys2Proof.Machine
end

