-- ==== Sys2Proof/Machine/RegMap.lean ====
section
/-! DEFINITION. The register maps of the manual as data: for every register its address, its index strides and
counts, and its fields with access code, reset value, power domain and weakest clearing reset, transcribed from the
manual's register-map tables (R9, R59-R61, R93, R119, R150, R177, R201, R225, R248, R259, R281-R283, R314, R333,
R334, R351, R371, R408, R420, R443, R444, R469, R485, R498, R519, R520, R528). -/

namespace Sys2Proof.Machine.RegMap

/-- Register map of MOD, R9, part 1. -/
def rowsMOD0 : List RegRow := [
  -- MOD_ID
  ⟨0x40000000, [], [⟨31, 16, .ro, 0x57A1, .fixed, .por⟩,
    ⟨15, 0, .ro, 0x880, .fixed, .por⟩]⟩,
  -- MOD_VARIANT
  ⟨0x40000004, [], [⟨11, 8, .ro, 0, .fixed, .por⟩,
    ⟨7, 4, .ro, 0, .fixed, .por⟩,
    ⟨3, 0, .ro, 0, .fixed, .por⟩]⟩,
  -- MOD_CAP0
  ⟨0x40000008, [], [⟨7, 7, .ro, 0, .fixed, .por⟩,
    ⟨6, 6, .ro, 0, .fixed, .por⟩,
    ⟨5, 5, .ro, 0, .fixed, .por⟩,
    ⟨4, 4, .ro, 0, .fixed, .por⟩,
    ⟨3, 3, .ro, 0, .fixed, .por⟩,
    ⟨2, 2, .ro, 1, .fixed, .por⟩,
    ⟨1, 1, .ro, 0, .fixed, .por⟩,
    ⟨0, 0, .ro, 1, .fixed, .por⟩]⟩,
  -- MOD_CAP1
  ⟨0x4000000C, [], [⟨31, 24, .ro, 0, .fixed, .por⟩,
    ⟨23, 16, .ro, 0, .fixed, .por⟩,
    ⟨15, 8, .ro, 0, .fixed, .por⟩,
    ⟨7, 0, .ro, 0, .fixed, .por⟩]⟩,
  -- MOD_CAP2
  ⟨0x40000010, [], [⟨31, 28, .ro, 0, .fixed, .por⟩,
    ⟨27, 24, .ro, 0, .fixed, .por⟩,
    ⟨23, 20, .ro, 0, .fixed, .por⟩,
    ⟨19, 16, .ro, 0, .fixed, .por⟩,
    ⟨15, 0, .ro, 0x1000, .fixed, .por⟩]⟩,
  -- MOD_MEM
  ⟨0x40000014, [], [⟨31, 16, .ro, 0xC000, .fixed, .por⟩,
    ⟨15, 0, .ro, 0x4000, .fixed, .por⟩]⟩,
  -- MOD_SERIAL_LO
  ⟨0x40000018, [], [⟨31, 0, .ro, 0, .fixed, .por⟩]⟩,
  -- MOD_SERIAL_HI
  ⟨0x4000001C, [], [⟨31, 0, .ro, 0, .fixed, .por⟩]⟩]

/-- The whole register map of MOD (R9). -/
def rowsMOD : List RegRow := rowsMOD0

/-- Register map of RNG, R59, part 1. -/
def rowsRNG0 : List RegRow := [
  -- RNG_BASE_LOn
  ⟨0x40030000, [(0x40, 64)], [⟨31, 6, .rwl, 0, .rtx, .rtx⟩]⟩,
  -- RNG_BASE_HIn
  ⟨0x40030004, [(0x40, 64)], [⟨7, 0, .rwl, 0, .rtx, .rtx⟩]⟩,
  -- RNG_CFGn
  ⟨0x40030008, [(0x40, 64)], [⟨29, 24, .rwl, 0, .rtx, .rtx⟩,
    ⟨15, 8, .rwl, 0, .rtx, .rtx⟩,
    ⟨4, 0, .rw, 0, .rtx, .rtx⟩]⟩,
  -- RNG_DBn
  ⟨0x4003000C, [(0x40, 64)], [⟨31, 0, .rw, 0, .rtx, .rtx⟩]⟩,
  -- RNG_HWn
  ⟨0x40030010, [(0x40, 64)], [⟨31, 0, .ro, 0, .rtx, .rtx⟩]⟩,
  -- RNG_STATn
  ⟨0x40030014, [(0x40, 64)], [⟨8, 8, .ro, 0, .rtx, .rtx⟩,
    ⟨7, 7, .w1c, 0, .rtx, .rtx⟩,
    ⟨6, 6, .ro, 0, .rtx, .rtx⟩,
    ⟨5, 5, .w1c, 0, .rtx, .rtx⟩,
    ⟨4, 4, .w1c, 0, .rtx, .rtx⟩,
    ⟨3, 3, .ro, 0, .rtx, .rtx⟩,
    ⟨2, 2, .w1c, 0, .rtx, .rtx⟩,
    ⟨1, 1, .w1c, 0, .rtx, .rtx⟩,
    ⟨0, 0, .w1c, 0, .rtx, .rtx⟩]⟩,
  -- RNG_COALn
  ⟨0x40030018, [(0x40, 64)], [⟨31, 16, .rw, 0, .rtx, .rtx⟩,
    ⟨15, 0, .rw, 0, .rtx, .rtx⟩]⟩,
  -- RNG_TBASE_LOt
  ⟨0x40031000, [(0x20, 7)], [⟨31, 6, .rwl, 0, .smon, .mod⟩]⟩,
  -- RNG_TBASE_HIt
  ⟨0x40031004, [(0x20, 7)], [⟨7, 0, .rwl, 0, .smon, .mod⟩]⟩,
  -- RNG_TSTATt
  ⟨0x40031008, [(0x20, 7)], [⟨31, 31, .ro, 0, .rtx, .rtx⟩,
    ⟨27, 16, .ro, 0, .rtx, .rtx⟩,
    ⟨3, 3, .w1c, 0, .rtx, .rtx⟩,
    ⟨2, 2, .w1c, 0, .rtx, .rtx⟩,
    ⟨1, 1, .w1c, 0, .rtx, .rtx⟩,
    ⟨0, 0, .w1c, 0, .rtx, .rtx⟩]⟩,
  -- RNG_TSHADOW_LO
  ⟨0x4003100C, [], [⟨31, 6, .rwl, 0, .smon, .mod⟩]⟩,
  -- RNG_TSHADOW_HI
  ⟨0x40031010, [], [⟨7, 0, .rwl, 0, .smon, .mod⟩]⟩]

/-- Register map of RNG, R59, part 2. -/
def rowsRNG1 : List RegRow := [
  -- RNG_TDB
  ⟨0x40031100, [], [⟨31, 29, .wo, 0, .none, .por⟩,
    ⟨28, 16, .wo, 0, .none, .por⟩,
    ⟨11, 0, .wo, 0, .none, .por⟩]⟩,
  -- RNG_INT_PENDk
  ⟨0x40032000, [(4, 16)], [⟨31, 0, .w1c, 0, .rtx, .rtx⟩]⟩,
  -- RNG_INT_ENk
  ⟨0x40032040, [(4, 16)], [⟨31, 0, .rw, 0, .rtx, .rtx⟩]⟩,
  -- RNG_INT_SEL
  ⟨0x40032080, [], [⟨8, 0, .rw, 0, .rtx, .rtx⟩]⟩,
  -- RNG_INT_ROUTE
  ⟨0x40032084, [], [⟨4, 4, .rw, 0, .rtx, .rtx⟩,
    ⟨2, 0, .rw, 0, .rtx, .rtx⟩]⟩,
  -- RNG_LOCK
  ⟨0x40033000, [], [⟨0, 0, .w1s, 0, .rtx, .rtx⟩]⟩]

/-- The whole register map of RNG (R59). -/
def rowsRNG : List RegRow := rowsRNG0 ++ rowsRNG1

/-- Register map of REIN, R60, part 1. -/
def rowsREIN0 : List RegRow := [
  -- REIN_RANKm
  ⟨0x40040000, [(4, 39)], [⟨31, 16, .rw, 0x1000, .smon, .mod⟩,
    ⟨3, 0, .rw, 8, .smon, .mod⟩]⟩,
  -- REIN_WSEL
  ⟨0x40040100, [], [⟨21, 16, .rw, 0, .smon, .mod⟩,
    ⟨4, 0, .rw, 0, .smon, .mod⟩]⟩,
  -- REIN_WAIT
  ⟨0x40040104, [], [⟨16, 16, .ro, 0, .smon, .mod⟩,
    ⟨15, 0, .ro, 0, .smon, .mod⟩]⟩,
  -- REIN_STARV_LOt
  ⟨0x40040110, [(8, 17)], [⟨31, 0, .w1c, 0, .smon, .mod⟩]⟩,
  -- REIN_STARV_HIt
  ⟨0x40040114, [(8, 17)], [⟨15, 0, .w1c, 0, .smon, .mod⟩]⟩,
  -- REIN_TSTATt
  ⟨0x40040200, [(4, 17)], [⟨17, 17, .ro, 0, .smon, .mod⟩,
    ⟨16, 16, .w1c, 0, .smon, .mod⟩,
    ⟨13, 8, .ro, 0, .smon, .mod⟩,
    ⟨6, 6, .ro, 0, .smon, .mod⟩,
    ⟨5, 0, .ro, 0, .smon, .mod⟩]⟩]

/-- The whole register map of REIN (R60). -/
def rowsREIN : List RegRow := rowsREIN0

/-- Register map of ACC, R61, part 1. -/
def rowsACC0 : List RegRow := [
  -- ACC_TtEe_BASE
  ⟨0x40050000, [(0x400, 18), (8, 64)], [⟨31, 0, .rwl, 0, .smon, .mod⟩]⟩,
  -- ACC_TtEe_CTL
  ⟨0x40050004, [(0x400, 18), (8, 64)], [⟨21, 21, .rwl, 0, .smon, .mod⟩,
    ⟨20, 20, .rwl, 0, .smon, .mod⟩,
    ⟨18, 18, .rwl, 0, .smon, .mod⟩,
    ⟨17, 17, .rwl, 0, .smon, .mod⟩,
    ⟨16, 16, .rwl, 0, .smon, .mod⟩,
    ⟨13, 8, .rwl, 0, .smon, .mod⟩,
    ⟨5, 0, .rwl, 0, .smon, .mod⟩]⟩,
  -- ACC_Tt_CTL
  ⟨0x40050200, [(0x400, 18)], [⟨4, 4, .rwl, 0, .smon, .mod⟩,
    ⟨0, 0, .w1s, 0, .smon, .mod⟩]⟩,
  -- ACC_Tt_FADDR_LO
  ⟨0x40050204, [(0x400, 18)], [⟨31, 0, .ro, 0, .smon, .mod⟩]⟩,
  -- ACC_Tt_FADDR_HI
  ⟨0x40050208, [(0x400, 18)], [⟨7, 0, .ro, 0, .smon, .mod⟩]⟩,
  -- ACC_Tt_FINFO
  ⟨0x4005020C, [(0x400, 18)], [⟨31, 31, .w1c, 0, .smon, .mod⟩,
    ⟨23, 16, .ro, 0, .smon, .mod⟩,
    ⟨11, 11, .ro, 0, .smon, .mod⟩,
    ⟨10, 10, .ro, 0, .smon, .mod⟩,
    ⟨9, 9, .ro, 0, .smon, .mod⟩,
    ⟨8, 8, .ro, 0, .smon, .mod⟩,
    ⟨5, 0, .ro, 0, .smon, .mod⟩]⟩]

/-- The whole register map of ACC (R61). -/
def rowsACC : List RegRow := rowsACC0

/-- Register map of STR, R93, part 1. -/
def rowsSTR0 : List RegRow := [
  -- STR_AXCFGa
  ⟨0x40100000, [(0x100, 8)], [⟨31, 26, .rwl, 0, .rtx, .rtx⟩,
    ⟨25, 24, .rwl, 0, .rtx, .rtx⟩,
    ⟨23, 16, .rwl, 0, .rtx, .rtx⟩,
    ⟨9, 9, .rw, 0, .rtx, .rtx⟩,
    ⟨8, 8, .rw, 0, .rtx, .rtx⟩,
    ⟨6, 6, .rwl, 0, .rtx, .rtx⟩,
    ⟨2, 1, .rwl, 0, .rtx, .rtx⟩,
    ⟨0, 0, .rw, 0, .rtx, .rtx⟩]⟩,
  -- STR_AXFBa
  ⟨0x40100004, [(0x100, 8)], [⟨15, 8, .rwl, 0, .rtx, .rtx⟩,
    ⟨7, 0, .rwl, 0, .rtx, .rtx⟩]⟩,
  -- STR_AXSCLPa
  ⟨0x40100008, [(0x100, 8)], [⟨31, 0, .rw, 0x10000, .rtx, .rtx⟩]⟩,
  -- STR_AXSCL1a
  ⟨0x4010000C, [(0x100, 8)], [⟨31, 0, .rw, 0x10000, .rtx, .rtx⟩]⟩,
  -- STR_AXSCL2a
  ⟨0x40100010, [(0x100, 8)], [⟨31, 0, .rw, 0x10000, .rtx, .rtx⟩]⟩,
  -- STR_AXBLENDa
  ⟨0x40100014, [(0x100, 8)], [⟨31, 0, .rw, 0, .rtx, .rtx⟩]⟩,
  -- STR_AXSTILLa
  ⟨0x40100018, [(0x100, 8)], [⟨31, 16, .rw, 0, .rtx, .rtx⟩,
    ⟨15, 0, .rw, 0, .rtx, .rtx⟩]⟩,
  -- STR_AXLOSSa
  ⟨0x4010001C, [(0x100, 8)], [⟨31, 16, .rw, 0, .rtx, .rtx⟩,
    ⟨15, 0, .rw, 0, .rtx, .rtx⟩]⟩,
  -- STR_AXXCHKa
  ⟨0x40100020, [(0x100, 8)], [⟨23, 8, .rw, 0, .rtx, .rtx⟩,
    ⟨7, 0, .rw, 0, .rtx, .rtx⟩]⟩,
  -- STR_AXRESTa
  ⟨0x40100024, [(0x100, 8)], [⟨15, 0, .rw, 0, .rtx, .rtx⟩]⟩,
  -- STR_AXPRESET_LOa
  ⟨0x40100028, [(0x100, 8)], [⟨31, 0, .rw, 0, .rtx, .rtx⟩]⟩,
  -- STR_AXPRESET_HIa
  ⟨0x4010002C, [(0x100, 8)], [⟨31, 0, .rw, 0, .rtx, .rtx⟩]⟩]

/-- Register map of STR, R93, part 2. -/
def rowsSTR1 : List RegRow := [
  -- STR_AXPOS_LOa
  ⟨0x40100030, [(0x100, 8)], [⟨31, 0, .ro, 0, .rtx, .rtx⟩]⟩,
  -- STR_AXPOS_HIa
  ⟨0x40100034, [(0x100, 8)], [⟨31, 0, .ro, 0, .rtx, .rtx⟩]⟩,
  -- STR_AXFRACa
  ⟨0x40100038, [(0x100, 8)], [⟨15, 0, .ro, 0, .rtx, .rtx⟩]⟩,
  -- STR_AXRATE_LOa
  ⟨0x40100040, [(0x100, 8)], [⟨31, 0, .ro, 0, .rtx, .rtx⟩]⟩,
  -- STR_AXRATE_HIa
  ⟨0x40100044, [(0x100, 8)], [⟨31, 0, .ro, 0, .rtx, .rtx⟩]⟩,
  -- STR_AXSTATa
  ⟨0x40100048, [(0x100, 8)], [⟨22, 22, .w1c, 0, .rtx, .rtx⟩,
    ⟨21, 21, .w1c, 0, .rtx, .rtx⟩,
    ⟨20, 20, .w1c, 0, .rtx, .rtx⟩,
    ⟨19, 19, .w1c, 0, .rtx, .rtx⟩,
    ⟨18, 18, .w1c, 0, .rtx, .rtx⟩,
    ⟨17, 17, .w1c, 0, .rtx, .rtx⟩,
    ⟨16, 16, .w1c, 0, .rtx, .rtx⟩,
    ⟨12, 10, .ro, 0, .rtx, .rtx⟩,
    ⟨9, 9, .ro, 0, .rtx, .rtx⟩,
    ⟨8, 8, .ro, 0, .rtx, .rtx⟩,
    ⟨6, 4, .ro, 0, .rtx, .rtx⟩,
    ⟨1, 0, .ro, 3, .rtx, .rtx⟩]⟩,
  -- STR_AXQERRa
  ⟨0x4010004C, [(0x100, 8)], [⟨15, 0, .rc, 0, .rtx, .rtx⟩]⟩,
  -- STR_CTL
  ⟨0x40101000, [], [⟨0, 0, .w1s, 0, .rtx, .rtx⟩]⟩,
  -- STR_SNAP_DB
  ⟨0x40101010, [], [⟨0, 0, .wo, 0, .none, .por⟩]⟩,
  -- STR_SNAP_STAT
  ⟨0x40101014, [], [⟨31, 16, .ro, 0, .rtx, .rtx⟩,
    ⟨7, 7, .ro, 0, .rtx, .rtx⟩,
    ⟨4, 0, .ro, 0, .rtx, .rtx⟩]⟩,
  -- STR_SNAP_MTB_LO
  ⟨0x40101018, [], [⟨31, 0, .ro, 0, .rtx, .rtx⟩]⟩,
  -- STR_SNAP_MTB_HI
  ⟨0x4010101C, [], [⟨31, 0, .ro, 0, .rtx, .rtx⟩]⟩]

/-- Register map of STR, R93, part 3. -/
def rowsSTR2 : List RegRow := [
  -- STR_SNAP_POS_LOa
  ⟨0x40101100, [(0x20, 8)], [⟨31, 0, .ro, 0, .rtx, .rtx⟩]⟩,
  -- STR_SNAP_POS_HIa
  ⟨0x40101104, [(0x20, 8)], [⟨31, 0, .ro, 0, .rtx, .rtx⟩]⟩,
  -- STR_SNAP_FRACa
  ⟨0x40101108, [(0x20, 8)], [⟨15, 0, .ro, 0, .rtx, .rtx⟩]⟩,
  -- STR_SNAP_RATE_LOa
  ⟨0x40101110, [(0x20, 8)], [⟨31, 0, .ro, 0, .rtx, .rtx⟩]⟩,
  -- STR_SNAP_RATE_HIa
  ⟨0x40101114, [(0x20, 8)], [⟨31, 0, .ro, 0, .rtx, .rtx⟩]⟩,
  -- STR_TRGCFGn
  ⟨0x40102000, [(0x10, 32)], [⟨11, 8, .rw, 0, .rtx, .rtx⟩,
    ⟨5, 4, .rw, 0, .rtx, .rtx⟩,
    ⟨3, 1, .rw, 0, .rtx, .rtx⟩,
    ⟨0, 0, .rw, 0, .rtx, .rtx⟩]⟩,
  -- STR_TRGPOSn
  ⟨0x40102004, [(0x10, 32)], [⟨31, 0, .rw, 0, .rtx, .rtx⟩]⟩,
  -- STR_TRGSTATn
  ⟨0x40102008, [(0x10, 32)], [⟨2, 2, .w1c, 0, .rtx, .rtx⟩,
    ⟨1, 1, .w1c, 0, .rtx, .rtx⟩,
    ⟨0, 0, .w1c, 0, .rtx, .rtx⟩]⟩,
  -- STR_TRGTIMEn
  ⟨0x4010200C, [(0x10, 32)], [⟨31, 0, .ro, 0, .rtx, .rtx⟩]⟩]

/-- The whole register map of STR (R93). -/
def rowsSTR : List RegRow := rowsSTR0 ++ rowsSTR1 ++ rowsSTR2

/-- Register map of EPT, R119, part 1. -/
def rowsEPT0 : List RegRow := [
  -- EPT_CTL
  ⟨0x40110000, [], [⟨31, 31, .w1s, 0, .rtx, .rtx⟩,
    ⟨0, 0, .rw, 0, .rtx, .rtx⟩]⟩,
  -- EPT_COUNT
  ⟨0x40110004, [], [⟨12, 0, .rwl, 0, .rtx, .rtx⟩]⟩,
  -- EPT_REJOIN
  ⟨0x40110008, [], [⟨23, 8, .rw, 0x64, .rtx, .rtx⟩,
    ⟨7, 0, .rw, 8, .rtx, .rtx⟩]⟩,
  -- EPT_STAT
  ⟨0x40110010, [], [⟨4, 4, .w1c, 0, .rtx, .rtx⟩,
    ⟨3, 3, .w1c, 0, .rtx, .rtx⟩,
    ⟨2, 2, .w1c, 0, .rtx, .rtx⟩,
    ⟨1, 1, .w1c, 0, .rtx, .rtx⟩]⟩,
  -- EPT_TICKSEQ
  ⟨0x40110014, [], [⟨31, 0, .ro, 0, .rtx, .rtx⟩]⟩,
  -- EPT_NSTATE
  ⟨0x40110018, [], [⟨28, 16, .ro, 0, .rtx, .rtx⟩,
    ⟨12, 0, .ro, 0, .rtx, .rtx⟩]⟩,
  -- EPT_NIN
  ⟨0x4011001C, [], [⟨12, 0, .ro, 0, .rtx, .rtx⟩]⟩,
  -- EPT_CHIT
  ⟨0x40110020, [], [⟨31, 0, .rc, 0, .rtx, .rtx⟩]⟩,
  -- EPT_CMISS
  ⟨0x40110024, [], [⟨31, 0, .rc, 0, .rtx, .rtx⟩]⟩,
  -- EPT_LASTCHG
  ⟨0x40110028, [], [⟨23, 20, .ro, 0, .rtx, .rtx⟩,
    ⟨17, 16, .ro, 0, .rtx, .rtx⟩,
    ⟨11, 0, .ro, 0, .rtx, .rtx⟩]⟩,
  -- EPT_STATEe
  ⟨0x40B00000, [(0x20, 4096), (4, 8)], [⟨31, 0, .ro, 0, .rtx, .rtx⟩]⟩]

/-- The whole register map of EPT (R119). -/
def rowsEPT : List RegRow := rowsEPT0

/-- Register map of SLT, R150, part 1. -/
def rowsSLT0 : List RegRow := [
  -- SLT_CTL
  ⟨0x40120000, [], [⟨31, 31, .w1s, 0, .rtx, .rtx⟩,
    ⟨0, 0, .rw, 0, .rtx, .rtx⟩]⟩,
  -- SLT_RMT
  ⟨0x40120004, [], [⟨22, 20, .rwl, 2, .rtx, .rtx⟩,
    ⟨17, 16, .rw, 0, .rtx, .rtx⟩,
    ⟨15, 0, .rw, 0x7D0, .rtx, .rtx⟩]⟩,
  -- SLT_TFRM
  ⟨0x40120008, [], [⟨15, 0, .rw, 0xA, .rtx, .rtx⟩]⟩,
  -- SLT_TMASK
  ⟨0x4012000C, [], [⟨17, 16, .rw, 0, .rtx, .rtx⟩,
    ⟨11, 0, .rw, 0, .rtx, .rtx⟩]⟩,
  -- SLT_NTO
  ⟨0x40120010, [], [⟨15, 0, .rw, 0x64, .rtx, .rtx⟩]⟩,
  -- SLT_SA
  ⟨0x40120014, [], [⟨7, 0, .rwl, 0, .rtx, .rtx⟩]⟩,
  -- SLT_STAT
  ⟨0x40120020, [], [⟨12, 12, .w1c, 0, .rtx, .rtx⟩,
    ⟨11, 11, .w1c, 0, .rtx, .rtx⟩,
    ⟨10, 10, .w1c, 0, .rtx, .rtx⟩,
    ⟨9, 9, .w1c, 0, .rtx, .rtx⟩,
    ⟨8, 8, .w1c, 0, .rtx, .rtx⟩,
    ⟨7, 7, .w1c, 0, .rtx, .rtx⟩,
    ⟨6, 6, .w1c, 0, .rtx, .rtx⟩,
    ⟨5, 5, .w1c, 0, .rtx, .rtx⟩,
    ⟨4, 4, .w1c, 0, .rtx, .rtx⟩,
    ⟨3, 3, .w1c, 0, .rtx, .rtx⟩,
    ⟨2, 2, .w1c, 0, .rtx, .rtx⟩,
    ⟨1, 1, .w1c, 0, .rtx, .rtx⟩]⟩,
  -- SLT_SKIPCNT
  ⟨0x40120024, [], [⟨31, 0, .rc, 0, .rtx, .rtx⟩]⟩,
  -- SLT_LATECNT
  ⟨0x40120028, [], [⟨31, 0, .rc, 0, .rtx, .rtx⟩]⟩,
  -- SLT_CORRCNT
  ⟨0x4012002C, [], [⟨31, 0, .rc, 0, .rtx, .rtx⟩]⟩,
  -- SLT_CANCNT
  ⟨0x40120030, [], [⟨31, 0, .rc, 0, .rtx, .rtx⟩]⟩,
  -- SLT_CARRYCNT
  ⟨0x40120034, [], [⟨31, 0, .rc, 0, .rtx, .rtx⟩]⟩]

/-- Register map of SLT, R150, part 2. -/
def rowsSLT1 : List RegRow := [
  -- SLT_IMMCNT
  ⟨0x40120038, [], [⟨31, 0, .rc, 0, .rtx, .rtx⟩]⟩,
  -- SLT_NODESEL
  ⟨0x40120040, [], [⟨31, 28, .rw, 0, .rtx, .rtx⟩,
    ⟨7, 0, .rw, 0, .rtx, .rtx⟩]⟩,
  -- SLT_NODESTAT
  ⟨0x40120044, [], [⟨31, 31, .ro, 0, .rtx, .rtx⟩,
    ⟨30, 30, .ro, 0, .rtx, .rtx⟩,
    ⟨29, 29, .ro, 0, .rtx, .rtx⟩,
    ⟨28, 28, .ro, 0, .rtx, .rtx⟩,
    ⟨15, 0, .ro, 0, .rtx, .rtx⟩]⟩,
  -- SLT_NODESEQ
  ⟨0x40120048, [], [⟨15, 0, .ro, 0, .rtx, .rtx⟩]⟩,
  -- SLT_CLSTATc
  ⟨0x40121000, [(0x10, 256)], [⟨31, 16, .ro, 0, .rtx, .rtx⟩,
    ⟨6, 4, .ro, 0, .rtx, .rtx⟩,
    ⟨2, 2, .ro, 1, .rtx, .rtx⟩,
    ⟨1, 1, .ro, 0, .rtx, .rtx⟩,
    ⟨0, 0, .ro, 0, .rtx, .rtx⟩]⟩,
  -- SLT_CMTPTc
  ⟨0x40121004, [(0x10, 256)], [⟨31, 0, .ro, 0, .rtx, .rtx⟩]⟩,
  -- SLT_FIRED_LOc
  ⟨0x40121008, [(0x10, 256)], [⟨31, 0, .ro, 0, .rtx, .rtx⟩]⟩,
  -- SLT_FIRED_HIc
  ⟨0x4012100C, [(0x10, 256)], [⟨31, 0, .ro, 0, .rtx, .rtx⟩]⟩,
  -- SLT_DECc_m_q
  ⟨0x40C00000, [(0x200, 256), (0x20, 16), (0x10, 2), (4, 4)], [⟨31, 0, .ro, 0, .rtx, .rtx⟩]⟩,
  -- SLT_PAGEc_p_s
  ⟨0x40C40000, [(0x800, 256), (0x400, 2), (0x10, 64), (4, 4)], [⟨31, 0, .rw, 0, .rtx, .rtx⟩]⟩]

/-- The whole register map of SLT (R150). -/
def rowsSLT : List RegRow := rowsSLT0 ++ rowsSLT1

/-- Register map of COV, R177, part 1. -/
def rowsCOV0 : List RegRow := [
  -- COV_CTL
  ⟨0x40130000, [], [⟨31, 31, .w1s, 0, .ctl, .rtx⟩,
    ⟨5, 4, .rw, 1, .ctl, .rtx⟩,
    ⟨0, 0, .rw, 0, .ctl, .rtx⟩]⟩,
  -- COV_CBASE
  ⟨0x40130004, [], [⟨31, 24, .rwl, 0x20, .ctl, .rtx⟩]⟩,
  -- COV_PF
  ⟨0x40130008, [], [⟨15, 0, .rw, 0x1388, .ctl, .rtx⟩]⟩,
  -- COV_PERR
  ⟨0x4013000C, [], [⟨15, 0, .rw, 0xC8, .ctl, .rtx⟩]⟩,
  -- COV_MISS
  ⟨0x40130010, [], [⟨15, 0, .rw, 0xC8, .ctl, .rtx⟩]⟩,
  -- COV_WB
  ⟨0x40130014, [], [⟨15, 0, .rw, 0x3E8, .ctl, .rtx⟩]⟩,
  -- COV_FLD_LO
  ⟨0x40130018, [], [⟨31, 0, .ro, 0, .ctl, .rtx⟩]⟩,
  -- COV_FLD_HI
  ⟨0x4013001C, [], [⟨7, 0, .ro, 0, .ctl, .rtx⟩]⟩,
  -- COV_FSTAT
  ⟨0x40130020, [], [⟨31, 16, .ro, 0, .ctl, .rtx⟩,
    ⟨1, 1, .ro, 0, .ctl, .rtx⟩,
    ⟨0, 0, .ro, 0, .ctl, .rtx⟩]⟩,
  -- COV_CACHE
  ⟨0x40130024, [], [⟨15, 8, .ro, 0, .ctl, .rtx⟩,
    ⟨7, 0, .ro, 0, .ctl, .rtx⟩]⟩,
  -- COV_POOLBASE_LO
  ⟨0x40130030, [], [⟨31, 6, .rwl, 0, .ctl, .rtx⟩]⟩,
  -- COV_POOLBASE_HI
  ⟨0x40130034, [], [⟨7, 0, .rwl, 0, .ctl, .rtx⟩]⟩]

/-- Register map of COV, R177, part 2. -/
def rowsCOV1 : List RegRow := [
  -- COV_POOLCFG
  ⟨0x40130038, [], [⟨4, 0, .rwl, 0, .ctl, .rtx⟩]⟩,
  -- COV_POOLHEAD
  ⟨0x4013003C, [], [⟨31, 0, .ro, 0, .ctl, .rtx⟩]⟩,
  -- COV_POOLTAIL
  ⟨0x40130040, [], [⟨31, 0, .rw, 0, .ctl, .rtx⟩]⟩,
  -- COV_STAT
  ⟨0x40130050, [], [⟨16, 16, .ro, 0, .ctl, .rtx⟩,
    ⟨8, 8, .w1c, 0, .ctl, .rtx⟩,
    ⟨7, 7, .w1c, 0, .ctl, .rtx⟩,
    ⟨6, 6, .w1c, 0, .ctl, .rtx⟩,
    ⟨5, 5, .w1c, 0, .ctl, .rtx⟩,
    ⟨4, 4, .w1c, 0, .ctl, .rtx⟩,
    ⟨3, 3, .w1c, 0, .ctl, .rtx⟩,
    ⟨2, 2, .w1c, 0, .ctl, .rtx⟩,
    ⟨1, 1, .w1c, 0, .ctl, .rtx⟩,
    ⟨0, 0, .w1c, 0, .ctl, .rtx⟩]⟩,
  -- COV_MISSCNT
  ⟨0x40130054, [], [⟨31, 0, .rc, 0, .ctl, .rtx⟩]⟩,
  -- COV_OVRCNT
  ⟨0x40130058, [], [⟨31, 0, .rc, 0, .ctl, .rtx⟩]⟩,
  -- COV_UNMARKED
  ⟨0x4013005C, [], [⟨31, 0, .rc, 0, .ctl, .rtx⟩]⟩,
  -- COV_FETCHKB
  ⟨0x40130060, [], [⟨31, 0, .rc, 0, .ctl, .rtx⟩]⟩,
  -- COV_WBKB
  ⟨0x40130064, [], [⟨31, 0, .rc, 0, .ctl, .rtx⟩]⟩,
  -- COV_HRULEh
  ⟨0x40130100, [(4, 16)], [⟨30, 24, .rw, 0, .ctl, .rtx⟩,
    ⟨22, 16, .rw, 0, .ctl, .rtx⟩,
    ⟨14, 8, .rw, 0, .ctl, .rtx⟩,
    ⟨7, 0, .rw, 0xFF, .ctl, .rtx⟩]⟩,
  -- COV_DECe
  ⟨0x40138000, [(4, 4096)], [⟨22, 16, .ro, 0, .ctl, .rtx⟩,
    ⟨14, 8, .ro, 0, .ctl, .rtx⟩,
    ⟨7, 7, .ro, 0, .ctl, .rtx⟩,
    ⟨6, 6, .ro, 0, .ctl, .rtx⟩,
    ⟨5, 5, .ro, 0, .ctl, .rtx⟩,
    ⟨4, 4, .ro, 0, .ctl, .rtx⟩,
    ⟨3, 3, .ro, 0, .ctl, .rtx⟩,
    ⟨2, 2, .ro, 0, .ctl, .rtx⟩,
    ⟨1, 1, .ro, 0, .ctl, .rtx⟩,
    ⟨0, 0, .ro, 0, .ctl, .rtx⟩]⟩]

/-- The whole register map of COV (R177). -/
def rowsCOV : List RegRow := rowsCOV0 ++ rowsCOV1

/-- Register map of BRD, R201, part 1. -/
def rowsBRD0 : List RegRow := [
  -- BRD_CTL
  ⟨0x40140000, [], [⟨31, 31, .w1s, 0, .ctl, .rtx⟩,
    ⟨0, 0, .rw, 0, .ctl, .rtx⟩]⟩,
  -- BRD_STAT
  ⟨0x40140004, [], [⟨7, 7, .w1c, 0, .ctl, .rtx⟩,
    ⟨6, 6, .w1c, 0, .ctl, .rtx⟩,
    ⟨5, 5, .w1c, 0, .ctl, .rtx⟩,
    ⟨4, 4, .w1c, 0, .ctl, .rtx⟩,
    ⟨3, 3, .w1c, 0, .ctl, .rtx⟩,
    ⟨2, 2, .w1c, 0, .ctl, .rtx⟩,
    ⟨1, 1, .w1c, 0, .ctl, .rtx⟩,
    ⟨0, 0, .w1c, 0, .ctl, .rtx⟩]⟩,
  -- BRD_OVRCNT
  ⟨0x40140008, [], [⟨31, 0, .rc, 0, .ctl, .rtx⟩]⟩,
  -- BRD_LOAD
  ⟨0x4014000C, [], [⟨7, 0, .ro, 0, .ctl, .rtx⟩]⟩,
  -- BRD_APPLY_LO
  ⟨0x40140010, [], [⟨31, 0, .wo, 0, .none, .por⟩]⟩,
  -- BRD_APPLY_HI
  ⟨0x40140014, [], [⟨31, 0, .wo, 0, .none, .por⟩]⟩,
  -- BRD_SWTO
  ⟨0x40140018, [], [⟨15, 0, .rw, 0, .ctl, .rtx⟩]⟩,
  -- BRD_SWVALs
  ⟨0x40140040, [(4, 16)], [⟨31, 0, .rw, 0, .ctl, .rtx⟩]⟩,
  -- BRD_GDESTg
  ⟨0x40140100, [(0x10, 16)], [⟨31, 28, .rwl, 0, .ctl, .rtx⟩,
    ⟨6, 0, .rwl, 0, .ctl, .rtx⟩]⟩,
  -- BRD_GSCALEg
  ⟨0x40140104, [(0x10, 16)], [⟨31, 0, .rw, 0x3F800000, .ctl, .rtx⟩]⟩,
  -- BRD_GSLEWg
  ⟨0x40140108, [(0x10, 16)], [⟨31, 0, .rw, 0, .ctl, .rtx⟩]⟩,
  -- BRD_GSTATg
  ⟨0x4014010C, [(0x10, 16)], [⟨29, 24, .ro, 0, .ctl, .rtx⟩,
    ⟨19, 16, .ro, 0, .ctl, .rtx⟩,
    ⟨1, 1, .ro, 0, .ctl, .rtx⟩,
    ⟨0, 0, .ro, 0, .ctl, .rtx⟩]⟩]

/-- Register map of BRD, R201, part 2. -/
def rowsBRD1 : List RegRow := [
  -- BRD_GOUTg
  ⟨0x40140200, [(4, 16)], [⟨31, 0, .ro, 0, .ctl, .rtx⟩]⟩,
  -- BRD_LSTATn
  ⟨0x40140400, [(0x20, 64)], [⟨23, 23, .w1c, 0, .ctl, .rtx⟩,
    ⟨22, 22, .w1c, 0, .ctl, .rtx⟩,
    ⟨21, 21, .w1c, 0, .ctl, .rtx⟩,
    ⟨20, 20, .w1c, 0, .ctl, .rtx⟩,
    ⟨19, 19, .w1c, 0, .ctl, .rtx⟩,
    ⟨18, 18, .w1c, 0, .ctl, .rtx⟩,
    ⟨17, 17, .w1c, 0, .ctl, .rtx⟩,
    ⟨16, 16, .w1c, 0, .ctl, .rtx⟩,
    ⟨15, 15, .ro, 0, .ctl, .rtx⟩,
    ⟨14, 14, .ro, 0, .ctl, .rtx⟩,
    ⟨13, 13, .ro, 0, .ctl, .rtx⟩,
    ⟨12, 12, .ro, 0, .ctl, .rtx⟩,
    ⟨11, 11, .ro, 0, .ctl, .rtx⟩,
    ⟨10, 8, .ro, 0, .ctl, .rtx⟩,
    ⟨6, 4, .ro, 0, .ctl, .rtx⟩,
    ⟨2, 0, .ro, 0, .ctl, .rtx⟩]⟩,
  -- BRD_LOUTn
  ⟨0x40140404, [(0x20, 64)], [⟨31, 0, .ro, 0, .ctl, .rtx⟩]⟩,
  -- BRD_LPVn
  ⟨0x40140408, [(0x20, 64)], [⟨31, 0, .ro, 0, .ctl, .rtx⟩]⟩,
  -- BRD_LSPn
  ⟨0x4014040C, [(0x20, 64)], [⟨31, 0, .ro, 0, .ctl, .rtx⟩]⟩,
  -- BRD_LERRn
  ⟨0x40140410, [(0x20, 64)], [⟨31, 0, .ro, 0, .ctl, .rtx⟩]⟩,
  -- BRD_LINTn
  ⟨0x40140414, [(0x20, 64)], [⟨31, 0, .ro, 0, .ctl, .rtx⟩]⟩,
  -- BRD_LTIMEn
  ⟨0x40140418, [(0x20, 64)], [⟨31, 0, .ro, 0, .ctl, .rtx⟩]⟩,
  -- BRD_LOSCn
  ⟨0x4014041C, [(0x20, 64)], [⟨7, 0, .ro, 0, .ctl, .rtx⟩]⟩,
  -- BRD_KPn_z
  ⟨0x40148000, [(0x80, 64), (0x10, 8)], [⟨31, 0, .rw, 0, .ctl, .rtx⟩]⟩,
  -- BRD_KIn_z
  ⟨0x40148004, [(0x80, 64), (0x10, 8)], [⟨31, 0, .rw, 0, .ctl, .rtx⟩]⟩,
  -- BRD_KDn_z
  ⟨0x40148008, [(0x80, 64), (0x10, 8)], [⟨31, 0, .rw, 0, .ctl, .rtx⟩]⟩]

/-- Register map of BRD, R201, part 3. -/
def rowsBRD2 : List RegRow := [
  -- BRD_KFFn_z
  ⟨0x4014800C, [(0x80, 64), (0x10, 8)], [⟨31, 0, .rw, 0, .ctl, .rtx⟩]⟩]

/-- The whole register map of BRD (R201). -/
def rowsBRD : List RegRow := rowsBRD0 ++ rowsBRD1 ++ rowsBRD2

/-- Register map of SOL, R225, part 1. -/
def rowsSOL0 : List RegRow := [
  -- SOL_CTL
  ⟨0x40200000, [(0x100000, 2)], [⟨31, 31, .w1s, 0, .pwr, .mod⟩,
    ⟨0, 0, .rw, 0, .pwr, .mod⟩]⟩,
  -- SOL_STAT
  ⟨0x40200004, [(0x100000, 2)], [⟨10, 10, .w1c, 0, .pwr, .mod⟩,
    ⟨9, 9, .w1c, 0, .pwr, .mod⟩,
    ⟨8, 8, .w1c, 0, .pwr, .mod⟩,
    ⟨7, 7, .w1c, 0, .pwr, .mod⟩,
    ⟨6, 6, .w1c, 0, .pwr, .mod⟩,
    ⟨5, 5, .w1c, 0, .pwr, .mod⟩,
    ⟨4, 4, .w1c, 0, .pwr, .mod⟩,
    ⟨3, 3, .w1c, 0, .pwr, .mod⟩,
    ⟨2, 2, .w1c, 0, .pwr, .mod⟩,
    ⟨1, 1, .w1c, 0, .pwr, .mod⟩,
    ⟨0, 0, .w1c, 0, .pwr, .mod⟩]⟩,
  -- SOL_DEFERCNT
  ⟨0x40200008, [(0x100000, 2)], [⟨31, 0, .rc, 0, .pwr, .mod⟩]⟩,
  -- SOL_SKIPCNT
  ⟨0x4020000C, [(0x100000, 2)], [⟨31, 0, .rc, 0, .pwr, .mod⟩]⟩,
  -- SOL_RCVFCNT
  ⟨0x40200010, [(0x100000, 2)], [⟨31, 0, .rc, 0, .pwr, .mod⟩]⟩,
  -- SOL_TEXTx
  ⟨0x40200020, [(0x100000, 2), (4, 4)], [⟨15, 0, .rw, 0x8000, .pwr, .mod⟩]⟩,
  -- SOL_BSTCFGb
  ⟨0x40200040, [(0x100000, 2), (0x10, 2)], [⟨23, 16, .rwl, 0x5A, .pwr, .mod⟩,
    ⟨14, 8, .rwl, 0x60, .pwr, .mod⟩,
    ⟨0, 0, .rw, 0, .pwr, .mod⟩]⟩,
  -- SOL_BSTSTATb
  ⟨0x40200044, [(0x100000, 2), (0x10, 2)], [⟨19, 19, .w1c, 0, .pwr, .mod⟩,
    ⟨18, 18, .w1c, 0, .pwr, .mod⟩,
    ⟨16, 16, .ro, 0, .pwr, .mod⟩,
    ⟨15, 0, .ro, 0, .pwr, .mod⟩]⟩,
  -- SOL_BANKCFGk
  ⟨0x40200100, [(0x100000, 2), (0x10, 8)], [⟨15, 0, .rw, 0x1F4, .pwr, .mod⟩]⟩,
  -- SOL_BANKSTATk
  ⟨0x40200104, [(0x100000, 2), (0x10, 8)], [⟨24, 24, .w1c, 0, .pwr, .mod⟩,
    ⟨15, 12, .ro, 0, .pwr, .mod⟩,
    ⟨11, 8, .ro, 0, .pwr, .mod⟩,
    ⟨4, 4, .ro, 0, .pwr, .mod⟩,
    ⟨3, 3, .ro, 0, .pwr, .mod⟩,
    ⟨1, 0, .ro, 0, .pwr, .mod⟩]⟩,
  -- SOL_BANKTEMPk
  ⟨0x40200108, [(0x100000, 2), (0x10, 8)], [⟨15, 0, .ro, 0, .pwr, .mod⟩]⟩,
  -- SOL_PRFCFGp
  ⟨0x40200200, [(0x100000, 2), (0x20, 16)], [⟨17, 16, .rw, 0, .pwr, .mod⟩,
    ⟨9, 8, .rw, 0, .pwr, .mod⟩,
    ⟨7, 6, .rw, 0, .pwr, .mod⟩,
    ⟨5, 4, .rw, 0, .pwr, .mod⟩,
    ⟨3, 2, .rw, 0, .pwr, .mod⟩,
    ⟨1, 1, .rw, 0, .pwr, .mod⟩,
    ⟨0, 0, .rw, 0, .pwr, .mod⟩]⟩]

/-- Register map of SOL, R225, part 2. -/
def rowsSOL1 : List RegRow := [
  -- SOL_PRFTHp
  ⟨0x40200204, [(0x100000, 2), (0x20, 16)], [⟨23, 16, .rw, 0, .pwr, .mod⟩,
    ⟨15, 8, .rw, 0, .pwr, .mod⟩,
    ⟨7, 0, .rw, 0, .pwr, .mod⟩]⟩,
  -- SOL_PRFBMAXp
  ⟨0x40200208, [(0x100000, 2), (0x20, 16)], [⟨15, 0, .rw, 0, .pwr, .mod⟩]⟩,
  -- SOL_PRFPKp_q
  ⟨0x40200400, [(0x100000, 2), (0x40, 16), (8, 4)], [⟨26, 16, .rw, 0, .pwr, .mod⟩,
    ⟨13, 0, .rw, 0, .pwr, .mod⟩]⟩,
  -- SOL_PRFDTp_q
  ⟨0x40200404, [(0x100000, 2), (0x40, 16), (8, 4)], [⟨24, 16, .rw, 0, .pwr, .mod⟩,
    ⟨9, 0, .rw, 0, .pwr, .mod⟩]⟩,
  -- SOL_CHSTATj
  ⟨0x40201000, [(0x100000, 2), (0x20, 32)], [⟨29, 29, .w1c, 0, .pwr, .mod⟩,
    ⟨28, 28, .w1c, 0, .pwr, .mod⟩,
    ⟨27, 27, .w1c, 0, .pwr, .mod⟩,
    ⟨26, 26, .w1c, 0, .pwr, .mod⟩,
    ⟨25, 25, .w1c, 0, .pwr, .mod⟩,
    ⟨24, 24, .w1c, 0, .pwr, .mod⟩,
    ⟨23, 23, .w1c, 0, .pwr, .mod⟩,
    ⟨22, 22, .w1c, 0, .pwr, .mod⟩,
    ⟨21, 21, .w1c, 0, .pwr, .mod⟩,
    ⟨20, 20, .w1c, 0, .pwr, .mod⟩,
    ⟨19, 19, .w1c, 0, .pwr, .mod⟩,
    ⟨18, 18, .w1c, 0, .pwr, .mod⟩,
    ⟨17, 17, .w1c, 0, .pwr, .mod⟩,
    ⟨16, 16, .w1c, 0, .pwr, .mod⟩,
    ⟨15, 12, .ro, 0, .pwr, .mod⟩,
    ⟨11, 11, .ro, 0, .pwr, .mod⟩,
    ⟨10, 10, .ro, 0, .pwr, .mod⟩,
    ⟨9, 9, .ro, 0, .pwr, .mod⟩,
    ⟨8, 8, .ro, 0, .pwr, .mod⟩,
    ⟨7, 6, .ro, 0, .pwr, .mod⟩,
    ⟨5, 4, .ro, 0, .pwr, .mod⟩,
    ⟨2, 0, .ro, 0, .pwr, .mod⟩]⟩,
  -- SOL_CHIj
  ⟨0x40201004, [(0x100000, 2), (0x20, 32)], [⟨15, 0, .ro, 0, .pwr, .mod⟩]⟩,
  -- SOL_CHCMDj
  ⟨0x40201008, [(0x100000, 2), (0x20, 32)], [⟨15, 0, .ro, 0, .pwr, .mod⟩]⟩,
  -- SOL_CMDj
  ⟨0x4020100C, [(0x100000, 2), (0x20, 32)], [⟨31, 31, .rw, 0, .pwr, .rtx⟩,
    ⟨15, 0, .rw, 0, .pwr, .rtx⟩]⟩,
  -- SOL_CHSAFEj
  ⟨0x40201010, [(0x100000, 2), (0x20, 32)], [⟨31, 31, .ro, 0, .pwr, .mod⟩,
    ⟨16, 16, .ro, 0, .pwr, .mod⟩,
    ⟨15, 0, .ro, 0, .pwr, .mod⟩]⟩]

/-- The whole register map of SOL (R225). -/
def rowsSOL : List RegRow := rowsSOL0 ++ rowsSOL1

/-- Register map of LSW, R248, part 1. -/
def rowsLSW0 : List RegRow := [
  -- LSW_CTL
  ⟨0x40240000, [(0x100000, 2)], [⟨31, 31, .w1s, 0, .pwr, .mod⟩,
    ⟨0, 0, .rw, 0, .pwr, .mod⟩]⟩,
  -- LSW_STAT
  ⟨0x40240004, [(0x100000, 2)], [⟨12, 12, .w1c, 0, .pwr, .mod⟩,
    ⟨11, 11, .w1c, 0, .pwr, .mod⟩,
    ⟨10, 10, .w1c, 0, .pwr, .mod⟩,
    ⟨9, 9, .w1c, 0, .pwr, .mod⟩,
    ⟨8, 8, .w1c, 0, .pwr, .mod⟩,
    ⟨7, 7, .w1c, 0, .pwr, .mod⟩,
    ⟨6, 6, .w1c, 0, .pwr, .mod⟩,
    ⟨5, 5, .w1c, 0, .pwr, .mod⟩,
    ⟨4, 4, .w1c, 0, .pwr, .mod⟩,
    ⟨3, 3, .w1c, 0, .pwr, .mod⟩,
    ⟨2, 2, .w1c, 0, .pwr, .mod⟩,
    ⟨1, 1, .w1c, 0, .pwr, .mod⟩,
    ⟨0, 0, .w1c, 0, .pwr, .mod⟩]⟩,
  -- LSW_SHEDCNT
  ⟨0x40240008, [(0x100000, 2)], [⟨31, 0, .rc, 0, .pwr, .mod⟩]⟩,
  -- LSW_RETRYCNT
  ⟨0x4024000C, [(0x100000, 2)], [⟨31, 0, .rc, 0, .pwr, .mod⟩]⟩,
  -- LSW_DIESTAT
  ⟨0x40240010, [(0x100000, 2)], [⟨16, 16, .w1c, 0, .pwr, .mod⟩,
    ⟨11, 0, .ro, 0, .pwr, .mod⟩]⟩,
  -- LSW_GRPCFGg
  ⟨0x40240020, [(0x100000, 2), (0x10, 4)], [⟨31, 31, .rw, 1, .pwr, .mod⟩,
    ⟨30, 24, .rw, 0x4B, .pwr, .mod⟩,
    ⟨23, 8, .rw, 0x3E8, .pwr, .mod⟩,
    ⟨7, 0, .rwl, 0xC8, .pwr, .mod⟩]⟩,
  -- LSW_GRPSTATg
  ⟨0x40240024, [(0x100000, 2), (0x10, 4)], [⟨31, 31, .w1c, 0, .pwr, .mod⟩,
    ⟨29, 24, .ro, 0, .pwr, .mod⟩,
    ⟨11, 0, .ro, 0, .pwr, .mod⟩]⟩,
  -- LSW_GRPVg
  ⟨0x40240028, [(0x100000, 2), (0x10, 4)], [⟨15, 0, .ro, 0, .pwr, .mod⟩]⟩,
  -- LSW_CLSTATc
  ⟨0x40240080, [(0x100000, 2), (4, 6)], [⟨31, 31, .w1c, 0, .pwr, .mod⟩,
    ⟨25, 24, .ro, 0, .pwr, .mod⟩,
    ⟨15, 0, .ro, 0, .pwr, .mod⟩]⟩,
  -- LSW_CHSTATj
  ⟨0x40241000, [(0x100000, 2), (0x20, 48)], [⟨27, 27, .w1c, 0, .pwr, .mod⟩,
    ⟨26, 26, .w1c, 0, .pwr, .mod⟩,
    ⟨25, 25, .w1c, 0, .pwr, .mod⟩,
    ⟨24, 24, .w1c, 0, .pwr, .mod⟩,
    ⟨23, 23, .w1c, 0, .pwr, .mod⟩,
    ⟨22, 22, .w1c, 0, .pwr, .mod⟩,
    ⟨21, 21, .w1c, 0, .pwr, .mod⟩,
    ⟨20, 20, .w1c, 0, .pwr, .mod⟩,
    ⟨19, 19, .w1c, 0, .pwr, .mod⟩,
    ⟨18, 18, .w1c, 0, .pwr, .mod⟩,
    ⟨15, 13, .ro, 0, .pwr, .mod⟩,
    ⟨12, 10, .ro, 0, .pwr, .mod⟩,
    ⟨9, 9, .ro, 0, .pwr, .mod⟩,
    ⟨8, 8, .ro, 0, .pwr, .mod⟩,
    ⟨7, 7, .ro, 0, .pwr, .mod⟩,
    ⟨6, 6, .ro, 0, .pwr, .mod⟩,
    ⟨2, 0, .ro, 0, .pwr, .mod⟩]⟩,
  -- LSW_CHIj
  ⟨0x40241004, [(0x100000, 2), (0x20, 48)], [⟨15, 0, .ro, 0, .pwr, .mod⟩]⟩,
  -- LSW_CHDUTYj
  ⟨0x40241008, [(0x100000, 2), (0x20, 48)], [⟨13, 0, .ro, 0, .pwr, .mod⟩]⟩]

/-- Register map of LSW, R248, part 2. -/
def rowsLSW1 : List RegRow := [
  -- LSW_CMDj
  ⟨0x4024100C, [(0x100000, 2), (0x20, 48)], [⟨31, 31, .rw, 0, .pwr, .rtx⟩,
    ⟨13, 0, .rw, 0, .pwr, .rtx⟩]⟩,
  -- LSW_CHSAFEj
  ⟨0x40241010, [(0x100000, 2), (0x20, 48)], [⟨31, 31, .ro, 0, .pwr, .mod⟩,
    ⟨16, 16, .ro, 0, .pwr, .mod⟩,
    ⟨13, 0, .ro, 0, .pwr, .mod⟩]⟩]

/-- The whole register map of LSW (R248). -/
def rowsLSW : List RegRow := rowsLSW0 ++ rowsLSW1

/-- Register map of DIO, R259, part 1. -/
def rowsDIO0 : List RegRow := [
  -- DIO_CTL
  ⟨0x40280000, [(0x100000, 2)], [⟨8, 8, .cmd, 0, .none, .por⟩,
    ⟨0, 0, .rw, 0, .pwr, .por⟩]⟩,
  -- DIO_STAT
  ⟨0x40280004, [(0x100000, 2)], [⟨16, 16, .ro, 0, .pwr, .por⟩,
    ⟨8, 8, .w1c, 0, .pwr, .por⟩,
    ⟨7, 7, .w1c, 0, .pwr, .por⟩,
    ⟨6, 6, .w1c, 0, .pwr, .por⟩,
    ⟨5, 5, .w1c, 0, .pwr, .por⟩,
    ⟨4, 4, .w1c, 0, .pwr, .por⟩,
    ⟨3, 3, .w1c, 0, .pwr, .por⟩,
    ⟨2, 2, .w1c, 0, .pwr, .por⟩,
    ⟨1, 1, .w1c, 0, .pwr, .por⟩,
    ⟨0, 0, .w1c, 0, .pwr, .por⟩]⟩,
  -- DIO_INLVL
  ⟨0x40280008, [(0x100000, 2)], [⟨31, 0, .ro, 0, .pwr, .por⟩]⟩,
  -- DIO_RAWLVL
  ⟨0x4028000C, [(0x100000, 2)], [⟨31, 0, .ro, 0, .pwr, .por⟩]⟩,
  -- DIO_OUTLVL
  ⟨0x40280010, [(0x100000, 2)], [⟨31, 0, .ro, 0, .pwr, .por⟩]⟩,
  -- DIO_CLSTATc
  ⟨0x40280020, [(0x100000, 2), (4, 4)], [⟨31, 31, .w1c, 0, .pwr, .por⟩,
    ⟨16, 16, .ro, 0, .pwr, .por⟩,
    ⟨12, 0, .ro, 0, .pwr, .por⟩]⟩,
  -- DIO_PTSTATj
  ⟨0x40281000, [(0x100000, 2), (0x10, 32)], [⟨24, 24, .w1c, 0, .pwr, .por⟩,
    ⟨23, 23, .w1c, 0, .pwr, .por⟩,
    ⟨22, 22, .w1c, 0, .pwr, .por⟩,
    ⟨21, 21, .w1c, 0, .pwr, .por⟩,
    ⟨20, 20, .w1c, 0, .pwr, .por⟩,
    ⟨19, 19, .w1c, 0, .pwr, .por⟩,
    ⟨18, 18, .w1c, 0, .pwr, .por⟩,
    ⟨15, 14, .ro, 0, .pwr, .por⟩,
    ⟨9, 9, .ro, 0, .pwr, .por⟩,
    ⟨8, 8, .ro, 0, .pwr, .por⟩,
    ⟨2, 0, .ro, 0, .pwr, .por⟩]⟩,
  -- DIO_INTSj
  ⟨0x40281004, [(0x100000, 2), (0x10, 32)], [⟨31, 0, .ro, 0, .pwr, .por⟩]⟩,
  -- DIO_CMDj
  ⟨0x40281008, [(0x100000, 2), (0x10, 32)], [⟨31, 31, .rw, 0, .pwr, .rtx⟩]⟩,
  -- DIO_PTSAFEj
  ⟨0x4028100C, [(0x100000, 2), (0x10, 32)], [⟨31, 31, .ro, 0, .pwr, .por⟩,
    ⟨16, 16, .ro, 0, .pwr, .por⟩]⟩]

/-- The whole register map of DIO (R259). -/
def rowsDIO : List RegRow := rowsDIO0

/-- Register map of AFE, R281, part 1. -/
def rowsAFE0 : List RegRow := [
  -- AFE_CTL
  ⟨0x40400000, [], [⟨31, 31, .w1s, 0, .afe, .mod⟩,
    ⟨0, 0, .rw, 0, .afe, .mod⟩]⟩,
  -- AFE_STAT
  ⟨0x40400004, [], [⟨2, 2, .w1c, 0, .afe, .mod⟩,
    ⟨1, 1, .w1c, 0, .afe, .mod⟩,
    ⟨0, 0, .w1c, 0, .afe, .mod⟩]⟩,
  -- AFE_EXCCFGn
  ⟨0x40400010, [(4, 12)], [⟨2, 1, .rw, 0, .afe, .mod⟩,
    ⟨0, 0, .rw, 0, .afe, .mod⟩]⟩,
  -- AFE_EXCSTATn
  ⟨0x40400040, [(4, 12)], [⟨31, 31, .w1c, 0, .afe, .mod⟩,
    ⟨16, 16, .ro, 0, .afe, .mod⟩,
    ⟨15, 0, .ro, 0, .afe, .mod⟩]⟩,
  -- AFE_RESi
  ⟨0x40400100, [(0x10, 48)], [⟨31, 29, .ro, 7, .afe, .mod⟩,
    ⟨23, 0, .ro, 0, .afe, .mod⟩]⟩,
  -- AFE_TSi
  ⟨0x40400104, [(0x10, 48)], [⟨31, 0, .ro, 0, .afe, .mod⟩]⟩,
  -- AFE_CHSTATi
  ⟨0x40400108, [(0x10, 48)], [⟨17, 17, .w1c, 0, .afe, .mod⟩,
    ⟨16, 16, .w1c, 0, .afe, .mod⟩,
    ⟨0, 0, .ro, 0, .afe, .mod⟩]⟩,
  -- AFE_FIRLENf
  ⟨0x40400800, [(4, 3)], [⟨5, 0, .rwl, 0, .afe, .mod⟩]⟩,
  -- AFE_FIRf_t
  ⟨0x40401000, [(0x80, 3), (4, 32)], [⟨17, 0, .rwl, 0, .afe, .mod⟩]⟩]

/-- The whole register map of AFE (R281). -/
def rowsAFE : List RegRow := rowsAFE0

/-- Register map of PLS, R282, part 1. -/
def rowsPLS0 : List RegRow := [
  -- PLS_CTL
  ⟨0x40440000, [], [⟨31, 31, .w1s, 0, .afe, .mod⟩,
    ⟨0, 0, .rw, 0, .afe, .mod⟩]⟩,
  -- PLS_STAT
  ⟨0x40440004, [], [⟨2, 2, .w1c, 0, .afe, .mod⟩,
    ⟨1, 1, .w1c, 0, .afe, .mod⟩,
    ⟨0, 0, .w1c, 0, .afe, .mod⟩]⟩,
  -- PLS_CNTn
  ⟨0x40440100, [(0x20, 24)], [⟨31, 0, .ro, 0, .afe, .mod⟩]⟩,
  -- PLS_RATEn
  ⟨0x40440104, [(0x20, 24)], [⟨31, 0, .ro, 0, .afe, .mod⟩]⟩,
  -- PLS_TSn
  ⟨0x40440108, [(0x20, 24)], [⟨31, 0, .ro, 0, .afe, .mod⟩]⟩,
  -- PLS_AUXn
  ⟨0x4044010C, [(0x20, 24)], [⟨31, 0, .ro, 0, .afe, .mod⟩]⟩,
  -- PLS_CHSTATn
  ⟨0x40440110, [(0x20, 24)], [⟨31, 22, .ro, 0, .afe, .mod⟩,
    ⟨17, 17, .w1c, 0, .afe, .mod⟩,
    ⟨16, 16, .w1c, 0, .afe, .mod⟩,
    ⟨1, 1, .ro, 0, .afe, .mod⟩,
    ⟨0, 0, .ro, 0, .afe, .mod⟩]⟩,
  -- PLS_ZXCFGz
  ⟨0x40440400, [(0x10, 2)], [⟨0, 0, .rw, 0, .afe, .mod⟩]⟩,
  -- PLS_ZXSTATz
  ⟨0x40440404, [(0x10, 2)], [⟨31, 31, .w1c, 0, .afe, .mod⟩,
    ⟨30, 30, .ro, 0, .afe, .mod⟩,
    ⟨23, 0, .ro, 0, .afe, .mod⟩]⟩,
  -- PLS_ZXTSz
  ⟨0x40440408, [(0x10, 2)], [⟨31, 0, .ro, 0, .afe, .mod⟩]⟩]

/-- The whole register map of PLS (R282). -/
def rowsPLS : List RegRow := rowsPLS0

/-- Register map of IMU, R283, part 1. -/
def rowsIMU0 : List RegRow := [
  -- IMU_CTL
  ⟨0x40480000, [], [⟨31, 31, .w1s, 0, .afe, .mod⟩,
    ⟨10, 8, .rwl, 2, .afe, .mod⟩,
    ⟨5, 4, .rwl, 1, .afe, .mod⟩,
    ⟨1, 1, .w1s, 0, .afe, .mod⟩,
    ⟨0, 0, .rw, 0, .afe, .mod⟩]⟩,
  -- IMU_STAT
  ⟨0x40480004, [], [⟨2, 2, .w1c, 0, .afe, .mod⟩,
    ⟨1, 1, .w1c, 0, .afe, .mod⟩,
    ⟨0, 0, .w1c, 0, .afe, .mod⟩]⟩,
  -- IMU_AXY
  ⟨0x40480010, [], [⟨31, 16, .ro, 0, .afe, .mod⟩,
    ⟨15, 0, .ro, 0, .afe, .mod⟩]⟩,
  -- IMU_AZT
  ⟨0x40480014, [], [⟨31, 16, .ro, 0, .afe, .mod⟩,
    ⟨15, 0, .ro, 0, .afe, .mod⟩]⟩,
  -- IMU_GXY
  ⟨0x40480018, [], [⟨31, 16, .ro, 0, .afe, .mod⟩,
    ⟨15, 0, .ro, 0, .afe, .mod⟩]⟩,
  -- IMU_GZ
  ⟨0x4048001C, [], [⟨15, 0, .ro, 0, .afe, .mod⟩]⟩,
  -- IMU_TS
  ⟨0x40480020, [], [⟨31, 0, .ro, 0, .afe, .mod⟩]⟩]

/-- The whole register map of IMU (R283). -/
def rowsIMU : List RegRow := rowsIMU0

/-- Register map of WVE, R314, part 1. -/
def rowsWVE0 : List RegRow := [
  -- WVE_CTL
  ⟨0x40150000, [], [⟨31, 31, .w1s, 0, .ctl, .rtx⟩,
    ⟨0, 0, .rw, 0, .ctl, .rtx⟩]⟩,
  -- WVE_STAT
  ⟨0x40150004, [], [⟨9, 9, .w1c, 0, .ctl, .rtx⟩,
    ⟨8, 8, .w1c, 0, .ctl, .rtx⟩,
    ⟨7, 7, .w1c, 0, .ctl, .rtx⟩,
    ⟨6, 6, .w1c, 0, .ctl, .rtx⟩,
    ⟨5, 5, .w1c, 0, .ctl, .rtx⟩,
    ⟨4, 4, .w1c, 0, .ctl, .rtx⟩,
    ⟨3, 3, .w1c, 0, .ctl, .rtx⟩,
    ⟨2, 2, .w1c, 0, .ctl, .rtx⟩,
    ⟨1, 1, .w1c, 0, .ctl, .rtx⟩,
    ⟨0, 0, .w1c, 0, .ctl, .rtx⟩]⟩,
  -- WVE_SOL
  ⟨0x40150008, [], [⟨8, 8, .ro, 0, .ctl, .rtx⟩,
    ⟨6, 4, .ro, 0, .ctl, .rtx⟩,
    ⟨2, 0, .ro, 0, .ctl, .rtx⟩]⟩,
  -- WVE_SOLIN
  ⟨0x4015000C, [], [⟨31, 0, .ro, 0, .ctl, .rtx⟩]⟩,
  -- WVE_HERR
  ⟨0x40150010, [], [⟨31, 0, .ro, 0, .ctl, .rtx⟩]⟩,
  -- WVE_FULLCFG
  ⟨0x40150014, [], [⟨31, 16, .rw, 0x32, .ctl, .rtx⟩,
    ⟨2, 0, .rw, 4, .ctl, .rtx⟩]⟩,
  -- WVE_COAST
  ⟨0x40150018, [], [⟨15, 0, .rw, 0x2710, .ctl, .rtx⟩]⟩,
  -- WVE_VTOL_PS
  ⟨0x4015001C, [], [⟨31, 16, .rw, 0x96, .ctl, .rtx⟩,
    ⟨15, 0, .rw, 0x12C, .ctl, .rtx⟩]⟩,
  -- WVE_VTOL_H
  ⟨0x40150020, [], [⟨15, 0, .rw, 0x64, .ctl, .rtx⟩]⟩,
  -- WVE_HITCH
  ⟨0x40150024, [], [⟨31, 16, .rwl, 0, .ctl, .rtx⟩,
    ⟨15, 0, .rwl, 0, .ctl, .rtx⟩]⟩,
  -- WVE_HITCH_I
  ⟨0x40150028, [], [⟨15, 0, .rwl, 0, .ctl, .rtx⟩]⟩,
  -- WVE_FIELD
  ⟨0x40150030, [], [⟨15, 0, .ro, 0, .ctl, .rtx⟩]⟩]

/-- Register map of WVE, R314, part 2. -/
def rowsWVE1 : List RegRow := [
  -- WVE_ORG_LAT_LO
  ⟨0x40150034, [], [⟨31, 0, .ro, 0, .ctl, .rtx⟩]⟩,
  -- WVE_ORG_LAT_HI
  ⟨0x40150038, [], [⟨31, 0, .ro, 0, .ctl, .rtx⟩]⟩,
  -- WVE_ORG_LON_LO
  ⟨0x4015003C, [], [⟨31, 0, .ro, 0, .ctl, .rtx⟩]⟩,
  -- WVE_ORG_LON_HI
  ⟨0x40150040, [], [⟨31, 0, .ro, 0, .ctl, .rtx⟩]⟩,
  -- WVE_ORG_H
  ⟨0x40150044, [], [⟨31, 0, .ro, 0, .ctl, .rtx⟩]⟩,
  -- WVE_GUIDE
  ⟨0x40150050, [], [⟨15, 8, .rw, 0, .ctl, .rtx⟩,
    ⟨4, 4, .rw, 0, .ctl, .rtx⟩,
    ⟨1, 0, .rw, 0, .ctl, .rtx⟩]⟩,
  -- WVE_GUIDE_E
  ⟨0x40150054, [], [⟨31, 0, .rw, 0, .ctl, .rtx⟩]⟩,
  -- WVE_GUIDE_N
  ⟨0x40150058, [], [⟨31, 0, .rw, 0, .ctl, .rtx⟩]⟩,
  -- WVE_GUIDE_DIR
  ⟨0x4015005C, [], [⟨31, 0, .rw, 0, .ctl, .rtx⟩]⟩,
  -- WVE_OUTCFG
  ⟨0x40150060, [], [⟨31, 16, .rw, 0xA, .ctl, .rtx⟩,
    ⟨15, 8, .rw, 0x10, .ctl, .rtx⟩,
    ⟨3, 0, .rw, 8, .ctl, .rtx⟩]⟩,
  -- WVE_TRKCFG
  ⟨0x40150064, [], [⟨31, 24, .rw, 0xA, .ctl, .rtx⟩,
    ⟨23, 20, .rw, 5, .ctl, .rtx⟩,
    ⟨19, 16, .rw, 3, .ctl, .rtx⟩,
    ⟨15, 0, .rw, 0x12C, .ctl, .rtx⟩]⟩,
  -- WVE_TRKCOAST
  ⟨0x40150068, [], [⟨15, 0, .rw, 0x7D0, .ctl, .rtx⟩]⟩]

/-- Register map of WVE, R314, part 3. -/
def rowsWVE2 : List RegRow := [
  -- WVE_LATECNT
  ⟨0x40150070, [], [⟨31, 0, .rc, 0, .ctl, .rtx⟩]⟩,
  -- WVE_CORRCNT
  ⟨0x40150074, [], [⟨31, 0, .rc, 0, .ctl, .rtx⟩]⟩,
  -- WVE_UNPAIRCNT
  ⟨0x40150078, [], [⟨31, 0, .rc, 0, .ctl, .rtx⟩]⟩,
  -- WVE_BADCNT
  ⟨0x4015007C, [], [⟨31, 0, .rc, 0, .ctl, .rtx⟩]⟩,
  -- WVE_DROPCNT
  ⟨0x40150080, [], [⟨31, 0, .rc, 0, .ctl, .rtx⟩]⟩,
  -- WVE_TRKNUM
  ⟨0x40150084, [], [⟨24, 16, .ro, 0, .ctl, .rtx⟩,
    ⟨8, 0, .ro, 0, .ctl, .rtx⟩]⟩,
  -- WVE_SRCSTATs
  ⟨0x40150100, [(0x10, 32)], [⟨31, 31, .w1c, 0, .ctl, .rtx⟩,
    ⟨30, 30, .w1c, 0, .ctl, .rtx⟩,
    ⟨29, 29, .w1c, 0, .ctl, .rtx⟩,
    ⟨28, 28, .w1c, 0, .ctl, .rtx⟩,
    ⟨27, 27, .w1c, 0, .ctl, .rtx⟩,
    ⟨9, 8, .ro, 0, .ctl, .rtx⟩,
    ⟨5, 4, .ro, 0, .ctl, .rtx⟩,
    ⟨0, 0, .ro, 0, .ctl, .rtx⟩]⟩,
  -- WVE_SRCOFFs
  ⟨0x40150104, [(0x10, 32)], [⟨31, 0, .ro, 0, .ctl, .rtx⟩]⟩,
  -- WVE_SRCRATEs
  ⟨0x40150108, [(0x10, 32)], [⟨31, 0, .ro, 0, .ctl, .rtx⟩]⟩,
  -- WVE_SRCLATEs
  ⟨0x4015010C, [(0x10, 32)], [⟨15, 0, .rc, 0, .ctl, .rtx⟩]⟩]

/-- The whole register map of WVE (R314). -/
def rowsWVE : List RegRow := rowsWVE0 ++ rowsWVE1 ++ rowsWVE2

/-- Register map of GRF, R333, part 1. -/
def rowsGRF0 : List RegRow := [
  -- GRF_CTL
  ⟨0x404C0000, [], [⟨31, 31, .w1s, 0, .nav, .mod⟩,
    ⟨0, 0, .rw, 0, .nav, .mod⟩]⟩,
  -- GRF_STAT
  ⟨0x404C0004, [], [⟨3, 3, .w1c, 0, .nav, .mod⟩,
    ⟨2, 2, .w1c, 0, .nav, .mod⟩,
    ⟨1, 1, .w1c, 0, .nav, .mod⟩]⟩,
  -- GRF_ANTCFGa
  ⟨0x404C0010, [(4, 2)], [⟨5, 4, .rwl, 1, .nav, .mod⟩,
    ⟨1, 1, .rwl, 0, .nav, .mod⟩,
    ⟨0, 0, .rw, 0, .nav, .mod⟩]⟩,
  -- GRF_ANTSTATa
  ⟨0x404C0018, [(4, 2)], [⟨31, 31, .w1c, 0, .nav, .mod⟩,
    ⟨30, 30, .w1c, 0, .nav, .mod⟩,
    ⟨17, 16, .ro, 0, .nav, .mod⟩,
    ⟨11, 0, .ro, 0, .nav, .mod⟩]⟩,
  -- GRF_JAMa_b
  ⟨0x404C0040, [(0x10, 2), (4, 3)], [⟨31, 31, .w1c, 0, .nav, .mod⟩,
    ⟨23, 16, .rw, 0, .nav, .mod⟩,
    ⟨15, 8, .ro, 0, .nav, .mod⟩,
    ⟨7, 0, .ro, 0, .nav, .mod⟩]⟩,
  -- GRF_NOTCHa_b_f
  ⟨0x404C0100, [(0x40, 2), (0x10, 3), (4, 4)], [⟨31, 31, .rw, 0, .nav, .mod⟩,
    ⟨30, 30, .rw, 0, .nav, .mod⟩,
    ⟨25, 24, .rw, 0, .nav, .mod⟩,
    ⟨15, 0, .rw, 0, .nav, .mod⟩]⟩]

/-- The whole register map of GRF (R333). -/
def rowsGRF : List RegRow := rowsGRF0

/-- Register map of GNS, R334, part 1. -/
def rowsGNS0 : List RegRow := [
  -- GNS_CTL
  ⟨0x40500000, [], [⟨31, 31, .w1s, 0, .nav, .mod⟩,
    ⟨10, 8, .rwl, 0, .nav, .mod⟩,
    ⟨4, 4, .rw, 0, .nav, .mod⟩,
    ⟨0, 0, .rw, 0, .nav, .mod⟩]⟩,
  -- GNS_SIGEN
  ⟨0x40500004, [], [⟨14, 0, .rw, 0x7FFF, .nav, .mod⟩]⟩,
  -- GNS_HDGSIG
  ⟨0x40500008, [], [⟨14, 0, .rw, 0x2C9, .nav, .mod⟩]⟩,
  -- GNS_STAT
  ⟨0x4050000C, [], [⟨6, 6, .w1c, 0, .nav, .mod⟩,
    ⟨5, 5, .w1c, 0, .nav, .mod⟩,
    ⟨4, 4, .w1c, 0, .nav, .mod⟩,
    ⟨2, 2, .w1c, 0, .nav, .mod⟩]⟩,
  -- GNS_SOL
  ⟨0x40500010, [], [⟨31, 24, .ro, 0, .nav, .mod⟩,
    ⟨18, 16, .ro, 0, .nav, .mod⟩,
    ⟨12, 12, .ro, 0, .nav, .mod⟩,
    ⟨8, 8, .ro, 0, .nav, .mod⟩]⟩,
  -- GNS_ACQCMD
  ⟨0x40500020, [], [⟨1, 0, .wo, 0, .none, .por⟩]⟩,
  -- GNS_ACQSTAT
  ⟨0x40500024, [], [⟨23, 16, .ro, 0, .nav, .mod⟩,
    ⟨7, 0, .ro, 0, .nav, .mod⟩]⟩,
  -- GNS_CHUSE
  ⟨0x40500030, [], [⟨24, 16, .ro, 0, .nav, .mod⟩,
    ⟨8, 0, .ro, 0, .nav, .mod⟩]⟩,
  -- GNS_CHSEL
  ⟨0x40500034, [], [⟨7, 0, .rw, 0, .nav, .mod⟩]⟩,
  -- GNS_CHINFO
  ⟨0x40500038, [], [⟨31, 28, .ro, 0, .nav, .mod⟩,
    ⟨24, 24, .ro, 0, .nav, .mod⟩,
    ⟨21, 16, .ro, 0, .nav, .mod⟩,
    ⟨15, 8, .ro, 0, .nav, .mod⟩,
    ⟨7, 0, .ro, 0, .nav, .mod⟩]⟩,
  -- GNS_CORR
  ⟨0x40500040, [], [⟨16, 16, .rw, 0, .nav, .mod⟩,
    ⟨1, 0, .rw, 2, .nav, .mod⟩]⟩,
  -- GNS_HDGCFG
  ⟨0x40500050, [], [⟨31, 24, .rw, 0x14, .nav, .mod⟩,
    ⟨15, 0, .rwl, 0, .nav, .mod⟩]⟩]

/-- Register map of GNS, R334, part 2. -/
def rowsGNS1 : List RegRow := [
  -- GNS_INJCFG
  ⟨0x40500060, [], [⟨31, 16, .rw, 0x3E8, .nav, .mod⟩,
    ⟨0, 0, .rw, 0, .nav, .mod⟩]⟩,
  -- GNS_INJ_LAT_LO
  ⟨0x40500064, [], [⟨31, 0, .rw, 0, .nav, .mod⟩]⟩,
  -- GNS_INJ_LAT_HI
  ⟨0x40500068, [], [⟨31, 0, .rw, 0, .nav, .mod⟩]⟩,
  -- GNS_INJ_LON_LO
  ⟨0x4050006C, [], [⟨31, 0, .rw, 0, .nav, .mod⟩]⟩,
  -- GNS_INJ_LON_HI
  ⟨0x40500070, [], [⟨31, 0, .rw, 0, .nav, .mod⟩]⟩,
  -- GNS_INJ_H
  ⟨0x40500074, [], [⟨31, 0, .rw, 0, .nav, .mod⟩]⟩,
  -- GNS_INJ_EPOCH
  ⟨0x40500078, [], [⟨31, 0, .rw, 0, .nav, .mod⟩]⟩,
  -- GNS_INJ_CTL
  ⟨0x4050007C, [], [⟨31, 31, .wo, 0, .none, .por⟩,
    ⟨18, 16, .rw, 0, .nav, .mod⟩,
    ⟨15, 0, .rw, 0, .nav, .mod⟩]⟩,
  -- GNS_CLKOFF_LO
  ⟨0x40500080, [], [⟨31, 0, .ro, 0, .nav, .mod⟩]⟩,
  -- GNS_CLKOFF_HI
  ⟨0x40500084, [], [⟨31, 0, .ro, 0, .nav, .mod⟩]⟩,
  -- GNS_DROPCNT
  ⟨0x40500090, [], [⟨31, 0, .rc, 0, .nav, .mod⟩]⟩]

/-- The whole register map of GNS (R334). -/
def rowsGNS : List RegRow := rowsGNS0 ++ rowsGNS1

/-- Register map of TIM, R351, part 1. -/
def rowsTIM0 : List RegRow := [
  -- TIM_CTL
  ⟨0x40090000, [], [⟨31, 31, .w1s, 0, .aon, .bor⟩,
    ⟨8, 8, .rw, 1, .aon, .bor⟩,
    ⟨0, 0, .rw, 0, .aon, .bor⟩]⟩,
  -- TIM_STAT
  ⟨0x40090004, [], [⟨6, 6, .w1c, 0, .aon, .bor⟩,
    ⟨5, 5, .w1c, 0, .aon, .bor⟩,
    ⟨4, 4, .w1c, 0, .aon, .bor⟩,
    ⟨3, 3, .w1c, 0, .aon, .bor⟩,
    ⟨2, 2, .w1c, 0, .aon, .bor⟩,
    ⟨1, 1, .w1c, 0, .aon, .bor⟩,
    ⟨0, 0, .w1c, 0, .aon, .bor⟩]⟩,
  -- TIM_STATE
  ⟨0x40090008, [], [⟨10, 8, .ro, 0, .aon, .bor⟩,
    ⟨2, 0, .ro, 0, .aon, .bor⟩]⟩,
  -- TIM_ERR
  ⟨0x4009000C, [], [⟨31, 0, .ro, 0, .aon, .bor⟩]⟩,
  -- TIM_MTB_LO
  ⟨0x40090010, [], [⟨31, 0, .ro, 0, .aon, .bor⟩]⟩,
  -- TIM_MTB_HI
  ⟨0x40090014, [], [⟨31, 0, .ro, 0, .aon, .bor⟩]⟩,
  -- TIM_RT_NS
  ⟨0x40090018, [], [⟨29, 0, .ro, 0, .aon, .bor⟩]⟩,
  -- TIM_RT_SEC_LO
  ⟨0x4009001C, [], [⟨31, 0, .ro, 0, .aon, .bor⟩]⟩,
  -- TIM_RT_SEC_HI
  ⟨0x40090020, [], [⟨1, 0, .ro, 0, .aon, .bor⟩]⟩,
  -- TIM_RATE
  ⟨0x40090024, [], [⟨31, 0, .ro, 0, .aon, .bor⟩]⟩,
  -- TIM_SRCCFG
  ⟨0x40090030, [], [⟨13, 12, .rw, 1, .aon, .bor⟩,
    ⟨9, 8, .rw, 2, .aon, .bor⟩,
    ⟨5, 4, .rw, 3, .aon, .bor⟩]⟩,
  -- TIM_SERVO
  ⟨0x40090034, [], [⟨31, 16, .rw, 0x3E8, .aon, .bor⟩,
    ⟨2, 0, .rwl, 3, .aon, .bor⟩]⟩]

/-- Register map of TIM, R351, part 2. -/
def rowsTIM1 : List RegRow := [
  -- TIM_HOLD
  ⟨0x40090038, [], [⟨31, 16, .rw, 0x12C, .aon, .bor⟩,
    ⟨15, 0, .rw, 0x1F4, .aon, .bor⟩]⟩,
  -- TIM_SLEW
  ⟨0x4009003C, [], [⟨9, 0, .rw, 0xA, .aon, .bor⟩]⟩,
  -- TIM_STEPTH
  ⟨0x40090040, [], [⟨19, 0, .rw, 0x3E8, .aon, .bor⟩]⟩,
  -- TIM_SET_NS
  ⟨0x40090044, [], [⟨29, 0, .rw, 0, .aon, .bor⟩]⟩,
  -- TIM_SET_SEC_LO
  ⟨0x40090048, [], [⟨31, 0, .rw, 0, .aon, .bor⟩]⟩,
  -- TIM_SET_SEC_HI
  ⟨0x4009004C, [], [⟨31, 31, .wo, 0, .none, .por⟩,
    ⟨1, 0, .rw, 0, .aon, .bor⟩]⟩,
  -- TIM_PTPOFS_LO
  ⟨0x40090050, [], [⟨31, 0, .rw, 0, .aon, .bor⟩]⟩,
  -- TIM_PTPOFS_HI
  ⟨0x40090054, [], [⟨31, 0, .rw, 0, .aon, .bor⟩]⟩,
  -- TIM_PTPINST
  ⟨0x40090058, [], [⟨31, 0, .rw, 0, .aon, .bor⟩]⟩,
  -- TIM_PTPCFG
  ⟨0x4009005C, [], [⟨15, 0, .rw, 0xBB8, .aon, .bor⟩]⟩,
  -- TIM_UTC
  ⟨0x40090060, [], [⟨31, 16, .rw, 0, .aon, .bor⟩,
    ⟨15, 0, .rw, 0, .aon, .bor⟩]⟩,
  -- TIM_UTCAT
  ⟨0x40090064, [], [⟨31, 0, .rw, 0, .aon, .bor⟩]⟩]

/-- Register map of TIM, R351, part 3. -/
def rowsTIM2 : List RegRow := [
  -- TIM_SETERR
  ⟨0x40090068, [], [⟨31, 0, .rw, 0xFFFFFFFF, .aon, .bor⟩]⟩,
  -- TIM_TPCFGp
  ⟨0x40090070, [(0x10, 2)], [⟨31, 31, .rw, 0, .aon, .bor⟩,
    ⟨30, 30, .rw, 0, .aon, .bor⟩,
    ⟨29, 29, .rw, 0, .aon, .bor⟩,
    ⟨28, 28, .rw, 0, .aon, .bor⟩,
    ⟨27, 27, .rw, 0, .aon, .bor⟩]⟩,
  -- TIM_TPPERp
  ⟨0x40090074, [(0x10, 2)], [⟨29, 0, .rw, 0, .aon, .bor⟩]⟩,
  -- TIM_TPWIDp
  ⟨0x40090078, [(0x10, 2)], [⟨29, 0, .rw, 0, .aon, .bor⟩]⟩,
  -- TIM_TPDLYp
  ⟨0x4009007C, [(0x10, 2)], [⟨24, 0, .rw, 0, .aon, .bor⟩]⟩,
  -- TIM_DROPCNT
  ⟨0x400900C0, [], [⟨31, 0, .rc, 0, .aon, .bor⟩]⟩]

/-- The whole register map of TIM (R351). -/
def rowsTIM : List RegRow := rowsTIM0 ++ rowsTIM1 ++ rowsTIM2

/-- Register map of YLD, R371, part 1. -/
def rowsYLD0 : List RegRow := [
  -- YLD_CTL
  ⟨0x40160000, [], [⟨31, 31, .w1s, 0, .ctl, .rtx⟩,
    ⟨0, 0, .rw, 0, .ctl, .rtx⟩]⟩,
  -- YLD_STAT
  ⟨0x40160004, [], [⟨7, 7, .w1c, 0, .ctl, .rtx⟩,
    ⟨6, 6, .w1c, 0, .ctl, .rtx⟩,
    ⟨5, 5, .w1c, 0, .ctl, .rtx⟩,
    ⟨4, 4, .w1c, 0, .ctl, .rtx⟩,
    ⟨3, 3, .w1c, 0, .ctl, .rtx⟩,
    ⟨2, 2, .w1c, 0, .ctl, .rtx⟩,
    ⟨1, 1, .w1c, 0, .ctl, .rtx⟩,
    ⟨0, 0, .w1c, 0, .ctl, .rtx⟩]⟩,
  -- YLD_CFG
  ⟨0x40160008, [], [⟨29, 24, .rwl, 0, .ctl, .rtx⟩,
    ⟨23, 23, .rwl, 1, .ctl, .rtx⟩,
    ⟨22, 20, .rwl, 0, .ctl, .rtx⟩,
    ⟨18, 16, .rwl, 0, .ctl, .rtx⟩,
    ⟨15, 0, .rwl, 0x3E8, .ctl, .rtx⟩]⟩,
  -- YLD_CUT01
  ⟨0x4016000C, [], [⟨31, 31, .rwl, 0, .ctl, .rtx⟩,
    ⟨27, 16, .rwl, 0, .ctl, .rtx⟩,
    ⟨15, 15, .rwl, 0, .ctl, .rtx⟩,
    ⟨11, 0, .rwl, 0, .ctl, .rtx⟩]⟩,
  -- YLD_CUT23
  ⟨0x40160010, [], [⟨31, 31, .rwl, 0, .ctl, .rtx⟩,
    ⟨27, 16, .rwl, 0, .ctl, .rtx⟩,
    ⟨15, 15, .rwl, 0, .ctl, .rtx⟩,
    ⟨11, 0, .rwl, 0, .ctl, .rtx⟩]⟩,
  -- YLD_FLOWCFG
  ⟨0x40160014, [], [⟨31, 31, .rwl, 0, .ctl, .rtx⟩,
    ⟨5, 0, .rwl, 0, .ctl, .rtx⟩]⟩,
  -- YLD_KF
  ⟨0x40160018, [], [⟨31, 0, .rw, 0, .ctl, .rtx⟩]⟩,
  -- YLD_TARE
  ⟨0x4016001C, [], [⟨23, 0, .rw, 0, .ctl, .rtx⟩]⟩,
  -- YLD_MOISTCFG
  ⟨0x40160020, [], [⟨31, 31, .rwl, 0, .ctl, .rtx⟩,
    ⟨5, 0, .rwl, 0, .ctl, .rtx⟩]⟩,
  -- YLD_KM
  ⟨0x40160024, [], [⟨31, 0, .rw, 0, .ctl, .rtx⟩]⟩,
  -- YLD_M0
  ⟨0x40160028, [], [⟨31, 0, .rw, 0, .ctl, .rtx⟩]⟩,
  -- YLD_DELAY0
  ⟨0x40160030, [], [⟨31, 16, .rw, 0xFA0, .ctl, .rtx⟩,
    ⟨15, 0, .rw, 0x1F40, .ctl, .rtx⟩]⟩]

/-- Register map of YLD, R371, part 2. -/
def rowsYLD1 : List RegRow := [
  -- YLD_DELAY1
  ⟨0x40160034, [], [⟨31, 16, .rw, 0x4E20, .ctl, .rtx⟩,
    ⟨15, 0, .rw, 0x1770, .ctl, .rtx⟩]⟩,
  -- YLD_DELAY2
  ⟨0x40160038, [], [⟨26, 16, .rw, 0x1F4, .ctl, .rtx⟩,
    ⟨14, 0, .rw, 0x2710, .ctl, .rtx⟩]⟩,
  -- YLD_QREF
  ⟨0x4016003C, [], [⟨31, 0, .rw, 0x41200000, .ctl, .rtx⟩]⟩,
  -- YLD_DNOW
  ⟨0x40160040, [], [⟨15, 0, .ro, 0, .ctl, .rtx⟩]⟩,
  -- YLD_CFECFGe
  ⟨0x40160080, [(0x20, 2)], [⟨31, 31, .rw, 0, .ctl, .rtx⟩,
    ⟨21, 16, .rw, 0, .ctl, .rtx⟩,
    ⟨12, 12, .rw, 0, .ctl, .rtx⟩,
    ⟨4, 0, .rw, 0, .ctl, .rtx⟩]⟩,
  -- YLD_CFEKQe
  ⟨0x40160084, [(0x20, 2)], [⟨31, 0, .rw, 0, .ctl, .rtx⟩]⟩,
  -- YLD_CFEX0e
  ⟨0x40160088, [(0x20, 2)], [⟨23, 0, .rw, 0, .ctl, .rtx⟩]⟩,
  -- YLD_CFETFe
  ⟨0x4016008C, [(0x20, 2)], [⟨15, 0, .rw, 0, .ctl, .rtx⟩]⟩,
  -- YLD_CFEOUTe
  ⟨0x40160090, [(0x20, 2)], [⟨31, 0, .ro, 0, .ctl, .rtx⟩]⟩,
  -- YLD_CFESTATe
  ⟨0x40160094, [(0x20, 2)], [⟨0, 0, .ro, 0, .ctl, .rtx⟩]⟩,
  -- YLD_LOSSCFGl
  ⟨0x40160100, [(0x20, 4)], [⟨31, 31, .rw, 0, .ctl, .rtx⟩,
    ⟨29, 28, .rw, 0, .ctl, .rtx⟩,
    ⟨15, 0, .rw, 0, .ctl, .rtx⟩]⟩,
  -- YLD_LOSSMASKl
  ⟨0x40160104, [(0x20, 4)], [⟨23, 0, .rw, 0, .ctl, .rtx⟩]⟩]

/-- Register map of YLD, R371, part 3. -/
def rowsYLD2 : List RegRow := [
  -- YLD_LOSSOUTl
  ⟨0x40160108, [(0x20, 4)], [⟨31, 0, .ro, 0, .ctl, .rtx⟩]⟩,
  -- YLD_LOSSSTATl
  ⟨0x4016010C, [(0x20, 4)], [⟨0, 0, .ro, 0, .ctl, .rtx⟩]⟩,
  -- YLD_POOLBASE_LO
  ⟨0x40160200, [], [⟨31, 6, .rwl, 0, .ctl, .rtx⟩]⟩,
  -- YLD_POOLBASE_HI
  ⟨0x40160204, [], [⟨7, 0, .rwl, 0, .ctl, .rtx⟩]⟩,
  -- YLD_POOLCFG
  ⟨0x40160208, [], [⟨4, 0, .rwl, 0, .ctl, .rtx⟩]⟩,
  -- YLD_POOLHEAD
  ⟨0x4016020C, [], [⟨31, 0, .ro, 0, .ctl, .rtx⟩]⟩,
  -- YLD_POOLTAIL
  ⟨0x40160210, [], [⟨31, 0, .rw, 0, .ctl, .rtx⟩]⟩,
  -- YLD_SREF
  ⟨0x40160220, [], [⟨31, 0, .rw, 1, .ctl, .rtx⟩]⟩,
  -- YLD_OUTCFG
  ⟨0x40160224, [], [⟨15, 0, .rw, 0x3E8, .ctl, .rtx⟩]⟩,
  -- YLD_DROPCNT
  ⟨0x40160228, [], [⟨31, 0, .rc, 0, .ctl, .rtx⟩]⟩,
  -- YLD_FOLDCNT
  ⟨0x4016022C, [], [⟨31, 0, .rc, 0, .ctl, .rtx⟩]⟩,
  -- YLD_CELLCNT
  ⟨0x40160230, [], [⟨31, 0, .rc, 0, .ctl, .rtx⟩]⟩]

/-- Register map of YLD, R371, part 4. -/
def rowsYLD3 : List RegRow := [
  -- YLD_UNMARKED
  ⟨0x40160234, [], [⟨31, 0, .rc, 0, .ctl, .rtx⟩]⟩,
  -- YLD_FLOWNOW
  ⟨0x40160238, [], [⟨31, 0, .ro, 0, .ctl, .rtx⟩]⟩,
  -- YLD_MOISTNOW
  ⟨0x4016023C, [], [⟨31, 0, .ro, 0, .ctl, .rtx⟩]⟩,
  -- YLD_TRACE
  ⟨0x40160240, [], [⟨11, 0, .ro, 0, .ctl, .rtx⟩]⟩]

/-- The whole register map of YLD (R371). -/
def rowsYLD : List RegRow := rowsYLD0 ++ rowsYLD1 ++ rowsYLD2 ++ rowsYLD3

/-- Register map of IMG, R408, part 1. -/
def rowsIMG0 : List RegRow := [
  -- IMG_CTL
  ⟨0x40600000, [], [⟨31, 31, .w1s, 0, .img, .rtx⟩,
    ⟨0, 0, .rw, 0, .img, .rtx⟩]⟩,
  -- IMG_STAT
  ⟨0x40600004, [], [⟨9, 9, .w1c, 0, .img, .rtx⟩,
    ⟨8, 8, .w1c, 0, .img, .rtx⟩,
    ⟨7, 7, .w1c, 0, .img, .rtx⟩,
    ⟨6, 6, .w1c, 0, .img, .rtx⟩,
    ⟨5, 5, .w1c, 0, .img, .rtx⟩,
    ⟨4, 4, .w1c, 0, .img, .rtx⟩,
    ⟨3, 3, .w1c, 0, .img, .rtx⟩,
    ⟨2, 2, .w1c, 0, .img, .rtx⟩,
    ⟨1, 1, .w1c, 0, .img, .rtx⟩,
    ⟨0, 0, .w1c, 0, .img, .rtx⟩]⟩,
  -- IMG_DROPCNT
  ⟨0x40600008, [], [⟨31, 0, .rc, 0, .img, .rtx⟩]⟩,
  -- IMG_SCHED
  ⟨0x40600010, [], [⟨15, 0, .rw, 0x64, .img, .rtx⟩]⟩,
  -- IMG_CAMCFGc
  ⟨0x40601000, [(0x100, 8)], [⟨29, 28, .rwl, 0, .img, .rtx⟩,
    ⟨25, 24, .rwl, 2, .img, .rtx⟩,
    ⟨21, 20, .rwl, 2, .img, .rtx⟩,
    ⟨19, 16, .rwl, 0, .img, .rtx⟩,
    ⟨13, 12, .rwl, 0, .img, .rtx⟩,
    ⟨8, 8, .rwl, 0, .img, .rtx⟩,
    ⟨0, 0, .rw, 0, .img, .rtx⟩]⟩,
  -- IMG_CAMSIZEc
  ⟨0x40601004, [(0x100, 8)], [⟨30, 16, .rwl, 0, .img, .rtx⟩,
    ⟨14, 0, .rwl, 0, .img, .rtx⟩]⟩,
  -- IMG_CAMSTATc
  ⟨0x40601008, [(0x100, 8)], [⟨16, 16, .w1c, 0, .img, .rtx⟩,
    ⟨17, 17, .w1c, 0, .img, .rtx⟩,
    ⟨18, 18, .w1c, 0, .img, .rtx⟩,
    ⟨19, 19, .w1c, 0, .img, .rtx⟩,
    ⟨20, 20, .w1c, 0, .img, .rtx⟩,
    ⟨21, 21, .w1c, 0, .img, .rtx⟩,
    ⟨22, 22, .w1c, 0, .img, .rtx⟩,
    ⟨23, 23, .w1c, 0, .img, .rtx⟩,
    ⟨2, 1, .ro, 0, .img, .rtx⟩,
    ⟨0, 0, .ro, 0, .img, .rtx⟩]⟩,
  -- IMG_FNUMc
  ⟨0x4060100C, [(0x100, 8)], [⟨31, 0, .ro, 0, .img, .rtx⟩]⟩,
  -- IMG_PRF0c
  ⟨0x40601010, [(0x100, 8)], [⟨31, 30, .rwl, 1, .img, .rtx⟩,
    ⟨15, 12, .rwl, 0, .img, .rtx⟩,
    ⟨11, 8, .rwl, 0, .img, .rtx⟩,
    ⟨6, 0, .rwl, 0, .img, .rtx⟩]⟩,
  -- IMG_PRF1c
  ⟨0x40601014, [(0x100, 8)], [⟨31, 16, .rwl, 0x3E8, .img, .rtx⟩,
    ⟨15, 0, .rwl, 0, .img, .rtx⟩]⟩,
  -- IMG_PRF2c
  ⟨0x40601018, [(0x100, 8)], [⟨23, 0, .rwl, 0, .img, .rtx⟩]⟩,
  -- IMG_PRF3c
  ⟨0x4060101C, [(0x100, 8)], [⟨31, 16, .rwl, 0, .img, .rtx⟩,
    ⟨15, 0, .rwl, 0, .img, .rtx⟩]⟩]

/-- Register map of IMG, R408, part 2. -/
def rowsIMG1 : List RegRow := [
  -- IMG_PRF4c
  ⟨0x40601020, [(0x100, 8)], [⟨31, 16, .rwl, 0, .img, .rtx⟩,
    ⟨15, 0, .rwl, 0, .img, .rtx⟩]⟩,
  -- IMG_PSET0c
  ⟨0x40601024, [(0x100, 8)], [⟨31, 16, .rw, 0, .img, .rtx⟩,
    ⟨15, 0, .rw, 0, .img, .rtx⟩]⟩,
  -- IMG_PSET1c
  ⟨0x40601028, [(0x100, 8)], [⟨31, 16, .rw, 0, .img, .rtx⟩,
    ⟨15, 0, .rw, 0, .img, .rtx⟩]⟩,
  -- IMG_PSETGOc
  ⟨0x4060102C, [(0x100, 8)], [⟨0, 0, .wo, 0, .none, .por⟩]⟩,
  -- IMG_LEDGc
  ⟨0x40601030, [(0x100, 8)], [⟨31, 16, .ro, 0, .img, .rtx⟩,
    ⟨15, 0, .ro, 0, .img, .rtx⟩]⟩,
  -- IMG_SUPCNTc
  ⟨0x40601034, [(0x100, 8)], [⟨31, 0, .rc, 0, .img, .rtx⟩]⟩,
  -- IMG_CCICMDc
  ⟨0x40601038, [(0x100, 8)], [⟨31, 31, .wo, 0, .none, .por⟩,
    ⟨30, 30, .ro, 0, .img, .rtx⟩,
    ⟨24, 24, .rw, 0, .img, .rtx⟩,
    ⟨23, 8, .rw, 0, .img, .rtx⟩,
    ⟨7, 0, .rw, 0, .img, .rtx⟩]⟩,
  -- IMG_RAWBASEc
  ⟨0x40601040, [(0x100, 8)], [⟨31, 0, .rwl, 0, .img, .rtx⟩]⟩,
  -- IMG_RAWCFGc
  ⟨0x40601044, [(0x100, 8)], [⟨3, 0, .rwl, 0, .img, .rtx⟩]⟩,
  -- IMG_CTXCFGx
  ⟨0x40602000, [(0x100, 16)], [⟨31, 30, .rwl, 0, .img, .rtx⟩,
    ⟨12, 12, .rw, 0, .img, .rtx⟩,
    ⟨11, 11, .rw, 0, .img, .rtx⟩,
    ⟨10, 10, .rw, 0, .img, .rtx⟩,
    ⟨9, 9, .rw, 0, .img, .rtx⟩,
    ⟨4, 0, .rw, 0, .img, .rtx⟩]⟩,
  -- IMG_CTXDISPx
  ⟨0x40602004, [(0x100, 16)], [⟨30, 16, .rw, 0, .img, .rtx⟩,
    ⟨14, 0, .rw, 0, .img, .rtx⟩]⟩,
  -- IMG_CTXCODEx
  ⟨0x40602008, [(0x100, 16)], [⟨30, 16, .rw, 0, .img, .rtx⟩,
    ⟨14, 0, .rw, 0, .img, .rtx⟩]⟩]

/-- Register map of IMG, R408, part 3. -/
def rowsIMG2 : List RegRow := [
  -- IMG_CTXZONEx
  ⟨0x4060200C, [(0x100, 16)], [⟨13, 8, .rw, 0, .img, .rtx⟩,
    ⟨5, 0, .rw, 0, .img, .rtx⟩]⟩,
  -- IMG_CTXFEATx
  ⟨0x40602010, [(0x100, 16)], [⟨31, 26, .rw, 0, .img, .rtx⟩,
    ⟨25, 13, .rw, 0, .img, .rtx⟩,
    ⟨12, 0, .rw, 0, .img, .rtx⟩]⟩,
  -- IMG_CTXETHx
  ⟨0x40602014, [(0x100, 16)], [⟨15, 0, .rw, 0, .img, .rtx⟩]⟩,
  -- IMG_CTXBLKx
  ⟨0x40602018, [(0x100, 16)], [⟨31, 0, .rw, 0, .img, .rtx⟩]⟩,
  -- IMG_CTXAPPLYx
  ⟨0x4060201C, [(0x100, 16)], [⟨31, 31, .wo, 0, .none, .por⟩,
    ⟨15, 0, .rw, 0, .img, .rtx⟩]⟩,
  -- IMG_PIPECFGp
  ⟨0x40603000, [(0x40, 4)], [⟨6, 0, .rw, 0x10, .img, .rtx⟩]⟩,
  -- IMG_PIPESTATp
  ⟨0x40603004, [(0x40, 4)], [⟨15, 8, .ro, 0, .img, .rtx⟩,
    ⟨7, 4, .ro, 0, .img, .rtx⟩,
    ⟨0, 0, .ro, 0, .img, .rtx⟩]⟩,
  -- IMG_ENCCFGs
  ⟨0x40680000, [(0x40, 4)], [⟨23, 16, .rwl, 0x1E, .img, .rtx⟩,
    ⟨8, 8, .rw, 0, .img, .rtx⟩,
    ⟨0, 0, .rw, 0, .img, .rtx⟩]⟩,
  -- IMG_ENCRATEs
  ⟨0x40680004, [(0x40, 4)], [⟨15, 0, .rw, 0xFA0, .img, .rtx⟩]⟩,
  -- IMG_ENCQPs
  ⟨0x40680008, [(0x40, 4)], [⟨13, 8, .rw, 0x33, .img, .rtx⟩,
    ⟨5, 0, .rw, 0xA, .img, .rtx⟩]⟩,
  -- IMG_ENCIDRs
  ⟨0x4068000C, [(0x40, 4)], [⟨0, 0, .wo, 0, .none, .por⟩]⟩,
  -- IMG_ENCSKIPs
  ⟨0x40680010, [(0x40, 4)], [⟨31, 0, .rc, 0, .img, .rtx⟩]⟩]

/-- The whole register map of IMG (R408). -/
def rowsIMG : List RegRow := rowsIMG0 ++ rowsIMG1 ++ rowsIMG2

/-- Register map of DSP, R420, part 1. -/
def rowsDSP0 : List RegRow := [
  -- DSP_CTL
  ⟨0x40700000, [], [⟨31, 31, .w1s, 0, .dsp, .rtx⟩,
    ⟨0, 0, .rw, 0, .dsp, .rtx⟩]⟩,
  -- DSP_STAT
  ⟨0x40700004, [], [⟨3, 3, .w1c, 0, .dsp, .rtx⟩,
    ⟨2, 2, .w1c, 0, .dsp, .rtx⟩,
    ⟨1, 1, .w1c, 0, .dsp, .rtx⟩,
    ⟨0, 0, .w1c, 0, .dsp, .rtx⟩]⟩,
  -- DSP_PCFGp
  ⟨0x40701000, [(0x1000, 2)], [⟨24, 24, .rw, 0, .dsp, .rtx⟩,
    ⟨17, 16, .rwl, 0, .dsp, .rtx⟩,
    ⟨12, 12, .rw, 0, .dsp, .rtx⟩,
    ⟨9, 9, .rwl, 0, .dsp, .rtx⟩,
    ⟨8, 8, .rwl, 1, .dsp, .rtx⟩,
    ⟨5, 4, .rwl, 1, .dsp, .rtx⟩,
    ⟨1, 0, .rwl, 2, .dsp, .rtx⟩]⟩,
  -- DSP_HTIMp
  ⟨0x40701004, [(0x1000, 2)], [⟨31, 16, .rwl, 0, .dsp, .rtx⟩,
    ⟨15, 0, .rwl, 0, .dsp, .rtx⟩]⟩,
  -- DSP_VTIMp
  ⟨0x40701008, [(0x1000, 2)], [⟨31, 16, .rwl, 0, .dsp, .rtx⟩,
    ⟨15, 0, .rwl, 0, .dsp, .rtx⟩]⟩,
  -- DSP_SYNCp
  ⟨0x4070100C, [(0x1000, 2)], [⟨27, 16, .rwl, 0, .dsp, .rtx⟩,
    ⟨11, 0, .rwl, 0, .dsp, .rtx⟩]⟩,
  -- DSP_PORCHp
  ⟨0x40701010, [(0x1000, 2)], [⟨27, 16, .rwl, 0, .dsp, .rtx⟩,
    ⟨11, 0, .rwl, 0, .dsp, .rtx⟩]⟩,
  -- DSP_PCLKp
  ⟨0x40701014, [(0x1000, 2)], [⟨17, 0, .rwl, 0, .dsp, .rtx⟩]⟩,
  -- DSP_RAILp
  ⟨0x40701018, [(0x1000, 2)], [⟨23, 16, .rwl, 0, .dsp, .rtx⟩,
    ⟨7, 0, .rwl, 0, .dsp, .rtx⟩]⟩,
  -- DSP_RAIL1p
  ⟨0x4070101C, [(0x1000, 2)], [⟨7, 0, .rwl, 0, .dsp, .rtx⟩]⟩,
  -- DSP_SEQTp
  ⟨0x40701020, [(0x1000, 2)], [⟨31, 24, .rwl, 0, .dsp, .rtx⟩,
    ⟨23, 16, .rwl, 0, .dsp, .rtx⟩,
    ⟨15, 8, .rwl, 0, .dsp, .rtx⟩,
    ⟨7, 0, .rwl, 0, .dsp, .rtx⟩]⟩,
  -- DSP_SEQT1p
  ⟨0x40701024, [(0x1000, 2)], [⟨19, 16, .rwl, 2, .dsp, .rtx⟩,
    ⟨7, 0, .rwl, 0, .dsp, .rtx⟩]⟩]

/-- Register map of DSP, R420, part 2. -/
def rowsDSP1 : List RegRow := [
  -- DSP_TEMPp
  ⟨0x40701028, [(0x1000, 2)], [⟨15, 0, .rw, 0x8000, .dsp, .rtx⟩]⟩,
  -- DSP_TBp
  ⟨0x4070102C, [(0x1000, 2)], [⟨23, 16, .rw, 0, .dsp, .rtx⟩,
    ⟨15, 8, .rw, 0, .dsp, .rtx⟩,
    ⟨7, 0, .rw, 0, .dsp, .rtx⟩]⟩,
  -- DSP_VCOMp_b
  ⟨0x40701030, [(0x1000, 2), (4, 4)], [⟨10, 0, .rw, 0, .dsp, .rtx⟩]⟩,
  -- DSP_BLp
  ⟨0x40701040, [(0x1000, 2)], [⟨31, 31, .rw, 0, .dsp, .rtx⟩,
    ⟨30, 16, .rw, 0xC8, .dsp, .rtx⟩,
    ⟨9, 0, .rw, 0, .dsp, .rtx⟩]⟩,
  -- DSP_PSTATp
  ⟨0x40701044, [(0x1000, 2)], [⟨19, 19, .w1c, 0, .dsp, .rtx⟩,
    ⟨18, 18, .w1c, 0, .dsp, .rtx⟩,
    ⟨17, 17, .w1c, 0, .dsp, .rtx⟩,
    ⟨16, 16, .w1c, 0, .dsp, .rtx⟩,
    ⟨11, 8, .ro, 0, .dsp, .rtx⟩,
    ⟨6, 6, .ro, 0, .dsp, .rtx⟩,
    ⟨5, 4, .ro, 0, .dsp, .rtx⟩,
    ⟨2, 0, .ro, 0, .dsp, .rtx⟩]⟩,
  -- DSP_REPCNTp
  ⟨0x40701048, [(0x1000, 2)], [⟨31, 0, .rc, 0, .dsp, .rtx⟩]⟩,
  -- DSP_ODp_b_w
  ⟨0x40701400, [(0x1000, 2), (0x200, 4), (4, 73)], [⟨31, 0, .rw, 0, .dsp, .rtx⟩]⟩]

/-- The whole register map of DSP (R420). -/
def rowsDSP : List RegRow := rowsDSP0 ++ rowsDSP1

/-- Register map of CAN, R443, part 1. -/
def rowsCAN0 : List RegRow := [
  -- CAN_CTLn
  ⟨0x40800000, [(0x10000, 12)], [⟨31, 31, .w1s, 0, .net, .mod⟩,
    ⟨12, 12, .cmd, 0, .none, .por⟩,
    ⟨9, 9, .rwl, 0, .net, .mod⟩,
    ⟨8, 8, .rw, 0, .net, .mod⟩,
    ⟨5, 5, .rwl, 0, .net, .mod⟩,
    ⟨4, 4, .rw, 0, .net, .mod⟩,
    ⟨2, 2, .rwl, 0, .net, .mod⟩,
    ⟨0, 0, .rw, 0, .net, .mod⟩]⟩,
  -- CAN_NBTn
  ⟨0x40800004, [(0x10000, 12)], [⟨31, 24, .rwl, 0, .net, .mod⟩,
    ⟨23, 16, .rwl, 0, .net, .mod⟩,
    ⟨14, 8, .rwl, 0, .net, .mod⟩,
    ⟨6, 0, .rwl, 0, .net, .mod⟩]⟩,
  -- CAN_DBTn
  ⟨0x40800008, [(0x10000, 12)], [⟨31, 24, .rwl, 0, .net, .mod⟩,
    ⟨20, 16, .rwl, 0, .net, .mod⟩,
    ⟨12, 8, .rwl, 0, .net, .mod⟩,
    ⟨3, 0, .rwl, 0, .net, .mod⟩]⟩,
  -- CAN_TDCn
  ⟨0x4080000C, [(0x10000, 12)], [⟨8, 8, .rwl, 1, .net, .mod⟩,
    ⟨6, 0, .rwl, 0, .net, .mod⟩]⟩,
  -- CAN_STATn
  ⟨0x40800010, [(0x10000, 12)], [⟨9, 9, .w1c, 0, .net, .mod⟩,
    ⟨8, 8, .w1c, 0, .net, .mod⟩,
    ⟨7, 7, .w1c, 0, .net, .mod⟩,
    ⟨6, 6, .w1c, 0, .net, .mod⟩,
    ⟨5, 5, .w1c, 0, .net, .mod⟩,
    ⟨4, 4, .w1c, 0, .net, .mod⟩,
    ⟨3, 3, .w1c, 0, .net, .mod⟩,
    ⟨2, 2, .w1c, 0, .net, .mod⟩,
    ⟨1, 1, .w1c, 0, .net, .mod⟩,
    ⟨0, 0, .w1c, 0, .net, .mod⟩]⟩,
  -- CAN_ESTATn
  ⟨0x40800014, [(0x10000, 12)], [⟨31, 28, .ro, 0, .net, .mod⟩,
    ⟨27, 25, .ro, 0, .net, .mod⟩,
    ⟨24, 16, .ro, 0, .net, .mod⟩,
    ⟨7, 0, .ro, 0, .net, .mod⟩]⟩,
  -- CAN_RJCFGn
  ⟨0x40800018, [(0x10000, 12)], [⟨31, 16, .rw, 0x32, .net, .mod⟩,
    ⟨7, 0, .rw, 8, .net, .mod⟩]⟩,
  -- CAN_RXFLUSHn
  ⟨0x4080001C, [(0x10000, 12)], [⟨15, 0, .rw, 0xA, .net, .mod⟩]⟩,
  -- CAN_RXDROPn
  ⟨0x40800020, [(0x10000, 12)], [⟨31, 0, .rc, 0, .net, .mod⟩]⟩,
  -- CAN_MBCTLn
  ⟨0x40800030, [(0x10000, 12)], [⟨31, 16, .ro, 0, .net, .mod⟩,
    ⟨15, 0, .cmd, 0, .none, .por⟩]⟩,
  -- CAN_FIDn_f
  ⟨0x40800100, [(0x10000, 12), (0x10, 128)], [⟨29, 29, .rw, 0, .net, .mod⟩,
    ⟨28, 0, .rw, 0, .net, .mod⟩]⟩,
  -- CAN_FMASKn_f
  ⟨0x40800104, [(0x10000, 12), (0x10, 128)], [⟨29, 29, .rw, 0, .net, .mod⟩,
    ⟨28, 0, .rw, 0, .net, .mod⟩]⟩]

/-- Register map of CAN, R443, part 2. -/
def rowsCAN1 : List RegRow := [
  -- CAN_FACTn_f
  ⟨0x40800108, [(0x10000, 12), (0x10, 128)], [⟨11, 8, .rw, 0, .net, .mod⟩,
    ⟨1, 0, .rw, 0, .net, .mod⟩]⟩,
  -- CAN_TXBn_b_ID
  ⟨0x40801000, [(0x10000, 12), (0x100, 3)], [⟨31, 0, .rw, 0, .net, .mod⟩]⟩,
  -- CAN_TXBn_b_CTL
  ⟨0x40801004, [(0x10000, 12), (0x100, 3)], [⟨31, 31, .cmd, 0, .none, .por⟩,
    ⟨30, 30, .cmd, 0, .none, .por⟩,
    ⟨29, 28, .ro, 0, .net, .mod⟩,
    ⟨25, 24, .ro, 0, .net, .mod⟩,
    ⟨19, 16, .rw, 0, .net, .mod⟩,
    ⟨8, 8, .rw, 0, .net, .mod⟩]⟩,
  -- CAN_TXBn_b_Dw
  ⟨0x40801008, [(0x10000, 12), (0x100, 3), (4, 16)], [⟨31, 0, .rw, 0, .net, .mod⟩]⟩,
  -- CAN_TXBn_b_TS
  ⟨0x40801048, [(0x10000, 12), (0x100, 3)], [⟨31, 0, .ro, 0, .net, .mod⟩]⟩,
  -- CAN_MBn_m_ID
  ⟨0x40802000, [(0x10000, 12), (0x80, 16)], [⟨31, 0, .ro, 0, .net, .mod⟩]⟩,
  -- CAN_MBn_m_CTL
  ⟨0x40802004, [(0x10000, 12), (0x80, 16)], [⟨31, 31, .ro, 0, .net, .mod⟩,
    ⟨30, 30, .ro, 0, .net, .mod⟩,
    ⟨29, 29, .ro, 0, .net, .mod⟩,
    ⟨22, 16, .ro, 0, .net, .mod⟩,
    ⟨11, 8, .ro, 0, .net, .mod⟩,
    ⟨0, 0, .ro, 0, .net, .mod⟩]⟩,
  -- CAN_MBn_m_Dw
  ⟨0x40802008, [(0x10000, 12), (0x80, 16), (4, 16)], [⟨31, 0, .ro, 0, .net, .mod⟩]⟩,
  -- CAN_MBn_m_TS
  ⟨0x40802048, [(0x10000, 12), (0x80, 16)], [⟨31, 0, .ro, 0, .net, .mod⟩]⟩,
  -- CAN_ACNAME_LOn
  ⟨0x40808000, [(0x10000, 4)], [⟨31, 0, .rwl, 0, .net, .mod⟩]⟩,
  -- CAN_ACNAME_HIn
  ⟨0x40808004, [(0x10000, 4)], [⟨31, 0, .rwl, 0, .net, .mod⟩]⟩,
  -- CAN_ACCFGn
  ⟨0x40808008, [(0x10000, 4)], [⟨31, 31, .rwl, 0, .net, .mod⟩,
    ⟨23, 16, .rwl, 0xF7, .net, .mod⟩,
    ⟨15, 8, .rwl, 0x80, .net, .mod⟩,
    ⟨7, 0, .rwl, 0x80, .net, .mod⟩]⟩]

/-- Register map of CAN, R443, part 3. -/
def rowsCAN2 : List RegRow := [
  -- CAN_ACSTATn
  ⟨0x4080800C, [(0x10000, 4)], [⟨9, 8, .ro, 0, .net, .mod⟩,
    ⟨7, 0, .ro, 0xFE, .net, .mod⟩]⟩,
  -- CAN_TPCFGn
  ⟨0x40808010, [(0x10000, 4)], [⟨31, 31, .rw, 0, .net, .mod⟩,
    ⟨4, 0, .rw, 0x10, .net, .mod⟩]⟩,
  -- CAN_TPSTATn
  ⟨0x40808014, [(0x10000, 4)], [⟨3, 0, .ro, 0, .net, .mod⟩]⟩]

/-- The whole register map of CAN (R443). -/
def rowsCAN : List RegRow := rowsCAN0 ++ rowsCAN1 ++ rowsCAN2

/-- Register map of ETH, R444, part 1. -/
def rowsETH0 : List RegRow := [
  -- ETH_CTL
  ⟨0x40900000, [], [⟨31, 31, .w1s, 0, .net, .mod⟩,
    ⟨9, 9, .rw, 0, .net, .mod⟩,
    ⟨8, 8, .rw, 0, .net, .mod⟩,
    ⟨0, 0, .rw, 0, .net, .mod⟩]⟩,
  -- ETH_STAT
  ⟨0x40900004, [], [⟨3, 3, .w1c, 0, .net, .mod⟩,
    ⟨2, 2, .w1c, 0, .net, .mod⟩,
    ⟨1, 1, .w1c, 0, .net, .mod⟩,
    ⟨0, 0, .w1c, 0, .net, .mod⟩]⟩,
  -- ETH_MAC_LO
  ⟨0x40900008, [], [⟨31, 0, .rwl, 0, .net, .mod⟩]⟩,
  -- ETH_MAC_HI
  ⟨0x4090000C, [], [⟨15, 0, .rwl, 0, .net, .mod⟩]⟩,
  -- ETH_AGE
  ⟨0x40900010, [], [⟨15, 0, .rw, 0x12C, .net, .mod⟩]⟩,
  -- ETH_PCPMAP
  ⟨0x40900014, [], [⟨23, 0, .rw, 0xFAC688, .net, .mod⟩]⟩,
  -- ETH_RXFLUSH
  ⟨0x40900018, [], [⟨15, 0, .rw, 0xA, .net, .mod⟩]⟩,
  -- ETH_VLANv
  ⟨0x40900100, [(8, 64)], [⟨31, 31, .rw, 0, .net, .mod⟩,
    ⟨27, 16, .rw, 0, .net, .mod⟩,
    ⟨11, 0, .rw, 0, .net, .mod⟩]⟩,
  -- ETH_UNTAGv
  ⟨0x40900104, [(8, 64)], [⟨11, 0, .rw, 0, .net, .mod⟩]⟩,
  -- ETH_PCFGp
  ⟨0x40901000, [(0x100, 11)], [⟨31, 31, .rw, 0, .net, .mod⟩,
    ⟨27, 16, .rwl, 1, .net, .mod⟩,
    ⟨10, 8, .rw, 0, .net, .mod⟩,
    ⟨4, 4, .rwl, 0, .net, .mod⟩]⟩,
  -- ETH_PSTATp
  ⟨0x40901004, [(0x100, 11)], [⟨9, 8, .ro, 0, .net, .mod⟩,
    ⟨0, 0, .ro, 0, .net, .mod⟩]⟩,
  -- ETH_RXCNTp
  ⟨0x40901008, [(0x100, 11)], [⟨31, 0, .rc, 0, .net, .mod⟩]⟩]

/-- Register map of ETH, R444, part 2. -/
def rowsETH1 : List RegRow := [
  -- ETH_TXCNTp
  ⟨0x4090100C, [(0x100, 11)], [⟨31, 0, .rc, 0, .net, .mod⟩]⟩,
  -- ETH_DROPp
  ⟨0x40901010, [(0x100, 11)], [⟨31, 0, .rc, 0, .net, .mod⟩]⟩,
  -- ETH_PLCAs
  ⟨0x40902000, [(0x10, 2)], [⟨31, 31, .rw, 0, .net, .mod⟩,
    ⟨27, 24, .rw, 0, .net, .mod⟩,
    ⟨23, 16, .rw, 0x20, .net, .mod⟩,
    ⟨15, 8, .rw, 8, .net, .mod⟩]⟩,
  -- ETH_PLCASTATs
  ⟨0x40902004, [(0x10, 2)], [⟨16, 16, .ro, 0, .net, .mod⟩,
    ⟨0, 0, .ro, 0, .net, .mod⟩]⟩]

/-- The whole register map of ETH (R444). -/
def rowsETH : List RegRow := rowsETH0 ++ rowsETH1

/-- Register map of TDM, R469, part 1. -/
def rowsTDM0 : List RegRow := [
  -- TDM_CTL
  ⟨0x40A00000, [], [⟨31, 31, .w1s, 0, .net, .rtx⟩,
    ⟨9, 9, .cmd, 0, .none, .por⟩,
    ⟨8, 8, .cmd, 0, .none, .por⟩,
    ⟨1, 1, .rwl, 1, .net, .rtx⟩,
    ⟨0, 0, .rw, 0, .net, .rtx⟩]⟩,
  -- TDM_STAT
  ⟨0x40A00004, [], [⟨10, 10, .w1c, 0, .net, .rtx⟩,
    ⟨9, 9, .w1c, 0, .net, .rtx⟩,
    ⟨8, 8, .w1c, 0, .net, .rtx⟩,
    ⟨7, 7, .w1c, 0, .net, .rtx⟩,
    ⟨6, 6, .w1c, 0, .net, .rtx⟩,
    ⟨5, 5, .w1c, 0, .net, .rtx⟩,
    ⟨4, 4, .w1c, 0, .net, .rtx⟩,
    ⟨3, 3, .w1c, 0, .net, .rtx⟩,
    ⟨2, 2, .w1c, 0, .net, .rtx⟩,
    ⟨1, 1, .w1c, 0, .net, .rtx⟩,
    ⟨0, 0, .w1c, 0, .net, .rtx⟩]⟩,
  -- TDM_STATE
  ⟨0x40A00008, [], [⟨31, 31, .ro, 0, .fixed, .por⟩,
    ⟨30, 30, .ro, 0, .net, .rtx⟩,
    ⟨23, 8, .ro, 0, .net, .rtx⟩,
    ⟨7, 4, .ro, 0, .net, .rtx⟩,
    ⟨2, 0, .ro, 0, .net, .rtx⟩]⟩,
  -- TDM_TKCFG
  ⟨0x40A0000C, [], [⟨26, 24, .rwl, 0, .net, .rtx⟩,
    ⟨23, 0, .rwl, 0x1F4, .net, .rtx⟩]⟩,
  -- TDM_TKWAIT
  ⟨0x40A00010, [], [⟨15, 0, .rwl, 0xA, .net, .rtx⟩]⟩,
  -- TDM_LINK
  ⟨0x40A00014, [], [⟨7, 4, .ro, 0, .net, .rtx⟩,
    ⟨2, 1, .ro, 0, .net, .rtx⟩,
    ⟨0, 0, .ro, 0, .net, .rtx⟩]⟩,
  -- TDM_LANEERRl
  ⟨0x40A00018, [(4, 4)], [⟨31, 0, .rc, 0, .net, .rtx⟩]⟩,
  -- TDM_PTOFS_LO
  ⟨0x40A00030, [], [⟨31, 0, .ro, 0, .net, .rtx⟩]⟩,
  -- TDM_PTOFS_HI
  ⟨0x40A00034, [], [⟨31, 0, .ro, 0, .net, .rtx⟩]⟩,
  -- TDM_AXTOL
  ⟨0x40A00038, [], [⟨15, 0, .rw, 0x64, .net, .rtx⟩]⟩,
  -- TDM_AXOFF_LOa
  ⟨0x40A00040, [(0x10, 8)], [⟨31, 0, .ro, 0, .net, .rtx⟩]⟩,
  -- TDM_AXOFF_HIa
  ⟨0x40A00044, [(0x10, 8)], [⟨31, 0, .ro, 0, .net, .rtx⟩]⟩]

/-- Register map of TDM, R469, part 2. -/
def rowsTDM1 : List RegRow := [
  -- TDM_AXDIVa
  ⟨0x40A00048, [(0x10, 8)], [⟨31, 0, .ro, 0, .net, .rtx⟩]⟩,
  -- TDM_WIRE_SOL
  ⟨0x40A00100, [], [⟨15, 0, .rwl, 0, .net, .rtx⟩]⟩,
  -- TDM_WIRE_HSw
  ⟨0x40A00104, [(4, 3)], [⟨31, 0, .rwl, 0, .net, .rtx⟩]⟩,
  -- TDM_WIRE_DIOw
  ⟨0x40A00110, [(4, 2)], [⟨31, 0, .rwl, 0, .net, .rtx⟩]⟩,
  -- TDM_LATECNT
  ⟨0x40A00120, [], [⟨31, 0, .rc, 0, .net, .rtx⟩]⟩,
  -- TDM_TKOCNT
  ⟨0x40A00124, [], [⟨15, 0, .ro, 0, .net, .por⟩]⟩]

/-- The whole register map of TDM (R469). -/
def rowsTDM : List RegRow := rowsTDM0 ++ rowsTDM1

/-- Register map of UPD, R485, part 1. -/
def rowsUPD0 : List RegRow := [
  -- UPD_CTL
  ⟨0x40080000, [], [⟨31, 31, .w1s, 0, .smon, .mod⟩]⟩,
  -- UPD_STAT
  ⟨0x40080004, [], [⟨7, 7, .w1c, 0, .smon, .mod⟩,
    ⟨6, 6, .w1c, 0, .smon, .mod⟩,
    ⟨5, 5, .w1c, 0, .smon, .mod⟩,
    ⟨4, 4, .w1c, 0, .smon, .mod⟩,
    ⟨3, 3, .w1c, 0, .smon, .mod⟩,
    ⟨2, 2, .w1c, 0, .smon, .mod⟩,
    ⟨1, 1, .w1c, 0, .smon, .mod⟩,
    ⟨0, 0, .w1c, 0, .smon, .mod⟩]⟩,
  -- UPD_BUSY
  ⟨0x40080008, [], [⟨10, 8, .ro, 0, .flash, .por⟩,
    ⟨5, 0, .ro, 0, .flash, .por⟩]⟩,
  -- UPD_PSTATp
  ⟨0x40080010, [(4, 6)], [⟨31, 24, .ro, 0, .smon, .mod⟩,
    ⟨18, 16, .ro, 0, .flash, .por⟩,
    ⟨14, 12, .ro, 0, .flash, .por⟩,
    ⟨8, 8, .ro, 0, .flash, .por⟩,
    ⟨4, 4, .ro, 0, .flash, .por⟩]⟩,
  -- UPD_VERp
  ⟨0x40080030, [(8, 6)], [⟨31, 0, .ro, 0, .flash, .por⟩]⟩,
  -- UPD_RBCNTp
  ⟨0x40080034, [(8, 6)], [⟨31, 0, .ro, 0, .fixed, .por⟩]⟩,
  -- UPD_CFGFMT
  ⟨0x40080060, [], [⟨31, 16, .ro, 0, .flash, .por⟩,
    ⟨15, 0, .ro, 0, .flash, .por⟩]⟩,
  -- UPD_HOBASE
  ⟨0x40080070, [], [⟨31, 12, .rwl, 0, .smon, .mod⟩]⟩,
  -- UPD_HOSIZE
  ⟨0x40080074, [], [⟨12, 0, .rwl, 0, .smon, .mod⟩]⟩,
  -- UPD_HOSTAT
  ⟨0x40080078, [], [⟨31, 31, .ro, 0, .smon, .mod⟩,
    ⟨15, 0, .ro, 0, .smon, .mod⟩]⟩,
  -- UPD_HOVER
  ⟨0x4008007C, [], [⟨31, 0, .ro, 0, .smon, .mod⟩]⟩,
  -- UPD_RESTART
  ⟨0x40080080, [], [⟨1, 1, .cmd, 0, .none, .por⟩,
    ⟨0, 0, .cmd, 0, .none, .por⟩]⟩]

/-- Register map of UPD, R485, part 2. -/
def rowsUPD1 : List RegRow := [
  -- UPD_KEYREV
  ⟨0x40080090, [], [⟨3, 0, .w1s, 0, .fixed, .por⟩]⟩,
  -- UPD_KEYS
  ⟨0x40080094, [], [⟨3, 0, .ro, 0, .fixed, .por⟩]⟩]

/-- The whole register map of UPD (R485). -/
def rowsUPD : List RegRow := rowsUPD0 ++ rowsUPD1

/-- Register map of EVR, R498, part 1. -/
def rowsEVR0 : List RegRow := [
  -- EVR_CTL
  ⟨0x40070000, [], [⟨31, 31, .w1s, 0, .aon, .bor⟩,
    ⟨8, 8, .rw, 0, .aon, .bor⟩,
    ⟨0, 0, .rwl, 1, .aon, .bor⟩]⟩,
  -- EVR_STAT
  ⟨0x40070004, [], [⟨5, 5, .w1c, 0, .aon, .bor⟩,
    ⟨4, 4, .w1c, 0, .aon, .bor⟩,
    ⟨3, 3, .w1c, 0, .aon, .bor⟩,
    ⟨2, 2, .ro, 0, .flash, .por⟩,
    ⟨1, 1, .w1c, 0, .aon, .bor⟩,
    ⟨0, 0, .w1c, 0, .aon, .bor⟩]⟩,
  -- EVR_JWPTR
  ⟨0x40070008, [], [⟨28, 0, .ro, 0, .flash, .por⟩]⟩,
  -- EVR_STGUSED
  ⟨0x4007000C, [], [⟨18, 0, .ro, 0, .aon, .bor⟩]⟩,
  -- EVR_LOSTCNT
  ⟨0x40070010, [], [⟨31, 0, .rc, 0, .aon, .bor⟩]⟩,
  -- EVR_RECCFG
  ⟨0x40070014, [], [⟨31, 16, .rw, 0x3E8, .aon, .bor⟩,
    ⟨15, 0, .rw, 0x3C, .aon, .bor⟩]⟩,
  -- EVR_WARN
  ⟨0x40070018, [], [⟨7, 0, .rw, 0xF0, .aon, .bor⟩]⟩,
  -- EVR_OPEN
  ⟨0x4007001C, [], [⟨31, 16, .ro, 0, .aon, .bor⟩,
    ⟨15, 0, .ro, 0, .aon, .bor⟩]⟩]

/-- The whole register map of EVR (R498). -/
def rowsEVR : List RegRow := rowsEVR0

/-- Register map of PWRM, R519, part 1. -/
def rowsPWRM0 : List RegRow := [
  -- PWRM_CTL
  ⟨0x40010000, [], [⟨31, 31, .w1s, 0, .aon, .bor⟩]⟩,
  -- PWRM_REQ
  ⟨0x40010004, [], [⟨31, 16, .wo, 0, .none, .por⟩,
    ⟨2, 0, .wo, 0, .none, .por⟩]⟩,
  -- PWRM_STATE
  ⟨0x40010008, [], [⟨12, 12, .ro, 0, .aon, .bor⟩,
    ⟨8, 8, .ro, 0, .aon, .bor⟩,
    ⟨6, 4, .ro, 0, .aon, .bor⟩,
    ⟨2, 0, .ro, 0, .aon, .bor⟩]⟩,
  -- PWRM_DOMEN
  ⟨0x4001000C, [], [⟨9, 9, .rw, 1, .aon, .bor⟩,
    ⟨8, 8, .rw, 1, .aon, .bor⟩,
    ⟨7, 7, .rw, 1, .aon, .bor⟩]⟩,
  -- PWRM_DOMSTAT
  ⟨0x40010010, [], [⟨13, 0, .ro, 1, .aon, .bor⟩]⟩,
  -- PWRM_WAKECFG
  ⟨0x40010014, [], [⟨31, 16, .rw, 0x32, .aon, .bor⟩,
    ⟨2, 2, .rw, 0, .aon, .bor⟩,
    ⟨1, 1, .rw, 0, .aon, .bor⟩,
    ⟨0, 0, .rw, 1, .aon, .bor⟩]⟩,
  -- PWRM_WAKECAUSE
  ⟨0x40010018, [], [⟨2, 0, .ro, 0, .aon, .bor⟩]⟩,
  -- PWRM_ALARM_LO
  ⟨0x4001001C, [], [⟨31, 0, .rw, 0, .aon, .bor⟩]⟩,
  -- PWRM_ALARM_HI
  ⟨0x40010020, [], [⟨31, 0, .rw, 0, .aon, .bor⟩]⟩,
  -- PWRM_SUP
  ⟨0x40010024, [], [⟨31, 16, .ro, 0, .aon, .bor⟩,
    ⟨15, 0, .ro, 0, .aon, .bor⟩]⟩,
  -- PWRM_STAT
  ⟨0x40010028, [], [⟨16, 16, .ro, 0, .aon, .bor⟩,
    ⟨5, 5, .w1c, 0, .aon, .bor⟩,
    ⟨4, 4, .w1c, 0, .aon, .bor⟩,
    ⟨3, 3, .w1c, 0, .aon, .bor⟩,
    ⟨2, 2, .w1c, 0, .aon, .bor⟩,
    ⟨1, 1, .w1c, 0, .aon, .bor⟩,
    ⟨0, 0, .w1c, 0, .aon, .bor⟩]⟩,
  -- PWRM_WSCTL
  ⟨0x40010030, [], [⟨0, 0, .rw, 0, .aon, .bor⟩]⟩]

/-- Register map of PWRM, R519, part 2. -/
def rowsPWRM1 : List RegRow := [
  -- PWRM_WSSTAT
  ⟨0x40010034, [], [⟨31, 16, .ro, 0, .aon, .bor⟩,
    ⟨1, 0, .ro, 0, .aon, .bor⟩]⟩,
  -- PWRM_WS
  ⟨0x40D00000, [(4, 16384)], [⟨31, 0, .rw, 0, .aon, .bor⟩]⟩]

/-- The whole register map of PWRM (R519). -/
def rowsPWRM : List RegRow := rowsPWRM0 ++ rowsPWRM1

/-- Register map of RST, R520, part 1. -/
def rowsRST0 : List RegRow := [
  -- RST_CTL
  ⟨0x40020000, [], [⟨31, 31, .w1s, 0, .smon, .mod⟩]⟩,
  -- RST_CMD
  ⟨0x40020004, [], [⟨31, 16, .wo, 0, .none, .por⟩,
    ⟨2, 0, .wo, 0, .none, .por⟩]⟩,
  -- RST_CAUSE
  ⟨0x40020008, [], [⟨15, 8, .ro, 0, .aon, .bor⟩,
    ⟨2, 0, .ro, 0, .aon, .bor⟩]⟩,
  -- RST_SEEN
  ⟨0x4002000C, [], [⟨7, 0, .w1c, 1, .aon, .bor⟩]⟩,
  -- RST_BOOTCNT
  ⟨0x40020010, [], [⟨31, 0, .ro, 1, .aon, .bor⟩]⟩,
  -- RST_STAT
  ⟨0x40020014, [], [⟨2, 2, .w1c, 0, .smon, .mod⟩,
    ⟨1, 1, .w1c, 0, .smon, .mod⟩,
    ⟨0, 0, .w1c, 0, .smon, .mod⟩]⟩,
  -- RST_WDCFGw
  ⟨0x40020020, [(0x10, 2)], [⟨31, 31, .w1s, 0, .smon, .mod⟩,
    ⟨24, 24, .rwl, 0, .smon, .mod⟩,
    ⟨23, 16, .rwl, 0x4B, .smon, .mod⟩,
    ⟨15, 0, .rwl, 0x3E8, .smon, .mod⟩]⟩,
  -- RST_WDKICKw
  ⟨0x40020024, [(0x10, 2)], [⟨31, 0, .wo, 0, .none, .por⟩]⟩,
  -- RST_WDCNTw
  ⟨0x40020028, [(0x10, 2)], [⟨15, 0, .ro, 0, .smon, .mod⟩]⟩]

/-- The whole register map of RST (R520). -/
def rowsRST : List RegRow := rowsRST0

/-- Register map of PMU, R528, part 1. -/
def rowsPMU0 : List RegRow := [
  -- PMU_CTL
  ⟨0x40060000, [], [⟨31, 31, .w1s, 0, .smon, .mod⟩,
    ⟨8, 8, .rw, 0, .smon, .mod⟩,
    ⟨0, 0, .rw, 0, .smon, .mod⟩]⟩,
  -- PMU_STAT
  ⟨0x40060004, [], [⟨18, 16, .ro, 1, .smon, .mod⟩,
    ⟨3, 3, .w1c, 0, .smon, .mod⟩,
    ⟨2, 2, .w1c, 0, .smon, .mod⟩,
    ⟨1, 1, .w1c, 0, .smon, .mod⟩,
    ⟨0, 0, .w1c, 0, .smon, .mod⟩]⟩,
  -- PMU_OVF_LO
  ⟨0x40060008, [], [⟨31, 0, .w1c, 0, .smon, .mod⟩]⟩,
  -- PMU_OVF_HI
  ⟨0x4006000C, [], [⟨23, 0, .w1c, 0, .smon, .mod⟩]⟩,
  -- PMU_SNAP_DB
  ⟨0x40060010, [], [⟨0, 0, .wo, 0, .none, .por⟩]⟩,
  -- PMU_SNAP_STAT
  ⟨0x40060014, [], [⟨31, 16, .ro, 0, .smon, .mod⟩,
    ⟨7, 7, .ro, 0, .smon, .mod⟩,
    ⟨4, 0, .ro, 0, .smon, .mod⟩]⟩,
  -- PMU_SNAP_MTB_LO
  ⟨0x40060018, [], [⟨31, 0, .ro, 0, .smon, .mod⟩]⟩,
  -- PMU_SNAP_MTB_HI
  ⟨0x4006001C, [], [⟨31, 0, .ro, 0, .smon, .mod⟩]⟩,
  -- PMU_SNAPDROP
  ⟨0x40060020, [], [⟨31, 0, .rc, 0, .smon, .mod⟩]⟩,
  -- PMU_BWCFG
  ⟨0x40060030, [], [⟨15, 0, .rw, 0x3E8, .smon, .mod⟩]⟩,
  -- PMU_BWSEQ
  ⟨0x40060034, [], [⟨31, 0, .ro, 0, .smon, .mod⟩]⟩,
  -- PMU_CFGn
  ⟨0x40060100, [(0x10, 56)], [⟨31, 31, .rw, 0, .die, .mod⟩,
    ⟨30, 30, .rw, 0, .die, .mod⟩,
    ⟨29, 29, .rw, 0, .die, .mod⟩,
    ⟨28, 28, .rw, 0, .die, .mod⟩,
    ⟨23, 16, .rw, 0, .die, .mod⟩,
    ⟨11, 0, .rw, 0, .die, .mod⟩]⟩]

/-- Register map of PMU, R528, part 2. -/
def rowsPMU1 : List RegRow := [
  -- PMU_THRn
  ⟨0x40060104, [(0x10, 56)], [⟨15, 0, .rw, 0, .die, .mod⟩]⟩,
  -- PMU_CNT_LOn
  ⟨0x40060108, [(0x10, 56)], [⟨31, 0, .rw, 0, .die, .mod⟩]⟩,
  -- PMU_CNT_HIn
  ⟨0x4006010C, [(0x10, 56)], [⟨15, 0, .rw, 0, .die, .mod⟩]⟩,
  -- PMU_SNAP_LOn
  ⟨0x40060800, [(8, 56)], [⟨31, 0, .ro, 0, .smon, .mod⟩]⟩,
  -- PMU_SNAP_HIn
  ⟨0x40060804, [(8, 56)], [⟨15, 0, .ro, 0, .smon, .mod⟩]⟩,
  -- PMU_BWk
  ⟨0x40060A00, [(4, 32)], [⟨31, 0, .ro, 0, .smon, .mod⟩]⟩,
  -- PMU_SAMP_PC_LOc
  ⟨0x40060C00, [(0x20, 10)], [⟨31, 0, .ro, 0, .smon, .mod⟩]⟩,
  -- PMU_SAMP_PC_HIc
  ⟨0x40060C04, [(0x20, 10)], [⟨31, 0, .ro, 0, .smon, .mod⟩]⟩,
  -- PMU_SAMP_BT_LOc
  ⟨0x40060C08, [(0x20, 10)], [⟨31, 0, .ro, 0, .smon, .mod⟩]⟩,
  -- PMU_SAMP_BT_HIc
  ⟨0x40060C0C, [(0x20, 10)], [⟨31, 0, .ro, 0, .smon, .mod⟩]⟩,
  -- PMU_SAMP_INFOc
  ⟨0x40060C10, [(0x20, 10)], [⟨31, 31, .w1c, 0, .smon, .mod⟩,
    ⟨23, 16, .ro, 0, .smon, .mod⟩,
    ⟨11, 8, .ro, 0, .smon, .mod⟩,
    ⟨5, 0, .ro, 0, .smon, .mod⟩]⟩]

/-- The whole register map of PMU (R528). -/
def rowsPMU : List RegRow := rowsPMU0 ++ rowsPMU1

end Sys2Proof.Machine.RegMap
end

