-- ==== Sys2Proof/Machine/Regs.lean ====
section
/-! DEFINITION. Names for the registers (R.<REGISTER>, an address) and the register fields (F.<REGISTER>_<FIELD>)
of the manual, with the index letters of its register maps as arguments (d is the power die, n the CAN controller). -/

namespace Sys2Proof.Machine.R

def MOD_ID : Nat := 0x40000000
def MOD_VARIANT : Nat := 0x40000004
def MOD_CAP0 : Nat := 0x40000008
def MOD_CAP1 : Nat := 0x4000000C
def MOD_CAP2 : Nat := 0x40000010
def MOD_MEM : Nat := 0x40000014
def MOD_SERIAL_LO : Nat := 0x40000018
def MOD_SERIAL_HI : Nat := 0x4000001C
def RNG_BASE_LO (n : Nat) : Nat := 0x40030000 + 0x40 * n
def RNG_BASE_HI (n : Nat) : Nat := 0x40030004 + 0x40 * n
def RNG_CFG (n : Nat) : Nat := 0x40030008 + 0x40 * n
def RNG_DB (n : Nat) : Nat := 0x4003000C + 0x40 * n
def RNG_HW (n : Nat) : Nat := 0x40030010 + 0x40 * n
def RNG_STAT (n : Nat) : Nat := 0x40030014 + 0x40 * n
def RNG_COAL (n : Nat) : Nat := 0x40030018 + 0x40 * n
def RNG_TBASE_LO (t : Nat) : Nat := 0x40031000 + 0x20 * t
def RNG_TBASE_HI (t : Nat) : Nat := 0x40031004 + 0x20 * t
def RNG_TSTAT (t : Nat) : Nat := 0x40031008 + 0x20 * t
def RNG_TSHADOW_LO : Nat := 0x4003100C
def RNG_TSHADOW_HI : Nat := 0x40031010
def RNG_TDB : Nat := 0x40031100
def RNG_INT_PEND (k : Nat) : Nat := 0x40032000 + 4 * k
def RNG_INT_EN (k : Nat) : Nat := 0x40032040 + 4 * k
def RNG_INT_SEL : Nat := 0x40032080
def RNG_INT_ROUTE : Nat := 0x40032084
def RNG_LOCK : Nat := 0x40033000
def REIN_RANK (m : Nat) : Nat := 0x40040000 + 4 * m
def REIN_WSEL : Nat := 0x40040100
def REIN_WAIT : Nat := 0x40040104
def REIN_STARV_LO (t : Nat) : Nat := 0x40040110 + 8 * t
def REIN_STARV_HI (t : Nat) : Nat := 0x40040114 + 8 * t
def REIN_TSTAT (t : Nat) : Nat := 0x40040200 + 4 * t
def ACC_TE_BASE (t e : Nat) : Nat := 0x40050000 + 0x400 * t + 8 * e
def ACC_TE_CTL (t e : Nat) : Nat := 0x40050004 + 0x400 * t + 8 * e
def ACC_T_CTL (t : Nat) : Nat := 0x40050200 + 0x400 * t
def ACC_T_FADDR_LO (t : Nat) : Nat := 0x40050204 + 0x400 * t
def ACC_T_FADDR_HI (t : Nat) : Nat := 0x40050208 + 0x400 * t
def ACC_T_FINFO (t : Nat) : Nat := 0x4005020C + 0x400 * t
def STR_AXCFG (a : Nat) : Nat := 0x40100000 + 0x100 * a
def STR_AXFB (a : Nat) : Nat := 0x40100004 + 0x100 * a
def STR_AXSCLP (a : Nat) : Nat := 0x40100008 + 0x100 * a
def STR_AXSCL1 (a : Nat) : Nat := 0x4010000C + 0x100 * a
def STR_AXSCL2 (a : Nat) : Nat := 0x40100010 + 0x100 * a
def STR_AXBLEND (a : Nat) : Nat := 0x40100014 + 0x100 * a
def STR_AXSTILL (a : Nat) : Nat := 0x40100018 + 0x100 * a
def STR_AXLOSS (a : Nat) : Nat := 0x4010001C + 0x100 * a
def STR_AXXCHK (a : Nat) : Nat := 0x40100020 + 0x100 * a
def STR_AXREST (a : Nat) : Nat := 0x40100024 + 0x100 * a
def STR_AXPRESET_LO (a : Nat) : Nat := 0x40100028 + 0x100 * a
def STR_AXPRESET_HI (a : Nat) : Nat := 0x4010002C + 0x100 * a
def STR_AXPOS_LO (a : Nat) : Nat := 0x40100030 + 0x100 * a
def STR_AXPOS_HI (a : Nat) : Nat := 0x40100034 + 0x100 * a
def STR_AXFRAC (a : Nat) : Nat := 0x40100038 + 0x100 * a
def STR_AXRATE_LO (a : Nat) : Nat := 0x40100040 + 0x100 * a
def STR_AXRATE_HI (a : Nat) : Nat := 0x40100044 + 0x100 * a
def STR_AXSTAT (a : Nat) : Nat := 0x40100048 + 0x100 * a
def STR_AXQERR (a : Nat) : Nat := 0x4010004C + 0x100 * a
def STR_CTL : Nat := 0x40101000
def STR_SNAP_DB : Nat := 0x40101010
def STR_SNAP_STAT : Nat := 0x40101014
def STR_SNAP_MTB_LO : Nat := 0x40101018
def STR_SNAP_MTB_HI : Nat := 0x4010101C
def STR_SNAP_POS_LO (a : Nat) : Nat := 0x40101100 + 0x20 * a
def STR_SNAP_POS_HI (a : Nat) : Nat := 0x40101104 + 0x20 * a
def STR_SNAP_FRAC (a : Nat) : Nat := 0x40101108 + 0x20 * a
def STR_SNAP_RATE_LO (a : Nat) : Nat := 0x40101110 + 0x20 * a
def STR_SNAP_RATE_HI (a : Nat) : Nat := 0x40101114 + 0x20 * a
def STR_TRGCFG (n : Nat) : Nat := 0x40102000 + 0x10 * n
def STR_TRGPOS (n : Nat) : Nat := 0x40102004 + 0x10 * n
def STR_TRGSTAT (n : Nat) : Nat := 0x40102008 + 0x10 * n
def STR_TRGTIME (n : Nat) : Nat := 0x4010200C + 0x10 * n
def EPT_CTL : Nat := 0x40110000
def EPT_COUNT : Nat := 0x40110004
def EPT_REJOIN : Nat := 0x40110008
def EPT_STAT : Nat := 0x40110010
def EPT_TICKSEQ : Nat := 0x40110014
def EPT_NSTATE : Nat := 0x40110018
def EPT_NIN : Nat := 0x4011001C
def EPT_CHIT : Nat := 0x40110020
def EPT_CMISS : Nat := 0x40110024
def EPT_LASTCHG : Nat := 0x40110028
def EPT_STATE (e w : Nat) : Nat := 0x40B00000 + 0x20 * e + 4 * w
def SLT_CTL : Nat := 0x40120000
def SLT_RMT : Nat := 0x40120004
def SLT_TFRM : Nat := 0x40120008
def SLT_TMASK : Nat := 0x4012000C
def SLT_NTO : Nat := 0x40120010
def SLT_SA : Nat := 0x40120014
def SLT_STAT : Nat := 0x40120020
def SLT_SKIPCNT : Nat := 0x40120024
def SLT_LATECNT : Nat := 0x40120028
def SLT_CORRCNT : Nat := 0x4012002C
def SLT_CANCNT : Nat := 0x40120030
def SLT_CARRYCNT : Nat := 0x40120034
def SLT_IMMCNT : Nat := 0x40120038
def SLT_NODESEL : Nat := 0x40120040
def SLT_NODESTAT : Nat := 0x40120044
def SLT_NODESEQ : Nat := 0x40120048
def SLT_CLSTAT (c : Nat) : Nat := 0x40121000 + 0x10 * c
def SLT_CMTPT (c : Nat) : Nat := 0x40121004 + 0x10 * c
def SLT_FIRED_LO (c : Nat) : Nat := 0x40121008 + 0x10 * c
def SLT_FIRED_HI (c : Nat) : Nat := 0x4012100C + 0x10 * c
def SLT_DEC (c m q w : Nat) : Nat := 0x40C00000 + 0x200 * c + 0x20 * m + 0x10 * q + 4 * w
def SLT_PAGE (c p s w : Nat) : Nat := 0x40C40000 + 0x800 * c + 0x400 * p + 0x10 * s + 4 * w
def COV_CTL : Nat := 0x40130000
def COV_CBASE : Nat := 0x40130004
def COV_PF : Nat := 0x40130008
def COV_PERR : Nat := 0x4013000C
def COV_MISS : Nat := 0x40130010
def COV_WB : Nat := 0x40130014
def COV_FLD_LO : Nat := 0x40130018
def COV_FLD_HI : Nat := 0x4013001C
def COV_FSTAT : Nat := 0x40130020
def COV_CACHE : Nat := 0x40130024
def COV_POOLBASE_LO : Nat := 0x40130030
def COV_POOLBASE_HI : Nat := 0x40130034
def COV_POOLCFG : Nat := 0x40130038
def COV_POOLHEAD : Nat := 0x4013003C
def COV_POOLTAIL : Nat := 0x40130040
def COV_STAT : Nat := 0x40130050
def COV_MISSCNT : Nat := 0x40130054
def COV_OVRCNT : Nat := 0x40130058
def COV_UNMARKED : Nat := 0x4013005C
def COV_FETCHKB : Nat := 0x40130060
def COV_WBKB : Nat := 0x40130064
def COV_HRULE (h : Nat) : Nat := 0x40130100 + 4 * h
def COV_DEC (e : Nat) : Nat := 0x40138000 + 4 * e
def BRD_CTL : Nat := 0x40140000
def BRD_STAT : Nat := 0x40140004
def BRD_OVRCNT : Nat := 0x40140008
def BRD_LOAD : Nat := 0x4014000C
def BRD_APPLY_LO : Nat := 0x40140010
def BRD_APPLY_HI : Nat := 0x40140014
def BRD_SWTO : Nat := 0x40140018
def BRD_SWVAL (s : Nat) : Nat := 0x40140040 + 4 * s
def BRD_GDEST (g : Nat) : Nat := 0x40140100 + 0x10 * g
def BRD_GSCALE (g : Nat) : Nat := 0x40140104 + 0x10 * g
def BRD_GSLEW (g : Nat) : Nat := 0x40140108 + 0x10 * g
def BRD_GSTAT (g : Nat) : Nat := 0x4014010C + 0x10 * g
def BRD_GOUT (g : Nat) : Nat := 0x40140200 + 4 * g
def BRD_LSTAT (n : Nat) : Nat := 0x40140400 + 0x20 * n
def BRD_LOUT (n : Nat) : Nat := 0x40140404 + 0x20 * n
def BRD_LPV (n : Nat) : Nat := 0x40140408 + 0x20 * n
def BRD_LSP (n : Nat) : Nat := 0x4014040C + 0x20 * n
def BRD_LERR (n : Nat) : Nat := 0x40140410 + 0x20 * n
def BRD_LINT (n : Nat) : Nat := 0x40140414 + 0x20 * n
def BRD_LTIME (n : Nat) : Nat := 0x40140418 + 0x20 * n
def BRD_LOSC (n : Nat) : Nat := 0x4014041C + 0x20 * n
def BRD_KP (n z : Nat) : Nat := 0x40148000 + 0x80 * n + 0x10 * z
def BRD_KI (n z : Nat) : Nat := 0x40148004 + 0x80 * n + 0x10 * z
def BRD_KD (n z : Nat) : Nat := 0x40148008 + 0x80 * n + 0x10 * z
def BRD_KFF (n z : Nat) : Nat := 0x4014800C + 0x80 * n + 0x10 * z
def SOL_CTL (d : Nat) : Nat := 0x40200000 + 0x100000 * d
def SOL_STAT (d : Nat) : Nat := 0x40200004 + 0x100000 * d
def SOL_DEFERCNT (d : Nat) : Nat := 0x40200008 + 0x100000 * d
def SOL_SKIPCNT (d : Nat) : Nat := 0x4020000C + 0x100000 * d
def SOL_RCVFCNT (d : Nat) : Nat := 0x40200010 + 0x100000 * d
def SOL_TEXT (d x : Nat) : Nat := 0x40200020 + 0x100000 * d + 4 * x
def SOL_BSTCFG (d b : Nat) : Nat := 0x40200040 + 0x100000 * d + 0x10 * b
def SOL_BSTSTAT (d b : Nat) : Nat := 0x40200044 + 0x100000 * d + 0x10 * b
def SOL_BANKCFG (d k : Nat) : Nat := 0x40200100 + 0x100000 * d + 0x10 * k
def SOL_BANKSTAT (d k : Nat) : Nat := 0x40200104 + 0x100000 * d + 0x10 * k
def SOL_BANKTEMP (d k : Nat) : Nat := 0x40200108 + 0x100000 * d + 0x10 * k
def SOL_PRFCFG (d p : Nat) : Nat := 0x40200200 + 0x100000 * d + 0x20 * p
def SOL_PRFTH (d p : Nat) : Nat := 0x40200204 + 0x100000 * d + 0x20 * p
def SOL_PRFBMAX (d p : Nat) : Nat := 0x40200208 + 0x100000 * d + 0x20 * p
def SOL_PRFPK (d p q : Nat) : Nat := 0x40200400 + 0x100000 * d + 0x40 * p + 8 * q
def SOL_PRFDT (d p q : Nat) : Nat := 0x40200404 + 0x100000 * d + 0x40 * p + 8 * q
def SOL_CHSTAT (d j : Nat) : Nat := 0x40201000 + 0x100000 * d + 0x20 * j
def SOL_CHI (d j : Nat) : Nat := 0x40201004 + 0x100000 * d + 0x20 * j
def SOL_CHCMD (d j : Nat) : Nat := 0x40201008 + 0x100000 * d + 0x20 * j
def SOL_CMD (d j : Nat) : Nat := 0x4020100C + 0x100000 * d + 0x20 * j
def SOL_CHSAFE (d j : Nat) : Nat := 0x40201010 + 0x100000 * d + 0x20 * j
def LSW_CTL (d : Nat) : Nat := 0x40240000 + 0x100000 * d
def LSW_STAT (d : Nat) : Nat := 0x40240004 + 0x100000 * d
def LSW_SHEDCNT (d : Nat) : Nat := 0x40240008 + 0x100000 * d
def LSW_RETRYCNT (d : Nat) : Nat := 0x4024000C + 0x100000 * d
def LSW_DIESTAT (d : Nat) : Nat := 0x40240010 + 0x100000 * d
def LSW_GRPCFG (d g : Nat) : Nat := 0x40240020 + 0x100000 * d + 0x10 * g
def LSW_GRPSTAT (d g : Nat) : Nat := 0x40240024 + 0x100000 * d + 0x10 * g
def LSW_GRPV (d g : Nat) : Nat := 0x40240028 + 0x100000 * d + 0x10 * g
def LSW_CLSTAT (d c : Nat) : Nat := 0x40240080 + 0x100000 * d + 4 * c
def LSW_CHSTAT (d j : Nat) : Nat := 0x40241000 + 0x100000 * d + 0x20 * j
def LSW_CHI (d j : Nat) : Nat := 0x40241004 + 0x100000 * d + 0x20 * j
def LSW_CHDUTY (d j : Nat) : Nat := 0x40241008 + 0x100000 * d + 0x20 * j
def LSW_CMD (d j : Nat) : Nat := 0x4024100C + 0x100000 * d + 0x20 * j
def LSW_CHSAFE (d j : Nat) : Nat := 0x40241010 + 0x100000 * d + 0x20 * j
def DIO_CTL (d : Nat) : Nat := 0x40280000 + 0x100000 * d
def DIO_STAT (d : Nat) : Nat := 0x40280004 + 0x100000 * d
def DIO_INLVL (d : Nat) : Nat := 0x40280008 + 0x100000 * d
def DIO_RAWLVL (d : Nat) : Nat := 0x4028000C + 0x100000 * d
def DIO_OUTLVL (d : Nat) : Nat := 0x40280010 + 0x100000 * d
def DIO_CLSTAT (d c : Nat) : Nat := 0x40280020 + 0x100000 * d + 4 * c
def DIO_PTSTAT (d j : Nat) : Nat := 0x40281000 + 0x100000 * d + 0x10 * j
def DIO_INTS (d j : Nat) : Nat := 0x40281004 + 0x100000 * d + 0x10 * j
def DIO_CMD (d j : Nat) : Nat := 0x40281008 + 0x100000 * d + 0x10 * j
def DIO_PTSAFE (d j : Nat) : Nat := 0x4028100C + 0x100000 * d + 0x10 * j
def AFE_CTL : Nat := 0x40400000
def AFE_STAT : Nat := 0x40400004
def AFE_EXCCFG (n : Nat) : Nat := 0x40400010 + 4 * n
def AFE_EXCSTAT (n : Nat) : Nat := 0x40400040 + 4 * n
def AFE_RES (i : Nat) : Nat := 0x40400100 + 0x10 * i
def AFE_TS (i : Nat) : Nat := 0x40400104 + 0x10 * i
def AFE_CHSTAT (i : Nat) : Nat := 0x40400108 + 0x10 * i
def AFE_FIRLEN (f : Nat) : Nat := 0x40400800 + 4 * f
def AFE_FIR (f t : Nat) : Nat := 0x40401000 + 0x80 * f + 4 * t
def PLS_CTL : Nat := 0x40440000
def PLS_STAT : Nat := 0x40440004
def PLS_CNT (n : Nat) : Nat := 0x40440100 + 0x20 * n
def PLS_RATE (n : Nat) : Nat := 0x40440104 + 0x20 * n
def PLS_TS (n : Nat) : Nat := 0x40440108 + 0x20 * n
def PLS_AUX (n : Nat) : Nat := 0x4044010C + 0x20 * n
def PLS_CHSTAT (n : Nat) : Nat := 0x40440110 + 0x20 * n
def PLS_ZXCFG (z : Nat) : Nat := 0x40440400 + 0x10 * z
def PLS_ZXSTAT (z : Nat) : Nat := 0x40440404 + 0x10 * z
def PLS_ZXTS (z : Nat) : Nat := 0x40440408 + 0x10 * z
def IMU_CTL : Nat := 0x40480000
def IMU_STAT : Nat := 0x40480004
def IMU_AXY : Nat := 0x40480010
def IMU_AZT : Nat := 0x40480014
def IMU_GXY : Nat := 0x40480018
def IMU_GZ : Nat := 0x4048001C
def IMU_TS : Nat := 0x40480020
def WVE_CTL : Nat := 0x40150000
def WVE_STAT : Nat := 0x40150004
def WVE_SOL : Nat := 0x40150008
def WVE_SOLIN : Nat := 0x4015000C
def WVE_HERR : Nat := 0x40150010
def WVE_FULLCFG : Nat := 0x40150014
def WVE_COAST : Nat := 0x40150018
def WVE_VTOL_PS : Nat := 0x4015001C
def WVE_VTOL_H : Nat := 0x40150020
def WVE_HITCH : Nat := 0x40150024
def WVE_HITCH_I : Nat := 0x40150028
def WVE_FIELD : Nat := 0x40150030
def WVE_ORG_LAT_LO : Nat := 0x40150034
def WVE_ORG_LAT_HI : Nat := 0x40150038
def WVE_ORG_LON_LO : Nat := 0x4015003C
def WVE_ORG_LON_HI : Nat := 0x40150040
def WVE_ORG_H : Nat := 0x40150044
def WVE_GUIDE : Nat := 0x40150050
def WVE_GUIDE_E : Nat := 0x40150054
def WVE_GUIDE_N : Nat := 0x40150058
def WVE_GUIDE_DIR : Nat := 0x4015005C
def WVE_OUTCFG : Nat := 0x40150060
def WVE_TRKCFG : Nat := 0x40150064
def WVE_TRKCOAST : Nat := 0x40150068
def WVE_LATECNT : Nat := 0x40150070
def WVE_CORRCNT : Nat := 0x40150074
def WVE_UNPAIRCNT : Nat := 0x40150078
def WVE_BADCNT : Nat := 0x4015007C
def WVE_DROPCNT : Nat := 0x40150080
def WVE_TRKNUM : Nat := 0x40150084
def WVE_SRCSTAT (s : Nat) : Nat := 0x40150100 + 0x10 * s
def WVE_SRCOFF (s : Nat) : Nat := 0x40150104 + 0x10 * s
def WVE_SRCRATE (s : Nat) : Nat := 0x40150108 + 0x10 * s
def WVE_SRCLATE (s : Nat) : Nat := 0x4015010C + 0x10 * s
def GRF_CTL : Nat := 0x404C0000
def GRF_STAT : Nat := 0x404C0004
def GRF_ANTCFG (a : Nat) : Nat := 0x404C0010 + 4 * a
def GRF_ANTSTAT (a : Nat) : Nat := 0x404C0018 + 4 * a
def GRF_JAM (a b : Nat) : Nat := 0x404C0040 + 0x10 * a + 4 * b
def GRF_NOTCH (a b f : Nat) : Nat := 0x404C0100 + 0x40 * a + 0x10 * b + 4 * f
def GNS_CTL : Nat := 0x40500000
def GNS_SIGEN : Nat := 0x40500004
def GNS_HDGSIG : Nat := 0x40500008
def GNS_STAT : Nat := 0x4050000C
def GNS_SOL : Nat := 0x40500010
def GNS_ACQCMD : Nat := 0x40500020
def GNS_ACQSTAT : Nat := 0x40500024
def GNS_CHUSE : Nat := 0x40500030
def GNS_CHSEL : Nat := 0x40500034
def GNS_CHINFO : Nat := 0x40500038
def GNS_CORR : Nat := 0x40500040
def GNS_HDGCFG : Nat := 0x40500050
def GNS_INJCFG : Nat := 0x40500060
def GNS_INJ_LAT_LO : Nat := 0x40500064
def GNS_INJ_LAT_HI : Nat := 0x40500068
def GNS_INJ_LON_LO : Nat := 0x4050006C
def GNS_INJ_LON_HI : Nat := 0x40500070
def GNS_INJ_H : Nat := 0x40500074
def GNS_INJ_EPOCH : Nat := 0x40500078
def GNS_INJ_CTL : Nat := 0x4050007C
def GNS_CLKOFF_LO : Nat := 0x40500080
def GNS_CLKOFF_HI : Nat := 0x40500084
def GNS_DROPCNT : Nat := 0x40500090
def TIM_CTL : Nat := 0x40090000
def TIM_STAT : Nat := 0x40090004
def TIM_STATE : Nat := 0x40090008
def TIM_ERR : Nat := 0x4009000C
def TIM_MTB_LO : Nat := 0x40090010
def TIM_MTB_HI : Nat := 0x40090014
def TIM_RT_NS : Nat := 0x40090018
def TIM_RT_SEC_LO : Nat := 0x4009001C
def TIM_RT_SEC_HI : Nat := 0x40090020
def TIM_RATE : Nat := 0x40090024
def TIM_SRCCFG : Nat := 0x40090030
def TIM_SERVO : Nat := 0x40090034
def TIM_HOLD : Nat := 0x40090038
def TIM_SLEW : Nat := 0x4009003C
def TIM_STEPTH : Nat := 0x40090040
def TIM_SET_NS : Nat := 0x40090044
def TIM_SET_SEC_LO : Nat := 0x40090048
def TIM_SET_SEC_HI : Nat := 0x4009004C
def TIM_PTPOFS_LO : Nat := 0x40090050
def TIM_PTPOFS_HI : Nat := 0x40090054
def TIM_PTPINST : Nat := 0x40090058
def TIM_PTPCFG : Nat := 0x4009005C
def TIM_UTC : Nat := 0x40090060
def TIM_UTCAT : Nat := 0x40090064
def TIM_SETERR : Nat := 0x40090068
def TIM_TPCFG (p : Nat) : Nat := 0x40090070 + 0x10 * p
def TIM_TPPER (p : Nat) : Nat := 0x40090074 + 0x10 * p
def TIM_TPWID (p : Nat) : Nat := 0x40090078 + 0x10 * p
def TIM_TPDLY (p : Nat) : Nat := 0x4009007C + 0x10 * p
def TIM_DROPCNT : Nat := 0x400900C0
def YLD_CTL : Nat := 0x40160000
def YLD_STAT : Nat := 0x40160004
def YLD_CFG : Nat := 0x40160008
def YLD_CUT01 : Nat := 0x4016000C
def YLD_CUT23 : Nat := 0x40160010
def YLD_FLOWCFG : Nat := 0x40160014
def YLD_KF : Nat := 0x40160018
def YLD_TARE : Nat := 0x4016001C
def YLD_MOISTCFG : Nat := 0x40160020
def YLD_KM : Nat := 0x40160024
def YLD_M0 : Nat := 0x40160028
def YLD_DELAY0 : Nat := 0x40160030
def YLD_DELAY1 : Nat := 0x40160034
def YLD_DELAY2 : Nat := 0x40160038
def YLD_QREF : Nat := 0x4016003C
def YLD_DNOW : Nat := 0x40160040
def YLD_CFECFG (e : Nat) : Nat := 0x40160080 + 0x20 * e
def YLD_CFEKQ (e : Nat) : Nat := 0x40160084 + 0x20 * e
def YLD_CFEX0 (e : Nat) : Nat := 0x40160088 + 0x20 * e
def YLD_CFETF (e : Nat) : Nat := 0x4016008C + 0x20 * e
def YLD_CFEOUT (e : Nat) : Nat := 0x40160090 + 0x20 * e
def YLD_CFESTAT (e : Nat) : Nat := 0x40160094 + 0x20 * e
def YLD_LOSSCFG (l : Nat) : Nat := 0x40160100 + 0x20 * l
def YLD_LOSSMASK (l : Nat) : Nat := 0x40160104 + 0x20 * l
def YLD_LOSSOUT (l : Nat) : Nat := 0x40160108 + 0x20 * l
def YLD_LOSSSTAT (l : Nat) : Nat := 0x4016010C + 0x20 * l
def YLD_POOLBASE_LO : Nat := 0x40160200
def YLD_POOLBASE_HI : Nat := 0x40160204
def YLD_POOLCFG : Nat := 0x40160208
def YLD_POOLHEAD : Nat := 0x4016020C
def YLD_POOLTAIL : Nat := 0x40160210
def YLD_SREF : Nat := 0x40160220
def YLD_OUTCFG : Nat := 0x40160224
def YLD_DROPCNT : Nat := 0x40160228
def YLD_FOLDCNT : Nat := 0x4016022C
def YLD_CELLCNT : Nat := 0x40160230
def YLD_UNMARKED : Nat := 0x40160234
def YLD_FLOWNOW : Nat := 0x40160238
def YLD_MOISTNOW : Nat := 0x4016023C
def YLD_TRACE : Nat := 0x40160240
def IMG_CTL : Nat := 0x40600000
def IMG_STAT : Nat := 0x40600004
def IMG_DROPCNT : Nat := 0x40600008
def IMG_SCHED : Nat := 0x40600010
def IMG_CAMCFG (c : Nat) : Nat := 0x40601000 + 0x100 * c
def IMG_CAMSIZE (c : Nat) : Nat := 0x40601004 + 0x100 * c
def IMG_CAMSTAT (c : Nat) : Nat := 0x40601008 + 0x100 * c
def IMG_FNUM (c : Nat) : Nat := 0x4060100C + 0x100 * c
def IMG_PRF0 (c : Nat) : Nat := 0x40601010 + 0x100 * c
def IMG_PRF1 (c : Nat) : Nat := 0x40601014 + 0x100 * c
def IMG_PRF2 (c : Nat) : Nat := 0x40601018 + 0x100 * c
def IMG_PRF3 (c : Nat) : Nat := 0x4060101C + 0x100 * c
def IMG_PRF4 (c : Nat) : Nat := 0x40601020 + 0x100 * c
def IMG_PSET0 (c : Nat) : Nat := 0x40601024 + 0x100 * c
def IMG_PSET1 (c : Nat) : Nat := 0x40601028 + 0x100 * c
def IMG_PSETGO (c : Nat) : Nat := 0x4060102C + 0x100 * c
def IMG_LEDG (c : Nat) : Nat := 0x40601030 + 0x100 * c
def IMG_SUPCNT (c : Nat) : Nat := 0x40601034 + 0x100 * c
def IMG_CCICMD (c : Nat) : Nat := 0x40601038 + 0x100 * c
def IMG_RAWBASE (c : Nat) : Nat := 0x40601040 + 0x100 * c
def IMG_RAWCFG (c : Nat) : Nat := 0x40601044 + 0x100 * c
def IMG_CTXCFG (x : Nat) : Nat := 0x40602000 + 0x100 * x
def IMG_CTXDISP (x : Nat) : Nat := 0x40602004 + 0x100 * x
def IMG_CTXCODE (x : Nat) : Nat := 0x40602008 + 0x100 * x
def IMG_CTXZONE (x : Nat) : Nat := 0x4060200C + 0x100 * x
def IMG_CTXFEAT (x : Nat) : Nat := 0x40602010 + 0x100 * x
def IMG_CTXETH (x : Nat) : Nat := 0x40602014 + 0x100 * x
def IMG_CTXBLK (x : Nat) : Nat := 0x40602018 + 0x100 * x
def IMG_CTXAPPLY (x : Nat) : Nat := 0x4060201C + 0x100 * x
def IMG_PIPECFG (p : Nat) : Nat := 0x40603000 + 0x40 * p
def IMG_PIPESTAT (p : Nat) : Nat := 0x40603004 + 0x40 * p
def IMG_ENCCFG (s : Nat) : Nat := 0x40680000 + 0x40 * s
def IMG_ENCRATE (s : Nat) : Nat := 0x40680004 + 0x40 * s
def IMG_ENCQP (s : Nat) : Nat := 0x40680008 + 0x40 * s
def IMG_ENCIDR (s : Nat) : Nat := 0x4068000C + 0x40 * s
def IMG_ENCSKIP (s : Nat) : Nat := 0x40680010 + 0x40 * s
def DSP_CTL : Nat := 0x40700000
def DSP_STAT : Nat := 0x40700004
def DSP_PCFG (p : Nat) : Nat := 0x40701000 + 0x1000 * p
def DSP_HTIM (p : Nat) : Nat := 0x40701004 + 0x1000 * p
def DSP_VTIM (p : Nat) : Nat := 0x40701008 + 0x1000 * p
def DSP_SYNC (p : Nat) : Nat := 0x4070100C + 0x1000 * p
def DSP_PORCH (p : Nat) : Nat := 0x40701010 + 0x1000 * p
def DSP_PCLK (p : Nat) : Nat := 0x40701014 + 0x1000 * p
def DSP_RAIL (p : Nat) : Nat := 0x40701018 + 0x1000 * p
def DSP_RAIL1 (p : Nat) : Nat := 0x4070101C + 0x1000 * p
def DSP_SEQT (p : Nat) : Nat := 0x40701020 + 0x1000 * p
def DSP_SEQT1 (p : Nat) : Nat := 0x40701024 + 0x1000 * p
def DSP_TEMP (p : Nat) : Nat := 0x40701028 + 0x1000 * p
def DSP_TB (p : Nat) : Nat := 0x4070102C + 0x1000 * p
def DSP_VCOM (p b : Nat) : Nat := 0x40701030 + 0x1000 * p + 4 * b
def DSP_BL (p : Nat) : Nat := 0x40701040 + 0x1000 * p
def DSP_PSTAT (p : Nat) : Nat := 0x40701044 + 0x1000 * p
def DSP_REPCNT (p : Nat) : Nat := 0x40701048 + 0x1000 * p
def DSP_OD (p b w : Nat) : Nat := 0x40701400 + 0x1000 * p + 0x200 * b + 4 * w
def CAN_CTL (n : Nat) : Nat := 0x40800000 + 0x10000 * n
def CAN_NBT (n : Nat) : Nat := 0x40800004 + 0x10000 * n
def CAN_DBT (n : Nat) : Nat := 0x40800008 + 0x10000 * n
def CAN_TDC (n : Nat) : Nat := 0x4080000C + 0x10000 * n
def CAN_STAT (n : Nat) : Nat := 0x40800010 + 0x10000 * n
def CAN_ESTAT (n : Nat) : Nat := 0x40800014 + 0x10000 * n
def CAN_RJCFG (n : Nat) : Nat := 0x40800018 + 0x10000 * n
def CAN_RXFLUSH (n : Nat) : Nat := 0x4080001C + 0x10000 * n
def CAN_RXDROP (n : Nat) : Nat := 0x40800020 + 0x10000 * n
def CAN_MBCTL (n : Nat) : Nat := 0x40800030 + 0x10000 * n
def CAN_FID (n f : Nat) : Nat := 0x40800100 + 0x10000 * n + 0x10 * f
def CAN_FMASK (n f : Nat) : Nat := 0x40800104 + 0x10000 * n + 0x10 * f
def CAN_FACT (n f : Nat) : Nat := 0x40800108 + 0x10000 * n + 0x10 * f
def CAN_TXB_ID (n b : Nat) : Nat := 0x40801000 + 0x10000 * n + 0x100 * b
def CAN_TXB_CTL (n b : Nat) : Nat := 0x40801004 + 0x10000 * n + 0x100 * b
def CAN_TXB_D (n b w : Nat) : Nat := 0x40801008 + 0x10000 * n + 0x100 * b + 4 * w
def CAN_TXB_TS (n b : Nat) : Nat := 0x40801048 + 0x10000 * n + 0x100 * b
def CAN_MB_ID (n m : Nat) : Nat := 0x40802000 + 0x10000 * n + 0x80 * m
def CAN_MB_CTL (n m : Nat) : Nat := 0x40802004 + 0x10000 * n + 0x80 * m
def CAN_MB_D (n m w : Nat) : Nat := 0x40802008 + 0x10000 * n + 0x80 * m + 4 * w
def CAN_MB_TS (n m : Nat) : Nat := 0x40802048 + 0x10000 * n + 0x80 * m
def CAN_ACNAME_LO (n : Nat) : Nat := 0x40808000 + 0x10000 * n
def CAN_ACNAME_HI (n : Nat) : Nat := 0x40808004 + 0x10000 * n
def CAN_ACCFG (n : Nat) : Nat := 0x40808008 + 0x10000 * n
def CAN_ACSTAT (n : Nat) : Nat := 0x4080800C + 0x10000 * n
def CAN_TPCFG (n : Nat) : Nat := 0x40808010 + 0x10000 * n
def CAN_TPSTAT (n : Nat) : Nat := 0x40808014 + 0x10000 * n
def ETH_CTL : Nat := 0x40900000
def ETH_STAT : Nat := 0x40900004
def ETH_MAC_LO : Nat := 0x40900008
def ETH_MAC_HI : Nat := 0x4090000C
def ETH_AGE : Nat := 0x40900010
def ETH_PCPMAP : Nat := 0x40900014
def ETH_RXFLUSH : Nat := 0x40900018
def ETH_VLAN (v : Nat) : Nat := 0x40900100 + 8 * v
def ETH_UNTAG (v : Nat) : Nat := 0x40900104 + 8 * v
def ETH_PCFG (p : Nat) : Nat := 0x40901000 + 0x100 * p
def ETH_PSTAT (p : Nat) : Nat := 0x40901004 + 0x100 * p
def ETH_RXCNT (p : Nat) : Nat := 0x40901008 + 0x100 * p
def ETH_TXCNT (p : Nat) : Nat := 0x4090100C + 0x100 * p
def ETH_DROP (p : Nat) : Nat := 0x40901010 + 0x100 * p
def ETH_PLCA (s : Nat) : Nat := 0x40902000 + 0x10 * s
def ETH_PLCASTAT (s : Nat) : Nat := 0x40902004 + 0x10 * s
def TDM_CTL : Nat := 0x40A00000
def TDM_STAT : Nat := 0x40A00004
def TDM_STATE : Nat := 0x40A00008
def TDM_TKCFG : Nat := 0x40A0000C
def TDM_TKWAIT : Nat := 0x40A00010
def TDM_LINK : Nat := 0x40A00014
def TDM_LANEERR (l : Nat) : Nat := 0x40A00018 + 4 * l
def TDM_PTOFS_LO : Nat := 0x40A00030
def TDM_PTOFS_HI : Nat := 0x40A00034
def TDM_AXTOL : Nat := 0x40A00038
def TDM_AXOFF_LO (a : Nat) : Nat := 0x40A00040 + 0x10 * a
def TDM_AXOFF_HI (a : Nat) : Nat := 0x40A00044 + 0x10 * a
def TDM_AXDIV (a : Nat) : Nat := 0x40A00048 + 0x10 * a
def TDM_WIRE_SOL : Nat := 0x40A00100
def TDM_WIRE_HS (w : Nat) : Nat := 0x40A00104 + 4 * w
def TDM_WIRE_DIO (w : Nat) : Nat := 0x40A00110 + 4 * w
def TDM_LATECNT : Nat := 0x40A00120
def TDM_TKOCNT : Nat := 0x40A00124
def UPD_CTL : Nat := 0x40080000
def UPD_STAT : Nat := 0x40080004
def UPD_BUSY : Nat := 0x40080008
def UPD_PSTAT (p : Nat) : Nat := 0x40080010 + 4 * p
def UPD_VER (p : Nat) : Nat := 0x40080030 + 8 * p
def UPD_RBCNT (p : Nat) : Nat := 0x40080034 + 8 * p
def UPD_CFGFMT : Nat := 0x40080060
def UPD_HOBASE : Nat := 0x40080070
def UPD_HOSIZE : Nat := 0x40080074
def UPD_HOSTAT : Nat := 0x40080078
def UPD_HOVER : Nat := 0x4008007C
def UPD_RESTART : Nat := 0x40080080
def UPD_KEYREV : Nat := 0x40080090
def UPD_KEYS : Nat := 0x40080094
def EVR_CTL : Nat := 0x40070000
def EVR_STAT : Nat := 0x40070004
def EVR_JWPTR : Nat := 0x40070008
def EVR_STGUSED : Nat := 0x4007000C
def EVR_LOSTCNT : Nat := 0x40070010
def EVR_RECCFG : Nat := 0x40070014
def EVR_WARN : Nat := 0x40070018
def EVR_OPEN : Nat := 0x4007001C
def PWRM_CTL : Nat := 0x40010000
def PWRM_REQ : Nat := 0x40010004
def PWRM_STATE : Nat := 0x40010008
def PWRM_DOMEN : Nat := 0x4001000C
def PWRM_DOMSTAT : Nat := 0x40010010
def PWRM_WAKECFG : Nat := 0x40010014
def PWRM_WAKECAUSE : Nat := 0x40010018
def PWRM_ALARM_LO : Nat := 0x4001001C
def PWRM_ALARM_HI : Nat := 0x40010020
def PWRM_SUP : Nat := 0x40010024
def PWRM_STAT : Nat := 0x40010028
def PWRM_WSCTL : Nat := 0x40010030
def PWRM_WSSTAT : Nat := 0x40010034
def PWRM_WS (w : Nat) : Nat := 0x40D00000 + 4 * w
def RST_CTL : Nat := 0x40020000
def RST_CMD : Nat := 0x40020004
def RST_CAUSE : Nat := 0x40020008
def RST_SEEN : Nat := 0x4002000C
def RST_BOOTCNT : Nat := 0x40020010
def RST_STAT : Nat := 0x40020014
def RST_WDCFG (w : Nat) : Nat := 0x40020020 + 0x10 * w
def RST_WDKICK (w : Nat) : Nat := 0x40020024 + 0x10 * w
def RST_WDCNT (w : Nat) : Nat := 0x40020028 + 0x10 * w
def PMU_CTL : Nat := 0x40060000
def PMU_STAT : Nat := 0x40060004
def PMU_OVF_LO : Nat := 0x40060008
def PMU_OVF_HI : Nat := 0x4006000C
def PMU_SNAP_DB : Nat := 0x40060010
def PMU_SNAP_STAT : Nat := 0x40060014
def PMU_SNAP_MTB_LO : Nat := 0x40060018
def PMU_SNAP_MTB_HI : Nat := 0x4006001C
def PMU_SNAPDROP : Nat := 0x40060020
def PMU_BWCFG : Nat := 0x40060030
def PMU_BWSEQ : Nat := 0x40060034
def PMU_CFG (n : Nat) : Nat := 0x40060100 + 0x10 * n
def PMU_THR (n : Nat) : Nat := 0x40060104 + 0x10 * n
def PMU_CNT_LO (n : Nat) : Nat := 0x40060108 + 0x10 * n
def PMU_CNT_HI (n : Nat) : Nat := 0x4006010C + 0x10 * n
def PMU_SNAP_LO (n : Nat) : Nat := 0x40060800 + 8 * n
def PMU_SNAP_HI (n : Nat) : Nat := 0x40060804 + 8 * n
def PMU_BW (k : Nat) : Nat := 0x40060A00 + 4 * k
def PMU_SAMP_PC_LO (c : Nat) : Nat := 0x40060C00 + 0x20 * c
def PMU_SAMP_PC_HI (c : Nat) : Nat := 0x40060C04 + 0x20 * c
def PMU_SAMP_BT_LO (c : Nat) : Nat := 0x40060C08 + 0x20 * c
def PMU_SAMP_BT_HI (c : Nat) : Nat := 0x40060C0C + 0x20 * c
def PMU_SAMP_INFO (c : Nat) : Nat := 0x40060C10 + 0x20 * c

end Sys2Proof.Machine.R

namespace Sys2Proof.Machine.F

def MOD_ID_VENDOR : Fld := ⟨R.MOD_ID, 31, 16⟩
def MOD_ID_PART : Fld := ⟨R.MOD_ID, 15, 0⟩
def MOD_VARIANT_STEP_NUM : Fld := ⟨R.MOD_VARIANT, 11, 8⟩
def MOD_VARIANT_STEP_LETTER : Fld := ⟨R.MOD_VARIANT, 7, 4⟩
def MOD_VARIANT_CODE : Fld := ⟨R.MOD_VARIANT, 3, 0⟩
def MOD_CAP0_TDM : Fld := ⟨R.MOD_CAP0, 7, 7⟩
def MOD_CAP0_GNS : Fld := ⟨R.MOD_CAP0, 6, 6⟩
def MOD_CAP0_DSP : Fld := ⟨R.MOD_CAP0, 5, 5⟩
def MOD_CAP0_ENC : Fld := ⟨R.MOD_CAP0, 4, 4⟩
def MOD_CAP0_IMG : Fld := ⟨R.MOD_CAP0, 3, 3⟩
def MOD_CAP0_ADIE : Fld := ⟨R.MOD_CAP0, 2, 2⟩
def MOD_CAP0_P1DIE : Fld := ⟨R.MOD_CAP0, 1, 1⟩
def MOD_CAP0_P0DIE : Fld := ⟨R.MOD_CAP0, 0, 0⟩
def MOD_CAP1_CAM_COUNT : Fld := ⟨R.MOD_CAP1, 31, 24⟩
def MOD_CAP1_DIO_COUNT : Fld := ⟨R.MOD_CAP1, 23, 16⟩
def MOD_CAP1_HS_COUNT : Fld := ⟨R.MOD_CAP1, 15, 8⟩
def MOD_CAP1_SOL_COUNT : Fld := ⟨R.MOD_CAP1, 7, 0⟩
def MOD_CAP2_ENC_STREAMS : Fld := ⟨R.MOD_CAP2, 31, 28⟩
def MOD_CAP2_ISP_COUNT : Fld := ⟨R.MOD_CAP2, 27, 24⟩
def MOD_CAP2_ANT_COUNT : Fld := ⟨R.MOD_CAP2, 23, 20⟩
def MOD_CAP2_PNL_COUNT : Fld := ⟨R.MOD_CAP2, 19, 16⟩
def MOD_CAP2_EPT_MAX : Fld := ⟨R.MOD_CAP2, 15, 0⟩
def MOD_MEM_SRAM_KIB : Fld := ⟨R.MOD_MEM, 31, 16⟩
def MOD_MEM_DRAM_MIB : Fld := ⟨R.MOD_MEM, 15, 0⟩
def MOD_SERIAL_LO_SERIAL : Fld := ⟨R.MOD_SERIAL_LO, 31, 0⟩
def MOD_SERIAL_HI_SERIAL : Fld := ⟨R.MOD_SERIAL_HI, 31, 0⟩
def RNG_BASE_LO_ADDR (n : Nat) : Fld := ⟨R.RNG_BASE_LO n, 31, 6⟩
def RNG_BASE_HI_ADDR (n : Nat) : Fld := ⟨R.RNG_BASE_HI n, 7, 0⟩
def RNG_CFG_CRING (n : Nat) : Fld := ⟨R.RNG_CFG n, 29, 24⟩
def RNG_CFG_QUEUE (n : Nat) : Fld := ⟨R.RNG_CFG n, 15, 8⟩
def RNG_CFG_SIZE (n : Nat) : Fld := ⟨R.RNG_CFG n, 4, 0⟩
def RNG_DB_IDX (n : Nat) : Fld := ⟨R.RNG_DB n, 31, 0⟩
def RNG_HW_IDX (n : Nat) : Fld := ⟨R.RNG_HW n, 31, 0⟩
def RNG_STAT_ACTIVE (n : Nat) : Fld := ⟨R.RNG_STAT n, 8, 8⟩
def RNG_STAT_FETCH_ERR (n : Nat) : Fld := ⟨R.RNG_STAT n, 7, 7⟩
def RNG_STAT_CROFF (n : Nat) : Fld := ⟨R.RNG_STAT n, 6, 6⟩
def RNG_STAT_CFG_BUSY (n : Nat) : Fld := ⟨R.RNG_STAT n, 5, 5⟩
def RNG_STAT_ABORT_DONE (n : Nat) : Fld := ⟨R.RNG_STAT n, 4, 4⟩
def RNG_STAT_CFULL (n : Nat) : Fld := ⟨R.RNG_STAT n, 3, 3⟩
def RNG_STAT_BIND_CONFLICT (n : Nat) : Fld := ⟨R.RNG_STAT n, 2, 2⟩
def RNG_STAT_CFG_ERR (n : Nat) : Fld := ⟨R.RNG_STAT n, 1, 1⟩
def RNG_STAT_DB_ERR (n : Nat) : Fld := ⟨R.RNG_STAT n, 0, 0⟩
def RNG_COAL_TIME (n : Nat) : Fld := ⟨R.RNG_COAL n, 31, 16⟩
def RNG_COAL_COUNT (n : Nat) : Fld := ⟨R.RNG_COAL n, 15, 0⟩
def RNG_TBASE_LO_ADDR (t : Nat) : Fld := ⟨R.RNG_TBASE_LO t, 31, 6⟩
def RNG_TBASE_HI_ADDR (t : Nat) : Fld := ⟨R.RNG_TBASE_HI t, 7, 0⟩
def RNG_TSTAT_BUSY (t : Nat) : Fld := ⟨R.RNG_TSTAT t, 31, 31⟩
def RNG_TSTAT_LAST_TORN (t : Nat) : Fld := ⟨R.RNG_TSTAT t, 27, 16⟩
def RNG_TSTAT_DENIED (t : Nat) : Fld := ⟨R.RNG_TSTAT t, 3, 3⟩
def RNG_TSTAT_TDB_BUSY (t : Nat) : Fld := ⟨R.RNG_TSTAT t, 2, 2⟩
def RNG_TSTAT_RANGE (t : Nat) : Fld := ⟨R.RNG_TSTAT t, 1, 1⟩
def RNG_TSTAT_TORN (t : Nat) : Fld := ⟨R.RNG_TSTAT t, 0, 0⟩
def RNG_TSHADOW_LO_ADDR : Fld := ⟨R.RNG_TSHADOW_LO, 31, 6⟩
def RNG_TSHADOW_HI_ADDR : Fld := ⟨R.RNG_TSHADOW_HI, 7, 0⟩
def RNG_TDB_TABLE : Fld := ⟨R.RNG_TDB, 31, 29⟩
def RNG_TDB_COUNT : Fld := ⟨R.RNG_TDB, 28, 16⟩
def RNG_TDB_FIRST : Fld := ⟨R.RNG_TDB, 11, 0⟩
def RNG_INT_PEND_PEND (k : Nat) : Fld := ⟨R.RNG_INT_PEND k, 31, 0⟩
def RNG_INT_EN_EN (k : Nat) : Fld := ⟨R.RNG_INT_EN k, 31, 0⟩
def RNG_INT_SEL_SRC : Fld := ⟨R.RNG_INT_SEL, 8, 0⟩
def RNG_INT_ROUTE_GROUP : Fld := ⟨R.RNG_INT_ROUTE, 4, 4⟩
def RNG_INT_ROUTE_CORE : Fld := ⟨R.RNG_INT_ROUTE, 2, 0⟩
def RNG_LOCK_LOCK : Fld := ⟨R.RNG_LOCK, 0, 0⟩
def REIN_RANK_LIMIT (m : Nat) : Fld := ⟨R.REIN_RANK m, 31, 16⟩
def REIN_RANK_RANK (m : Nat) : Fld := ⟨R.REIN_RANK m, 3, 0⟩
def REIN_WSEL_MASTER : Fld := ⟨R.REIN_WSEL, 21, 16⟩
def REIN_WSEL_TARGET : Fld := ⟨R.REIN_WSEL, 4, 0⟩
def REIN_WAIT_PENDING : Fld := ⟨R.REIN_WAIT, 16, 16⟩
def REIN_WAIT_WAIT : Fld := ⟨R.REIN_WAIT, 15, 0⟩
def REIN_STARV_LO_MASTERS (t : Nat) : Fld := ⟨R.REIN_STARV_LO t, 31, 0⟩
def REIN_STARV_HI_MASTERS (t : Nat) : Fld := ⟨R.REIN_STARV_HI t, 15, 0⟩
def REIN_TSTAT_RANK_DEFERRED (t : Nat) : Fld := ⟨R.REIN_TSTAT t, 17, 17⟩
def REIN_TSTAT_LOCK_TIMEOUT (t : Nat) : Fld := ⟨R.REIN_TSTAT t, 16, 16⟩
def REIN_TSTAT_LOCK_LEFT (t : Nat) : Fld := ⟨R.REIN_TSTAT t, 13, 8⟩
def REIN_TSTAT_LOCKED (t : Nat) : Fld := ⟨R.REIN_TSTAT t, 6, 6⟩
def REIN_TSTAT_HOLDER (t : Nat) : Fld := ⟨R.REIN_TSTAT t, 5, 0⟩
def ACC_TE_BASE_ADDR (t e : Nat) : Fld := ⟨R.ACC_TE_BASE t e, 31, 0⟩
def ACC_TE_CTL_SEC (t e : Nat) : Fld := ⟨R.ACC_TE_CTL t e, 21, 21⟩
def ACC_TE_CTL_PRIV (t e : Nat) : Fld := ⟨R.ACC_TE_CTL t e, 20, 20⟩
def ACC_TE_CTL_X (t e : Nat) : Fld := ⟨R.ACC_TE_CTL t e, 18, 18⟩
def ACC_TE_CTL_W (t e : Nat) : Fld := ⟨R.ACC_TE_CTL t e, 17, 17⟩
def ACC_TE_CTL_R (t e : Nat) : Fld := ⟨R.ACC_TE_CTL t e, 16, 16⟩
def ACC_TE_CTL_SIZE (t e : Nat) : Fld := ⟨R.ACC_TE_CTL t e, 13, 8⟩
def ACC_TE_CTL_MASTER (t e : Nat) : Fld := ⟨R.ACC_TE_CTL t e, 5, 0⟩
def ACC_T_CTL_OWNER (t : Nat) : Fld := ⟨R.ACC_T_CTL t, 4, 4⟩
def ACC_T_CTL_LOCK (t : Nat) : Fld := ⟨R.ACC_T_CTL t, 0, 0⟩
def ACC_T_FADDR_LO_ADDR (t : Nat) : Fld := ⟨R.ACC_T_FADDR_LO t, 31, 0⟩
def ACC_T_FADDR_HI_ADDR (t : Nat) : Fld := ⟨R.ACC_T_FADDR_HI t, 7, 0⟩
def ACC_T_FINFO_VALID (t : Nat) : Fld := ⟨R.ACC_T_FINFO t, 31, 31⟩
def ACC_T_FINFO_COUNT (t : Nat) : Fld := ⟨R.ACC_T_FINFO t, 23, 16⟩
def ACC_T_FINFO_SEC (t : Nat) : Fld := ⟨R.ACC_T_FINFO t, 11, 11⟩
def ACC_T_FINFO_PRIV (t : Nat) : Fld := ⟨R.ACC_T_FINFO t, 10, 10⟩
def ACC_T_FINFO_EXEC (t : Nat) : Fld := ⟨R.ACC_T_FINFO t, 9, 9⟩
def ACC_T_FINFO_WRITE (t : Nat) : Fld := ⟨R.ACC_T_FINFO t, 8, 8⟩
def ACC_T_FINFO_MASTER (t : Nat) : Fld := ⟨R.ACC_T_FINFO t, 5, 0⟩
def STR_AXCFG_DIRPT (a : Nat) : Fld := ⟨R.STR_AXCFG a, 31, 26⟩
def STR_AXCFG_DIR (a : Nat) : Fld := ⟨R.STR_AXCFG a, 25, 24⟩
def STR_AXCFG_SRC (a : Nat) : Fld := ⟨R.STR_AXCFG a, 23, 16⟩
def STR_AXCFG_XEN (a : Nat) : Fld := ⟨R.STR_AXCFG a, 9, 9⟩
def STR_AXCFG_RETURN (a : Nat) : Fld := ⟨R.STR_AXCFG a, 8, 8⟩
def STR_AXCFG_INVERT (a : Nat) : Fld := ⟨R.STR_AXCFG a, 6, 6⟩
def STR_AXCFG_KIND (a : Nat) : Fld := ⟨R.STR_AXCFG a, 2, 1⟩
def STR_AXCFG_EN (a : Nat) : Fld := ⟨R.STR_AXCFG a, 0, 0⟩
def STR_AXFB_FB2 (a : Nat) : Fld := ⟨R.STR_AXFB a, 15, 8⟩
def STR_AXFB_FB1 (a : Nat) : Fld := ⟨R.STR_AXFB a, 7, 0⟩
def STR_AXSCLP_SCALE (a : Nat) : Fld := ⟨R.STR_AXSCLP a, 31, 0⟩
def STR_AXSCL1_SCALE (a : Nat) : Fld := ⟨R.STR_AXSCL1 a, 31, 0⟩
def STR_AXSCL2_SCALE (a : Nat) : Fld := ⟨R.STR_AXSCL2 a, 31, 0⟩
def STR_AXBLEND_BLEND (a : Nat) : Fld := ⟨R.STR_AXBLEND a, 31, 0⟩
def STR_AXSTILL_DWELL (a : Nat) : Fld := ⟨R.STR_AXSTILL a, 31, 16⟩
def STR_AXSTILL_RATE (a : Nat) : Fld := ⟨R.STR_AXSTILL a, 15, 0⟩
def STR_AXLOSS_COAST (a : Nat) : Fld := ⟨R.STR_AXLOSS a, 31, 16⟩
def STR_AXLOSS_TIMEOUT (a : Nat) : Fld := ⟨R.STR_AXLOSS a, 15, 0⟩
def STR_AXXCHK_XDWELL (a : Nat) : Fld := ⟨R.STR_AXXCHK a, 23, 8⟩
def STR_AXXCHK_TOL (a : Nat) : Fld := ⟨R.STR_AXXCHK a, 7, 0⟩
def STR_AXREST_RESTORE (a : Nat) : Fld := ⟨R.STR_AXREST a, 15, 0⟩
def STR_AXPRESET_LO_POS (a : Nat) : Fld := ⟨R.STR_AXPRESET_LO a, 31, 0⟩
def STR_AXPRESET_HI_POS (a : Nat) : Fld := ⟨R.STR_AXPRESET_HI a, 31, 0⟩
def STR_AXPOS_LO_POS (a : Nat) : Fld := ⟨R.STR_AXPOS_LO a, 31, 0⟩
def STR_AXPOS_HI_POS (a : Nat) : Fld := ⟨R.STR_AXPOS_HI a, 31, 0⟩
def STR_AXFRAC_FRAC (a : Nat) : Fld := ⟨R.STR_AXFRAC a, 15, 0⟩
def STR_AXRATE_LO_FRAC (a : Nat) : Fld := ⟨R.STR_AXRATE_LO a, 31, 0⟩
def STR_AXRATE_HI_INT (a : Nat) : Fld := ⟨R.STR_AXRATE_HI a, 31, 0⟩
def STR_AXSTAT_RESUMED (a : Nat) : Fld := ⟨R.STR_AXSTAT a, 22, 22⟩
def STR_AXSTAT_CFG_ERR (a : Nat) : Fld := ⟨R.STR_AXSTAT a, 21, 21⟩
def STR_AXSTAT_QERR (a : Nat) : Fld := ⟨R.STR_AXSTAT a, 20, 20⟩
def STR_AXSTAT_AXIS_LOST (a : Nat) : Fld := ⟨R.STR_AXSTAT a, 19, 19⟩
def STR_AXSTAT_XCHK_FAIL (a : Nat) : Fld := ⟨R.STR_AXSTAT a, 18, 18⟩
def STR_AXSTAT_SRC_LOST (a : Nat) : Fld := ⟨R.STR_AXSTAT a, 17, 17⟩
def STR_AXSTAT_SWITCHED (a : Nat) : Fld := ⟨R.STR_AXSTAT a, 16, 16⟩
def STR_AXSTAT_SRC_OK (a : Nat) : Fld := ⟨R.STR_AXSTAT a, 12, 10⟩
def STR_AXSTAT_REVERSE (a : Nat) : Fld := ⟨R.STR_AXSTAT a, 9, 9⟩
def STR_AXSTAT_STILL (a : Nat) : Fld := ⟨R.STR_AXSTAT a, 8, 8⟩
def STR_AXSTAT_STATE (a : Nat) : Fld := ⟨R.STR_AXSTAT a, 6, 4⟩
def STR_AXSTAT_ACTIVE (a : Nat) : Fld := ⟨R.STR_AXSTAT a, 1, 0⟩
def STR_AXQERR_COUNT (a : Nat) : Fld := ⟨R.STR_AXQERR a, 15, 0⟩
def STR_CTL_LOCK : Fld := ⟨R.STR_CTL, 0, 0⟩
def STR_SNAP_DB_GO : Fld := ⟨R.STR_SNAP_DB, 0, 0⟩
def STR_SNAP_STAT_SEQ : Fld := ⟨R.STR_SNAP_STAT, 31, 16⟩
def STR_SNAP_STAT_DOORBELL : Fld := ⟨R.STR_SNAP_STAT, 7, 7⟩
def STR_SNAP_STAT_TRG : Fld := ⟨R.STR_SNAP_STAT, 4, 0⟩
def STR_SNAP_MTB_LO_MTB : Fld := ⟨R.STR_SNAP_MTB_LO, 31, 0⟩
def STR_SNAP_MTB_HI_MTB : Fld := ⟨R.STR_SNAP_MTB_HI, 31, 0⟩
def STR_SNAP_POS_LO_POS (a : Nat) : Fld := ⟨R.STR_SNAP_POS_LO a, 31, 0⟩
def STR_SNAP_POS_HI_POS (a : Nat) : Fld := ⟨R.STR_SNAP_POS_HI a, 31, 0⟩
def STR_SNAP_FRAC_FRAC (a : Nat) : Fld := ⟨R.STR_SNAP_FRAC a, 15, 0⟩
def STR_SNAP_RATE_LO_FRAC (a : Nat) : Fld := ⟨R.STR_SNAP_RATE_LO a, 31, 0⟩
def STR_SNAP_RATE_HI_INT (a : Nat) : Fld := ⟨R.STR_SNAP_RATE_HI a, 31, 0⟩
def STR_TRGCFG_ACTION (n : Nat) : Fld := ⟨R.STR_TRGCFG n, 11, 8⟩
def STR_TRGCFG_DIRN (n : Nat) : Fld := ⟨R.STR_TRGCFG n, 5, 4⟩
def STR_TRGCFG_AXIS (n : Nat) : Fld := ⟨R.STR_TRGCFG n, 3, 1⟩
def STR_TRGCFG_EN (n : Nat) : Fld := ⟨R.STR_TRGCFG n, 0, 0⟩
def STR_TRGPOS_POS (n : Nat) : Fld := ⟨R.STR_TRGPOS n, 31, 0⟩
def STR_TRGSTAT_CFG_ERR (n : Nat) : Fld := ⟨R.STR_TRGSTAT n, 2, 2⟩
def STR_TRGSTAT_LATE (n : Nat) : Fld := ⟨R.STR_TRGSTAT n, 1, 1⟩
def STR_TRGSTAT_FIRED (n : Nat) : Fld := ⟨R.STR_TRGSTAT n, 0, 0⟩
def STR_TRGTIME_TIME (n : Nat) : Fld := ⟨R.STR_TRGTIME n, 31, 0⟩
def EPT_CTL_LOCK : Fld := ⟨R.EPT_CTL, 31, 31⟩
def EPT_CTL_EN : Fld := ⟨R.EPT_CTL, 0, 0⟩
def EPT_COUNT_N : Fld := ⟨R.EPT_COUNT, 12, 0⟩
def EPT_REJOIN_CWAIT : Fld := ⟨R.EPT_REJOIN, 23, 8⟩
def EPT_REJOIN_N : Fld := ⟨R.EPT_REJOIN, 7, 0⟩
def EPT_STAT_CLAMPED : Fld := ⟨R.EPT_STAT, 4, 4⟩
def EPT_STAT_STATE_CHG : Fld := ⟨R.EPT_STAT, 3, 3⟩
def EPT_STAT_CONFIG : Fld := ⟨R.EPT_STAT, 2, 2⟩
def EPT_STAT_CONFLICT : Fld := ⟨R.EPT_STAT, 1, 1⟩
def EPT_TICKSEQ_SEQ : Fld := ⟨R.EPT_TICKSEQ, 31, 0⟩
def EPT_NSTATE_NREJOIN : Fld := ⟨R.EPT_NSTATE, 28, 16⟩
def EPT_NSTATE_NOUT : Fld := ⟨R.EPT_NSTATE, 12, 0⟩
def EPT_NIN_NIN : Fld := ⟨R.EPT_NIN, 12, 0⟩
def EPT_CHIT_COUNT : Fld := ⟨R.EPT_CHIT, 31, 0⟩
def EPT_CMISS_COUNT : Fld := ⟨R.EPT_CMISS, 31, 0⟩
def EPT_LASTCHG_CAUSE : Fld := ⟨R.EPT_LASTCHG, 23, 20⟩
def EPT_LASTCHG_STATE : Fld := ⟨R.EPT_LASTCHG, 17, 16⟩
def EPT_LASTCHG_INDEX : Fld := ⟨R.EPT_LASTCHG, 11, 0⟩
def EPT_STATE_W (e w : Nat) : Fld := ⟨R.EPT_STATE e w, 31, 0⟩
def SLT_CTL_LOCK : Fld := ⟨R.SLT_CTL, 31, 31⟩
def SLT_CTL_EN : Fld := ⟨R.SLT_CTL, 0, 0⟩
def SLT_RMT_PRIO : Fld := ⟨R.SLT_RMT, 22, 20⟩
def SLT_RMT_REPEAT : Fld := ⟨R.SLT_RMT, 17, 16⟩
def SLT_RMT_CUTOFF : Fld := ⟨R.SLT_RMT, 15, 0⟩
def SLT_TFRM_PERIOD : Fld := ⟨R.SLT_TFRM, 15, 0⟩
def SLT_TMASK_T1S : Fld := ⟨R.SLT_TMASK, 17, 16⟩
def SLT_TMASK_CAN : Fld := ⟨R.SLT_TMASK, 11, 0⟩
def SLT_NTO_NTO : Fld := ⟨R.SLT_NTO, 15, 0⟩
def SLT_SA_SA : Fld := ⟨R.SLT_SA, 7, 0⟩
def SLT_STAT_ISSUE_FULL : Fld := ⟨R.SLT_STAT, 12, 12⟩
def SLT_STAT_PWIDTH_ADJ : Fld := ⟨R.SLT_STAT, 11, 11⟩
def SLT_STAT_TRAIN_CUT : Fld := ⟨R.SLT_STAT, 10, 10⟩
def SLT_STAT_CMT_LATE : Fld := ⟨R.SLT_STAT, 9, 9⟩
def SLT_STAT_COMMIT : Fld := ⟨R.SLT_STAT, 8, 8⟩
def SLT_STAT_NODE_LOST : Fld := ⟨R.SLT_STAT, 7, 7⟩
def SLT_STAT_RLATE : Fld := ⟨R.SLT_STAT, 6, 6⟩
def SLT_STAT_DQ_FULL : Fld := ⟨R.SLT_STAT, 5, 5⟩
def SLT_STAT_SKIPPED : Fld := ⟨R.SLT_STAT, 4, 4⟩
def SLT_STAT_LATE : Fld := ⟨R.SLT_STAT, 3, 3⟩
def SLT_STAT_CARRY_OVF : Fld := ⟨R.SLT_STAT, 2, 2⟩
def SLT_STAT_LOCKED_WR : Fld := ⟨R.SLT_STAT, 1, 1⟩
def SLT_SKIPCNT_COUNT : Fld := ⟨R.SLT_SKIPCNT, 31, 0⟩
def SLT_LATECNT_COUNT : Fld := ⟨R.SLT_LATECNT, 31, 0⟩
def SLT_CORRCNT_COUNT : Fld := ⟨R.SLT_CORRCNT, 31, 0⟩
def SLT_CANCNT_COUNT : Fld := ⟨R.SLT_CANCNT, 31, 0⟩
def SLT_CARRYCNT_COUNT : Fld := ⟨R.SLT_CARRYCNT, 31, 0⟩
def SLT_IMMCNT_COUNT : Fld := ⟨R.SLT_IMMCNT, 31, 0⟩
def SLT_NODESEL_BUS : Fld := ⟨R.SLT_NODESEL, 31, 28⟩
def SLT_NODESEL_NODE : Fld := ⟨R.SLT_NODESEL, 7, 0⟩
def SLT_NODESTAT_SEEN : Fld := ⟨R.SLT_NODESTAT, 31, 31⟩
def SLT_NODESTAT_HEALTHY : Fld := ⟨R.SLT_NODESTAT, 30, 30⟩
def SLT_NODESTAT_TIME_OK : Fld := ⟨R.SLT_NODESTAT, 29, 29⟩
def SLT_NODESTAT_FAULT : Fld := ⟨R.SLT_NODESTAT, 28, 28⟩
def SLT_NODESTAT_LASTSEQ : Fld := ⟨R.SLT_NODESTAT, 15, 0⟩
def SLT_NODESEQ_NEXT : Fld := ⟨R.SLT_NODESEQ, 15, 0⟩
def SLT_CLSTAT_SWAPSEQ (c : Nat) : Fld := ⟨R.SLT_CLSTAT c, 31, 16⟩
def SLT_CLSTAT_NCARRY (c : Nat) : Fld := ⟨R.SLT_CLSTAT c, 6, 4⟩
def SLT_CLSTAT_IDLE (c : Nat) : Fld := ⟨R.SLT_CLSTAT c, 2, 2⟩
def SLT_CLSTAT_PENDING (c : Nat) : Fld := ⟨R.SLT_CLSTAT c, 1, 1⟩
def SLT_CLSTAT_PAGE (c : Nat) : Fld := ⟨R.SLT_CLSTAT c, 0, 0⟩
def SLT_CMTPT_POINT (c : Nat) : Fld := ⟨R.SLT_CMTPT c, 31, 0⟩
def SLT_FIRED_LO_FIRED (c : Nat) : Fld := ⟨R.SLT_FIRED_LO c, 31, 0⟩
def SLT_FIRED_HI_FIRED (c : Nat) : Fld := ⟨R.SLT_FIRED_HI c, 31, 0⟩
def SLT_DEC_W (c m q w : Nat) : Fld := ⟨R.SLT_DEC c m q w, 31, 0⟩
def SLT_PAGE_W (c p s w : Nat) : Fld := ⟨R.SLT_PAGE c p s w, 31, 0⟩
def COV_CTL_LOCK : Fld := ⟨R.COV_CTL, 31, 31⟩
def COV_CTL_DEGPOL : Fld := ⟨R.COV_CTL, 5, 4⟩
def COV_CTL_EN : Fld := ⟨R.COV_CTL, 0, 0⟩
def COV_CBASE_ADDR : Fld := ⟨R.COV_CBASE, 31, 24⟩
def COV_PF_DIST : Fld := ⟨R.COV_PF, 15, 0⟩
def COV_PERR_LIMIT : Fld := ⟨R.COV_PERR, 15, 0⟩
def COV_MISS_MISSTO : Fld := ⟨R.COV_MISS, 15, 0⟩
def COV_WB_PERIOD : Fld := ⟨R.COV_WB, 15, 0⟩
def COV_FLD_LO_ADDR : Fld := ⟨R.COV_FLD_LO, 31, 0⟩
def COV_FLD_HI_ADDR : Fld := ⟨R.COV_FLD_HI, 7, 0⟩
def COV_FSTAT_FIELD_ID : Fld := ⟨R.COV_FSTAT, 31, 16⟩
def COV_FSTAT_NOFIELD : Fld := ⟨R.COV_FSTAT, 1, 1⟩
def COV_FSTAT_LOADED : Fld := ⟨R.COV_FSTAT, 0, 0⟩
def COV_CACHE_DIRTY : Fld := ⟨R.COV_CACHE, 15, 8⟩
def COV_CACHE_USED : Fld := ⟨R.COV_CACHE, 7, 0⟩
def COV_POOLBASE_LO_ADDR : Fld := ⟨R.COV_POOLBASE_LO, 31, 6⟩
def COV_POOLBASE_HI_ADDR : Fld := ⟨R.COV_POOLBASE_HI, 7, 0⟩
def COV_POOLCFG_SIZE : Fld := ⟨R.COV_POOLCFG, 4, 0⟩
def COV_POOLHEAD_IDX : Fld := ⟨R.COV_POOLHEAD, 31, 0⟩
def COV_POOLTAIL_IDX : Fld := ⟨R.COV_POOLTAIL, 31, 0⟩
def COV_STAT_DEG_NOW : Fld := ⟨R.COV_STAT, 16, 16⟩
def COV_STAT_POOL_ERR : Fld := ⟨R.COV_STAT, 8, 8⟩
def COV_STAT_FIELD_CHG : Fld := ⟨R.COV_STAT, 7, 7⟩
def COV_STAT_WB_ERR : Fld := ⟨R.COV_STAT, 6, 6⟩
def COV_STAT_POOL_EMPTY : Fld := ⟨R.COV_STAT, 5, 5⟩
def COV_STAT_THRASH : Fld := ⟨R.COV_STAT, 4, 4⟩
def COV_STAT_OVERRUN : Fld := ⟨R.COV_STAT, 3, 3⟩
def COV_STAT_MISS : Fld := ⟨R.COV_STAT, 2, 2⟩
def COV_STAT_LAYER_ERR : Fld := ⟨R.COV_STAT, 1, 1⟩
def COV_STAT_DEGRADED : Fld := ⟨R.COV_STAT, 0, 0⟩
def COV_MISSCNT_COUNT : Fld := ⟨R.COV_MISSCNT, 31, 0⟩
def COV_OVRCNT_COUNT : Fld := ⟨R.COV_OVRCNT, 31, 0⟩
def COV_UNMARKED_COUNT : Fld := ⟨R.COV_UNMARKED, 31, 0⟩
def COV_FETCHKB_COUNT : Fld := ⟨R.COV_FETCHKB, 31, 0⟩
def COV_WBKB_COUNT : Fld := ⟨R.COV_WBKB, 31, 0⟩
def COV_HRULE_HYST (h : Nat) : Fld := ⟨R.COV_HRULE h, 30, 24⟩
def COV_HRULE_XON (h : Nat) : Fld := ⟨R.COV_HRULE h, 22, 16⟩
def COV_HRULE_XOFF (h : Nat) : Fld := ⟨R.COV_HRULE h, 14, 8⟩
def COV_HRULE_XMASK (h : Nat) : Fld := ⟨R.COV_HRULE h, 7, 0⟩
def COV_DEC_FX (e : Nat) : Fld := ⟨R.COV_DEC e, 22, 16⟩
def COV_DEC_FA (e : Nat) : Fld := ⟨R.COV_DEC e, 14, 8⟩
def COV_DEC_OVERRUN (e : Nat) : Fld := ⟨R.COV_DEC e, 7, 7⟩
def COV_DEC_NOFIELD (e : Nat) : Fld := ⟨R.COV_DEC e, 6, 6⟩
def COV_DEC_LAYER_ERR (e : Nat) : Fld := ⟨R.COV_DEC e, 5, 5⟩
def COV_DEC_DEGRADED (e : Nat) : Fld := ⟨R.COV_DEC e, 4, 4⟩
def COV_DEC_OUTSIDE (e : Nat) : Fld := ⟨R.COV_DEC e, 3, 3⟩
def COV_DEC_MISS (e : Nat) : Fld := ⟨R.COV_DEC e, 2, 2⟩
def COV_DEC_NODEC (e : Nat) : Fld := ⟨R.COV_DEC e, 1, 1⟩
def COV_DEC_PL (e : Nat) : Fld := ⟨R.COV_DEC e, 0, 0⟩
def BRD_CTL_LOCK : Fld := ⟨R.BRD_CTL, 31, 31⟩
def BRD_CTL_EN : Fld := ⟨R.BRD_CTL, 0, 0⟩
def BRD_STAT_LOOPSHARE : Fld := ⟨R.BRD_STAT, 7, 7⟩
def BRD_STAT_AXFAST : Fld := ⟨R.BRD_STAT, 6, 6⟩
def BRD_STAT_GRP_ERR : Fld := ⟨R.BRD_STAT, 5, 5⟩
def BRD_STAT_CONFLICT : Fld := ⟨R.BRD_STAT, 4, 4⟩
def BRD_STAT_CONFIG : Fld := ⟨R.BRD_STAT, 3, 3⟩
def BRD_STAT_PVFAIL : Fld := ⟨R.BRD_STAT, 2, 2⟩
def BRD_STAT_OVERRUN : Fld := ⟨R.BRD_STAT, 1, 1⟩
def BRD_STAT_OSC : Fld := ⟨R.BRD_STAT, 0, 0⟩
def BRD_OVRCNT_COUNT : Fld := ⟨R.BRD_OVRCNT, 31, 0⟩
def BRD_LOAD_BUSY : Fld := ⟨R.BRD_LOAD, 7, 0⟩
def BRD_APPLY_LO_LOOPS : Fld := ⟨R.BRD_APPLY_LO, 31, 0⟩
def BRD_APPLY_HI_LOOPS : Fld := ⟨R.BRD_APPLY_HI, 31, 0⟩
def BRD_SWTO_TO : Fld := ⟨R.BRD_SWTO, 15, 0⟩
def BRD_SWVAL_VALUE (s : Nat) : Fld := ⟨R.BRD_SWVAL s, 31, 0⟩
def BRD_GDEST_CLASS (g : Nat) : Fld := ⟨R.BRD_GDEST g, 31, 28⟩
def BRD_GDEST_CHAN (g : Nat) : Fld := ⟨R.BRD_GDEST g, 6, 0⟩
def BRD_GSCALE_SCALE (g : Nat) : Fld := ⟨R.BRD_GSCALE g, 31, 0⟩
def BRD_GSLEW_SLEW (g : Nat) : Fld := ⟨R.BRD_GSLEW g, 31, 0⟩
def BRD_GSTAT_WINNER (g : Nat) : Fld := ⟨R.BRD_GSTAT g, 29, 24⟩
def BRD_GSTAT_NMEM (g : Nat) : Fld := ⟨R.BRD_GSTAT g, 19, 16⟩
def BRD_GSTAT_CONFLICT (g : Nat) : Fld := ⟨R.BRD_GSTAT g, 1, 1⟩
def BRD_GSTAT_ACTIVE (g : Nat) : Fld := ⟨R.BRD_GSTAT g, 0, 0⟩
def BRD_GOUT_OUT (g : Nat) : Fld := ⟨R.BRD_GOUT g, 31, 0⟩
def BRD_LSTAT_ZSW (n : Nat) : Fld := ⟨R.BRD_LSTAT n, 23, 23⟩
def BRD_LSTAT_AXFAST (n : Nat) : Fld := ⟨R.BRD_LSTAT n, 22, 22⟩
def BRD_LSTAT_GRP_ERR (n : Nat) : Fld := ⟨R.BRD_LSTAT n, 21, 21⟩
def BRD_LSTAT_CONFLICT (n : Nat) : Fld := ⟨R.BRD_LSTAT n, 20, 20⟩
def BRD_LSTAT_CONFIG (n : Nat) : Fld := ⟨R.BRD_LSTAT n, 19, 19⟩
def BRD_LSTAT_PVFAIL (n : Nat) : Fld := ⟨R.BRD_LSTAT n, 18, 18⟩
def BRD_LSTAT_OVERRUN (n : Nat) : Fld := ⟨R.BRD_LSTAT n, 17, 17⟩
def BRD_LSTAT_OSC (n : Nat) : Fld := ⟨R.BRD_LSTAT n, 16, 16⟩
def BRD_LSTAT_SHDIRTY (n : Nat) : Fld := ⟨R.BRD_LSTAT n, 15, 15⟩
def BRD_LSTAT_LOSING (n : Nat) : Fld := ⟨R.BRD_LSTAT n, 14, 14⟩
def BRD_LSTAT_SAT_LO (n : Nat) : Fld := ⟨R.BRD_LSTAT n, 13, 13⟩
def BRD_LSTAT_SAT_HI (n : Nat) : Fld := ⟨R.BRD_LSTAT n, 12, 12⟩
def BRD_LSTAT_CALM (n : Nat) : Fld := ⟨R.BRD_LSTAT n, 11, 11⟩
def BRD_LSTAT_SZONE (n : Nat) : Fld := ⟨R.BRD_LSTAT n, 10, 8⟩
def BRD_LSTAT_ZONE (n : Nat) : Fld := ⟨R.BRD_LSTAT n, 6, 4⟩
def BRD_LSTAT_STATE (n : Nat) : Fld := ⟨R.BRD_LSTAT n, 2, 0⟩
def BRD_LOUT_OUT (n : Nat) : Fld := ⟨R.BRD_LOUT n, 31, 0⟩
def BRD_LPV_PV (n : Nat) : Fld := ⟨R.BRD_LPV n, 31, 0⟩
def BRD_LSP_SP (n : Nat) : Fld := ⟨R.BRD_LSP n, 31, 0⟩
def BRD_LERR_ERR (n : Nat) : Fld := ⟨R.BRD_LERR n, 31, 0⟩
def BRD_LINT_INT (n : Nat) : Fld := ⟨R.BRD_LINT n, 31, 0⟩
def BRD_LTIME_TIME (n : Nat) : Fld := ⟨R.BRD_LTIME n, 31, 0⟩
def BRD_LOSC_COUNT (n : Nat) : Fld := ⟨R.BRD_LOSC n, 7, 0⟩
def BRD_KP_KP (n z : Nat) : Fld := ⟨R.BRD_KP n z, 31, 0⟩
def BRD_KI_KI (n z : Nat) : Fld := ⟨R.BRD_KI n z, 31, 0⟩
def BRD_KD_KD (n z : Nat) : Fld := ⟨R.BRD_KD n z, 31, 0⟩
def BRD_KFF_KFF (n z : Nat) : Fld := ⟨R.BRD_KFF n z, 31, 0⟩
def SOL_CTL_LOCK (d : Nat) : Fld := ⟨R.SOL_CTL d, 31, 31⟩
def SOL_CTL_EN (d : Nat) : Fld := ⟨R.SOL_CTL d, 0, 0⟩
def SOL_STAT_CONFIG (d : Nat) : Fld := ⟨R.SOL_STAT d, 10, 10⟩
def SOL_STAT_BOOST_TO (d : Nat) : Fld := ⟨R.SOL_STAT d, 9, 9⟩
def SOL_STAT_CLAMPED (d : Nat) : Fld := ⟨R.SOL_STAT d, 8, 8⟩
def SOL_STAT_PRF_ERR (d : Nat) : Fld := ⟨R.SOL_STAT d, 7, 7⟩
def SOL_STAT_HELD_WR (d : Nat) : Fld := ⟨R.SOL_STAT d, 6, 6⟩
def SOL_STAT_REG_ERR (d : Nat) : Fld := ⟨R.SOL_STAT d, 5, 5⟩
def SOL_STAT_RCV_FAST (d : Nat) : Fld := ⟨R.SOL_STAT d, 4, 4⟩
def SOL_STAT_PEAK_SKIP (d : Nat) : Fld := ⟨R.SOL_STAT d, 3, 3⟩
def SOL_STAT_BST_FAULT (d : Nat) : Fld := ⟨R.SOL_STAT d, 2, 2⟩
def SOL_STAT_BANK_FAULT (d : Nat) : Fld := ⟨R.SOL_STAT d, 1, 1⟩
def SOL_STAT_FAULT (d : Nat) : Fld := ⟨R.SOL_STAT d, 0, 0⟩
def SOL_DEFERCNT_COUNT (d : Nat) : Fld := ⟨R.SOL_DEFERCNT d, 31, 0⟩
def SOL_SKIPCNT_COUNT (d : Nat) : Fld := ⟨R.SOL_SKIPCNT d, 31, 0⟩
def SOL_RCVFCNT_COUNT (d : Nat) : Fld := ⟨R.SOL_RCVFCNT d, 31, 0⟩
def SOL_TEXT_TEMP (d x : Nat) : Fld := ⟨R.SOL_TEXT d x, 15, 0⟩
def SOL_BSTCFG_RDY (d b : Nat) : Fld := ⟨R.SOL_BSTCFG d b, 23, 16⟩
def SOL_BSTCFG_SETPT (d b : Nat) : Fld := ⟨R.SOL_BSTCFG d b, 14, 8⟩
def SOL_BSTCFG_EN (d b : Nat) : Fld := ⟨R.SOL_BSTCFG d b, 0, 0⟩
def SOL_BSTSTAT_OV (d b : Nat) : Fld := ⟨R.SOL_BSTSTAT d b, 19, 19⟩
def SOL_BSTSTAT_UV (d b : Nat) : Fld := ⟨R.SOL_BSTSTAT d b, 18, 18⟩
def SOL_BSTSTAT_READY (d b : Nat) : Fld := ⟨R.SOL_BSTSTAT d b, 16, 16⟩
def SOL_BSTSTAT_VMEAS (d b : Nat) : Fld := ⟨R.SOL_BSTSTAT d b, 15, 0⟩
def SOL_BANKCFG_DEFER (d k : Nat) : Fld := ⟨R.SOL_BANKCFG d k, 15, 0⟩
def SOL_BANKSTAT_BANK_SHORT (d k : Nat) : Fld := ⟨R.SOL_BANKSTAT d k, 24, 24⟩
def SOL_BANKSTAT_WAIT (d k : Nat) : Fld := ⟨R.SOL_BANKSTAT d k, 15, 12⟩
def SOL_BANKSTAT_ACTIVE (d k : Nat) : Fld := ⟨R.SOL_BANKSTAT d k, 11, 8⟩
def SOL_BANKSTAT_FEED (d k : Nat) : Fld := ⟨R.SOL_BANKSTAT d k, 4, 4⟩
def SOL_BANKSTAT_TOKEN (d k : Nat) : Fld := ⟨R.SOL_BANKSTAT d k, 3, 3⟩
def SOL_BANKSTAT_HOLDER (d k : Nat) : Fld := ⟨R.SOL_BANKSTAT d k, 1, 0⟩
def SOL_BANKTEMP_TEMP (d k : Nat) : Fld := ⟨R.SOL_BANKTEMP d k, 15, 0⟩
def SOL_PRFCFG_NB (d p : Nat) : Fld := ⟨R.SOL_PRFCFG d p, 17, 16⟩
def SOL_PRFCFG_DSHAPE (d p : Nat) : Fld := ⟨R.SOL_PRFCFG d p, 9, 8⟩
def SOL_PRFCFG_DEC_H (d p : Nat) : Fld := ⟨R.SOL_PRFCFG d p, 7, 6⟩
def SOL_PRFCFG_DEC_P (d p : Nat) : Fld := ⟨R.SOL_PRFCFG d p, 5, 4⟩
def SOL_PRFCFG_DEC_B (d p : Nat) : Fld := ⟨R.SOL_PRFCFG d p, 3, 2⟩
def SOL_PRFCFG_PKFEED (d p : Nat) : Fld := ⟨R.SOL_PRFCFG d p, 1, 1⟩
def SOL_PRFCFG_BSTEN (d p : Nat) : Fld := ⟨R.SOL_PRFCFG d p, 0, 0⟩
def SOL_PRFTH_TB3 (d p : Nat) : Fld := ⟨R.SOL_PRFTH d p, 23, 16⟩
def SOL_PRFTH_TB2 (d p : Nat) : Fld := ⟨R.SOL_PRFTH d p, 15, 8⟩
def SOL_PRFTH_TB1 (d p : Nat) : Fld := ⟨R.SOL_PRFTH d p, 7, 0⟩
def SOL_PRFBMAX_T_BMAX (d p : Nat) : Fld := ⟨R.SOL_PRFBMAX d p, 15, 0⟩
def SOL_PRFPK_T_PEAK (d p q : Nat) : Fld := ⟨R.SOL_PRFPK d p q, 26, 16⟩
def SOL_PRFPK_I_PEAK (d p q : Nat) : Fld := ⟨R.SOL_PRFPK d p q, 13, 0⟩
def SOL_PRFDT_FREQ (d p q : Nat) : Fld := ⟨R.SOL_PRFDT d p q, 24, 16⟩
def SOL_PRFDT_AMP (d p q : Nat) : Fld := ⟨R.SOL_PRFDT d p q, 9, 0⟩
def SOL_CHSTAT_CONFIG (d j : Nat) : Fld := ⟨R.SOL_CHSTAT d j, 29, 29⟩
def SOL_CHSTAT_SHED (d j : Nat) : Fld := ⟨R.SOL_CHSTAT d j, 28, 28⟩
def SOL_CHSTAT_PRF_ERR (d j : Nat) : Fld := ⟨R.SOL_CHSTAT d j, 27, 27⟩
def SOL_CHSTAT_HELD_WR (d j : Nat) : Fld := ⟨R.SOL_CHSTAT d j, 26, 26⟩
def SOL_CHSTAT_CLAMPED (d j : Nat) : Fld := ⟨R.SOL_CHSTAT d j, 25, 25⟩
def SOL_CHSTAT_RCV_FAST (d j : Nat) : Fld := ⟨R.SOL_CHSTAT d j, 24, 24⟩
def SOL_CHSTAT_BOOST_TO (d j : Nat) : Fld := ⟨R.SOL_CHSTAT d j, 23, 23⟩
def SOL_CHSTAT_BST_NRDY (d j : Nat) : Fld := ⟨R.SOL_CHSTAT d j, 22, 22⟩
def SOL_CHSTAT_PEAK_SKIP (d j : Nat) : Fld := ⟨R.SOL_CHSTAT d j, 21, 21⟩
def SOL_CHSTAT_REG_ERR (d j : Nat) : Fld := ⟨R.SOL_CHSTAT d j, 20, 20⟩
def SOL_CHSTAT_OPEN (d j : Nat) : Fld := ⟨R.SOL_CHSTAT d j, 19, 19⟩
def SOL_CHSTAT_BANK (d j : Nat) : Fld := ⟨R.SOL_CHSTAT d j, 18, 18⟩
def SOL_CHSTAT_OT (d j : Nat) : Fld := ⟨R.SOL_CHSTAT d j, 17, 17⟩
def SOL_CHSTAT_SHORT (d j : Nat) : Fld := ⟨R.SOL_CHSTAT d j, 16, 16⟩
def SOL_CHSTAT_FCAUSE (d j : Nat) : Fld := ⟨R.SOL_CHSTAT d j, 15, 12⟩
def SOL_CHSTAT_SLAVE (d j : Nat) : Fld := ⟨R.SOL_CHSTAT d j, 11, 11⟩
def SOL_CHSTAT_DEST (d j : Nat) : Fld := ⟨R.SOL_CHSTAT d j, 10, 10⟩
def SOL_CHSTAT_HELD (d j : Nat) : Fld := ⟨R.SOL_CHSTAT d j, 9, 9⟩
def SOL_CHSTAT_LEVEL (d j : Nat) : Fld := ⟨R.SOL_CHSTAT d j, 8, 8⟩
def SOL_CHSTAT_DECAY (d j : Nat) : Fld := ⟨R.SOL_CHSTAT d j, 7, 6⟩
def SOL_CHSTAT_BAND (d j : Nat) : Fld := ⟨R.SOL_CHSTAT d j, 5, 4⟩
def SOL_CHSTAT_PHASE (d j : Nat) : Fld := ⟨R.SOL_CHSTAT d j, 2, 0⟩
def SOL_CHI_IMEAS (d j : Nat) : Fld := ⟨R.SOL_CHI d j, 15, 0⟩
def SOL_CHCMD_CMD (d j : Nat) : Fld := ⟨R.SOL_CHCMD d j, 15, 0⟩
def SOL_CMD_ON (d j : Nat) : Fld := ⟨R.SOL_CMD d j, 31, 31⟩
def SOL_CMD_I (d j : Nat) : Fld := ⟨R.SOL_CMD d j, 15, 0⟩
def SOL_CHSAFE_SRC (d j : Nat) : Fld := ⟨R.SOL_CHSAFE d j, 31, 31⟩
def SOL_CHSAFE_ON (d j : Nat) : Fld := ⟨R.SOL_CHSAFE d j, 16, 16⟩
def SOL_CHSAFE_I (d j : Nat) : Fld := ⟨R.SOL_CHSAFE d j, 15, 0⟩
def LSW_CTL_LOCK (d : Nat) : Fld := ⟨R.LSW_CTL d, 31, 31⟩
def LSW_CTL_EN (d : Nat) : Fld := ⟨R.LSW_CTL d, 0, 0⟩
def LSW_STAT_SUPPLY (d : Nat) : Fld := ⟨R.LSW_STAT d, 12, 12⟩
def LSW_STAT_DIE_OVL (d : Nat) : Fld := ⟨R.LSW_STAT d, 11, 11⟩
def LSW_STAT_GRP_OVL (d : Nat) : Fld := ⟨R.LSW_STAT d, 10, 10⟩
def LSW_STAT_CL_HOT (d : Nat) : Fld := ⟨R.LSW_STAT d, 9, 9⟩
def LSW_STAT_CONFIG (d : Nat) : Fld := ⟨R.LSW_STAT d, 8, 8⟩
def LSW_STAT_SHED (d : Nat) : Fld := ⟨R.LSW_STAT d, 7, 7⟩
def LSW_STAT_THERM (d : Nat) : Fld := ⟨R.LSW_STAT d, 6, 6⟩
def LSW_STAT_HELD_WR (d : Nat) : Fld := ⟨R.LSW_STAT d, 5, 5⟩
def LSW_STAT_COMP_SAT (d : Nat) : Fld := ⟨R.LSW_STAT d, 4, 4⟩
def LSW_STAT_OPEN (d : Nat) : Fld := ⟨R.LSW_STAT d, 3, 3⟩
def LSW_STAT_OVERLOAD (d : Nat) : Fld := ⟨R.LSW_STAT d, 2, 2⟩
def LSW_STAT_SHORT (d : Nat) : Fld := ⟨R.LSW_STAT d, 1, 1⟩
def LSW_STAT_FAULT (d : Nat) : Fld := ⟨R.LSW_STAT d, 0, 0⟩
def LSW_SHEDCNT_COUNT (d : Nat) : Fld := ⟨R.LSW_SHEDCNT d, 31, 0⟩
def LSW_RETRYCNT_COUNT (d : Nat) : Fld := ⟨R.LSW_RETRYCNT d, 31, 0⟩
def LSW_DIESTAT_DIE_OVL (d : Nat) : Fld := ⟨R.LSW_DIESTAT d, 16, 16⟩
def LSW_DIESTAT_ITOTAL (d : Nat) : Fld := ⟨R.LSW_DIESTAT d, 11, 0⟩
def LSW_GRPCFG_AUTO (d g : Nat) : Fld := ⟨R.LSW_GRPCFG d g, 31, 31⟩
def LSW_GRPCFG_RST_PCT (d g : Nat) : Fld := ⟨R.LSW_GRPCFG d g, 30, 24⟩
def LSW_GRPCFG_RST_T (d g : Nat) : Fld := ⟨R.LSW_GRPCFG d g, 23, 8⟩
def LSW_GRPCFG_GLIM (d g : Nat) : Fld := ⟨R.LSW_GRPCFG d g, 7, 0⟩
def LSW_GRPSTAT_GRP_OVL (d g : Nat) : Fld := ⟨R.LSW_GRPSTAT d g, 31, 31⟩
def LSW_GRPSTAT_NSHED (d g : Nat) : Fld := ⟨R.LSW_GRPSTAT d g, 29, 24⟩
def LSW_GRPSTAT_IMEAS (d g : Nat) : Fld := ⟨R.LSW_GRPSTAT d g, 11, 0⟩
def LSW_GRPV_VMEAS (d g : Nat) : Fld := ⟨R.LSW_GRPV d g, 15, 0⟩
def LSW_CLSTAT_CL_HOT (d c : Nat) : Fld := ⟨R.LSW_CLSTAT d c, 31, 31⟩
def LSW_CLSTAT_STAGE (d c : Nat) : Fld := ⟨R.LSW_CLSTAT d c, 25, 24⟩
def LSW_CLSTAT_TEMP (d c : Nat) : Fld := ⟨R.LSW_CLSTAT d c, 15, 0⟩
def LSW_CHSTAT_CONFIG (d j : Nat) : Fld := ⟨R.LSW_CHSTAT d j, 27, 27⟩
def LSW_CHSTAT_SHED (d j : Nat) : Fld := ⟨R.LSW_CHSTAT d j, 26, 26⟩
def LSW_CHSTAT_THERM (d j : Nat) : Fld := ⟨R.LSW_CHSTAT d j, 25, 25⟩
def LSW_CHSTAT_HELD_WR (d j : Nat) : Fld := ⟨R.LSW_CHSTAT d j, 24, 24⟩
def LSW_CHSTAT_CLAMPED (d j : Nat) : Fld := ⟨R.LSW_CHSTAT d j, 23, 23⟩
def LSW_CHSTAT_COMP_SAT (d j : Nat) : Fld := ⟨R.LSW_CHSTAT d j, 22, 22⟩
def LSW_CHSTAT_OPEN (d j : Nat) : Fld := ⟨R.LSW_CHSTAT d j, 21, 21⟩
def LSW_CHSTAT_OT (d j : Nat) : Fld := ⟨R.LSW_CHSTAT d j, 20, 20⟩
def LSW_CHSTAT_OVERLOAD (d j : Nat) : Fld := ⟨R.LSW_CHSTAT d j, 19, 19⟩
def LSW_CHSTAT_SHORT (d j : Nat) : Fld := ⟨R.LSW_CHSTAT d j, 18, 18⟩
def LSW_CHSTAT_FCAUSE (d j : Nat) : Fld := ⟨R.LSW_CHSTAT d j, 15, 13⟩
def LSW_CHSTAT_RETRIES (d j : Nat) : Fld := ⟨R.LSW_CHSTAT d j, 12, 10⟩
def LSW_CHSTAT_LIMITING (d j : Nat) : Fld := ⟨R.LSW_CHSTAT d j, 9, 9⟩
def LSW_CHSTAT_HELD (d j : Nat) : Fld := ⟨R.LSW_CHSTAT d j, 8, 8⟩
def LSW_CHSTAT_DEST (d j : Nat) : Fld := ⟨R.LSW_CHSTAT d j, 7, 7⟩
def LSW_CHSTAT_LEVEL (d j : Nat) : Fld := ⟨R.LSW_CHSTAT d j, 6, 6⟩
def LSW_CHSTAT_STATE (d j : Nat) : Fld := ⟨R.LSW_CHSTAT d j, 2, 0⟩
def LSW_CHI_IMEAS (d j : Nat) : Fld := ⟨R.LSW_CHI d j, 15, 0⟩
def LSW_CHDUTY_DUTY (d j : Nat) : Fld := ⟨R.LSW_CHDUTY d j, 13, 0⟩
def LSW_CMD_ON (d j : Nat) : Fld := ⟨R.LSW_CMD d j, 31, 31⟩
def LSW_CMD_DUTY (d j : Nat) : Fld := ⟨R.LSW_CMD d j, 13, 0⟩
def LSW_CHSAFE_SRC (d j : Nat) : Fld := ⟨R.LSW_CHSAFE d j, 31, 31⟩
def LSW_CHSAFE_ON (d j : Nat) : Fld := ⟨R.LSW_CHSAFE d j, 16, 16⟩
def LSW_CHSAFE_DUTY (d j : Nat) : Fld := ⟨R.LSW_CHSAFE d j, 13, 0⟩
def DIO_CTL_HREL (d : Nat) : Fld := ⟨R.DIO_CTL d, 8, 8⟩
def DIO_CTL_EN (d : Nat) : Fld := ⟨R.DIO_CTL d, 0, 0⟩
def DIO_STAT_HOLDING (d : Nat) : Fld := ⟨R.DIO_STAT d, 16, 16⟩
def DIO_STAT_EDGE (d : Nat) : Fld := ⟨R.DIO_STAT d, 8, 8⟩
def DIO_STAT_HOLD_END (d : Nat) : Fld := ⟨R.DIO_STAT d, 7, 7⟩
def DIO_STAT_SUPPLY (d : Nat) : Fld := ⟨R.DIO_STAT d, 6, 6⟩
def DIO_STAT_EXTV (d : Nat) : Fld := ⟨R.DIO_STAT d, 5, 5⟩
def DIO_STAT_HELD_WR (d : Nat) : Fld := ⟨R.DIO_STAT d, 4, 4⟩
def DIO_STAT_CONFIG (d : Nat) : Fld := ⟨R.DIO_STAT d, 3, 3⟩
def DIO_STAT_OPEN (d : Nat) : Fld := ⟨R.DIO_STAT d, 2, 2⟩
def DIO_STAT_OVERLOAD (d : Nat) : Fld := ⟨R.DIO_STAT d, 1, 1⟩
def DIO_STAT_FAULT (d : Nat) : Fld := ⟨R.DIO_STAT d, 0, 0⟩
def DIO_INLVL_LEVEL (d : Nat) : Fld := ⟨R.DIO_INLVL d, 31, 0⟩
def DIO_RAWLVL_LEVEL (d : Nat) : Fld := ⟨R.DIO_RAWLVL d, 31, 0⟩
def DIO_OUTLVL_LEVEL (d : Nat) : Fld := ⟨R.DIO_OUTLVL d, 31, 0⟩
def DIO_CLSTAT_SUPPLY (d c : Nat) : Fld := ⟨R.DIO_CLSTAT d c, 31, 31⟩
def DIO_CLSTAT_SUPOK (d c : Nat) : Fld := ⟨R.DIO_CLSTAT d c, 16, 16⟩
def DIO_CLSTAT_IMEAS (d c : Nat) : Fld := ⟨R.DIO_CLSTAT d c, 12, 0⟩
def DIO_PTSTAT_EDGE (d j : Nat) : Fld := ⟨R.DIO_PTSTAT d j, 24, 24⟩
def DIO_PTSTAT_CONFIG (d j : Nat) : Fld := ⟨R.DIO_PTSTAT d j, 23, 23⟩
def DIO_PTSTAT_HELD_WR (d j : Nat) : Fld := ⟨R.DIO_PTSTAT d j, 22, 22⟩
def DIO_PTSTAT_EXTV (d j : Nat) : Fld := ⟨R.DIO_PTSTAT d j, 21, 21⟩
def DIO_PTSTAT_OPEN (d j : Nat) : Fld := ⟨R.DIO_PTSTAT d j, 20, 20⟩
def DIO_PTSTAT_OT (d j : Nat) : Fld := ⟨R.DIO_PTSTAT d j, 19, 19⟩
def DIO_PTSTAT_OVERLOAD (d j : Nat) : Fld := ⟨R.DIO_PTSTAT d j, 18, 18⟩
def DIO_PTSTAT_FCAUSE (d j : Nat) : Fld := ⟨R.DIO_PTSTAT d j, 15, 14⟩
def DIO_PTSTAT_HELD (d j : Nat) : Fld := ⟨R.DIO_PTSTAT d j, 9, 9⟩
def DIO_PTSTAT_LEVEL (d j : Nat) : Fld := ⟨R.DIO_PTSTAT d j, 8, 8⟩
def DIO_PTSTAT_STATE (d j : Nat) : Fld := ⟨R.DIO_PTSTAT d j, 2, 0⟩
def DIO_INTS_TIME (d j : Nat) : Fld := ⟨R.DIO_INTS d j, 31, 0⟩
def DIO_CMD_ON (d j : Nat) : Fld := ⟨R.DIO_CMD d j, 31, 31⟩
def DIO_PTSAFE_SRC (d j : Nat) : Fld := ⟨R.DIO_PTSAFE d j, 31, 31⟩
def DIO_PTSAFE_ON (d j : Nat) : Fld := ⟨R.DIO_PTSAFE d j, 16, 16⟩
def AFE_CTL_LOCK : Fld := ⟨R.AFE_CTL, 31, 31⟩
def AFE_CTL_EN : Fld := ⟨R.AFE_CTL, 0, 0⟩
def AFE_STAT_EXCF : Fld := ⟨R.AFE_STAT, 2, 2⟩
def AFE_STAT_OPEN : Fld := ⟨R.AFE_STAT, 1, 1⟩
def AFE_STAT_CONFIG : Fld := ⟨R.AFE_STAT, 0, 0⟩
def AFE_EXCCFG_VSEL (n : Nat) : Fld := ⟨R.AFE_EXCCFG n, 2, 1⟩
def AFE_EXCCFG_EN (n : Nat) : Fld := ⟨R.AFE_EXCCFG n, 0, 0⟩
def AFE_EXCSTAT_EXCF (n : Nat) : Fld := ⟨R.AFE_EXCSTAT n, 31, 31⟩
def AFE_EXCSTAT_SETTLING (n : Nat) : Fld := ⟨R.AFE_EXCSTAT n, 16, 16⟩
def AFE_EXCSTAT_VMEAS (n : Nat) : Fld := ⟨R.AFE_EXCSTAT n, 15, 0⟩
def AFE_RES_STATUS (i : Nat) : Fld := ⟨R.AFE_RES i, 31, 29⟩
def AFE_RES_CODE (i : Nat) : Fld := ⟨R.AFE_RES i, 23, 0⟩
def AFE_TS_TIME (i : Nat) : Fld := ⟨R.AFE_TS i, 31, 0⟩
def AFE_CHSTAT_CONFIG (i : Nat) : Fld := ⟨R.AFE_CHSTAT i, 17, 17⟩
def AFE_CHSTAT_OPEN (i : Nat) : Fld := ⟨R.AFE_CHSTAT i, 16, 16⟩
def AFE_CHSTAT_TRIP (i : Nat) : Fld := ⟨R.AFE_CHSTAT i, 0, 0⟩
def AFE_FIRLEN_N (f : Nat) : Fld := ⟨R.AFE_FIRLEN f, 5, 0⟩
def AFE_FIR_COEF (f t : Nat) : Fld := ⟨R.AFE_FIR f t, 17, 0⟩
def PLS_CTL_LOCK : Fld := ⟨R.PLS_CTL, 31, 31⟩
def PLS_CTL_EN : Fld := ⟨R.PLS_CTL, 0, 0⟩
def PLS_STAT_ZXF : Fld := ⟨R.PLS_STAT, 2, 2⟩
def PLS_STAT_OPEN : Fld := ⟨R.PLS_STAT, 1, 1⟩
def PLS_STAT_CONFIG : Fld := ⟨R.PLS_STAT, 0, 0⟩
def PLS_CNT_COUNT (n : Nat) : Fld := ⟨R.PLS_CNT n, 31, 0⟩
def PLS_RATE_RATE (n : Nat) : Fld := ⟨R.PLS_RATE n, 31, 0⟩
def PLS_TS_TIME (n : Nat) : Fld := ⟨R.PLS_TS n, 31, 0⟩
def PLS_AUX_COUNT (n : Nat) : Fld := ⟨R.PLS_AUX n, 31, 0⟩
def PLS_CHSTAT_PEAK (n : Nat) : Fld := ⟨R.PLS_CHSTAT n, 31, 22⟩
def PLS_CHSTAT_CONFIG (n : Nat) : Fld := ⟨R.PLS_CHSTAT n, 17, 17⟩
def PLS_CHSTAT_OPEN (n : Nat) : Fld := ⟨R.PLS_CHSTAT n, 16, 16⟩
def PLS_CHSTAT_OPEN_NOW (n : Nat) : Fld := ⟨R.PLS_CHSTAT n, 1, 1⟩
def PLS_CHSTAT_LEVEL (n : Nat) : Fld := ⟨R.PLS_CHSTAT n, 0, 0⟩
def PLS_ZXCFG_EN (z : Nat) : Fld := ⟨R.PLS_ZXCFG z, 0, 0⟩
def PLS_ZXSTAT_ZXF (z : Nat) : Fld := ⟨R.PLS_ZXSTAT z, 31, 31⟩
def PLS_ZXSTAT_OK (z : Nat) : Fld := ⟨R.PLS_ZXSTAT z, 30, 30⟩
def PLS_ZXSTAT_PERIOD (z : Nat) : Fld := ⟨R.PLS_ZXSTAT z, 23, 0⟩
def PLS_ZXTS_TIME (z : Nat) : Fld := ⟨R.PLS_ZXTS z, 31, 0⟩
def IMU_CTL_LOCK : Fld := ⟨R.IMU_CTL, 31, 31⟩
def IMU_CTL_GRANGE : Fld := ⟨R.IMU_CTL, 10, 8⟩
def IMU_CTL_ARANGE : Fld := ⟨R.IMU_CTL, 5, 4⟩
def IMU_CTL_ST : Fld := ⟨R.IMU_CTL, 1, 1⟩
def IMU_CTL_EN : Fld := ⟨R.IMU_CTL, 0, 0⟩
def IMU_STAT_CLIP : Fld := ⟨R.IMU_STAT, 2, 2⟩
def IMU_STAT_ST_FAIL : Fld := ⟨R.IMU_STAT, 1, 1⟩
def IMU_STAT_ST_PASS : Fld := ⟨R.IMU_STAT, 0, 0⟩
def IMU_AXY_AY : Fld := ⟨R.IMU_AXY, 31, 16⟩
def IMU_AXY_AX : Fld := ⟨R.IMU_AXY, 15, 0⟩
def IMU_AZT_TEMP : Fld := ⟨R.IMU_AZT, 31, 16⟩
def IMU_AZT_AZ : Fld := ⟨R.IMU_AZT, 15, 0⟩
def IMU_GXY_GY : Fld := ⟨R.IMU_GXY, 31, 16⟩
def IMU_GXY_GX : Fld := ⟨R.IMU_GXY, 15, 0⟩
def IMU_GZ_GZ : Fld := ⟨R.IMU_GZ, 15, 0⟩
def IMU_TS_TIME : Fld := ⟨R.IMU_TS, 31, 0⟩
def WVE_CTL_LOCK : Fld := ⟨R.WVE_CTL, 31, 31⟩
def WVE_CTL_EN : Fld := ⟨R.WVE_CTL, 0, 0⟩
def WVE_STAT_BADREC : Fld := ⟨R.WVE_STAT, 9, 9⟩
def WVE_STAT_TORN : Fld := ⟨R.WVE_STAT, 8, 8⟩
def WVE_STAT_CONFIG : Fld := ⟨R.WVE_STAT, 7, 7⟩
def WVE_STAT_TRK_FULL : Fld := ⟨R.WVE_STAT, 6, 6⟩
def WVE_STAT_LATE : Fld := ⟨R.WVE_STAT, 5, 5⟩
def WVE_STAT_SLIP : Fld := ⟨R.WVE_STAT, 4, 4⟩
def WVE_STAT_VOTE : Fld := ⟨R.WVE_STAT, 3, 3⟩
def WVE_STAT_NOMAJ : Fld := ⟨R.WVE_STAT, 2, 2⟩
def WVE_STAT_SRC_CHG : Fld := ⟨R.WVE_STAT, 1, 1⟩
def WVE_STAT_SOL_CHG : Fld := ⟨R.WVE_STAT, 0, 0⟩
def WVE_SOL_NOMAJ : Fld := ⟨R.WVE_SOL, 8, 8⟩
def WVE_SOL_ISTATE : Fld := ⟨R.WVE_SOL, 6, 4⟩
def WVE_SOL_MSTATE : Fld := ⟨R.WVE_SOL, 2, 0⟩
def WVE_SOLIN_SRCIN : Fld := ⟨R.WVE_SOLIN, 31, 0⟩
def WVE_HERR_HERR : Fld := ⟨R.WVE_HERR, 31, 0⟩
def WVE_FULLCFG_ERR : Fld := ⟨R.WVE_FULLCFG, 31, 16⟩
def WVE_FULLCFG_QMIN : Fld := ⟨R.WVE_FULLCFG, 2, 0⟩
def WVE_COAST_T : Fld := ⟨R.WVE_COAST, 15, 0⟩
def WVE_VTOL_PS_SPD : Fld := ⟨R.WVE_VTOL_PS, 31, 16⟩
def WVE_VTOL_PS_POS : Fld := ⟨R.WVE_VTOL_PS, 15, 0⟩
def WVE_VTOL_H_HDG : Fld := ⟨R.WVE_VTOL_H, 15, 0⟩
def WVE_HITCH_X : Fld := ⟨R.WVE_HITCH, 31, 16⟩
def WVE_HITCH_Y : Fld := ⟨R.WVE_HITCH, 15, 0⟩
def WVE_HITCH_I_X : Fld := ⟨R.WVE_HITCH_I, 15, 0⟩
def WVE_FIELD_FIELD_ID : Fld := ⟨R.WVE_FIELD, 15, 0⟩
def WVE_ORG_LAT_LO_LAT : Fld := ⟨R.WVE_ORG_LAT_LO, 31, 0⟩
def WVE_ORG_LAT_HI_LAT : Fld := ⟨R.WVE_ORG_LAT_HI, 31, 0⟩
def WVE_ORG_LON_LO_LON : Fld := ⟨R.WVE_ORG_LON_LO, 31, 0⟩
def WVE_ORG_LON_HI_LON : Fld := ⟨R.WVE_ORG_LON_HI, 31, 0⟩
def WVE_ORG_H_H : Fld := ⟨R.WVE_ORG_H, 31, 0⟩
def WVE_GUIDE_TRACK : Fld := ⟨R.WVE_GUIDE, 15, 8⟩
def WVE_GUIDE_BODY : Fld := ⟨R.WVE_GUIDE, 4, 4⟩
def WVE_GUIDE_MODE : Fld := ⟨R.WVE_GUIDE, 1, 0⟩
def WVE_GUIDE_E_E : Fld := ⟨R.WVE_GUIDE_E, 31, 0⟩
def WVE_GUIDE_N_N : Fld := ⟨R.WVE_GUIDE_N, 31, 0⟩
def WVE_GUIDE_DIR_DIR : Fld := ⟨R.WVE_GUIDE_DIR, 31, 0⟩
def WVE_OUTCFG_FLUSH : Fld := ⟨R.WVE_OUTCFG, 31, 16⟩
def WVE_OUTCFG_L3DIV : Fld := ⟨R.WVE_OUTCFG, 15, 8⟩
def WVE_OUTCFG_LEN : Fld := ⟨R.WVE_OUTCFG, 3, 0⟩
def WVE_TRKCFG_DEL_MISS : Fld := ⟨R.WVE_TRKCFG, 31, 24⟩
def WVE_TRKCFG_CONF_N : Fld := ⟨R.WVE_TRKCFG, 23, 20⟩
def WVE_TRKCFG_CONF_M : Fld := ⟨R.WVE_TRKCFG, 19, 16⟩
def WVE_TRKCFG_GATE : Fld := ⟨R.WVE_TRKCFG, 15, 0⟩
def WVE_TRKCOAST_T : Fld := ⟨R.WVE_TRKCOAST, 15, 0⟩
def WVE_LATECNT_COUNT : Fld := ⟨R.WVE_LATECNT, 31, 0⟩
def WVE_CORRCNT_COUNT : Fld := ⟨R.WVE_CORRCNT, 31, 0⟩
def WVE_UNPAIRCNT_COUNT : Fld := ⟨R.WVE_UNPAIRCNT, 31, 0⟩
def WVE_BADCNT_COUNT : Fld := ⟨R.WVE_BADCNT, 31, 0⟩
def WVE_DROPCNT_COUNT : Fld := ⟨R.WVE_DROPCNT, 31, 0⟩
def WVE_TRKNUM_CONFIRMED : Fld := ⟨R.WVE_TRKNUM, 24, 16⟩
def WVE_TRKNUM_TENTATIVE : Fld := ⟨R.WVE_TRKNUM, 8, 0⟩
def WVE_SRCSTAT_SLIP (s : Nat) : Fld := ⟨R.WVE_SRCSTAT s, 31, 31⟩
def WVE_SRCSTAT_VOTED (s : Nat) : Fld := ⟨R.WVE_SRCSTAT s, 30, 30⟩
def WVE_SRCSTAT_REINSTATED (s : Nat) : Fld := ⟨R.WVE_SRCSTAT s, 29, 29⟩
def WVE_SRCSTAT_TORN (s : Nat) : Fld := ⟨R.WVE_SRCSTAT s, 28, 28⟩
def WVE_SRCSTAT_CONFIG (s : Nat) : Fld := ⟨R.WVE_SRCSTAT s, 27, 27⟩
def WVE_SRCSTAT_VOTE (s : Nat) : Fld := ⟨R.WVE_SRCSTAT s, 9, 8⟩
def WVE_SRCSTAT_STATE (s : Nat) : Fld := ⟨R.WVE_SRCSTAT s, 5, 4⟩
def WVE_SRCSTAT_LOADED (s : Nat) : Fld := ⟨R.WVE_SRCSTAT s, 0, 0⟩
def WVE_SRCOFF_OFF (s : Nat) : Fld := ⟨R.WVE_SRCOFF s, 31, 0⟩
def WVE_SRCRATE_RATE (s : Nat) : Fld := ⟨R.WVE_SRCRATE s, 31, 0⟩
def WVE_SRCLATE_COUNT (s : Nat) : Fld := ⟨R.WVE_SRCLATE s, 15, 0⟩
def GRF_CTL_LOCK : Fld := ⟨R.GRF_CTL, 31, 31⟩
def GRF_CTL_EN : Fld := ⟨R.GRF_CTL, 0, 0⟩
def GRF_STAT_JAM : Fld := ⟨R.GRF_STAT, 3, 3⟩
def GRF_STAT_SHORT : Fld := ⟨R.GRF_STAT, 2, 2⟩
def GRF_STAT_OPEN : Fld := ⟨R.GRF_STAT, 1, 1⟩
def GRF_ANTCFG_ILIM (a : Nat) : Fld := ⟨R.GRF_ANTCFG a, 5, 4⟩
def GRF_ANTCFG_VSEL (a : Nat) : Fld := ⟨R.GRF_ANTCFG a, 1, 1⟩
def GRF_ANTCFG_EN (a : Nat) : Fld := ⟨R.GRF_ANTCFG a, 0, 0⟩
def GRF_ANTSTAT_SHORT (a : Nat) : Fld := ⟨R.GRF_ANTSTAT a, 31, 31⟩
def GRF_ANTSTAT_OPEN (a : Nat) : Fld := ⟨R.GRF_ANTSTAT a, 30, 30⟩
def GRF_ANTSTAT_STATE (a : Nat) : Fld := ⟨R.GRF_ANTSTAT a, 17, 16⟩
def GRF_ANTSTAT_IMEAS (a : Nat) : Fld := ⟨R.GRF_ANTSTAT a, 11, 0⟩
def GRF_JAM_JAM (a b : Nat) : Fld := ⟨R.GRF_JAM a b, 31, 31⟩
def GRF_JAM_JTH (a b : Nat) : Fld := ⟨R.GRF_JAM a b, 23, 16⟩
def GRF_JAM_AGC (a b : Nat) : Fld := ⟨R.GRF_JAM a b, 15, 8⟩
def GRF_JAM_JI (a b : Nat) : Fld := ⟨R.GRF_JAM a b, 7, 0⟩
def GRF_NOTCH_EN (a b f : Nat) : Fld := ⟨R.GRF_NOTCH a b f, 31, 31⟩
def GRF_NOTCH_AUTO (a b f : Nat) : Fld := ⟨R.GRF_NOTCH a b f, 30, 30⟩
def GRF_NOTCH_WIDTH (a b f : Nat) : Fld := ⟨R.GRF_NOTCH a b f, 25, 24⟩
def GRF_NOTCH_FOFF (a b f : Nat) : Fld := ⟨R.GRF_NOTCH a b f, 15, 0⟩
def GNS_CTL_LOCK : Fld := ⟨R.GNS_CTL, 31, 31⟩
def GNS_CTL_RATE : Fld := ⟨R.GNS_CTL, 10, 8⟩
def GNS_CTL_HDGEN : Fld := ⟨R.GNS_CTL, 4, 4⟩
def GNS_CTL_EN : Fld := ⟨R.GNS_CTL, 0, 0⟩
def GNS_SIGEN_SIG : Fld := ⟨R.GNS_SIGEN, 14, 0⟩
def GNS_HDGSIG_SIG : Fld := ⟨R.GNS_HDGSIG, 14, 0⟩
def GNS_STAT_INJ_REJ : Fld := ⟨R.GNS_STAT, 6, 6⟩
def GNS_STAT_INJ_STALE : Fld := ⟨R.GNS_STAT, 5, 5⟩
def GNS_STAT_CH_FULL : Fld := ⟨R.GNS_STAT, 4, 4⟩
def GNS_STAT_CONFIG : Fld := ⟨R.GNS_STAT, 2, 2⟩
def GNS_SOL_NSV : Fld := ⟨R.GNS_SOL, 31, 24⟩
def GNS_SOL_QUAL : Fld := ⟨R.GNS_SOL, 18, 16⟩
def GNS_SOL_INJ : Fld := ⟨R.GNS_SOL, 12, 12⟩
def GNS_SOL_HFIXED : Fld := ⟨R.GNS_SOL, 8, 8⟩
def GNS_ACQCMD_RESTART : Fld := ⟨R.GNS_ACQCMD, 1, 0⟩
def GNS_ACQSTAT_QUEUED : Fld := ⟨R.GNS_ACQSTAT, 23, 16⟩
def GNS_ACQSTAT_FOUND : Fld := ⟨R.GNS_ACQSTAT, 7, 0⟩
def GNS_CHUSE_ANT1 : Fld := ⟨R.GNS_CHUSE, 24, 16⟩
def GNS_CHUSE_ANT0 : Fld := ⟨R.GNS_CHUSE, 8, 0⟩
def GNS_CHSEL_CH : Fld := ⟨R.GNS_CHSEL, 7, 0⟩
def GNS_CHINFO_STATE : Fld := ⟨R.GNS_CHINFO, 31, 28⟩
def GNS_CHINFO_ANT : Fld := ⟨R.GNS_CHINFO, 24, 24⟩
def GNS_CHINFO_SIG : Fld := ⟨R.GNS_CHINFO, 21, 16⟩
def GNS_CHINFO_SVID : Fld := ⟨R.GNS_CHINFO, 15, 8⟩
def GNS_CHINFO_CN0 : Fld := ⟨R.GNS_CHINFO, 7, 0⟩
def GNS_CORR_MPMIT : Fld := ⟨R.GNS_CORR, 16, 16⟩
def GNS_CORR_SP : Fld := ⟨R.GNS_CORR, 1, 0⟩
def GNS_HDGCFG_BTOL : Fld := ⟨R.GNS_HDGCFG, 31, 24⟩
def GNS_HDGCFG_BASE : Fld := ⟨R.GNS_HDGCFG, 15, 0⟩
def GNS_INJCFG_TO : Fld := ⟨R.GNS_INJCFG, 31, 16⟩
def GNS_INJCFG_MODE : Fld := ⟨R.GNS_INJCFG, 0, 0⟩
def GNS_INJ_LAT_LO_LAT : Fld := ⟨R.GNS_INJ_LAT_LO, 31, 0⟩
def GNS_INJ_LAT_HI_LAT : Fld := ⟨R.GNS_INJ_LAT_HI, 31, 0⟩
def GNS_INJ_LON_LO_LON : Fld := ⟨R.GNS_INJ_LON_LO, 31, 0⟩
def GNS_INJ_LON_HI_LON : Fld := ⟨R.GNS_INJ_LON_HI, 31, 0⟩
def GNS_INJ_H_H : Fld := ⟨R.GNS_INJ_H, 31, 0⟩
def GNS_INJ_EPOCH_EPOCH : Fld := ⟨R.GNS_INJ_EPOCH, 31, 0⟩
def GNS_INJ_CTL_GO : Fld := ⟨R.GNS_INJ_CTL, 31, 31⟩
def GNS_INJ_CTL_QUAL : Fld := ⟨R.GNS_INJ_CTL, 18, 16⟩
def GNS_INJ_CTL_HERR : Fld := ⟨R.GNS_INJ_CTL, 15, 0⟩
def GNS_CLKOFF_LO_OFF : Fld := ⟨R.GNS_CLKOFF_LO, 31, 0⟩
def GNS_CLKOFF_HI_OFF : Fld := ⟨R.GNS_CLKOFF_HI, 31, 0⟩
def GNS_DROPCNT_COUNT : Fld := ⟨R.GNS_DROPCNT, 31, 0⟩
def TIM_CTL_LOCK : Fld := ⟨R.TIM_CTL, 31, 31⟩
def TIM_CTL_STEPEN : Fld := ⟨R.TIM_CTL, 8, 8⟩
def TIM_CTL_EN : Fld := ⟨R.TIM_CTL, 0, 0⟩
def TIM_STAT_CONFIG : Fld := ⟨R.TIM_STAT, 6, 6⟩
def TIM_STAT_STEP : Fld := ⟨R.TIM_STAT, 5, 5⟩
def TIM_STAT_UNTRUSTED : Fld := ⟨R.TIM_STAT, 4, 4⟩
def TIM_STAT_HOLDOVER : Fld := ⟨R.TIM_STAT, 3, 3⟩
def TIM_STAT_LOCKED : Fld := ⟨R.TIM_STAT, 2, 2⟩
def TIM_STAT_SRC_CHG : Fld := ⟨R.TIM_STAT, 1, 1⟩
def TIM_STAT_PTP_REJ : Fld := ⟨R.TIM_STAT, 0, 0⟩
def TIM_STATE_SRC : Fld := ⟨R.TIM_STATE, 10, 8⟩
def TIM_STATE_STATE : Fld := ⟨R.TIM_STATE, 2, 0⟩
def TIM_ERR_ERR : Fld := ⟨R.TIM_ERR, 31, 0⟩
def TIM_MTB_LO_MTB : Fld := ⟨R.TIM_MTB_LO, 31, 0⟩
def TIM_MTB_HI_MTB : Fld := ⟨R.TIM_MTB_HI, 31, 0⟩
def TIM_RT_NS_NS : Fld := ⟨R.TIM_RT_NS, 29, 0⟩
def TIM_RT_SEC_LO_SEC : Fld := ⟨R.TIM_RT_SEC_LO, 31, 0⟩
def TIM_RT_SEC_HI_SEC : Fld := ⟨R.TIM_RT_SEC_HI, 1, 0⟩
def TIM_RATE_RATE : Fld := ⟨R.TIM_RATE, 31, 0⟩
def TIM_SRCCFG_PART : Fld := ⟨R.TIM_SRCCFG, 13, 12⟩
def TIM_SRCCFG_PTP : Fld := ⟨R.TIM_SRCCFG, 9, 8⟩
def TIM_SRCCFG_GNSS : Fld := ⟨R.TIM_SRCCFG, 5, 4⟩
def TIM_SERVO_LOCKTH : Fld := ⟨R.TIM_SERVO, 31, 16⟩
def TIM_SERVO_BW : Fld := ⟨R.TIM_SERVO, 2, 0⟩
def TIM_HOLD_HOLD_LIM : Fld := ⟨R.TIM_HOLD, 31, 16⟩
def TIM_HOLD_FERR : Fld := ⟨R.TIM_HOLD, 15, 0⟩
def TIM_SLEW_SLEW : Fld := ⟨R.TIM_SLEW, 9, 0⟩
def TIM_STEPTH_STEPTH : Fld := ⟨R.TIM_STEPTH, 19, 0⟩
def TIM_SET_NS_NS : Fld := ⟨R.TIM_SET_NS, 29, 0⟩
def TIM_SET_SEC_LO_SEC : Fld := ⟨R.TIM_SET_SEC_LO, 31, 0⟩
def TIM_SET_SEC_HI_GO : Fld := ⟨R.TIM_SET_SEC_HI, 31, 31⟩
def TIM_SET_SEC_HI_SEC : Fld := ⟨R.TIM_SET_SEC_HI, 1, 0⟩
def TIM_PTPOFS_LO_OFS : Fld := ⟨R.TIM_PTPOFS_LO, 31, 0⟩
def TIM_PTPOFS_HI_OFS : Fld := ⟨R.TIM_PTPOFS_HI, 31, 0⟩
def TIM_PTPINST_INST : Fld := ⟨R.TIM_PTPINST, 31, 0⟩
def TIM_PTPCFG_PTPTO : Fld := ⟨R.TIM_PTPCFG, 15, 0⟩
def TIM_UTC_NEXT : Fld := ⟨R.TIM_UTC, 31, 16⟩
def TIM_UTC_OFF : Fld := ⟨R.TIM_UTC, 15, 0⟩
def TIM_UTCAT_AT : Fld := ⟨R.TIM_UTCAT, 31, 0⟩
def TIM_SETERR_ERR : Fld := ⟨R.TIM_SETERR, 31, 0⟩
def TIM_TPCFG_EN (p : Nat) : Fld := ⟨R.TIM_TPCFG p, 31, 31⟩
def TIM_TPCFG_POL (p : Nat) : Fld := ⟨R.TIM_TPCFG p, 30, 30⟩
def TIM_TPCFG_UNTRSTOP (p : Nat) : Fld := ⟨R.TIM_TPCFG p, 29, 29⟩
def TIM_TPCFG_REC (p : Nat) : Fld := ⟨R.TIM_TPCFG p, 28, 28⟩
def TIM_TPCFG_IRQ (p : Nat) : Fld := ⟨R.TIM_TPCFG p, 27, 27⟩
def TIM_TPPER_PERIOD (p : Nat) : Fld := ⟨R.TIM_TPPER p, 29, 0⟩
def TIM_TPWID_WIDTH (p : Nat) : Fld := ⟨R.TIM_TPWID p, 29, 0⟩
def TIM_TPDLY_DELAY (p : Nat) : Fld := ⟨R.TIM_TPDLY p, 24, 0⟩
def TIM_DROPCNT_COUNT : Fld := ⟨R.TIM_DROPCNT, 31, 0⟩
def YLD_CTL_LOCK : Fld := ⟨R.YLD_CTL, 31, 31⟩
def YLD_CTL_EN : Fld := ⟨R.YLD_CTL, 0, 0⟩
def YLD_STAT_POOL_ERR : Fld := ⟨R.YLD_STAT, 7, 7⟩
def YLD_STAT_REC : Fld := ⟨R.YLD_STAT, 6, 6⟩
def YLD_STAT_FOLD : Fld := ⟨R.YLD_STAT, 5, 5⟩
def YLD_STAT_NOFIELD : Fld := ⟨R.YLD_STAT, 4, 4⟩
def YLD_STAT_POOL_EMPTY : Fld := ⟨R.YLD_STAT, 3, 3⟩
def YLD_STAT_BADFLOW : Fld := ⟨R.YLD_STAT, 2, 2⟩
def YLD_STAT_DROP : Fld := ⟨R.YLD_STAT, 1, 1⟩
def YLD_STAT_CONFIG : Fld := ⟨R.YLD_STAT, 0, 0⟩
def YLD_CFG_HDRPT : Fld := ⟨R.YLD_CFG, 29, 24⟩
def YLD_CFG_HDRPOL : Fld := ⟨R.YLD_CFG, 23, 23⟩
def YLD_CFG_LAYER : Fld := ⟨R.YLD_CFG, 22, 20⟩
def YLD_CFG_AXIS : Fld := ⟨R.YLD_CFG, 18, 16⟩
def YLD_CFG_SPER : Fld := ⟨R.YLD_CFG, 15, 0⟩
def YLD_CUT01_EN1 : Fld := ⟨R.YLD_CUT01, 31, 31⟩
def YLD_CUT01_EP1 : Fld := ⟨R.YLD_CUT01, 27, 16⟩
def YLD_CUT01_EN0 : Fld := ⟨R.YLD_CUT01, 15, 15⟩
def YLD_CUT01_EP0 : Fld := ⟨R.YLD_CUT01, 11, 0⟩
def YLD_CUT23_EN3 : Fld := ⟨R.YLD_CUT23, 31, 31⟩
def YLD_CUT23_EP3 : Fld := ⟨R.YLD_CUT23, 27, 16⟩
def YLD_CUT23_EN2 : Fld := ⟨R.YLD_CUT23, 15, 15⟩
def YLD_CUT23_EP2 : Fld := ⟨R.YLD_CUT23, 11, 0⟩
def YLD_FLOWCFG_EN : Fld := ⟨R.YLD_FLOWCFG, 31, 31⟩
def YLD_FLOWCFG_AIN : Fld := ⟨R.YLD_FLOWCFG, 5, 0⟩
def YLD_KF_KF : Fld := ⟨R.YLD_KF, 31, 0⟩
def YLD_TARE_TARE : Fld := ⟨R.YLD_TARE, 23, 0⟩
def YLD_MOISTCFG_EN : Fld := ⟨R.YLD_MOISTCFG, 31, 31⟩
def YLD_MOISTCFG_AIN : Fld := ⟨R.YLD_MOISTCFG, 5, 0⟩
def YLD_KM_KM : Fld := ⟨R.YLD_KM, 31, 0⟩
def YLD_M0_M0 : Fld := ⟨R.YLD_M0, 31, 0⟩
def YLD_DELAY0_DVAR : Fld := ⟨R.YLD_DELAY0, 31, 16⟩
def YLD_DELAY0_DFIX : Fld := ⟨R.YLD_DELAY0, 15, 0⟩
def YLD_DELAY1_DMAX : Fld := ⟨R.YLD_DELAY1, 31, 16⟩
def YLD_DELAY1_DMIN : Fld := ⟨R.YLD_DELAY1, 15, 0⟩
def YLD_DELAY2_DSLEW : Fld := ⟨R.YLD_DELAY2, 26, 16⟩
def YLD_DELAY2_QLAG : Fld := ⟨R.YLD_DELAY2, 14, 0⟩
def YLD_QREF_QREF : Fld := ⟨R.YLD_QREF, 31, 0⟩
def YLD_DNOW_D : Fld := ⟨R.YLD_DNOW, 15, 0⟩
def YLD_CFECFG_EN (e : Nat) : Fld := ⟨R.YLD_CFECFG e, 31, 31⟩
def YLD_CFECFG_AIN (e : Nat) : Fld := ⟨R.YLD_CFECFG e, 21, 16⟩
def YLD_CFECFG_SEN (e : Nat) : Fld := ⟨R.YLD_CFECFG e, 12, 12⟩
def YLD_CFECFG_PLS (e : Nat) : Fld := ⟨R.YLD_CFECFG e, 4, 0⟩
def YLD_CFEKQ_KQ (e : Nat) : Fld := ⟨R.YLD_CFEKQ e, 31, 0⟩
def YLD_CFEX0_X0 (e : Nat) : Fld := ⟨R.YLD_CFEX0 e, 23, 0⟩
def YLD_CFETF_TF (e : Nat) : Fld := ⟨R.YLD_CFETF e, 15, 0⟩
def YLD_CFEOUT_Q (e : Nat) : Fld := ⟨R.YLD_CFEOUT e, 31, 0⟩
def YLD_CFESTAT_VALID (e : Nat) : Fld := ⟨R.YLD_CFESTAT e, 0, 0⟩
def YLD_LOSSCFG_EN (l : Nat) : Fld := ⟨R.YLD_LOSSCFG l, 31, 31⟩
def YLD_LOSSCFG_NORM (l : Nat) : Fld := ⟨R.YLD_LOSSCFG l, 29, 28⟩
def YLD_LOSSCFG_TF (l : Nat) : Fld := ⟨R.YLD_LOSSCFG l, 15, 0⟩
def YLD_LOSSMASK_MASK (l : Nat) : Fld := ⟨R.YLD_LOSSMASK l, 23, 0⟩
def YLD_LOSSOUT_RATE (l : Nat) : Fld := ⟨R.YLD_LOSSOUT l, 31, 0⟩
def YLD_LOSSSTAT_VALID (l : Nat) : Fld := ⟨R.YLD_LOSSSTAT l, 0, 0⟩
def YLD_POOLBASE_LO_ADDR : Fld := ⟨R.YLD_POOLBASE_LO, 31, 6⟩
def YLD_POOLBASE_HI_ADDR : Fld := ⟨R.YLD_POOLBASE_HI, 7, 0⟩
def YLD_POOLCFG_SIZE : Fld := ⟨R.YLD_POOLCFG, 4, 0⟩
def YLD_POOLHEAD_IDX : Fld := ⟨R.YLD_POOLHEAD, 31, 0⟩
def YLD_POOLTAIL_IDX : Fld := ⟨R.YLD_POOLTAIL, 31, 0⟩
def YLD_SREF_SREF : Fld := ⟨R.YLD_SREF, 31, 0⟩
def YLD_OUTCFG_FLUSH : Fld := ⟨R.YLD_OUTCFG, 15, 0⟩
def YLD_DROPCNT_COUNT : Fld := ⟨R.YLD_DROPCNT, 31, 0⟩
def YLD_FOLDCNT_COUNT : Fld := ⟨R.YLD_FOLDCNT, 31, 0⟩
def YLD_CELLCNT_COUNT : Fld := ⟨R.YLD_CELLCNT, 31, 0⟩
def YLD_UNMARKED_COUNT : Fld := ⟨R.YLD_UNMARKED, 31, 0⟩
def YLD_FLOWNOW_QG : Fld := ⟨R.YLD_FLOWNOW, 31, 0⟩
def YLD_MOISTNOW_M : Fld := ⟨R.YLD_MOISTNOW, 31, 0⟩
def YLD_TRACE_N : Fld := ⟨R.YLD_TRACE, 11, 0⟩
def IMG_CTL_LOCK : Fld := ⟨R.IMG_CTL, 31, 31⟩
def IMG_CTL_EN : Fld := ⟨R.IMG_CTL, 0, 0⟩
def IMG_STAT_TORN : Fld := ⟨R.IMG_STAT, 9, 9⟩
def IMG_STAT_DROP : Fld := ⟨R.IMG_STAT, 8, 8⟩
def IMG_STAT_OVERFLOW : Fld := ⟨R.IMG_STAT, 7, 7⟩
def IMG_STAT_SUPERSEDED : Fld := ⟨R.IMG_STAT, 6, 6⟩
def IMG_STAT_PARTIAL : Fld := ⟨R.IMG_STAT, 5, 5⟩
def IMG_STAT_CCI_ERR : Fld := ⟨R.IMG_STAT, 4, 4⟩
def IMG_STAT_LINE_ERR : Fld := ⟨R.IMG_STAT, 3, 3⟩
def IMG_STAT_FRAME_LONG : Fld := ⟨R.IMG_STAT, 2, 2⟩
def IMG_STAT_FRAME_SHORT : Fld := ⟨R.IMG_STAT, 1, 1⟩
def IMG_STAT_CONFIG : Fld := ⟨R.IMG_STAT, 0, 0⟩
def IMG_DROPCNT_COUNT : Fld := ⟨R.IMG_DROPCNT, 31, 0⟩
def IMG_SCHED_MAXAGE : Fld := ⟨R.IMG_SCHED, 15, 0⟩
def IMG_CAMCFG_BAYER (c : Nat) : Fld := ⟨R.IMG_CAMCFG c, 29, 28⟩
def IMG_CAMCFG_DT (c : Nat) : Fld := ⟨R.IMG_CAMCFG c, 25, 24⟩
def IMG_CAMCFG_GEAR (c : Nat) : Fld := ⟨R.IMG_CAMCFG c, 21, 20⟩
def IMG_CAMCFG_CTX (c : Nat) : Fld := ⟨R.IMG_CAMCFG c, 19, 16⟩
def IMG_CAMCFG_PIPE (c : Nat) : Fld := ⟨R.IMG_CAMCFG c, 13, 12⟩
def IMG_CAMCFG_MODE (c : Nat) : Fld := ⟨R.IMG_CAMCFG c, 8, 8⟩
def IMG_CAMCFG_EN (c : Nat) : Fld := ⟨R.IMG_CAMCFG c, 0, 0⟩
def IMG_CAMSIZE_H (c : Nat) : Fld := ⟨R.IMG_CAMSIZE c, 30, 16⟩
def IMG_CAMSIZE_W (c : Nat) : Fld := ⟨R.IMG_CAMSIZE c, 14, 0⟩
def IMG_CAMSTAT_CONFIG (c : Nat) : Fld := ⟨R.IMG_CAMSTAT c, 16, 16⟩
def IMG_CAMSTAT_FRAME_SHORT (c : Nat) : Fld := ⟨R.IMG_CAMSTAT c, 17, 17⟩
def IMG_CAMSTAT_FRAME_LONG (c : Nat) : Fld := ⟨R.IMG_CAMSTAT c, 18, 18⟩
def IMG_CAMSTAT_LINE_ERR (c : Nat) : Fld := ⟨R.IMG_CAMSTAT c, 19, 19⟩
def IMG_CAMSTAT_CCI_ERR (c : Nat) : Fld := ⟨R.IMG_CAMSTAT c, 20, 20⟩
def IMG_CAMSTAT_PARTIAL (c : Nat) : Fld := ⟨R.IMG_CAMSTAT c, 21, 21⟩
def IMG_CAMSTAT_SUPERSEDED (c : Nat) : Fld := ⟨R.IMG_CAMSTAT c, 22, 22⟩
def IMG_CAMSTAT_OVERFLOW (c : Nat) : Fld := ⟨R.IMG_CAMSTAT c, 23, 23⟩
def IMG_CAMSTAT_GEAR (c : Nat) : Fld := ⟨R.IMG_CAMSTAT c, 2, 1⟩
def IMG_CAMSTAT_LINK_UP (c : Nat) : Fld := ⟨R.IMG_CAMSTAT c, 0, 0⟩
def IMG_FNUM_FNUM (c : Nat) : Fld := ⟨R.IMG_FNUM c, 31, 0⟩
def IMG_PRF0_CCIRATE (c : Nat) : Fld := ⟨R.IMG_PRF0 c, 31, 30⟩
def IMG_PRF0_GDLY (c : Nat) : Fld := ⟨R.IMG_PRF0 c, 15, 12⟩
def IMG_PRF0_EDLY (c : Nat) : Fld := ⟨R.IMG_PRF0 c, 11, 8⟩
def IMG_PRF0_SADDR (c : Nat) : Fld := ⟨R.IMG_PRF0 c, 6, 0⟩
def IMG_PRF1_CCIGUARD (c : Nat) : Fld := ⟨R.IMG_PRF1 c, 31, 16⟩
def IMG_PRF1_FSDLY (c : Nat) : Fld := ⟨R.IMG_PRF1 c, 15, 0⟩
def IMG_PRF2_LINET (c : Nat) : Fld := ⟨R.IMG_PRF2 c, 23, 0⟩
def IMG_PRF3_EXPREG (c : Nat) : Fld := ⟨R.IMG_PRF3 c, 31, 16⟩
def IMG_PRF3_GHREG (c : Nat) : Fld := ⟨R.IMG_PRF3 c, 15, 0⟩
def IMG_PRF4_DGREG (c : Nat) : Fld := ⟨R.IMG_PRF4 c, 31, 16⟩
def IMG_PRF4_AGREG (c : Nat) : Fld := ⟨R.IMG_PRF4 c, 15, 0⟩
def IMG_PSET0_AGAIN (c : Nat) : Fld := ⟨R.IMG_PSET0 c, 31, 16⟩
def IMG_PSET0_TAG (c : Nat) : Fld := ⟨R.IMG_PSET0 c, 15, 0⟩
def IMG_PSET1_DGAIN (c : Nat) : Fld := ⟨R.IMG_PSET1 c, 31, 16⟩
def IMG_PSET1_EXP (c : Nat) : Fld := ⟨R.IMG_PSET1 c, 15, 0⟩
def IMG_PSETGO_GO (c : Nat) : Fld := ⟨R.IMG_PSETGO c, 0, 0⟩
def IMG_LEDG_GAINTAG (c : Nat) : Fld := ⟨R.IMG_LEDG c, 31, 16⟩
def IMG_LEDG_EXPTAG (c : Nat) : Fld := ⟨R.IMG_LEDG c, 15, 0⟩
def IMG_SUPCNT_COUNT (c : Nat) : Fld := ⟨R.IMG_SUPCNT c, 31, 0⟩
def IMG_CCICMD_GO (c : Nat) : Fld := ⟨R.IMG_CCICMD c, 31, 31⟩
def IMG_CCICMD_BUSY (c : Nat) : Fld := ⟨R.IMG_CCICMD c, 30, 30⟩
def IMG_CCICMD_RD (c : Nat) : Fld := ⟨R.IMG_CCICMD c, 24, 24⟩
def IMG_CCICMD_REG (c : Nat) : Fld := ⟨R.IMG_CCICMD c, 23, 8⟩
def IMG_CCICMD_DATA (c : Nat) : Fld := ⟨R.IMG_CCICMD c, 7, 0⟩
def IMG_RAWBASE_ADDR (c : Nat) : Fld := ⟨R.IMG_RAWBASE c, 31, 0⟩
def IMG_RAWCFG_RAWN (c : Nat) : Fld := ⟨R.IMG_RAWCFG c, 3, 0⟩
def IMG_CTXCFG_STREAM (x : Nat) : Fld := ⟨R.IMG_CTXCFG x, 31, 30⟩
def IMG_CTXCFG_SHORTPOL (x : Nat) : Fld := ⟨R.IMG_CTXCFG x, 12, 12⟩
def IMG_CTXCFG_STRIPE (x : Nat) : Fld := ⟨R.IMG_CTXCFG x, 11, 11⟩
def IMG_CTXCFG_VFMT (x : Nat) : Fld := ⟨R.IMG_CTXCFG x, 10, 10⟩
def IMG_CTXCFG_DFMT (x : Nat) : Fld := ⟨R.IMG_CTXCFG x, 9, 9⟩
def IMG_CTXCFG_OUT (x : Nat) : Fld := ⟨R.IMG_CTXCFG x, 4, 0⟩
def IMG_CTXDISP_DH (x : Nat) : Fld := ⟨R.IMG_CTXDISP x, 30, 16⟩
def IMG_CTXDISP_DW (x : Nat) : Fld := ⟨R.IMG_CTXDISP x, 14, 0⟩
def IMG_CTXCODE_CH (x : Nat) : Fld := ⟨R.IMG_CTXCODE x, 30, 16⟩
def IMG_CTXCODE_CW (x : Nat) : Fld := ⟨R.IMG_CTXCODE x, 14, 0⟩
def IMG_CTXZONE_ZY (x : Nat) : Fld := ⟨R.IMG_CTXZONE x, 13, 8⟩
def IMG_CTXZONE_ZX (x : Nat) : Fld := ⟨R.IMG_CTXZONE x, 5, 0⟩
def IMG_CTXFEAT_NB (x : Nat) : Fld := ⟨R.IMG_CTXFEAT x, 31, 26⟩
def IMG_CTXFEAT_WMAX (x : Nat) : Fld := ⟨R.IMG_CTXFEAT x, 25, 13⟩
def IMG_CTXFEAT_WMIN (x : Nat) : Fld := ⟨R.IMG_CTXFEAT x, 12, 0⟩
def IMG_CTXETH_ETHR (x : Nat) : Fld := ⟨R.IMG_CTXETH x, 15, 0⟩
def IMG_CTXBLK_ADDR (x : Nat) : Fld := ⟨R.IMG_CTXBLK x, 31, 0⟩
def IMG_CTXAPPLY_GO (x : Nat) : Fld := ⟨R.IMG_CTXAPPLY x, 31, 31⟩
def IMG_CTXAPPLY_TAG (x : Nat) : Fld := ⟨R.IMG_CTXAPPLY x, 15, 0⟩
def IMG_PIPECFG_LOCK (p : Nat) : Fld := ⟨R.IMG_PIPECFG p, 6, 0⟩
def IMG_PIPESTAT_LOAD (p : Nat) : Fld := ⟨R.IMG_PIPESTAT p, 15, 8⟩
def IMG_PIPESTAT_CTX (p : Nat) : Fld := ⟨R.IMG_PIPESTAT p, 7, 4⟩
def IMG_PIPESTAT_STREAMING (p : Nat) : Fld := ⟨R.IMG_PIPESTAT p, 0, 0⟩
def IMG_ENCCFG_GOP (s : Nat) : Fld := ⟨R.IMG_ENCCFG s, 23, 16⟩
def IMG_ENCCFG_RC (s : Nat) : Fld := ⟨R.IMG_ENCCFG s, 8, 8⟩
def IMG_ENCCFG_EN (s : Nat) : Fld := ⟨R.IMG_ENCCFG s, 0, 0⟩
def IMG_ENCRATE_KBPS (s : Nat) : Fld := ⟨R.IMG_ENCRATE s, 15, 0⟩
def IMG_ENCQP_QPMAX (s : Nat) : Fld := ⟨R.IMG_ENCQP s, 13, 8⟩
def IMG_ENCQP_QPMIN (s : Nat) : Fld := ⟨R.IMG_ENCQP s, 5, 0⟩
def IMG_ENCIDR_IDR (s : Nat) : Fld := ⟨R.IMG_ENCIDR s, 0, 0⟩
def IMG_ENCSKIP_COUNT (s : Nat) : Fld := ⟨R.IMG_ENCSKIP s, 31, 0⟩
def DSP_CTL_LOCK : Fld := ⟨R.DSP_CTL, 31, 31⟩
def DSP_CTL_EN : Fld := ⟨R.DSP_CTL, 0, 0⟩
def DSP_STAT_UNDERRUN : Fld := ⟨R.DSP_STAT, 3, 3⟩
def DSP_STAT_LINK_FAIL : Fld := ⟨R.DSP_STAT, 2, 2⟩
def DSP_STAT_RAIL : Fld := ⟨R.DSP_STAT, 1, 1⟩
def DSP_STAT_CONFIG : Fld := ⟨R.DSP_STAT, 0, 0⟩
def DSP_PCFG_PWR (p : Nat) : Fld := ⟨R.DSP_PCFG p, 24, 24⟩
def DSP_PCFG_NB (p : Nat) : Fld := ⟨R.DSP_PCFG p, 17, 16⟩
def DSP_PCFG_ODEN (p : Nat) : Fld := ⟨R.DSP_PCFG p, 12, 12⟩
def DSP_PCFG_FMT (p : Nat) : Fld := ⟨R.DSP_PCFG p, 9, 9⟩
def DSP_PCFG_BPC (p : Nat) : Fld := ⟨R.DSP_PCFG p, 8, 8⟩
def DSP_PCFG_RATE (p : Nat) : Fld := ⟨R.DSP_PCFG p, 5, 4⟩
def DSP_PCFG_LANES (p : Nat) : Fld := ⟨R.DSP_PCFG p, 1, 0⟩
def DSP_HTIM_HTOT (p : Nat) : Fld := ⟨R.DSP_HTIM p, 31, 16⟩
def DSP_HTIM_HACT (p : Nat) : Fld := ⟨R.DSP_HTIM p, 15, 0⟩
def DSP_VTIM_VTOT (p : Nat) : Fld := ⟨R.DSP_VTIM p, 31, 16⟩
def DSP_VTIM_VACT (p : Nat) : Fld := ⟨R.DSP_VTIM p, 15, 0⟩
def DSP_SYNC_VSW (p : Nat) : Fld := ⟨R.DSP_SYNC p, 27, 16⟩
def DSP_SYNC_HSW (p : Nat) : Fld := ⟨R.DSP_SYNC p, 11, 0⟩
def DSP_PORCH_VBP (p : Nat) : Fld := ⟨R.DSP_PORCH p, 27, 16⟩
def DSP_PORCH_HBP (p : Nat) : Fld := ⟨R.DSP_PORCH p, 11, 0⟩
def DSP_PCLK_PCLK (p : Nat) : Fld := ⟨R.DSP_PCLK p, 17, 0⟩
def DSP_RAIL_VGH (p : Nat) : Fld := ⟨R.DSP_RAIL p, 23, 16⟩
def DSP_RAIL_AVDD (p : Nat) : Fld := ⟨R.DSP_RAIL p, 7, 0⟩
def DSP_RAIL1_VGL (p : Nat) : Fld := ⟨R.DSP_RAIL1 p, 7, 0⟩
def DSP_SEQT_T4 (p : Nat) : Fld := ⟨R.DSP_SEQT p, 31, 24⟩
def DSP_SEQT_T3 (p : Nat) : Fld := ⟨R.DSP_SEQT p, 23, 16⟩
def DSP_SEQT_T2 (p : Nat) : Fld := ⟨R.DSP_SEQT p, 15, 8⟩
def DSP_SEQT_T1 (p : Nat) : Fld := ⟨R.DSP_SEQT p, 7, 0⟩
def DSP_SEQT1_NBLACK (p : Nat) : Fld := ⟨R.DSP_SEQT1 p, 19, 16⟩
def DSP_SEQT1_TBL (p : Nat) : Fld := ⟨R.DSP_SEQT1 p, 7, 0⟩
def DSP_TEMP_TEMP (p : Nat) : Fld := ⟨R.DSP_TEMP p, 15, 0⟩
def DSP_TB_TB3 (p : Nat) : Fld := ⟨R.DSP_TB p, 23, 16⟩
def DSP_TB_TB2 (p : Nat) : Fld := ⟨R.DSP_TB p, 15, 8⟩
def DSP_TB_TB1 (p : Nat) : Fld := ⟨R.DSP_TB p, 7, 0⟩
def DSP_VCOM_VCOM (p b : Nat) : Fld := ⟨R.DSP_VCOM p b, 10, 0⟩
def DSP_BL_EN (p : Nat) : Fld := ⟨R.DSP_BL p, 31, 31⟩
def DSP_BL_FREQ (p : Nat) : Fld := ⟨R.DSP_BL p, 30, 16⟩
def DSP_BL_DUTY (p : Nat) : Fld := ⟨R.DSP_BL p, 9, 0⟩
def DSP_PSTAT_CONFIG (p : Nat) : Fld := ⟨R.DSP_PSTAT p, 19, 19⟩
def DSP_PSTAT_UNDERRUN (p : Nat) : Fld := ⟨R.DSP_PSTAT p, 18, 18⟩
def DSP_PSTAT_LINK_FAIL (p : Nat) : Fld := ⟨R.DSP_PSTAT p, 17, 17⟩
def DSP_PSTAT_RAIL (p : Nat) : Fld := ⟨R.DSP_PSTAT p, 16, 16⟩
def DSP_PSTAT_FCAUSE (p : Nat) : Fld := ⟨R.DSP_PSTAT p, 11, 8⟩
def DSP_PSTAT_HPD (p : Nat) : Fld := ⟨R.DSP_PSTAT p, 6, 6⟩
def DSP_PSTAT_BAND (p : Nat) : Fld := ⟨R.DSP_PSTAT p, 5, 4⟩
def DSP_PSTAT_STATE (p : Nat) : Fld := ⟨R.DSP_PSTAT p, 2, 0⟩
def DSP_REPCNT_COUNT (p : Nat) : Fld := ⟨R.DSP_REPCNT p, 31, 0⟩
def DSP_OD_OD (p b w : Nat) : Fld := ⟨R.DSP_OD p b w, 31, 0⟩
def CAN_CTL_LOCK (n : Nat) : Fld := ⟨R.CAN_CTL n, 31, 31⟩
def CAN_CTL_RECOVER (n : Nat) : Fld := ⟨R.CAN_CTL n, 12, 12⟩
def CAN_CTL_NOMATCH (n : Nat) : Fld := ⟨R.CAN_CTL n, 9, 9⟩
def CAN_CTL_ORDER (n : Nat) : Fld := ⟨R.CAN_CTL n, 8, 8⟩
def CAN_CTL_TERM (n : Nat) : Fld := ⟨R.CAN_CTL n, 5, 5⟩
def CAN_CTL_LISTEN (n : Nat) : Fld := ⟨R.CAN_CTL n, 4, 4⟩
def CAN_CTL_FDEN (n : Nat) : Fld := ⟨R.CAN_CTL n, 2, 2⟩
def CAN_CTL_EN (n : Nat) : Fld := ⟨R.CAN_CTL n, 0, 0⟩
def CAN_NBT_BRP (n : Nat) : Fld := ⟨R.CAN_NBT n, 31, 24⟩
def CAN_NBT_TSEG1 (n : Nat) : Fld := ⟨R.CAN_NBT n, 23, 16⟩
def CAN_NBT_TSEG2 (n : Nat) : Fld := ⟨R.CAN_NBT n, 14, 8⟩
def CAN_NBT_SJW (n : Nat) : Fld := ⟨R.CAN_NBT n, 6, 0⟩
def CAN_DBT_BRP (n : Nat) : Fld := ⟨R.CAN_DBT n, 31, 24⟩
def CAN_DBT_TSEG1 (n : Nat) : Fld := ⟨R.CAN_DBT n, 20, 16⟩
def CAN_DBT_TSEG2 (n : Nat) : Fld := ⟨R.CAN_DBT n, 12, 8⟩
def CAN_DBT_SJW (n : Nat) : Fld := ⟨R.CAN_DBT n, 3, 0⟩
def CAN_TDC_TDCEN (n : Nat) : Fld := ⟨R.CAN_TDC n, 8, 8⟩
def CAN_TDC_TDCO (n : Nat) : Fld := ⟨R.CAN_TDC n, 6, 0⟩
def CAN_STAT_TP_ABORT (n : Nat) : Fld := ⟨R.CAN_STAT n, 9, 9⟩
def CAN_STAT_ADDR (n : Nat) : Fld := ⟨R.CAN_STAT n, 8, 8⟩
def CAN_STAT_AC_LOST (n : Nat) : Fld := ⟨R.CAN_STAT n, 7, 7⟩
def CAN_STAT_RXOVF (n : Nat) : Fld := ⟨R.CAN_STAT n, 6, 6⟩
def CAN_STAT_TXB_BUSY (n : Nat) : Fld := ⟨R.CAN_STAT n, 5, 5⟩
def CAN_STAT_CONFIG (n : Nat) : Fld := ⟨R.CAN_STAT n, 4, 4⟩
def CAN_STAT_REJOINED (n : Nat) : Fld := ⟨R.CAN_STAT n, 3, 3⟩
def CAN_STAT_BUSOFF (n : Nat) : Fld := ⟨R.CAN_STAT n, 2, 2⟩
def CAN_STAT_PASSIVE (n : Nat) : Fld := ⟨R.CAN_STAT n, 1, 1⟩
def CAN_STAT_WARN (n : Nat) : Fld := ⟨R.CAN_STAT n, 0, 0⟩
def CAN_ESTAT_STATE (n : Nat) : Fld := ⟨R.CAN_ESTAT n, 31, 28⟩
def CAN_ESTAT_LEC (n : Nat) : Fld := ⟨R.CAN_ESTAT n, 27, 25⟩
def CAN_ESTAT_TEC (n : Nat) : Fld := ⟨R.CAN_ESTAT n, 24, 16⟩
def CAN_ESTAT_REC (n : Nat) : Fld := ⟨R.CAN_ESTAT n, 7, 0⟩
def CAN_RJCFG_LTO (n : Nat) : Fld := ⟨R.CAN_RJCFG n, 31, 16⟩
def CAN_RJCFG_N (n : Nat) : Fld := ⟨R.CAN_RJCFG n, 7, 0⟩
def CAN_RXFLUSH_FLUSH (n : Nat) : Fld := ⟨R.CAN_RXFLUSH n, 15, 0⟩
def CAN_RXDROP_COUNT (n : Nat) : Fld := ⟨R.CAN_RXDROP n, 31, 0⟩
def CAN_MBCTL_NEW (n : Nat) : Fld := ⟨R.CAN_MBCTL n, 31, 16⟩
def CAN_MBCTL_UNLOCK (n : Nat) : Fld := ⟨R.CAN_MBCTL n, 15, 0⟩
def CAN_FID_IDE (n f : Nat) : Fld := ⟨R.CAN_FID n f, 29, 29⟩
def CAN_FID_ID (n f : Nat) : Fld := ⟨R.CAN_FID n f, 28, 0⟩
def CAN_FMASK_IDEM (n f : Nat) : Fld := ⟨R.CAN_FMASK n f, 29, 29⟩
def CAN_FMASK_MASK (n f : Nat) : Fld := ⟨R.CAN_FMASK n f, 28, 0⟩
def CAN_FACT_MB (n f : Nat) : Fld := ⟨R.CAN_FACT n f, 11, 8⟩
def CAN_FACT_ACT (n f : Nat) : Fld := ⟨R.CAN_FACT n f, 1, 0⟩
def CAN_TXB_ID_ID (n b : Nat) : Fld := ⟨R.CAN_TXB_ID n b, 31, 0⟩
def CAN_TXB_CTL_GO (n b : Nat) : Fld := ⟨R.CAN_TXB_CTL n b, 31, 31⟩
def CAN_TXB_CTL_ABORT (n b : Nat) : Fld := ⟨R.CAN_TXB_CTL n b, 30, 30⟩
def CAN_TXB_CTL_STATE (n b : Nat) : Fld := ⟨R.CAN_TXB_CTL n b, 29, 28⟩
def CAN_TXB_CTL_RESULT (n b : Nat) : Fld := ⟨R.CAN_TXB_CTL n b, 25, 24⟩
def CAN_TXB_CTL_DLC (n b : Nat) : Fld := ⟨R.CAN_TXB_CTL n b, 19, 16⟩
def CAN_TXB_CTL_ONESHOT (n b : Nat) : Fld := ⟨R.CAN_TXB_CTL n b, 8, 8⟩
def CAN_TXB_D_DATA (n b w : Nat) : Fld := ⟨R.CAN_TXB_D n b w, 31, 0⟩
def CAN_TXB_TS_TIME (n b : Nat) : Fld := ⟨R.CAN_TXB_TS n b, 31, 0⟩
def CAN_MB_ID_ID (n m : Nat) : Fld := ⟨R.CAN_MB_ID n m, 31, 0⟩
def CAN_MB_CTL_NEW (n m : Nat) : Fld := ⟨R.CAN_MB_CTL n m, 31, 31⟩
def CAN_MB_CTL_OVR (n m : Nat) : Fld := ⟨R.CAN_MB_CTL n m, 30, 30⟩
def CAN_MB_CTL_LOCKED (n m : Nat) : Fld := ⟨R.CAN_MB_CTL n m, 29, 29⟩
def CAN_MB_CTL_FILTER (n m : Nat) : Fld := ⟨R.CAN_MB_CTL n m, 22, 16⟩
def CAN_MB_CTL_DLC (n m : Nat) : Fld := ⟨R.CAN_MB_CTL n m, 11, 8⟩
def CAN_MB_CTL_ESI (n m : Nat) : Fld := ⟨R.CAN_MB_CTL n m, 0, 0⟩
def CAN_MB_D_DATA (n m w : Nat) : Fld := ⟨R.CAN_MB_D n m w, 31, 0⟩
def CAN_MB_TS_TIME (n m : Nat) : Fld := ⟨R.CAN_MB_TS n m, 31, 0⟩
def CAN_ACNAME_LO_NAME (n : Nat) : Fld := ⟨R.CAN_ACNAME_LO n, 31, 0⟩
def CAN_ACNAME_HI_NAME (n : Nat) : Fld := ⟨R.CAN_ACNAME_HI n, 31, 0⟩
def CAN_ACCFG_EN (n : Nat) : Fld := ⟨R.CAN_ACCFG n, 31, 31⟩
def CAN_ACCFG_MAX (n : Nat) : Fld := ⟨R.CAN_ACCFG n, 23, 16⟩
def CAN_ACCFG_MIN (n : Nat) : Fld := ⟨R.CAN_ACCFG n, 15, 8⟩
def CAN_ACCFG_PREF (n : Nat) : Fld := ⟨R.CAN_ACCFG n, 7, 0⟩
def CAN_ACSTAT_STATE (n : Nat) : Fld := ⟨R.CAN_ACSTAT n, 9, 8⟩
def CAN_ACSTAT_SA (n : Nat) : Fld := ⟨R.CAN_ACSTAT n, 7, 0⟩
def CAN_TPCFG_EN (n : Nat) : Fld := ⟨R.CAN_TPCFG n, 31, 31⟩
def CAN_TPCFG_CTSN (n : Nat) : Fld := ⟨R.CAN_TPCFG n, 4, 0⟩
def CAN_TPSTAT_SESSIONS (n : Nat) : Fld := ⟨R.CAN_TPSTAT n, 3, 0⟩
def ETH_CTL_LOCK : Fld := ⟨R.ETH_CTL, 31, 31⟩
def ETH_CTL_PROMISC : Fld := ⟨R.ETH_CTL, 9, 9⟩
def ETH_CTL_ALLMC : Fld := ⟨R.ETH_CTL, 8, 8⟩
def ETH_CTL_EN : Fld := ⟨R.ETH_CTL, 0, 0⟩
def ETH_STAT_CONFIG : Fld := ⟨R.ETH_STAT, 3, 3⟩
def ETH_STAT_FDB_FULL : Fld := ⟨R.ETH_STAT, 2, 2⟩
def ETH_STAT_PLCA_ERR : Fld := ⟨R.ETH_STAT, 1, 1⟩
def ETH_STAT_LINK_CHG : Fld := ⟨R.ETH_STAT, 0, 0⟩
def ETH_MAC_LO_MAC : Fld := ⟨R.ETH_MAC_LO, 31, 0⟩
def ETH_MAC_HI_MAC : Fld := ⟨R.ETH_MAC_HI, 15, 0⟩
def ETH_AGE_AGE : Fld := ⟨R.ETH_AGE, 15, 0⟩
def ETH_PCPMAP_MAP : Fld := ⟨R.ETH_PCPMAP, 23, 0⟩
def ETH_RXFLUSH_FLUSH : Fld := ⟨R.ETH_RXFLUSH, 15, 0⟩
def ETH_VLAN_EN (v : Nat) : Fld := ⟨R.ETH_VLAN v, 31, 31⟩
def ETH_VLAN_MEMBER (v : Nat) : Fld := ⟨R.ETH_VLAN v, 27, 16⟩
def ETH_VLAN_VID (v : Nat) : Fld := ⟨R.ETH_VLAN v, 11, 0⟩
def ETH_UNTAG_UNTAG (v : Nat) : Fld := ⟨R.ETH_UNTAG v, 11, 0⟩
def ETH_PCFG_EN (p : Nat) : Fld := ⟨R.ETH_PCFG p, 31, 31⟩
def ETH_PCFG_PVID (p : Nat) : Fld := ⟨R.ETH_PCFG p, 27, 16⟩
def ETH_PCFG_DEFPRIO (p : Nat) : Fld := ⟨R.ETH_PCFG p, 10, 8⟩
def ETH_PCFG_ROLE (p : Nat) : Fld := ⟨R.ETH_PCFG p, 4, 4⟩
def ETH_PSTAT_SPEED (p : Nat) : Fld := ⟨R.ETH_PSTAT p, 9, 8⟩
def ETH_PSTAT_LINK (p : Nat) : Fld := ⟨R.ETH_PSTAT p, 0, 0⟩
def ETH_RXCNT_COUNT (p : Nat) : Fld := ⟨R.ETH_RXCNT p, 31, 0⟩
def ETH_TXCNT_COUNT (p : Nat) : Fld := ⟨R.ETH_TXCNT p, 31, 0⟩
def ETH_DROP_COUNT (p : Nat) : Fld := ⟨R.ETH_DROP p, 31, 0⟩
def ETH_PLCA_EN (s : Nat) : Fld := ⟨R.ETH_PLCA s, 31, 31⟩
def ETH_PLCA_BURST (s : Nat) : Fld := ⟨R.ETH_PLCA s, 27, 24⟩
def ETH_PLCA_TOTMR (s : Nat) : Fld := ⟨R.ETH_PLCA s, 23, 16⟩
def ETH_PLCA_NCNT (s : Nat) : Fld := ⟨R.ETH_PLCA s, 15, 8⟩
def ETH_PLCASTAT_ERR (s : Nat) : Fld := ⟨R.ETH_PLCASTAT s, 16, 16⟩
def ETH_PLCASTAT_ACTIVE (s : Nat) : Fld := ⟨R.ETH_PLCASTAT s, 0, 0⟩
def TDM_CTL_LOCK : Fld := ⟨R.TDM_CTL, 31, 31⟩
def TDM_CTL_JOIN : Fld := ⟨R.TDM_CTL, 9, 9⟩
def TDM_CTL_HANDOVER : Fld := ⟨R.TDM_CTL, 8, 8⟩
def TDM_CTL_TKEN : Fld := ⟨R.TDM_CTL, 1, 1⟩
def TDM_CTL_EN : Fld := ⟨R.TDM_CTL, 0, 0⟩
def TDM_STAT_WIRE_ERR : Fld := ⟨R.TDM_STAT, 10, 10⟩
def TDM_STAT_AXDIV : Fld := ⟨R.TDM_STAT, 9, 9⟩
def TDM_STAT_MIRROR_OVF : Fld := ⟨R.TDM_STAT, 8, 8⟩
def TDM_STAT_MIRROR_WR : Fld := ⟨R.TDM_STAT, 7, 7⟩
def TDM_STAT_NOTREADY : Fld := ⟨R.TDM_STAT, 6, 6⟩
def TDM_STAT_HB_LOST : Fld := ⟨R.TDM_STAT, 5, 5⟩
def TDM_STAT_CONFLICT : Fld := ⟨R.TDM_STAT, 4, 4⟩
def TDM_STAT_MISMATCH : Fld := ⟨R.TDM_STAT, 3, 3⟩
def TDM_STAT_LANE : Fld := ⟨R.TDM_STAT, 2, 2⟩
def TDM_STAT_LINK_CHG : Fld := ⟨R.TDM_STAT, 1, 1⟩
def TDM_STAT_ROLE_CHG : Fld := ⟨R.TDM_STAT, 0, 0⟩
def TDM_STATE_SIDE : Fld := ⟨R.TDM_STATE, 31, 31⟩
def TDM_STATE_READY : Fld := ⟨R.TDM_STATE, 30, 30⟩
def TDM_STATE_TERM : Fld := ⟨R.TDM_STATE, 23, 8⟩
def TDM_STATE_PPSTATE : Fld := ⟨R.TDM_STATE, 7, 4⟩
def TDM_STATE_PSTATE : Fld := ⟨R.TDM_STATE, 2, 0⟩
def TDM_TKCFG_AXIS : Fld := ⟨R.TDM_TKCFG, 26, 24⟩
def TDM_TKCFG_PITCH : Fld := ⟨R.TDM_TKCFG, 23, 0⟩
def TDM_TKWAIT_TKWAIT : Fld := ⟨R.TDM_TKWAIT, 15, 0⟩
def TDM_LINK_LANEMASK : Fld := ⟨R.TDM_LINK, 7, 4⟩
def TDM_LINK_WIDTH : Fld := ⟨R.TDM_LINK, 2, 1⟩
def TDM_LINK_UP : Fld := ⟨R.TDM_LINK, 0, 0⟩
def TDM_LANEERR_COUNT (l : Nat) : Fld := ⟨R.TDM_LANEERR l, 31, 0⟩
def TDM_PTOFS_LO_OFS : Fld := ⟨R.TDM_PTOFS_LO, 31, 0⟩
def TDM_PTOFS_HI_OFS : Fld := ⟨R.TDM_PTOFS_HI, 31, 0⟩
def TDM_AXTOL_TOL : Fld := ⟨R.TDM_AXTOL, 15, 0⟩
def TDM_AXOFF_LO_DA (a : Nat) : Fld := ⟨R.TDM_AXOFF_LO a, 31, 0⟩
def TDM_AXOFF_HI_DA (a : Nat) : Fld := ⟨R.TDM_AXOFF_HI a, 31, 0⟩
def TDM_AXDIV_DIV (a : Nat) : Fld := ⟨R.TDM_AXDIV a, 31, 0⟩
def TDM_WIRE_SOL_BANKS : Fld := ⟨R.TDM_WIRE_SOL, 15, 0⟩
def TDM_WIRE_HS_CHANNELS (w : Nat) : Fld := ⟨R.TDM_WIRE_HS w, 31, 0⟩
def TDM_WIRE_DIO_POINTS (w : Nat) : Fld := ⟨R.TDM_WIRE_DIO w, 31, 0⟩
def TDM_LATECNT_COUNT : Fld := ⟨R.TDM_LATECNT, 31, 0⟩
def TDM_TKOCNT_COUNT : Fld := ⟨R.TDM_TKOCNT, 15, 0⟩
def UPD_CTL_LOCK : Fld := ⟨R.UPD_CTL, 31, 31⟩
def UPD_STAT_NO_IMAGE : Fld := ⟨R.UPD_STAT, 7, 7⟩
def UPD_STAT_CFG_WAIT : Fld := ⟨R.UPD_STAT, 6, 6⟩
def UPD_STAT_HO_INVALID : Fld := ⟨R.UPD_STAT, 5, 5⟩
def UPD_STAT_FALLBACK : Fld := ⟨R.UPD_STAT, 4, 4⟩
def UPD_STAT_CHECK_FAIL : Fld := ⟨R.UPD_STAT, 3, 3⟩
def UPD_STAT_TRIAL : Fld := ⟨R.UPD_STAT, 2, 2⟩
def UPD_STAT_STAGED : Fld := ⟨R.UPD_STAT, 1, 1⟩
def UPD_STAT_ABORTED : Fld := ⟨R.UPD_STAT, 0, 0⟩
def UPD_BUSY_NBUSY : Fld := ⟨R.UPD_BUSY, 10, 8⟩
def UPD_BUSY_PARTS : Fld := ⟨R.UPD_BUSY, 5, 0⟩
def UPD_PSTAT_REASON (p : Nat) : Fld := ⟨R.UPD_PSTAT p, 31, 24⟩
def UPD_PSTAT_TRIALS (p : Nat) : Fld := ⟨R.UPD_PSTAT p, 18, 16⟩
def UPD_PSTAT_STATE (p : Nat) : Fld := ⟨R.UPD_PSTAT p, 14, 12⟩
def UPD_PSTAT_ACTIVE (p : Nat) : Fld := ⟨R.UPD_PSTAT p, 8, 8⟩
def UPD_PSTAT_LINKED (p : Nat) : Fld := ⟨R.UPD_PSTAT p, 4, 4⟩
def UPD_VER_VERSION (p : Nat) : Fld := ⟨R.UPD_VER p, 31, 0⟩
def UPD_RBCNT_COUNT (p : Nat) : Fld := ⟨R.UPD_RBCNT p, 31, 0⟩
def UPD_CFGFMT_REQ : Fld := ⟨R.UPD_CFGFMT, 31, 16⟩
def UPD_CFGFMT_ACT : Fld := ⟨R.UPD_CFGFMT, 15, 0⟩
def UPD_HOBASE_ADDR : Fld := ⟨R.UPD_HOBASE, 31, 12⟩
def UPD_HOSIZE_KIB : Fld := ⟨R.UPD_HOSIZE, 12, 0⟩
def UPD_HOSTAT_VALID : Fld := ⟨R.UPD_HOSTAT, 31, 31⟩
def UPD_HOSTAT_HOFMT : Fld := ⟨R.UPD_HOSTAT, 15, 0⟩
def UPD_HOVER_WVER : Fld := ⟨R.UPD_HOVER, 31, 0⟩
def UPD_RESTART_RTX : Fld := ⟨R.UPD_RESTART, 1, 1⟩
def UPD_RESTART_APP : Fld := ⟨R.UPD_RESTART, 0, 0⟩
def UPD_KEYREV_REVOKED : Fld := ⟨R.UPD_KEYREV, 3, 0⟩
def UPD_KEYS_PRESENT : Fld := ⟨R.UPD_KEYS, 3, 0⟩
def EVR_CTL_LOCK : Fld := ⟨R.EVR_CTL, 31, 31⟩
def EVR_CTL_FREEZE : Fld := ⟨R.EVR_CTL, 8, 8⟩
def EVR_CTL_EN : Fld := ⟨R.EVR_CTL, 0, 0⟩
def EVR_STAT_JWARN : Fld := ⟨R.EVR_STAT, 5, 5⟩
def EVR_STAT_UNFROZEN : Fld := ⟨R.EVR_STAT, 4, 4⟩
def EVR_STAT_ERASED : Fld := ⟨R.EVR_STAT, 3, 3⟩
def EVR_STAT_FULL : Fld := ⟨R.EVR_STAT, 2, 2⟩
def EVR_STAT_LOST : Fld := ⟨R.EVR_STAT, 1, 1⟩
def EVR_STAT_BADREC : Fld := ⟨R.EVR_STAT, 0, 0⟩
def EVR_JWPTR_PTR : Fld := ⟨R.EVR_JWPTR, 28, 0⟩
def EVR_STGUSED_BYTES : Fld := ⟨R.EVR_STGUSED, 18, 0⟩
def EVR_LOSTCNT_COUNT : Fld := ⟨R.EVR_LOSTCNT, 31, 0⟩
def EVR_RECCFG_FLUSHT : Fld := ⟨R.EVR_RECCFG, 31, 16⟩
def EVR_RECCFG_FRZTO : Fld := ⟨R.EVR_RECCFG, 15, 0⟩
def EVR_WARN_WARN : Fld := ⟨R.EVR_WARN, 7, 0⟩
def EVR_OPEN_REPEAT : Fld := ⟨R.EVR_OPEN, 31, 16⟩
def EVR_OPEN_CODE : Fld := ⟨R.EVR_OPEN, 15, 0⟩
def PWRM_CTL_LOCK : Fld := ⟨R.PWRM_CTL, 31, 31⟩
def PWRM_REQ_KEY : Fld := ⟨R.PWRM_REQ, 31, 16⟩
def PWRM_REQ_STATE : Fld := ⟨R.PWRM_REQ, 2, 0⟩
def PWRM_STATE_BUSY : Fld := ⟨R.PWRM_STATE, 12, 12⟩
def PWRM_STATE_TRIMSUP : Fld := ⟨R.PWRM_STATE, 8, 8⟩
def PWRM_STATE_REQ : Fld := ⟨R.PWRM_STATE, 6, 4⟩
def PWRM_STATE_CUR : Fld := ⟨R.PWRM_STATE, 2, 0⟩
def PWRM_DOMEN_NAV : Fld := ⟨R.PWRM_DOMEN, 9, 9⟩
def PWRM_DOMEN_DSP : Fld := ⟨R.PWRM_DOMEN, 8, 8⟩
def PWRM_DOMEN_IMG : Fld := ⟨R.PWRM_DOMEN, 7, 7⟩
def PWRM_DOMSTAT_ON : Fld := ⟨R.PWRM_DOMSTAT, 13, 0⟩
def PWRM_WAKECFG_IGNDB : Fld := ⟨R.PWRM_WAKECFG, 31, 16⟩
def PWRM_WAKECFG_ALARM : Fld := ⟨R.PWRM_WAKECFG, 2, 2⟩
def PWRM_WAKECFG_PIN : Fld := ⟨R.PWRM_WAKECFG, 1, 1⟩
def PWRM_WAKECFG_IGN : Fld := ⟨R.PWRM_WAKECFG, 0, 0⟩
def PWRM_WAKECAUSE_SRC : Fld := ⟨R.PWRM_WAKECAUSE, 2, 0⟩
def PWRM_ALARM_LO_MTB : Fld := ⟨R.PWRM_ALARM_LO, 31, 0⟩
def PWRM_ALARM_HI_MTB : Fld := ⟨R.PWRM_ALARM_HI, 31, 0⟩
def PWRM_SUP_IGN : Fld := ⟨R.PWRM_SUP, 31, 16⟩
def PWRM_SUP_KL30 : Fld := ⟨R.PWRM_SUP, 15, 0⟩
def PWRM_STAT_IGNLVL : Fld := ⟨R.PWRM_STAT, 16, 16⟩
def PWRM_STAT_REQ_ERR : Fld := ⟨R.PWRM_STAT, 5, 5⟩
def PWRM_STAT_WS_BAD : Fld := ⟨R.PWRM_STAT, 4, 4⟩
def PWRM_STAT_IGNON : Fld := ⟨R.PWRM_STAT, 3, 3⟩
def PWRM_STAT_IGNOFF : Fld := ⟨R.PWRM_STAT, 2, 2⟩
def PWRM_STAT_TRIM : Fld := ⟨R.PWRM_STAT, 1, 1⟩
def PWRM_STAT_STATE_CHG : Fld := ⟨R.PWRM_STAT, 0, 0⟩
def PWRM_WSCTL_EN : Fld := ⟨R.PWRM_WSCTL, 0, 0⟩
def PWRM_WSSTAT_DONE : Fld := ⟨R.PWRM_WSSTAT, 31, 16⟩
def PWRM_WSSTAT_REASON : Fld := ⟨R.PWRM_WSSTAT, 1, 0⟩
def PWRM_WS_W (w : Nat) : Fld := ⟨R.PWRM_WS w, 31, 0⟩
def RST_CTL_LOCK : Fld := ⟨R.RST_CTL, 31, 31⟩
def RST_CMD_KEY : Fld := ⟨R.RST_CMD, 31, 16⟩
def RST_CMD_KIND : Fld := ⟨R.RST_CMD, 2, 0⟩
def RST_CAUSE_SUB : Fld := ⟨R.RST_CAUSE, 15, 8⟩
def RST_CAUSE_KIND : Fld := ⟨R.RST_CAUSE, 2, 0⟩
def RST_SEEN_KINDS : Fld := ⟨R.RST_SEEN, 7, 0⟩
def RST_BOOTCNT_COUNT : Fld := ⟨R.RST_BOOTCNT, 31, 0⟩
def RST_STAT_CMD_ERR : Fld := ⟨R.RST_STAT, 2, 2⟩
def RST_STAT_WDWARN1 : Fld := ⟨R.RST_STAT, 1, 1⟩
def RST_STAT_WDWARN0 : Fld := ⟨R.RST_STAT, 0, 0⟩
def RST_WDCFG_EN (w : Nat) : Fld := ⟨R.RST_WDCFG w, 31, 31⟩
def RST_WDCFG_ACTION (w : Nat) : Fld := ⟨R.RST_WDCFG w, 24, 24⟩
def RST_WDCFG_WARN (w : Nat) : Fld := ⟨R.RST_WDCFG w, 23, 16⟩
def RST_WDCFG_TO (w : Nat) : Fld := ⟨R.RST_WDCFG w, 15, 0⟩
def RST_WDKICK_KICK (w : Nat) : Fld := ⟨R.RST_WDKICK w, 31, 0⟩
def RST_WDCNT_LEFT (w : Nat) : Fld := ⟨R.RST_WDCNT w, 15, 0⟩
def PMU_CTL_LOCK : Fld := ⟨R.PMU_CTL, 31, 31⟩
def PMU_CTL_FORCEBW : Fld := ⟨R.PMU_CTL, 8, 8⟩
def PMU_CTL_EN : Fld := ⟨R.PMU_CTL, 0, 0⟩
def PMU_STAT_MODE : Fld := ⟨R.PMU_STAT, 18, 16⟩
def PMU_STAT_CONFIG : Fld := ⟨R.PMU_STAT, 3, 3⟩
def PMU_STAT_SNAPDROP : Fld := ⟨R.PMU_STAT, 2, 2⟩
def PMU_STAT_SNAP : Fld := ⟨R.PMU_STAT, 1, 1⟩
def PMU_STAT_OVF : Fld := ⟨R.PMU_STAT, 0, 0⟩
def PMU_OVF_LO_OVF : Fld := ⟨R.PMU_OVF_LO, 31, 0⟩
def PMU_OVF_HI_OVF : Fld := ⟨R.PMU_OVF_HI, 23, 0⟩
def PMU_SNAP_DB_GO : Fld := ⟨R.PMU_SNAP_DB, 0, 0⟩
def PMU_SNAP_STAT_SEQ : Fld := ⟨R.PMU_SNAP_STAT, 31, 16⟩
def PMU_SNAP_STAT_DOORBELL : Fld := ⟨R.PMU_SNAP_STAT, 7, 7⟩
def PMU_SNAP_STAT_TRG : Fld := ⟨R.PMU_SNAP_STAT, 4, 0⟩
def PMU_SNAP_MTB_LO_MTB : Fld := ⟨R.PMU_SNAP_MTB_LO, 31, 0⟩
def PMU_SNAP_MTB_HI_MTB : Fld := ⟨R.PMU_SNAP_MTB_HI, 31, 0⟩
def PMU_SNAPDROP_COUNT : Fld := ⟨R.PMU_SNAPDROP, 31, 0⟩
def PMU_BWCFG_WIN : Fld := ⟨R.PMU_BWCFG, 15, 0⟩
def PMU_BWSEQ_SEQ : Fld := ⟨R.PMU_BWSEQ, 31, 0⟩
def PMU_CFG_EN (n : Nat) : Fld := ⟨R.PMU_CFG n, 31, 31⟩
def PMU_CFG_MODE (n : Nat) : Fld := ⟨R.PMU_CFG n, 30, 30⟩
def PMU_CFG_OVIE (n : Nat) : Fld := ⟨R.PMU_CFG n, 29, 29⟩
def PMU_CFG_SAMPLE (n : Nat) : Fld := ⟨R.PMU_CFG n, 28, 28⟩
def PMU_CFG_SRC (n : Nat) : Fld := ⟨R.PMU_CFG n, 23, 16⟩
def PMU_CFG_EVENT (n : Nat) : Fld := ⟨R.PMU_CFG n, 11, 0⟩
def PMU_THR_N (n : Nat) : Fld := ⟨R.PMU_THR n, 15, 0⟩
def PMU_CNT_LO_COUNT (n : Nat) : Fld := ⟨R.PMU_CNT_LO n, 31, 0⟩
def PMU_CNT_HI_COUNT (n : Nat) : Fld := ⟨R.PMU_CNT_HI n, 15, 0⟩
def PMU_SNAP_LO_COUNT (n : Nat) : Fld := ⟨R.PMU_SNAP_LO n, 31, 0⟩
def PMU_SNAP_HI_COUNT (n : Nat) : Fld := ⟨R.PMU_SNAP_HI n, 15, 0⟩
def PMU_BW_BYTES (k : Nat) : Fld := ⟨R.PMU_BW k, 31, 0⟩
def PMU_SAMP_PC_LO_PC (c : Nat) : Fld := ⟨R.PMU_SAMP_PC_LO c, 31, 0⟩
def PMU_SAMP_PC_HI_PC (c : Nat) : Fld := ⟨R.PMU_SAMP_PC_HI c, 31, 0⟩
def PMU_SAMP_BT_LO_BTGT (c : Nat) : Fld := ⟨R.PMU_SAMP_BT_LO c, 31, 0⟩
def PMU_SAMP_BT_HI_BTGT (c : Nat) : Fld := ⟨R.PMU_SAMP_BT_HI c, 31, 0⟩
def PMU_SAMP_INFO_VALID (c : Nat) : Fld := ⟨R.PMU_SAMP_INFO c, 31, 31⟩
def PMU_SAMP_INFO_LOST (c : Nat) : Fld := ⟨R.PMU_SAMP_INFO c, 23, 16⟩
def PMU_SAMP_INFO_RUN (c : Nat) : Fld := ⟨R.PMU_SAMP_INFO c, 11, 8⟩
def PMU_SAMP_INFO_CNT (c : Nat) : Fld := ⟨R.PMU_SAMP_INFO c, 5, 0⟩

end Sys2Proof.Machine.F
end

