-- ==== Sys2Proof/Machine/RegFile.lean ====
section
/-! DEFINITION. Looking an address up in the register maps: its fields, its reset value, its lock, the domain that
holds a field, and the value a write leaves (R10-R13). -/

namespace Sys2Proof.Machine

/-- The bits of a field. -/
def Fld.get (f : Fld) (w : Word) : Nat := w.toNat / 2 ^ f.lo % 2 ^ (f.hi + 1 - f.lo)

/-- The word with a field replaced, the value cut to the field. -/
def Fld.put (f : Fld) (w : Word) (v : Nat) : Word :=
  BitVec.ofNat 32 (w.toNat % 2 ^ f.lo + v % 2 ^ (f.hi + 1 - f.lo) * 2 ^ f.lo + w.toNat / 2 ^ (f.hi + 1) * 2 ^ (f.hi + 1))

/-- Two's complement reading of an n-bit number (R10). -/
def sext (n : Nat) (v : Nat) : Int := if 2 ^ (n - 1) ≤ v % 2 ^ n then (v % 2 ^ n : Nat) - (2 ^ n : Nat) else (v % 2 ^ n : Nat)

/-- Two's complement encoding of an integer in n bits. -/
def toBits (n : Nat) (x : Int) : Nat := (x % (2 ^ n : Nat)).toNat

/-- A field of signed type (R10). -/
def Fld.getInt (f : Fld) (w : Word) : Int := sext (f.hi + 1 - f.lo) (f.get w)

/-- The registers of the window that holds an address (Table 0-8). -/
def rowsAt (a : Nat) : List RegRow :=
  let w := a / 0x10000 - 0x4000
  if a < 0x40000000 then [] else
  if w < 0x10 then
    match w with
    | 0 => RegMap.rowsMOD | 1 => RegMap.rowsPWRM | 2 => RegMap.rowsRST | 3 => RegMap.rowsRNG | 4 => RegMap.rowsREIN
    | 5 => RegMap.rowsACC | 6 => RegMap.rowsPMU | 7 => RegMap.rowsEVR | 8 => RegMap.rowsUPD | 9 => RegMap.rowsTIM
    | _ => []
  else if w < 0x20 then
    match w - 0x10 with
    | 0 => RegMap.rowsSTR | 1 => RegMap.rowsEPT | 2 => RegMap.rowsSLT | 3 => RegMap.rowsCOV | 4 => RegMap.rowsBRD
    | 5 => RegMap.rowsWVE | 6 => RegMap.rowsYLD
    | _ => []
  else if w < 0x40 then
    match w % 16 / 4 with
    | 0 => RegMap.rowsSOL | 1 => RegMap.rowsLSW | 2 => RegMap.rowsDIO
    | _ => []
  else if w < 0x50 then
    match w % 16 / 4 with
    | 0 => RegMap.rowsAFE | 1 => RegMap.rowsPLS | 2 => RegMap.rowsIMU | _ => RegMap.rowsGRF
  else
    match w / 16 with
    | 5 => RegMap.rowsGNS | 6 => RegMap.rowsIMG | 7 => RegMap.rowsDSP | 8 => RegMap.rowsCAN | 9 => RegMap.rowsETH
    | 10 => RegMap.rowsTDM | 11 => RegMap.rowsEPT | 12 => RegMap.rowsSLT
    | 13 => if w = 0xD0 then RegMap.rowsPWRM else []
    | _ => []

/-- Whether an offset is a sum of index times stride, each index inside its count. -/
def dimsMatch : List (Nat × Nat) → Nat → Bool
  | [], off => off == 0
  | (s, c) :: ds, off => off / s < c && dimsMatch ds (off % s)

/-- Whether a register of the map lies at an address. -/
def RegRow.covers (r : RegRow) (a : Nat) : Bool := r.base ≤ a && dimsMatch r.dims (a - r.base)

/-- The fields of the register at an address; none where the address is reserved (R12, R13). -/
def fieldsAt (a : Nat) : List FieldRow :=
  match (rowsAt a).find? (fun r => r.covers a) with
  | some r => r.fields
  | none => []

/-- The window of a target's access-table entry 0 after reset (Table 2-8): base and SIZE. -/
def targetWindow (t : Nat) : Nat × Nat :=
  if t = 0 then (0x0800000000, 33) else if t = 1 then (0x0A00000000, 33)
  else if t < 14 then (0x20000000 + 0x400000 * (t - 2), 22)
  else if t < 17 then (0, 20) else (0x40000000, 24)

/-- The reset value of the register at an address: its fields' resets; entry 0 of each access table opens the
target's window to every master (R58); an endpoint's record reads OUT with cause RESET (R119). The part's own registers (MOD_*) are read from State.part. -/
def resetOf (a : Nat) : Word :=
  if 0x40050000 ≤ a ∧ a < 0x40054800 ∧ (a - 0x40050000) % 0x400 = 0 then
    BitVec.ofNat 32 ((targetWindow ((a - 0x40050000) / 0x400)).1 / 0x1000)
  else if 0x40050000 ≤ a ∧ a < 0x40054800 ∧ (a - 0x40050000) % 0x400 = 4 then
    BitVec.ofNat 32 (0x70000 + 0x100 * (targetWindow ((a - 0x40050000) / 0x400)).2 + 0x3F)
  else if 0x40B00000 ≤ a ∧ a < 0x40B20000 ∧ (a - 0x40B00000) % 0x20 = 0x1C then 0x90
  else BitVec.ofNat 32 ((fieldsAt a).foldl (fun n f => n + f.reset * 2 ^ f.lo) 0)

/-- The lock bit of the unit whose window holds an address (each chapter's register-map rule). -/
def lockOf (a : Nat) : Option Fld :=
  let w := a / 0x10000 - 0x4000
  if a < 0x40000000 then none else
  if w < 0x10 then
    match w with
    | 1 => some F.PWRM_CTL_LOCK | 2 => some F.RST_CTL_LOCK | 3 => some F.RNG_LOCK_LOCK
    | 5 => if (a - 0x40050000) / 0x400 < 18 then some (F.ACC_T_CTL_LOCK ((a - 0x40050000) / 0x400)) else none
    | 6 => some F.PMU_CTL_LOCK | 7 => some F.EVR_CTL_LOCK | 8 => some F.UPD_CTL_LOCK | 9 => some F.TIM_CTL_LOCK
    | _ => none
  else if w < 0x20 then
    match w - 0x10 with
    | 0 => some F.STR_CTL_LOCK | 1 => some F.EPT_CTL_LOCK | 2 => some F.SLT_CTL_LOCK | 3 => some F.COV_CTL_LOCK
    | 4 => some F.BRD_CTL_LOCK | 5 => some F.WVE_CTL_LOCK | 6 => some F.YLD_CTL_LOCK
    | _ => none
  else if w < 0x40 then
    match w % 16 / 4 with
    | 0 => some (F.SOL_CTL_LOCK (w / 16 - 2)) | 1 => some (F.LSW_CTL_LOCK (w / 16 - 2))
    | _ => none
  else if w < 0x50 then
    match w % 16 / 4 with
    | 0 => some F.AFE_CTL_LOCK | 1 => some F.PLS_CTL_LOCK | 2 => some F.IMU_CTL_LOCK | _ => some F.GRF_CTL_LOCK
  else
    match w / 16 with
    | 5 => some F.GNS_CTL_LOCK | 6 => some F.IMG_CTL_LOCK | 7 => some F.DSP_CTL_LOCK
    | 8 => if w % 16 < 12 then some (F.CAN_CTL_LOCK (w % 16)) else none
    | 9 => some F.ETH_CTL_LOCK | 10 => some F.TDM_CTL_LOCK
    | 11 => some F.EPT_CTL_LOCK | 12 => some F.SLT_CTL_LOCK | 13 => some F.PWRM_CTL_LOCK
    | _ => none

/-- What one field holds after a write of w over the old word (Table 0-6): RW takes the bits, RWL only while
unlocked, W1C clears, W1S sets, everything else keeps. -/
def FieldRow.written (f : FieldRow) (locked : Bool) (old w : Word) : Nat :=
  let g : Fld := ⟨0, f.hi, f.lo⟩
  match f.access with
  | .rw => g.get w
  | .rwl => if locked then g.get old else g.get w
  | .w1c => g.get (old &&& ~~~w)
  | .w1s => g.get (old ||| w)
  | .ro | .rc => g.get old
  | .wo | .cmd => 0

/-- The word a register holds after a write: each field by its access code, reserved bits 0 (R11, R12). -/
def writtenWord (a : Nat) (locked : Bool) (old w : Word) : Word :=
  BitVec.ofNat 32 ((fieldsAt a).foldl (fun n f => n + f.written locked old w * 2 ^ f.lo) 0)

/-- The number of a power domain (R502). -/
def Dom.num : Dom → Option Nat
  | .aon => some 0 | .smon => some 1 | .rtx => some 2 | .ctl => some 3 | .app => some 4 | .mem => some 5
  | .sram => some 6 | .img => some 7 | .dsp => some 8 | .nav => some 9 | .net => some 10 | .afe => some 11
  | .pwr0 => some 12 | .pwr1 => some 13
  | _ => Option.none

/-- The domain that holds a field at an address: the power die's own for the SOL, LSW and DIO windows, the die
domain of a PMU counter (R528). -/
def Dom.at (d : Dom) (a : Nat) : Dom :=
  match d with
  | .pwr => if a < 0x40300000 then .pwr0 else .pwr1
  | .die =>
    let n := (a - 0x40060100) / 0x10
    if n < 32 then .smon else if n < 40 then .afe else if n < 48 then .pwr0 else .pwr1
  | d => d

/-- The word with every field that a test selects back at its reset value. -/
def resetFields (a : Nat) (w : Word) (sel : FieldRow → Bool) : Word :=
  let r := resetOf a
  (fieldsAt a).foldl (fun x f => if sel f then (⟨0, f.hi, f.lo⟩ : Fld).put x ((⟨0, f.hi, f.lo⟩ : Fld).get r) else x) w

/-- Whether a field goes back to its reset value at a reset of a kind: its weakest reset is no stronger (R515).
Fixed and flash fields never do. -/
def FieldRow.clearedBy (f : FieldRow) (k : ResetKind) : Bool :=
  f.dom ≠ .fixed && f.dom ≠ .flash && f.dom ≠ .none && f.kind.strength ≤ k.strength

end Sys2Proof.Machine
end

