-- ==== Sys2Proof/Machine/Units.lean ====
section
/-! DEFINITION. The hidden state of the units: what the manual gives each unit beside its registers. Plain data. -/

namespace Sys2Proof.Machine

/-- The part (R1, R9, R472): ordering code, stepping, serial number, signing keys present, Tandem side strap. -/
structure Part where
  code : OrderCode
  stepping : Nat
  serial : Nat
  keys : Nat
  sideB : Bool
  deriving DecidableEq, Repr

/-- A descriptor of a ring (Table 2-2) with its index. -/
structure Desc where
  didx : Nat
  op : Nat
  irq : Bool
  fence : Bool
  tag : Nat
  len : Nat
  addr : Nat
  arg0 : Nat
  arg1 : Nat
  arg2 : Nat
  arg3 : Nat
  deriving DecidableEq, Repr

/-- A started descriptor: not yet done, or its completion (STATUS, RESULT) waiting to be written (R34, R37), with the short timestamp
at which it completed (Table 2-3); the completion ring and the queue its ring was enabled with when it started or was aborted, and
whether it is the last of a stop (R31, R38, R39). -/
structure Inflight where
  desc : Desc
  res : Option (Nat × Nat)
  stamp : Nat
  cring : Nat
  queue : Nat
  last : Bool
  deriving DecidableEq, Repr

/-- A ring beside its registers: started descriptors in order, those of a stop that is not finished among them (R38),
the index at which it was enabled (PHASE, Table 2-3), the queue and completion ring it was enabled with, IRQ
completions since the last interrupt and the instant of the first (R42), and which master's doorbell made the entries below each
index available, oldest first (R55). -/
structure Ring where
  inflight : List Inflight
  start : Nat
  queue : Nat
  cring : Nat
  irqCount : Nat
  irqSince : Option Nat
  masters : List (Nat × Acc)
  deriving DecidableEq, Repr

/-- A ring after reset. -/
def Ring.init : Ring := ⟨[], 0, 0, 0, 0, none, []⟩

/-- A stop of the ring is not finished: the last completion of it is not written yet (R31, R38). -/
def Ring.stopping (r : Ring) : Bool := r.inflight.any (·.last)

/-- The last entry of a list ends a stop. -/
def markLast (l : List Inflight) : List Inflight :=
  match l.reverse with
  | e :: l => (({ e with last := true } : Inflight) :: l).reverse
  | [] => []

/-- A ring whose started and unfinished descriptors are discarded (R40): a stop goes on with what is left of it. -/
def Ring.discard (r : Ring) : Ring :=
  let l := r.inflight.filter (fun e => e.res.isSome)
  { r with inflight := if r.stopping && !l.any (·.last) then markLast l else l }

/-- A table doorbell: table, first index, count of entries still to reload (R46). -/
structure TableJob where
  table : Nat
  first : Nat
  count : Nat
  full : Bool
  deriving DecidableEq, Repr

/-- The request of a master at a Rein target: how long it has waited in target cycles, whether this wait already
set the starvation bit (R53). -/
structure ReinWait where
  master : Nat
  wait : Nat
  starved : Bool
  lockLen : Nat
  deriving DecidableEq, Repr

/-- A Rein arbiter (R50-R54): the holder of the grant, whether its burst belongs to a lock, bursts left in
that lock after it, the waiting requests in order of
arrival, the last master granted (round robin). -/
structure Rein where
  holder : Option Nat
  locked : Bool
  lockLeft : Nat
  waiting : List ReinWait
  last : Nat
  deriving DecidableEq, Repr

/-- An arbiter after reset. -/
def Rein.init : Rein := ⟨none, false, 0, [], 47⟩

/-- An event on its way to the recorder (R487, R489): code, payload, its stamp and the MTB at its unit. -/
structure Event where
  code : Nat
  args : List Word
  stamp : Nat
  notime : Bool
  mtb : Nat
  fw : Bool
  deriving DecidableEq, Repr

/-- A staged record (R486): header fields and payload, with the MTB of its first occurrence. -/
structure EvRec where
  code : Nat
  fw : Bool
  notime : Bool
  rep : Nat
  last : Nat
  stamp : Nat
  args : List Word
  mtb : Nat
  deriving DecidableEq, Repr

/-- The event recorder beside its registers (R488-R493): the intake, closed staged records oldest first, the open
record, losses since the last EVR_LOST record with their first and last stamps and the first one's NOTIME, the journal bytes in flash, the
start of a freeze, whether WARN has been reached since the last ERASE, FLUSH commands (ring, descriptor, records
still to write). -/
structure Evr where
  intake : List Event
  staged : List EvRec
  open_ : Option EvRec
  lost : Nat
  lostFirst : Nat
  lostLast : Nat
  lostNotime : Bool
  journal : List Byte
  freezeAt : Option Nat
  warned : Bool
  flushes : List (Nat × Nat × Nat)
  deriving DecidableEq, Repr

/-- The recorder after reset, an empty journal (log entry 7). -/
def Evr.init : Evr := ⟨[], [], none, 0, 0, 0, false, [], none, false, []⟩

/-- A buffer of an output queue being filled: its descriptor, address, length, bytes written, instant of the first
record (R311, R348). -/
structure OutBuf where
  didx : Nat
  addr : Nat
  len : Nat
  used : Nat
  since : Nat
  deriving DecidableEq, Repr

/-- A pulse generator (R345, R346): the configuration in force, the second of the write that waits, whether the
output is in a pulse, the RT value of the last edge emitted or passed over, the RT start of the running pulse. -/
structure Pulse where
  en : Bool
  pol : Bool
  untrstop : Bool
  wrRec : Bool
  irq : Bool
  per : Nat
  wid : Nat
  dly : Int
  pending : Option Nat
  inPulse : Bool
  lastEdge : Nat
  start : Nat
  holdUntil : Nat
  seq : Nat
  deriving DecidableEq, Repr

/-- A pulse generator after reset: off. -/
def Pulse.init : Pulse := ⟨false, false, false, false, false, 0, 0, 0, none, false, 0, 0, 0, 0⟩

/-- The time unit beside its registers (R337, R340-R346): OFS in 2^-40 ns, the servo's frequency correction and slew
in 2^-40, the input in use, the validity of the inputs (PTP: the instant of the last accepted set), measurements
taken in but not yet used, whether the next offset is the first after a return or a change, consecutive
measurements within lock, HOLDOVER entry instant and e0, a pending step (its offset and second), the pulse
generators, the record sequence number of queue 0x0A; the instant at which the slew has taken its offset up, whether the input in use
replaced another that was valid, the instant of the last step. -/
structure Tim where
  ofs : Int
  corr : Int
  slew : Int
  src : Nat
  gnssValid : Bool
  ptpAt : Option Nat
  partnerValid : Bool
  gnssFresh : Option Nat
  ptpFresh : Bool
  first : Bool
  inLock : Nat
  holdAt : Nat
  e0 : Nat
  step : Option (Int × Nat)
  pulse0 : Pulse
  pulse1 : Pulse
  seq : Nat
  slewEnd : Nat
  noStep : Bool
  stepAt : Nat
  deriving DecidableEq, Repr

/-- The time unit after reset: FREE (R349). -/
def Tim.init : Tim :=
  ⟨0, 0, 0, 0, false, none, false, none, false, true, 0, 0, 0, none, Pulse.init, Pulse.init, 0, 0, false, 0⟩

/-- What a flash slot of a partition holds: nothing, what it was made with (log entry 7), or a container's bytes as
written so far (R470, R473). -/
inductive Slot where
  | empty
  | factory
  | written (bytes : List Byte)
  deriving DecidableEq, Repr

/-- The update unit beside its registers: the slots (2p for A, 2p + 1 for B of partition p), partitions whose WRITING
a reset ended and whose UPD_ABORT is recorded at the next boot (R476). -/
structure Upd where
  slots : List (Nat × Slot)
  aborts : List Nat
  deriving DecidableEq, Repr

/-- An analogue input beside its registers (R264-R268): the instant its comparator tripped, the start of the
conversion in progress, whether that conversion is suspect, the last OK code since the AFE was enabled, where its
settling interval begins, the last filter outputs newest first, the stamp of the result shown. -/
structure Ain where
  tripAt : Nat
  convAt : Nat
  suspect : Bool
  lastOk : Option Nat
  origin : Option Nat
  hist : List Int
  ts : Nat
  deriving DecidableEq, Repr

/-- An analogue input after reset. -/
def Ain.init : Ain := ⟨0, 0, false, none, none, [], 0⟩

/-- A pulse input beside its registers (R273-R276): the counted edges or impacts of its rate window newest first,
the instant and direction of the last one, the end of the dead time. -/
structure Pin where
  times : List Nat
  last : Option Nat
  dir : Int
  dead : Nat
  deriving DecidableEq, Repr

/-- A pulse input after reset. -/
def Pin.init : Pin := ⟨[], none, 1, 0⟩

/-- A zero-cross input beside its registers (R277): the last crossing, consecutive periods outside and inside 14.3 ms to 25.0 ms. -/
structure Zx where
  last : Option Nat
  bad : Nat
  good : Nat
  deriving DecidableEq, Repr

/-- A zero-cross input after reset. -/
def Zx.init : Zx := ⟨none, 0, 0⟩

/-- The A-die's sensor units beside their registers: inputs, pulse inputs, zero-cross inputs, by cluster the instant at which
its source is within 0.1 % of its last new value (R267), the instant of the last
rate update, the last inertial sample (the seven words and the stamp), the start of a self-test (R278). -/
structure Afe where
  ains : List (Nat × Ain)
  pins : List (Nat × Pin)
  zxs : List (Nat × Zx)
  srcs : List (Nat × Nat)
  rateAt : Nat
  imu : List Nat
  selfTest : Option Nat
  deriving DecidableEq, Repr

/-- The sensor units after reset. -/
def Afe.init : Afe := ⟨[], [], [], [], 0, [], none⟩

/-- A sample placed at its aligned instant (R289): slot, instant, the values of its kind, fix quality. -/
structure WSamp where
  slot : Nat
  inst : Nat
  vals : List Int
  qual : Nat
  deriving DecidableEq, Repr

/-- The L3 solution of one body at an epoch (Table 12-6): mm, µrad, mm/s, µrad/s. -/
structure L3 where
  state : Nat
  nomaj : Bool
  rev : Nat
  inst : Nat
  e : Int
  n : Int
  u : Int
  hdg : Int
  vx : Int
  vy : Int
  yaw : Int
  pitch : Int
  roll : Int
  herr : Int
  srcin : Nat
  hitch : Int
  xte : Int
  hdgerr : Int
  deriving DecidableEq, Repr

/-- A solution not yet initialised. -/
def L3.init : L3 := ⟨0, false, 0, 0, 0, 0, 0, 0, 0, 0, 0, 0, 0, 0, 0, 0, 0, 0⟩

/-- A Weave source slot beside its registers (R284-R302): the entry in force and the one waiting for the next epoch,
aligned instants of the last samples newest first, the last sample, whether it has a quality fault or an input fault
that its unit reports, samples of the drift window (source clock unrolled, reception), its fit (offset, rate), where a disagreement began for
each quantity, agreement so far in ns. -/
structure WSrc where
  entry : List Byte
  next : Option (List Byte)
  arrivals : List Nat
  last : Option WSamp
  qfault : Bool
  fault : Bool
  drift : List (Int × Nat)
  fit : Option (Int × Int)
  dis : List (Nat × Nat)
  agree : Nat
  deriving DecidableEq, Repr

/-- A slot that holds no source. -/
def WSrc.init : WSrc := ⟨[], none, [], none, false, false, [], none, [], 0⟩

/-- A track (R307, R308): kind, state, revision, instant of its last update, associations, point, direction, length,
width, velocity, source mask, the outcome of its last updates newest first, consecutive misses, last association, birth order. -/
structure Trk where
  kind : Nat
  state : Nat
  rev : Nat
  inst : Nat
  hits : Nat
  e : Int
  n : Int
  dir : Int
  len : Int
  width : Int
  ve : Int
  vn : Int
  mask : Nat
  window : List Bool
  misses : Nat
  hitAt : Nat
  born : Nat
  deriving DecidableEq, Repr

/-- The Weave unit beside its registers (R284-R312): slots, samples that wait for their epoch, the last epoch, the
epochs issued, the solutions of machine and implement, yaw rates of the last epochs newest first, the epoch history of
512 ms newest first, the references of its votes with the origin of their positions, whether the solution has been initialised, the last fused position, geometry in force and
waiting, fields waiting with ring and descriptor, tracks, births so far, the last frame instants of
the cameras, the pixels of the last projection of each pair. -/
structure Wve where
  srcs : List (Nat × WSrc)
  inbox : List WSamp
  epochAt : Nat
  epochs : Nat
  machine : L3
  implement : L3
  yaws : List (Int × Int)
  hist : List (L3 × L3)
  refs : List (Nat × (Int × Int × Int) × List (Option (Int × Int)))
  ready : Bool
  posAt : Nat
  geom : List Byte
  geomNext : Option (List Byte)
  fieldNext : List (Nat × Nat × List Byte)
  tracks : List (Nat × Option Trk)
  births : Nat
  frames : List (Nat × List Nat)
  proj : List (Nat × List (Int × Int))
  deriving DecidableEq, Repr

/-- Weave after reset. -/
def Wve.init : Wve :=
  ⟨[], [], 0, 0, L3.init, L3.init, [], [], [], false, 0, [], none, [], [], 0, [], []⟩

/-- A GNSS tracking channel (R319-R321): 1 pull-in, 2 code lock, 3 carrier lock; antenna, signal, satellite, C/N0, the
instant of lock, whether SLIP is to be marked, elevation. -/
structure Chan where
  state : Nat
  ant : Nat
  sig : Nat
  svid : Nat
  cn0 : Nat
  lockAt : Nat
  slip : Bool
  elev : Int
  deriving DecidableEq, Repr

/-- The GNSS unit beside its registers (R315-R329): channels, signals acquired and waiting for a channel, instants of the last
acquisitions, reacquisition jobs with their end, the last epoch, the last 16 epochs with their Doppler velocity, the
enabled signals in force, the injected set last accepted (its epoch, when, position, error, quality), whether the
standalone solution is delivered, its last delivery, notches in force and writes waiting, band groups with a changed notch,
where a jamming began and whether it was recorded, the end of a short of each antenna, the early-late spacing code in force. -/
structure Gns where
  chans : List (Nat × Option Chan)
  waiting : List (Nat × Nat × Nat)
  found : List Nat
  jobs : List (Nat × Nat × Nat × Nat)
  epochAt : Nat
  epochs : List (Nat × Int × Int × Int)
  sigen : Nat
  injEpoch : Option Nat
  injAt : Nat
  inj : List Int
  stale : Bool
  standAt : Nat
  notchOn : List (Nat × Nat)
  notchNext : List (Nat × Nat)
  notchChg : List Nat
  jam : List (Nat × Option (Nat × Bool))
  shorts : List (Nat × Option Nat)
  spacing : Nat
  deriving DecidableEq, Repr

/-- The GNSS unit after reset: no held data (R331). -/
def Gns.init : Gns := ⟨[], [], [], [], 0, [], 0x7FFF, none, 0, [], false, 0, [], [], [], [], [], 2⟩

/-- A source slot of an axis (R67-R73, R80): healthy, since when its reinstatement conditions have held, the last edges
or crossings newest first with the travel after each (2^-16 count), travel so far, the rate of a Weave or partner source
(2^-32 count per µs), the last edge, sample or update, illegal changes of the last 100 ms, when it became unhealthy,
since when the reference has run above the standstill rate, a loss that the partner reports. -/
structure ASrc where
  ok : Bool
  goodAt : Option Nat
  edges : List (Nat × Int)
  travel : Int
  rate : Int
  last : Option Nat
  illegal : List Nat
  badAt : Nat
  refAt : Option Nat
  lost : Bool
  deriving DecidableEq, Repr

/-- A slot that has delivered nothing. -/
def ASrc.init : ASrc := ⟨false, none, [], 0, 0, none, [], 0, none, false⟩

/-- An axis beside its registers (R62-R84): position at the last tick (2^-16 count), rate (2^-32 count per µs), that
instant, what the active slot's travel is added to, the residue of a MAINS axis's crossings once it has one (R70), the rate at
the last switch and the slot's travel then, entry into COAST, since when it has been slow, since when the cross-check fails, a
write of the active slot's scale waiting, the slots, the registers in force that a write changes at the next tick (R90), the rates at
the last 8 endpoint ticks, newest first (R104). -/
structure Axis where
  pos : Int
  rate : Int
  at_ : Nat
  base : Int
  res : Option Int
  rOld : Int
  sAt : Int
  coastAt : Nat
  slowAt : Option Nat
  xAt : Option Nat
  rescale : Bool
  slots : List (Nat × ASrc)
  words : List Word
  rates : List Int
  deriving DecidableEq, Repr

/-- An axis after reset: DISABLED. -/
def Axis.init : Axis := ⟨0, 0, 0, 0, none, 0, 0, 0, none, none, false, [], [], []⟩

/-- What waits for a position, an armed trigger or an accepted commit (R87, R134): the instant from which it counts as armed, whether it
waits to be judged for LATE, whether it is late, the instant at which it acts once that is known, the sign of the difference
when it was judged. -/
structure Cross where
  armedAt : Nat
  judge : Bool
  late : Bool
  at_ : Option Nat
  sign : Int
  deriving DecidableEq, Repr

/-- Stride beside its registers: axes, armed triggers, the last tick, the last snapshot: its µs counted from 1, whether a doorbell
and whether a trigger made it (R88). -/
structure Str where
  axes : List (Nat × Axis)
  trgs : List (Nat × Option Cross)
  tickAt : Nat
  snapUs : Nat × Bool × Bool
  deriving DecidableEq, Repr

/-- Stride after reset. -/
def Str.init : Str := ⟨[], [], 0, 0, false, false⟩

/-- A DIO point beside its registers (R249-R257): the endpoint that holds it, whether it keeps its level after a
release (R253), whether a released fault keeps it off until the next edge or command (R255), its level in HOLD, whether
its hold limit has acted (R256), the last changes of its debounced level with their instants, newest first (R68, R252). -/
structure DPt where
  holder : Option Nat
  kept : Bool
  off : Bool
  holdLvl : Bool
  ended : Bool
  edges : List (Nat × Bool)
  deriving DecidableEq, Repr

/-- A point after reset. -/
def DPt.init : DPt := ⟨none, false, false, false, false, []⟩

/-- The DIO units beside their registers: points, the instant each die entered HOLD. -/
structure Dio where
  pts : List (Nat × DPt)
  holdAt : List (Nat × Nat)
  silent : List (Nat × Bool)
  deriving DecidableEq, Repr

/-- The DIO units after reset. -/
def Dio.init : Dio := ⟨[], [], []⟩

/-- A load-switch channel beside its registers (R226-R245): the endpoint that holds it, that endpoint's rate command
(RDEST 0), the command of a Bridle destination, the duty kept after a release, the values latched at the last on-edge or retry (I_LIM, I_INR, T_INR,
RETRY, RSPACE), the instant that began (window), whether stage 1 took its inrush limit, the instant of the last latch; the start of a PWM
period and PWMF as latched, a duty that waits for the next period, an entry still in force until then (R230, R232). -/
structure LCh where
  holder : Option Nat
  rate : Option Nat
  dest : Option Nat
  kept : Option Nat
  iLim : Nat
  iInr : Nat
  tInr : Nat
  retry : Nat
  rspace : Nat
  startAt : Nat
  hot : Bool
  latchAt : Nat
  phase : Nat
  pwmf : Nat
  next : Option (Nat × Nat)
  old : Option (Nat × List Byte)
  deriving DecidableEq, Repr

/-- A channel after reset. -/
def LCh.init : LCh := ⟨none, none, none, none, 0, 0, 0, 0, 0, 0, false, 0, 0, 0, none, none⟩

/-- A cluster's thermal sensor (R240): the last sample and its instant. -/
structure Therm where
  last : Int
  at_ : Nat
  deriving DecidableEq, Repr

/-- The load-switch units beside their registers: channels, clusters, the supply faults in force at each die (1
loss of ground, 2 reverse battery, 4 supply below 5.0 V, added up, R245), the shed channels of each die most recent first
(0-47 load switches, 64-95 solenoids, local), the overloads in progress (4 × die + group, 16 + die) with the instant of the last
shedding, the instant of the last return of each group, the filtered supply of each group (2^-16 of 10 mV) and its last measurement
(R233). -/
structure Lsw where
  chs : List (Nat × LCh)
  cl : List (Nat × Therm)
  cut : List (Nat × Nat)
  shed : List (Nat × List Nat)
  ovl : List (Nat × Option Nat)
  back : List (Nat × Nat)
  vs : List (Nat × Option (Nat × Nat))
  deriving DecidableEq, Repr

/-- The load-switch units after reset. -/
def Lsw.init : Lsw := ⟨[], [], [], [], [], [], []⟩

/-- What a waveform has latched from its profile and entry (R208, R211). -/
structure Wave where
  prof : Nat
  ok : Bool
  bsten : Bool
  pkfeed : Bool
  tbmax : Nat
  decB : Nat
  decP : Nat
  decH : Nat
  dshape : Nat
  band : Nat
  ipeak : Nat
  tpeak : Nat
  amp : Nat
  freq : Nat
  chop : Nat
  deriving DecidableEq, Repr

/-- No waveform. -/
def Wave.init : Wave := ⟨0, true, false, false, 0, 0, 0, 0, 0, 0, 0, 0, 0, 0, 0⟩

/-- A solenoid channel beside its registers (R202-R222): the endpoint that holds it, that endpoint's rate command
(RDEST 0), the command of a Bridle destination, the command kept after a release, the waveform, its on-edge's te and
arrival, entry into the phase (and origin of the dither phase), tracked band, whether the band is reset at the next waveform, whether it
is shed, whether it is the odd half of a new pair whose own current still decays (R208). -/
structure SCh where
  holder : Option Nat
  rate : Option Nat
  dest : Option Nat
  kept : Option Nat
  wave : Wave
  te : Nat
  phaseAt : Nat
  beta : Nat
  betaNew : Bool
  shed : Bool
  parting : Bool
  deriving DecidableEq, Repr

/-- A channel after reset. -/
def SCh.init : SCh := ⟨none, none, none, none, Wave.init, 0, 0, 0, false, false, false⟩

/-- The solenoid units beside their registers: channels, the last band evaluation of each die, the converters that an overvoltage
keeps from switching (R204). -/
structure Sol where
  chs : List (Nat × SCh)
  bandAt : List (Nat × Nat)
  stopped : List (Nat × Bool)
  deriving DecidableEq, Repr

/-- The solenoid units after reset. -/
def Sol.init : Sol := ⟨[], [], []⟩

/-- Where an input of an endpoint comes from: a decision edge, step k of a slot of the active page (a pulse start at even
k, its end at odd k), a carried edge, an edge of the issue list that no page holds any more, pitch pulse i of a run, its end, an
alignment (R125) or a record of the partner (R457). -/
inductive EdgeSrc where
  | dec (id : Nat)
  | slot (s k : Nat)
  | carry (id : Nat)
  | old
  | pitch (run : Nat) (i : Int)
  | pend (run : Nat) (i : Int)
  | align
  deriving DecidableEq, Repr

/-- A placed input (R126): its source, ON or OFF, base (0 ODO, 1 AXIS, 2 TIME), where it acts (2^-16 count, or ns),
backward, latency-shifted. -/
structure Edge where
  src : EdgeSrc
  on : Bool
  base : Nat
  at_ : Int
  back : Bool
  lat : Bool
  deriving DecidableEq, Repr

/-- The pitch pulses of one stretch at level ON (R130): its number, the odometer and the instant at which the level becomes ON, the last
pulse placed, the last pulse whose end is not placed yet with its te, the record of its OFF edge with its te. -/
structure PRun where
  id : Nat
  base : Int
  on : Nat
  idx : Int
  open_ : Option (Int × Nat)
  off : Option (Nat × Nat)
  deriving DecidableEq, Repr

/-- An endpoint beside its entry (R94-R117, R123-R131, R163-R173): processed since reset; state and cause; the entry in
force; whether a doorbell has covered it, or found it torn; odometer (2^-16
count), bound axis position and heading of the last tick; own rate (2^-32 count per µs),
acceleration per tick; look-aheads; rate command, the one its node has, last prescription value, last sample; consistent ticks, since when
they suffice, CWAIT over; level emitted, pulse output; NOHDG, CLAMPED; decision level, gate, held decision edges with
their te; override (1 OFF, 2 ON); alignment due; planned level, frontier, whether its first step is still to be judged,
whether PL has changed since the last walk, whether the solution was beyond its limits, since when tiles miss, LAYER_ERR recorded; the last footprint in the field; whether it delivers, changes of delivery to
come; pitch pulses: stretches at level ON in order, whether they run; index of the last sample. -/
structure Ep where
  used : Bool
  state : Nat
  cause : Nat
  cfg : List (BitVec 8)
  fresh : Bool
  torn : Bool
  odo : Int
  axPos : Int
  hdg : Option Int
  rate : Int
  acc : Int
  laOn : Int
  laOff : Int
  rcmd : Nat
  sent : Nat
  rx : Nat
  val : Nat
  cons : Nat
  readyAt : Option Nat
  go : Bool
  level : Bool
  out : Bool
  nohdg : Bool
  clamped : Bool
  decLvl : Bool
  gate : Bool
  decs : List (Edge × Option Nat)
  ovr : Nat
  align : Bool
  pl : Bool
  front : Option Int
  first : Bool
  moved : Bool
  offRow : Bool
  missAt : Option Nat
  lerr : Bool
  foot : Option (Int × Int × Int × Int)
  delivers : Bool
  dlv : List (Nat × Bool)
  pRuns : List PRun
  pRun : Bool
  sIdx : Int
  deriving DecidableEq, Repr

/-- An endpoint after reset: OUT with cause RESET (R117). -/
def Ep.init : Ep :=
  { used := false, state := 0, cause := 9, cfg := [], fresh := false, torn := false, odo := 0, axPos := 0
    hdg := none, rate := 0, acc := 0, laOn := 0, laOff := 0, rcmd := 0, sent := 0, rx := 0, val := 0, cons := 0
    readyAt := none, go := false, level := false, out := false, nohdg := false, clamped := false, decLvl := false
    gate := false, decs := [], ovr := 0, align := false, pl := false, front := none, first := false, moved := false, offRow := false, missAt := none
    lerr := false, foot := none, delivers := false, dlv := [], pRuns := [], pRun := false, sIdx := 0 }

/-- The endpoint unit beside its registers: endpoints, the last tick, the N in force and whether EN was set by then,
commands started and waiting for the tick (ring, descriptor index, opcode, first, count, address), the entry cache most
recently used first. -/
structure Ept where
  eps : List (Nat × Ep)
  tickAt : Nat
  n : Nat
  jobs : List (Nat × Nat × Nat × Nat × Nat × Nat)
  cache : List Nat
  deriving DecidableEq, Repr

/-- The endpoint unit after reset. -/
def Ept.init : Ept := ⟨[], 0, 0, [], []⟩

/-- A slot of an active page as it runs: whether it has been judged evaluable, AT as a whole position or time, the starts and the
ends that have acted. -/
structure SRun where
  seen : Bool
  at0 : Int
  starts : Nat
  ends : Nat
  deriving DecidableEq, Repr

/-- A slot that has not become evaluable. -/
def SRun.init : SRun := ⟨false, 0, 0, 0⟩

/-- A carried edge (R136): its number, cluster, endpoint, slot, edge, te. -/
structure Carry where
  id : Nat
  cl : Nat
  ep : Nat
  slot : Nat
  edge : Edge
  te : Option Nat
  deriving DecidableEq, Repr

/-- An armed input (R127): endpoint, edge, the instant it acts. -/
structure Armed where
  ep : Nat
  edge : Edge
  at_ : Nat
  deriving DecidableEq, Repr

/-- A record of the issue list (R140, R141): endpoint, bus (0-11 CAN, 12-13 T1S), node, SEQ, REV, edge, level, rate, the ACT
last sent (MTB, ns), transmissions still due, the last transmission, whether ACT has passed, whether it is withdrawn. -/
structure Issue where
  ep : Nat
  bus : Nat
  node : Nat
  seq : Nat
  rev : Nat
  edge : Edge
  level : Bool
  rate : Nat
  act : Nat
  left : Nat
  sentAt : Nat
  fired : Bool
  gone : Bool
  deriving DecidableEq, Repr

/-- A field node (R144): an NSTATUS seen, its TIME_OK and FAULT, healthy, healthy before, its last SEQ and TSEQ, the last
NSTATUS with TIME_OK, the next SEQ. -/
structure Node where
  seen : Bool
  timeOk : Bool
  fault : Bool
  healthy : Bool
  ever : Bool
  lastSeq : Nat
  lastT : Nat
  okAt : Option Nat
  next : Nat
  deriving DecidableEq, Repr

/-- A node not heard of. -/
def Node.init : Node := ⟨false, false, false, false, false, 0, 0, none, 0⟩

/-- A remote payload waiting for its bus (R138, R139): bus, node (255 all), TYPE, the bytes after the header, ahead of the
others. -/
structure OutRec where
  bus : Nat
  node : Nat
  type : Nat
  body : List (BitVec 8)
  imm : Bool
  deriving DecidableEq, Repr

/-- A pending commit (R133, R134): clusters, point, BASE, AXIS, DIRN, its way to the point. -/
structure Commit where
  cls : List Nat
  point : Nat
  base : Nat
  axis : Nat
  dirn : Nat
  cross : Cross
  deriving DecidableEq, Repr

/-- The slot engine beside its registers: slots of the active pages (64 × cluster + slot), carried edges, armed inputs, the
inputs of pending pages armed conditionally (R135), the issue list, nodes (256 × bus + node), payloads waiting for their bus, pending commits in order of acceptance, the last
TSYNC, the next TSEQ, buses whose TFOLLOW is due with its TSEQ, buses that have sent a TFOLLOW, the next edge number. -/
structure Slt where
  runs : List (Nat × SRun)
  carries : List Carry
  armed : List Armed
  cond : List Armed
  issue : List Issue
  nodes : List (Nat × Node)
  out : List OutRec
  commits : List Commit
  tsyncAt : Nat
  tseq : Nat
  follow : List (Nat × Nat)
  followed : List Nat
  nextId : Nat
  deriving DecidableEq, Repr

/-- The slot engine after reset. -/
def Slt.init : Slt := ⟨[], [], [], [], [], [], [], [], 0, 0, [], [], 1⟩

/-- A frame of the tile cache (R159): layer, directory index, DRAM address of the tile, dirty, the tick of its last use. -/
structure Tile where
  layer : Nat
  idx : Nat
  addr : Nat
  dirty : Bool
  lru : Nat
  deriving DecidableEq, Repr

/-- The coverage engine beside its registers: the loaded field descriptor, frames of the cache, marks that wait for their
tile (layer, directory index, cell), tiles whose fetch was denied, the last write-back, whether the next tick is the first after a field
change, and after a FIELD_SET,
FIELD_LOADs that wait for the tick (ring, descriptor index, address), whether the empty pool has been recorded. -/
structure Cov where
  desc : List (BitVec 8)
  frames : List (Nat × Option Tile)
  marks : List (Nat × Nat × Nat)
  denied : List (Nat × Nat)
  wbAt : Nat
  changed : Bool
  moved : Bool
  loads : List (Nat × Nat × Nat)
  empty : Bool
  deriving DecidableEq, Repr

/-- The coverage engine after reset: no field, an empty cache. -/
def Cov.init : Cov := ⟨[], [], [], [], 0, false, false, [], false⟩

/-- A sample of an axis-clocked loop that is due (R182): its instant, whether it was deferred, the position at it once the axis'
line has reached it. -/
structure LDue where
  at_ : Nat
  fast : Bool
  pos : Option Int
  deriving DecidableEq, Repr

/-- A Bridle loop beside its entry (R181-R197); values are binary32 bits. Whether it is not OFF; whether its first sample is
to come; the next instant of a TIME loop, the last sample, the axis position of the last sample (2^-16 count), the axis
condition it last acted on (0 runs, 1 LOST, 2 DISABLED), the samples noted as due; pvf, spr, d, x_prev, integrator,
output, value last sent, the destination value it comes to, error; active and scheduled zone; the manual value; a transfer due; a promotion pending; lost at
the last sample, slewed at it, PV or SP invalid at it; active coefficients (zone by zone KP, KI, KD, KFF); value at
detection; commands waiting (opcode, argument); reversals in the window (by number of the counted sample), sign of the
last error, whether it has exceeded OSC_BAND since the last reversal, samples counted; saturated high, saturated
low at the last sample; coefficients applied since the last reset that cleared them. -/
structure BLoop where
  on : Bool
  first : Bool
  nextAt : Nat
  startAt : Nat
  lastAt : Option Nat
  pos : Int
  axc : Nat
  dues : List LDue
  pvf : Nat
  spr : Nat
  d : Nat
  xprev : Nat
  i : Nat
  u : Nat
  last : Nat
  cmd : Option Nat
  err : Nat
  state : Nat
  zone : Nat
  z : Nat
  manual : Option Nat
  xfer : Bool
  apply_ : Bool
  losing : Bool
  slewed : Bool
  pvbad : Bool
  coef : List Nat
  frz : Nat
  cmds : List (Nat × Nat)
  revs : List Nat
  sign : Int
  wide : Bool
  cnt : Nat
  satHi : Bool
  satLo : Bool
  armed : Bool
  deriving DecidableEq, Repr

/-- A loop after reset: OFF. -/
def BLoop.init : BLoop :=
  { on := false, first := true, nextAt := 0, startAt := 0, lastAt := none, pos := 0, axc := 0, dues := [], pvf := 0, spr := 0
    d := 0, xprev := 0, i := 0, u := 0, last := 0, cmd := none, err := 0, state := 0, zone := 0, z := 0, manual := none, xfer := false
    apply_ := false, losing := false, slewed := false, pvbad := false, coef := [], frz := 0, cmds := [], revs := []
    sign := 0, wide := false, cnt := 0, satHi := false, satLo := false, armed := false }

/-- Bridle beside its registers: loops, what each group last sent and when, software values that are fresh and when each was
written. -/
structure Brd where
  loops : List (Nat × BLoop)
  gsent : List (Nat × Option (Nat × Nat))
  sw : List (Nat × Option (Nat × Bool))
  deriving DecidableEq, Repr

/-- Bridle after reset. -/
def Brd.init : Brd := ⟨[], [], []⟩

/-- An entry of the cut trace (R359): instant; pose (east, north in mm, heading in µrad) or NOPOSE; axis position (2^-16
count); FIELD_ID; cutting bits of cut endpoints 0 to 3; the CFE0 value where it is valid; whether a FIELD_SET has taken
effect since. -/
structure Cut where
  inst : Nat
  pose : Option (Int × Int × Int)
  pos : Int
  field : Nat
  mask : Nat
  qc : Option Nat
  stale : Bool
  deriving DecidableEq, Repr

/-- The sums of a sample period (R358): its end, mass in 2^-4 µg, OK results and all results of the flow input, moisture in
10^-6 % over its OK results, loss counts of LOSS0 and LOSS1. -/
structure YPer where
  tend : Nat
  mass : Int
  ok : Nat
  all : Nat
  moist : Int
  mok : Nat
  loss0 : Nat
  loss1 : Nat
  deriving DecidableEq, Repr

/-- Empty sums. -/
def YPer.init : YPer := ⟨0, 0, 0, 0, 0, 0, 0, 0⟩

/-- The harvest unit beside its registers: the last loss update, trace entry and period end; filtered losses and flows
(binary32), with the stamp of the last valid flow; the sums of the running period, pulse counts at its start, periods
closed whose record is to come; the trace, newest first; the delay in force (ms) and the last cut instant (ns); whether
the empty pool has been recorded. -/
structure Yld where
  lossAt : Nat
  traceAt : Nat
  perAt : Nat
  loss : List (Nat × Nat)
  cfe : List (Nat × Option (Nat × Nat))
  cur : YPer
  cnts : List (Nat × Nat)
  closed : List YPer
  trace : List Cut
  delay : Option Nat
  cut : Option Int
  empty : Bool
  deriving DecidableEq, Repr

/-- The harvest unit after reset. -/
def Yld.init : Yld := ⟨0, 0, 0, [], [], YPer.init, [], [], [], none, none, false⟩

/-- A parameter set of a camera (R392): tag, exposure in lines, analogue and digital gain. -/
structure ParamSet where
  tag : Nat
  exp : Nat
  again : Nat
  dgain : Nat
  deriving DecidableEq, Repr

/-- A frame of a camera (R394, R395, R403): number, instants of FS and FE, the sets whose exposure and whose gains are in
effect, PIPETAG, lines received up to H, bits 0 to 5 of its flags (Table 17-4); the stripes started and the pipeline that
holds it. -/
structure CamFrm where
  fnum : Nat
  fsAt : Nat
  feAt : Nat
  expo : ParamSet
  gain : ParamSet
  ptag : Nat
  lines : Nat
  flags : Nat
  stripes : Nat
  pipe : Option Nat
  deriving DecidableEq, Repr

/-- A camera beside its registers (R388-R396): link trained, FS seen since EN and the instants of the last 5; the set
submitted whose group has not started, the set being written with the instant it ends, sets written whose frame N is to
come, changes of exposure and of gains to come by frame, the sets in effect; the transaction running and whether it reads (R391); the open
frame, whole frames that wait for or are in processing, oldest first, frames written to the raw ring. -/
structure Cam where
  trained : Bool
  fsN : Nat
  fs : List Nat
  submitted : Option ParamSet
  group : Option (ParamSet × Nat)
  written : List ParamSet
  expDue : List (Nat × ParamSet)
  gainDue : List (Nat × ParamSet)
  expo : ParamSet
  gain : ParamSet
  cci : Bool
  cciRd : Bool
  opened : Option CamFrm
  raw : List CamFrm
  rawN : Nat
  deriving DecidableEq, Repr

/-- No parameter set. -/
def ParamSet.none : ParamSet := ⟨0, 0, 0, 0⟩

/-- A camera after reset. -/
def Cam.init : Cam := ⟨false, 0, [], none, none, [], [], [], ParamSet.none, ParamSet.none, false, false, none, [], 0⟩

/-- A context (R398): the tag and bytes of the block in force, the tag and address of one to apply. -/
structure Ctx where
  tag : Nat
  block : List (BitVec 8)
  next : Option (Nat × Nat)
  deriving DecidableEq, Repr

/-- A context after reset. -/
def Ctx.init : Ctx := ⟨0, [], none⟩

/-- An access unit's source or rest (R405): instant, tags, IDR, the bytes not yet written and whether some are. -/
structure Au where
  inst : Nat
  etag : Nat
  ptag : Nat
  idr : Bool
  rest : List (BitVec 8)
  cont : Bool
  deriving DecidableEq, Repr

/-- An encoder stream (R404, R405): frames waiting (arrival, instant, EXPTAG, PIPETAG), the arrivals of the last two, an IDR
due, coded frames since the last IDR, an access unit not wholly written. -/
structure Enc where
  queue : List (Nat × Nat × Nat × Nat)
  seen : List Nat
  idr : Bool
  since : Nat
  part : Option Au
  deriving DecidableEq, Repr

/-- A stream after reset: it begins with an IDR. -/
def Enc.init : Enc := ⟨[], [], true, 0, none⟩

/-- A pipeline in context mode (R397): the camera whose frame it holds, the context it last ran, when it is ready. -/
structure Pipe where
  cam : Option Nat
  ctx : Option Nat
  readyAt : Nat
  deriving DecidableEq, Repr

/-- A free pipeline. -/
def Pipe.init : Pipe := ⟨none, none, 0⟩

/-- The image unit beside its registers. -/
structure Img where
  cams : List (Nat × Cam)
  ctxs : List (Nat × Ctx)
  encs : List (Nat × Enc)
  pipes : List (Nat × Pipe)
  deriving DecidableEq, Repr

/-- The image unit after reset. -/
def Img.init : Img := ⟨[], [], [], []⟩

/-- A frame a panel takes from its queue (R411): ring, descriptor index, address, stride. -/
structure PFrame where
  ring : Nat
  didx : Nat
  addr : Nat
  stride : Nat
  deriving DecidableEq, Repr

/-- A panel beside its registers (R410-R419): the power sequence latched at power-up (DSP_HTIM, VTIM, SYNC, PORCH, PCLK,
RAIL, RAIL1, SEQT, SEQT1); rails switched on, in the order AVDD, VGL, VGH, VCOM; when the last was switched, and when it
was up or down; a black frame of DOWN to come, since when; a power-up after DOWN, a write of PWR in FAULT, a reset that
waits for DOWN; when frames began, index of the last frame start, whether the next frame is not overdriven; the frame on
display, frames that complete at the next frame start, those held until another is scanned
out; VCOM latched; the components driven, left to right, top to bottom; when the backlight's PWM began, its duty before a
change, and the period from which DSP_BL's DUTY acts (R418). -/
structure Panel where
  cfg : List (BitVec 32)
  rails : Nat
  swAt : Nat
  settled : Option Nat
  black : Option Nat
  again : Bool
  noted : Bool
  rst : Bool
  t0 : Nat
  k : Nat
  first : Bool
  cur : Option PFrame
  held : List PFrame
  done : List PFrame
  vcom : Nat
  out : List Nat
  onAt : Nat
  duty : Nat
  dutyAt : Nat
  deriving DecidableEq, Repr

/-- A panel after reset: off. -/
def Panel.init : Panel :=
  { cfg := [], rails := 0, swAt := 0, settled := none, black := none, again := false, noted := false, rst := false, t0 := 0
    k := 0, first := false, cur := none, held := [], done := [], vcom := 0, out := [], onAt := 0, duty := 0, dutyAt := 0 }

/-- The display unit beside its registers: its panels. -/
structure Dsp where
  panels : List (Nat × Panel)
  deriving DecidableEq, Repr

/-- The display unit after reset. -/
def Dsp.init : Dsp := ⟨[]⟩

/-- A CAN frame: ID word as ARG0 of R425, DLC, its data, ONESHOT. -/
structure CanF where
  idw : Nat
  dlc : Nat
  data : List (BitVec 8)
  once : Bool
  deriving DecidableEq, Repr

/-- A received frame that a mailbox's shadow holds (R428): ID word, CTL without NEW, OVR and LOCKED, data, stamp. -/
structure MbF where
  idw : Nat
  ctl : Nat
  data : List (BitVec 8)
  ts : Nat
  deriving DecidableEq, Repr

/-- A transport session (R435): sender, ETP, BAM, PGN, priority, size; the packet expected, the last of the window, the
offset of the window's packets; data so far; its buffer (ring, descriptor index, address); its deadline. -/
structure TpS where
  src : Nat
  etp : Bool
  bam : Bool
  pgn : Nat
  prio : Nat
  size : Nat
  next : Nat
  last : Nat
  off : Option Nat
  data : List (BitVec 8)
  ring : Nat
  didx : Nat
  addr : Nat
  due : Nat
  deriving DecidableEq, Repr

/-- A CAN controller beside its registers: the transmit descriptor taken (ring, index, frame); frames of the assists to send;
the frame on the bus with its source (0 to 2 TXB, 3 the transmit ring, 4 the slot engine, 5 the assists) and, of the slot
engine, its payloads; whether the frame is not to be retried; shadows of the mailboxes; good frames in LISTEN, the last bus
activity; when a claim is to be sent, when the last was sent, addresses seen claimed; transport sessions. -/
structure CanU where
  host : Option (Nat × Nat × CanF)
  own : List CanF
  bus : Option (Nat × CanF × List OutRec)
  stop : Bool
  shadows : List (Nat × Option MbF)
  good : Nat
  idleAt : Nat
  claimDue : Option Nat
  claimAt : Option Nat
  seen : List Nat
  tps : List TpS
  deriving DecidableEq, Repr

/-- A controller after reset. -/
def CanU.init : CanU := ⟨none, [], none, false, [], 0, 0, none, none, [], []⟩

/-- A frame in a T1S port's egress queues (R437, R438): class, frame, the descriptor it came with (ring, index, TSREQ). -/
structure EthQ where
  cls : Nat
  frame : List (BitVec 8)
  desc : Option (Nat × Nat × Bool)
  deriving DecidableEq, Repr

/-- The Ethernet unit beside its registers (R436-R440): the forwarding table (address, VID, port, last use), the egress queues
of the T1S ports, the last frame each port sent. -/
structure Eth where
  fdb : List (Nat × Nat × Nat × Nat)
  queues : List (Nat × List EthQ)
  sent : List (Nat × List (BitVec 8))
  deriving DecidableEq, Repr

/-- The buses: CAN controllers and Ethernet. -/
structure Net where
  cans : List (Nat × CanU)
  eth : Eth
  deriving DecidableEq, Repr

/-- The buses after reset. -/
def Net.init : Net := ⟨[], ⟨[], [], []⟩⟩

/-- The Tandem unit beside its registers (R445-R466): when EN was set; whether a partner has been heard since, whether the
pair is formed on this link; the last retraining; the partner's heartbeat lost, a STANDBY that could not take over; the
TDM_HBO line and the last multiple it toggled at; the partner's READY and TERM; a JOIN waiting for the stride tick, mirroring,
since when READY may come; endpoints due to re-enter REJOIN, the partner's odometers (2^-16 count); the partner's axis
positions (2^-16 count); entry to PENDING or a handover request: instant, axis position there, whether it is a handover; the
measured MTB of the partner minus own, its rate; edges held for SPLIT channels (class, channel, level, command, own te); SENDs
whose answer is to come (ring, descriptor index); the instant of the JOIN; the partner's last heartbeat; the last link measurement; the
rate of pair time against own MTB and the instant at which TDM_PTOFS was measured. Rates are in 10^-12. -/
structure Tdm where
  enAt : Nat
  heard : Bool
  formed : Bool
  retryAt : Nat
  lost : Bool
  orphan : Bool
  hbo : Bool
  hbAt : Nat
  pReady : Bool
  pTerm : Nat
  joinDue : Bool
  mirror : Bool
  cleanAt : Nat
  rejoin : Bool
  odos : List (Nat × Int)
  ppos : List (Nat × Int)
  tk : Option (Nat × Int × Bool)
  ofs : Int
  rate : Int
  splits : List (Nat × Nat × Bool × Option Nat × Nat)
  sends : List (Nat × Nat)
  joinAt : Nat
  hbSeen : Nat
  measAt : Nat
  pRate : Int
  pAt : Nat
  deriving DecidableEq, Repr

/-- The Tandem unit after reset: OFF. -/
def Tdm.init : Tdm :=
  { enAt := 0, heard := false, formed := false, retryAt := 0, lost := false, orphan := false, hbo := false, hbAt := 0
    pReady := false, pTerm := 0, joinDue := false, mirror := false, cleanAt := 0, rejoin := false, odos := [], ppos := []
    tk := none, ofs := 0, rate := 0, splits := [], sends := [], joinAt := 0, hbSeen := 0, measAt := 0, pRate := 0, pAt := 0 }

/-- A watchdog's count (R513): since when it runs, the instant it stopped counting, whether its warning is out. -/
structure Wd where
  since : Nat
  stop : Option Nat
  warned : Bool
  deriving DecidableEq, Repr

/-- The count of a watchdog that is not armed. -/
def Wd.init : Wd := ⟨0, none, false⟩

/-- The power unit beside its registers (R499-R526): whether the C-die heartbeat runs and when it last stopped; the MOD or
stronger reset whose sequence is in progress, whether its release ends a low supply, whether it is a wake, whether the DIO units
hold through it; a requested TRIM; the state an entry leads to, the last request of an entry, its last step; wake sources held; the watchdogs; the debug port's test; a DEAD APP in its recovery entry; the start of the bandwidth window; the µs and cause
(DOORBELL, address of the record) of the last PMU snapshot; the latched PMU_CNT_HIn; MIRRORED outputs that a reset found masked (class, channel); whether
the reload of table 0 sends remote endpoints to their safe states. -/
structure Pwr where
  hb : Bool
  hbAt : Nat
  seq : Option ResetKind
  lowExit : Bool
  wake : Bool
  dio : Bool
  reqTrim : Bool
  entry : Option Nat
  since : Nat
  offAt : Nat
  held : Nat
  wd0 : Wd
  wd1 : Wd
  test : Bool
  recov : Bool
  bwAt : Nat
  snap : Option (Nat × Bool × Option Nat)
  latch : List (Nat × Nat)
  hiz : List (Nat × Nat)
  imm : Bool
  deriving DecidableEq, Repr

/-- The power unit after the AON release that ends a POR: its sequence goes on to the reset release (R511). -/
def Pwr.init : Pwr where
  hb := false
  hbAt := 0
  seq := some .por
  lowExit := false
  wake := false
  dio := false
  reqTrim := false
  entry := none
  since := 0
  offAt := 0
  held := 0
  wd0 := Wd.init
  wd1 := Wd.init
  test := false
  recov := false
  bwAt := 0
  snap := none
  latch := []
  hiz := []
  imm := false

end Sys2Proof.Machine
end

