-- ==== Sys2Proof/Machine/State.lean ====
section
/-! DEFINITION. The state of the module, its reset, and the reasons a command can stop. -/

namespace Sys2Proof.Machine

/-- Why the model stops with a fault. -/
inductive Fault where
  /-- A command whose operands do not fit together (WellFormed); raised by the meaning of that command. Safe: the
  hardware cannot be given such a command. -/
  | illFormed (what : String)
  deriving DecidableEq, Repr

/-- Why the model refuses a command. -/
inductive Refusal where
  /-- No meaning yet; raised only by a dispatch arm. Safe. -/
  | notModelled (mnemonic : String)
  deriving DecidableEq, Repr

/-- The state of the module. `regs` holds every register field of the register maps at its address (an unlisted
register holds its reset value, resetOf); `mem` every byte of DRAM and bulk SRAM (an unlisted byte reads 0, log
entry 4). `now` is the MTB in ns (R335). `pending` is the queue of commands, first in first out. `rdata` is what the
last read command returned and `freeSeq` numbers the free values: both are the model's own. -/
structure State where
  regs : List (Nat × BitVec 32)
  mem : List (Nat × BitVec 8)
  part : Part
  pending : List Instr
  rdata : BitVec 32
  freeSeq : Nat
  now : Nat
  rings : List (Nat × Ring)
  routes : List (Nat × Nat)
  tableJobs : List TableJob
  entries : List (Nat × List (BitVec 8))
  rein : List (Nat × Rein)
  evr : Evr
  outBufs : List (Nat × Option OutBuf)
  tim : Tim
  upd : Upd
  afe : Afe
  wve : Wve
  gns : Gns
  str : Str
  dio : Dio
  lsw : Lsw
  sol : Sol
  ept : Ept
  slt : Slt
  cov : Cov
  brd : Brd
  yld : Yld
  img : Img
  dsp : Dsp
  net : Net
  tdm : Tdm
  pwr : Pwr
  deriving DecidableEq, Repr

/-- The part the model starts as (log entry 3): code F, stepping B0, serial 0, four keys, side A. -/
def Part.reset : Part := ⟨.f, 0x20, 0, 0xF, false⟩

/-- The module after the AON release that ends a POR (R517, Table 23-8 step 1): every register at its reset value,
no byte listed, the MTB at 0, no command waiting. -/
def State.reset : State where
  regs := []
  mem := []
  part := Part.reset
  pending := []
  rdata := 0
  freeSeq := 0
  now := 0
  rings := []
  routes := []
  tableJobs := []
  entries := []
  rein := []
  evr := Evr.init
  outBufs := []
  tim := Tim.init
  upd := ⟨[], []⟩
  afe := Afe.init
  wve := Wve.init
  gns := Gns.init
  str := Str.init
  dio := Dio.init
  lsw := Lsw.init
  sol := Sol.init
  ept := Ept.init
  slt := Slt.init
  cov := Cov.init
  brd := Brd.init
  yld := Yld.init
  img := Img.init
  dsp := Dsp.init
  net := Net.init
  tdm := Tdm.init
  pwr := Pwr.init

end Sys2Proof.Machine
end

