-- ==== Sys2Proof/Machine/Ops.lean ====
section
/-! DEFINITION. The operations every unit shares: registers and their fields, memory, interrupts, module and calendar
time, the recording of an event, free values, and the access tables that stand before memory and registers. -/

namespace Sys2Proof.Machine

/-! ### Registers -/

/-- The word of a register. -/
def State.reg (s : State) (a : Nat) : Word := SMap.get resetOf s.regs a

/-- Set the word of a register. -/
def State.setReg (s : State) (a : Nat) (w : Word) : State := { s with regs := SMap.set resetOf s.regs a w }

/-- The value of a register field, unsigned. -/
def State.fld (s : State) (f : Fld) : Nat := f.get (s.reg f.addr)

/-- The value of a signed register field (R10). -/
def State.fldInt (s : State) (f : Fld) : Int := f.getInt (s.reg f.addr)

/-- Whether a one-bit field is set. -/
def State.flag (s : State) (f : Fld) : Bool := decide (s.fld f = 1)

/-- Set a register field, the value cut to its width. -/
def State.setFld (s : State) (f : Fld) (v : Nat) : State := s.setReg f.addr (f.put (s.reg f.addr) v)

/-- Set a field to the two's complement of an integer. -/
def State.setInt (s : State) (f : Fld) (v : Int) : State := s.setFld f (toBits (f.hi + 1 - f.lo) v)

/-- Set or clear a one-bit field. -/
def State.setBit (s : State) (f : Fld) (b : Bool) : State := s.setFld f (if b then 1 else 0)

/-- Add to a counter field, saturating at its width. -/
def State.bump (s : State) (f : Fld) (n : Nat := 1) : State :=
  s.setFld f (min (s.fld f + n) (2 ^ (f.hi + 1 - f.lo) - 1))

/-- The signed 64-bit value of a LO and HI register pair (R10). -/
def State.reg64 (s : State) (lo hi : Nat) : Nat := (s.reg lo).toNat + (s.reg hi).toNat * 2 ^ 32

/-- Write a 64-bit value to a LO and HI register pair. -/
def State.setReg64 (s : State) (lo hi : Nat) (v : Nat) : State :=
  (s.setReg lo (BitVec.ofNat 32 v)).setReg hi (BitVec.ofNat 32 (v / 2 ^ 32))

/-! ### Interrupts (R41) -/

/-- Make an interrupt source pending. -/
def State.pend (s : State) (src : Nat) : State :=
  let a := R.RNG_INT_PEND (src / 32)
  s.setReg a (s.reg a ||| BitVec.ofNat 32 (2 ^ (src % 32)))

/-- Whether an interrupt source is pending. -/
def State.isPending (s : State) (src : Nat) : Bool :=
  (s.reg (R.RNG_INT_PEND (src / 32))).toNat / 2 ^ (src % 32) % 2 = 1

/-- Whether an interrupt source is delivered: pending and enabled (R41). -/
def State.isDelivered (s : State) (src : Nat) : Bool :=
  s.isPending src && (s.reg (R.RNG_INT_EN (src / 32))).toNat / 2 ^ (src % 32) % 2 = 1

/-- Set a status flag; a flag that sets raises its unit's interrupt (log entry 10). -/
def State.raiseFlag (s : State) (f : Fld) (irq : Nat) : State :=
  if s.flag f then s else (s.setFld f 1).pend irq

/-- Set a channel's flag and the flag of the same name that gathers it in the unit's status. -/
def State.raiseBoth (s : State) (ch unit : Fld) (irq : Nat) : State := (s.setFld ch 1).raiseFlag unit irq

/-! ### Memory (R49) -/

/-- The target of an address (Table 2-8): DRAM0, DRAM1, SRAM0-SRAM11, the register windows. -/
def targetOf (a : Nat) : Option Nat :=
  if 0x0800000000 ≤ a ∧ a < 0x0A00000000 then some 0
  else if 0x0A00000000 ≤ a ∧ a < 0x0C00000000 then some 1
  else if 0x20000000 ≤ a ∧ a < 0x23000000 then some (2 + (a - 0x20000000) / 0x400000)
  else if 0x40000000 ≤ a ∧ a < 0x41000000 then some 17
  else none

/-- Whether an address is a byte of DRAM or bulk SRAM. -/
def isMemory (a : Nat) : Bool :=
  match targetOf a with
  | some t => t < 14
  | none => false

/-- What an unlisted byte reads as (log entry 4). -/
def memDefault (_ : Nat) : Byte := 0

/-- One byte of memory. -/
def State.byte (s : State) (a : Nat) : Byte := SMap.get memDefault s.mem a

/-- Store one byte; an address that is no memory stores nothing (R543). -/
def State.setByte (s : State) (a : Nat) (b : Byte) : State :=
  if isMemory a then { s with mem := SMap.set memDefault s.mem a b } else s

/-- Bytes of memory from an address upward. -/
def State.bytes (s : State) (a n : Nat) : List Byte := (List.range n).map (fun i => s.byte (a + i))

/-- Store bytes from an address upward. -/
def State.setBytes (s : State) (a : Nat) : List Byte → State
  | [] => s
  | b :: bs => State.setBytes (s.setByte a b) (a + 1) bs

/-- The number a byte list stands for, least significant byte first (R10). -/
def leNat : List Byte → Nat
  | [] => 0
  | b :: bs => b.toNat + 256 * leNat bs

/-- The n bytes of a number, least significant first (R10). -/
def leBytes : Nat → Nat → List Byte
  | 0, _ => []
  | n + 1, v => BitVec.ofNat 8 v :: leBytes n (v / 256)

/-- A little-endian number of n bytes in memory. -/
def State.mem32 (s : State) (a : Nat) : Nat := leNat (s.bytes a 4)

/-- Bits hi..lo of a number. -/
def bitsOf (v hi lo : Nat) : Nat := v / 2 ^ lo % 2 ^ (hi + 1 - lo)

/-- A little-endian field of a byte list: n bytes from an offset. -/
def field (bs : List Byte) (off n : Nat) : Nat := leNat ((bs.drop off).take n)

/-- A signed little-endian field of a byte list (R10). -/
def fieldInt (bs : List Byte) (off n : Nat) : Int := sext (8 * n) (field bs off n)

/-! ### Time (R335-R338) -/

/-- Whether a time given in ns has passed since an instant. -/
def State.elapsed (s : State) (t0 : Nat) (ns : Nat) : Bool := t0 + ns ≤ s.now

/-- The short timestamp: MTB bits [31:0] (R336). -/
def State.short (s : State) : Nat := s.now % 2 ^ 32

/-- The instant a short timestamp of the past stands for (R336). -/
def State.fromShort (s : State) (ts : Nat) : Nat := s.now - (s.short + (2 ^ 32 - ts % 2 ^ 32)) % 2 ^ 32

/-- Whether an instant of a grid has been reached since the last one taken. -/
def State.due (s : State) (last per : Nat) : Bool := decide ((last / per + 1) * per ≤ s.now)

/-- Whether reported time is FREE (R337). -/
def State.timeFree (s : State) : Bool := s.fld F.TIM_STATE_STATE = 0

/-- Reported time in ns: MTB + OFS, 0 in FREE (R337). OFS is held in 2^-40 ns (log entry 11). -/
def State.rt (s : State) : Nat := if s.timeFree then 0 else ((s.now : Int) + s.tim.ofs / 2 ^ 40).toNat

/-- The 64-bit calendar stamp of a reported time: seconds in [63:30], nanoseconds in [29:0] (R338). -/
def calOf (rt : Nat) : Nat := rt / 1000000000 % 2 ^ 34 * 2 ^ 30 + rt % 1000000000

/-- The calendar stamp of this instant (R338). -/
def State.stamp (s : State) : Nat := calOf s.rt

/-- Whole seconds of a calendar stamp. -/
def stampSec (x : Nat) : Nat := x / 2 ^ 30

/-! ### Free values (log entry 8) -/

/-- The next free value, and the state after drawing it. -/
def State.draw (s : State) : BitVec 64 × State := (Config.freeValue s.freeSeq, { s with freeSeq := s.freeSeq + 1 })

/-- Draw a free value of n bits. -/
def State.drawNat (s : State) (n : Nat) : Nat × State := ((Config.freeValue s.freeSeq).toNat % 2 ^ n, { s with freeSeq := s.freeSeq + 1 })

/-! ### Events (R486-R490) -/

/-- A number as one argument word of an event. -/
def w32 (n : Nat) : Word := BitVec.ofNat 32 n

/-- A signed number as one argument word (R487). -/
def wInt (x : Int) : Word := BitVec.ofInt 32 x

/-- A 64-bit value as two argument words, low word first (R487). -/
def w64 (n : Nat) : List Word := [BitVec.ofNat 32 n, BitVec.ofNat 32 (n / 2 ^ 32)]

/-- Whether reported time is FREE or UNTRUSTED (NOTIME of Table 22-1). -/
def State.noTime (s : State) : Bool := s.fld F.TIM_STATE_STATE = 0 || s.fld F.TIM_STATE_STATE = 4

/-- The event is lost: EVR_LOSTCNT, LOST, and what EVR_LOST will carry (R490). -/
def State.loseEvent (s : State) (stamp : Nat) (notime : Bool) : State :=
  let s := (s.bump F.EVR_LOSTCNT_COUNT).raiseFlag F.EVR_STAT_LOST 222
  { s with evr := { s.evr with
      lost := min (s.evr.lost + 1) (2 ^ 32 - 1)
      lostFirst := if s.evr.lost = 0 then stamp else s.evr.lostFirst
      lostLast := stamp
      lostNotime := if s.evr.lost = 0 then notime else s.evr.lostNotime } }

/-- An event reaches the recorder's intake of 64, stamped at its unit; one that finds it full is lost (R489). -/
def State.event (s : State) (code : Nat) (args : List Word) : State :=
  if s.evr.intake.length < 64 then
    let e : Event := ⟨code, args, s.stamp, s.noTime, s.now, false⟩
    { s with evr := { s.evr with intake := s.evr.intake ++ [e] } }
  else s.loseEvent s.stamp s.noTime

/-! ### Access tables (R55-R58, R543) -/

/-- The access an engine makes: its identity, privileged and secure (R55). -/
def engine (m : Fin 48) : Acc := ⟨m, true, true⟩

/-- Whether an access-table entry matches an access (R56). -/
def State.accMatches (s : State) (t e : Nat) (m : Nat) (a : Nat) : Bool :=
  let size := s.fld (F.ACC_TE_CTL_SIZE t e)
  let em := s.fld (F.ACC_TE_CTL_MASTER t e)
  let base := s.fld (F.ACC_TE_BASE_ADDR t e) * 0x1000
  size ≠ 0 && (em = m || em = 0x3F) && a / 2 ^ size = base / 2 ^ size

/-- Whether a target's table permits an access: the lowest matching entry grants its kind and its attributes are
met; X has no effect at targets 14 to 17, where a fetch is judged as a read (R56). -/
def State.permits (s : State) (t : Nat) (acc : Acc) (k : AccKind) (a : Nat) : Bool :=
  match (List.range 64).find? (fun e => s.accMatches t e acc.master a) with
  | none => false
  | some e =>
    let grant := match k with
      | .read => s.flag (F.ACC_TE_CTL_R t e)
      | .write => s.flag (F.ACC_TE_CTL_W t e)
      | .exec => if 14 ≤ t then s.flag (F.ACC_TE_CTL_R t e) else s.flag (F.ACC_TE_CTL_X t e)
    grant && (!s.flag (F.ACC_TE_CTL_PRIV t e) || acc.priv) && (!s.flag (F.ACC_TE_CTL_SEC t e) || acc.sec)

/-- Record a denied access as event ACCESS_FAULT with target, master, address and kind (R57, R543). -/
def State.accessEvent (s : State) (t : Nat) (acc : Acc) (k : AccKind) (a : Nat) : State :=
  s.event 0x0104 ([w32 t, w32 acc.master.val] ++ w64 a ++
    [Config.accessKindWord (k = .write) (k = .exec)])

/-- A denied access at a target: recorded, captured while VALID is 0 with the target's interrupt, else counted (R57). -/
def State.denyAt (s : State) (t : Nat) (acc : Acc) (k : AccKind) (a : Nat) : State :=
  let s := s.accessEvent t acc k a
  if s.flag (F.ACC_T_FINFO_VALID t) then s.bump (F.ACC_T_FINFO_COUNT t)
  else
    let s := (s.setReg (R.ACC_T_FADDR_LO t) (w32 a)).setReg (R.ACC_T_FADDR_HI t) (w32 (a / 2 ^ 32 % 256))
    let info := 2 ^ 31 + (if acc.sec then 2 ^ 11 else 0) + (if acc.priv then 2 ^ 10 else 0)
      + (if k = .exec then 2 ^ 9 else 0) + (if k = .write then 2 ^ 8 else 0) + acc.master.val
    (s.setReg (R.ACC_T_FINFO t) (w32 info)).pend (136 + t)

/-- A denied access by address: at its target, or at none (R543). -/
def State.deny (s : State) (acc : Acc) (k : AccKind) (a : Nat) : State :=
  match targetOf a with
  | some t => s.denyAt t acc k a
  | none => s.accessEvent 0xFF acc k a

/-! ### Absent units (R1, R5) -/

/-- Whether a unit group of Table 0-1 is present in the part. -/
def Part.hasP1 (p : Part) : Bool := p.code = .f || p.code = .a
def Part.hasDSP (p : Part) : Bool := p.code = .f
def Part.hasIMG (p : Part) : Bool := p.code = .f || p.code = .a
def Part.hasENC (p : Part) : Bool := p.code = .f
def Part.hasGNS (p : Part) : Bool := p.code ≠ .d
def Part.hasTDM (p : Part) : Bool := p.code ≠ .d

/-- The base of the window or sub-window of an absent unit that holds an address (R5, Table 0-8); the registers
of the P1-die's counters are such a sub-window (R521, log entry 64). -/
def Part.absentWindow (p : Part) (a : Nat) : Option Nat :=
  if 0x40060400 ≤ a ∧ a < 0x40060480 then (if p.hasP1 then none else some 0x40060400)
  else if 0x40200000 ≤ a ∧ a < 0x40300000 then none
  else if 0x40300000 ≤ a ∧ a < 0x40400000 then (if p.hasP1 then none else some 0x40300000)
  else if 0x404C0000 ≤ a ∧ a < 0x40500000 then (if p.hasGNS then none else some 0x404C0000)
  else if 0x40500000 ≤ a ∧ a < 0x40600000 then (if p.hasGNS then none else some 0x40500000)
  else if 0x40600000 ≤ a ∧ a < 0x40700000 then
    (if p.hasIMG then (if 0x40680000 ≤ a ∧ !p.hasENC then some 0x40680000 else none) else some 0x40600000)
  else if 0x40700000 ≤ a ∧ a < 0x40800000 then (if p.hasDSP then none else some 0x40700000)
  else if 0x40A00000 ≤ a ∧ a < 0x40B00000 then (if p.hasTDM then none else some 0x40A00000)
  else none

/-- Record an access to an absent unit's window (R5). -/
def State.absentAccess (s : State) (base : Nat) : State := s.event 0x0101 [w32 base]

/-- Whether an access to an address is not denied (R56, R543); one to an absent unit's window bypasses the tables (R5, R57). -/
def State.allowed (s : State) (acc : Acc) (k : AccKind) (a : Nat) : Bool :=
  (s.part.absentWindow a).isSome ||
  match targetOf a with
  | some t => s.permits t acc k a
  | none => false

/-- The 64-byte bursts of a range (Table 2-8): the first address of the access in each. -/
def bursts (a n : Nat) : List Nat :=
  if n = 0 then [] else
  a :: (List.range ((a + n - 1) / 64 - a / 64)).map (fun i => (a / 64 + 1 + i) * 64)

/-- The first address of a range at which an access is denied (R51, R57): each burst is judged. -/
def State.firstDenied (s : State) (acc : Acc) (k : AccKind) (a n : Nat) : Option Nat :=
  (bursts a n).find? (fun b => !s.allowed acc k b)

/-- The accesses of a range, up to a denied one, that fall into windows of absent units are recorded (R5). -/
def State.noteAbsent (s : State) (a n : Nat) (stop : Option Nat) : State :=
  ((bursts a n).takeWhile (fun b => some b ≠ stop)).foldl (fun s b =>
    match s.part.absentWindow b with
    | some base => s.absentAccess base
    | none => s) s

/-- A read of a range by a unit: its bytes, or none with the denial recorded (R57, R545); an absent unit's window reads 0 (R5). -/
def State.unitRead (s : State) (acc : Acc) (a n : Nat) : Option (List Byte) × State :=
  match s.firstDenied acc .read a n with
  | some b => (none, (s.noteAbsent a n (some b)).deny acc .read b)
  | none => (some (s.bytes a n), s.noteAbsent a n none)

/-- A write of a range by a unit: whether it was permitted. A denied write is dropped (R57). -/
def State.unitWrite (s : State) (acc : Acc) (a : Nat) (bs : List Byte) : Bool × State :=
  match s.firstDenied acc .write a bs.length with
  | some b => (false, (s.noteAbsent a bs.length (some b)).deny acc .write b)
  | none => (true, (s.noteAbsent a bs.length none).setBytes a bs)

/-! ### Guarded registers (R5, R57) -/

/-- A register write by a master: dropped and recorded at an absent unit (R5), dropped and denied by target 17's
table (R57), else the given effect. -/
def State.guardWrite (s : State) (acc : Acc) (a : Nat) (k : State → State) : State :=
  match s.part.absentWindow a with
  | some base => s.absentAccess base
  | none => if s.permits 17 acc .write a then k s else s.denyAt 17 acc .write a

/-- A register read by a master: the value into rdata, 0 when absent or denied (R5, R57), then the read's effect. -/
def State.guardRead (s : State) (acc : Acc) (a : Nat) (v : State → Word) (k : State → State) : State :=
  match s.part.absentWindow a with
  | some base => { s.absentAccess base with rdata := 0 }
  | none => if s.permits 17 acc .read a then { k s with rdata := v s } else { s.denyAt 17 acc .read a with rdata := 0 }

/-- Whether a register write, or read, by a master reaches its register: the unit is present and target 17 permits it (R5, R57). -/
def State.takesWrite (s : State) (acc : Acc) (a : Nat) : Bool := (s.part.absentWindow a).isNone && s.permits 17 acc .write a
def State.takesRead (s : State) (acc : Acc) (a : Nat) : Bool := (s.part.absentWindow a).isNone && s.permits 17 acc .read a

/-! ### Register writes by access code (R11, R12) -/

/-- Whether the lock of the unit at an address is set. -/
def State.locked (s : State) (a : Nat) : Bool :=
  match lockOf a with
  | some f => s.flag f
  | none => false

/-- Write a register by the access codes of its fields, reserved bits 0. -/
def State.writePlain (s : State) (a : Nat) (w : Word) : State :=
  s.setReg a (writtenWord a (s.locked a) (s.reg a) w)

/-- The fields of registers that a test selects, back at their reset values (R515). -/
def State.clearRegs (s : State) (sel : Nat → FieldRow → Bool) : State :=
  { s with regs := SMap.mapKeep resetOf s.regs (fun a w => resetFields a w (sel a)) }

/-- The outcome of a command that runs to a next state. -/
abbrev Out := Host.Outcome State Fault Refusal

end Sys2Proof.Machine
end

