-- ==== Sys2Proof/Machine/Operands.lean ====
section
/-! DEFINITION. The operand forms of queue commands: the descriptor (Table 2-2), the rings that carry it, the
completion of a started descriptor, and the addresses of a ring's entries (R31-R39). -/

namespace Sys2Proof.Machine

/-! ### Rings -/

/-- The ring record beside the registers of ring n. -/
def State.ring (s : State) (n : Nat) : Ring := SMap.get (fun _ => Ring.init) s.rings n

/-- Replace the ring record of ring n. -/
def State.setRing (s : State) (n : Nat) (r : Ring) : State := { s with rings := SMap.set (fun _ => Ring.init) s.rings n r }

/-- The signed 32-bit difference of two free-running indices (R35). -/
def sdiff32 (x y : Nat) : Int := sext 32 ((x + (2 ^ 32 - y % 2 ^ 32)) % 2 ^ 32)

/-- The next 32-bit index. -/
def next32 (x : Nat) : Nat := (x + 1) % 2 ^ 32

/-- The entries of ring n: 2^SIZE, none while SIZE is 0 (R32). -/
def State.ringSize (s : State) (n : Nat) : Nat := if s.fld (F.RNG_CFG_SIZE n) = 0 then 0 else 2 ^ s.fld (F.RNG_CFG_SIZE n)

/-- The base address of ring n (R59). -/
def State.ringBase (s : State) (n : Nat) : Nat :=
  s.fld (F.RNG_BASE_LO_ADDR n) * 64 + s.fld (F.RNG_BASE_HI_ADDR n) * 2 ^ 32

/-- The module's index and the firmware's index of ring n. -/
def State.ringHw (s : State) (n : Nat) : Nat := s.fld (F.RNG_HW_IDX n)
def State.ringDb (s : State) (n : Nat) : Nat := s.fld (F.RNG_DB_IDX n)

/-- Whether completion ring c can take an entry: enabled, bound to queue 0x00, not full (R37, R39). -/
def State.ringAccepts (s : State) (c : Nat) : Bool :=
  s.fld (F.RNG_CFG_SIZE c) ≠ 0 && s.fld (F.RNG_CFG_QUEUE c) = 0 &&
    (s.ringHw c + (2 ^ 32 - s.ringDb c)) % 2 ^ 32 < s.ringSize c

/-- The descriptor of 32 bytes (Table 2-2); reserved bits are ignored (R12). -/
def decodeDesc (i : Nat) (bs : List Byte) : Desc where
  didx := i
  op := field bs 0 1
  irq := field bs 1 1 % 2 = 1
  fence := field bs 1 1 / 2 % 2 = 1
  tag := field bs 2 2
  len := field bs 4 4
  addr := field bs 8 5
  arg0 := field bs 16 4
  arg1 := field bs 20 4
  arg2 := field bs 24 4
  arg3 := field bs 28 4

/-- The address of entry i of work ring n with 2^lg entries. -/
def State.descAddr (s : State) (n lg i : Nat) : Nat := s.ringBase n + 32 * (i % 2 ^ lg)

/-- The entries completion ring c can still take, none while it is off (R37, R39). -/
def State.ringRoom (s : State) (c : Nat) : Nat :=
  if s.ringAccepts c then s.ringSize c - (s.ringHw c + (2 ^ 32 - s.ringDb c)) % 2 ^ 32 else 0

/-- The completions still to come to completion ring c, of all rings. -/
def State.owed (s : State) (c : Nat) : Nat :=
  s.rings.foldl (fun k p => k + (p.2.inflight.filter (fun e => e.cring = c)).length) 0

/-- Whether ring n may start its next descriptor, the fence apart: a work ring that is enabled, has an available entry, and can hold
its completion: fewer than four to come, or room for all that are (R35, R37, R39, log entry 16). -/
def State.ringReady (s : State) (n : Nat) : Bool :=
  s.fld (F.RNG_CFG_SIZE n) ≠ 0 && s.fld (F.RNG_CFG_QUEUE n) ≠ 0 && s.ringHw n ≠ s.ringDb n &&
    ((s.ring n).inflight.length < 4 || s.owed (s.ring n).cring < s.ringRoom (s.ring n).cring)

/-- The fetch of ring n's next descriptor as master 17 (R544): the address at which it is denied, if it is. -/
def State.fetchDenied (s : State) (n : Nat) : Option Nat :=
  s.firstDenied (engine 17) .read (s.descAddr n (s.fld (F.RNG_CFG_SIZE n)) (s.ringHw n)) 32

/-- Ring n's next descriptor, when it may start now: fetched, its FENCE met (R33). -/
def State.nextDesc (s : State) (n : Nat) : Option Desc :=
  if s.ringReady n && (s.fetchDenied n).isNone then
    let d := decodeDesc (s.ringHw n) (s.bytes (s.descAddr n (s.fld (F.RNG_CFG_SIZE n)) (s.ringHw n)) 32)
    if d.fence && (s.ring n).inflight.any (fun e => e.res.isNone) then none else some d
  else none

/-- Start a descriptor: the module's index moves on and the descriptor is in flight. -/
def State.startDesc (s : State) (n : Nat) (d : Desc) : State :=
  let r := s.ring n
  let s := s.noteAbsent (s.descAddr n (s.fld (F.RNG_CFG_SIZE n)) d.didx) 32 none
  (s.setFld (F.RNG_HW_IDX n) (next32 (s.ringHw n))).setRing n
    { r with inflight := r.inflight ++ [⟨d, none, 0, r.cring, r.queue, false⟩] }

/-- The master whose doorbell made entry i of ring n available (R55). -/
def State.descMaster (s : State) (n i : Nat) : Acc :=
  match (s.ring n).masters.find? (fun p => 0 < sdiff32 p.1 i) with
  | some p => p.2
  | none => engine 17

/-- Complete the started descriptor with an index: its completion waits to be written in ring order (R34, R37). -/
def State.complete (s : State) (n didx status result : Nat) : State :=
  let r := s.ring n
  let mark (e : Inflight) : Inflight :=
    if e.desc.didx = didx ∧ e.res = none then { e with res := some (status, result), stamp := s.short } else e
  s.setRing n { r with inflight := r.inflight.map mark }

/-- Completion status codes of Table 2-4. -/
def stOK : Nat := 0x00
def stEMPTY : Nat := 0x01
def stBADOP : Nat := 0x02
def stBADLEN : Nat := 0x03
def stACCESS : Nat := 0x04
def stABSENT : Nat := 0x05
def stBUSY : Nat := 0x06
def stTORN : Nat := 0x07
def stABORTED : Nat := 0x08
def stECC : Nat := 0x09

/-- The shape of every queue command: ring n's next descriptor starts if it carries the command's opcode on one of
its queues; an opcode the queue does not define completes BAD_OP (Table 2-4); anything else is not this command. -/
def State.queueCmd (s : State) (n : Nat) (onQueue : Nat → Bool) (op : Nat) (defined : List Nat)
    (run : State → Desc → State) : State :=
  match s.nextDesc n with
  | none => s
  | some d =>
    if !onQueue (s.fld (F.RNG_CFG_QUEUE n)) then s
    else if d.op = op then run (s.startDesc n d) d
    else if d.op ≠ 0 && !defined.contains d.op then (s.startDesc n d).complete n d.didx stBADOP 0
    else s

/-- The ring bound to a queue, if one is enabled (R31: at most one for a queue other than 0x00). -/
def State.ringOf (s : State) (q : Nat) : Option Nat :=
  (List.range 64).find? (fun n => s.fld (F.RNG_CFG_QUEUE n) = q && s.fld (F.RNG_CFG_SIZE n) ≠ 0)

/-! ### Channel-table entries (R43-R47) -/

/-- Entries and entry size of table t (Table 2-6). -/
def tableSize (t : Nat) : Nat × Nat :=
  match t with
  | 0 => (4096, 64) | 1 => (64, 64) | 2 => (96, 32) | 3 => (64, 16) | 4 => (48, 32) | 5 => (24, 32) | 6 => (64, 128)
  | _ => (0, 0)

/-- The key of entry i of table t. -/
def entryKey (t i : Nat) : Nat := t * 4096 + i

/-- The accepted copy of entry i of table t: its bytes, empty where there is none. -/
def State.entry (s : State) (t i : Nat) : List Byte := SMap.get (fun _ => []) s.entries (entryKey t i)

/-- Accept a copy of an entry. -/
def State.setEntry (s : State) (t i : Nat) (bs : List Byte) : State :=
  { s with entries := SMap.set (fun _ => []) s.entries (entryKey t i) bs }

/-- Whether an entry names a channel: there is an accepted copy and its generation is not 0 (R44). -/
def State.hasEntry (s : State) (t i : Nat) : Bool := s.entry t i ≠ [] && field (s.entry t i) 0 2 ≠ 0

/-- The base address of table t. -/
def State.tableBase (s : State) (t : Nat) : Nat := s.fld (F.RNG_TBASE_LO_ADDR t) * 64 + s.fld (F.RNG_TBASE_HI_ADDR t) * 2 ^ 32

/-! ### The endpoint entry (Table 4-1) -/

def eKind (e : List Byte) : Nat := field e 2 1 % 8
def eBody (e : List Byte) : Nat := field e 2 1 / 8 % 2
def eTrans (e : List Byte) : Nat := field e 3 1 % 8
def eTop (e : List Byte) : Nat := field e 4 4 / 2 ^ 28
def eChan (e : List Byte) : Nat := field e 4 4 % 128
def eNode (e : List Byte) : Nat := field e 4 4 / 2 ^ 16 % 256
def eIndex (e : List Byte) : Nat := field e 4 4 % 4096
def eX (e : List Byte) : Int := sext 24 (field e 8 3)
def eY (e : List Byte) : Int := sext 24 (field e 12 3)
def eWidth (e : List Byte) : Nat := field e 16 2
def eAxis (e : List Byte) : Nat := field e 18 1 % 8
def eSafe (e : List Byte) : Nat := field e 18 1 / 16 % 8
def eTon (e : List Byte) : Nat := field e 20 4 % 2 ^ 20
def eToff (e : List Byte) : Nat := field e 24 4 % 2 ^ 20
def ePlayer (e : List Byte) : Nat := field e 28 1 % 8
def ePlEn (e : List Byte) : Bool := field e 28 1 / 8 % 2 = 1
def eCovl (e : List Byte) : Nat := field e 28 1 / 16 % 8
def eClEn (e : List Byte) : Bool := field e 28 1 / 128 % 2 = 1
def eFlag (e : List Byte) (b : Nat) : Bool := field e 29 1 / 2 ^ b % 2 = 1
def eCurve (e : List Byte) : Bool := eFlag e 0
def eStillOff (e : List Byte) : Bool := eFlag e 1
def eRevOff (e : List Byte) : Bool := eFlag e 2
def eLostSafe (e : List Byte) : Bool := eFlag e 3
def eAutoRet (e : List Byte) : Bool := eFlag e 4
def eInvert (e : List Byte) : Bool := eFlag e 5
def eOvl (e : List Byte) : Nat := field e 30 1
def eHead (e : List Byte) : Nat := field e 31 1 % 16
def eRateK (e : List Byte) : Nat := field e 32 4
def eRateMin (e : List Byte) : Nat := field e 36 2
def eRateMax (e : List Byte) : Nat := field e 38 2
def eSafeRate (e : List Byte) : Nat := field e 40 2
def eLoop (e : List Byte) : Nat := field e 42 2 % 64
def eRdest (e : List Byte) : Bool := field e 42 2 / 2 ^ 15 = 1
def eLead (e : List Byte) : Nat := field e 44 1
def eCtol (e : List Byte) : Nat := field e 46 2
def ePitch (e : List Byte) : Nat := field e 48 4
def ePwidth (e : List Byte) : Nat := field e 52 4 % 2 ^ 20

/-- Kinds (Table 4-1). -/
def kSWITCH : Nat := 0
def kRATE : Nat := 1
def kPULSE : Nat := 2
def kSENSE : Nat := 3
def kMARK : Nat := 4

/-- Whether an entry is of an output kind; on which side its output or input lies. -/
def eOutput (e : List Byte) : Bool := eKind e < 3
def eLocal (e : List Byte) : Bool := eTrans e = 1
def eRemote (e : List Byte) : Bool := eTrans e = 2 || eTrans e = 3
def ePartner (e : List Byte) : Bool := eTrans e = 4

/-- The bus of a remote entry: 0 to 11 CAN, 12 and 13 T1S (Table 5-8). -/
def eBus (e : List Byte) : Nat := if eTrans e = 2 then eTop e else 12 + eTop e

/-! ### Loops (Table 7-1) -/

/-- Loop n beside its registers. -/
def State.bloop (s : State) (n : Nat) : BLoop := SMap.get (fun _ => BLoop.init) s.brd.loops n

/-- Replace loop n. -/
def State.setLoop (s : State) (n : Nat) (x : BLoop) : State :=
  { s with brd := { s.brd with loops := SMap.set (fun _ => BLoop.init) s.brd.loops n x } }

/-- The clock of a loop entry, its axis, its period in µs or counts. -/
def bClk (c : List Byte) : Nat := field c 2 1 % 4
def bAxis (c : List Byte) : Nat := field c 2 1 / 4 % 8
def bPeriod (c : List Byte) : Nat := field c 4 4

/-- Whether an endpoint is coverage-driven (R123). -/
def eCovDriven (e : List Byte) : Bool := eOutput e && (eClEn e || ePlEn e)

end Sys2Proof.Machine
end

