-- ==== Sys2Proof/Machine/Flags.lean ====
section
/-! DEFINITION. Flags that the manual derives from other state: the ring status flags CFULL, CROFF and ACTIVE, and the
flags of the access-table and Rein registers that are views of an arbiter. -/

namespace Sys2Proof.Machine

/-- Set a status flag of ring n; one that sets raises source 64 + n (Table 2-5). -/
def State.ringFlag (s : State) (f : Fld) (n : Nat) (on : Bool) : State :=
  if on then s.raiseFlag f (64 + n) else s.setFld f 0

/-- CFULL of ring c: a completion ring whose entries are all unconsumed (R37). -/
def State.ringFull (s : State) (c : Nat) : Bool :=
  s.fld (F.RNG_CFG_SIZE c) ≠ 0 && s.fld (F.RNG_CFG_QUEUE c) = 0 && !s.ringAccepts c

/-- CROFF of ring n: a work ring, enabled or with completions of a stop to write, whose completion ring is disabled (R39). -/
def State.ringCroff (s : State) (n : Nat) : Bool :=
  let r := s.ring n
  (r.queue ≠ 0 && s.fld (F.RNG_CFG_SIZE n) ≠ 0 && s.fld (F.RNG_CFG_SIZE r.cring) = 0) ||
    (match r.inflight with
      | e :: _ => r.stopping && s.fld (F.RNG_CFG_SIZE e.cring) = 0
      | [] => false)

/-- Bring CFULL of ring n and CROFF of every work ring up to date. -/
def State.refreshRings (s : State) (n : Nat) : State :=
  let s := s.ringFlag (F.RNG_STAT_CFULL n) n (s.ringFull n)
  (SMap.keys s.rings).foldl (fun s m => s.ringFlag (F.RNG_STAT_CROFF m) m (s.ringCroff m)) s

/-- BUSY of the channel tables: the table whose doorbell is being served (R46, Table 2-12). -/
def State.refreshTables (s : State) : State :=
  (List.range 7).foldl (fun s t => s.setBit (F.RNG_TSTAT_BUSY t)
    (match s.tableJobs with | j :: _ => j.table = t | [] => false)) s

/-- Set a status flag of table t; one that sets raises source 128 + t (Table 2-5). -/
def State.tableFlag (s : State) (f : Fld) (t : Nat) : State := s.raiseFlag f (128 + t)

/-! ### The Tandem mask (R445, R457, R463) -/

/-- Outputs of this module are masked: the pair states of Table 20-1 that mask (R25, R445). -/
def State.tdmMasked (s : State) : Bool :=
  let p := s.fld F.TDM_STATE_PSTATE
  p = 2 || p = 3 || p = 4 || p = 6

/-- The Tandem states in which firmware's own writes and descriptors of the mirrored kinds are refused (R457). -/
def State.mirrorOnly (s : State) : Bool := s.fld F.TDM_STATE_PSTATE = 2 || s.fld F.TDM_STATE_PSTATE = 3

/-- A mirrored write by a master of a joining or STANDBY module: dropped with MIRROR_WR (R457). -/
def State.ifOwn (s : State) (k : State → State) : State :=
  if s.mirrorOnly then s.raiseFlag F.TDM_STAT_MIRROR_WR 219 else k s

/-- Whether a local output of class 0 SOL, 1 HS, 2 DIO is MIRRORED (R463). -/
def State.mirrored (s : State) (top n : Nat) : Bool :=
  match top with
  | 0 => s.fld F.TDM_WIRE_SOL_BANKS / 2 ^ (n / 4) % 2 = 1
  | 1 => s.fld (F.TDM_WIRE_HS_CHANNELS (n / 32)) / 2 ^ (n % 32) % 2 = 1
  | _ => s.fld (F.TDM_WIRE_DIO_POINTS (n / 32)) / 2 ^ (n % 32) % 2 = 1

/-- Whether the stage of a local output is high-impedance: MIRRORED, the module masked (R463, R538) or reset while it was
(R455, R514). -/
def State.hiZ (s : State) (top n : Nat) : Bool := (s.tdmMasked && s.mirrored top n) || s.pwr.hiz.contains (top, n)

/-- Whether the off-state test current of a local output may run: not on a MIRRORED channel while its module is not ACTIVE (R538). -/
def State.offTest (s : State) (top n : Nat) : Bool := !s.mirrored top n || s.fld F.TDM_STATE_PSTATE = 5

/-- A write of w to the CMD register, at a, of a local output: dropped with MIRROR_WR on a MIRRORED channel of a joining or
STANDBY module (R457); on a SPLIT channel of a masked module kept in the register alone (R463). -/
def State.ownCmd (s : State) (top n a : Nat) (w : Word) (k : State → State) : State :=
  if s.mirrored top n then s.ifOwn k else if s.tdmMasked then s.writePlain a w else k s

/-- The arbiter of a target. -/
def State.arb (s : State) (t : Nat) : Rein := SMap.get (fun _ => Rein.init) s.rein t

/-- Replace the arbiter of a target and bring REIN_TSTATt up to date (Table 2-13). -/
def State.setArb (s : State) (t : Nat) (r : Rein) : State :=
  let s := { s with rein := SMap.set (fun _ => Rein.init) s.rein t r }
  let s := s.setFld (F.REIN_TSTAT_LOCK_LEFT t) r.lockLeft
  let s := s.setBit (F.REIN_TSTAT_LOCKED t) r.locked
  let s := if !r.locked then s.setFld (F.REIN_TSTAT_RANK_DEFERRED t) 0 else s
  match r.holder with
  | some m => s.setFld (F.REIN_TSTAT_HOLDER t) m
  | none => s

end Sys2Proof.Machine
end

