-- ==== Sys2Proof/Machine/Output.lean ====
section
/-! DEFINITION. Output queues: descriptors whose buffers a unit fills with records (R311, R322, R348, R365). -/

namespace Sys2Proof.Machine

/-- The buffer ring n is filling. -/
def State.outBuf (s : State) (n : Nat) : Option OutBuf := SMap.get (fun _ => none) s.outBufs n

/-- Replace the buffer ring n is filling. -/
def State.setOutBuf (s : State) (n : Nat) (b : Option OutBuf) : State :=
  { s with outBufs := SMap.set (fun _ => none) s.outBufs n b }

/-- Complete the buffer ring n is filling: OK with the bytes written (Table 2-3). -/
def State.closeBuf (s : State) (n : Nat) : State :=
  match s.outBuf n with
  | some b => (s.complete n b.didx stOK b.used).setOutBuf n none
  | none => s

/-- Take the next descriptor of ring n as a buffer for records of at least `need` bytes: NOPs and empty descriptors
complete on the way (R33, R48), a buffer too small for one record completes BAD_LEN (log entry 12). -/
def State.openBuf (s : State) (n need : Nat) : Nat → State
  | 0 => s
  | fuel + 1 =>
    match s.nextDesc n with
    | none => s
    | some d =>
      let s := s.startDesc n d
      if d.op = 0 then State.openBuf (s.complete n d.didx stOK 0) n need fuel
      else if d.len = 0 then State.openBuf (s.complete n d.didx stEMPTY 0) n need fuel
      else if d.len < need then State.openBuf (s.complete n d.didx stBADLEN 0) n need fuel
      else s.setOutBuf n (some ⟨d.didx, d.addr, d.len, 0, s.now⟩)

/-- A buffer of ring n with room for `need` bytes, closing one that has not. -/
def State.roomFor (s : State) (n need : Nat) : State :=
  match s.outBuf n with
  | some b => if b.used + need ≤ b.len then s else (s.closeBuf n).openBuf n need (s.ringSize n + 1)
  | none => s.openBuf n need (s.ringSize n + 1)

/-- Write one record into the output of queue q by a unit: whether it was placed. With no ring or no buffer it is
not; a denied write completes the descriptor ACCESS (R57). -/
def State.putRecord (s : State) (q : Nat) (acc : Acc) (bs : List Byte) : Bool × State :=
  match s.ringOf q with
  | none => (false, s)
  | some n =>
    let s := s.roomFor n bs.length
    match s.outBuf n with
    | none => (false, s)
    | some b =>
      match s.unitWrite acc (b.addr + b.used) bs with
      | (true, s) =>
        (true, s.setOutBuf n (some { b with used := b.used + bs.length, since := if b.used = 0 then s.now else b.since }))
      | (false, s) => (false, (s.complete n b.didx stACCESS b.used).setOutBuf n none)

/-- Write a record, counting one that finds no buffer (R311, R348). -/
def State.putOrDrop (s : State) (q : Nat) (acc : Acc) (bs : List Byte) (drop : Fld) : State :=
  match s.putRecord q acc bs with
  | (true, s) => s
  | (false, s) => s.bump drop

end Sys2Proof.Machine
end

