-- ==== Sys2Proof/Machine/Pmu.lean ====
section
/-! DEFINITION. The performance counters (24_performance_counters.md, R521-R528). -/

namespace Sys2Proof.Machine

/-! ### Counters and their events (R521, R522) -/

/-- Set a flag of PMU_STAT (R527). -/
def State.pmuFlag (s : State) (f : Fld) : State := s.raiseFlag f 225

/-- Whether the die of counter n is present. -/
def State.pmcPresent (s : State) (n : Nat) : Bool := n < 48 || s.part.hasP1

/-- Whether EVENT with SRC counts on the die of counter n (Table 24-1). -/
def pmuEventOk (n ev src : Nat) : Bool :=
  let c := decide (n < 32)
  let a := decide (32 ≤ n ∧ n < 40)
  let p := decide (40 ≤ n)
  if ev = 0 then true
  else if ev = 1 then c && decide (src ≤ 9 ∨ src = 16)
  else if ev = 2 ∨ (0x10 ≤ ev ∧ ev ≤ 0x13) then c && decide (src ≤ 9)
  else if 3 ≤ ev ∧ ev ≤ 7 then c && decide (src ≤ 7)
  else if ev = 0x20 ∨ ev = 0x21 then c && decide (src ≤ 17)
  else if ev = 0x22 ∨ ev = 0x23 then c && decide (src ≤ 16)
  else if ev = 0x30 ∨ ev = 0x31 then c && decide (src ≤ 63)
  else if ev = 0x40 then c && decide (src ≤ 6)
  else if ev = 0x41 then c && decide (src ≤ 1)
  else if ev = 0x101 then a && decide (src ≤ 47)
  else if ev = 0x102 then a && decide (src ≤ 23)
  else if ev = 0x103 then (a || p) && decide (src = 0)
  else if ev = 0x201 then p && decide (src ≤ 31)
  else if ev = 0x202 then p && decide (src ≤ 7)
  else if ev = 0x203 then p && decide (src ≤ 3)
  else false

/-- The events with an occupancy (Table 24-1). -/
def pmuOccupancy (ev : Nat) : Bool := ev = 0x22 || ev = 0x31 || ev = 0x202

/-- EVENT and SRC of counter n go together (R521). -/
def State.pmcEventOk (s : State) (n : Nat) : Bool := pmuEventOk n (s.fld (F.PMU_CFG_EVENT n)) (s.fld (F.PMU_CFG_SRC n))

/-- What of PMU_CFGn sets CONFIG (R521, R522, R525). -/
def State.pmcBad (s : State) (n : Nat) : Bool :=
  !s.pmcEventOk n || (s.flag (F.PMU_CFG_MODE n) && !pmuOccupancy (s.fld (F.PMU_CFG_EVENT n))) ||
    (s.flag (F.PMU_CFG_SAMPLE n) && decide (9 < s.fld (F.PMU_CFG_SRC n)))

/-- The 48-bit value of counter n. -/
def State.pmc (s : State) (n : Nat) : Nat := s.fld (F.PMU_CNT_LO_COUNT n) + s.fld (F.PMU_CNT_HI_COUNT n) * 2 ^ 32

/-- Set counter n. -/
def State.setPmc (s : State) (n v : Nat) : State :=
  (s.setFld (F.PMU_CNT_LO_COUNT n) (v % 2 ^ 32)).setFld (F.PMU_CNT_HI_COUNT n) (v / 2 ^ 32 % 2 ^ 16)

/-! ### Modes (R526) -/

/-- The mode the counters are in: TEST, BOOT until the start-up has ended (it does not with BOOT DEAD), RECOVERY, RUN with FORCEBW, RUN. -/
def State.pmuModeNow (s : State) : Nat :=
  if s.pwr.test then 2 else if s.pwr.seq.isSome || s.fld (F.UPD_PSTAT_STATE 0) = 4 then 1 else if s.pwr.recov then 3
  else if s.flag F.PMU_CTL_FORCEBW then 4 else 0

/-- Bring MODE up to date: a change clears PMC00 to PMC31 and begins a bandwidth window. -/
def State.pmuMode (s : State) : State :=
  let m := s.pmuModeNow
  if m = s.fld F.PMU_STAT_MODE then s
  else
    let s := (List.range 32).foldl (fun s n => s.setPmc n 0) (s.setFld F.PMU_STAT_MODE m)
    { s with pwr := { s.pwr with bwAt := s.now } }

/-- Whether PMC00 to PMC31 count bytes by port (Table 24-2). -/
def State.pmuBw (s : State) : Bool := s.fld F.PMU_STAT_MODE ≠ 0

/-- Whether counter n counts: in bandwidth windows the first 32 whatever their PMU_CFGn (log entry 64), else with EN of both registers
and an event its die and SRC have (R521, R522). -/
def State.pmcCounts (s : State) (n : Nat) : Bool :=
  if n < 32 ∧ s.pmuBw then true
  else s.pmcPresent n && s.flag F.PMU_CTL_EN && s.flag (F.PMU_CFG_EN n) && s.pmcEventOk n && s.fld (F.PMU_CFG_EVENT n) ≠ 0 &&
    (!s.flag (F.PMU_CFG_MODE n) || pmuOccupancy (s.fld (F.PMU_CFG_EVENT n)))

/-! ### Wraps and samples (R521, R525) -/

/-- A sample of the core counter n counts: kept while VALID is 0, else counted in LOST. -/
def State.pmuSample (s : State) (n pc btgt run : Nat) : State :=
  let c := s.fld (F.PMU_CFG_SRC n)
  if !s.flag (F.PMU_CFG_SAMPLE n) ∨ 9 < c ∨ (n < 32 ∧ s.pmuBw) then s
  else if s.flag (F.PMU_SAMP_INFO_VALID c) then s.bump (F.PMU_SAMP_INFO_LOST c)
  else
    let s := s.setReg64 (R.PMU_SAMP_PC_LO c) (R.PMU_SAMP_PC_HI c) pc
    let s := s.setReg64 (R.PMU_SAMP_BT_LO c) (R.PMU_SAMP_BT_HI c) btgt
    let s := (s.setFld (F.PMU_SAMP_INFO_RUN c) (min run 15)).setFld (F.PMU_SAMP_INFO_CNT c) n
    (s.setFld (F.PMU_SAMP_INFO_VALID c) 1).pend (226 + c)

/-- The bit of counter n in PMU_OVF. -/
def pmuOvf (n : Nat) : Fld := if n < 32 then ⟨R.PMU_OVF_LO, n, n⟩ else ⟨R.PMU_OVF_HI, n - 32, n - 32⟩

/-- PMU_OVERFLOW (R521, R525): counter n adds what its event has brought; at 2^48 it wraps, sets its bits, interrupts with OVIE, and
samples its core, whose PC, BTGT and RUN come with the command. -/
def execPmuOverflow (n : Fin 56) (inc : BitVec 48) (pc btgt : BitVec 64) (run : BitVec 16) (s : State) : Out :=
  if !s.pmcCounts n then .next s
  else
    let v := s.pmc n + inc.toNat
    let s := s.setPmc n v
    if v < 2 ^ 48 then .next s
    else
      let s := (s.setFld (pmuOvf n) 1).pmuFlag F.PMU_STAT_OVF
      let s := if s.flag (F.PMU_CFG_OVIE n) && !(decide (n.val < 32) && s.pmuBw) then s.pend 225 else s
      .next (s.pmuSample n pc.toNat btgt.toNat run.toNat)

/-- PMU_BW_WINDOW (R526): WIN µs on, the counters of the ports are copied to PMU_BWk and restart. -/
def execPmuBwWindow (s : State) : Out :=
  let win := 1000 * s.fld F.PMU_BWCFG_WIN
  if !s.pmuBw ∨ win = 0 ∨ !s.elapsed s.pwr.bwAt win then .next s
  else
    let s := (List.range 32).foldl (fun s k =>
      (s.setFld (F.PMU_BW_BYTES k) (min (s.pmc k) (2 ^ 32 - 1))).setPmc k 0) s
    let s := s.setFld F.PMU_BWSEQ_SEQ (s.fld F.PMU_BWSEQ_SEQ + 1)
    .next { s with pwr := { s.pwr with bwAt := s.pwr.bwAt + win } }

/-! ### Snapshots (R523) -/

/-- The record of a snapshot: SEQ, cause, MODE, MTB and the 56 counters, VALID clear for an absent die. -/
def State.snapRecord (s : State) : List Byte :=
  leBytes 4 (s.fld F.PMU_SNAP_STAT_SEQ) ++
  leBytes 1 (s.fld F.PMU_SNAP_STAT_DOORBELL * 128 + s.fld F.PMU_SNAP_STAT_TRG) ++
  leBytes 1 (s.fld F.PMU_STAT_MODE) ++ leBytes 2 0 ++ leBytes 8 (s.reg64 R.PMU_SNAP_MTB_LO R.PMU_SNAP_MTB_HI) ++ leBytes 16 0 ++
  (List.range 56).flatMap (fun n =>
    leBytes 8 (s.fld (F.PMU_SNAP_LO_COUNT n) + s.fld (F.PMU_SNAP_HI_COUNT n) * 2 ^ 32 + (if s.pmcPresent n then 2 ^ 63 else 0)))

/-- The next descriptor of ring n that takes a snapshot record: one of 480 bytes; NOPs and other lengths complete on the way. -/
def State.snapDesc (s : State) (n : Nat) : Nat → Option Desc × State
  | 0 => (none, s)
  | fuel + 1 =>
    match s.nextDesc n with
    | none => (none, s)
    | some d =>
      let s := s.startDesc n d
      if d.op = 0 then State.snapDesc (s.complete n d.didx stOK 0) n fuel
      else if d.len = 0 then State.snapDesc (s.complete n d.didx stEMPTY 0) n fuel
      else if d.len ≠ 480 then State.snapDesc (s.complete n d.didx stBADLEN 0) n fuel
      else (some d, s)

/-- Write the record of a snapshot to queue 0x60: where, or dropped and counted. -/
def State.snapOut (s : State) : Option Nat × State :=
  let drop (s : State) : Option Nat × State := (none, (s.bump F.PMU_SNAPDROP_COUNT).pmuFlag F.PMU_STAT_SNAPDROP)
  match s.ringOf 0x60 with
  | none => drop s
  | some n =>
    match s.snapDesc n (s.ringSize n + 1) with
    | (none, s) => drop s
    | (some d, s) =>
      match s.unitWrite (engine 20) d.addr s.snapRecord with
      | (true, s) => (some d.addr, s.complete n d.didx stOK 480)
      | (false, s) => drop (s.complete n d.didx stACCESS 0)

/-- Latch the counters and the MTB of an instant with a cause. -/
def State.snapTake (s : State) (doorbell : Bool) (trg t : Nat) : State :=
  let s := (List.range 56).foldl (fun s n =>
    let v := if s.pmcPresent n then s.pmc n else 0
    (s.setFld (F.PMU_SNAP_LO_COUNT n) (v % 2 ^ 32)).setFld (F.PMU_SNAP_HI_COUNT n) (v / 2 ^ 32)) s
  let s := s.setReg64 R.PMU_SNAP_MTB_LO R.PMU_SNAP_MTB_HI t
  let s := s.setFld F.PMU_SNAP_STAT_SEQ (s.fld F.PMU_SNAP_STAT_SEQ + 1)
  let s := (s.setBit F.PMU_SNAP_STAT_DOORBELL doorbell).setFld F.PMU_SNAP_STAT_TRG (if doorbell then 0 else trg)
  let s := s.pmuFlag F.PMU_STAT_SNAP
  let (at_, s) := s.snapOut
  { s with pwr := { s.pwr with snap := some (t / 1000, doorbell, at_) } }

/-- A snapshot at an instant by the doorbell or a trigger, which has its crossing's; a doorbell and a trigger in one µs make one, with cause DOORBELL. -/
def State.pmuSnap (s : State) (doorbell : Bool) (trg t : Nat) : State :=
  match s.pwr.snap with
  | some (us, was, at_) =>
    if us ≠ t / 1000 ∨ was = doorbell then s.snapTake doorbell trg t
    else if was then s
    else
      let s := (s.setFld F.PMU_SNAP_STAT_DOORBELL 1).setFld F.PMU_SNAP_STAT_TRG 0
      let s := match at_ with
        | some a => (s.unitWrite (engine 20) (a + 4) [128]).2
        | none => s
      { s with pwr := { s.pwr with snap := some (us, true, at_) } }
  | none => s.snapTake doorbell trg t

/-! ### Registers (R528) -/

/-- A write of PMU_CFGn. -/
def State.writePmc (s : State) (n : Nat) (w : Word) : State :=
  let s := s.writePlain (R.PMU_CFG n) w
  if s.pmcBad n then s.pmuFlag F.PMU_STAT_CONFIG else s

/-- A write to a register of the PMU window. -/
def State.writePmu (s : State) (a : Nat) (w : Word) : State :=
  let n := (a - 0x40060100) / 0x10
  let k := a % 16
  if a = R.PMU_CTL then (s.writePlain a w).pmuMode
  else if a = R.PMU_SNAP_DB then (if F.PMU_SNAP_DB_GO.get w = 1 then s.pmuSnap true 0 s.now else s)
  else if 0x40060100 ≤ a ∧ n < 56 then
    (if k = 0 then s.writePmc n w
     else if (k = 8 ∨ k = 12) ∧ s.flag (F.PMU_CFG_EN n) then s.pmuFlag F.PMU_STAT_CONFIG
     else s.writePlain a w)
  else if 0x40060C00 ≤ a ∧ (a - 0x40060C00) % 0x20 = 0x10 ∧ (a - 0x40060C00) / 0x20 < 10 then
    (let c := (a - 0x40060C00) / 0x20
     if (F.PMU_SAMP_INFO_VALID c).get w = 1 then (s.writePlain a w).setFld (F.PMU_SAMP_INFO_LOST c) 0 else s)
  else s.writePlain a w

/-- PMU_SNAPSHOT (R523): a write of PMU_SNAP_DB. -/
def execPmuSnapshot (acc : Acc) (value : Word) (s : State) : Out :=
  .next (s.guardWrite acc R.PMU_SNAP_DB (fun s => s.writePmu R.PMU_SNAP_DB value))

/-- The high word of counter n as a read of PMU_CNT_LOn latches it (R528). -/
def State.pmuLatch (s : State) (n : Nat) : State :=
  { s with pwr := { s.pwr with latch := SMap.set (fun _ => 0) s.pwr.latch n (s.fld (F.PMU_CNT_HI_COUNT n)) } }

/-- PMU_COUNTER_READ (R528): a read of PMU_CNT_LOn, or of PMU_CNT_HIn as the read of PMU_CNT_LOn latched it. -/
def execPmuCounterRead (acc : Acc) (n : Fin 56) (hi : Bool) (s : State) : Out :=
  if hi then .next (s.guardRead acc (R.PMU_CNT_HI n) (fun s => w32 (SMap.get (fun _ => 0) s.pwr.latch n)) id)
  else .next (s.guardRead acc (R.PMU_CNT_LO n) (fun s => s.reg (R.PMU_CNT_LO n)) (fun s => s.pmuLatch n))

/-- DEBUG_PORT_TEST (R526): the debug port takes the module into test, or out of it. -/
def execDebugPortTest (enter : Bool) (s : State) : Out :=
  .next ({ s with pwr := { s.pwr with test := enter } } : State).pmuMode

end Sys2Proof.Machine
end

