-- ==== Sys2Proof/Machine/Math.lean ====
section
/-! DEFINITION. Arithmetic the manual uses without fixing its form: square roots, angles in fixed point, binary32
values as exact numbers (log entry 23). -/

namespace Sys2Proof.Machine

/-- One bit of a square root: keep it when the square still fits. -/
def sqrtStep (n r b : Nat) : Nat := if (r + 2 ^ b) * (r + 2 ^ b) ≤ n then r + 2 ^ b else r

/-- The whole part of the square root of a number below 2^(2k). -/
def sqrtBits (n : Nat) : Nat → Nat → Nat
  | 0, r => r
  | k + 1, r => sqrtBits n k (sqrtStep n r k)

/-- The whole part of a square root. -/
def isqrt (n : Nat) : Nat := sqrtBits n (n.log2 / 2 + 1) 0

/-- π in units of 2^-60. -/
def piQ : Int := 3622009729038561421

/-- The product of two fixed-point numbers of 60 fraction bits. -/
def mulQ (x y : Int) : Int := x * y / 2 ^ 60

/-- The Taylor sum of sin from a term on: term, square of the angle, next odd factor. -/
def sinSum : Nat → Int → Int → Int → Int
  | 0, _, _, _ => 0
  | k + 1, t, x2, n => t + sinSum k (-(mulQ t x2) / (n * (n + 1))) x2 (n + 2)

/-- sin of an angle in radians, 60 fraction bits: reduced to ±π/2. -/
def sinQ (x : Int) : Int :=
  let y := (x + piQ) % (2 * piQ) - piQ
  let y := if piQ / 2 < y then piQ - y else if y < -(piQ / 2) then -piQ - y else y
  sinSum 14 y (mulQ y y) 2

/-- cos of an angle in radians, 60 fraction bits. -/
def cosQ (x : Int) : Int := sinQ (x + piQ / 2)

/-- µrad as radians of 60 fraction bits. -/
def micro (x : Int) : Int := x * 2 ^ 60 / 1000000

/-- 10^-9 degree as radians of 60 fraction bits. -/
def nanoDeg (x : Int) : Int := x * piQ / 180000000000

/-- A value times the sine or the cosine of an angle in µrad. -/
def timesSin (v a : Int) : Int := (v * sinQ (micro a) + 2 ^ 59) / 2 ^ 60
def timesCos (v a : Int) : Int := (v * cosQ (micro a) + 2 ^ 59) / 2 ^ 60

/-- atan 2^-i in µrad with 20 fraction bits, i = 0, 1, … -/
def atanTable : List Int := [823549664583, 486169755256, 256878746667, 130395662762, 65450866110, 32757339579,
  16382666862, 8191833339, 4095979167, 2047997396, 1023999674, 511999959, 255999995, 127999999, 64000000, 32000000,
  16000000, 8000000, 4000000, 2000000, 1000000, 500000, 250000, 125000]

/-- One turn of a vector towards the x axis: x, y, the angle turned so far, the step. -/
def cordic : List Int → Nat → Int → Int → Int → Int
  | [], _, _, _, a => a
  | t :: ts, i, x, y, a =>
    if 0 ≤ y then cordic ts (i + 1) (x + y / 2 ^ i) (y - x / 2 ^ i) (a + t)
    else cordic ts (i + 1) (x - y / 2 ^ i) (y + x / 2 ^ i) (a - t)

/-- The angle in µrad, −π to π, of the vector (x, y) from the x axis. -/
def atan2 (y x : Int) : Int :=
  if x = 0 ∧ y = 0 then 0
  else
    let a := cordic atanTable 0 (x.natAbs * 2 ^ 32 : Int) ((y.natAbs : Int) * 2 ^ 32) 0 / 2 ^ 20
    let a := if x < 0 then 3141593 - a else a
    if y < 0 then -a else a

/-- Put an element before the first that it does not follow. -/
def sortIns {α : Type} (le : α → α → Bool) (x : α) : List α → List α
  | [] => [x]
  | y :: ys => if le x y then x :: y :: ys else y :: sortIns le x ys

/-- A list in ascending order; equal elements keep their order. -/
def sortBy {α : Type} (le : α → α → Bool) (l : List α) : List α := l.foldr (sortIns le) []

/-- The middle value of a list of numbers; of an even count, the mean of the two middle ones. -/
def median (l : List Int) : Int :=
  let s := sortBy (fun a b => decide (a ≤ b)) l
  let n := s.length
  if n = 0 then 0
  else if n % 2 = 1 then s.getD (n / 2) 0
  else (s.getD (n / 2 - 1) 0 + s.getD (n / 2) 0) / 2

/-- An angle in µrad brought to 0 up to a turn. -/
def turn (x : Int) : Int := x % 6283185

/-- An angle in µrad brought to −π up to π. -/
def wrapPi (x : Int) : Int := (x + 3141593) % 6283185 - 3141593

/-! ### binary32 -/

/-- Whether binary32 bits are a NaN or an infinity. -/
def f32Special (b : Nat) : Bool := b / 2 ^ 23 % 256 = 255

/-- The significand and exponent of finite binary32 bits: the value is m × 2^e. -/
def f32Parts (b : Nat) : Int × Int :=
  let m : Int := Int.ofNat (b % 2 ^ 23)
  let x : Nat := b / 2 ^ 23 % 256
  let (m, e) := if x = 0 then (m, (-149 : Int)) else (m + 2 ^ 23, (x : Int) - 150)
  (if b / 2 ^ 31 % 2 = 1 then -m else m, e)

/-- A whole number times finite binary32 bits, as a whole number. -/
def f32Times (b : Nat) (x : Int) : Int :=
  let (m, e) := f32Parts b
  if 0 ≤ e then m * x * 2 ^ e.toNat else m * x / 2 ^ (-e).toNat

/-- Cut a whole number to a range. -/
def clampI (lo hi x : Int) : Int := if x < lo then lo else if hi < x then hi else x

end Sys2Proof.Machine
end

