-- ==== Sys2Proof/Machine/Tim.lean ====
section
/-! DEFINITION. Module time, calendar time and time pulses (14_time.md). -/

namespace Sys2Proof.Machine

/-- The servo states of Table 14-2. -/
def tFREE : Nat := 0
def tLOCKING : Nat := 1
def tLOCKED : Nat := 2
def tHOLDOVER : Nat := 3
def tUNTRUSTED : Nat := 4

/-- RATE: the frequency correction plus the slew until it has taken its offset up, held within 1,000 ppm of 2^40 (R337, R343). -/
def State.timRate (s : State) : Int :=
  clampI (-1099511627) 1099511627 (s.tim.corr + if s.now < s.tim.slewEnd then s.tim.slew else 0)

/-- One AON step of 20 ns of the MTB; OFS takes RATE times the step, except in FREE (R335, R337). -/
def State.tick (s : State) : State :=
  { s with now := s.now + 20, tim := if s.timeFree then s.tim else { s.tim with ofs := s.tim.ofs + s.timRate * 20 } }

/-- A record of queue 0x0A (R348): TYPE, ARG, SEQ, short MTB, calendar stamp. -/
def State.timRecord (s : State) (type arg : Nat) : State :=
  let bs := leBytes 1 type ++ leBytes 1 arg ++ leBytes 2 s.tim.seq ++ leBytes 4 s.short ++ leBytes 8 s.stamp
  ({ s with tim := { s.tim with seq := (s.tim.seq + 1) % 2 ^ 16 } } : State).putOrDrop 0x0A (engine 21) bs F.TIM_DROPCNT_COUNT

/-- UNTRUSTED is left: an output that stopped in it resumes at the next whole second (R346). -/
def Pulse.resume (p : Pulse) (rt : Nat) : Pulse :=
  if p.untrstop then { p with holdUntil := rt / 1000000000 + 1, lastEdge := max p.lastEdge rt } else p

/-- Enter a servo state: TIM_STATE, its flag, event TIME_STATE with old state, new state and input, a STATE record
(R342, R348, R350). -/
def State.timEnter (s : State) (new : Nat) : State :=
  let old := s.fld F.TIM_STATE_STATE
  let s := s.setFld F.TIM_STATE_STATE new
  let s := if new = tLOCKED then s.raiseFlag F.TIM_STAT_LOCKED 200
    else if new = tHOLDOVER then s.raiseFlag F.TIM_STAT_HOLDOVER 200
    else if new = tUNTRUSTED then s.raiseFlag F.TIM_STAT_UNTRUSTED 200 else s
  let s : State := if old = tUNTRUSTED then
      { s with tim := { s.tim with pulse0 := s.tim.pulse0.resume s.rt, pulse1 := s.tim.pulse1.resume s.rt } }
    else s
  (s.event 0x0C01 [w32 old, w32 new, w32 s.tim.src]).timRecord 2 new

/-- ERRLIM in ns: FERR times HOLD_LIM (R343). -/
def State.errLim (s : State) : Nat := s.fld F.TIM_HOLD_FERR * s.fld F.TIM_HOLD_HOLD_LIM

/-- TIM_ERR: the stored estimate in LOCKING and LOCKED; in HOLDOVER and UNTRUSTED e0 + FERR x t, saturating (R343). -/
def State.timErr (s : State) : Nat :=
  let st := s.fld F.TIM_STATE_STATE
  if st = tHOLDOVER ∨ st = tUNTRUSTED then
    min (s.tim.e0 + s.fld F.TIM_HOLD_FERR * (s.now - s.tim.holdAt) / 1000000000) (2 ^ 32 - 1)
  else s.fld F.TIM_ERR_ERR

/-- Enter HOLDOVER with error e0: RATE frozen at the frequency correction; with HOLD_LIM 0, or an error already
beyond ERRLIM, on to UNTRUSTED at once (Table 14-2, R343). -/
def State.timHoldover (s : State) (e0 : Nat) : State :=
  let s := ({ s with tim := { s.tim with slew := 0, slewEnd := 0, holdAt := s.now, e0 := e0, step := none } } : State).timEnter tHOLDOVER
  if s.fld F.TIM_HOLD_HOLD_LIM = 0 ∨ s.errLim < e0 then s.timEnter tUNTRUSTED else s

/-- Whether an input is valid now (Table 14-1); none is while EN is 0 (Table 14-2). -/
def State.timValid (s : State) (src : Nat) : Bool :=
  s.flag F.TIM_CTL_EN &&
  match src with
  | 1 => s.tim.gnssValid
  | 2 => match s.tim.ptpAt with
    | some t => !s.elapsed t (1000000 * s.fld F.TIM_PTPCFG_PTPTO + 1)
    | none => false
  | 3 => s.tim.partnerValid
  | _ => false

/-- The priority of an input in TIM_SRCCFG; 0 disables it (R340). -/
def State.timPrio (s : State) (src : Nat) : Nat :=
  match src with
  | 1 => s.fld F.TIM_SRCCFG_GNSS
  | 2 => s.fld F.TIM_SRCCFG_PTP
  | 3 => s.fld F.TIM_SRCCFG_PART
  | _ => 0

/-- The valid input of highest priority, GNSS before PTP before PARTNER among equals; 0 none (R340). -/
def State.timSelect (s : State) : Nat :=
  [1, 2, 3].foldl (fun best x =>
    if s.timValid x && s.timPrio x ≠ 0 && (best = 0 || s.timPrio best < s.timPrio x) then x else best) 0

/-- Take notice of the inputs' validity: a change of input sets SRC_CHG and records TIME_SRC, and one valid input that replaces another
is corrected without a step (R340); no valid input leaves
LOCKING and LOCKED for HOLDOVER; a valid one returns HOLDOVER and UNTRUSTED to LOCKING (R340, R342). Nothing moves
while EN is 0. -/
def State.timInputs (s : State) : State :=
  if !s.flag F.TIM_CTL_EN then s
  else
    let sel := s.timSelect
    let s := if sel = s.tim.src then s
      else
        let s : State := { s with tim := { s.tim with src := sel, first := true, step := none, noStep := s.tim.src ≠ 0 && sel ≠ 0 } }
        ((s.setFld F.TIM_STATE_SRC sel).raiseFlag F.TIM_STAT_SRC_CHG 200).event 0x0C02 []
    let st := s.fld F.TIM_STATE_STATE
    if sel = 0 then
      if st = tLOCKING ∨ st = tLOCKED then s.timHoldover s.timErr else s
    else if st = tHOLDOVER ∨ st = tUNTRUSTED then
      (({ s with tim := { s.tim with first := true, inLock := 0 } } : State).setFld F.TIM_ERR_ERR s.timErr).timEnter tLOCKING
    else s

/-- When reported time has reached TIM_UTCAT.AT, NEXT is copied into OFF and AT cleared (R338). -/
def State.utcCheck (s : State) : State :=
  let at_ := s.fld F.TIM_UTCAT_AT
  if at_ ≠ 0 && !s.timeFree && at_ * 1000000000 ≤ s.rt then
    (s.setFld F.TIM_UTC_OFF (s.fld F.TIM_UTC_NEXT)).setFld F.TIM_UTCAT_AT 0
  else s

/-- Move reported time by a step: the pulses take the edges before the new time as passed over (R343, R346). -/
def Pulse.stepped (p : Pulse) (rt : Nat) : Pulse := { p with lastEdge := max p.lastEdge (rt - 1) }

/-- Change OFS by a step of d ns: STEP, event TIME_STEP with the given 64-bit change, a STEP record, UTC (R343). -/
def State.timStepBy (s : State) (ofs : Int) (delta : Int) : State :=
  let s : State := { s with tim := { s.tim with ofs := ofs, step := none, stepAt := s.now } }
  let s : State := { s with tim := { s.tim with pulse0 := s.tim.pulse0.stepped s.rt, pulse1 := s.tim.pulse1.stepped s.rt } }
  let s := (s.raiseFlag F.TIM_STAT_STEP 200).event 0x0C03 (w64 (toBits 64 delta))
  (s.timRecord 3 0).utcCheck

/-- Leave FREE with a reported time in ns: RT is set, STEP, TIME_STEP with the new time; in LOCKING the error estimate is the servo's own,
which no rule gives; pulse configurations that wait take the next whole second from here (R342, R343, R345, log entry 13). -/
def State.timSetRt (s : State) (rt : Int) (new : Nat) : State :=
  let ofs := (rt - s.now) * 2 ^ 40
  let s := ({ s with tim := { s.tim with ofs := ofs } } : State).timEnter new
  let s := s.timStepBy ofs rt
  let s := if new = tLOCKING then (let (e, s) := s.drawNat 32; s.setFld F.TIM_ERR_ERR e) else s
  let sec := s.rt / 1000000000
  let re (p : Pulse) : Pulse := { p with pending := p.pending.map (fun _ => sec), lastEdge := s.rt - 1 }
  { s with tim := { s.tim with pulse0 := re s.tim.pulse0, pulse1 := re s.tim.pulse1 } }

/-- The offset of a measurement, source TAI minus RT, and its MTB instant (R340, Table 14-1): GNSS from CLKOFF, PTP
from TIM_PTPOFS, PARTNER as the link measured it. -/
def State.timOffset (s : State) (src : Nat) (link : Int) : Option (Int × Nat) :=
  match src with
  | 1 => match s.tim.gnssFresh with
    | some t =>
      let clk := sext 64 (s.reg64 R.GNS_CLKOFF_LO R.GNS_CLKOFF_HI)
      let rtAt : Int := if s.timeFree then 0 else (t : Int) + s.tim.ofs / 2 ^ 40
      some (clk + 19000000000 - (rtAt - t), t)
    | none => none
  | 2 => if s.tim.ptpFresh then
      let inst := s.fld F.TIM_PTPINST_INST
      let age := (s.short + (2 ^ 32 - inst)) % 2 ^ 32
      some (sext 64 (s.reg64 R.TIM_PTPOFS_LO R.TIM_PTPOFS_HI), s.now - age)
    else none
  | 3 => some (link, s.now)
  | _ => none

/-- SLEW in units of 2^-40: µs/s is ppm (R343). -/
def State.slewRate (s : State) : Int := (s.fld F.TIM_SLEW_SLEW : Int) * 2 ^ 40 / 1000000

/-- A slew with the sign of an offset, until it has taken it up (R343). -/
def State.slewBy (s : State) (d : Int) : State :=
  let rate := s.slewRate
  { s with tim := { s.tim with
    slew := if d < 0 then -rate else rate, slewEnd := s.now + d.natAbs * 1000000 / max 1 (s.fld F.TIM_SLEW_SLEW) } }

/-- The correction of the first offset after a return or a change: a slew with the sign of the offset, or, beyond
STEPTH with STEPEN set, a step at the next whole second; where one valid input replaced another, never a step (R340, R343). -/
def State.timFirst (s : State) (d : Int) : State :=
  let s : State := { s with tim := { s.tim with first := false, slew := 0, slewEnd := 0 } }
  if (s.fld F.TIM_STEPTH_STEPTH : Int) * 1000 < d.natAbs ∧ s.flag F.TIM_CTL_STEPEN ∧ !s.tim.noStep then
    { s with tim := { s.tim with step := some (d, s.rt / 1000000000 + 1) } }
  else if d.natAbs ≤ s.fld F.TIM_SERVO_LOCKTH then s
  else s.slewBy d

/-- The frequency loop takes a measurement: its new correction and its own error estimate are the servo's, which the
manual does not state (log entry 13). A slew ends once the offset is within LOCKTH (R343). -/
def State.timLoop (s : State) (d : Int) : State :=
  let (c, s) := s.drawNat 31
  let corr := clampI (-1099511627) 1099511627 ((c : Int) - 2 ^ 30)
  let (e, s) := s.drawNat 32
  let s := s.setFld F.TIM_ERR_ERR e
  { s with tim := { s.tim with corr := corr, slew := if d.natAbs ≤ s.fld F.TIM_SERVO_LOCKTH then 0 else s.tim.slew } }

/-- A measurement in LOCKING or LOCKED (Table 14-2): ten in a row within lock give LOCKED, one outside ten times
LOCKTH gives LOCKING. -/
def State.timCount (s : State) (d : Int) : State :=
  let lk := s.fld F.TIM_SERVO_LOCKTH
  let st := s.fld F.TIM_STATE_STATE
  if st = tLOCKING then
    if d.natAbs ≤ lk then
      if s.tim.inLock + 1 = 10 then ({ s with tim := { s.tim with inLock := 0 } } : State).timEnter tLOCKED
      else { s with tim := { s.tim with inLock := s.tim.inLock + 1 } }
    else { s with tim := { s.tim with inLock := 0 } }
  else if st = tLOCKED ∧ 10 * lk < d.natAbs then ({ s with tim := { s.tim with inLock := 0 } } : State).timEnter tLOCKING
  else s

/-- SERVO_MEASUREMENT (R340-R343): an offset of an input; only the selected valid input steers. `link` is the offset
the Ecrek link measured, for PARTNER. One taken before a step is discarded. -/
def execServoMeasurement (src : Fin 4) (link : BitVec 64) (s : State) : Out :=
  let s := s.timInputs
  if s.tim.src ≠ src.val ∨ src.val = 0 ∨ !s.flag F.TIM_CTL_EN then .next s
  else match s.timOffset src link.toInt with
  | none => .next s
  | some (d, t) =>
    let s : State := { s with tim := { s.tim with
      gnssFresh := if src.val = 1 then none else s.tim.gnssFresh, ptpFresh := s.tim.ptpFresh && src.val ≠ 2 } }
    if s.tim.step.isSome ∨ (t < s.tim.stepAt ∧ !s.timeFree) then .next s
    else if s.timeFree then
      .next (({ s with tim := { s.tim with first := false, inLock := 0 } } : State).timSetRt (d + ((s.now - t : Nat) : Int)) tLOCKING)
    else
      let s := if s.tim.first then s.timFirst d else s
      if s.tim.step.isSome then .next s else .next ((s.timLoop d).timCount d)

/-- PTP_OFFSET (R341): a write of TIM_PTPINST takes the set; one more than 2 s in the past, or in the future, is
dropped with PTP_REJ. -/
def State.writePtpInst (s : State) (w : Word) : State :=
  let s := s.setReg R.TIM_PTPINST w
  let age := sdiff32 s.short w.toNat
  if age < 0 ∨ 2000000000 < age then s.raiseFlag F.TIM_STAT_PTP_REJ 200
  else ({ s with tim := { s.tim with ptpAt := some s.now, ptpFresh := true } } : State).timInputs

def execPtpOffset (acc : Acc) (inst : Word) (s : State) : Out :=
  .next (s.guardWrite acc R.TIM_PTPINST (fun s => s.writePtpInst inst))

/-- PTP_TIMEOUT (Table 14-1): no set accepted within the last PTPTO ms. -/
def execPtpTimeout (s : State) : Out :=
  match s.tim.ptpAt with
  | some t =>
    if s.elapsed t (1000000 * s.fld F.TIM_PTPCFG_PTPTO + 1) then
      .next (({ s with tim := { s.tim with ptpAt := none, ptpFresh := false } } : State).timInputs)
    else .next s
  | none => .next s

/-- The pending step whose whole second RT has reached: its offset (R343). -/
def State.stepDue (s : State) : Option Int :=
  match s.tim.step with
  | some (d, sec) => if !s.timeFree && sec * 1000000000 ≤ s.rt then some d else none
  | none => none

/-- TIME_STEP (R343): RT has reached the whole second of the pending step; it moves by the offset. -/
def execTimeStep (s : State) : Out :=
  match s.stepDue with
  | some d => .next (s.timStepBy (s.tim.ofs + d * 2 ^ 40) d)
  | none => .next s

/-- HOLDOVER_EXPIRY (Table 14-2): the estimated error is above ERRLIM, or HOLD_LIM s have passed in HOLDOVER. -/
def execHoldoverExpiry (s : State) : Out :=
  if s.fld F.TIM_STATE_STATE = tHOLDOVER ∧
      (s.errLim < s.timErr ∨ s.elapsed s.tim.holdAt (1000000000 * s.fld F.TIM_HOLD_HOLD_LIM)) then
    .next (s.timEnter tUNTRUSTED)
  else .next s

/-- A write of TIM_SET_SEC_HI (R344): SEC is taken; with GO, in FREE, reported time is set and the servo goes to
LOCKING or HOLDOVER; in any other state the write is ignored and CONFIG sets. -/
def State.writeTimeSet (s : State) (w : Word) : State :=
  if F.TIM_SET_SEC_HI_GO.get w = 0 then s.writePlain R.TIM_SET_SEC_HI w
  else if !s.timeFree then s.raiseFlag F.TIM_STAT_CONFIG 200
  else
    let s := s.writePlain R.TIM_SET_SEC_HI w
    let rt := (s.fld F.TIM_SET_SEC_LO_SEC + s.fld F.TIM_SET_SEC_HI_SEC * 2 ^ 32) * 1000000000 + s.fld F.TIM_SET_NS_NS
    if s.timSelect ≠ 0 then ({ s with tim := { s.tim with first := true, inLock := 0 } } : State).timSetRt (rt : Nat) tLOCKING
    else
      let e0 := s.fld F.TIM_SETERR_ERR
      let s := ({ s with tim := { s.tim with holdAt := s.now, e0 := e0, slew := 0, slewEnd := 0 } } : State).timSetRt (rt : Nat) tHOLDOVER
      if s.fld F.TIM_HOLD_HOLD_LIM = 0 ∨ s.errLim < e0 then s.timEnter tUNTRUSTED else s

/-- TIME_SET (R344). -/
def execTimeSet (acc : Acc) (value : Word) (s : State) : Out :=
  .next (s.guardWrite acc R.TIM_SET_SEC_HI (fun s => s.writeTimeSet (value ||| 0x80000000)))

/-- UTC_CHANGE (R338). -/
def execUtcChange (s : State) : Out := .next s.utcCheck

/-! ### Time pulses (R345, R346) -/

/-- Pulse generator p. -/
def State.pulse (s : State) (p : Nat) : Pulse := if p = 0 then s.tim.pulse0 else s.tim.pulse1

/-- Replace pulse generator p. -/
def State.setPulse (s : State) (p : Nat) (x : Pulse) : State :=
  if p = 0 then { s with tim := { s.tim with pulse0 := x } } else { s with tim := { s.tim with pulse1 := x } }

/-- Whether PERIOD is 0 or a valid period: 100 ns to 1 s, dividing 1 s (R345). -/
def perOk (per : Nat) : Bool := per = 0 || (100 ≤ per && per ≤ 1000000000 && 1000000000 % per = 0)

/-- Whether a pulse configuration is valid (R345). -/
def Pulse.valid (p : Pulse) : Bool :=
  perOk p.per && (p.per = 0 || (20 ≤ p.wid && p.wid + 20 ≤ p.per)) && -16000000 ≤ p.dly && p.dly ≤ 16000000

/-- A write of a pulse register waits for the next whole second; one whose own range is broken sets CONFIG (R345, R348). -/
def State.writePulse (s : State) (p : Nat) (a : Nat) (w : Word) : State :=
  let s := s.writePlain a w
  let bad := (a = R.TIM_TPPER p && !perOk (s.fld (F.TIM_TPPER_PERIOD p))) ||
    (a = R.TIM_TPDLY p && (s.fldInt (F.TIM_TPDLY_DELAY p) < -16000000 || 16000000 < s.fldInt (F.TIM_TPDLY_DELAY p))) ||
    (a = R.TIM_TPCFG p && s.flag (F.TIM_TPCFG_REC p) && s.fld (F.TIM_TPPER_PERIOD p) ≠ 0 && s.fld (F.TIM_TPPER_PERIOD p) < 1000000)
  let s := if bad then s.raiseFlag F.TIM_STAT_CONFIG 200 else s
  s.setPulse p { s.pulse p with pending := some (s.rt / 1000000000) }

/-- TP_CONFIG_APPLY (R345): at the next whole second the written configuration takes effect, and its first pulse starts; an invalid one leaves the
output low and sets CONFIG. -/
def execTpConfigApply (p : Fin 2) (s : State) : Out :=
  match (s.pulse p).pending with
  | some sec =>
    if !s.timeFree ∧ sec < s.rt / 1000000000 then
      let x : Pulse := { s.pulse p with
        en := s.flag (F.TIM_TPCFG_EN p), pol := s.flag (F.TIM_TPCFG_POL p), untrstop := s.flag (F.TIM_TPCFG_UNTRSTOP p)
        wrRec := s.flag (F.TIM_TPCFG_REC p), irq := s.flag (F.TIM_TPCFG_IRQ p), per := s.fld (F.TIM_TPPER_PERIOD p)
        wid := s.fld (F.TIM_TPWID_WIDTH p), dly := s.fldInt (F.TIM_TPDLY_DELAY p), pending := none
        lastEdge := max (s.pulse p).lastEdge ((sec + 1) * 1000000000 - 1) }
      if x.valid then .next (s.setPulse p x)
      else .next ((s.setPulse p { x with en := false, inPulse := false }).raiseFlag F.TIM_STAT_CONFIG 200)
    else .next s
  | none => .next s

/-- TIME_PULSE (R345, R346): the next edge of TPp, when reported time, DELAY taken into account, has reached it. A
start raises interrupt 201 and writes a PULSE record as configured. No edge of the instant of a step comes before the step. -/
def execTimePulse (p : Fin 2) (s : State) : Out :=
  let x := s.pulse p
  if s.timeFree ∨ !x.en ∨ x.per = 0 ∨ s.stepDue.isSome then .next s
  else
    let lead : Int := (s.rt : Int) + x.dly / 16
    if x.inPulse then
      let e := x.start + x.wid
      if (e : Int) ≤ lead then .next (s.setPulse p { x with inPulse := false, lastEdge := max x.lastEdge e }) else .next s
    else
      let e := (x.lastEdge / x.per + 1) * x.per
      if s.fld F.TIM_STATE_STATE = tUNTRUSTED ∧ x.untrstop then
        .next (s.setPulse p { x with holdUntil := s.rt / 1000000000 + 1, lastEdge := max x.lastEdge s.rt })
      else if s.rt / 1000000000 < x.holdUntil then
        .next (s.setPulse p { x with lastEdge := max x.lastEdge s.rt })
      else if (e : Int) ≤ lead then
        let s := s.setPulse p { x with inPulse := true, start := e, lastEdge := e }
        let s := if x.irq then s.pend 201 else s
        .next (if x.wrRec ∧ 1000000 ≤ x.per then s.timRecord 1 p else s)
      else .next s

/-- The MTB, real time and RATE of this ns into the registers that a read of TIM_MTB_LO latches (R339). -/
def State.mtbLatch (s : State) : State :=
  let s := (s.setReg R.TIM_MTB_LO (w32 s.now)).setReg R.TIM_MTB_HI (w32 (s.now / 2 ^ 32))
  let s := s.setFld F.TIM_RT_NS_NS (s.rt % 1000000000)
  let s := s.setFld F.TIM_RT_SEC_LO_SEC (s.rt / 1000000000 % 2 ^ 32)
  let s := s.setFld F.TIM_RT_SEC_HI_SEC (s.rt / 1000000000 / 2 ^ 32)
  s.setInt F.TIM_RATE_RATE s.timRate

/-- MTB_READ (R339): a read of TIM_MTB_LO returns MTB [31:0] and latches the rest for the same ns. -/
def execMtbRead (acc : Acc) (s : State) : Out :=
  .next (s.guardRead acc R.TIM_MTB_LO (fun s => w32 s.now) (fun s => s.mtbLatch))

/-- A write of TIM_CTL: EN 0 freezes RATE, a slew in progress with it, and ignores measurements; EN 1 lets valid inputs steer again
(Table 14-2, log entry 13). -/
def State.writeTimCtl (s : State) (w : Word) : State :=
  let rate := s.timRate
  let s := s.writePlain R.TIM_CTL w
  if s.flag F.TIM_CTL_EN then s.timInputs
  else { s with tim := { s.tim with corr := rate, slew := 0, slewEnd := 0 } }

/-- SERVO_ENABLE (R342): the EN bit of TIM_CTL, the other bits unchanged. -/
def execServoEnable (acc : Acc) (en : Bool) (s : State) : Out :=
  .next (s.guardWrite acc R.TIM_CTL (fun s => s.writeTimCtl (F.TIM_CTL_EN.put (s.reg R.TIM_CTL &&& 0x100) (if en then 1 else 0))))

/-- A write of a TIM register with a stated range is ignored outside it, and CONFIG sets (R351). -/
def State.rangedWrite (s : State) (a : Nat) (w : Word) (f : Fld) (lo hi : Nat) : State :=
  if f.get w < lo ∨ hi < f.get w then s.raiseFlag F.TIM_STAT_CONFIG 200 else s.writePlain a w

/-- A register write in the TIM window. -/
def State.writeTim (s : State) (a : Nat) (w : Word) : State :=
  if a = R.TIM_CTL then s.writeTimCtl w
  else if a = R.TIM_PTPINST then s.writePtpInst w
  else if a = R.TIM_SET_SEC_HI then s.writeTimeSet w
  else if a = R.TIM_SRCCFG then (s.writePlain a w).timInputs
  else if a = R.TIM_SERVO then s.rangedWrite a w F.TIM_SERVO_LOCKTH 1 65535
  else if a = R.TIM_HOLD then s.rangedWrite a w F.TIM_HOLD_FERR 1 65535
  else if a = R.TIM_SLEW then s.rangedWrite a w F.TIM_SLEW_SLEW 1 1000
  else if a = R.TIM_STEPTH then s.rangedWrite a w F.TIM_STEPTH_STEPTH 1 1000000
  else if a = R.TIM_PTPCFG then s.rangedWrite a w F.TIM_PTPCFG_PTPTO 1 65535
  else if a = R.TIM_UTCAT then (s.writePlain a w).utcCheck
  else if R.TIM_TPCFG 0 ≤ a ∧ a < R.TIM_TPCFG 2 then s.writePulse ((a - R.TIM_TPCFG 0) / 0x10) a w
  else s.writePlain a w

end Sys2Proof.Machine
end

