-- ==== Sys2Proof/Machine/Afe.lean ====
section
/-! DEFINITION. The analogue front end, the pulse inputs and the inertial unit (11_sensor_frontend.md). The commands
whose results go on to Stride, Weave or the crop-flow estimators are finished in the files of those units. -/

namespace Sys2Proof.Machine

/-! ### Analogue inputs -/

/-- Analogue input i beside its registers. -/
def State.ain (s : State) (i : Nat) : Ain := SMap.get (fun _ => Ain.init) s.afe.ains i

/-- Replace the record of analogue input i. -/
def State.setAin (s : State) (i : Nat) (x : Ain) : State :=
  { s with afe := { s.afe with ains := SMap.set (fun _ => Ain.init) s.afe.ains i x } }

/-- Fields of an AFE entry (Table 11-1). -/
def aKind (e : List Byte) : Nat := field e 2 1 % 8
def aGain (e : List Byte) : Nat := field e 2 1 / 8 % 8
def aSinc5 (e : List Byte) : Bool := field e 2 1 / 64 % 2 = 1
def aHoldPol (e : List Byte) : Nat := field e 3 1 / 4 % 2
def aFir (e : List Byte) : Nat := field e 3 1 / 8 % 4
def aDec (e : List Byte) : Nat := field e 4 4 % 2 ^ 17

/-- The taps of FIR set f: AFE_FIRLENf.N, 1 to 32; a length above 32 counts as 32 (R264, log entry 24). -/
def State.firLen (s : State) (f : Nat) : Nat := min 32 (s.fld (F.AFE_FIRLEN_N f))

/-- The taps that the results of entry e pass: N of R264, 0 without FIR. -/
def State.ainTaps (s : State) (e : List Byte) : Nat := if aFir e = 0 then 0 else s.firLen (aFir e - 1)

/-- The order of the sinc filter: K of R264. -/
def aOrder (e : List Byte) : Nat := if aSinc5 e then 5 else 3

/-- Whether an accepted AFE entry is valid (R262). -/
def State.ainValid (s : State) (i : Nat) : Bool :=
  let e := s.entry 4 i
  s.hasEntry 4 i && aKind e < 4 && field e 2 1 / 128 = 0 && field e 3 1 / 32 = 0 && field e 4 4 / 2 ^ 17 = 0 &&
    field e 8 16 = 0 && field e 28 2 = 0 && 32 ≤ aDec e && aDec e ≤ 102400 &&
    (aGain e = 0 || aKind e = 0 || aKind e = 3) && (aFir e = 0 || s.firLen (aFir e - 1) ≠ 0)

/-- Whether excitation source n delivers: enabled and not off for overload (R266). -/
def State.excOn (s : State) (n : Nat) : Bool := s.flag (F.AFE_EXCCFG_EN n) && !s.flag (F.AFE_EXCSTAT_EXCF n)

/-- The settling time of an input in ns: (K + N) output periods of DEC ÷ 1,024,000 s (R264). -/
def State.settleNs (s : State) (i : Nat) : Nat :=
  let e := s.entry 4 i
  ((aOrder e + s.ainTaps e) * aDec e * 15625 + 15) / 16

/-- The group delay of an input's filters in ns: K × (DEC − 1) ÷ 2 periods of the modulator's 1.024 MHz for the sinc filter and
(N − 1) ÷ 2 output periods for the FIR set (R264, log entry 24). -/
def State.groupDelay (s : State) (i : Nat) : Nat :=
  let e := s.entry 4 i
  (aOrder e * (aDec e - 1) + (s.ainTaps e - 1) * aDec e) * 15625 / 32

/-- Whether an output period of DEC ÷ 1,024,000 s has passed since the last conversion of input i ended, on the grid of 20 ns
on which instants are held (R264). -/
def State.ainDue (s : State) (i : Nat) : Bool := aDec (s.entry 4 i) * 15625 < 16 * (s.now + 20 - (s.ain i).convAt)

/-- Whether a result of input i now is settling: up to the settling time after the later of its restart and the instant at which
its cluster's source has settled (R267). -/
def State.settling (s : State) (i : Nat) : Bool :=
  match (s.ain i).origin with
  | some o => s.now ≤ max o (SMap.get (fun _ => 0) s.afe.srcs (i / 4)) + s.settleNs i
  | none => false

/-- A settling restart of input i now (R267). -/
def State.settleFrom (s : State) (i : Nat) : State := s.setAin i { s.ain i with origin := some s.now }

/-- A settling restart of the four inputs of cluster n, whose source comes within 0.1 % of its new value at most 1 ms from now;
where in that millisecond is left open (R267, log entry 24). -/
def State.settleCluster (s : State) (n : Nat) : State :=
  let (d, s) := s.drawNat 32
  let s : State := { s with afe := { s.afe with srcs := SMap.set (fun _ => 0) s.afe.srcs n (s.now + d % 1000001) } }
  [0, 1, 2, 3].foldl (fun s k => s.settleFrom (4 * n + k)) s

/-- SETTLING of AFE_EXCSTATn: an input of the cluster is settling (R267). -/
def State.excSettling (s : State) (n : Nat) : Bool :=
  s.flag F.AFE_CTL_EN && [0, 1, 2, 3].any (fun k => s.ainValid (4 * n + k) && s.settling (4 * n + k))

/-- The result word of input i: STATUS and CODE (R265). -/
def State.setResult (s : State) (i : Nat) (status code : Nat) : State :=
  s.setReg (R.AFE_RES i) (BitVec.ofNat 32 (status * 2 ^ 29 + code % 2 ^ 24))

/-- Input i reads NONE. -/
def State.ainNone (s : State) (i : Nat) : State := s.setResult i 7 0

/-- An input that has its excitation off reads OPEN: a valid BRIDGE, RATIO or RTD input, with the AFE enabled (R266). -/
def State.readOpen (s : State) (i : Nat) : State :=
  if s.flag F.AFE_CTL_EN && s.ainValid i && aKind (s.entry 4 i) ≠ 2 && !s.excOn (i / 4) then s.setFld (F.AFE_RES_STATUS i) 2
  else s

/-- The four inputs of cluster n, where their source is off (R266). -/
def State.clusterOpen (s : State) (n : Nat) : State := [0, 1, 2, 3].foldl (fun s k => s.readOpen (4 * n + k)) s

/-- a ÷ b to the nearest integer, as the codes of Table 11-2 are rounded (log entry 24). -/
def nearest (a b : Int) : Int := (2 * a + b) / (2 * b)

/-- The code of Table 11-2 before it saturates: x in nV, for a CURRENT input in nA; the excitation in µV. -/
def ainRaw (e : List Byte) (x : Int) (vexc : Nat) : Int :=
  match aKind e with
  | 2 => nearest (2 ^ 23 * x) 25000000
  | 1 => nearest (2 ^ 23 * x) (1000 * vexc : Nat)
  | _ => nearest (2 ^ 23 * 2 ^ aGain e * x) (1000 * vexc : Nat)

/-- The code of Table 11-2, saturated to 24 bits. -/
def ainCode (e : List Byte) (x : Int) (vexc : Nat) : Int := clampI (-8388608) 8388607 (ainRaw e x vexc)

/-- Whether the comparator of an input trips (Table 11-2): the voltages of the positive and the negative pin in nV, for a CURRENT
input its current in nA as the first, the excitation in µV. -/
def ainTrips (e : List Byte) (p n : Int) (vexc : Nat) : Bool :=
  let top : Int := (1000 * vexc : Nat)
  match aKind e with
  | 2 => p < 3600000 || 21000000 < p
  | 1 => 20 * (p - n) < top || 19 * top < 20 * (p - n)
  | _ =>
    let leaves := fun (v : Int) => v < 50000000 || top - 50000000 < v
    leaves p || leaves n || ainCode e (p - n) vexc ≠ ainRaw e (p - n) vexc

/-- A code through FIR set f: the sum of tap times output, newest first, Q2.16 (R264). -/
def State.firSum (s : State) (f : Nat) (h : List Int) : Int :=
  ((List.range (s.firLen f)).map (fun t => s.fldInt (F.AFE_FIR_COEF f t) * h.getD t 0)).sum / 2 ^ 16

/-- The status and code of a result, the first of Table 11-3 that applies: `off` its excitation is off, `trip` the comparator
tripped before the conversion began or trips while the input settles, `suspect` it tripped during the conversion. -/
def ainStatus (e : List Byte) (off trip suspect settling : Bool) (lastOk : Option Nat) (code : Nat) : Nat × Nat :=
  if off || trip then (2, code)
  else if suspect then (1, code)
  else if !settling then (0, code)
  else if aHoldPol e = 1 then (3, code)
  else match lastOk with
    | some k => (4, k)
    | none => (3, 0)

/-- A conversion of input i ends (R263-R268): its code, its status by precedence, the instant that it represents. -/
def State.ainResult (s : State) (i : Nat) (x : Int) (vexc t : Nat) : State :=
  let e := s.entry 4 i
  let n := i / 4
  let on := s.excOn n
  let s := s.setFld (F.AFE_EXCSTAT_VMEAS n) (if on then min (vexc / 1000) 65535 else 0)
  let (raw, s) := if aKind e ≠ 2 && vexc = 0 then (let (d, s) := s.drawNat 24; (sext 24 d, s)) else (ainCode e x vexc, s)
  let a := s.ain i
  let hist := (raw :: a.hist).take 32
  let code := toBits 24 (if aFir e = 0 then raw else clampI (-8388608) 8388607 (s.firSum (aFir e - 1) hist))
  let settling := s.settling i
  let trip := s.flag (F.AFE_CHSTAT_TRIP i) && (a.tripAt ≤ a.convAt || settling)
  let r := ainStatus e (aKind e ≠ 2 && !on) trip a.suspect settling a.lastOk code
  let s := s.setAin i { a with
    convAt := s.now, suspect := false, hist := hist, ts := t % 2 ^ 32, lastOk := if r.1 = 0 then some code else a.lastOk }
  s.setResult i r.1 r.2

/-- AFE_OPEN (R268): the comparator of an input, evaluated on the voltages of its pins (a CURRENT input: its current) and the
excitation, trips: the conversion in progress is suspect, TRIP and OPEN set, and the trip is recorded once. -/
def execAfeOpen (x : Fin 48 × BitVec 40 × BitVec 40 × BitVec 24) (s : State) : Out :=
  let (i, p, n, vexc) := x
  if s.flag F.AFE_CTL_EN && s.ainValid i && !s.flag (F.AFE_CHSTAT_TRIP i) &&
      ainTrips (s.entry 4 i) p.toInt n.toInt vexc.toNat then
    let s := (s.setFld (F.AFE_CHSTAT_TRIP i) 1).setAin i { s.ain i with tripAt := s.now, suspect := true }
    .next ((s.raiseBoth (F.AFE_CHSTAT_OPEN i) F.AFE_STAT_OPEN 193).event 0x0902 [])
  else .next s

/-- COMPARATOR_CLEAR (R268): on the voltages of its pins the comparator of an input is no longer tripped, and the input makes a
settling restart. -/
def execComparatorClear (x : Fin 48 × BitVec 40 × BitVec 40 × BitVec 24) (s : State) : Out :=
  let (i, p, n, vexc) := x
  if s.flag (F.AFE_CHSTAT_TRIP i) && !(s.ainValid i && ainTrips (s.entry 4 i) p.toInt n.toInt vexc.toNat) then
    .next ((s.setFld (F.AFE_CHSTAT_TRIP i) 0).settleFrom i)
  else .next s

/-- AFE_EXC_FAULT (R266): EXCn has been loaded above 40 mA for `us` µs; from 1 ms it switches off, EXCF sets, the fault is
recorded, and its inputs read OPEN. -/
def execAfeExcFault (n : Fin 12) (us : BitVec 32) (s : State) : Out :=
  if s.excOn n ∧ 1000 ≤ us.toNat then
    let s := (s.raiseBoth (F.AFE_EXCSTAT_EXCF n) F.AFE_STAT_EXCF 193).setFld (F.AFE_EXCSTAT_VMEAS n) 0
    .next ((s.event 0x0903 []).clusterOpen n)
  else .next s

/-- The voltage at the sense pins of cluster n after a change of its source: 0 where it is off, and on its way to the new value,
which is left open, where it is on (R266, log entry 24). -/
def State.excMeasure (s : State) (n : Nat) : State :=
  if s.excOn n then
    let (d, s) := s.drawNat 16
    s.setFld (F.AFE_EXCSTAT_VMEAS n) d
  else s.setFld (F.AFE_EXCSTAT_VMEAS n) 0

/-- A write of AFE_EXCSTATn: writing 1 to EXCF turns the source back on with a settling restart of the cluster (R266, R267). -/
def State.writeExcStat (s : State) (n : Nat) (w : Word) : State :=
  let had := s.flag (F.AFE_EXCSTAT_EXCF n)
  let s := s.writePlain (R.AFE_EXCSTAT n) w
  if had && !s.flag (F.AFE_EXCSTAT_EXCF n) then (s.excMeasure n).settleCluster n else s

/-- EXC_RESTORE (R266). -/
def execExcRestore (acc : Acc) (n : Fin 12) (s : State) : Out :=
  .next (s.guardWrite acc (R.AFE_EXCSTAT n) (fun s => s.writeExcStat n 0x80000000))

/-- A write of AFE_EXCCFGn: VSEL 3 reads as 0; a change of EN or VSEL restarts settling of the cluster (R266, R267). -/
def State.writeExcCfg (s : State) (n : Nat) (w : Word) : State :=
  let old := s.reg (R.AFE_EXCCFG n)
  let s := s.writePlain (R.AFE_EXCCFG n) w
  let s := if s.fld (F.AFE_EXCCFG_VSEL n) = 3 then s.setFld (F.AFE_EXCCFG_VSEL n) 0 else s
  if s.reg (R.AFE_EXCCFG n) = old then s else ((s.excMeasure n).settleCluster n).clusterOpen n

/-- EXC_CONFIG_WRITE (R267). -/
def execExcConfigWrite (acc : Acc) (n : Fin 12) (value : Word) (s : State) : Out :=
  .next (s.guardWrite acc (R.AFE_EXCCFG n) (fun s => s.writeExcCfg n value))

/-- The entry of input i is invalid: it is not converted, reads NONE, and the fault is recorded (R262). -/
def State.ainBad (s : State) (i : Nat) : State :=
  ((s.ainNone i).raiseBoth (F.AFE_CHSTAT_CONFIG i) F.AFE_STAT_CONFIG 193).event 0x0901 [w32 i]

/-- A write to FIR set f (its length or a tap) restarts settling of every input that uses it; an entry that a length of 0 makes
invalid is no longer converted, and one that a length makes valid is from now on; a locked write changes nothing (R262, R267, R281). -/
def State.writeFir (s : State) (f : Nat) (a : Nat) (w : Word) : State :=
  if s.locked a then s
  else
    let was := (List.range 48).filter (fun i => s.ainValid i)
    let s := s.writePlain a w
    (List.range 48).foldl (fun s i =>
      if s.hasEntry 4 i && aFir (s.entry 4 i) = f + 1 then
        if s.ainValid i then
          let s := if was.contains i then s else s.setAin i { s.ain i with convAt := s.now }
          (s.settleFrom i).readOpen i
        else if was.contains i then s.ainBad i else s
      else s) s

/-- FIR_WRITE (R267): the length of set f, or its tap t. -/
def execFirWrite (acc : Acc) (f : Fin 3) (tap : Option (Fin 32)) (value : Word) (s : State) : Out :=
  let a := match tap with
    | none => R.AFE_FIRLEN f
    | some t => R.AFE_FIR f t
  .next (s.guardWrite acc a (fun s => s.writeFir f a value))

/-- A write of AFE_CTL: EN 1 is a settling restart of every input; where it enables the AFE, no OK code is held and the first
conversions begin; EN 0 makes every result NONE (R267, Table 11-3). -/
def State.writeAfeCtl (s : State) (w : Word) : State :=
  let was := s.flag F.AFE_CTL_EN
  let s := s.writePlain R.AFE_CTL w
  if s.flag F.AFE_CTL_EN then
    (List.range 48).foldl (fun s i =>
      let s := if was then s else s.setAin i { s.ain i with lastOk := none, convAt := s.now, suspect := false }
      (s.settleFrom i).readOpen i) s
  else (List.range 48).foldl (fun s i => s.ainNone i) s

/-- AFE_ENABLE (R267). -/
def execAfeEnable (acc : Acc) (value : Word) (s : State) : Out :=
  .next (s.guardWrite acc R.AFE_CTL (fun s => s.writeAfeCtl value))

/-- AFE_RESULT_READ (R281): a read of AFE_RESi latches AFE_TSi. -/
def execAfeResultRead (acc : Acc) (i : Fin 48) (s : State) : Out :=
  .next (s.guardRead acc (R.AFE_RES i) (fun s => s.reg (R.AFE_RES i)) (fun s => s.setReg (R.AFE_TS i) (w32 (s.ain i).ts)))

/-- An entry of the AFE table has been accepted over an old copy (R262, R266, R267). -/
def State.acceptAfe (s : State) (i : Nat) (old : List Byte) : State :=
  let e := s.entry 4 i
  if s.ainValid i then
    if aKind old = aKind e ∧ aGain old = aGain e ∧ aSinc5 old = aSinc5 e ∧ aDec old = aDec e ∧ aFir old = aFir e ∧
        field old 3 1 % 4 = field e 3 1 % 4 then s
    else ((s.setAin i { s.ain i with convAt := s.now }).settleFrom i).readOpen i
  else if s.hasEntry 4 i then s.ainBad i
  else s.ainNone i

/-! ### Pulse inputs -/

/-- Pulse input n beside its registers. -/
def State.pin (s : State) (n : Nat) : Pin := SMap.get (fun _ => Pin.init) s.afe.pins n

/-- Replace the record of pulse input n. -/
def State.setPin (s : State) (n : Nat) (x : Pin) : State :=
  { s with afe := { s.afe with pins := SMap.set (fun _ => Pin.init) s.afe.pins n x } }

/-- Fields of a PLS entry (Table 11-6). -/
def pMode (e : List Byte) : Nat := field e 2 1 % 4
def pEdge (e : List Byte) : Nat := field e 2 1 / 4 % 4
def pOpenChk (e : List Byte) : Bool := field e 2 1 / 64 % 2 = 1
def pFilt (e : List Byte) : Nat := field e 8 2
def pWin (e : List Byte) : Nat := field e 10 2
def pOpenT (e : List Byte) : Nat := field e 12 2

/-- Whether a number lies in a range. -/
def within (lo hi x : Nat) : Bool := lo ≤ x && x ≤ hi

/-- Whether an accepted PLS entry is valid (R272). -/
def State.pinValid (s : State) (n : Nat) : Bool :=
  let e := s.entry 5 n
  let pull := field e 2 1 / 16 % 4
  let thr := field e 4 2
  let hyst := field e 6 1
  let levels := within 20 1200 thr && within 5 100 hyst && pFilt e ≤ 1000 && within 1 1000 (pWin e)
  let modeOk := match pMode e with
    | 0 => pEdge e ≠ 0 && levels
    | 1 => levels && s.hasEntry 5 (n ^^^ 1) && pMode (s.entry 5 (n ^^^ 1)) = 1
    | 2 => within 1 999 (field e 14 2) && within (field e 14 2 + 1) 1000 (field e 16 2) &&
        within 10 2000 (field e 18 2) && within 1 1000 (pWin e)
    | _ => false
  s.hasEntry 5 n && modeOk && pull ≠ 3 && field e 2 1 / 128 = 0 && field e 3 1 = 0 && field e 7 1 = 0 &&
    field e 20 4 = 0 && field e 28 2 = 0 &&
    (!pOpenChk e || (within 10 1000 (pOpenT e) && pull = 0 && (2 * thr + hyst < 400 || 600 + hyst < 2 * thr)))

/-- Whether pulse input n works: PLS enabled and its entry valid. -/
def State.pinOn (s : State) (n : Nat) : Bool := s.flag F.PLS_CTL_EN && s.pinValid n

/-- Whether input n is OPEN; a quadrature pair is OPEN when either of its inputs is (R275). -/
def State.pinOpen (s : State) (n : Nat) : Bool :=
  s.flag (F.PLS_CHSTAT_OPEN_NOW n) || (s.pinOn n && pMode (s.entry 5 n) = 1 && s.flag (F.PLS_CHSTAT_OPEN_NOW (n ^^^ 1)))

/-- End the OPEN report of input n; the flag OPEN keeps its value (R275). -/
def State.pinOpenClear (s : State) (n : Nat) : State := s.setFld (F.PLS_CHSTAT_OPEN_NOW n) 0

/-- The direction of a change of the AB state (R67): +1 forward, A leading B; -1 reverse; 0 where both changed or none. -/
def quadDir (a b a' b' : Bool) : Int :=
  if a ≠ a' ∧ b ≠ b' then 0
  else if a ≠ a' then (if a' ≠ b then 1 else -1)
  else if b ≠ b' then (if b' = a then 1 else -1)
  else 0

/-- Count an edge of input n at an instant: the count moves by d, the stamp and the rate window take it. -/
def State.countEdge (s : State) (n : Nat) (t : Nat) (d : Int) : State :=
  let s := s.setInt (F.PLS_CNT_COUNT n) (s.fldInt (F.PLS_CNT_COUNT n) + d)
  let s := s.setFld (F.PLS_TS_TIME n) (t % 2 ^ 32)
  s.setPin n { s.pin n with times := t :: (s.pin n).times, last := some t, dir := d }

/-- The registers of PLS(2k+1) read as those of PLS(2k) in QUAD mode (R274): k is the even input. -/
def State.quadCopy (s : State) (k : Nat) : State :=
  [(R.PLS_CNT k, R.PLS_CNT (k + 1)), (R.PLS_RATE k, R.PLS_RATE (k + 1)), (R.PLS_TS k, R.PLS_TS (k + 1)),
   (R.PLS_AUX k, R.PLS_AUX (k + 1))].foldl (fun s p => s.setReg p.2 (s.reg p.1)) s

/-- What an accepted level change gives the consumers: nothing, an edge of a single input, a quadrature change of a
pair with its direction, an illegal quadrature change. -/
inductive EdgeKind where
  | quiet
  | single
  | quad (dir : Int)
  | illegal
  deriving DecidableEq, Repr

/-- An accepted level change of input n, to a level, first changed at t; `both` where its pair partner changed in the
same sample (R273-R275). -/
def State.pinEdge (s : State) (n : Nat) (level both : Bool) (t : Nat) : EdgeKind × State :=
  let e := s.entry 5 n
  if !s.pinOn n || decide (s.now < t + 10 * pFilt e) then (.quiet, s)
  else match pMode e with
  | 0 =>
    if s.flag (F.PLS_CHSTAT_LEVEL n) = level then (.quiet, s)
    else
      let s := (s.setBit (F.PLS_CHSTAT_LEVEL n) level).pinOpenClear n
      if (level ∧ pEdge e % 2 = 1) ∨ (!level ∧ 2 ≤ pEdge e) then (.single, s.countEdge n t 1) else (.quiet, s)
  | 1 =>
    let k := n / 2 * 2
    let m := n ^^^ 1
    if !s.pinOn m || s.flag (F.PLS_CHSTAT_LEVEL n) = level then (.quiet, s)
    else
      let a := s.flag (F.PLS_CHSTAT_LEVEL k)
      let b := s.flag (F.PLS_CHSTAT_LEVEL (k + 1))
      let s := s.setBit (F.PLS_CHSTAT_LEVEL n) level
      let s := if both then s.setBit (F.PLS_CHSTAT_LEVEL m) (!s.flag (F.PLS_CHSTAT_LEVEL m)) else s
      let s := (s.pinOpenClear k).pinOpenClear (k + 1)
      let d := quadDir a b (s.flag (F.PLS_CHSTAT_LEVEL k)) (s.flag (F.PLS_CHSTAT_LEVEL (k + 1)))
      if d = 0 then (.illegal, s)
      else
        let s := s.countEdge k t d
        (.quad d, s.quadCopy k)
  | _ => (.quiet, s)

/-- The rate of input n at an instant, in mHz (R273, R276). -/
def State.pinRate (s : State) (n t : Nat) : Int :=
  let e := s.entry 5 n
  let x := s.pin n
  let win := x.times.filter (fun u => t < u + pWin e * 1000000)
  let old := s.fldInt (F.PLS_RATE_RATE n)
  if pMode e = 2 then (win.length * 1000000 / pWin e : Nat)
  else match x.last with
  | none => 0
  | some last =>
    if last + 10000000000 ≤ t then 0
    else
      let sign : Int := if old < 0 then -1 else 1
      match win.getLast? with
      | some first =>
        if 2 ≤ win.length ∧ first < last then
          let m := (win.length - 1) * 1000000000000 / (last - first)
          x.dir * (m : Int)
        else sign * (min old.natAbs (1000000000000 / max 1 (t - last)) : Nat)
      | none => sign * (min old.natAbs (1000000000000 / max 1 (t - last)) : Nat)

/-- PLS_OPEN (R275): the pin has stayed within 2.0 V to 3.0 V for `ms` ms; from OPENT the input reports OPEN. -/
def execPlsOpen (n : Fin 24) (ms : BitVec 16) (s : State) : Out :=
  let e := s.entry 5 n
  if s.pinOn n && pOpenChk e && decide (pOpenT e ≤ ms.toNat) && !s.flag (F.PLS_CHSTAT_OPEN_NOW n) then
    .next (((s.setFld (F.PLS_CHSTAT_OPEN_NOW n) 1).raiseBoth (F.PLS_CHSTAT_OPEN n) F.PLS_STAT_OPEN 194).event 0x0905 [])
  else .next s

/-- PLS_OPEN_CLEAR (R275): the pin has been outside the window for `ms` ms, or the test has stopped. -/
def execPlsOpenClear (n : Fin 24) (ms : BitVec 16) (s : State) : Out :=
  if !s.pinOn n || !pOpenChk (s.entry 5 n) || decide (pOpenT (s.entry 5 n) ≤ ms.toNat) then .next (s.pinOpenClear n) else .next s

/-- IMPACT (R276): an impact of a peak in 10 mV, begun at a stamp, ends now. -/
def execPlsImpact (n : Fin 24) (peak : BitVec 10) (ts : Word) (s : State) : Out :=
  let e := s.entry 5 n
  let t := s.fromShort ts.toNat
  if s.pinOn n ∧ pMode e = 2 ∧ field e 14 2 < peak.toNat ∧ (s.pin n).dead ≤ t then
    let s := s.setFld (F.PLS_CHSTAT_PEAK n) peak.toNat
    let s := s.setFld (F.PLS_TS_TIME n) (t % 2 ^ 32)
    let s := s.setPin n { s.pin n with dead := s.now + 1000 * field e 18 2, last := some t }
    let s := if pOpenChk e then s.pinOpenClear n else s
    if peak.toNat ≤ field e 16 2 then
      .next ((s.setFld (F.PLS_CNT_COUNT n) (s.fld (F.PLS_CNT_COUNT n) + 1)).setPin n { s.pin n with times := t :: (s.pin n).times })
    else .next (s.setFld (F.PLS_AUX_COUNT n) (s.fld (F.PLS_AUX_COUNT n) + 1))
  else .next s

/-- A write of PLS_CTL: EN 0 stops the open tests (R275). -/
def State.writePlsCtl (s : State) (w : Word) : State :=
  let s := s.writePlain R.PLS_CTL w
  if s.flag F.PLS_CTL_EN then s else (List.range 24).foldl (fun s n => s.pinOpenClear n) s

/-- The entry of input n is invalid: the open test stops, and the fault is recorded (R272, R275). -/
def State.pinBad (s : State) (n : Nat) : State :=
  ((s.pinOpenClear n).raiseBoth (F.PLS_CHSTAT_CONFIG n) F.PLS_STAT_CONFIG 194).event 0x0904 []

/-- An entry of the PLS table has been accepted over an old copy; it can make the partner's QUAD entry invalid too (R272, R275). -/
def State.acceptPls (s : State) (n : Nat) (old : List Byte) : State :=
  let m := n ^^^ 1
  let was := (s.setEntry 5 n old).pinValid m
  let s := if s.pinOn n && pOpenChk (s.entry 5 n) then s else s.pinOpenClear n
  let s := if s.hasEntry 5 n && !s.pinValid n then s.pinBad n else s
  let s := if was && !s.pinValid m then s.pinBad m else s
  if s.pinValid n && pMode (s.entry 5 n) = 1 then s.quadCopy (n / 2 * 2) else s

/-! ### Zero-cross inputs -/

/-- Zero-cross input z beside its registers. -/
def State.zx (s : State) (z : Nat) : Zx := SMap.get (fun _ => Zx.init) s.afe.zxs z

/-- Replace the record of zero-cross input z. -/
def State.setZx (s : State) (z : Nat) (x : Zx) : State :=
  { s with afe := { s.afe with zxs := SMap.set (fun _ => Zx.init) s.afe.zxs z x } }

/-- OK of input z clears; ZXF sets when it was set (R277). -/
def State.zxFail (s : State) (z : Nat) : State :=
  if s.flag (F.PLS_ZXSTAT_OK z) then (s.setFld (F.PLS_ZXSTAT_OK z) 0).raiseBoth (F.PLS_ZXSTAT_ZXF z) F.PLS_STAT_ZXF 194 else s

/-- A crossing of input z at an instant: stamp, period in 100 ns, health by Table 3-6 (R277). -/
def State.zxCross (s : State) (z t : Nat) : State :=
  let x := s.zx z
  let s := s.setFld (F.PLS_ZXTS_TIME z) (t % 2 ^ 32)
  match x.last with
  | none => s.setZx z { x with last := some t }
  | some l =>
    let p := t - l
    let s := s.setFld (F.PLS_ZXSTAT_PERIOD z) (min (p / 100) (2 ^ 24 - 1))
    if 14300000 ≤ p ∧ p ≤ 25000000 then
      let s := s.setZx z { last := some t, bad := 0, good := min (x.good + 1) 16 }
      if 16 ≤ x.good + 1 then s.setFld (F.PLS_ZXSTAT_OK z) 1 else s
    else
      let s := s.setZx z { last := some t, bad := min (x.bad + 1) 3, good := 0 }
      if 3 ≤ x.bad + 1 then s.zxFail z else s

/-- ZX_OK_CLEAR (R277): no crossing for 50 ms, or EN 0. -/
def execZxOkClear (z : Fin 2) (s : State) : Out :=
  let late := match (s.zx z).last with
    | some t => s.elapsed t 50000000
    | none => true
  if late || !s.flag (F.PLS_ZXCFG_EN z) then .next ((s.zxFail z).setZx z { s.zx z with good := 0 }) else .next s

/-- A write of PLS_ZXCFGz: EN 0 clears OK (R277). -/
def State.writeZxCfg (s : State) (z : Nat) (w : Word) : State :=
  let s := s.writePlain (R.PLS_ZXCFG z) w
  if s.flag (F.PLS_ZXCFG_EN z) then s else (s.zxFail z).setZx z Zx.init

/-! ### Inertial unit -/

/-- IMU_SELF_TEST (R278): writing 1 to ST starts a self-test of 50 ms; ST reads 1 while it runs. -/
def State.writeImuCtl (s : State) (w : Word) : State :=
  let was := s.flag F.IMU_CTL_ST
  let s := s.writePlain R.IMU_CTL w
  let s := if 5 ≤ s.fld F.IMU_CTL_GRANGE then s.setFld F.IMU_CTL_GRANGE 2 else s
  if s.flag F.IMU_CTL_ST && !was then { s with afe := { s.afe with selfTest := some s.now } } else s

def execImuSelfTest (acc : Acc) (s : State) : Out :=
  .next (s.guardWrite acc R.IMU_CTL (fun s => s.writeImuCtl (F.IMU_CTL_ST.put (s.reg R.IMU_CTL) 1)))

/-- SELF_TEST_END (R278): 50 ms after its start the self-test ends with ST_PASS or ST_FAIL. -/
def execSelfTestEnd (pass : Bool) (s : State) : Out :=
  match s.afe.selfTest with
  | some t =>
    if s.elapsed t 50000000 then
      let s : State := { s with afe := { s.afe with selfTest := none } }
      .next ((s.setFld F.IMU_CTL_ST 0).raiseFlag (if pass then F.IMU_STAT_ST_PASS else F.IMU_STAT_ST_FAIL) 195)
    else .next s
  | none => .next s

/-- A sample of the inertial unit: AX, AY, AZ, GX, GY, GZ, TEMP in register units and its stamp (R278). Full scale on
an axis sets CLIP. -/
def State.imuSample (s : State) (v : List Nat) (ts : Nat) : State :=
  let clip := (v.take 6).any (fun x => x = 32767 || x = 32768)
  let s : State := { s with afe := { s.afe with imu := v ++ [ts] } }
  let s := s.setReg R.IMU_AXY (w32 (v.getD 1 0 * 65536 + v.getD 0 0))
  if clip then s.raiseFlag F.IMU_STAT_CLIP 195 else s

/-- The other sample registers for the sample in IMU_AXY (R283). -/
def State.imuLatch (s : State) : State :=
  let v := s.afe.imu
  let s := s.setReg R.IMU_AZT (w32 (v.getD 6 0 * 65536 + v.getD 2 0))
  let s := s.setReg R.IMU_GXY (w32 (v.getD 4 0 * 65536 + v.getD 3 0))
  (s.setReg R.IMU_GZ (w32 (v.getD 5 0))).setReg R.IMU_TS (w32 (v.getD 7 0))

/-- IMU_SAMPLE_READ (R283): a read of IMU_AXY latches the other sample registers for the same sample. -/
def execImuSampleRead (acc : Acc) (s : State) : Out :=
  .next (s.guardRead acc R.IMU_AXY (fun s => s.reg R.IMU_AXY) (fun s => s.imuLatch))

/-- The acceleration range in mm/s² and the gyroscope range in µrad/s (Table 11-11). -/
def State.imuRanges (s : State) : Int × Int :=
  let g : Int := 980665 * 2 ^ (s.fld F.IMU_CTL_ARANGE + 1) / 100
  let w : Int := (125000000 * 2 ^ s.fld F.IMU_CTL_GRANGE : Int) * 31415927 / 1800000000
  (g, w)

/-! ### Register writes -/

/-- A register write in the AFE window. -/
def State.writeAfe (s : State) (a : Nat) (w : Word) : State :=
  if a = R.AFE_CTL then s.writeAfeCtl w
  else if R.AFE_EXCCFG 0 ≤ a ∧ a < R.AFE_EXCCFG 12 then s.writeExcCfg ((a - R.AFE_EXCCFG 0) / 4) w
  else if R.AFE_EXCSTAT 0 ≤ a ∧ a < R.AFE_EXCSTAT 12 then s.writeExcStat ((a - R.AFE_EXCSTAT 0) / 4) w
  else if R.AFE_FIRLEN 0 ≤ a ∧ a < R.AFE_FIRLEN 3 then s.writeFir ((a - R.AFE_FIRLEN 0) / 4) a w
  else if R.AFE_FIR 0 0 ≤ a ∧ a < R.AFE_FIR 3 0 then s.writeFir ((a - R.AFE_FIR 0 0) / 0x80) a w
  else s.writePlain a w

/-- A register write in the PLS window. -/
def State.writePls (s : State) (a : Nat) (w : Word) : State :=
  if a = R.PLS_CTL then s.writePlsCtl w
  else if a = R.PLS_ZXCFG 0 then s.writeZxCfg 0 w
  else if a = R.PLS_ZXCFG 1 then s.writeZxCfg 1 w
  else s.writePlain a w

/-- A register write in the IMU window. -/
def State.writeImu (s : State) (a : Nat) (w : Word) : State :=
  if a = R.IMU_CTL then s.writeImuCtl w else s.writePlain a w

end Sys2Proof.Machine
end

