-- ==== Sys2Proof/Machine/Weave.lean ====
section
/-! DEFINITION. Weave: source slots, time alignment, voting, the motion solution, projection and tracks
(12_weave_fusion.md). What the manual does not state of the fusion filter, the drift fit and the track filter is a free
value (log entry 25). -/

namespace Sys2Proof.Machine

/-! ### Slots -/

/-- Source slot x beside its registers. -/
def State.src (s : State) (x : Nat) : WSrc := SMap.get (fun _ => WSrc.init) s.wve.srcs x

/-- Replace the record of slot x. -/
def State.setSrc (s : State) (x : Nat) (r : WSrc) : State :=
  { s with wve := { s.wve with srcs := SMap.set (fun _ => WSrc.init) s.wve.srcs x r } }

/-- Fields of a source entry (Table 12-2). -/
def wKind (e : List Byte) : Nat := field e 2 1 % 16
def wBody (e : List Byte) : Nat := field e 2 1 / 16 % 2
def wClk (e : List Byte) : Nat := field e 2 1 / 32 % 2
def wInput (e : List Byte) : Nat := field e 4 2 % 4096
def wPos (e : List Byte) : Int × Int × Int := (fieldInt e 8 4, fieldInt e 12 4, fieldInt e 16 4)
def wRot (e : List Byte) : Int × Int × Int := (fieldInt e 20 4, fieldInt e 24 4, fieldInt e 28 4)
/-- The expected period in ns; 1/3 s for an aperiodic source, so that three periods are 1 s (Table 12-9). -/
def wPeriod (e : List Byte) : Nat := if field e 32 4 = 0 then 333333334 else 1000 * field e 32 4
def wFixlat (e : List Byte) : Int := 1000 * fieldInt e 44 2
def wLate (e : List Byte) : Nat := field e 46 2
def wCoast (e : List Byte) : Nat := field e 48 2
def wVdwell (e : List Byte) : Nat := field e 50 2
def wReinst (e : List Byte) : Nat := field e 52 2
def wRedpct (e : List Byte) : Nat := field e 54 1
def wDrwin (e : List Byte) : Nat := field e 55 1

/-- Whether a kind is a motion source (Table 12-1). -/
def isMotion (k : Nat) : Bool := 1 ≤ k && k ≤ 6

/-- Whether an INPUT is one that Table 12-1 allows for a kind. -/
def wInputOk (k inp : Nat) : Bool :=
  match k with
  | 0 | 1 | 2 | 3 | 5 => inp = 0
  | 4 => inp = 0xFFF || within 0x10 0x3B inp
  | 6 | 9 => inp = 0xFFF
  | 7 => inp = 0xFFF || within 0x100 0x12F inp
  | 8 => inp ≤ 7
  | _ => false

/-- The entry slot x has, or will have from the next epoch. -/
def State.srcEntry (s : State) (x : Nat) : List Byte :=
  match (s.src x).next with
  | some e => e
  | none => (s.src x).entry

/-- Whether the entry of slot x is valid beside the others (R285). -/
def State.srcValid (s : State) (x : Nat) (e : List Byte) : Bool :=
  let k := wKind e
  let unique := k = 1 || k = 2 || k = 3 || k = 5 || k = 6
  e ≠ [] && field e 0 2 ≠ 0 && k < 10 && field e 2 1 / 64 = 0 && field e 3 1 = 0 && field e 4 2 < 4096 && field e 6 2 = 0 &&
    field e 60 2 = 0 && wInputOk k (wInput e) && wLate e ≤ 500 && within 1 100 (wRedpct e) &&
    (wClk e = 0 || within 8 255 (wDrwin e)) &&
    (!(k = 4 || k = 7) || (field e 36 4 % 2 ^ 31 ≠ 0 && !f32Special (field e 36 4))) &&
    !(unique && (List.range 32).any (fun y => y ≠ x && s.srcEntry y ≠ [] && field (s.srcEntry y) 0 2 ≠ 0 && wKind (s.srcEntry y) = k))

/-- Whether slot x holds a working source: LOADED (Table 12-13). -/
def State.srcLoaded (s : State) (x : Nat) : Bool := s.flag (F.WVE_SRCSTAT_LOADED x) && wKind (s.src x).entry ≠ 0

/-- The loaded slot of a kind. -/
def State.slotOf (s : State) (k : Nat) : Option Nat :=
  (List.range 32).find? (fun x => s.srcLoaded x && wKind (s.src x).entry = k)

/-- Whether a source is absent from the part: GNSS and HEADING without the GNS unit, PARTNER without the link (R285, R7). -/
def Part.noSource (p : Part) (k : Nat) : Bool := ((k = 1 || k = 2) && !p.hasGNS) || (k = 5 && !p.hasTDM)

/-! ### Tracks -/

/-- Track x, if it is in use. -/
def State.trk (s : State) (x : Nat) : Option Trk := SMap.get (fun _ => none) s.wve.tracks x

/-- Replace track x. -/
def State.setTrk (s : State) (x : Nat) (r : Option Trk) : State :=
  { s with wve := { s.wve with tracks := SMap.set (fun _ => none) s.wve.tracks x r } }

/-- Bring WVE_TRKNUM up to date. -/
def State.trkCount (s : State) : State :=
  let l := s.wve.tracks.filterMap (fun p => p.2)
  (s.setFld F.WVE_TRKNUM_TENTATIVE (l.filter (fun t => t.state = 0)).length).setFld F.WVE_TRKNUM_CONFIRMED
    (l.filter (fun t => t.state ≠ 0)).length

/-- The L2 record of a track (R308). -/
def Trk.bytes (t : Trk) (x : Nat) : List Byte :=
  leBytes 1 2 ++ leBytes 1 t.kind ++ leBytes 1 t.rev ++ leBytes 1 t.state ++ leBytes 4 t.inst ++ leBytes 2 x ++
    leBytes 2 t.hits ++ leBytes 4 (toBits 32 t.e) ++ leBytes 4 (toBits 32 t.n) ++ leBytes 4 (toBits 32 t.dir) ++
    leBytes 4 (toBits 32 t.len) ++ leBytes 4 (toBits 32 t.width) ++ leBytes 4 (toBits 32 t.ve) ++
    leBytes 4 (toBits 32 t.vn) ++ leBytes 4 t.mask ++ leBytes 20 0

/-- Write a Weave record to queue 0x06; with FLUSH 0 its descriptor completes at once (R311). -/
def State.wveRecord (s : State) (bs : List Byte) : State :=
  let s := s.putOrDrop 0x06 (engine 15) bs F.WVE_DROPCNT_COUNT
  if s.fld F.WVE_OUTCFG_FLUSH = 0 then
    match s.ringOf 0x06 with
    | some n => s.closeBuf n
    | none => s
  else s

/-- Write a record of a level if the level is enabled (R311). -/
def State.levelRecord (s : State) (level : Nat) (bs : List Byte) : State :=
  if s.fld F.WVE_OUTCFG_LEN / 2 ^ level % 2 = 1 then s.wveRecord bs else s

/-- Write the L2 record of track x; L2 records are always written (R311). -/
def State.trkRecord (s : State) (x : Nat) (t : Trk) : State := s.wveRecord (t.bytes x)

/-- A track changes state: stored, or its number freed, with a record (R307, R308). -/
def State.trkEnter (s : State) (x : Nat) (t : Trk) (new : Nat) : State :=
  let t := { t with state := new }
  (s.trkRecord x t).setTrk x (if new = 3 then none else some t)

/-- A source slipped or restarted: tracks drop their association with it, and a confirmed one that it fed returns to
TENTATIVE (R286, R292, Table 12-11). -/
def State.trkDrop (s : State) (slot : Nat) : State :=
  ((List.range 256).foldl (fun s x =>
    match s.trk x with
    | some t =>
      if t.mask / 2 ^ slot % 2 = 1 then
        let t := { t with mask := t.mask - 2 ^ slot }
        if t.state = 0 then s.setTrk x (some t) else s.trkEnter x { t with window := [], misses := 0 } 0
      else s
    | none => s) s).trkCount

/-- Every source of a track LOST: the track is deleted (Table 12-11, log entry 26). -/
def State.trkLost (s : State) : State :=
  ((List.range 256).foldl (fun s x =>
    match s.trk x with
    | some t =>
      if t.mask ≠ 0 && (List.range 32).all (fun y => t.mask / 2 ^ y % 2 = 0 || s.fld (F.WVE_SRCSTAT_STATE y) = 0) then
        s.trkEnter x t 3
      else s
    | none => s) s).trkCount

/-! ### Source states (R302) -/

/-- Whether the input of slot x has a fault: pulse input OPEN or not working, analogue result not OK, a camera's link
down (R388), or a fault its unit reports (Table 12-9). -/
def State.srcFault (s : State) (x : Nat) : Bool :=
  let e := (s.src x).entry
  let inp := wInput e
  (s.src x).fault ||
  (match wKind e with
  | 4 =>
    if inp = 0xFFF then false
    else
      let n := if inp < 0x30 then inp - 0x10 else 2 * (inp - 0x30)
      !s.pinOn n || s.pinOpen n || (0x30 ≤ inp && !s.pinOn (n + 1))
  | 7 =>
    if inp = 0xFFF then false
    else
      let st := s.fld (F.AFE_RES_STATUS (inp - 0x100))
      st = 7 || st = 2 || st = 1
  | 8 => !s.flag (F.IMG_CAMSTAT_LINK_UP inp)
  | _ => false)

/-- Whether the drift estimator of a queue source is filling (R290). -/
def WSrc.filling (r : WSrc) : Bool := wClk r.entry = 1 && wInput r.entry = 0xFFF && r.drift.length < wDrwin r.entry

/-- The availability state of slot x now: 0 LOST, 1 COAST, 2 REDUCED, 3 FULL (Table 12-9). -/
def State.srcState (s : State) (x : Nat) : Nat :=
  let r := s.src x
  if !s.srcLoaded x || s.srcFault x then 0
  else match r.last with
  | none => 0
  | some p =>
    let per := wPeriod r.entry
    if p.inst + 3 * per ≤ s.now then (if s.now < p.inst + 3 * per + 1000000 * wCoast r.entry then 1 else 0)
    else
      let n := (r.arrivals.filter (fun t => s.now < t + 10 * per)).length
      let slow := field r.entry 32 4 ≠ 0 && 10 * n < wRedpct r.entry
      if slow || r.filling || r.qfault then 2 else 3

/-- Take the availability state of slot x: a change shows, sets SRC_CHG and is recorded (R302). -/
def State.srcRefresh (s : State) (x : Nat) : State :=
  let new := s.srcState x
  if s.fld (F.WVE_SRCSTAT_STATE x) = new then s
  else
    let s := (s.setFld (F.WVE_SRCSTAT_STATE x) new).raiseFlag F.WVE_STAT_SRC_CHG 196
    let s := s.event 0x0A04 [w32 x, w32 new]
    if new = 0 then s.trkLost else s

/-- WVE_SRC_STATE (R302). -/
def execWveSrcState (slot : Fin 32) (s : State) : Out := .next (s.srcRefresh slot)

/-- Restart the source of slot x: LOST, drift and vote state clear, its tracks lose it (R286). -/
def State.srcRestart (s : State) (x : Nat) : State :=
  let r := s.src x
  let s := s.setSrc x { r with arrivals := [], last := none, qfault := false, drift := [], fit := none, dis := [], agree := 0 }
  let s := s.setFld (F.WVE_SRCSTAT_VOTE x) (if s.srcLoaded x && isMotion (wKind r.entry) then 1 else 0)
  (s.trkDrop x).srcRefresh x

/-- Take the waiting entry of slot x into force (R286): a change of KIND, BODY, CLK or INPUT restarts the source. -/
def State.srcTake (s : State) (x : Nat) : State :=
  let r := s.src x
  match r.next with
  | none => s
  | some e =>
    let ok := s.srcValid x e && !s.part.noSource (wKind e)
    let same := field r.entry 2 1 = field e 2 1 && wInput r.entry = wInput e
    let was := s.flag (F.WVE_SRCSTAT_LOADED x)
    let s := (s.setSrc x { r with entry := e, next := none }).setBit (F.WVE_SRCSTAT_LOADED x) ok
    if same && ok && was then s else s.srcRestart x

/-- Whether the entry of slot x, in force or waiting, is one that R285 calls invalid. -/
def State.srcBad (s : State) (x : Nat) : Bool :=
  let e := s.srcEntry x
  e ≠ [] && field e 0 2 ≠ 0 && !s.srcValid x e

/-- Judge the entry in force of slot x again, beside those of the other slots: a source that another slot now holds too stops, and
one that no other slot holds any more starts (R285). -/
def State.srcJudge (s : State) (x : Nat) : State :=
  let e := (s.src x).entry
  let ok := s.srcValid x e && !s.part.noSource (wKind e)
  if s.flag (F.WVE_SRCSTAT_LOADED x) = ok then s else (s.setBit (F.WVE_SRCSTAT_LOADED x) ok).srcRestart x

/-! ### SRC_LOAD, GEOM_LOAD, FIELD_SET -/

/-- One entry of a SRC_LOAD (R286, R44, R47): torn keeps the slot, else it takes effect at the next epoch; one of an absent unit is
recorded as ABSENT_CHANNEL (R7). -/
def State.srcAccept (s : State) (x : Nat) (e : List Byte) : State :=
  if field e 0 2 ≠ field e 62 2 then
    let (tb, s) := s.drawNat 32
    (s.raiseBoth (F.WVE_SRCSTAT_TORN x) F.WVE_STAT_TORN 196).event 0x0103 [w32 tb, w32 x]
  else
    let s := s.setSrc x { s.src x with next := some e }
    if field e 0 2 ≠ 0 && s.part.noSource (wKind e) then s.event 0x0102 [w32 x] else s

/-- The entries of a SRC_LOAD from slot `first` on: an invalid one that was loaded sets CONFIG and is recorded, and so is one of another
slot that the load has made invalid (R285). -/
def State.srcLoad (s : State) (first cnt : Nat) (bs : List Byte) : State :=
  let e (i : Nat) : List Byte := (bs.drop (64 * i)).take 64
  let news := ((List.range cnt).filter (fun i => field (e i) 0 2 = field (e i) 62 2)).map (first + ·)
  let was := (List.range 32).filter (fun y => s.srcBad y && !news.contains y)
  let s := (List.range cnt).foldl (fun s i => s.srcAccept (first + i) (e i)) s
  ((List.range 32).filter (fun y => s.srcBad y && !was.contains y)).foldl (fun s y =>
    (s.raiseBoth (F.WVE_SRCSTAT_CONFIG y) F.WVE_STAT_CONFIG 196).event 0x0A01 [w32 y]) s

/-- Opcodes of queue 0x05 (Table 12-3). -/
def wveOps : List Nat := [1, 2, 3, 4]

/-- SRC_LOAD (R286). -/
def execSrcLoad (n : Fin 64) (s : State) : Out :=
  .next (s.queueCmd n (fun q => q = 0x05) 2 wveOps (fun s d =>
    let first := d.arg0
    let cnt := d.arg1
    if 32 < cnt ∨ 32 < first + cnt then s.complete n d.didx 0x82 0
    else if cnt = 0 then s.complete n d.didx (if d.len = 0 then stOK else stBADLEN) 0
    else if d.len ≠ 64 * cnt then s.complete n d.didx stBADLEN 0
    else match s.unitRead (engine 15) d.addr d.len with
    | (none, s) => s.complete n d.didx stACCESS 0
    | (some bs, s) =>
      (s.srcLoad first cnt bs).complete n d.didx stOK 0))

/-- The offsets of the binary32 values of a geometry block (Table 12-10). -/
def geomFloats : List Nat :=
  (List.range 8).flatMap (fun c => (List.range 6).map (fun k => 32 * c + 4 * k)) ++
  (List.range 16).flatMap (fun q => (List.range 12).map (fun k => 256 + 64 * q + 4 + 4 * k))

/-- GEOM_LOAD (R304): a block with a NaN or an infinity changes nothing. -/
def execGeomLoad (n : Fin 64) (s : State) : Out :=
  .next (s.queueCmd n (fun q => q = 0x05) 3 wveOps (fun s d =>
    if d.len = 0 then s.complete n d.didx stEMPTY 0
    else if d.len ≠ 1280 then s.complete n d.didx stBADLEN 0
    else match s.unitRead (engine 15) d.addr 1280 with
    | (none, s) => s.complete n d.didx stACCESS 0
    | (some bs, s) =>
      if geomFloats.any (fun o => f32Special (field bs o 4)) then s.complete n d.didx 0x81 0
      else ({ s with wve := { s.wve with geomNext := some bs } } : State).complete n d.didx stOK 0))

/-- FIELD_SET (R309): the field waits for the next epoch, at which the descriptor completes. -/
def execFieldSet (n : Fin 64) (s : State) : Out :=
  .next (s.queueCmd n (fun q => q = 0x05) 4 wveOps (fun s d =>
    if d.len = 0 then s.complete n d.didx stEMPTY 0
    else if d.len ≠ 32 then s.complete n d.didx stBADLEN 0
    else match s.unitRead (engine 15) d.addr 32 with
    | (none, s) => s.complete n d.didx stACCESS 0
    | (some bs, s) => { s with wve := { s.wve with fieldNext := s.wve.fieldNext ++ [(n.val, d.didx, bs)] } }))

/-! ### Frames (R16, R309) -/

/-- A point turned about z, y and x by angles in µrad. -/
def rotZ (a : Int) (p : Int × Int × Int) : Int × Int × Int :=
  (timesCos p.1 a - timesSin p.2.1 a, timesSin p.1 a + timesCos p.2.1 a, p.2.2)
def rotY (a : Int) (p : Int × Int × Int) : Int × Int × Int :=
  (timesCos p.1 a + timesSin p.2.2 a, p.2.1, timesCos p.2.2 a - timesSin p.1 a)
def rotX (a : Int) (p : Int × Int × Int) : Int × Int × Int :=
  (p.1, timesCos p.2.1 a - timesSin p.2.2 a, timesSin p.2.1 a + timesCos p.2.2 a)

/-- The sum and the difference of two points. -/
def addP (p q : Int × Int × Int) : Int × Int × Int := (p.1 + q.1, p.2.1 + q.2.1, p.2.2 + q.2.2)
def subP (p q : Int × Int × Int) : Int × Int × Int := (p.1 - q.1, p.2.1 - q.2.1, p.2.2 - q.2.2)

/-- Earth-centred coordinates in µm of latitude and longitude in 10^-9 degree and height in mm, on the GNSS ellipsoid
(log entry 27). -/
def ecef (lat lon h : Int) : Int × Int × Int :=
  let sp := sinQ (nanoDeg lat)
  let cp := cosQ (nanoDeg lat)
  let w := 2 ^ 60 - mulQ 7718094650643697 (mulQ sp sp)
  let nu : Int := 6378137000000 * 2 ^ 60 / (isqrt (w * 2 ^ 60).toNat : Int)
  let r := nu + 1000 * h
  let z := mulQ (nu * (2 ^ 60 - 7718094650643697) / 2 ^ 60 + 1000 * h) sp
  (mulQ (mulQ r cp) (cosQ (nanoDeg lon)), mulQ (mulQ r cp) (sinQ (nanoDeg lon)), z)

/-- East, north and up in mm, at an origin, of earth-centred µm. -/
def toEnu (lat lon h : Int) (p : Int × Int × Int) : Int × Int × Int :=
  let d := subP p (ecef lat lon h)
  let sp := sinQ (nanoDeg lat)
  let cp := cosQ (nanoDeg lat)
  let sl := sinQ (nanoDeg lon)
  let cl := cosQ (nanoDeg lon)
  let east := mulQ d.2.1 cl - mulQ d.1 sl
  let out := mulQ d.1 cl + mulQ d.2.1 sl
  (east / 1000, (mulQ d.2.2 cp - mulQ out sp) / 1000, (mulQ out cp + mulQ d.2.2 sp) / 1000)

/-- Earth-centred µm of east, north and up in mm at an origin. -/
def ofEnu (lat lon h : Int) (p : Int × Int × Int) : Int × Int × Int :=
  let sp := sinQ (nanoDeg lat)
  let cp := cosQ (nanoDeg lat)
  let sl := sinQ (nanoDeg lon)
  let cl := cosQ (nanoDeg lon)
  let out := mulQ (1000 * p.2.2) cp - mulQ (1000 * p.2.1) sp
  let z := mulQ (1000 * p.2.1) cp + mulQ (1000 * p.2.2) sp
  addP (ecef lat lon h) (mulQ out cl - mulQ (1000 * p.1) sl, mulQ out sl + mulQ (1000 * p.1) cl, z)

/-- The field origin in force. -/
def State.origin (s : State) : Int × Int × Int :=
  (sext 64 (s.reg64 R.WVE_ORG_LAT_LO R.WVE_ORG_LAT_HI), sext 64 (s.reg64 R.WVE_ORG_LON_LO R.WVE_ORG_LON_HI),
    s.fldInt F.WVE_ORG_H_H)

/-- Whether a field is set. -/
def State.hasField (s : State) : Bool := s.fld F.WVE_FIELD_FIELD_ID ≠ 0

/-- A new field takes effect (R309): origin and FIELD_ID, tracks expressed in the new frame; FIELD_ID 0 clears it. -/
def State.takeField (s : State) (bs : List Byte) : State :=
  let old := s.origin
  let had := s.hasField
  let s := s.setReg64 R.WVE_ORG_LAT_LO R.WVE_ORG_LAT_HI (field bs 4 8)
  let s := s.setReg64 R.WVE_ORG_LON_LO R.WVE_ORG_LON_HI (field bs 12 8)
  let s := s.setFld F.WVE_ORG_H_H (field bs 20 4)
  let s := s.setFld F.WVE_FIELD_FIELD_ID (field bs 0 2)
  let new := s.origin
  let move (t : Trk) : Trk :=
    let p := toEnu new.1 new.2.1 new.2.2 (ofEnu old.1 old.2.1 old.2.2 (t.e, t.n, 0))
    { t with e := p.1, n := p.2.1 }
  if had && s.hasField then
    { s with wve := { s.wve with tracks := SMap.mapKeep (fun _ => none) s.wve.tracks (fun _ t => t.map move) } }
  else s

/-! ### Poses -/

/-- A solution carried forward by a time in ns on its rates and a yaw acceleration in µrad/s² (R296). -/
def L3.after (x : L3) (acc : Int) (dt : Int) : L3 :=
  { x with
    e := x.e + (timesSin x.vx x.hdg - timesCos x.vy x.hdg) * dt / 1000000000
    n := x.n + (timesCos x.vx x.hdg + timesSin x.vy x.hdg) * dt / 1000000000
    hdg := turn (x.hdg + x.yaw * dt / 1000000000 + acc * dt * dt / 2000000000000000000)
    yaw := x.yaw + acc * dt / 1000000000 }

/-- The yaw acceleration of a body in µrad/s² fitted over the last 8 epochs of 625 µs (R296). -/
def State.yawAcc (s : State) (body : Nat) : Int :=
  let l := s.wve.yaws.map (fun y => if body = 0 then y.1 else y.2)
  if l.length < 8 then 0
  else ((List.range 8).map (fun (i : Nat) => (7 - 2 * (i : Int)) * l.getD i 0)).sum * 1600 / 84

/-- The solution of a body (0 machine, 1 implement) at an instant: from the last epoch at or before it (R296). -/
def State.poseAt (s : State) (body t : Nat) : L3 :=
  let pick (p : L3 × L3) : L3 := if body = 0 then p.1 else p.2
  let cur := pick (s.wve.machine, s.wve.implement)
  let base := if cur.inst ≤ t then cur
    else match s.wve.hist.find? (fun p => p.1.inst ≤ t) with
    | some p => pick p
    | none => cur
  base.after (s.yawAcc body) ((t : Int) - base.inst)

/-- A point of a body's frame in the field frame, by the body's pose: heading clockwise from north, pitch nose up, roll
left up (R16, R305). -/
def L3.place (x : L3) (p : Int × Int × Int) : Int × Int × Int :=
  addP (x.e, x.n, x.u) (rotZ (1570796 - x.hdg) (rotY (-x.pitch) (rotX x.roll p)))

/-- A point of a sensor's frame in the frame of its body: yaw, then pitch, then roll, then the mounting position (Table 12-2). -/
def mounted (e : List Byte) (p : Int × Int × Int) : Int × Int × Int :=
  let r := wRot e
  addP (wPos e) (rotZ r.2.2 (rotY r.2.1 (rotX r.1 p)))

/-! ### Tracks: measurements (R307, R308) -/

/-- A track carried to an instant. -/
def Trk.at (t : Trk) (inst : Nat) : Int × Int :=
  let dt := (inst : Int) - t.inst
  (t.e + t.ve * dt / 1000000000, t.n + t.vn * dt / 1000000000)

/-- The distance of a measurement from a track: from its point for an OBSTACLE, from its line for the others. -/
def Trk.dist (t : Trk) (inst : Nat) (e n : Int) : Nat :=
  let p := t.at inst
  if t.kind = 3 then isqrt (((e - p.1) * (e - p.1) + (n - p.2) * (n - p.2)).toNat)
  else (timesSin (n - p.2) t.dir - timesCos (e - p.1) t.dir).natAbs

/-- The nearest track of a kind within GATE of a measurement. -/
def State.nearest (s : State) (k inst : Nat) (e n : Int) : Option Nat :=
  let cand := (List.range 256).filterMap (fun x =>
    match s.trk x with
    | some t => if t.kind = k && t.dist inst e n ≤ s.fld F.WVE_TRKCFG_GATE then some (x, t.dist inst e n) else none
    | none => none)
  (cand.foldl (fun (b : Option (Nat × Nat)) c => match b with
    | none => some c
    | some y => if c.2 < y.2 then some c else b) none).map (·.1)

/-- A birth: a free number, else the oldest TENTATIVE track, else refused with TRK_FULL (R307). -/
def State.trkBirth (s : State) (k inst slot : Nat) (e n : Int) : Option Nat × State :=
  let free := (List.range 256).find? (fun x => (s.trk x).isNone)
  let oldest := ((List.range 256).filterMap (fun x =>
    match s.trk x with
    | some t => if t.state = 0 then some (x, t.born) else none
    | none => none)).foldl (fun (b : Option (Nat × Nat)) c => match b with
      | none => some c
      | some y => if c.2 < y.2 then some c else b) none
  match free.or (oldest.map (·.1)) with
  | none => (none, s.raiseFlag F.WVE_STAT_TRK_FULL 196)
  | some x =>
    let (dir, s) := s.drawNat 32
    let (len, s) := s.drawNat 32
    let (wid, s) := s.drawNat 32
    let (ve, s) := s.drawNat 32
    let (vn, s) := s.drawNat 32
    let t : Trk := ⟨k, 0, 0, inst, 0, e, n, sext 32 dir, sext 32 len, sext 32 wid, sext 32 ve, sext 32 vn,
      2 ^ slot, [], 0, inst, s.wve.births⟩
    let s : State := { s with wve := { s.wve with births := s.wve.births + 1 } }
    (some x, (s.setTrk x (some t)).trkRecord x t)

/-- Associate one measurement: the track it updates (R307). -/
def State.trkAssoc (s : State) (k inst slot : Nat) (e n : Int) (hit : List Nat) : List Nat × State :=
  match s.nearest k inst e n with
  | some x => (if hit.contains x then hit else x :: hit, s)
  | none =>
    match s.trkBirth k inst slot e n with
    | (some x, s) => (x :: hit, s)
    | (none, s) => (hit, s)

/-- Update track x with a frame or scan of slot at an instant: associated or missed (Table 12-11). The estimates of an
associated track are its filter's (log entry 25). -/
def State.trkUpdate (s : State) (x inst slot : Nat) (hit late : Bool) : State :=
  match s.trk x with
  | none => s
  | some t =>
    let cn := s.fld F.WVE_TRKCFG_CONF_N
    let rev := if late then min (t.rev + 1) 255 else 0
    let window := (hit :: t.window).take cn
    if hit then
      let (e, s) := s.drawNat 32
      let (n, s) := s.drawNat 32
      let (dir, s) := s.drawNat 32
      let (len, s) := s.drawNat 32
      let (wid, s) := s.drawNat 32
      let (ve, s) := s.drawNat 32
      let (vn, s) := s.drawNat 32
      let t : Trk := { t with
        rev := rev, inst := inst, hits := min (t.hits + 1) 65535, e := sext 32 e, n := sext 32 n, dir := sext 32 dir
        len := sext 32 len, width := sext 32 wid, ve := sext 32 ve, vn := sext 32 vn
        mask := if t.mask / 2 ^ slot % 2 = 1 then t.mask else t.mask + 2 ^ slot
        window := window, misses := 0, hitAt := inst }
      if t.state = 0 then
        if s.fld F.WVE_TRKCFG_CONF_M ≤ (window.filter (fun b => b)).length then s.trkEnter x t 1
        else (if late then s.trkRecord x t else s).setTrk x (some t)
      else if t.state = 2 then s.trkEnter x t 1
      else (s.setTrk x (some t)).trkRecord x t
    else
      let t : Trk := { t with rev := rev, inst := inst, e := (t.at inst).1, n := (t.at inst).2, window := window, misses := t.misses + 1 }
      if t.state = 0 then
        if cn ≤ window.length ∧ !window.any (fun b => b) then s.trkEnter x t 3 else s.setTrk x (some t)
      else if t.state = 1 then s.trkEnter x t 2
      else if s.fld F.WVE_TRKCFG_DEL_MISS ≤ t.misses then s.trkEnter x t 3
      else s.setTrk x (some t)

/-- A frame or scan of slot with its measurements (kind, E, N), feeding the tracks of the given kinds (R307). -/
def State.trkFrame (s : State) (slot inst : Nat) (kinds : List Nat) (meas : List (Nat × Int × Int)) (late : Bool) : State :=
  let (hit, s) := meas.foldl (fun (p : List Nat × State) m => p.2.trkAssoc m.1 inst slot m.2.1 m.2.2 p.1) ([], s)
  ((List.range 256).foldl (fun s x =>
    match s.trk x with
    | some t => if kinds.contains t.kind then s.trkUpdate x inst slot (hit.contains x) late else s
    | none => s) s).trkCount

/-- TRACK_COAST_EXPIRY (R307): a COASTING track without association for WVE_TRKCOAST.T ms is deleted. -/
def execTrackCoastExpiry (x : Fin 256) (s : State) : Out :=
  match s.trk x with
  | some t =>
    if t.state = 2 ∧ s.elapsed t.hitAt (1000000 * s.fld F.WVE_TRKCOAST_T) then .next (s.trkEnter x t 3).trkCount else .next s
  | none => .next s

/-! ### Samples (R287-R293, R303) -/

/-- The header of a sample record on output (Table 12-4, R306). -/
def sampHeader (slot type plen inst rxts seq qual level : Nat) : List Byte :=
  leBytes 1 slot ++ leBytes 1 type ++ leBytes 2 plen ++ leBytes 4 inst ++ leBytes 4 rxts ++ leBytes 2 seq ++
    leBytes 1 qual ++ leBytes 1 level

/-- Ground points of a slot as L1 records of at most 128 points each (R306, Table 12-5). -/
def State.fpoints (s : State) (slot inst rxts seq : Nat) (pts : List (Int × Int × Int)) : State :=
  (List.range ((pts.length + 127) / 128)).foldl (fun s i =>
    let l := (pts.drop (128 * i)).take 128
    s.levelRecord 1 (sampHeader slot 5 (12 * l.length) inst rxts seq 0 1 ++
      l.flatMap (fun p => leBytes 4 (toBits 32 p.1) ++ leBytes 4 (toBits 32 p.2.1) ++ leBytes 4 (toBits 32 p.2.2)))) s

/-- Whether the source of slot x is fused: neither OUT nor GATED (R299). -/
def State.srcIn (s : State) (x : Nat) : Bool := s.fld (F.WVE_SRCSTAT_VOTE x) ≠ 3 && s.fld (F.WVE_SRCSTAT_VOTE x) ≠ 2

/-- The L3 record of a solution (Table 12-6). -/
def L3.bytes (x : L3) (body : Nat) : List Byte :=
  leBytes 1 3 ++ leBytes 1 (body + 2 * x.state + if x.nomaj then 16 else 0) ++ leBytes 1 x.rev ++ leBytes 1 0 ++
    leBytes 4 x.inst ++ leBytes 4 (toBits 32 x.e) ++ leBytes 4 (toBits 32 x.n) ++ leBytes 4 (toBits 32 x.u) ++
    leBytes 4 (toBits 32 x.hdg) ++ leBytes 4 (toBits 32 x.vx) ++ leBytes 4 (toBits 32 x.vy) ++
    leBytes 4 (toBits 32 x.yaw) ++ leBytes 4 (toBits 32 x.pitch) ++ leBytes 4 (toBits 32 x.roll) ++
    leBytes 4 (toBits 32 x.herr) ++ leBytes 4 x.srcin ++ leBytes 4 (toBits 32 x.hitch) ++
    leBytes 4 (toBits 32 x.xte) ++ leBytes 4 (toBits 32 x.hdgerr)

/-- The fused quantities of the machine at an instant: what the fusion filter gives (log entry 25); E, N and U read 0
with no field, the heading lies in one turn. -/
def State.fuse (s : State) (x : L3) : L3 × State :=
  let (e, s) := s.drawNat 32
  let (n, s) := s.drawNat 32
  let (u, s) := s.drawNat 32
  let (h, s) := s.drawNat 32
  let (vx, s) := s.drawNat 32
  let (vy, s) := s.drawNat 32
  let (yaw, s) := s.drawNat 32
  let (pit, s) := s.drawNat 32
  let (rol, s) := s.drawNat 32
  let (err, s) := s.drawNat 31
  let z (v : Nat) : Int := if s.hasField then sext 32 v else 0
  ({ x with e := z e, n := z n, u := z u, hdg := (h % 6283185 : Nat), vx := sext 32 vx, vy := sext 32 vy, yaw := sext 32 yaw
            pitch := sext 32 pit, roll := sext 32 rol, herr := (err : Nat) }, s)

/-- The hitch angle in µrad and whether its source is in REDUCED or COAST (R297): from a HITCH source that is not LOST,
else estimated from implement-mounted motion sources, else none. -/
def State.hitchAngle (s : State) : Option (Int × Bool) × State :=
  match (List.range 32).find? (fun x => s.srcLoaded x && wKind (s.src x).entry = 7 && s.fld (F.WVE_SRCSTAT_STATE x) ≠ 0) with
  | some x =>
    let v : Int := match (s.src x).last with | some p => p.vals.getD 0 0 | none => 0
    (some (v, s.fld (F.WVE_SRCSTAT_STATE x) ≠ 3), s)
  | none =>
    if (List.range 32).any (fun x => s.srcLoaded x && isMotion (wKind (s.src x).entry) && wBody (s.src x).entry = 1 &&
        s.fld (F.WVE_SRCSTAT_STATE x) ≠ 0 && s.fld (F.WVE_SRCSTAT_VOTE x) ≠ 3) then
      let (v, s) := s.drawNat 32
      (some (sext 32 v, false), s)
    else (none, s)

/-- The implement's solution from the machine's through the hitch (R297, R19): reference point and heading through hitch
point and angle; rates and attitude of the implement are the filter's (log entry 25). -/
def State.implementSol (s : State) (m : L3) : L3 × State :=
  match s.hitchAngle with
  | (none, s) => ({ L3.init with inst := m.inst }, s)
  | (some (ang, weak), s) =>
    let h := turn (m.hdg + ang)
    let hp := m.place (s.fldInt F.WVE_HITCH_X, s.fldInt F.WVE_HITCH_Y, 0)
    let xi := s.fldInt F.WVE_HITCH_I_X
    let (f, s) := s.fuse m
    let z (v : Int) : Int := if s.hasField then v else 0
    ({ f with state := min m.state (if weak then 2 else 3), hdg := h, e := z (hp.1 - timesSin xi h), n := z (hp.2.1 - timesCos xi h)
              hitch := ang }, s)

/-! ### Voted quantities (Table 12-8) -/

/-- The last sample of slot x, if the source takes part: loaded, not OUT unless asked for, not LOST, aligned. -/
def State.partSamp (s : State) (x : Nat) (out : Bool) : Option WSamp :=
  let r := s.src x
  if s.srcLoaded x && isMotion (wKind r.entry) && (s.fld (F.WVE_SRCSTAT_VOTE x) = 3) == out &&
      s.fld (F.WVE_SRCSTAT_STATE x) ≠ 0 && !r.filling then
    match r.last with
    | some p => if p.vals = [] then none else some p
    | none => none
  else none

/-- The hitch angle as it is known now (R19, R297): of a HITCH source that is not LOST, else the one estimated at the last epoch from
sources on the implement. -/
def State.hitchNow (s : State) : Option Int :=
  match (List.range 32).find? (fun x => s.srcLoaded x && wKind (s.src x).entry = 7 && s.fld (F.WVE_SRCSTAT_STATE x) ≠ 0) with
  | some x => (s.src x).last.map (fun p => p.vals.getD 0 0)
  | none => if s.wve.implement.state = 0 then none else some s.wve.implement.hitch

/-- The position of the machine reference point that a GNSS sample gives, in a frame at an origin: the antenna's mounting taken off
by the heading of its body, and for one on the implement on through the hitch (R19, R317). -/
def State.gnssPoint (s : State) (o : Int × Int × Int) (e : List Byte) (p : WSamp) (h ang : Int) : Int × Int :=
  let q := toEnu o.1 o.2.1 o.2.2 (ecef (p.vals.getD 0 0) (p.vals.getD 1 0) (p.vals.getD 2 0))
  if wBody e = 0 then
    let m := rotZ (1570796 - h) (wPos e)
    (q.1 - m.1, q.2.1 - m.2.1)
  else
    let m := rotZ (1570796 - (h + ang)) (subP (wPos e) (s.fldInt F.WVE_HITCH_I_X, 0, 0))
    let k := rotZ (1570796 - h) (s.fldInt F.WVE_HITCH_X, s.fldInt F.WVE_HITCH_Y, 0)
    (q.1 - m.1 - k.1, q.2.1 - m.2.1 - k.2.1)

/-- An along-track speed of the implement's reference point as one of the machine's, through the hitch (R19): the hitch point's
velocity on either body. -/
def State.hitchSpeed (s : State) (v ang w : Int) : Int :=
  let i := s.wve.implement
  let side := i.vy - i.yaw * s.fldInt F.WVE_HITCH_I_X / 1000000
  timesCos v ang + timesSin side ang - s.fldInt F.WVE_HITCH_Y * w / 1000000

/-- The speed in mm/s of a GNSS sample. -/
def gnssSpeed (p : WSamp) : Nat :=
  isqrt ((p.vals.getD 5 0 * p.vals.getD 5 0 + p.vals.getD 6 0 * p.vals.getD 6 0).toNat)

/-- The value of a sample in a quantity at an instant (Table 12-8), the machine's solution propagated to it being `now`: 0 position,
1 along-track speed, 2 heading, each of the machine; a source on the implement takes part while the hitch angle is known (R19). -/
def State.sampVal (s : State) (o : Int × Int × Int) (q t : Nat) (p : WSamp) (now : L3) : Option (Int × Int) :=
    let e := (s.src p.slot).entry
    let k := wKind e
    let trailed : Bool := wBody e = 1 && k ≠ 5
    match if trailed then s.hitchNow else some 0 with
    | none => none
    | some ang =>
    let dt := (t : Int) - p.inst
    let hdg := now.hdg + ang
    let yaw := if trailed then s.wve.implement.yaw else now.yaw
    let along (v : Int) : Int := if trailed then s.hitchSpeed v ang now.yaw else v
    let v (i : Nat) : Int := p.vals.getD i 0
    let step (p : Int × Int) : Int × Int :=
      (p.1 + timesSin now.vx now.hdg * dt / 1000000000, p.2 + timesCos now.vx now.hdg * dt / 1000000000)
    match q, k with
    | 0, 1 => some (step (s.gnssPoint o e p now.hdg ang))
    | 0, 6 => some (step (s.gnssPoint o e p now.hdg ang))
    | 0, 5 => if s.hasField then some (step (v 0, v 1)) else none
    | 1, 1 => some (along (timesSin (v 5) hdg + timesCos (v 6) hdg), 0)
    | 1, 4 => some (along (v 0 - (wPos e).2.1 * yaw / 1000000), 0)
    | 1, 5 => some (v 4, 0)
    | 2, 1 =>
      if 1000 ≤ gnssSpeed p then some (turn (atan2 (v 5) (v 6) + (if now.vx < 0 then 3141593 else 0) - ang), 0) else none
    | 2, 2 => some (turn (v 0 + (wRot e).2.2 + yaw * dt / 1000000000 - ang), 0)
    | 2, 5 => some (turn (v 3 + now.yaw * dt / 1000000000), 0)
    | _, _ => none

/-- The value of source x in a quantity at an instant (R299). -/
def State.partVal (s : State) (o : Int × Int × Int) (q x t : Nat) (out : Bool) : Option (Int × Int) :=
  (s.partSamp x out).bind (fun p => s.sampVal o q t p (s.wve.machine.after (s.yawAcc 0) ((t : Int) - s.wve.machine.inst)))

/-- The difference of two values of a quantity: a distance, a speed, an angle. -/
def qDiff (q : Nat) (a b : Int × Int) : Int :=
  match q with
  | 0 => (isqrt (((a.1 - b.1) * (a.1 - b.1) + (a.2 - b.2) * (a.2 - b.2)).toNat) : Nat)
  | 1 => a.1 - b.1
  | _ => wrapPi (a.1 - b.1)

/-- The median of the participants' values (R299); angles are taken about the first. -/
def qMedian (q : Nat) (l : List (Int × Int)) : Int × Int :=
  match q with
  | 2 => let b := (l.headD (0, 0)).1; (turn (b + median (l.map (fun p => wrapPi (p.1 - b)))), 0)
  | _ => (median (l.map (·.1)), median (l.map (·.2)))

/-- The tolerance of a quantity (Table 12-8), in mm, mm/s or µrad. -/
def State.qTol (s : State) (q : Nat) : Nat :=
  match q with
  | 0 => s.fld F.WVE_VTOL_PS_POS
  | 1 => s.fld F.WVE_VTOL_PS_SPD
  | _ => 100 * s.fld F.WVE_VTOL_H_HDG

/-- The origin positions are compared at: the field's, else that of the first position source. -/
def State.voteOrigin (s : State) : Int × Int × Int :=
  if s.hasField then s.origin
  else match (List.range 32).findSome? (fun x =>
    match s.partSamp x false with
    | some p => if wKind (s.src x).entry = 1 || wKind (s.src x).entry = 6 then some p else none
    | none => none) with
  | some p => (p.vals.getD 0 0, p.vals.getD 1 0, p.vals.getD 2 0)
  | none => s.origin

/-- Whether a late sample would have been GATED at its instant (R303): it lies beyond the tolerance of a reference that three or more
participants gave at the first epoch at or after it (R299). -/
def State.lateGated (s : State) (p : WSamp) : Bool :=
  match s.wve.refs.reverse.find? (fun r => p.inst ≤ r.1) with
  | none => false
  | some (t, o, refs) =>
    let now := match s.wve.hist.find? (fun r => r.1.inst < t) with
      | some r => r.1.after (s.yawAcc 0) ((t : Int) - r.1.inst)
      | none => s.wve.machine
    refs.zipIdx.any (fun r => match r.1, s.sampVal o r.2 t p now with
      | some ref, some v => s.qTol r.2 < (qDiff r.2 v ref).natAbs
      | _, _ => false)

/-- The cut trace takes the corrected solution at every entry at or after an instant (R360). -/
def State.retrace (s : State) (inst : Nat) : State :=
  let old := s.yld.trace
  let s : State := { s with yld := { s.yld with trace := [] } }
  old.foldl (fun s c =>
    let (c, s) := if inst ≤ c.inst ∧ c.pose.isSome then
        (let (y, s) := s.fuse s.wve.machine
        ({ c with pose := some (y.e, y.n, y.hdg) }, s))
      else (c, s)
    { s with yld := { s.yld with trace := s.yld.trace ++ [c] } }) s

/-- A late sample of slot k within LATE of a fused source: re-fused from its instant, slot k among the sources of its epoch; one
correction record for the first epoch at or after it with REV + 1, the implement's where the sample is a hitch angle, else the machine's (log entry 30); the present
solutions of both bodies go on from the re-fused state (R303, R27). -/
def State.refuse (s : State) (k inst : Nat) : State :=
  let s := s.bump F.WVE_CORRCNT_COUNT
  match s.wve.hist.reverse.find? (fun p => inst ≤ p.1.inst) with
  | none => s
  | some p =>
    let kind := wKind (s.src k).entry
    let hitch : Bool := kind = 7
    let fused (x : L3) : L3 := { x with srcin := if x.srcin / 2 ^ k % 2 = 1 then x.srcin else x.srcin + 2 ^ k }
    let redo (m i : L3) (s : State) : (L3 × L3) × State :=
      let (m, s) := if hitch then (m, s) else s.fuse m
      let (j, s) := s.implementSol m
      ((m, { j with rev := i.rev, srcin := i.srcin, nomaj := i.nomaj, xte := i.xte, hdgerr := i.hdgerr }), s)
    let up (x : L3) : L3 := { x with rev := min (x.rev + 1) 255 }
    let (q, s) := redo (fused p.1) (fused p.2) s
    let q := if hitch then (q.1, up q.2) else (up q.1, q.2)
    let s : State := { s with wve := { s.wve with
      hist := s.wve.hist.map (fun r => if r.1.inst = p.1.inst then q else r)
      posAt := if [1, 5, 6].contains kind then max s.wve.posAt p.1.inst else s.wve.posAt } }
    let (now, s) := redo s.wve.machine s.wve.implement s
    let now := if s.wve.machine.inst = p.1.inst then q else now
    let s : State := { s with wve := { s.wve with machine := now.1, implement := now.2 } }
    let s := s.setFld F.WVE_SOLIN_SRCIN now.1.srcin
    (s.retrace inst).wveRecord (if hitch then q.2.bytes 1 else q.1.bytes 0)

/-- A sample reaches its slot: it waits for its epoch, or is late: within LATE and the history it is taken in again,
else discarded and counted (R294, R303). The answer says whether it counts. -/
def State.wveArrive (s : State) (p : WSamp) : Bool × State :=
  let r := s.src p.slot
  let keep (s : State) : State := { s with wve := { s.wve with inbox := s.wve.inbox ++ [p] } }
  if s.wve.epochs = 0 ∨ s.wve.epochAt < p.inst then (true, keep s)
  else if s.now ≤ p.inst + 1000000 * wLate r.entry ∧ s.now ≤ p.inst + 512000000 then
    let old : Bool := match r.last with
      | some l => p.inst < l.inst
      | none => false
    let s := s.setSrc p.slot { r with arrivals := (p.inst :: r.arrivals).take 16, last := if old then r.last else some p }
    let no := s.fld (F.WVE_SRCSTAT_VOTE p.slot) = 3 ∨ s.lateGated p
    (true, if (isMotion (wKind r.entry) ∨ wKind r.entry = 7) ∧ ¬no then s.refuse p.slot p.inst else s)
  else
    (false, ((s.bump F.WVE_LATECNT_COUNT).bump (F.WVE_SRCLATE_COUNT p.slot)).raiseFlag F.WVE_STAT_LATE 196)

/-- The L0 record of an internal sample of a kind that has a TYPE (Table 12-5): WHEEL and HITCH; such a source has no sequence number
of its own, and the module's is not stated (R306, log entry 25). -/
def State.innerL0 (s : State) (slot inst : Nat) (v : Int) : State :=
  let k := wKind (s.src slot).entry
  if s.fld F.WVE_OUTCFG_LEN % 2 = 1 ∧ (k = 4 ∨ k = 7) then
    let (seq, s) := s.drawNat 16
    s.levelRecord 0 (sampHeader slot (if k = 4 then 1 else 3) 4 (inst % 2 ^ 32) s.short seq 0 0 ++ leBytes 4 (toBits 32 v))
  else s

/-- A unit of the module delivers a sample of a kind to its loaded slot, stamped with an instant; FIXLAT is subtracted
in every case (R289). -/
def State.deliver (s : State) (slot inst : Nat) (vals : List Int) (qual : Nat) : State :=
  if s.srcLoaded slot then
    let r := s.src slot
    let at_ := ((inst : Int) - wFixlat r.entry).toNat
    let s := s.innerL0 slot at_ (vals.headD 0)
    (s.wveArrive ⟨slot, at_, vals, qual⟩).2
  else s

/-- Deliver to the slot of a kind, if one is loaded. -/
def State.deliverKind (s : State) (k inst : Nat) (vals : List Int) (qual : Nat) : State :=
  match s.slotOf k with
  | some x => s.deliver x inst vals qual
  | none => s

/-- A slip of slot x (R292): SLIP, the event with slot and jump, the estimator restarts, tracks drop it. -/
def State.wveSlip (s : State) (x : Nat) (jump : Int) : State :=
  let s := (s.raiseBoth (F.WVE_SRCSTAT_SLIP x) F.WVE_STAT_SLIP 196).event 0x0A02 [w32 x, wInt jump]
  let s := s.setSrc x { s.src x with drift := [], fit := none }
  s.trkDrop x

/-- The aligned instant of a queue sample (R289, R290), with the state after the drift estimator took it: none until
the estimator is full. The fit itself is the estimator's (log entry 25). -/
def State.align (s : State) (x stamp rxts : Nat) : Option Nat × State :=
  let r := s.src x
  if wClk r.entry = 0 then (some ((s.fromShort stamp : Int) - wFixlat r.entry).toNat, s)
  else
    let u : Int := match r.drift with
      | (v, _) :: _ => v + sext 32 (toBits 32 ((stamp : Int) - v))
      | [] => stamp
    let win := ((u, rxts) :: r.drift).take (wDrwin r.entry)
    let s := s.setSrc x { r with drift := win }
    if win.length < wDrwin r.entry then (none, s)
    else
      let (ov, s) := s.drawNat 32
      let (rv, s) := s.drawNat 32
      let o := sext 32 ov
      let rate := sext 32 rv
      let place (o rate : Int) : Int := u + u * rate / 1000000000 + o
      let s := (s.setFld (F.WVE_SRCOFF_OFF x) ov).setFld (F.WVE_SRCRATE_RATE x) rv
      let jump : Int := match r.fit with
        | some (o', r') => place o rate - place o' r'
        | none => 0
      let per : Int := if field r.entry 32 4 = 0 then 100000000 else 1000 * field r.entry 32 4
      if per < jump.natAbs then (none, s.wveSlip x jump)
      else
        let s := s.setSrc x { s.src x with fit := some (o, rate) }
        (some ((s.fromShort (toBits 32 (place o rate)) : Int) - wFixlat r.entry).toNat, s)

/-- A range point in a camera's pixels (R304): M × p + t, the lens model, dropped behind the camera or outside the image. -/
def project (g : List Byte) (q : Nat) (p : Int × Int × Int) : Option (Int × Int) :=
  let b := 256 + 64 * q
  let c := field g (b + 1) 1 % 8
  let m (i j : Nat) (x : Int) : Int := f32Times (field g (b + 4 + 4 * (3 * i + j)) 4) (x * 2 ^ 30)
  let t (i : Nat) : Int := f32Times (field g (b + 40 + 4 * i) 4) (2 ^ 30)
  let row (i : Nat) : Int := m i 0 p.1 + m i 1 p.2.1 + m i 2 p.2.2 + t i
  let z := row 2
  if z ≤ 0 then none
  else
    let x := row 0 * 2 ^ 30 / z
    let y := row 1 * 2 ^ 30 / z
    let cam (k : Nat) (v : Int) : Int := f32Times (field g (32 * c + 4 * k) 4) v
    let r2 := (x * x + y * y) / 2 ^ 30
    let d := 2 ^ 30 + cam 4 r2 + cam 5 (r2 * r2 / 2 ^ 30)
    let u : Int := (cam 0 (x * d / 2 ^ 30) + cam 2 (2 ^ 30)) / 2 ^ 30
    let v : Int := (cam 1 (y * d / 2 ^ 30) + cam 3 (2 ^ 30)) / 2 ^ 30
    if 0 ≤ u ∧ u < field g (32 * c + 24) 2 ∧ 0 ≤ v ∧ v < field g (32 * c + 26) 2 then some (u, v) else none

/-- Frame instants of camera c, newest first. -/
def State.camFrames (s : State) (c : Nat) : List Nat := SMap.get (fun _ => []) s.wve.frames c

/-- Pair a scan of slot at an instant with the nearest frame of each pair's camera, within half that camera's PERIOD,
and project it; a scan paired with none counts as unpaired (R293, R304). -/
def State.pairScan (s : State) (slot inst : Nat) (pts : List (Int × Int × Int)) : State :=
  let g := s.wve.geom
  let pairs := (List.range 16).filter (fun q => field g (256 + 64 * q + 2) 1 % 2 = 1 && field g (256 + 64 * q) 1 = slot)
  let near (q : Nat) : Bool :=
    let c := field g (256 + 64 * q + 1) 1
    match (List.range 32).find? (fun x => s.srcLoaded x && wKind (s.src x).entry = 8 && wInput (s.src x).entry = c) with
    | some x => (s.camFrames c).any (fun t => 2 * ((t : Int) - inst).natAbs ≤ wPeriod (s.src x).entry)
    | none => false
  if pairs.any near then
    pairs.foldl (fun s q =>
      if near q then { s with wve := { s.wve with proj := SMap.set (fun _ => []) s.wve.proj q (pts.filterMap (project g q)) } }
      else s) s
  else s.bump F.WVE_UNPAIRCNT_COUNT

/-- A range scan (R293, R305, R307): paired, projected onto the ground at its instant, and given to the obstacle tracks. -/
def State.rangeScan (s : State) (slot inst rxts seq : Nat) (pts : List (Int × Int × Int)) (late : Bool) : State :=
  let e := (s.src slot).entry
  let s := s.pairScan slot inst pts
  let pose := s.poseAt (wBody e) inst
  if pose.state = 0 then s
  else
    let ground := pts.map (fun p => pose.place (mounted e p))
    let s := s.fpoints slot inst rxts seq ground
    s.trkFrame slot inst [3] (ground.map (fun p => (3, p.1, p.2.1))) late

/-- The payload length a TYPE has on input (Table 12-5). -/
def plenOk (type plen : Nat) : Bool :=
  match type with
  | 1 | 3 => plen = 4
  | 2 => plen = 32
  | 4 => plen % 8 = 0 && within 8 1024 plen
  | _ => false

/-- The kind whose records carry a TYPE (Table 12-5). -/
def typeKind (type : Nat) : Nat :=
  match type with
  | 1 => 4 | 2 => 6 | 3 => 7 | 4 => 9 | _ => 0

/-- The values of a record's payload. -/
def sampVals (type : Nat) (b : List Byte) : List Int :=
  match type with
  | 2 => [fieldInt b 0 8, fieldInt b 8 8, fieldInt b 16 4, field b 20 4, field b 24 4, 0, 0, 0]
  | _ => [fieldInt b 0 4]

/-- One sample record of a SAMPLES block (R287-R290, R306): rejected with BADREC, or aligned, written as L0 and taken. -/
def State.sampRecord (s : State) (h b : List Byte) : Bool × State :=
  let slot := field h 0 1 % 32
  let type := field h 1 1
  let r := s.src slot
  if !s.srcLoaded slot || !plenOk type (field h 2 2) || wKind r.entry ≠ typeKind type || wInput r.entry ≠ 0xFFF then
    (false, (s.bump F.WVE_BADCNT_COUNT).raiseFlag F.WVE_STAT_BADREC 196)
  else
    let rxts := field h 8 4
    match s.align slot (field h 4 4) rxts with
    | (none, s) => (true, s.setSrc slot { s.src slot with arrivals := (s.fromShort rxts :: (s.src slot).arrivals).take 16
                                                          last := some ⟨slot, s.fromShort rxts, [], 0⟩ })
    | (some inst, s) =>
      let s := s.levelRecord 0 (sampHeader slot type (field h 2 2) inst rxts (field h 12 2) (field h 14 1) 0 ++ b)
      let late := s.wve.epochs ≠ 0 && decide (inst ≤ s.wve.epochAt)
      let pts := (List.range (field h 2 2 / 8)).map (fun i => (fieldInt b (8 * i) 2, fieldInt b (8 * i + 2) 2, fieldInt b (8 * i + 4) 2))
      match s.wveArrive ⟨slot, inst, if type = 4 then [] else sampVals type b, field h 14 1⟩ with
      | (true, s) => (true, if type = 4 then s.rangeScan slot inst rxts (field h 12 2) pts late else s)
      | (false, s) => (true, s)

/-- The packed records of a block: how many were accepted, whether one overran the block (R287, R288). -/
def State.sampBlock (s : State) (bs : List Byte) (okc : Nat) : Nat → Nat × Bool × State
  | 0 => (okc, false, s)
  | fuel + 1 =>
    if bs = [] then (okc, false, s)
    else
      let plen := field bs 2 2
      if bs.length < 16 + plen then (okc, true, s)
      else
        let (ok, s) := s.sampRecord (bs.take 16) ((bs.drop 16).take plen)
        State.sampBlock s (bs.drop ((16 + plen + 3) / 4 * 4)) (if ok then okc + 1 else okc) fuel

/-- SAMPLES (R287, R288). -/
def execWveSamples (n : Fin 64) (s : State) : Out :=
  .next (s.queueCmd n (fun q => q = 0x05) 1 wveOps (fun s d =>
    if d.len = 0 then s.complete n d.didx stEMPTY 0
    else match s.unitRead (engine 15) d.addr d.len with
    | (none, s) => s.complete n d.didx stACCESS 0
    | (some bs, s) =>
      let (k, ovr, s) := s.sampBlock bs 0 bs.length
      s.complete n d.didx (if ovr then 0x80 else stOK) k))

/-! ### Camera features (R305, R307) -/

/-- A feature of a camera's frame: u and v in 1/16 pixel, kind 0 ROW or 1 EDGE (R402). -/
def State.rayPoint (s : State) (slot c inst : Nat) (u v : Int) : Option (Int × Int × Int) :=
  let e := (s.src slot).entry
  let g := s.wve.geom
  let one : Int := 2 ^ 30
  let (fm, fe) := f32Parts (field g (32 * c) 4)
  let (gm, ge) := f32Parts (field g (32 * c + 4) 4)
  let cam (k : Nat) (x : Int) : Int := f32Times (field g (32 * c + 4 * k) 4) x
  let scale (x m ex : Int) : Int := if 0 ≤ ex then x / (m * 2 ^ ex.toNat) else x * 2 ^ (-ex).toNat / m
  let xd : Int := scale (u * one / 16 - cam 2 one) fm fe
  let yd : Int := scale (v * one / 16 - cam 3 one) gm ge
  let undo (p : Int × Int) : Int × Int :=
    let r2 := (p.1 * p.1 + p.2 * p.2) / one
    let d := one + cam 4 r2 + cam 5 (r2 * r2 / one)
    (xd * one / d, yd * one / d)
  let p := undo (undo (undo (xd, yd)))
  let pose := s.poseAt (wBody e) inst
  let flat : L3 := { pose with e := 0, n := 0, u := 0 }
  let ray := flat.place (let r := wRot e; rotZ r.2.2 (rotY r.2.1 (rotX r.1 (p.1, p.2, one))))
  let eye := pose.place (wPos e)
  let up := flat.place (0, 0, 1000000)
  let dotUp (q : Int × Int × Int) : Int := q.1 * up.1 + q.2.1 * up.2.1 + q.2.2 * up.2.2
  let den := dotUp ray
  let num := -(dotUp (subP eye (pose.e, pose.n, pose.u)))
  if den = 0 then none
  else
    let along (x : Int) : Int := x * num / den
    let hit : Int × Int × Int := (eye.1 + along ray.1, eye.2.1 + along ray.2.1, eye.2.2 + along ray.2.2)
    let d := subP hit eye
    if num * den < 0 ∨ 100000 < isqrt ((d.1 * d.1 + d.2.1 * d.2.1 + d.2.2 * d.2.2).toNat) then none else some hit

/-- A camera's frame with its features (u, v, kind) at its frame instant goes to its CAMERA source: projected onto the
ground and given to the row and swath tracks (R305, R307, R402). -/
def State.camFeatures (s : State) (c inst : Nat) (feats : List (Int × Int × Nat)) : State :=
  match (List.range 32).find? (fun x => s.srcLoaded x && wKind (s.src x).entry = 8 && wInput (s.src x).entry = c) with
  | none => s
  | some slot =>
    let inst := ((inst : Int) - wFixlat (s.src slot).entry).toNat
    let s : State := { s with wve := { s.wve with frames := SMap.set (fun _ => []) s.wve.frames c ((inst :: s.camFrames c).take 8) } }
    let late := s.wve.epochs ≠ 0 && decide (inst ≤ s.wve.epochAt)
    match s.wveArrive ⟨slot, inst, [], 0⟩ with
    | (false, s) => s
    | (true, s) =>
      if (s.poseAt (wBody (s.src slot).entry) inst).state = 0 ∨ s.wve.geom = [] then s
      else
        let pts := feats.filterMap (fun f => (s.rayPoint slot c inst f.1 f.2.1).map (fun p => (f.2.2, p)))
        let s := s.fpoints slot inst (inst % 2 ^ 32) 0 (pts.map (·.2))
        s.trkFrame slot inst [0, 1] (pts.map (fun p => (p.1, p.2.1, p.2.2.1))) late

/-! ### Voting (R299-R301) -/

/-- The value of the inertial propagation from the last epoch, while INERTIAL takes part (R299). -/
def State.inertialVal (s : State) (q t : Nat) : Option (Int × Int) :=
  match s.slotOf 3 with
  | none => none
  | some x =>
    if s.wve.ready && s.fld (F.WVE_SRCSTAT_VOTE x) ≠ 3 && s.fld (F.WVE_SRCSTAT_STATE x) ≠ 0 then
      let m := s.wve.machine.after (s.yawAcc 0) ((t : Int) - s.wve.machine.inst)
      match q with
      | 0 => if s.hasField then some (m.e, m.n) else none
      | 1 => some (m.vx, 0)
      | _ => some (m.hdg, 0)
    else none

/-- The participants of a quantity: slots with values, without the inertial propagation. -/
def State.voters (s : State) (q t : Nat) : List (Nat × Int × Int) :=
  let o := s.voteOrigin
  (List.range 32).filterMap (fun x => (s.partVal o q x t false).map (fun v => (x, v)))

/-- The reference of a quantity at an instant, where three or more participants take part (R299). -/
def State.voteRef (s : State) (q t : Nat) : Option (Int × Int) :=
  let all := (s.voters q t).map (·.2) ++ (s.inertialVal q t).toList
  if 3 ≤ all.length then some (qMedian q all) else none

/-- Vote one quantity at an instant (R299, R300): the slots gated, whether exactly two differ; slots voted out are
recorded with quantity and innovation. -/
def State.voteQ (s : State) (q t : Nat) : List Nat × Bool × State :=
  let vs := s.voters q t
  let all := vs.map (·.2) ++ (s.inertialVal q t).toList
  let tol := s.qTol q
  let calm (s : State) : State := vs.foldl (fun s v =>
    let r := s.src v.1
    s.setSrc v.1 { r with dis := r.dis.filter (fun d => d.1 ≠ q) }) s
  if all.length ≤ 1 then ([], false, calm s)
  else if all.length = 2 then ([], decide (tol < (qDiff q (all.getD 0 (0, 0)) (all.getD 1 (0, 0))).natAbs), calm s)
  else
    let ref := qMedian q all
    let agree := (all.filter (fun v => (qDiff q v ref).natAbs ≤ tol)).length
    let (g, s) := vs.foldl (fun (p : List Nat × State) v =>
      let (g, s) := p
      let x := v.1
      let innov := qDiff q v.2 ref
      let r := s.src x
      if innov.natAbs ≤ tol then (g, s.setSrc x { r with dis := r.dis.filter (fun d => d.1 ≠ q) })
      else
        let since := match r.dis.find? (fun d => d.1 = q) with
          | some d => d.2
          | none => t
        let s := s.setSrc x { r with dis := (q, since) :: r.dis.filter (fun d => d.1 ≠ q) }
        if since + 1000000 * wVdwell r.entry ≤ t ∧ 2 ≤ agree then
          let s := (s.setFld (F.WVE_SRCSTAT_VOTE x) 3).setSrc x { s.src x with dis := [], agree := 0 }
          (g, ((s.setFld (F.WVE_SRCSTAT_VOTED x) 1).raiseFlag F.WVE_STAT_VOTE 196).event 0x0A03 [w32 x, w32 q, wInt innov])
        else (x :: g, s)) ([], s)
    (g, false, s)

/-- The innovation of slot x, OUT, in a quantity, against the median of the IN participants; none where it takes no
part, or nobody does (R301). -/
def State.outInnov (s : State) (q x t : Nat) : Option (Option Int) :=
  match s.partVal s.voteOrigin q x t true with
  | none => none
  | some v =>
    let all := (s.voters q t).map (·.2) ++ (s.inertialVal q t).toList
    if all = [] then some none else some (some (qDiff q v (qMedian q all)))

/-- Reinstatement (R301): `per` ns more of agreement in every quantity it takes part in; a disagreement restarts the
time, and it does not run with no IN participant. -/
def State.reinstate (s : State) (x t per : Nat) : State :=
  if s.fld (F.WVE_SRCSTAT_VOTE x) ≠ 3 then s
  else
    let l := [0, 1, 2].filterMap (fun q => (s.outInnov q x t).map (fun i => (q, i)))
    let r := s.src x
    if l = [] ∨ l.all (fun p => p.2.isNone) then s
    else if l.any (fun p => match p.2 with | some i => decide (s.qTol p.1 < i.natAbs) | none => false) then s.setSrc x { r with agree := 0 }
    else
      let total := r.agree + per
      if 100000000 * wReinst r.entry ≤ total then
        let s := (s.setSrc x { r with agree := 0, dis := [] }).setFld (F.WVE_SRCSTAT_VOTE x) 1
        let p := l.headD (0, none)
        ((s.setFld (F.WVE_SRCSTAT_REINSTATED x) 1).raiseFlag F.WVE_STAT_VOTE 196).event 0x0A03
          [w32 x, w32 p.1, wInt (match p.2 with | some i => i | none => 0)]
      else s.setSrc x { r with agree := total }

/-! ### The solution (R294-R298, R310) -/

/-- Whether a loaded source of a kind satisfies a test while it is IN and not LOST. -/
def State.anyIn (s : State) (k : Nat) (f : Nat → Bool) : Bool :=
  (List.range 32).any (fun x => s.srcLoaded x && wKind (s.src x).entry = k && s.fld (F.WVE_SRCSTAT_VOTE x) ≠ 3 &&
    s.fld (F.WVE_SRCSTAT_STATE x) ≠ 0 && f x)

/-- Whether a source of a kind is delivering: neither COAST nor LOST, and IN (a position is IN by Table 12-7 while one arrives, log
entry 25). -/
def State.liveIn (s : State) (k : Nat) : Bool := s.anyIn k (fun x => s.fld (F.WVE_SRCSTAT_STATE x) ≠ 1)

/-- Whether a position source is IN (Table 12-7). -/
def State.posIn (s : State) : Bool := s.liveIn 1 || s.liveIn 6 || s.liveIn 5

/-- The machine's solution state at an instant (Table 12-7): the first row that holds. -/
def State.solState (s : State) (t : Nat) (nomaj : Bool) (herr : Int) : Nat :=
  let inertial := s.anyIn 3 (fun _ => true)
  let wheel := s.anyIn 4 (fun _ => true)
  if !s.wve.ready || (!inertial && !wheel) then 0
  else if !s.posIn then
    if s.wve.posAt + 1000000 * s.fld F.WVE_COAST_T ≤ t then 0 else 1
  else
    let good (x : Nat) : Bool := match (s.src x).last with
      | some p => s.fld (F.WVE_SRCSTAT_STATE x) ≠ 1 && s.fld F.WVE_FULLCFG_QMIN ≤ p.qual && (wKind (s.src x).entry = 1 || wClk (s.src x).entry = 0)
      | none => false
    let course := s.anyIn 1 (fun x => match (s.src x).last with | some p => 1000 ≤ gnssSpeed p | none => false)
    let full := inertial && (s.anyIn 1 good || s.anyIn 6 good) && (s.liveIn 2 || course) &&
      decide (herr ≤ s.fld F.WVE_FULLCFG_ERR) && !nomaj
    let partner := inertial && s.anyIn 5 (fun x => match (s.src x).last with
      | some p => s.fld (F.WVE_SRCSTAT_STATE x) ≠ 1 && p.vals.getD 10 0 = 3
      | none => false)
    if full || partner then 3 else 2

/-- Guidance for the body named by WVE_GUIDE (R310): the reference point and direction, none while off, without a
track that is confirmed or coasting, or with the body LOST. -/
def State.guideRef (s : State) (x : L3) : Option (Int × Int × Int) :=
  if x.state = 0 then none
  else match s.fld F.WVE_GUIDE_MODE with
  | 1 => some (s.fldInt F.WVE_GUIDE_E_E, s.fldInt F.WVE_GUIDE_N_N, s.fld F.WVE_GUIDE_DIR_DIR)
  | 2 =>
    match s.trk (s.fld F.WVE_GUIDE_TRACK) with
    | some t => if t.state = 1 ∨ t.state = 2 then some (t.e, t.n, t.dir) else none
    | none => none
  | _ => none

/-- XTE, positive left of the reference, and HDGERR of a body (R310). -/
def State.guidance (s : State) (x : L3) : Option (Int × Int) :=
  (s.guideRef x).map (fun r => (timesSin (x.n - r.2.1) r.2.2 - timesCos (x.e - r.1) r.2.2, wrapPi (r.2.2 - x.hdg)))

/-- A change of a body's solution state shows, sets SOL_CHG and is recorded (R298). -/
def State.solEnter (s : State) (body : Nat) (new : Nat) : State :=
  let f := if body = 0 then F.WVE_SOL_MSTATE else F.WVE_SOL_ISTATE
  let old := s.fld f
  if old = new then s
  else ((s.setFld f new).raiseFlag F.WVE_STAT_SOL_CHG 197).event 0x0A05 [w32 body, w32 old, w32 new]

/-- A sample is taken at its epoch: arrivals, last value, quality fault (R302). -/
def State.takeSample (s : State) (p : WSamp) : State :=
  let r := s.src p.slot
  let k := wKind r.entry
  let bad := ((k = 1 || k = 6) && p.qual < s.fld F.WVE_FULLCFG_QMIN) || (k = 2 && p.vals.getD 2 0 = 0)
  s.setSrc p.slot { r with arrivals := (p.inst :: r.arrivals).take 16, last := some p, qfault := bad }

/-- The epoch's instant that may run now (R294): the next inertial sample's, or with INERTIAL LOST the next 625 µs
multiple. -/
def State.nextEpoch (s : State) : Option Nat :=
  let imu := s.slotOf 3
  let waiting := s.wve.inbox.filter (fun p => some p.slot = imu)
  match waiting with
  | p :: _ => some p.inst
  | [] =>
    let lost := match imu with
      | some x => s.srcState x = 0
      | none => true
    if lost && s.due s.wve.epochAt 625000 then some ((s.wve.epochAt / 625000 + 1) * 625000) else none

/-- Take reloads, geometry and fields at an epoch (R286, R304, R309). -/
def State.epochLoads (s : State) : State :=
  let s := (List.range 32).foldl (fun s x => s.srcTake x) s
  let s := (List.range 32).foldl (fun s x => s.srcJudge x) s
  let s := match s.wve.geomNext with
    | some g => { s with wve := { s.wve with geom := g, geomNext := none } }
    | none => s
  let l := s.wve.fieldNext
  let s : State := { s with wve := { s.wve with fieldNext := [] } }
  let s : State := if l.isEmpty then s else { s with
    cov := { s.cov with changed := true, moved := true }
    yld := { s.yld with trace := s.yld.trace.map (fun c => { c with stale := true }) } }
  l.foldl (fun s f => (s.takeField f.2.2).complete f.1 f.2.1 stOK 0) s

/-- One epoch at an instant (R294-R302, R310, R311). -/
def State.runEpoch (s : State) (t : Nat) : State :=
  let per := t - s.wve.epochAt
  let s := s.epochLoads
  let batch := sortBy (fun a b => a.inst < b.inst || (a.inst = b.inst && a.slot ≤ b.slot)) (s.wve.inbox.filter (fun p => p.inst ≤ t))
  let s : State := { s with wve := { s.wve with inbox := s.wve.inbox.filter (fun p => t < p.inst) } }
  let s := batch.foldl (fun s p => s.takeSample p) s
  let s := (List.range 32).foldl (fun s x => s.srcRefresh x) s
  let o := s.voteOrigin
  let r0 := s.voteRef 0 t
  let (g0, n0, s) := s.voteQ 0 t
  let r1 := s.voteRef 1 t
  let (g1, n1, s) := s.voteQ 1 t
  let r2 := s.voteRef 2 t
  let (g2, n2, s) := s.voteQ 2 t
  let gated := g0 ++ g1 ++ g2
  let nomaj := n0 || n1 || n2
  let s := (List.range 32).foldl (fun s x =>
    let v := s.fld (F.WVE_SRCSTAT_VOTE x)
    if v = 1 ∨ v = 2 then s.setFld (F.WVE_SRCSTAT_VOTE x) (if gated.contains x then 2 else 1) else s) s
  let s := (List.range 32).foldl (fun s x => s.reinstate x t per) s
  let s := s.setBit F.WVE_SOL_NOMAJ nomaj
  let s := if nomaj then s.raiseFlag F.WVE_STAT_NOMAJ 196 else s
  let used (p : WSamp) : Bool := s.srcIn p.slot && 2 ≤ s.fld (F.WVE_SRCSTAT_STATE p.slot) && !(s.src p.slot).filling
  let srcin := (List.range 32).foldl (fun n x => if batch.any (fun p => p.slot = x && used p) then n + 2 ^ x else n) 0
  let fusedPos := batch.any (fun p => used p && [1, 5, 6].contains (wKind (s.src p.slot).entry))
  let s : State := { s with wve := { s.wve with
    posAt := if fusedPos then t else s.wve.posAt
    ready := s.wve.ready || (s.posIn && (s.liveIn 2 || s.liveIn 5 ||
      s.anyIn 1 (fun x => match (s.src x).last with | some p => 1000 ≤ gnssSpeed p | none => false))) } }
  let (m, s) := s.fuse { L3.init with inst := t, nomaj := nomaj, srcin := srcin }
  let st := s.solState t nomaj m.herr
  let m := { m with state := st }
  let (i, s) := s.implementSol m
  let (free, s) := s.drawNat 62
  let guided := if s.flag F.WVE_GUIDE_BODY then i else m
  let g := match s.guidance guided with
    | some g => g
    | none => (sext 31 free, sext 31 (free / 2 ^ 31))
  let m := { m with xte := g.1, hdgerr := g.2 }
  let i := { i with xte := g.1, hdgerr := g.2, srcin := srcin, nomaj := nomaj }
  let s := (s.setFld F.WVE_SOLIN_SRCIN srcin).setFld F.WVE_HERR_HERR m.herr.toNat
  let s := (s.solEnter 0 m.state).solEnter 1 i.state
  let n := s.wve.epochs + 1
  let s : State := { s with wve := { s.wve with
    epochAt := t, epochs := n, machine := m, implement := i, yaws := ((m.yaw, i.yaw) :: s.wve.yaws).take 8
    hist := ((m, i) :: s.wve.hist).filter (fun p => t ≤ p.1.inst + 512000000)
    refs := ((t, o, [r0, r1, r2]) :: s.wve.refs).filter (fun r => t ≤ r.1 + 512000000) } }
  let div := s.fld F.WVE_OUTCFG_L3DIV
  if div ≠ 0 ∧ n % div = 0 then (s.levelRecord 3 (m.bytes 0)).levelRecord 3 (i.bytes 1) else s

/-- WVE_EPOCH (R294): the next epoch, while EN is 1. -/
def execWveEpoch (s : State) : Out :=
  if s.flag F.WVE_CTL_EN then
    match s.nextEpoch with
    | some t => .next (s.runEpoch t)
    | none => .next s
  else .next s

/-! ### Commands of the sensor units that deliver to Weave -/

/-- IMU_SAMPLE (R278): a sample in register units, acquired at a stamp, to the registers and, outside a self-test, to Weave. -/
def execImuSample (ax ay az gx gy gz temp : BitVec 16) (ts : Word) (s : State) : Out :=
  if s.flag F.IMU_CTL_EN then
    let s := s.imuSample [ax.toNat, ay.toNat, az.toNat, gx.toNat, gy.toNat, gz.toNat, temp.toNat] ts.toNat
    if s.afe.selfTest.isSome then .next s
    else
      let (a, w) := s.imuRanges
      .next (s.deliverKind 3 (s.fromShort ts.toNat)
        [ax.toInt * a / 32768, ay.toInt * a / 32768, az.toInt * a / 32768,
         gx.toInt * w / 32768, gy.toInt * w / 32768, gz.toInt * w / 32768] 0)
  else .next s

/-- A WHEEL speed in mm/s: SCALE in mm per count times the rate in mHz (Table 12-2). -/
def wheelSpeed (e : List Byte) (rate : Int) : Int := f32Times (field e 36 4) rate / 1000

/-- PULSE_RATE_UPDATE (R273, R274, R276): every 1 ms each pulse input updates its rate; a WHEEL source on a pulse input
takes it as a sample (log entry 28). -/
def execPulseRateUpdate (s : State) : Out :=
  if s.due s.afe.rateAt 1000000 then
    let t := (s.afe.rateAt / 1000000 + 1) * 1000000
    let s := (List.range 24).foldl (fun s n =>
      if s.pinOn n then
        let e := s.entry 5 n
        if pMode e = 1 ∧ n % 2 = 1 then s.setReg (R.PLS_RATE n) (s.reg (R.PLS_RATE (n - 1)))
        else
          let s := s.setInt (F.PLS_RATE_RATE n) (s.pinRate n t)
          s.setPin n { s.pin n with times := (s.pin n).times.filter (fun u => t < u + pWin e * 1000000) }
      else s) s
    let s := (List.range 32).foldl (fun s x =>
      let e := (s.src x).entry
      if s.srcLoaded x && wKind e = 4 && wInput e ≠ 0xFFF then
        let n := if wInput e < 0x30 then wInput e - 0x10 else 2 * (wInput e - 0x30)
        if s.pinOn n then s.deliver x t [wheelSpeed e (s.fldInt (F.PLS_RATE_RATE n))] 0 else s
      else s) s
    .next { s with afe := { s.afe with rateAt := t } }
  else .next s

/-- A result of analogue input i goes to the HITCH sources that name it, while it is OK: OFFSET + SCALE × CODE (Table 12-2). -/
def State.hitchSample (s : State) (i : Nat) (inst : Nat) : State :=
  if s.fld (F.AFE_RES_STATUS i) = 0 then
    (List.range 32).foldl (fun s x =>
      let e := (s.src x).entry
      if s.srcLoaded x && wKind e = 7 && wInput e = 0x100 + i then
        let c := s.fldInt (F.AFE_RES_CODE i)
        s.deliver x inst [f32Times (field e 36 4) (c * 1000000) + f32Times (field e 40 4) 1000000] 0
      else s) s
  else s

/-! ### Registers and output -/

/-- A register write in the WVE window: WVE_GUIDE.MODE 3 reads as 0; with EN set, the first epoch is the next one (R312). -/
def State.writeWve (s : State) (a : Nat) (w : Word) : State :=
  let was := s.flag F.WVE_CTL_EN
  let s := s.writePlain a w
  let s : State := if !was && s.flag F.WVE_CTL_EN then { s with wve := { s.wve with epochAt := s.now / 625000 * 625000 } } else s
  if a = R.WVE_GUIDE ∧ s.fld F.WVE_GUIDE_MODE = 3 then s.setFld F.WVE_GUIDE_MODE 0 else s

/-- The flush time of an output queue in ns: WVE 0x06, YLD 0x07, TIM 0x0A, CAN 0x20-0x2B, ETH 0x40-0x4A (R311, R348, R365, R427, R439). -/
def State.flushNs (s : State) (q : Nat) : Option Nat :=
  if q = 0x06 then some (1000000 * s.fld F.WVE_OUTCFG_FLUSH)
  else if q = 0x07 then some (1000000 * s.fld F.YLD_OUTCFG_FLUSH)
  else if q = 0x0A then some 1000000000
  else if 0x20 ≤ q ∧ q ≤ 0x2B then some (1000000 * s.fld (F.CAN_RXFLUSH_FLUSH (q - 0x20)))
  else if 0x40 ≤ q ∧ q ≤ 0x4A then some (1000000 * s.fld F.ETH_RXFLUSH_FLUSH)
  else none

/-- OUTPUT_FLUSH_TIMEOUT (R311, R348): FLUSH ms after its first record an output descriptor of ring n completes. -/
def execOutputFlushTimeout (n : Fin 64) (s : State) : Out :=
  match s.outBuf n, s.flushNs (s.fld (F.RNG_CFG_QUEUE n)) with
  | some b, some ns => if b.used ≠ 0 ∧ s.elapsed b.since ns then .next (s.closeBuf n) else .next s
  | _, _ => .next s

end Sys2Proof.Machine
end

