-- ==== Sys2Proof/Machine/Gnss.lean ====
section
/-! DEFINITION. GNSS baseband and antennas (13_gnss_baseband.md). -/

namespace Sys2Proof.Machine

/-- Tracking channel c. -/
def State.chan (s : State) (c : Nat) : Option Chan := SMap.get (fun _ => none) s.gns.chans c

/-- Replace tracking channel c. -/
def State.setChan (s : State) (c : Nat) (x : Option Chan) : State :=
  { s with gns := { s.gns with chans := SMap.set (fun _ => none) s.gns.chans c x } }

/-- GNS_ACQSTAT.FOUND: the signals acquired in the last second (Table 13-9). -/
def State.gnsFound (s : State) : Nat := min 255 (s.gns.found.filter (fun t => s.now < t + 1000000000)).length

/-- Bring GNS_CHUSE and GNS_CHINFO up to date with the channels. -/
def State.gnsSync (s : State) : State :=
  let l := s.gns.chans.filterMap (fun p => p.2)
  let s := s.setFld F.GNS_CHUSE_ANT0 (l.filter (fun c => c.ant = 0)).length
  let s := s.setFld F.GNS_CHUSE_ANT1 (l.filter (fun c => c.ant = 1)).length
  match s.chan (s.fld F.GNS_CHSEL_CH) with
  | some c => s.setReg R.GNS_CHINFO (w32 (c.state * 2 ^ 28 + c.ant * 2 ^ 24 + c.sig * 2 ^ 16 + c.svid * 2 ^ 8 + c.cn0))
  | none => s.setReg R.GNS_CHINFO 0

/-- The band group of a signal: 0 L1, 1 L2, 2 L5 (Table 13-1). -/
def sigBand (sig : Nat) : Nat :=
  if [1, 10, 12].contains sig then 1 else if [2, 4, 5, 8, 13].contains sig then 2 else 0

/-- The allocation class of a need, lower first; none where the unit does not track it (R315, R320). -/
def State.needClass (s : State) (ant sig : Nat) : Option Nat :=
  if s.gns.sigen / 2 ^ sig % 2 = 0 then none
  else if ant = 1 then
    if s.flag F.GNS_CTL_HDGEN && s.fld F.GNS_HDGSIG_SIG / 2 ^ sig % 2 = 1 then some 1 else none
  else match sigBand sig with
  | 0 => some 0
  | 1 => some 3
  | _ => some 2

/-- Antenna a delivers signals: its supply is in OK (Table 13-5) and the front ends are enabled. -/
def State.antOk (s : State) (a : Nat) : Bool := s.flag F.GRF_CTL_EN && s.fld (F.GRF_ANTSTAT_STATE a) = 2

/-- The offsets of the correlators VE, E, N1, P, N2, L and VL from prompt, in 1/80 chip, of the early-late spacing in force (R321). -/
def State.correlators (s : State) : List Int :=
  let d : Int := match s.gns.spacing with | 0 => 8 | 1 => 16 | 2 => 40 | _ => 80
  [-d, -d / 2, -d / 8, 0, d / 8, d / 2, d]

/-- The pair the code loop discriminates on: E and L, or N1 and N2 with MPMIT (R321). -/
def State.loopPair (s : State) : Int × Int :=
  if s.flag F.GNS_CORR_MPMIT then (s.correlators.getD 2 0, s.correlators.getD 4 0) else (s.correlators.getD 1 0, s.correlators.getD 5 0)

/-- Allocate the channels (R320): held and waiting signals in class order, by elevation within a class; the first 256
keep or get a channel; needs beyond set CH_FULL and are recorded. A satellite not received now keeps the elevation it had. A new need
takes the lowest free channel (log entry 29). -/
def State.allocate (s : State) (obs : List GObs) : State :=
  let held (a g v : Nat) : Int := match s.gns.chans.findSome? (fun p => p.2.bind (fun c =>
      if c.ant = a ∧ c.sig = g ∧ c.svid = v then some c.elev else none)) with
    | some e => e
    | none => -90
  let elevOf (a g v : Nat) : Int := match obs.find? (fun o => o.ant.val = a && o.sig.val = g && o.svid.toNat = v) with
    | some o => o.elev
    | none => held a g v
  let held := s.gns.chans.filterMap (fun p => p.2.map (fun c => (some p.1, c.ant, c.sig, c.svid)))
  let all := held ++ s.gns.waiting.map (fun w => (none, w.1, w.2.1, w.2.2))
  let needs := all.filterMap (fun x => (s.needClass x.2.1 x.2.2.1).map (fun k => (k, elevOf x.2.1 x.2.2.1 x.2.2.2, x)))
  let needs := sortBy (fun a b => a.1 < b.1 || (a.1 = b.1 && decide (b.2.1 ≤ a.2.1))) needs
  let served := needs.take 256
  let keep := served.filterMap (fun x => x.2.2.1)
  let s : State := { s with gns := { s.gns with chans := SMap.keep s.gns.chans (fun c => keep.contains c), waiting := (needs.drop 256).map (fun x => x.2.2.2) } }
  let s := served.foldl (fun s x =>
    match x.2.2.1 with
    | some _ => s
    | none =>
      match (List.range 256).find? (fun c => (s.chan c).isNone) with
      | some c => s.setChan c (some ⟨1, x.2.2.2.1, x.2.2.2.2.1, x.2.2.2.2.2, 0, s.now, true, x.2.1⟩)
      | none => s) s
  if 256 < needs.length then (s.raiseFlag F.GNS_STAT_CH_FULL 198).event 0x0B02 [] else s

/-- The MEAS record of a channel in lock (Table 13-4): MP where a distorted peak is detected, NOTCHCHG where a notch of its band group
on its antenna changed. -/
def measBytes (c : Chan) (o : GObs) (lockt : Nat) (mp chg : Bool) : List Byte :=
  leBytes 1 2 ++ leBytes 1 c.sig ++ leBytes 1 c.svid ++
    leBytes 1 (c.ant + (if o.halfcyc then 2 else 0) + (if c.slip then 4 else 0) + (if mp then 8 else 0) + (if chg then 16 else 0)) ++
    leBytes 8 o.pr.toNat ++ leBytes 8 o.cp.toNat ++ leBytes 4 o.dop.toNat ++ leBytes 4 lockt ++ leBytes 1 o.cn0.toNat ++
    leBytes 1 o.prstd.toNat ++ leBytes 1 (if c.sig = 9 ∨ c.sig = 10 then o.fcn.toNat else 0) ++ leBytes 1 0

/-- Write a GNSS record to queue 0x0B (R322). -/
def State.gnsRecord (s : State) (bs : List Byte) : State := s.putOrDrop 0x0B (engine 22) bs F.GNS_DROPCNT_COUNT

/-- A SOL record (Table 13-3): epoch, position, velocity, errors, quality, satellites, INJ. -/
def solBytes (epoch : Nat) (v : List Int) (qual nsv : Nat) (inj : Bool) : List Byte :=
  leBytes 4 3 ++ leBytes 4 epoch ++ leBytes 8 (toBits 64 (v.getD 0 0)) ++ leBytes 8 (toBits 64 (v.getD 1 0)) ++
    leBytes 4 (toBits 32 (v.getD 2 0)) ++ leBytes 4 (toBits 32 (v.getD 5 0)) ++ leBytes 4 (toBits 32 (v.getD 6 0)) ++
    leBytes 4 (toBits 32 (v.getD 7 0)) ++ leBytes 4 (toBits 32 (v.getD 3 0)) ++ leBytes 4 (toBits 32 (v.getD 4 0)) ++
    leBytes 1 qual ++ leBytes 1 nsv ++ leBytes 1 (if inj then 1 else 0) ++ leBytes 13 0

/-- The period of epochs in ns, none for RATE 0 (R318). -/
def State.gnsPeriod (s : State) : Option Nat :=
  match s.fld F.GNS_CTL_RATE with
  | 1 => some 1000000000
  | 2 => some 500000000
  | 3 => some 200000000
  | 4 => some 100000000
  | 5 => some 50000000
  | _ => none

/-- The channels of an epoch: those whose signal is received are in lock, with a MEAS record each (R322). -/
def State.gnsMeas (s : State) (obs : List GObs) (t : Nat) : List (List Byte) × State :=
  (List.range 256).foldl (fun (p : List (List Byte) × State) c =>
    let s := p.2
    match s.chan c with
    | none => p
    | some x =>
      match obs.find? (fun o => o.ant.val = x.ant && o.sig.val = x.sig && o.svid.toNat = x.svid) with
      | some o =>
        if s.antOk x.ant then
          let x := if x.state = 3 then x else { x with state := 3, lockAt := t }
          let chg := s.gns.notchChg.contains (3 * x.ant + sigBand x.sig)
          (p.1 ++ [measBytes x o (min ((t - x.lockAt) / 1000000) (2 ^ 32 - 1)) (o.mp && s.flag F.GNS_CORR_MPMIT) chg],
            s.setChan c (some { x with slip := false, cn0 := o.cn0.toNat, elev := o.elev }))
        else p
      | none => p) ([], s)

/-- The heading of an epoch (R326): none with BASE 0, which sets CONFIG and is recorded; FIXED within BTOL of BASE;
written as HDG and given to Weave's HEADING source. -/
def State.gnsHeading (s : State) (t : Nat) (hdg : Option GHdg) : State :=
  if !s.flag F.GNS_CTL_HDGEN then s.setFld F.GNS_SOL_HFIXED 0
  else if s.fld F.GNS_HDGCFG_BASE = 0 then
    ((s.setFld F.GNS_SOL_HFIXED 0).raiseFlag F.GNS_STAT_CONFIG 198).event 0x0B01 []
  else match hdg with
  | none => s.setFld F.GNS_SOL_HFIXED 0
  | some g =>
    if !s.antOk 1 || !s.antOk 0 then s.setFld F.GNS_SOL_HFIXED 0
    else
      let fixed := g.resolved && decide (((g.len.toNat : Int) - s.fld F.GNS_HDGCFG_BASE).natAbs ≤ s.fld F.GNS_HDGCFG_BTOL)
      let s := s.setBit F.GNS_SOL_HFIXED fixed
      let s := s.gnsRecord (leBytes 4 4 ++ leBytes 4 t ++ leBytes 4 g.az.toNat ++ leBytes 4 g.el.toNat ++ leBytes 4 g.len.toNat ++
        leBytes 4 g.sigma.toNat ++ leBytes 1 (if fixed then 1 else 0) ++ leBytes 7 0)
      s.deliverKind 2 t [g.az.toNat, g.el.toInt, if fixed then 1 else 0] 0

/-- The solution of an epoch (R323, R325): standalone from ANT0, QUAL 1, or 2 with SBAS; in MODE 1 it goes to Weave only
while injections are stale, and the SOL record carries the injected set while they are current. -/
def State.gnsSolution (s : State) (t : Nat) (sol : Option GSol) : State :=
  let injected := s.fld F.GNS_INJCFG_MODE = 1 && !s.gns.stale && s.gns.injEpoch.isSome
  let s := s.setBit F.GNS_SOL_INJ injected
  match (if s.antOk 0 then sol else none) with
  | none =>
    if injected then s.gnsRecord (solBytes (match s.gns.injEpoch with | some e => e | none => 0) s.gns.inj (s.gns.inj.getD 8 0).toNat 0 true) else s
  | some g =>
    let tracked := s.gns.chans.any (fun p => match p.2 with | some c => c.sig = 14 && c.state = 3 | none => false)
    let qual := if g.sbas && tracked then 2 else 1
    let v : List Int := [g.lat.toInt, g.lon.toInt, g.h.toInt, g.herr.toNat, g.verr.toNat, g.ve.toInt, g.vn.toInt, g.vu.toInt]
    let s : State := { s with gns := { s.gns with epochs := ((t, g.ve.toInt, g.vn.toInt, g.vu.toInt) :: s.gns.epochs.filter (fun e => e.1 ≠ t)).take 16 } }
    let s := s.setFld F.GNS_SOL_NSV g.nsv.toNat
    let s := if injected then s.gnsRecord (solBytes (match s.gns.injEpoch with | some e => e | none => 0) s.gns.inj (s.gns.inj.getD 8 0).toNat g.nsv.toNat true)
      else s.gnsRecord (solBytes t v qual g.nsv.toNat false)
    if s.fld F.GNS_INJCFG_MODE = 0 ∨ s.gns.stale then
      let s := (s.setFld F.GNS_SOL_QUAL qual).deliverKind 1 t v qual
      { s with gns := { s.gns with standAt := t } }
    else s

/-- GNSS_EPOCH (R315, R318, R320-R323, R326): at the next epoch instant the unit allocates its channels and produces
header, measurements, solution, heading and CLKOFF; a descriptor completes after the last record. The Doppler velocity of an epoch
without a solution, which an injection for it would carry, is left open (log entry 29). -/
def execGnssEpoch (obs : List GObs) (time : GTime) (sol : Option GSol) (hdg : Option GHdg) (s : State) : Out :=
  if s.flag F.GNS_CTL_EN then
    match s.gnsPeriod with
    | none => .next s
    | some per =>
      if s.due s.gns.epochAt per then
        let t := (s.gns.epochAt / per + 1) * per
        let (v, s) := s.drawNat 96
        let s : State := { s with gns := { s.gns with
          epochAt := t, sigen := s.fld F.GNS_SIGEN_SIG, spacing := s.fld F.GNS_CORR_SP
          epochs := ((t, sext 32 v, sext 32 (v / 2 ^ 32), sext 32 (v / 2 ^ 64)) :: s.gns.epochs).take 16 } }
        let s := s.allocate obs
        let (meas, s) := s.gnsMeas obs t
        let s := s.gnsRecord (leBytes 2 1 ++ leBytes 2 meas.length ++ leBytes 4 t ++ leBytes 4 time.tow.toNat ++
          leBytes 2 time.week.toNat ++ leBytes 1 (if time.tvalid then 1 else 0) ++ leBytes 1 0 ++ leBytes 8 time.clkoff.toNat ++
          leBytes 4 time.drift.toNat ++ leBytes 4 0)
        let s := meas.foldl (fun s b => s.gnsRecord b) s
        let s := s.gnsSolution t sol
        let s := s.gnsHeading t hdg
        let s := match s.ringOf 0x0B with
          | some n => s.closeBuf n
          | none => s
        let s := s.setReg64 R.GNS_CLKOFF_LO R.GNS_CLKOFF_HI time.clkoff.toNat
        let s : State := { s with
          gns := { s.gns with notchChg := [] }
          tim := { s.tim with gnssValid := time.tvalid && sol.isSome && s.antOk 0, gnssFresh := some t } }
        .next s.timInputs.gnsSync
      else .next s
  else .next s

/-! ### Acquisition (R319) -/

/-- Searches are queued again: how many jobs wait is the search's (log entry 29). -/
def State.requeue (s : State) : State :=
  let (n, s) := s.drawNat 8
  s.setFld F.GNS_ACQSTAT_QUEUED n

/-- A write of GNS_ACQCMD (Table 13-2). The held ephemerides and almanac show in no register. -/
def State.writeAcqCmd (s : State) (w : Word) : State :=
  match F.GNS_ACQCMD_RESTART.get w with
  | 0 => s
  | 1 => ({ s with gns := { s.gns with chans := [], waiting := [], jobs := [] } } : State).requeue.gnsSync
  | _ => s.requeue.gnsSync

/-- RESTART_COLD, RESTART_WARM, RESTART_HOT (R319). -/
def execRestartCold (acc : Acc) (s : State) : Out := .next (s.guardWrite acc R.GNS_ACQCMD (fun s => s.writeAcqCmd 1))
def execRestartWarm (acc : Acc) (s : State) : Out := .next (s.guardWrite acc R.GNS_ACQCMD (fun s => s.writeAcqCmd 2))
def execRestartHot (acc : Acc) (s : State) : Out := .next (s.guardWrite acc R.GNS_ACQCMD (fun s => s.writeAcqCmd 3))

/-- ACQUISITION_FOUND (R319): a job ends; a channel of that signal is in code lock again, else the signal waits for
the allocation, taking a free channel in pull-in at once. -/
def execAcquisitionFound (ant : Fin 2) (sig : Fin 15) (svid : BitVec 8) (s : State) : Out :=
  if s.flag F.GNS_CTL_EN && (s.needClass ant sig).isSome && s.antOk ant then
    let v := svid.toNat
    let s : State := { s with gns := { s.gns with
      found := s.now :: s.gns.found.filter (fun t => s.now < t + 1000000000)
      jobs := s.gns.jobs.filter (fun j => !(j.1 = ant.val && j.2.1 = sig.val && j.2.2.1 = v)) } }
    let s := s.setFld F.GNS_ACQSTAT_QUEUED (s.fld F.GNS_ACQSTAT_QUEUED - 1)
    match (List.range 256).find? (fun c => match s.chan c with | some x => x.ant = ant.val && x.sig = sig.val && x.svid = v | none => false) with
    | some c =>
      match s.chan c with
      | some x => .next (s.setChan c (some { x with state := max x.state 2 })).gnsSync
      | none => .next s.gnsSync
    | none =>
      match (List.range 256).find? (fun c => (s.chan c).isNone) with
      | some c => .next (s.setChan c (some ⟨1, ant, sig, v, 0, s.now, true, -90⟩)).gnsSync
      | none => .next ({ s with gns := { s.gns with waiting := s.gns.waiting.filter (fun x => x ≠ (ant.val, sig.val, v)) ++ [(ant.val, sig.val, v)] } } : State).gnsSync
  else .next s

/-- Channel c loses lock: SLIP for its next measurement and a reacquisition job for 10 s (R319, Table 13-4). -/
def State.loseLock (s : State) (c : Nat) : State :=
  match s.chan c with
  | some x =>
    if 2 ≤ x.state then
      let s := s.setChan c (some { x with state := 1, slip := true })
      let s := s.setFld F.GNS_ACQSTAT_QUEUED (min 255 (s.fld F.GNS_ACQSTAT_QUEUED + 1))
      { s with gns := { s.gns with jobs := s.gns.jobs ++ [(x.ant, x.sig, x.svid, s.now + 10000000000)] } }
    else s
  | none => s

/-- LOST_LOCK (R319). -/
def execLostLock (ch : Fin 256) (s : State) : Out := .next (s.loseLock ch).gnsSync

/-- NAV_RECORD (R322): a received message frame of 1 to 40 words. -/
def execNavRecord (sig : Fin 15) (svid : BitVec 8) (words : List Word) (s : State) : Out :=
  if words.length = 0 ∨ 40 < words.length then .fault (.illFormed "NAV_RECORD")
  else if s.flag F.GNS_CTL_EN then
    .next (s.gnsRecord (leBytes 1 5 ++ leBytes 1 sig ++ leBytes 1 svid.toNat ++ leBytes 1 words.length ++ leBytes 4 s.short ++
      words.flatMap (fun w => leBytes 4 w.toNat)))
  else .next s

/-! ### Injection (R325) -/

/-- A write of GNS_INJ_CTL: QUAL and HERR are taken; with GO the set is accepted or sets INJ_REJ. -/
def State.writeInjCtl (s : State) (w : Word) : State :=
  let s := s.writePlain R.GNS_INJ_CTL w
  if F.GNS_INJ_CTL_GO.get w = 0 then s
  else if s.fld F.GNS_INJCFG_MODE = 0 then s
  else
    let ep := s.fld F.GNS_INJ_EPOCH_EPOCH
    let qual := s.fld F.GNS_INJ_CTL_QUAL
    match s.gns.epochs.find? (fun e => e.1 % 2 ^ 32 = ep) with
    | none => s.raiseFlag F.GNS_STAT_INJ_REJ 198
    | some e =>
      let later := match s.gns.injEpoch with
        | some last => decide (last < e.1)
        | none => true
      if !later ∨ (qual ≠ 3 ∧ qual ≠ 4) then s.raiseFlag F.GNS_STAT_INJ_REJ 198
      else
        let v : List Int := [sext 64 (s.reg64 R.GNS_INJ_LAT_LO R.GNS_INJ_LAT_HI), sext 64 (s.reg64 R.GNS_INJ_LON_LO R.GNS_INJ_LON_HI),
          s.fldInt F.GNS_INJ_H_H, s.fld F.GNS_INJ_CTL_HERR, 0, e.2.1, e.2.2.1, e.2.2.2, qual]
        let back := !s.gns.stale || decide (s.gns.standAt < e.1)
        let s : State := { s with gns := { s.gns with injEpoch := some e.1, injAt := s.now, inj := v, stale := s.gns.stale && !back } }
        if back then ((s.setFld F.GNS_SOL_QUAL qual).setFld F.GNS_SOL_INJ 1).deliverKind 1 e.1 (v.take 8) qual else s

/-- INJECTION (R325): a write of GNS_INJ_CTL with GO. -/
def execGnsInjection (acc : Acc) (value : Word) (s : State) : Out :=
  .next (s.guardWrite acc R.GNS_INJ_CTL (fun s => s.writeInjCtl (value ||| 0x80000000)))

/-- GNS_INJ_STALE (R325): no injection accepted for TO ms in MODE 1; the standalone solution is delivered again. -/
def execGnsInjStale (s : State) : Out :=
  let to_ := s.fld F.GNS_INJCFG_TO
  if s.flag F.GNS_CTL_EN && s.fld F.GNS_INJCFG_MODE = 1 && !s.gns.stale && to_ ≠ 0 && s.elapsed s.gns.injAt (1000000 * to_) then
    let s : State := { s with gns := { s.gns with stale := true } }
    .next (((s.setFld F.GNS_SOL_INJ 0).raiseFlag F.GNS_STAT_INJ_STALE 198).event 0x0B03 [])
  else .next s

/-! ### Front ends (R327-R329) -/

/-- The register word of a filter is in force; where it changed, NOTCHCHG at the next epoch for its band group and antenna (R327). -/
def State.notchApply (s : State) (key : Nat) : State :=
  let w := (s.reg (R.GRF_NOTCH (key / 12) (key / 4 % 3) (key % 4))).toNat
  if SMap.get (fun _ => 0) s.gns.notchOn key = w then s
  else { s with gns := { s.gns with notchOn := SMap.set (fun _ => 0) s.gns.notchOn key w, notchChg := (key / 4) :: s.gns.notchChg } }

/-- NOTCH_MOVE (R327): with AUTO the filter centres on a tone at an offset in kHz, a change beyond 1 kHz; with AUTO clear a waiting
write takes effect at the 1 ms boundary after it. -/
def execNotchMove (a : Fin 2) (b : Fin 3) (f : Fin 4) (tone : BitVec 16) (s : State) : Out :=
  let key := 12 * a.val + 4 * b.val + f.val
  if s.flag (F.GRF_NOTCH_AUTO a b f) && s.flag (F.GRF_NOTCH_EN a b f) && s.flag F.GRF_CTL_EN then
    let old := s.fldInt (F.GRF_NOTCH_FOFF a b f)
    let s := s.setFld (F.GRF_NOTCH_FOFF a b f) tone.toNat
    if 1 < (tone.toInt - old).natAbs then .next (s.notchApply key)
    else .next { s with gns := { s.gns with notchOn := SMap.set (fun _ => 0) s.gns.notchOn key (s.reg (R.GRF_NOTCH a b f)).toNat } }
  else match s.gns.notchNext.find? (fun p => p.1 = key) with
  | some p =>
    if (p.2 / 1000000 + 1) * 1000000 ≤ s.now then
      .next (({ s with gns := { s.gns with notchNext := s.gns.notchNext.filter (fun p => p.1 ≠ key) } } : State).notchApply key)
    else .next s
  | none => .next s

/-- A write of a notch register: FOFF is kept while AUTO is set, and the filter follows from now on; with AUTO clear the change waits
for the next 1 ms boundary (R327). -/
def State.writeNotch (s : State) (key : Nat) (addr : Nat) (w : Word) : State :=
  let a := key / 12
  let b := key / 4 % 3
  let f := key % 4
  let foff := s.fld (F.GRF_NOTCH_FOFF a b f)
  let s := s.writePlain addr w
  if s.flag (F.GRF_NOTCH_AUTO a b f) then
    let s : State := { s with gns := { s.gns with notchNext := s.gns.notchNext.filter (fun p => p.1 ≠ key) } }
    (s.setFld (F.GRF_NOTCH_FOFF a b f) foff).notchApply key
  else { s with gns := { s.gns with notchNext := SMap.set (fun _ => 0) s.gns.notchNext key s.now } }

/-- GNS_JAM (R328): the in-band power of antenna a and group b over 100 ms, in 0.01 dB above the noise floor, and the
gain; JI at or above JTH for 1 s sets JAM and is recorded once. -/
def execGnsJam (a : Fin 2) (b : Fin 3) (power : BitVec 16) (agc : BitVec 8) (s : State) : Out :=
  if s.flag F.GRF_CTL_EN then
    let ji := min 255 ((4 * power.toNat + 50) / 100)
    let s := (s.setFld (F.GRF_JAM_JI a b) ji).setFld (F.GRF_JAM_AGC a b) agc.toNat
    let jth := s.fld (F.GRF_JAM_JTH a b)
    let key := 3 * a.val + b.val
    let put (s : State) (x : Option (Nat × Bool)) : State := { s with gns := { s.gns with jam := SMap.set (fun _ => none) s.gns.jam key x } }
    if jth = 0 ∨ ji < jth then .next (put s none)
    else match SMap.get (fun _ => none) s.gns.jam key with
    | none => .next (put s (some (s.now, false)))
    | some (t, told) =>
      if !told && s.elapsed t 1000000000 then
        .next (((put s (some (t, true))).raiseBoth (F.GRF_JAM_JAM a b) F.GRF_STAT_JAM 199).event 0x0B05 [w32 a.val, w32 b.val, w32 ji])
      else .next s
  else .next s

/-- The typical current limit of an ILIM code, 0.1 mA (Table 13-6); 3 reads as 1. -/
def ilim (c : Nat) : Nat := match c with | 0 => 500 | 2 => 1500 | _ => 1000

/-- Every channel of antenna a loses lock (R329). -/
def State.antLost (s : State) (a : Nat) : State :=
  ((List.range 256).foldl (fun s c => match s.chan c with | some x => if x.ant = a then s.loseLock c else s | none => s) s).gnsSync

/-- The supply of antenna a is shorted: it switches off, SHORT sets, the fault is recorded, and a retry is due in 1,000 ms (R329). -/
def State.antShort (s : State) (a : Nat) : State :=
  let s := ((s.setFld (F.GRF_ANTSTAT_STATE a) 3).setFld (F.GRF_ANTSTAT_IMEAS a) 0).raiseBoth (F.GRF_ANTSTAT_SHORT a) F.GRF_STAT_SHORT 199
  let s := (s.event 0x0B04 []).antLost a
  { s with gns := { s.gns with shorts := SMap.set (fun _ => none) s.gns.shorts a (some s.now) } }

/-- GNS_ANT (R329): antenna a has drawn a current in 0.1 mA for `ms` ms. -/
def execGnsAnt (a : Fin 2) (current : BitVec 12) (ms : BitVec 16) (s : State) : Out :=
  if s.flag (F.GRF_ANTCFG_EN a) then
    let st := s.fld (F.GRF_ANTSTAT_STATE a)
    if st = 3 then .next s
    else
      let s := s.setFld (F.GRF_ANTSTAT_IMEAS a) current.toNat
      if current.toNat < 20 then
        if 100 ≤ ms.toNat ∧ st ≠ 1 then
          .next ((((s.setFld (F.GRF_ANTSTAT_STATE a) 1).raiseBoth (F.GRF_ANTSTAT_OPEN a) F.GRF_STAT_OPEN 199).event 0x0B04 []).antLost a)
        else .next s
      else if ilim (s.fld (F.GRF_ANTCFG_ILIM a)) ≤ current.toNat then
        if 1 ≤ ms.toNat then .next (s.antShort a) else .next s
      else .next (s.setFld (F.GRF_ANTSTAT_STATE a) 2)
  else .next s

/-- ANT_RETRY (R329): 1,000 ms after a short or the last try the supply is tried again, and draws a current; still at ILIM it is
shorted again. -/
def execAntRetry (a : Fin 2) (current : BitVec 12) (s : State) : Out :=
  match SMap.get (fun _ => none) s.gns.shorts a.val with
  | some t =>
    if s.flag (F.GRF_ANTCFG_EN a) && s.elapsed t 1000000000 then
      if ilim (s.fld (F.GRF_ANTCFG_ILIM a)) ≤ current.toNat then .next (s.antShort a)
      else
        let s : State := { s with gns := { s.gns with shorts := SMap.set (fun _ => none) s.gns.shorts a none } }
        .next ((s.setFld (F.GRF_ANTSTAT_STATE a) 2).setFld (F.GRF_ANTSTAT_IMEAS a) current.toNat)
    else .next s
  | none => .next s

/-- A write of GRF_ANTCFGa (Table 13-5, Table 13-8): ILIM 3 reads as 1; EN 0 is OFF, EN 1 starts in OK until a current shows otherwise. -/
def State.writeAntCfg (s : State) (a : Nat) (w : Word) : State :=
  let was := s.flag (F.GRF_ANTCFG_EN a)
  let s := s.writePlain (R.GRF_ANTCFG a) w
  let s := if s.fld (F.GRF_ANTCFG_ILIM a) = 3 then s.setFld (F.GRF_ANTCFG_ILIM a) 1 else s
  let now := s.flag (F.GRF_ANTCFG_EN a)
  if was = now then s
  else
    let s : State := { s with gns := { s.gns with shorts := SMap.set (fun _ => none) s.gns.shorts a none } }
    if now then s.setFld (F.GRF_ANTSTAT_STATE a) 2
    else ((s.setFld (F.GRF_ANTSTAT_STATE a) 0).setFld (F.GRF_ANTSTAT_IMEAS a) 0).antLost a

/-! ### Register writes -/

/-- A register write in the GRF window; with EN 0 no antenna delivers signals. -/
def State.writeGrf (s : State) (a : Nat) (w : Word) : State :=
  if R.GRF_ANTCFG 0 ≤ a ∧ a < R.GRF_ANTCFG 2 then s.writeAntCfg ((a - R.GRF_ANTCFG 0) / 4) w
  else
    match (List.range 24).find? (fun k => a = R.GRF_NOTCH (k / 12) (k / 4 % 3) (k % 4)) with
    | some k => s.writeNotch k a w
    | none =>
      let s := s.writePlain a w
      if a = R.GRF_CTL ∧ !s.flag F.GRF_CTL_EN then (s.antLost 0).antLost 1 else s

/-- A write of GNS_CTL: a RATE code of 6 or above reads back 0 (R334); the first epoch of a new rate, or after EN, is the next one
(R318); without EN nothing is tracked (log entry 29). -/
def State.writeGnsCtl (s : State) (w : Word) : State :=
  let was := s.flag F.GNS_CTL_EN
  let rate := s.fld F.GNS_CTL_RATE
  let s := s.writePlain R.GNS_CTL w
  let s := if 6 ≤ s.fld F.GNS_CTL_RATE then s.setFld F.GNS_CTL_RATE 0 else s
  let on := s.flag F.GNS_CTL_EN
  let s : State := if rate ≠ s.fld F.GNS_CTL_RATE ∨ (!was && on) then { s with gns := { s.gns with epochAt := s.now } } else s
  if was && !on then ({ s with gns := { s.gns with chans := [], waiting := [], jobs := [] } } : State).gnsSync else s

/-- A register write in the GNS window. -/
def State.writeGns (s : State) (a : Nat) (w : Word) : State :=
  if a = R.GNS_ACQCMD then s.writeAcqCmd w
  else if a = R.GNS_INJ_CTL then s.writeInjCtl w
  else if a = R.GNS_CTL then s.writeGnsCtl w
  else
    let s := s.writePlain a w
    if a = R.GNS_CHSEL then s.gnsSync else s

end Sys2Proof.Machine
end

