-- ==== Sys2Proof/Machine/Stride.lean ====
section
/-! DEFINITION. Stride: axes, their sources, triggers and snapshots (03_stride_axes.md). Positions are in 2^-16 count, as
the fraction register holds them; rates in 2^-32 count per µs, as the rate registers hold them. -/

namespace Sys2Proof.Machine

/-! ### Axes -/

/-- Axis a beside its registers. -/
def State.axis (s : State) (a : Nat) : Axis := SMap.get (fun _ => Axis.init) s.str.axes a

/-- Replace axis a. -/
def State.setAxis (s : State) (a : Nat) (x : Axis) : State :=
  { s with str := { s.str with axes := SMap.set (fun _ => Axis.init) s.str.axes a x } }

/-- Slot i of an axis: 0 primary, 1 FB1, 2 FB2. -/
def Axis.slot (x : Axis) (i : Nat) : ASrc := SMap.get (fun _ => ASrc.init) x.slots i

/-- Replace slot i of an axis. -/
def Axis.setSlot (x : Axis) (i : Nat) (r : ASrc) : Axis := { x with slots := SMap.set (fun _ => ASrc.init) x.slots i r }

/-- Axis states of Table 3-11. -/
def axDISABLED : Nat := 0
def axRUN : Nat := 1
def axBLEND : Nat := 2
def axCOAST : Nat := 3
def axLOST : Nat := 4

/-- STATE and ACTIVE of axis a. -/
def State.axState (s : State) (a : Nat) : Nat := s.fld (F.STR_AXSTAT_STATE a)
def State.axActive (s : State) (a : Nat) : Nat := s.fld (F.STR_AXSTAT_ACTIVE a)

/-- The source code of slot i of axis a; 0x00 is none (R64). -/
def State.axCode (s : State) (a i : Nat) : Nat :=
  match i with
  | 0 => s.fld (F.STR_AXCFG_SRC a)
  | 1 => s.fld (F.STR_AXFB_FB1 a)
  | _ => s.fld (F.STR_AXFB_FB2 a)

/-- The registers of axis a whose writes take effect at the next tick, by their place in its block (R90): configuration, the three
scales, BLEND, STILL, LOSS, XCHK, REST. -/
def axTimed : List Nat := [0x00, 0x08, 0x0C, 0x10, 0x14, 0x18, 0x1C, 0x20, 0x24]

/-- Field f of the k-th of those registers as it is in force: as the last tick found it, or as written before the first (R90). -/
def State.axF (s : State) (a k : Nat) (f : Nat → Fld) : Nat :=
  (f a).get (match (s.axis a).words[k]? with
    | some w => w
    | none => s.reg (R.STR_AXCFG a + axTimed.getD k 0))

/-- Take the registers of axis a as they are written into force (R90). -/
def State.axTake (s : State) (a : Nat) : State :=
  s.setAxis a { s.axis a with words := axTimed.map (fun o => s.reg (R.STR_AXCFG a + o)) }

/-- SCALE of slot i of axis a in force, Q16.16 (R67). -/
def State.axScale (s : State) (a i : Nat) : Nat :=
  match i with
  | 0 => s.axF a 1 F.STR_AXSCLP_SCALE
  | 1 => s.axF a 2 F.STR_AXSCL1_SCALE
  | _ => s.axF a 3 F.STR_AXSCL2_SCALE

/-- Whether a source code names a pulse input, a quadrature pair, Weave, a zero-cross input, the MTB, a partner axis (Table 3-3). -/
def isSingle (c : Nat) : Bool := within 0x10 0x27 c
def isQuad (c : Nat) : Bool := within 0x30 0x3B c
def isPulse (c : Nat) : Bool := isSingle c || isQuad c
def isZx (c : Nat) : Bool := within 0x50 0x51 c
def isPartner (c : Nat) : Bool := within 0x70 0x77 c

/-- Whether an axis names a source in an absent unit (R7). -/
def State.axAbsent (s : State) (a : Nat) : Bool := !s.part.hasTDM && [0, 1, 2].any (fun i => isPartner (s.axCode a i))

/-- Whether a kind takes a source (Table 3-4); the kind of a partner axis is the partner's to report (R73). -/
def kindTakes (kind c : Nat) : Bool :=
  match kind with
  | 0 => isPulse c || c = 0x40 || isPartner c
  | 1 => isPulse c || isPartner c
  | 2 => isZx c || isPartner c
  | _ => c = 0x60 || isPartner c

/-- Whether a configuration is valid (R65, R68): no reserved code, a primary, sources of the kind, no source twice, no
partner source without a Tandem link, DIR not reserved. -/
def Part.axisOk (p : Part) (kind dir c0 c1 c2 : Nat) : Bool :=
  let ok (c : Nat) : Bool := kindTakes kind c && (!isPartner c || p.hasTDM)
  dir ≠ 3 && ok c0 && (c1 = 0 || ok c1) && (c2 = 0 || ok c2) && c0 ≠ c1 && c0 ≠ c2 && (c1 = 0 || c1 ≠ c2)

/-- Whether the configuration of axis a is valid. -/
def State.axisOk (s : State) (a : Nat) : Bool :=
  s.part.axisOk (s.fld (F.STR_AXCFG_KIND a)) (s.fld (F.STR_AXCFG_DIR a)) (s.axCode a 0) (s.axCode a 1) (s.axCode a 2)

/-- Set a W1C flag of axis a; one that sets raises interrupt 171 + a (R92). -/
def State.axFlag (s : State) (f : Nat → Fld) (a : Nat) : State := s.raiseFlag (f a) (171 + a)

/-- The position of axis a at an instant, in 2^-16 count (R74): its line since the last tick. -/
def State.axPos (s : State) (a t : Nat) : Int :=
  let x := s.axis a
  if s.axState a = axDISABLED ∨ s.axState a = axLOST ∨ s.flag (F.STR_AXSTAT_STILL a) then x.pos
  else x.pos + x.rate * ((t : Int) - x.at_) / (1000 * 2 ^ 16)

/-- The position in whole counts, 64 bits (R62, R85). -/
def State.axCount (s : State) (a t : Nat) : Nat := toBits 64 (s.axPos a t / 2 ^ 16)

/-- The short axis position (R63). -/
def State.axShort (s : State) (a t : Nat) : Nat := toBits 32 (s.axPos a t / 2 ^ 16)

/-- The rate in 2^-32 count per µs that the axis runs at. -/
def State.axRate (s : State) (a : Nat) : Int :=
  if s.axState a = axDISABLED ∨ s.axState a = axLOST ∨ s.flag (F.STR_AXSTAT_STILL a) then 0 else (s.axis a).rate

/-- The rate STR_AXRATE shows: of a DISABLED axis the one it was frozen at (Table 3-7). -/
def State.axShownRate (s : State) (a : Nat) : Int := if s.axState a = axDISABLED then (s.axis a).rate else s.axRate a

/-- The rate in whole counts per s. -/
def State.axPerS (s : State) (a : Nat) : Int := s.axRate a * 1000000 / 2 ^ 32

/-! ### What the slots report -/

/-- The travel of one edge or crossing of slot i, in 2^-16 count: SCALE, or 4,096 counts of a mains cycle (R67, R70). -/
def State.edgeStep (s : State) (a i : Nat) : Int := if isZx (s.axCode a i) then 4096 * 2 ^ 16 else s.axScale a i

/-- The measured rate of slot i of axis a at an instant, 2^-32 count per µs (R69-R73, R75): over the last 8 edges, or
those of the last 2 ms, never fewer than 2; bounded by one step over the time since the last edge. -/
def State.slotRate (s : State) (a i t : Nat) : Int :=
  let c := s.axCode a i
  let r := (s.axis a).slot i
  if c = 0x60 then 1000 * 2 ^ 32
  else if c = 0x40 ∨ isPartner c then r.rate
  else
    let recent := r.edges.filter (fun e => t ≤ e.1 + 2000000)
    let l := if recent.length < r.edges.length then (if recent.length < 2 then r.edges.take 2 else recent) else r.edges
    match l, l.getLast? with
    | (t1, p1) :: _, some (t0, p0) =>
      if t0 < t1 then
        let v := (p1 - p0) * 2 ^ 16 * 1000 / ((t1 - t0 : Nat) : Int)
        if t1 < t then
          let b := s.edgeStep a i * 2 ^ 16 * 1000 / ((t - t1 : Nat) : Int)
          clampI (-b) b v
        else v
      else 0
    | _, _ => 0

/-- The measured position of slot i at an instant, in its own travel (R69-R72, R75): the last edge or sample carried on
by the measured rate, never past the last edge plus one step less a count. -/
def State.slotPos (s : State) (a i t : Nat) : Int :=
  let c := s.axCode a i
  let r := (s.axis a).slot i
  if c = 0x60 then (t : Int) * 2 ^ 16
  else
    let last := match r.last with
      | some l => l
      | none => t
    let adv := s.slotRate a i t * ((t : Int) - last) / (1000 * 2 ^ 16)
    if c = 0x40 ∨ isPartner c then r.travel + adv
    else
      let m := s.edgeStep a i - 2 ^ 16
      let m := if m < 0 then 0 else m
      r.travel + clampI (-m) m adv

/-- The body that carries the endpoints of axis a, 0 machine, 1 implement (R17): that of the first accepted endpoint entry bound to
the axis, the machine where there is none (log entry 30). -/
def State.axBody (s : State) (a : Nat) : Nat :=
  match s.entries.find? (fun p => p.1 < 4096 && field p.2 0 2 ≠ 0 && eAxis p.2 = a) with
  | some p => eBody p.2
  | none => 0

/-- The Weave along-track velocity at an instant of the body that carries the endpoints of axis a, in mm/s (R17, R71, R296). -/
def State.alongVel (s : State) (a t : Nat) : Int := (s.poseAt (s.axBody a) t).vx

/-- The state of the motion solution of that body (Table 3-6). -/
def State.motionState (s : State) (a : Nat) : Nat := if s.axBody a = 0 then s.fld F.WVE_SOL_MSTATE else s.fld F.WVE_SOL_ISTATE

/-- Whether the debounced level of a DIO point was high at an instant (R68, R252): as its last change before the instant left it. -/
def State.dioLevelAt (s : State) (p t : Nat) : Bool :=
  let l := (SMap.get (fun _ => DPt.init) s.dio.pts p).edges
  match l.find? (fun c => c.1 < t), l.getLast? with
  | some c, _ => c.2
  | none, some c => !c.2
  | none, none => s.fld (F.DIO_INLVL_LEVEL (p / 32)) / 2 ^ (p % 32) % 2 = 1

/-- The direction of a single-channel source at an instant (R68): +1 forward, −1 reverse. -/
def State.axDir (s : State) (a t : Nat) : Int :=
  match s.fld (F.STR_AXCFG_DIR a) with
  | 1 => if s.dioLevelAt (s.fld (F.STR_AXCFG_DIRPT a)) t then -1 else 1
  | 2 =>
    let v := s.alongVel a t
    if 10 * v.natAbs < s.axF a 5 F.STR_AXSTILL_RATE ∨ v = 0 then (if s.flag (F.STR_AXSTAT_REVERSE a) then -1 else 1)
    else if v < 0 then -1 else 1
  | _ => 1

/-! ### Health (R80, R81) -/

/-- Whether a pulse source has a working entry and no OPEN (Table 3-6). -/
def State.pulseUp (s : State) (c : Nat) : Bool :=
  let up (n mode : Nat) : Bool := s.pinOn n && pMode (s.entry 5 n) = mode && !s.pinOpen n
  if isSingle c then up (c - 0x10) 0 else up (2 * (c - 0x30)) 1 && up (2 * (c - 0x30) + 1) 1

/-- The reference of slot i of axis a (R80): for the active slot the highest healthy other; for another one the active
slot while the axis runs on it healthy; else the highest healthy other. -/
def State.axRef (s : State) (a i : Nat) : Option Nat :=
  let x := s.axis a
  let act := s.axActive a
  let others := [0, 1, 2].filter (fun j => j ≠ i && s.axCode a j ≠ 0 && (x.slot j).ok)
  if act ≠ i && act < 3 && (s.axState a = axRUN || s.axState a = axBLEND) && (x.slot act).ok then some act
  else others.head?

/-- Two measured rates agree within TOL and the standstill rate (R81). -/
def State.agrees (s : State) (a : Nat) (r ref : Int) : Bool :=
  200 * ((r - ref) * 1000000).natAbs ≤
    s.axF a 7 F.STR_AXXCHK_TOL * (ref * 1000000).natAbs + 200 * s.axF a 5 F.STR_AXSTILL_RATE * 2 ^ 32

/-- Whether slot i of axis a meets a loss condition of Table 3-6 now, the cross-check apart. -/
def State.slotBad (s : State) (a i : Nat) : Bool :=
  let c := s.axCode a i
  let r := (s.axis a).slot i
  let since := match r.last with
    | some t => t
    | none => 0
  if isPulse c then
    let to_ := s.axF a 6 F.STR_AXLOSS_TIMEOUT
    let noEdge := match r.refAt with
      | some t => to_ ≠ 0 && !s.flag (F.STR_AXSTAT_STILL a) && s.elapsed (max t since) (1000000 * to_)
      | none => false
    !s.pulseUp c || noEdge || 16 < (r.illegal.filter (fun t => s.now < t + 100000000)).length
  else if c = 0x40 then s.motionState a = 0
  else if isZx c then s.elapsed since 50000000 || !s.flag (F.PLS_ZXSTAT_OK (c - 0x50))
  else if isPartner c then r.lost || s.elapsed since 150001 || !s.flag F.TDM_LINK_UP
  else false

/-- Whether slot i of axis a meets its reinstatement conditions now (Table 3-6, R80). -/
def State.slotGood (s : State) (a i : Nat) : Bool :=
  let c := s.axCode a i
  let r := (s.axis a).slot i
  if isPulse c then
    let to_ := s.axF a 6 F.STR_AXLOSS_TIMEOUT
    let arriving := match r.last with
      | some t => decide (r.badAt < t) && (to_ = 0 || !s.elapsed t (1000000 * to_))
      | none => false
    let agree := s.axF a 0 F.STR_AXCFG_XEN = 0 || (match s.axRef a i with
      | some j => s.agrees a (s.slotRate a i s.now) (s.slotRate a j s.now)
      | none => true)
    s.pulseUp c && arriving && agree && !(16 < (r.illegal.filter (fun t => s.now < t + 100000000)).length)
  else if c = 0x40 then 2 ≤ s.motionState a
  else if isZx c then s.flag (F.PLS_ZXSTAT_OK (c - 0x50)) && !s.slotBad a i
  else !s.slotBad a i

/-- Bring SRC_OK of axis a up to date. -/
def State.axShowOk (s : State) (a : Nat) : State :=
  let x := s.axis a
  let b (i : Nat) : Nat := if s.axCode a i ≠ 0 && (x.slot i).ok then 2 ^ i else 0
  s.setFld (F.STR_AXSTAT_SRC_OK a) (b 0 + b 1 + b 2)

/-- Slot i of axis a becomes unhealthy; SRC_LOST when it is the active one. -/
def State.slotFail (s : State) (a i : Nat) : State :=
  let x := s.axis a
  let s := (s.setAxis a (x.setSlot i { x.slot i with ok := false, goodAt := none, badAt := s.now })).axShowOk a
  if s.axActive a = i ∧ (s.axState a = axRUN ∨ s.axState a = axBLEND) then s.axFlag F.STR_AXSTAT_SRC_LOST a else s

/-- SOURCE_TIMEOUT (R80): a healthy slot that meets a loss condition becomes unhealthy. -/
def execSourceTimeout (a : Fin 8) (i : Fin 3) (s : State) : Out :=
  if s.axState a ≠ axDISABLED ∧ s.axCode a i ≠ 0 ∧ ((s.axis a).slot i).ok ∧ s.slotBad a i then .next (s.slotFail a i) else .next s

/-- SOURCE_RESTORE (R80): an unhealthy slot whose conditions have held for RESTORE ms is healthy again. -/
def execSourceRestore (a : Fin 8) (i : Fin 3) (s : State) : Out :=
  let x := s.axis a
  let r := x.slot i
  let held : Bool := match r.goodAt with
    | some t => s.elapsed t (1000000 * s.axF a 8 F.STR_AXREST_RESTORE)
    | none => decide (s.axF a 8 F.STR_AXREST_RESTORE = 0)
  if s.axState a ≠ axDISABLED ∧ s.axCode a i ≠ 0 ∧ !r.ok ∧ held ∧ s.slotGood a i then
    .next ((s.setAxis a (x.setSlot i { r with ok := true, goodAt := none, refAt := none })).axShowOk a)
  else .next s

/-- Whether the active source fails the cross-check now (R81). -/
def State.xFails (s : State) (a t : Nat) : Bool :=
  let act := s.axActive a
  (s.axF a 0 F.STR_AXCFG_XEN = 1) && (s.axState a = axRUN || s.axState a = axBLEND) && act < 3 && ((s.axis a).slot act).ok &&
    (match s.axRef a act with
    | some j => !s.agrees a (s.slotRate a act t) (s.slotRate a j t)
    | none => false)

/-- AXIS_XCHK (R81): the failure has held for XDWELL ms: XCHK_FAIL, the active slot unhealthy, the event with axis, slot
and both rates in counts per s. -/
def execAxisXchk (a : Fin 8) (s : State) : Out :=
  let x := s.axis a
  let act := s.axActive a
  match x.xAt with
  | some t =>
    if s.xFails a s.now ∧ s.elapsed t (1000000 * s.axF a 7 F.STR_AXXCHK_XDWELL) then
      let r := s.slotRate a act s.now * 1000000 / 2 ^ 32
      let ref := match s.axRef a act with
        | some j => s.slotRate a j s.now * 1000000 / 2 ^ 32
        | none => 0
      let s := (s.setAxis a { x with xAt := none }).axFlag F.STR_AXSTAT_XCHK_FAIL a
      .next ((s.slotFail a act).event 0x0202 [w32 a.val, w32 act, wInt r, wInt ref])
    else .next s
  | none => .next s

/-! ### State changes (R82-R84, Table 3-7) -/

/-- The counts of one mains cycle, in 2^-16 count (R70). -/
def cycle : Int := 4096 * 2 ^ 16

/-- The healthy slot of highest rank. -/
def State.axBest (s : State) (a : Nat) : Option Nat :=
  [0, 1, 2].find? (fun i => s.axCode a i ≠ 0 && ((s.axis a).slot i).ok)

/-- The active slot changes, at an instant: ACTIVE, SWITCHED, event AXIS_SWITCH with axis, old and new slot (R82). -/
def State.axSwitchTo (s : State) (a new : Nat) : State :=
  let old := s.axActive a
  ((s.setFld (F.STR_AXSTAT_ACTIVE a) new).axFlag F.STR_AXSTAT_SWITCHED a).event 0x0201 [w32 a, w32 old, w32 new]

/-- Take the axis's increments from slot i from an instant on: its travel so far is never added (R66). A MAINS source that has its
residue keeps it: its crossings go on at the nearest positions of that residue (R70). -/
def State.axAnchor (s : State) (a i t : Nat) : State :=
  let x := s.axis a
  let b := x.pos - s.slotPos a i t
  let base := match x.res with
    | some r =>
      let up := (r - b) % cycle
      b + (if cycle < 2 * up then up - cycle else up)
    | none => b
  s.setAxis a { x with base := base, sAt := s.slotPos a i t }

/-- Slot i becomes the active source at an instant: a MAINS axis has no residue until its next crossing (R66, R70). -/
def State.axStart (s : State) (a i t : Nat) : State := (s.setAxis a { s.axis a with res := none }).axAnchor a i t

/-- Switch axis a to slot i at an instant with the rate it runs at: BLEND, or RUN with BLEND 0 (R83). -/
def State.axBlend (s : State) (a i t : Nat) : State :=
  let x := s.axis a
  let s := (s.setAxis a { x with rOld := x.rate, rescale := false }).axSwitchTo a i
  let s := s.axStart a i t
  s.setFld (F.STR_AXSTAT_STATE a) (if s.axF a 4 F.STR_AXBLEND_BLEND = 0 then axRUN else axBLEND)

/-- The axis enters LOST: rate 0, position frozen, AXIS_LOST, event with axis and position (R84). -/
def State.axLose (s : State) (a t : Nat) : State :=
  let p := s.axPos a t
  let s := s.setAxis a { s.axis a with pos := p, at_ := t, rate := 0 }
  let s := if s.axActive a = 3 then s else s.axSwitchTo a 3
  let s := (s.setFld (F.STR_AXSTAT_STATE a) axLOST).axFlag F.STR_AXSTAT_AXIS_LOST a
  s.event 0x0203 ([w32 a] ++ w64 (toBits 64 (p / 2 ^ 16)))

/-- COAST or LOST, as the active slot is unhealthy and none is healthy (Table 3-7). -/
def State.axCoast (s : State) (a t : Nat) : State :=
  if s.axF a 6 F.STR_AXLOSS_COAST = 0 then s.axLose a t
  else (s.setAxis a { s.axis a with coastAt := t }).setFld (F.STR_AXSTAT_STATE a) axCOAST

/-- The state machine of axis a at a tick (Table 3-7). -/
def State.axStep (s : State) (a t : Nat) : State :=
  let st := s.axState a
  let act := s.axActive a
  let x := s.axis a
  let ok := act < 3 && (x.slot act).ok
  if st = axRUN ∨ st = axBLEND then
    if !ok then
      match s.axBest a with
      | some j => s.axBlend a j t
      | none => s.axCoast a t
    else if st = axRUN ∧ (s.axF a 0 F.STR_AXCFG_RETURN = 1) ∧ act ≠ 0 ∧ (x.slot 0).ok ∧ s.axCode a 0 ≠ 0 then s.axBlend a 0 t
    else if x.rescale then s.axBlend a act t
    else if st = axBLEND ∧ ((s.axF a 4 F.STR_AXBLEND_BLEND : Int) * 2 ^ 16 ≤ (s.slotPos a act t - x.sAt).natAbs ∨
        s.flag (F.STR_AXSTAT_STILL a)) then (s.axAnchor a act t).setFld (F.STR_AXSTAT_STATE a) axRUN
    else s
  else if st = axCOAST then
    match s.axBest a with
    | some j => s.axBlend a j t
    | none => if x.coastAt + 1000000 * s.axF a 6 F.STR_AXLOSS_COAST ≤ t then s.axLose a t else s
  else if st = axLOST then
    match s.axBest a with
    | some j => ((((s.setFld (F.STR_AXSTAT_STATE a) axRUN).axSwitchTo a j).axStart a j t)).axFlag F.STR_AXSTAT_RESUMED a
    | none => s
  else s

/-- REVERSE of axis a (R68, R76, R78): the direction of the active source; MAINS and TIME never reverse, and in COAST the direction
stays with the held rate. -/
def State.axReverse (s : State) (a t : Nat) : State :=
  let act := s.axActive a
  if act = 3 ∨ s.axState a = axCOAST ∨ 2 ≤ s.fld (F.STR_AXCFG_KIND a) then s
  else if isSingle (s.axCode a act) then s.setBit (F.STR_AXSTAT_REVERSE a) (decide (s.axDir a t < 0))
  else
    let r := s.slotRate a act t
    if r = 0 then s else s.setBit (F.STR_AXSTAT_REVERSE a) (decide (r < 0))

/-- The rate for the next 50 µs (R75, R76, R83, R84): to meet the measured position in RUN, blended in BLEND, held in
COAST, 0 in LOST and standstill; never against the direction. -/
def State.axNextRate (s : State) (a t : Nat) : State :=
  let x := s.axis a
  let st := s.axState a
  let act := s.axActive a
  let put (s : State) (r : Int) : State := s.setAxis a { s.axis a with rate := r }
  if st = axCOAST then put s x.rate
  else if act = 3 ∨ st = axLOST then put s 0
  else if s.flag (F.STR_AXSTAT_STILL a) then put (s.axAnchor a act t) 0
  else
    let r :=
      if st = axBLEND then
        let b : Int := s.axF a 4 F.STR_AXBLEND_BLEND * 2 ^ 16
        let d : Int := (s.slotPos a act t - x.sAt).natAbs
        if b = 0 then s.slotRate a act t else x.rOld + (s.slotRate a act t - x.rOld) * (if b < d then b else d) / b
      else (x.base + s.slotPos a act (t + 50000) - x.pos) * 2 ^ 16 / 50
    let rev := s.flag (F.STR_AXSTAT_REVERSE a)
    put s (if rev then min r 0 else max r 0)

/-- What each slot of axis a notes at a tick: a Weave source integrates its velocity; how long the reference has run,
how long the conditions of reinstatement have held (R71, R80). -/
def State.slotNote (s : State) (a i t : Nat) : State :=
  if s.axCode a i = 0 then s
  else
    let x := s.axis a
    let r := x.slot i
    let r := if s.axCode a i = 0x40 then
        let v := 10 * s.alongVel a t
        let dt : Int := match r.last with
          | some l => (t : Int) - l
          | none => 0
        { r with travel := r.travel + v * dt * 2 ^ 16 / 1000000000, rate := v * 2 ^ 32 / 1000000, last := some t }
      else r
    let s := s.setAxis a (x.setSlot i r)
    let refOn : Bool := match s.axRef a i with
      | some j => decide (s.axF a 5 F.STR_AXSTILL_RATE * 2 ^ 32 < (s.slotRate a j t * 1000000).natAbs)
      | none => false
    let r := { r with refAt := if refOn then (if r.refAt.isSome then r.refAt else some t) else none }
    let s := s.setAxis a ((s.axis a).setSlot i r)
    let good := !r.ok && s.slotGood a i
    s.setAxis a ((s.axis a).setSlot i { r with
      goodAt := if good then (if r.goodAt.isSome then r.goodAt else some t) else none
      illegal := r.illegal.filter (fun u => t < u + 100000000) })

/-- Enter standstill at a tick: STILL, rate 0, the position stays; BLEND ends in RUN (R79, Table 3-7). -/
def State.axStill (s : State) (a t : Nat) : State :=
  let p := s.axPos a t
  let s := (s.setAxis a { s.axis a with pos := p, at_ := t, rate := 0 }).setFld (F.STR_AXSTAT_STILL a) 1
  if s.axState a = axBLEND then s.setFld (F.STR_AXSTAT_STATE a) axRUN else s

/-- Whether axis a is to enter standstill at an instant (R79): its measured rate is below RATE and has been for DWELL ms. -/
def State.stillDue (s : State) (a t : Nat) : Bool :=
  match (s.axis a).slowAt with
  | some u => (s.axState a = axRUN || s.axState a = axBLEND) && !s.flag (F.STR_AXSTAT_STILL a) && s.axActive a < 3 &&
      (s.slotRate a (s.axActive a) t * 1000000).natAbs < s.axF a 5 F.STR_AXSTILL_RATE * 2 ^ 32 &&
      u + 1000000 * s.axF a 5 F.STR_AXSTILL_DWELL ≤ t
  | none => false

/-- End standstill at an instant: increments count from where the axis stood (R79). -/
def State.axGo (s : State) (a t : Nat) : State :=
  let s := s.setFld (F.STR_AXSTAT_STILL a) 0
  let s := s.setAxis a { s.axis a with at_ := t, rate := 0, slowAt := none }
  if s.axActive a < 3 then s.axAnchor a (s.axActive a) t else s

/-- Slow since when, failing the cross-check since when; an axis enters standstill, or on a source that is no pulse input leaves it
above RATE (R79, R81). -/
def State.axTimers (s : State) (a t : Nat) : State :=
  let act := s.axActive a
  if act = 3 then s.setAxis a { s.axis a with slowAt := none, xAt := none }
  else
    let per := (s.slotRate a act t * 1000000).natAbs
    let lim := s.axF a 5 F.STR_AXSTILL_RATE * 2 ^ 32
    let x := s.axis a
    let s := s.setAxis a { x with
      slowAt := if per < lim then (if x.slowAt.isSome then x.slowAt else some t) else none
      xAt := if s.xFails a t then (if x.xAt.isSome then x.xAt else some t) else none }
    if s.stillDue a t then s.axStill a t
    else if s.flag (F.STR_AXSTAT_STILL a) && !isPulse (s.axCode a act) && decide (lim < per) then s.axGo a t
    else s

/-- One axis at a tick (R74-R84, R90). -/
def State.axTick (s : State) (a t : Nat) : State :=
  if s.axState a = axDISABLED then s
  else
    let p := s.axPos a t
    let s := (s.setAxis a { s.axis a with pos := p, at_ := t }).axTake a
    let s := [0, 1, 2].foldl (fun s i => s.slotNote a i t) s
    let s := (s.axTimers a t).axStep a t
    (s.axReverse a t).axNextRate a t

/-! ### Triggers and snapshots (R86-R89) -/

/-- An armed trigger n. -/
def State.trg (s : State) (n : Nat) : Option Cross := SMap.get (fun _ => none) s.str.trgs n

/-- Replace trigger n. -/
def State.setTrg (s : State) (n : Nat) (x : Option Cross) : State :=
  { s with str := { s.str with trgs := SMap.set (fun _ => none) s.str.trgs n x } }

/-- The signed difference of the axis of trigger n from its target at an instant (R85). -/
def State.trgDiff (s : State) (n t : Nat) : Int :=
  sdiff32 (s.axShort (s.fld (F.STR_TRGCFG_AXIS n)) t) (s.fld (F.STR_TRGPOS_POS n))

/-- Whether an axis moves: not DISABLED and not LOST (R87). -/
def State.axLive (s : State) (a : Nat) : Bool := s.axState a ≠ axDISABLED && s.axState a ≠ axLOST

/-- Judge what waits for a position at an instant, in a direction (1 forward, 2 backward, 3 either), by its difference (R87, R134):
at or past it, or for "either" on it, it acts late in the next µs; else it waits for its crossing. -/
def Cross.judgeAt (dirn : Nat) (d : Int) (t : Nat) : Cross :=
  let late := match dirn with
    | 1 => decide (0 ≤ d)
    | 2 => decide (d ≤ 0)
    | _ => decide (d = 0)
  ⟨t, false, late, if late then some ((t / 1000 + 1) * 1000) else none, d.sign⟩

/-- Whether a difference is a crossing in a direction: 0 or beyond, or for "either" another sign than at the judgement (R86, R87). -/
def passed (dirn : Nat) (d sign : Int) : Bool :=
  match dirn with
  | 1 => decide (0 ≤ d)
  | 2 => decide (d ≤ 0)
  | _ => decide (d.sign ≠ sign)

/-- The first of the µs lo to hi in which a test holds that holds in hi and goes on to hold once it does. -/
def firstUs (p : Nat → Bool) : Nat → Nat → Nat → Nat
  | 0, _, hi => hi
  | fuel + 1, lo, hi =>
    if hi ≤ lo then hi
    else
      let mid := (lo + hi) / 2
      if p mid then firstUs p fuel lo mid else firstUs p fuel (mid + 1) hi

/-- The instant of the first whole µs up to hi in which a position is crossed, on the line that runs since an instant (R86); none
while it is not judged. -/
def Cross.find (x : Cross) (dirn : Nat) (diff : Nat → Int) (since hi : Nat) : Option Nat :=
  if x.judge then none
  else match x.at_ with
  | some u => if u ≤ hi then some u else none
  | none =>
    let hit (m : Nat) : Bool := passed dirn (diff (1000 * m)) x.sign
    let lo := (max x.armedAt since + 999) / 1000
    if lo ≤ hi / 1000 ∧ hit (hi / 1000) then some (1000 * firstUs hit 32 lo (hi / 1000)) else none

/-- Take a snapshot at an instant: position, fraction and rate of all axes and the MTB in one µs (R88). A doorbell and a trigger of
one µs make one snapshot with cause DOORBELL. -/
def State.snapshot (s : State) (doorbell : Bool) (n t : Nat) : State :=
  let (us, bell, trg) := s.str.snapUs
  let same := us = t / 1000 + 1
  if same && (if doorbell then trg && !bell else bell) then
    ({ s with str := { s.str with snapUs := (us, true, true) } } : State).setFld F.STR_SNAP_STAT_DOORBELL 1
  else
    let s := (List.range 8).foldl (fun s a =>
      let u := max t (s.axis a).at_
      let s := s.setReg64 (R.STR_SNAP_POS_LO a) (R.STR_SNAP_POS_HI a) (s.axCount a u)
      let s := s.setFld (F.STR_SNAP_FRAC_FRAC a) (toBits 16 (s.axPos a u))
      s.setReg64 (R.STR_SNAP_RATE_LO a) (R.STR_SNAP_RATE_HI a) (toBits 64 (s.axShownRate a))) s
    let s := s.setReg64 R.STR_SNAP_MTB_LO R.STR_SNAP_MTB_HI t
    let s := s.setFld F.STR_SNAP_STAT_SEQ (s.fld F.STR_SNAP_STAT_SEQ + 1)
    let s := (s.setBit F.STR_SNAP_STAT_DOORBELL doorbell).setFld F.STR_SNAP_STAT_TRG (if doorbell then 0 else n)
    ({ s with str := { s.str with snapUs := (t / 1000 + 1, doorbell, !doorbell) } } : State).pend 180

/-- STRIDE_SNAPSHOT (R88): a write of STR_SNAP_DB with GO. -/
def State.writeSnapDb (s : State) (w : Word) : State := if F.STR_SNAP_DB_GO.get w = 1 then s.snapshot true 0 s.now else s

def execStrideSnapshot (acc : Acc) (s : State) : Out := .next (s.guardWrite acc R.STR_SNAP_DB (fun s => s.writeSnapDb 1))

/-- Judge trigger n at an instant (R87). -/
def State.judgeTrg (s : State) (n t : Nat) : State :=
  s.setTrg n (some (Cross.judgeAt (s.fld (F.STR_TRGCFG_DIRN n)) (s.trgDiff n t) t))

/-- Arm trigger n (R87, R93): a reserved ACTION or DIRN 0 does not arm and sets CFG_ERR; it is judged where its axis runs, and waits
to be judged where it does not. -/
def State.arm (s : State) (n : Nat) : State :=
  if 3 ≤ s.fld (F.STR_TRGCFG_ACTION n) ∨ s.fld (F.STR_TRGCFG_DIRN n) = 0 then
    ((s.setFld (F.STR_TRGCFG_EN n) 0).setFld (F.STR_TRGSTAT_CFG_ERR n) 1).setTrg n none
  else if s.axLive (s.fld (F.STR_TRGCFG_AXIS n)) then s.judgeTrg n s.now
  else s.setTrg n (some ⟨s.now, true, false, none, 0⟩)

/-- A write of STR_TRGCFGn: EN 1 arms or re-arms, EN 0 disarms. -/
def State.writeTrgCfg (s : State) (n : Nat) (w : Word) : State :=
  let s := s.writePlain (R.STR_TRGCFG n) w
  if s.flag (F.STR_TRGCFG_EN n) then s.arm n else s.setTrg n none

/-- TRIGGER_ARM (R87): a write of STR_TRGCFGn with EN 1. -/
def execTriggerArm (acc : Acc) (n : Fin 32) (value : Word) (s : State) : Out :=
  .next (s.guardWrite acc (R.STR_TRGCFG n) (fun s => s.writeTrgCfg n (value ||| 1)))

/-- The last instant the axes' lines reach: now, or the last before a stride tick that has not run yet (R74, R89). -/
def State.lineEnd (s : State) : Nat := min s.now (s.str.tickAt + 49999)

/-- The instant, up to a given one, at which trigger n fires (R86, R87). -/
def State.trgAt (s : State) (n hi : Nat) : Option Nat :=
  match s.trg n with
  | some x => x.find (s.fld (F.STR_TRGCFG_DIRN n)) (fun (t : Nat) => s.trgDiff n t) (s.axis (s.fld (F.STR_TRGCFG_AXIS n))).at_ hi
  | none => none

/-- Whether no trigger fires before an instant, or in its µs with an index below n (R89): 32 for all triggers. -/
def State.trgClear (s : State) (t n : Nat) : Bool :=
  (List.range 32).all (fun m => match s.trgAt m s.lineEnd with
    | some u => decide (t < u ∨ (t = u ∧ n ≤ m))
    | none => true)

/-- The least of some instants. -/
def earliest (l : List Nat) : Option Nat :=
  l.foldl (fun m t => match m with | some u => some (min u t) | none => some t) none

/-- The earliest instant at which an armed input or an issued record acts (R127, R140). -/
def State.nextEmit (s : State) : Option Nat :=
  earliest (s.slt.armed.map (·.at_) ++ (s.slt.issue.filter (fun i => !i.fired && !i.gone)).map (·.act))

/-- Whether nothing is emitted any more up to an instant: emission comes before the actions of R89 (R128). -/
def State.emitClear (s : State) (t : Nat) : Bool :=
  match s.nextEmit with
  | some u => decide (t < u)
  | none => true

/-- The instant at which trigger n fires now, once everything that R89 puts before it is done. -/
def State.trgDue (s : State) (n : Nat) : Option Nat :=
  match s.trgAt n s.lineEnd with
  | some u => if s.emitClear u && s.trgClear u n then some u else none
  | none => none

/-- Fire trigger n at an instant (R87): EN cleared, FIRED, LATE when it was at or past its target at its judgement, the stamp, the
action, interrupt 179. ACTION 2 takes a PMU global snapshot, done by the command's caller. -/
def State.fire (s : State) (n t : Nat) : State :=
  let late := match s.trg n with
    | some x => x.late
    | none => false
  let s := (s.setFld (F.STR_TRGCFG_EN n) 0).setTrg n none
  let s := s.setFld (F.STR_TRGTIME_TIME n) (t % 2 ^ 32)
  let s := if late then s.setFld (F.STR_TRGSTAT_LATE n) 1 else s
  let s := s.raiseFlag (F.STR_TRGSTAT_FIRED n) 179
  if s.fld (F.STR_TRGCFG_ACTION n) = 1 then s.snapshot false n t else s

/-- The signed difference of a commit's axis or time from its point at an instant (R134). -/
def State.commitDiff (s : State) (c : Commit) (t : Nat) : Int :=
  sdiff32 (if c.base = 1 then s.axShort c.axis t else t % 2 ^ 32) c.point

/-- Whether a commit can be judged and crossed: on time, or on an axis that moves (R134). -/
def State.commitLive (s : State) (c : Commit) : Bool := c.base ≠ 1 || s.axLive c.axis

/-- Judge a commit at an instant (R134); on an axis that does not move it waits to be judged. -/
def State.commitJudge (s : State) (c : Commit) (t : Nat) : Commit :=
  { c with cross := if s.commitLive c then Cross.judgeAt c.dirn (s.commitDiff c t) t else ⟨t, true, false, none, 0⟩ }

/-- The instant, up to a given one, at which a commit swaps (R86, R134). -/
def State.commitAt (s : State) (c : Commit) (hi : Nat) : Option Nat :=
  c.cross.find c.dirn (fun (t : Nat) => s.commitDiff c t) (if c.base = 1 then (s.axis c.axis).at_ else 0) hi

/-- The instant of the next page swap that is crossed; none while the slot engine is off. -/
def State.nextSwap (s : State) : Option Nat :=
  if s.flag F.SLT_CTL_EN then earliest (s.slt.commits.filterMap (fun m => s.commitAt m s.lineEnd)) else none

/-- The instant at which a page swaps now, once everything that R128 and R89 put before it is done. -/
def State.swapDue (s : State) : Option Nat :=
  match s.nextSwap with
  | some u => if s.emitClear u && s.trgClear u 32 then some u else none
  | none => none

/-- Keep an instant found for a crossing. -/
def Cross.keep (x : Cross) (u : Option Nat) : Cross := { x with at_ := u.or x.at_ }

/-- Note the next sample of an axis-clocked loop with the entry c that falls due on the line of its axis up to an instant: the first µs
that lies its PERIOD from the last sample's position, either way, but not within 100 µs of that sample (R182, R183). A sample still to
come when the axis stops running is not due any more. -/
def BLoop.note (x : BLoop) (s : State) (c : List Byte) (hi : Nat) : BLoop :=
  let a := bAxis c
  if !s.axLive a then { x with dues := x.dues.filter (fun d => d.pos.isSome) }
  else
    let dues := x.dues.map (fun d => if d.pos.isNone ∧ d.at_ ≤ hi then { d with pos := some (s.axPos a d.at_) } else d)
    let last := match dues.getLast? with
      | some d => d.pos.map (fun p => (d.at_, p))
      | none => x.lastAt.map (fun l => (l, x.pos))
    match last with
    | none => { x with dues := dues }
    | some (l, p) =>
      let far (m : Nat) : Bool := decide (bPeriod c * 65536 ≤ (s.axPos a (1000 * m) - p).natAbs)
      let lo := (max l (s.axis a).at_ + 999) / 1000
      if lo ≤ hi / 1000 ∧ far (hi / 1000) then
        let u := 1000 * firstUs far 32 lo (hi / 1000)
        { x with dues := dues ++ [if u < l + 100000 then ⟨l + 100000, true, none⟩ else ⟨u, false, some (s.axPos a u)⟩] }
      else { x with dues := dues }

/-- Loop n with what falls due of it up to an instant: one line holds at most a deferred sample and the crossing after it. -/
def State.loopNoted (s : State) (n hi : Nat) : BLoop :=
  let x := s.bloop n
  let c := s.entry 6 n
  if !x.on ∨ bClk c ≠ 2 then x else (x.note s c hi).note s c hi

/-- The first sample of an axis-clocked loop falls due at the stride tick after it leaves OFF (R182). -/
def State.loopTick (s : State) (n t : Nat) : State :=
  let x := s.bloop n
  let c := s.entry 6 n
  if x.on ∧ bClk c = 2 ∧ x.lastAt.isNone ∧ x.dues = [] ∧ s.axLive (bAxis c) = true ∧ x.startAt < t then
    s.setLoop n { x with dues := [⟨t, false, some (s.axPos (bAxis c) t)⟩] }
  else s

/-- The position of axis a has been set d away: what a loop has left to travel stays (R66, R182). -/
def State.loopShift (s : State) (a : Nat) (d : Int) : State :=
  (List.range 64).foldl (fun s n =>
    let x := s.bloop n
    let c := s.entry 6 n
    if x.on ∧ bClk c = 2 ∧ bAxis c = a then
      s.setLoop n { x with
        pos := x.pos + d, dues := (x.dues.filter (fun e => e.pos.isSome)).map (fun e => { e with pos := e.pos.map (· + d) }) }
    else s) s

/-- Crossings up to an instant keep their instants, as the lines they lie on end there (R86, R89). -/
def State.noteCross (s : State) (hi : Nat) : State :=
  let s := (List.range 64).foldl (fun s n => s.setLoop n (s.loopNoted n hi)) s
  let s := (List.range 32).foldl (fun s n => match s.trg n with
    | some x => s.setTrg n (some (x.keep (s.trgAt n hi)))
    | none => s) s
  { s with slt := { s.slt with commits := s.slt.commits.map (fun c => { c with cross := c.cross.keep (s.commitAt c hi) }) } }

/-- What has not been crossed on an axis that has stopped moving waits to be judged anew (R87, R134). -/
def State.crossWait (s : State) (a : Nat) : State :=
  if s.axLive a then s
  else
    let s := (List.range 32).foldl (fun s n => match s.trg n with
      | some x => if s.fld (F.STR_TRGCFG_AXIS n) = a ∧ x.at_.isNone then s.setTrg n (some { x with judge := true }) else s
      | none => s) s
    { s with slt := { s.slt with commits := s.slt.commits.map (fun c =>
        if c.base = 1 ∧ c.axis = a ∧ c.cross.at_.isNone then { c with cross := { c.cross with judge := true } } else c) } }

/-- Triggers and commits at a stride tick (R87, R134): those of an axis that has stopped wait, those that wait for one that runs
again are judged as if armed or accepted in that tick. -/
def State.crossTick (s : State) (t : Nat) : State :=
  let s := (List.range 8).foldl (fun s a => s.crossWait a) s
  let s := (List.range 32).foldl (fun s n => match s.trg n with
    | some x => if x.judge ∧ s.axLive (s.fld (F.STR_TRGCFG_AXIS n)) then s.judgeTrg n t else s
    | none => s) s
  { s with slt := { s.slt with commits := s.slt.commits.map (fun c =>
      if c.cross.judge ∧ s.commitLive c then s.commitJudge c t else c) } }

/-- STRIDE_TICK (R74, R89): the next 50 µs instant: all enabled axes in order; triggers and commits of an axis that stopped wait, and
loops that wait for their first tick are due. -/
def execStrideTick (s : State) : Out :=
  if s.due s.str.tickAt 50000 then
    let t := (s.str.tickAt / 50000 + 1) * 50000
    let s := s.noteCross (t - 1)
    let s : State := { s with str := { s.str with tickAt := t } }
    let s := (List.range 8).foldl (fun s a => s.axTick a t) s
    let s := (List.range 64).foldl (fun s n => s.loopTick n t) s
    .next (s.crossTick t)
  else .next s

/-- AXIS_LOST (R84, R82): at a stride tick, COAST ms have passed since entry, or the active slot is unhealthy with no healthy slot and
no coast. Between ticks nothing changes: the next tick finds the axis LOST by itself. -/
def execAxisLost (a : Fin 8) (s : State) : Out :=
  let x := s.axis a
  let st := s.axState a
  let act := s.axActive a
  let gone := st = axCOAST ∧ s.elapsed x.coastAt (1000000 * s.axF a 6 F.STR_AXLOSS_COAST)
  let none_ := (st = axRUN ∨ st = axBLEND) ∧ act < 3 ∧ !(x.slot act).ok ∧ s.axF a 6 F.STR_AXLOSS_COAST = 0
  if s.now = s.str.tickAt ∧ (gone ∨ none_) ∧ (s.axBest a).isNone then .next (((s.noteCross s.now).axLose a s.now).crossWait a) else .next s

/-- STANDSTILL_ENTRY (R79, R75): at a stride tick, the measured rate has stayed below RATE for DWELL ms: STILL, rate 0; BLEND ends in
RUN. Between ticks the rate does not change: the next tick finds the standstill by itself. -/
def execStandstillEntry (a : Fin 8) (s : State) : Out :=
  if s.now = s.str.tickAt ∧ s.stillDue a s.now then .next (s.axStill a s.now) else .next s

/-! ### Enable, disable, configure (R65, R66, R82, R90) -/

/-- Slot i as its source is first named or enabled: nothing travelled, no crossing yet, a Weave velocity integrated from now (R66). -/
def State.freshSlot (s : State) (a i : Nat) : ASrc :=
  let c := s.axCode a i
  if c = 0x40 then { ASrc.init with last := some s.now, rate := 10 * s.alongVel a s.now * 2 ^ 32 / 1000000 }
  else { ASrc.init with last := if isZx c then some s.now else none }

/-- Enable axis a (Table 3-7): refused with CFG_ERR where the configuration is invalid; else the preset, and RUN on the
highest healthy slot or LOST. The spec names no direction at enabling: the axis starts forward (log entry 31). A Weave source
adds its travel from this instant on (R66). -/
def State.axEnable (s : State) (a : Nat) : State :=
  if !s.axisOk a then (s.setFld (F.STR_AXCFG_EN a) 0).axFlag F.STR_AXSTAT_CFG_ERR a
  else
    let pre := sext 64 (s.reg64 (R.STR_AXPRESET_LO a) (R.STR_AXPRESET_HI a))
    let old := s.axis a
    let fresh (i : Nat) : ASrc := if isPartner (s.axCode a i) then old.slot i else s.freshSlot a i
    let s := (s.setAxis a { Axis.init with pos := pre * 2 ^ 16, at_ := s.now, slots := [] }).axTake a
    let s := [0, 1, 2].foldl (fun s i => s.setAxis a ((s.axis a).setSlot i (fresh i))) s
    let s := [0, 1, 2].foldl (fun s i =>
      s.setAxis a ((s.axis a).setSlot i { (s.axis a).slot i with ok := s.axCode a i ≠ 0 && !s.slotBad a i })) s
    let s := ((s.setFld (F.STR_AXSTAT_STILL a) 0).setFld (F.STR_AXSTAT_REVERSE a) 0).axShowOk a
    let s := s.loopShift a (pre * 2 ^ 16 - old.pos)
    match s.axBest a with
    | some j => (((s.setFld (F.STR_AXSTAT_STATE a) axRUN).axSwitchTo a j).axStart a j s.now)
    | none => s.axLose a s.now

/-- Disable axis a: position and rate frozen (Table 3-7). The spec does not say what STILL shows then, nor in LOST: it stays as it
was (log entry 31). -/
def State.axDisable (s : State) (a : Nat) : State :=
  let s := s.noteCross s.now
  let p := s.axPos a s.now
  let s := s.setAxis a { s.axis a with pos := p, at_ := s.now }
  let s := if s.axActive a = 3 then s else s.axSwitchTo a 3
  (s.setFld (F.STR_AXSTAT_STATE a) axDISABLED).crossWait a

/-- A write of STR_AXCFGa (R90): while EN is 1, one that changes more than RETURN, XEN and EN is ignored with CFG_ERR. -/
def State.writeAxCfg (s : State) (a : Nat) (w : Word) : State :=
  let addr := R.STR_AXCFG a
  let old := s.reg addr
  let new := writtenWord addr (s.locked addr) old w
  let on := s.flag (F.STR_AXCFG_EN a)
  if on && (old ||| 0x301) ≠ (new ||| 0x301) then s.axFlag F.STR_AXSTAT_CFG_ERR a
  else
    let s := s.setReg addr new
    match on, s.flag (F.STR_AXCFG_EN a) with
    | false, true => s.axEnable a
    | true, false => s.axDisable a
    | _, _ => s

/-- AXIS_ENABLE and AXIS_DISABLE (R82): the EN bit of STR_AXCFGa, the other bits of the word as given. -/
def execAxisEnable (acc : Acc) (a : Fin 8) (value : Word) (s : State) : Out :=
  .next (s.guardWrite acc (R.STR_AXCFG a) (fun s => s.writeAxCfg a (value ||| 1)))

def execAxisDisable (acc : Acc) (a : Fin 8) (value : Word) (s : State) : Out :=
  .next (s.guardWrite acc (R.STR_AXCFG a) (fun s => s.writeAxCfg a (value &&& 0xFFFFFFFE)))

/-- A write of STR_AXFBa (R90): ignored with CFG_ERR where it renames the active slot or makes the configuration
invalid; a slot with a new source starts afresh. A write that keeps the active slot's own field and changes the other is taken:
R90 does not say whether it "names the slot currently active" (log entry 31). -/
def State.writeAxFb (s : State) (a : Nat) (w : Word) : State :=
  let addr := R.STR_AXFB a
  let new := writtenWord addr (s.locked addr) (s.reg addr) w
  if !s.flag (F.STR_AXCFG_EN a) then s.setReg addr new
  else
    let f1 := (F.STR_AXFB_FB1 a).get new
    let f2 := (F.STR_AXFB_FB2 a).get new
    let act := s.axActive a
    let hits := (act = 1 && f1 ≠ s.axCode a 1) || (act = 2 && f2 ≠ s.axCode a 2)
    if hits || !s.part.axisOk (s.fld (F.STR_AXCFG_KIND a)) (s.fld (F.STR_AXCFG_DIR a)) (s.axCode a 0) f1 f2 then
      s.axFlag F.STR_AXSTAT_CFG_ERR a
    else
      let c1 := s.axCode a 1
      let c2 := s.axCode a 2
      let s := s.setReg addr new
      let fresh (s : State) (i : Nat) : State :=
        let x := s.axis a
        let s := s.setAxis a (x.setSlot i (s.freshSlot a i))
        s.setAxis a ((s.axis a).setSlot i { (s.axis a).slot i with ok := s.axCode a i ≠ 0 && !s.slotBad a i })
      let s := if f1 = c1 then s else fresh s 1
      (if f2 = c2 then s else fresh s 2).axShowOk a

/-- A write of a scale register: on the active slot of a running axis it is a switch to the same slot at the next tick, whatever the
value (R82, R90). -/
def State.writeAxScale (s : State) (a i : Nat) (addr : Nat) (w : Word) : State :=
  let s := s.writePlain addr w
  if s.flag (F.STR_AXCFG_EN a) ∧ s.axActive a = i then s.setAxis a { s.axis a with rescale := true } else s

/-- A write of STR_AXPRESET is ignored with CFG_ERR while EN is 1 (R90). -/
def State.writeAxPreset (s : State) (a : Nat) (addr : Nat) (w : Word) : State :=
  if s.flag (F.STR_AXCFG_EN a) then s.axFlag F.STR_AXSTAT_CFG_ERR a else s.writePlain addr w

/-- A register write in the STR window. -/
def State.writeStr (s : State) (addr : Nat) (w : Word) : State :=
  if addr = R.STR_SNAP_DB then s.writeSnapDb w
  else if addr < R.STR_AXCFG 8 then
    let a := (addr - R.STR_AXCFG 0) / 0x100
    let o := (addr - R.STR_AXCFG 0) % 0x100
    if o = 0 then s.writeAxCfg a w
    else if o = 4 then s.writeAxFb a w
    else if o = 8 then s.writeAxScale a 0 addr w
    else if o = 0xC then s.writeAxScale a 1 addr w
    else if o = 0x10 then s.writeAxScale a 2 addr w
    else if o = 0x28 ∨ o = 0x2C then s.writeAxPreset a addr w
    else s.writePlain addr w
  else if R.STR_TRGCFG 0 ≤ addr ∧ addr < R.STR_TRGCFG 32 then
    let n := (addr - R.STR_TRGCFG 0) / 0x10
    let o := (addr - R.STR_TRGCFG 0) % 0x10
    if o = 0 then s.writeTrgCfg n w
    else if o = 4 ∧ s.flag (F.STR_TRGCFG_EN n) then s
    else s.writePlain addr w
  else s.writePlain addr w

/-- AXIS_CFG_WRITE (R90): a write to a configuration, fallback, scale, blend, standstill, loss, cross-check, restore or
preset register of axis a: the register at word k of its block. -/
def execAxisCfgWrite (acc : Acc) (a : Fin 8) (k : Fin 12) (value : Word) (s : State) : Out :=
  .next (s.guardWrite acc (R.STR_AXCFG a + 4 * k.val) (fun s => s.writeStr (R.STR_AXCFG a + 4 * k.val) value))

/-- Show axis a in its position and rate registers for this instant. -/
def State.axLatch (s : State) (a : Nat) : State :=
  let s := s.setReg64 (R.STR_AXPOS_LO a) (R.STR_AXPOS_HI a) (s.axCount a s.now)
  let s := s.setFld (F.STR_AXFRAC_FRAC a) (toBits 16 (s.axPos a s.now))
  s.setReg64 (R.STR_AXRATE_LO a) (R.STR_AXRATE_HI a) (toBits 64 (s.axShownRate a))

/-- AXIS_POS_READ (R93): a read of STR_AXPOS_LOa latches the others for the same instant. -/
def execAxisPosRead (acc : Acc) (a : Fin 8) (s : State) : Out :=
  .next (s.guardRead acc (R.STR_AXPOS_LO a) (fun s => w32 (s.axCount a s.now)) (fun s => s.axLatch a))

/-! ### Edges (R67, R68, R70, R73) -/

/-- An edge of travel d at an instant for slot i of axis a; a counted edge of a pulse source ends a standstill and adds nothing (R79). -/
def State.slotEdge (s : State) (a i t : Nat) (d : Int) : State :=
  let x := s.axis a
  let r := x.slot i
  let p := r.travel + d
  let s := s.setAxis a (x.setSlot i { r with travel := p, last := some t, edges := ((t, p) :: r.edges).take 8 })
  if s.axActive a = i ∧ isPulse (s.axCode a i) ∧ s.flag (F.STR_AXSTAT_STILL a) then s.axGo a s.now else s

/-- What an accepted level change of pulse input n at t means for every slot that names it (R67, R68). -/
def State.strideEdge (s : State) (n : Nat) (k : EdgeKind) (t : Nat) : State :=
  (List.range 8).foldl (fun s a =>
    if s.axState a = axDISABLED then s
    else [0, 1, 2].foldl (fun s i =>
      let c := s.axCode a i
      match k with
      | .single => if c = 0x10 + n then s.slotEdge a i t (s.axDir a t * s.axScale a i) else s
      | .quad d =>
        if c = 0x30 + n / 2 then
          s.slotEdge a i t ((if s.flag (F.STR_AXCFG_INVERT a) then -d else d) * s.axScale a i)
        else s
      | .illegal =>
        if c = 0x30 + n / 2 then
          let x := s.axis a
          let s := s.setAxis a (x.setSlot i { x.slot i with illegal := t :: (x.slot i).illegal })
          (s.bump (F.STR_AXQERR_COUNT a)).axFlag F.STR_AXSTAT_QERR a
        else s
      | .quiet => s) s) s

/-- PULSE_EDGE (R273, R274, R67): a level change of pulse input n, first changed at a stamp with 10 ns resolution, that
has lasted the glitch filter; `both` where its pair partner changed in the same sample. -/
def execPulseEdge (n : Fin 24) (level both : Bool) (ts : Word) (s : State) : Out :=
  let t := s.fromShort ts.toNat / 10 * 10
  let (k, s) := s.pinEdge n level both t
  .next (s.strideEdge n k t)

/-- ZERO_CROSSING (R277, R70): a positive-going crossing at a stamp on an enabled input: a mains cycle for its axes; at
the first one after its source became active a MAINS axis takes its residue. -/
def execZeroCrossing (z : Fin 2) (ts : Word) (s : State) : Out :=
  if s.flag (F.PLS_ZXCFG_EN z) then
    let t := s.fromShort ts.toNat
    let s := s.zxCross z t
    .next ((List.range 8).foldl (fun s a =>
      if s.axState a = axDISABLED then s
      else [0, 1, 2].foldl (fun s i =>
        if s.axCode a i = 0x50 + z.val then
          let s := s.slotEdge a i t (4096 * 2 ^ 16)
          let x := s.axis a
          if s.axActive a = i ∧ x.res.isNone then
            let b := s.axPos a t - (x.slot i).travel
            s.setAxis a { x with base := b, res := some (b % cycle) }
          else s
        else s) s) s)
  else .next s

/-- Increments of the partner's axis b (R73): a travel in 2^-16 count over 50 µs, up to an instant, and whether the axis
is lost or of another kind. -/
def State.partnerAxis (s : State) (b t : Nat) (d : Int) (lost mismatch : Bool) : State :=
  (List.range 8).foldl (fun s a =>
    [0, 1, 2].foldl (fun s i =>
      if s.axCode a i = 0x70 + b then
        let x := s.axis a
        let r := x.slot i
        let s := s.setAxis a (x.setSlot i { r with
          travel := r.travel + d, rate := d * 2 ^ 16 / 50, last := some t, lost := lost || mismatch })
        if mismatch ∧ s.axState a ≠ axDISABLED then s.axFlag F.STR_AXSTAT_CFG_ERR a else s
      else s) s) s

end Sys2Proof.Machine
end

