-- ==== Sys2Proof/Machine/Dio.lean ====
section
/-! DEFINITION. The 24 V digital inputs and outputs (10_digital_io.md). Points are numbered 0 to 63; point n lies on die
n / 32 as local point n % 32. -/

namespace Sys2Proof.Machine

/-- Point n beside its registers. -/
def State.dpt (s : State) (n : Nat) : DPt := SMap.get (fun _ => DPt.init) s.dio.pts n

/-- Replace point n. -/
def State.setDpt (s : State) (n : Nat) (x : DPt) : State :=
  { s with dio := { s.dio with pts := SMap.set (fun _ => DPt.init) s.dio.pts n x } }

/-- The supply faults in force at a power die, added up: 1 loss of ground, 2 reverse battery, 4 a supply below 5.0 V (R245). -/
def State.cuts (s : State) (d : Nat) : Nat := SMap.get (fun _ => 0) s.lsw.cut d

/-- The one that decides over the outputs of a die: 0 none, 1 loss of ground, 2 reverse battery, 3 the low supply. -/
def State.cut (s : State) (d : Nat) : Nat :=
  let m := s.cuts d
  if m % 2 = 1 then 1 else if m / 2 % 2 = 1 then 2 else if m / 4 % 2 = 1 then 3 else 0

/-- Fields of a DIO entry (Table 10-1). -/
def dOut (e : List Byte) : Bool := field e 2 1 % 2 = 1
def dType (e : List Byte) : Nat := field e 2 1 / 2 % 4
def dSafe (e : List Byte) : Bool := field e 2 1 / 8 % 2 = 1
def dHlen (e : List Byte) : Bool := field e 2 1 / 16 % 2 = 1
def dOlchk (e : List Byte) : Bool := field e 2 1 / 32 % 2 = 1
def dIrqR (e : List Byte) : Bool := field e 2 1 / 64 % 2 = 1
def dIrqF (e : List Byte) : Bool := field e 2 1 / 128 % 2 = 1
def dDebounce (e : List Byte) : Nat := field e 4 4 % 2 ^ 20
def dHoldLim (e : List Byte) : Nat := field e 8 2

/-- Whether the module has point n (R249). -/
def Part.hasDio (p : Part) (n : Nat) : Bool := n < 32 || (n < 64 && p.hasP1)

/-- Whether an accepted DIO entry is valid (R251). -/
def State.dioValid (s : State) (n : Nat) : Bool :=
  let e := s.entry 3 n
  s.hasEntry 3 n && s.part.hasDio n && field e 3 1 = 0 && field e 4 4 / 2 ^ 20 = 0 && field e 12 2 = 0 &&
    dDebounce e ≤ 65000 && (if dOut e then dType e = 0 else dType e ≠ 0)

/-- Whether a point is a working output, a working input. -/
def State.dioIsOut (s : State) (n : Nat) : Bool := s.dioValid n && dOut (s.entry 3 n)
def State.dioIsIn (s : State) (n : Nat) : Bool := s.dioValid n && !dOut (s.entry 3 n)

/-- Whether a die is in HOLD (R256). -/
def State.holding (s : State) (d : Nat) : Bool := s.flag (F.DIO_STAT_HOLDING d)

/-- Whether a point's cluster field supply has a fault (Table 10-5). -/
def State.dioSupplyBad (s : State) (n : Nat) : Bool := s.flag (F.DIO_CLSTAT_SUPPLY (n / 32) (n % 32 / 8))

/-- Whether the outputs of a die keep their level: in HOLD, or as the heartbeat stops and the die has yet to see it (R256). -/
def State.dioStill (s : State) (d : Nat) : Bool := s.holding d || SMap.get (fun _ => false) s.dio.silent d

/-- The level an output drives now (R253-R256); in reverse battery every switch is held on (Table 9-7). -/
def State.dioDrives (s : State) (n : Nat) : Bool :=
  let d := n / 32
  let x := s.dpt n
  s.dioIsOut n && (s.cut d = 2 || s.flag (F.DIO_CTL_EN d) && s.fld (F.DIO_PTSTAT_FCAUSE d (n % 32)) = 0 && !s.dioSupplyBad n &&
    s.cut d = 0 && !x.off && !s.hiZ 2 n && (if s.dioStill d then x.holdLvl else s.flag (F.DIO_PTSTAT_LEVEL d (n % 32))))

/-- STATE of a point (Table 10-7). -/
def State.dioState (s : State) (n : Nat) : Nat :=
  if !s.dioValid n then 6
  else if s.dioIsIn n then 0
  else if s.holding (n / 32) then 4
  else if s.fld (F.DIO_PTSTAT_FCAUSE (n / 32) (n % 32)) ≠ 0 then 3
  else if s.dioSupplyBad n then 5
  else if s.dioDrives n then 2
  else 1

/-- Set bit j of a register. -/
def State.setBitAt (s : State) (a j : Nat) (b : Bool) : State := s.setFld ⟨a, j, j⟩ (if b then 1 else 0)

/-- Bring the status of point n up to date: output driven, STATE, HELD, SUPOK of its cluster. -/
def State.dioShow (s : State) (n : Nat) : State :=
  let d := n / 32
  let j := n % 32
  let s := s.setBitAt (R.DIO_OUTLVL d) j (s.dioDrives n)
  let s := s.setFld (F.DIO_PTSTAT_STATE d j) (s.dioState n)
  let s := s.setBit (F.DIO_PTSTAT_HELD d j) (s.dpt n).holder.isSome
  s.setBit (F.DIO_CLSTAT_SUPOK d (j / 8)) (s.flag (F.DIO_CTL_EN d) && !s.dioSupplyBad n && s.cut d = 0)

/-- Bring all points of a die up to date. -/
def State.dioShowDie (s : State) (d : Nat) : State := (List.range 32).foldl (fun s j => s.dioShow (32 * d + j)) s

/-- Set a flag of a point and of its unit (R258). -/
def State.dioFlag (s : State) (ch : Nat → Nat → Fld) (unit : Nat → Fld) (n : Nat) : State :=
  s.raiseBoth (ch (n / 32) (n % 32)) (unit (n / 32)) (191 + n / 32)

/-- A level reaches point n, as an edge or a command: recorded, and driven where the point acts (R253, R256). -/
def State.dioEdge (s : State) (n : Nat) (on : Bool) : State :=
  let s := s.setBit (F.DIO_PTSTAT_LEVEL (n / 32) (n % 32)) on
  let s := if s.dioStill (n / 32) then s else s.setDpt n { s.dpt n with off := false }
  s.dioShow n

/-- The effective safe level of a point, and its record (R253): from an endpoint, or from the entry. -/
def State.dioSafe (s : State) (n : Nat) : Bool := s.flag (F.DIO_PTSAFE_ON (n / 32) (n % 32))

def State.setDioSafe (s : State) (n : Nat) (ep on : Bool) : State :=
  (s.setBit (F.DIO_PTSAFE_SRC (n / 32) (n % 32)) ep).setBit (F.DIO_PTSAFE_ON (n / 32) (n % 32)) on

/-- An endpoint takes point n: held, its safe state copied (R253, R209). -/
def State.dioHold (s : State) (n e : Nat) (safe : Bool) : State :=
  let s := s.setDpt n { s.dpt n with holder := some e, kept := false }
  (s.setDioSafe n true safe).dioShow n

/-- The endpoint leaves point n: it keeps the state applied (R210); the effective safe state is the entry's again. -/
def State.dioRelease (s : State) (n : Nat) : State :=
  let s := s.setDpt n { s.dpt n with holder := none, kept := true }
  (s.setDioSafe n false (dSafe (s.entry 3 n))).dioShow n

/-- Whether point n has a channel diagnostic fault (R251). -/
def State.dioFaulty (s : State) (n : Nat) : Bool :=
  !s.dioValid n || s.fld (F.DIO_PTSTAT_FCAUSE (n / 32) (n % 32)) ≠ 0 || (dOut (s.entry 3 n) && s.dioSupplyBad n)

/-- An entry of the DIO table has been accepted over an old copy (R251). -/
def State.acceptDio (s : State) (n : Nat) (old : List Byte) : State :=
  let e := s.entry 3 n
  let s := if old ≠ [] ∧ dOut old ≠ dOut e then
      (s.setDpt n { s.dpt n with off := true, kept := false, holdLvl := false }).setFld (F.DIO_PTSTAT_FCAUSE (n / 32) (n % 32)) 0
    else s
  let s := if (s.dpt n).holder.isNone then s.setDioSafe n false (dSafe e) else s
  let s := if s.hasEntry 3 n && !s.dioValid n then (s.dioFlag F.DIO_PTSTAT_CONFIG F.DIO_STAT_CONFIG n).event 0x0803 [w32 n] else s
  s.dioShow n

/-! ### Inputs -/

/-- DEBOUNCED_EDGE (R252): the synchronised level of point n, which has differed from the debounced one for `us` without
a break: after DEBOUNCE µs the debounced level changes and is stamped; EDGE under IRQR and IRQF. -/
def execDebouncedEdge (n : Fin 64) (level : Bool) (us : BitVec 32) (s : State) : Out :=
  let d := n.val / 32
  let j := n.val % 32
  if s.dioIsIn n then
    let e := s.entry 3 n
    let s := s.setBitAt (R.DIO_RAWLVL d) j level
    let old : Bool := s.fld (F.DIO_INLVL_LEVEL d) / 2 ^ j % 2 = 1
    if old ≠ level ∧ dDebounce e ≤ us.toNat then
      let s := (s.setBitAt (R.DIO_INLVL d) j level).setFld (F.DIO_INTS_TIME d j) s.short
      let s := s.setDpt n { s.dpt n with edges := ((s.now, level) :: (s.dpt n).edges).take 16 }
      .next (if (level && dIrqR e) || (!level && dIrqF e) then s.dioFlag F.DIO_PTSTAT_EDGE F.DIO_STAT_EDGE n else s)
    else .next s
  else .next s

/-! ### Outputs -/

/-- A write of DIO_CMDj (R253, R256): ignored with HELD_WR while an endpoint holds the point. -/
def State.takeDioCmd (s : State) (n : Nat) (w : Word) : State :=
  if (s.dpt n).holder.isSome then s.dioFlag F.DIO_PTSTAT_HELD_WR F.DIO_STAT_HELD_WR n
  else
    let s := s.writePlain (R.DIO_CMD (n / 32) (n % 32)) w
    let s := s.setDpt n { s.dpt n with kept := false }
    s.dioEdge n (s.flag (F.DIO_CMD_ON (n / 32) (n % 32)))

/-- A write of the CMD register by a master (R457, R463). -/
def State.writeDioCmd (s : State) (n : Nat) (w : Word) : State :=
  s.ownCmd 2 n (R.DIO_CMD (n / 32) (n % 32)) w (fun s => s.takeDioCmd n w)

def execDioCmdWrite (acc : Acc) (n : Fin 64) (on : Bool) (s : State) : Out :=
  .next (s.guardWrite acc (R.DIO_CMD (n / 32) (n % 32)) (fun s => s.writeDioCmd n (if on then 0x80000000 else 0)))

/-- DIO_FAULT (R255): an output that has limited for `us` without a break, at least 5 ms, or is over its temperature
threshold, latches in FAULT: off, the flag, FCAUSE, event with point and cause. -/
def execDioFault (n : Fin 64) (ot : Bool) (us : BitVec 32) (s : State) : Out :=
  let d := n.val / 32
  let j := n.val % 32
  if s.dioIsOut n && s.fld (F.DIO_PTSTAT_FCAUSE d j) = 0 && s.cut d ≠ 2 && (ot || (s.dioDrives n && 5000 ≤ us.toNat)) then
    let s := if ot then s.setFld (F.DIO_PTSTAT_OT d j) 1
      else s.dioFlag F.DIO_PTSTAT_OVERLOAD F.DIO_STAT_OVERLOAD n
    let c := if ot then 2 else 1
    let s := s.setFld (F.DIO_PTSTAT_FCAUSE d j) c
    let s := s.raiseFlag (F.DIO_STAT_FAULT d) (191 + d)
    .next ((s.dioShow n).event 0x0801 [w32 n.val, w32 c])
  else .next s

/-- DIO_DIAG_FLAG (R255): EXTV, off and the pin above 11 V for 10 ms; OPEN, with OLCHK on and the current below the
open-load threshold for 10 ms. Flags only. -/
def execDioDiagFlag (n : Fin 64) (extv : Bool) (ms : BitVec 16) (s : State) : Out :=
  if s.dioIsOut n && decide (10 ≤ ms.toNat) && s.cut (n / 32) ≠ 2 then
    if extv then
      .next (if s.dioDrives n then s else s.dioFlag F.DIO_PTSTAT_EXTV F.DIO_STAT_EXTV n)
    else
      .next (if s.dioDrives n && dOlchk (s.entry 3 n) then s.dioFlag F.DIO_PTSTAT_OPEN F.DIO_STAT_OPEN n else s)
  else .next s

/-- The flag that FCAUSE of a point names, as a bit of DIO_PTSTATj (Table 10-7). -/
def State.dioCauseBit (s : State) (n : Nat) : Word :=
  match s.fld (F.DIO_PTSTAT_FCAUSE (n / 32) (n % 32)) with
  | 1 => 0x40000
  | 2 => 0x80000
  | _ => 0

/-- A write of DIO_PTSTATj: its W1C flags; the one that FCAUSE names releases the point to OFF (R255). -/
def State.writeDioPtstat (s : State) (n : Nat) (w : Word) : State :=
  let b := s.dioCauseBit n
  let s := s.writePlain (R.DIO_PTSTAT (n / 32) (n % 32)) w
  if b ≠ 0 ∧ w &&& b ≠ 0 then
    ((s.setFld (F.DIO_PTSTAT_FCAUSE (n / 32) (n % 32)) 0).setDpt n { s.dpt n with off := true }).dioShow n
  else s

/-- DIO_FAULT_RELEASE (R255): 1 written to the flag that FCAUSE names. -/
def execDioFaultRelease (acc : Acc) (n : Fin 64) (s : State) : Out :=
  .next (s.guardWrite acc (R.DIO_PTSTAT (n / 32) (n % 32)) (fun s => s.writeDioPtstat n (s.dioCauseBit n)))

/-- DIO_SUPPLY (R255): the field supply of cluster c, with its current, has been above its limit, or below 6.0 V with
the group above 9 V, for `ms`, at least 1: its switch opens, SUPPLY once at the cluster, the event. -/
def execDioSupply (c : Fin 8) (ma : BitVec 13) (ms : BitVec 16) (s : State) : Out :=
  let d := c.val / 4
  let k := c.val % 4
  if s.part.hasDio (8 * c) then
    let s := s.setFld (F.DIO_CLSTAT_IMEAS d k) ma.toNat
    if s.flag (F.DIO_CTL_EN d) && !s.flag (F.DIO_CLSTAT_SUPPLY d k) && decide (1 ≤ ms.toNat) && s.cut d ≠ 2 then
      let s := s.raiseBoth (F.DIO_CLSTAT_SUPPLY d k) (F.DIO_STAT_SUPPLY d) (191 + d)
      .next ((s.dioShowDie d).event 0x0802 [])
    else .next s
  else .next s

/-- A write of DIO_CLSTATc: SUPPLY released, the outputs take the levels of their sources (R255). -/
def State.writeDioClstat (s : State) (d c : Nat) (w : Word) : State :=
  let bad := s.flag (F.DIO_CLSTAT_SUPPLY d c)
  let s := s.writePlain (R.DIO_CLSTAT d c) w
  if bad && !s.flag (F.DIO_CLSTAT_SUPPLY d c) then
    let s := (List.range 8).foldl (fun s m => s.setDpt (32 * d + 8 * c + m) { s.dpt (32 * d + 8 * c + m) with off := false }) s
    s.dioShowDie d
  else s

/-- DIO_SUPPLY_RELEASE (R255): 1 written to DIO_CLSTATc.SUPPLY. -/
def execDioSupplyRelease (acc : Acc) (c : Fin 8) (s : State) : Out :=
  .next (s.guardWrite acc (R.DIO_CLSTAT (c / 4) (c % 4)) (fun s => s.writeDioClstat (c / 4) (c % 4) 0x80000000))

/-! ### HOLD (R256, R257) -/

/-- The hold limit of point n acts: its effective safe level, HOLD_END, the event (R256). -/
def State.dioHoldEnd (s : State) (n : Nat) : State :=
  let s := s.setDpt n { s.dpt n with holdLvl := s.dioSafe n, ended := true, off := false }
  let s := s.raiseFlag (F.DIO_STAT_HOLD_END (n / 32)) (191 + n / 32)
  (s.dioShow n).event 0x0804 []

/-- A die enters HOLD: every output keeps its level; a hold limit of 0 acts at once (R256). -/
def State.dioEnterHold (s : State) (d : Nat) : State :=
  let s := (List.range 32).foldl (fun s j =>
    let n := 32 * d + j
    s.setDpt n { s.dpt n with holdLvl := s.fld (F.DIO_OUTLVL_LEVEL d) / 2 ^ j % 2 = 1, ended := false }) s
  let s := s.setFld (F.DIO_STAT_HOLDING d) 1
  let s : State := { s with dio := { s.dio with
    holdAt := SMap.set (fun _ => 0) s.dio.holdAt d s.now, silent := SMap.set (fun _ => false) s.dio.silent d false } }
  let s := s.dioShowDie d
  (List.range 32).foldl (fun s j =>
    let n := 32 * d + j
    if s.dioIsOut n && dHlen (s.entry 3 n) && dHoldLim (s.entry 3 n) = 0 then s.dioHoldEnd n else s) s

/-- DIO_HOLD (R256): HOLD_LIM ms after HOLD began, a point with HLEN goes to its effective safe state. -/
def execDioHold (n : Fin 64) (s : State) : Out :=
  let d := n.val / 32
  let e := s.entry 3 n
  if s.dioIsOut n && s.holding d && dHlen e && !(s.dpt n).ended &&
      s.elapsed (SMap.get (fun _ => 0) s.dio.holdAt d) (1000000 * dHoldLim e) then .next (s.dioHoldEnd n)
  else .next s

/-- HOLD ends for every point of a die: each takes the level of its source (R257). -/
def State.dioEndHold (s : State) (d : Nat) : State :=
  let s := s.setFld (F.DIO_STAT_HOLDING d) 0
  let s := (List.range 32).foldl (fun s j =>
    let n := 32 * d + j
    let s := s.setDpt n { s.dpt n with off := false, ended := false, holdLvl := false }
    if (s.dpt n).holder.isNone then s.setDioSafe n false (dSafe (s.entry 3 n)) else s) s
  s.dioShowDie d

/-- A write of DIO_CTL: EN, and HREL, which acts while the heartbeat is present (R257). -/
def State.writeDioCtl (s : State) (d : Nat) (w : Word) : State :=
  let on := s.flag (F.DIO_CTL_EN d)
  let s := s.writePlain (R.DIO_CTL d) w
  let s := if !on && s.flag (F.DIO_CTL_EN d) then
      (List.range 32).foldl (fun s j => s.setDpt (32 * d + j) { s.dpt (32 * d + j) with off := false }) s
    else s
  let s := s.dioShowDie d
  if (F.DIO_CTL_HREL d).get w = 1 ∧ s.pwr.hb ∧ s.holding d then s.dioEndHold d else s

/-- HOLD_RELEASE (R257): a write of DIO_CTL with HREL, its other bits as given. -/
def execHoldRelease (acc : Acc) (d : Fin 2) (value : Word) (s : State) : Out :=
  .next (s.guardWrite acc (R.DIO_CTL d) (fun s => s.writeDioCtl d (value ||| 0x100)))

/-- A register write in the DIO window of die d. -/
def State.writeDio (s : State) (a : Nat) (w : Word) : State :=
  let d := (a - R.DIO_CTL 0) / 0x100000
  if a = R.DIO_CTL d then s.writeDioCtl d w
  else if R.DIO_CLSTAT d 0 ≤ a ∧ a < R.DIO_CLSTAT d 4 then s.writeDioClstat d ((a - R.DIO_CLSTAT d 0) / 4) w
  else if R.DIO_PTSTAT d 0 ≤ a ∧ a < R.DIO_PTSTAT d 32 then
    let n := 32 * d + (a - R.DIO_PTSTAT d 0) / 0x10
    match (a - R.DIO_PTSTAT d 0) % 0x10 with
    | 0 => s.writeDioPtstat n w
    | 8 => s.writeDioCmd n w
    | _ => s.writePlain a w
  else s.writePlain a w

/-- What an RTX reset does to the outputs of a die (R257): each goes to its effective safe state, DIO_CMDj is cleared;
in HOLD the level is only recorded (R256). -/
def State.dioSafeAll (s : State) (d : Nat) : State :=
  (List.range 32).foldl (fun s j =>
    let n := 32 * d + j
    if s.dioIsOut n then
      let s := s.dioEdge n (s.dioSafe n)
      let s := s.setDpt n { s.dpt n with holder := none, kept := true }
      let s := s.setDioSafe n false (dSafe (s.entry 3 n))
      (s.setFld (F.DIO_CMD_ON d j) 0).dioShow n
    else s.setFld (F.DIO_CMD_ON d j) 0) s

/-- What a MOD or stronger reset records on the points of a die whose registers are kept (R256, R257): the safe level
of a held point, OFF of one that DIO_CMDj drove; no output moves, and none does until the die sees the heartbeat lost. -/
def State.dioRecordReset (s : State) (d : Nat) : State :=
  let s := if s.dioStill d then s else
    let s := (List.range 32).foldl (fun s j =>
      s.setDpt (32 * d + j) { s.dpt (32 * d + j) with holdLvl := s.fld (F.DIO_OUTLVL_LEVEL d) / 2 ^ j % 2 = 1 }) s
    { s with dio := { s.dio with silent := SMap.set (fun _ => false) s.dio.silent d true } }
  (List.range 32).foldl (fun s j =>
    let n := 32 * d + j
    let x := s.dpt n
    let lvl := if x.holder.isSome then s.dioSafe n else x.kept && s.flag (F.DIO_PTSTAT_LEVEL d j)
    let s := (s.setBit (F.DIO_PTSTAT_LEVEL d j) lvl).setFld (F.DIO_CMD_ON d j) 0
    (s.setDpt n { x with kept := x.kept || x.holder.isSome, holder := none }).setFld (F.DIO_PTSTAT_HELD d j) 0) s

end Sys2Proof.Machine
end

