-- ==== Sys2Proof/Machine/Sol.lean ====
section
/-! DEFINITION. The solenoid drivers (08_solenoid_drivers.md). Channels are numbered 0 to 63; channel n lies on die
n / 32 as local channel n % 32, in bank n / 4, on converter n / 16. Commands are in 0.25 mA steps. -/

namespace Sys2Proof.Machine

/-- Channel n beside its registers. -/
def State.sch (s : State) (n : Nat) : SCh := SMap.get (fun _ => SCh.init) s.sol.chs n

/-- Replace channel n. -/
def State.setSch (s : State) (n : Nat) (x : SCh) : State :=
  { s with sol := { s.sol with chs := SMap.set (fun _ => SCh.init) s.sol.chs n x } }

/-- A field of channel n, of bank k, of converter b, by global number. -/
def solF (f : Nat → Nat → Fld) (n : Nat) : Fld := f (n / 32) (n % 32)
def bankF (f : Nat → Nat → Fld) (k : Nat) : Fld := f (k / 8) (k % 8)
def bstF (f : Nat → Nat → Fld) (b : Nat) : Fld := f (b / 2) (b % 2)

/-- Fields of a SOL entry (Table 8-1). -/
def vPair (e : List Byte) : Bool := field e 2 1 % 2 = 1
def vChop (e : List Byte) : Nat := field e 2 1 / 2 % 2
def vSafe (e : List Byte) : Bool := field e 2 1 / 4 % 2 = 1
def vOpenchk (e : List Byte) : Bool := field e 2 1 / 8 % 2 = 1
def vProfile (e : List Byte) : Nat := field e 3 1 % 16
def vTsrc (e : List Byte) : Nat := field e 3 1 / 16 % 8
def vHold (e : List Byte) : Nat := field e 4 2
def vMax (e : List Byte) : Nat := field e 6 2
def vSafeI (e : List Byte) : Nat := field e 8 2
def vRegTol (e : List Byte) : Nat := field e 10 2
def vRegT (e : List Byte) : Nat := field e 12 2

/-- Whether the module has channel n (R202). -/
def Part.hasSol (p : Part) (n : Nat) : Bool := n < 32 || (n < 64 && p.hasP1)

/-- Whether an entry held for channel n is of a pair's even half. -/
def State.solPairs (s : State) (n : Nat) : Bool := n % 2 = 0 && s.hasEntry 1 n && vPair (s.entry 1 n)

/-- Whether channel n is the odd half of a pair (R205). -/
def State.solSlave (s : State) (n : Nat) : Bool := n % 2 = 1 && s.solPairs (n - 1)

/-- Whether entry bytes are valid for channel n (R207). -/
def State.solOk (s : State) (n : Nat) (e : List Byte) : Bool :=
  e ≠ [] && field e 0 2 ≠ 0 && s.part.hasSol n && field e 2 1 / 16 = 0 && vTsrc e ≤ 4 && field e 3 1 / 128 = 0 &&
    (e.drop 14).take 42 = List.replicate 42 0 && field e 60 2 = 0 && vMax e ≠ 0 &&
    vMax e ≤ (if vPair e then 32000 else 16000) && vHold e ≤ vMax e && vSafeI e ≤ vMax e && !(vPair e && n % 2 = 1) &&
    !s.solSlave n

/-- Whether channel n has a valid accepted entry. -/
def State.solValid (s : State) (n : Nat) : Bool := s.solOk n (s.entry 1 n)

/-- Phases of Table 8-5. -/
def phOFF : Nat := 0
def phWAIT : Nat := 1
def phBOOST : Nat := 2
def phPEAK : Nat := 3
def phPKDEC : Nat := 4
def phHOLD : Nat := 5
def phDECAY : Nat := 6
def phFAULT : Nat := 7

/-- PHASE of channel n. -/
def State.solPhase (s : State) (n : Nat) : Nat := s.fld (solF F.SOL_CHSTAT_PHASE n)

/-- The channel that channel n is a half of, or n itself: a pair is addressed, and shows, as its even half (R205, R225). -/
def State.solUnit (s : State) (n : Nat) : Nat := if s.solSlave n then n - 1 else n

/-- Whether channel n is no channel of its own: the odd half of a pair, its own current gone. -/
def State.solHalf (s : State) (n : Nat) : Bool := s.solSlave n && !(s.sch n).parting

/-- Whether channel n is active: from its on-edge until its current has decayed (R203). -/
def State.solActive (s : State) (n : Nat) : Bool := within phWAIT phDECAY (s.solPhase n) && !s.solHalf n

/-- Whether a phase holds the bank token (R217). -/
def holdsToken (ph : Nat) : Bool := within phBOOST phPKDEC ph

/-- The channels of bank k that count: the odd half of a pair does not (R205). -/
def State.bankMembers (s : State) (k : Nat) : List Nat := ([0, 1, 2, 3].map (4 * k + ·)).filter (fun n => !s.solHalf n)

/-- The holder of the token of bank k. -/
def State.bankHolder (s : State) (k : Nat) : Option Nat := (s.bankMembers k).find? (fun n => holdsToken (s.solPhase n))

/-- The boost feed is connected: the holder is in BOOST, or in PEAK with PKFEED (R203). -/
def State.bankBoosted (s : State) (k : Nat) : Bool :=
  match s.bankHolder k with
  | some n => s.solPhase n = phBOOST || (s.solPhase n = phPEAK && (s.sch n).wave.pkfeed)
  | none => false

/-- A mask of the members of bank k that a test selects. -/
def State.bankMask (s : State) (k : Nat) (p : Nat → Bool) : Nat :=
  (s.bankMembers k).foldl (fun m n => if p n then m + 2 ^ (n % 4) else m) 0

/-- Bring the status of bank k up to date (Table 8-11). -/
def State.bankShow (s : State) (k : Nat) : State :=
  let s := s.setFld (bankF F.SOL_BANKSTAT_WAIT k) (s.bankMask k (fun n => s.solPhase n = phWAIT))
  let s := s.setFld (bankF F.SOL_BANKSTAT_ACTIVE k) (s.bankMask k s.solActive)
  let s := s.setBit (bankF F.SOL_BANKSTAT_FEED k) (s.bankBoosted k)
  let s := s.setBit (bankF F.SOL_BANKSTAT_TOKEN k) (s.bankHolder k).isSome
  match s.bankHolder k with
  | some n => s.setFld (bankF F.SOL_BANKSTAT_HOLDER k) (n % 4)
  | none => s

/-- The odd half of the pair of even channel n reads as the pair with SLAVE set (R205, R225); its phase is its own while its current
still decays (R208). -/
def State.solMirror (s : State) (n : Nat) : State :=
  if s.solPairs n then
    let d := n / 32
    let j := n % 32
    let s := if (s.sch (n + 1)).parting then s else s.setReg (R.SOL_CHSTAT d (j + 1)) (s.reg (R.SOL_CHSTAT d j))
    let s := s.setFld (F.SOL_CHSTAT_SLAVE d (j + 1)) 1
    let s := s.setReg (R.SOL_CHI d (j + 1)) (s.reg (R.SOL_CHI d j))
    let s := s.setReg (R.SOL_CHCMD d (j + 1)) (s.reg (R.SOL_CHCMD d j))
    let s := s.setReg (R.SOL_CMD d (j + 1)) (s.reg (R.SOL_CMD d j))
    s.setReg (R.SOL_CHSAFE d (j + 1)) (s.reg (R.SOL_CHSAFE d j))
  else s

/-- Bring the status of channel n, of its pair and of its bank up to date. -/
def State.solShow (s : State) (n : Nat) : State :=
  let s := s.setBit (solF F.SOL_CHSTAT_HELD n) (s.sch n).holder.isSome
  (s.solMirror (n - n % 2)).bankShow (n / 4)

/-- Set a flag of channel n, for a half of its pair, and of its unit (R224). -/
def State.solFlag (s : State) (ch : Nat → Nat → Fld) (unit : Nat → Fld) (n : Nat) : State :=
  (s.raiseBoth (solF ch (s.solUnit n)) (unit (n / 32)) (187 + n / 32)).solMirror (n - n % 2)

/-- Take channel n to a phase now. -/
def State.solTo (s : State) (n ph : Nat) : State :=
  ((s.setFld (solF F.SOL_CHSTAT_PHASE n) ph).setSch n { s.sch n with phaseAt := s.now }).solShow n

/-! ### Decay (R213) -/

/-- RECOVER carried out as FAST: RCV_FAST and the count. -/
def State.solRcvFast (s : State) (n : Nat) : State :=
  (s.solFlag F.SOL_CHSTAT_RCV_FAST F.SOL_STAT_RCV_FAST n).bump (F.SOL_RCVFCNT_COUNT (n / 32))

/-- Whether a RECOVER decay of channel n must run FAST: another channel of the bank is active, the converter is at
SETPT + 4 V or above, or it is not enabled. -/
def State.recoverFast (s : State) (n : Nat) : Bool :=
  let b := n / 16
  (s.bankMembers (n / 4)).any (fun m => m ≠ n && s.solActive m) ||
    decide (s.fld (bstF F.SOL_BSTCFG_SETPT b) * 50 + 400 ≤ s.fld (bstF F.SOL_BSTSTAT_VMEAS b)) ||
    !s.flag (bstF F.SOL_BSTCFG_EN b)

/-- A decay of channel n by a mode begins, in a phase: 0 SLOW, 1 FAST, 2 RECOVER (R213). -/
def State.solFall (s : State) (n mode ph : Nat) : State :=
  let fast := mode = 2 ∧ s.recoverFast n
  let s := s.setFld (solF F.SOL_CHSTAT_DECAY n) (if fast then 1 else mode)
  let s := if fast then s.solRcvFast n else s
  s.solTo n ph

/-- Channel n decays to zero by a mode. -/
def State.solDecay (s : State) (n mode : Nat) : State := s.solFall n mode phDECAY

/-- The decay mode that ends a phase (R211, R212): its own; FAST where an invalid profile's DEC_H is 3. -/
def Wave.decay (w : Wave) (ph : Nat) : Nat :=
  if ph = phBOOST then w.decB else if ph = phHOLD then (if w.decH = 3 then 1 else w.decH) else w.decP

/-- The peak of channel n is over: its current falls to the hold command by DEC_P (R212). -/
def State.solPeakOver (s : State) (n : Nat) : State := s.solFall n (s.sch n).wave.decP phPKDEC

/-- Channel n turns off as an off-edge turns it off (Table 8-7, R222). -/
def State.solOff (s : State) (n : Nat) : State :=
  let ph := s.solPhase n
  if ph = phWAIT then s.solTo n phOFF
  else if within phBOOST phHOLD ph then s.solDecay n ((s.sch n).wave.decay ph)
  else s

/-- Channel n turns off with FAST decay (R208, R220, R223). -/
def State.solOffFast (s : State) (n : Nat) : State :=
  let ph := s.solPhase n
  if ph = phWAIT then s.solTo n phOFF
  else if within phBOOST phDECAY ph then s.solDecay n 1
  else s

/-- Channel n becomes active: a RECOVER decay in progress in its bank runs FAST (R213). -/
def State.solWakeBank (s : State) (n : Nat) : State :=
  (s.bankMembers (n / 4)).foldl (fun s m =>
    if m ≠ n ∧ (s.solPhase m = phDECAY ∨ s.solPhase m = phPKDEC) ∧ s.fld (solF F.SOL_CHSTAT_DECAY m) = 2 then
      ((s.setFld (solF F.SOL_CHSTAT_DECAY m) 1).solRcvFast m).solShow m
    else s) s

/-! ### Bands and profiles (R211, R216) -/

/-- The temperature of channel n's source in 0.1 °C: the bank sensor or a SOL_TEXT; none at 0x8000. -/
def State.solTemp (s : State) (n : Nat) : Option Int :=
  let t := vTsrc (s.entry 1 n)
  let w := if t = 0 then s.fld (bankF F.SOL_BANKTEMP_TEMP (n / 4)) else s.fld (F.SOL_TEXT_TEMP (n / 32) (t - 1))
  if w = 0x8000 then none else some (sext 16 w)

/-- Boundary TBb of profile p of die d, in 0.1 °C. -/
def State.solTB (s : State) (d p b : Nat) : Int :=
  10 * (match b with
    | 1 => s.fldInt (F.SOL_PRFTH_TB1 d p)
    | 2 => s.fldInt (F.SOL_PRFTH_TB2 d p)
    | _ => s.fldInt (F.SOL_PRFTH_TB3 d p))

/-- The band rules of R216 applied until neither applies. -/
def State.bandStep (s : State) (d p : Nat) (t : Int) : Nat → Nat → Nat
  | 0, b => b
  | fuel + 1, b =>
    if b < s.fld (F.SOL_PRFCFG_NB d p) ∧ s.solTB d p (b + 1) ≤ t then State.bandStep s d p t fuel (b + 1)
    else if 0 < b ∧ t < s.solTB d p b - 30 then State.bandStep s d p t fuel (b - 1)
    else b

/-- The band a temperature gives without hysteresis. -/
def State.bandPlain (s : State) (d p : Nat) (t : Int) : Nat → Nat → Nat
  | 0, b => b
  | fuel + 1, b =>
    if b < s.fld (F.SOL_PRFCFG_NB d p) ∧ s.solTB d p (b + 1) ≤ t then State.bandPlain s d p t fuel (b + 1) else b

/-- The tracked band of channel n for a new waveform (R216). -/
def State.solBand (s : State) (n : Nat) : Nat :=
  let x := s.sch n
  if x.betaNew then
    match s.solTemp n with
    | some t => s.bandPlain (n / 32) (vProfile (s.entry 1 n)) t 4 0
    | none => x.beta
  else x.beta

/-- What a waveform of channel n latches now (R208, R211), with the checks of R211. -/
def State.solLatch (s : State) (n : Nat) : Wave :=
  let d := n / 32
  let e := s.entry 1 n
  let p := vProfile e
  let q := s.solBand n
  let nb := s.fld (F.SOL_PRFCFG_NB d p)
  let bsten := s.flag (F.SOL_PRFCFG_BSTEN d p)
  let tbmax := s.fld (F.SOL_PRFBMAX_T_BMAX d p)
  let decB := s.fld (F.SOL_PRFCFG_DEC_B d p)
  let decP := s.fld (F.SOL_PRFCFG_DEC_P d p)
  let decH := s.fld (F.SOL_PRFCFG_DEC_H d p)
  let shape := s.fld (F.SOL_PRFCFG_DSHAPE d p)
  let ip := s.fld (F.SOL_PRFPK_I_PEAK d p q)
  let tp := s.fld (F.SOL_PRFPK_T_PEAK d p q)
  let amp := s.fld (F.SOL_PRFDT_AMP d p q)
  let freq := s.fld (F.SOL_PRFDT_FREQ d p q)
  let bad := decB = 3 ∨ decP = 3 ∨ decH = 3 ∨ shape = 3 ∨ (bsten ∧ (tbmax = 0 ∨ ip = 0)) ∨ (tp ≠ 0 ∧ ip = 0) ∨
    12000 < ip ∨ 2000 < tp ∨ 600 < amp ∨ (amp ≠ 0 ∧ (freq < 25 ∨ 500 < freq)) ∨
    (2 ≤ nb ∧ s.solTB d p 2 ≤ s.solTB d p 1) ∨ (3 ≤ nb ∧ s.solTB d p 3 ≤ s.solTB d p 2)
  { prof := p, ok := !decide bad, bsten := bsten && !decide bad, pkfeed := s.flag (F.SOL_PRFCFG_PKFEED d p), tbmax := tbmax
    decB := decB, decP := decP, decH := decH, dshape := shape, band := q, ipeak := ip
    tpeak := if bad then 0 else tp, amp := if bad then 0 else amp, freq := freq, chop := vChop e }

/-! ### Waveforms and the bank token (R211, R212, R217, R218) -/

/-- Whether a waveform needs the token, the boost feed. -/
def Wave.needsToken (w : Wave) : Bool := w.bsten || decide (0 < w.tpeak)
def Wave.needsBoost (w : Wave) : Bool := w.bsten || (w.pkfeed && decide (0 < w.tpeak))

/-- READY of the converter that feeds channel n (R204). -/
def State.solBoostReady (s : State) (n : Nat) : Bool := s.flag (bstF F.SOL_BSTSTAT_READY (n / 16))

/-- Whether a request of channel n can start once the token is free (R217). -/
def State.solCanStart (s : State) (n : Nat) : Bool := !(s.sch n).wave.needsBoost || s.solBoostReady n

/-- A request of channel n needs its boost feed and finds it not READY (R218). -/
def State.solNotReady (s : State) (n : Nat) : State :=
  if s.solCanStart n then s else (s.setFld (solF F.SOL_CHSTAT_BST_NRDY n) 1).solShow n

/-- Grant the token to channel n: BOOST, or PEAK with BSTEN 0. -/
def State.solGrant (s : State) (n : Nat) : State := s.solTo n (if (s.sch n).wave.bsten then phBOOST else phPEAK)

/-- The deferral limit: HOLD without a peak (R217). -/
def State.solSkip (s : State) (n : Nat) : State :=
  ((s.solFlag F.SOL_CHSTAT_PEAK_SKIP F.SOL_STAT_PEAK_SKIP n).bump (F.SOL_SKIPCNT_COUNT (n / 32))).solTo n phHOLD

/-- A new waveform of channel n, its on-edge at te (R211, R217-R219). -/
def State.solStart (s : State) (n te : Nat) : State :=
  let w := s.solLatch n
  let s := s.setSch n { s.sch n with wave := w, te := te / 1000 * 1000, beta := w.band, betaNew := false }
  let s := s.setFld (solF F.SOL_CHSTAT_BAND n) w.band
  let s := if w.ok then s else
    (s.solFlag F.SOL_CHSTAT_PRF_ERR F.SOL_STAT_PRF_ERR n).event 0x0604 [w32 n, w32 w.prof]
  let s := s.solWakeBank n
  if !w.needsToken then s.solTo n phHOLD
  else if (s.bankHolder (n / 4)).isNone && s.solCanStart n then s.solGrant n
  else
    let s := s.solNotReady n
    if s.fld (bankF F.SOL_BANKCFG_DEFER (n / 4)) = 0 then s.solSkip n
    else (s.bump (F.SOL_DEFERCNT_COUNT (n / 32))).solTo n phWAIT

/-- Whether edges and commands act on channel n: a valid entry, EN, no FAULT, not shed, its die not cut, its stage not
high-impedance (R210, R219, R222, R463). -/
def State.solDrives (s : State) (n : Nat) : Bool :=
  s.solValid n && s.flag (F.SOL_CTL_EN (n / 32)) && s.solPhase n ≠ phFAULT && !(s.sch n).shed && s.cut (n / 32) = 0 && !s.hiZ 0 n

/-- Bring channel n to a level that its source holds: a new waveform from OFF or DECAY, or the off-edge (Table 8-7). -/
def State.solAct (s : State) (n : Nat) (on : Bool) (te : Nat) : State :=
  if !s.solDrives n then s.solShow n
  else if on then (if s.solPhase n = phOFF ∨ s.solPhase n = phDECAY then s.solStart n te else s.solShow n)
  else s.solOff n

/-- An edge reaches channel n (R219): recorded as its level, and acted on. -/
def State.solEdge (s : State) (n : Nat) (on : Bool) (te : Nat) : State :=
  (s.setBit (solF F.SOL_CHSTAT_LEVEL n) on).solAct n on te

/-! ### Dither (R214) -/

/-- A dither shape at a phase, in 2^-16 of a cycle, as a fraction of 2^30: 0 square, 1 triangle, 2 sine. The manual gives the shapes and
that they run between −1 and +1; that they begin upwards from 0, the square at +1, is the model's choice (log entry 34). -/
def ditherShape (shape φ : Nat) : Int :=
  match shape with
  | 0 => if φ < 32768 then 2 ^ 30 else -2 ^ 30
  | 1 => 2 ^ 16 * (if φ < 16384 then (φ : Int) else if φ < 49152 then 32768 - φ else φ - 65536)
  | _ => timesSin (2 ^ 30) ((φ : Int) * 6283185 / 65536)

/-- The current target of channel n in HOLD at an instant, in 2^-10 mA: the hold command and its dither, whose phase runs from the entry
into HOLD, within 0 and 4,000 mA, 8,000 mA for a pair; none in another phase (R214). -/
def State.solTarget (s : State) (n t : Nat) : Option Int :=
  let x := s.sch n
  let cmd := s.fld (solF F.SOL_CHCMD_CMD n)
  if s.solPhase n ≠ phHOLD then none
  else
    let φ := (t - x.phaseAt) * x.wave.freq * 65536 / 1000000000 % 65536
    let w : Int := if cmd = 0 then 0 else x.wave.amp * ditherShape x.wave.dshape φ / 2 ^ 20
    some (clampI 0 (1024 * (if s.solPairs n then 8000 else 4000)) (256 * cmd + w))

/-! ### Level and command (R209, R210) -/

/-- The hold command of channel n's source (Table 8-2). -/
def State.solSource (s : State) (n : Nat) : Nat :=
  let x := s.sch n
  if x.holder.isSome then
    match x.dest, x.rate with
    | some v, _ => v
    | none, some r => r
    | none, none => vHold (s.entry 1 n)
  else
    match x.dest, x.kept with
    | some v, _ => v
    | none, some v => v
    | none, none => s.fld (solF F.SOL_CMD_I n)

/-- The hold command in force: the source's, cut to I_MAX with CLAMPED (R209). -/
def State.solCommand (s : State) (n : Nat) : State :=
  if s.solValid n then
    let v := s.solSource n
    let m := vMax (s.entry 1 n)
    let s := s.setFld (solF F.SOL_CHCMD_CMD n) (min v m)
    (if m < v then s.solFlag F.SOL_CHSTAT_CLAMPED F.SOL_STAT_CLAMPED n else s).solShow n
  else (s.setFld (solF F.SOL_CHCMD_CMD n) 0).solShow n

/-- Record the effective safe state of channel n (R209). -/
def State.setSolSafe (s : State) (n : Nat) (ep on : Bool) (i : Nat) : State :=
  ((s.setBit (solF F.SOL_CHSAFE_SRC n) ep).setBit (solF F.SOL_CHSAFE_ON n) on).setFld (solF F.SOL_CHSAFE_I n) i

/-- The effective safe state is the entry's. -/
def State.solEntrySafe (s : State) (n : Nat) : State :=
  s.setSolSafe n false (vSafe (s.entry 1 n)) (vSafeI (s.entry 1 n))

/-- An endpoint takes channel n with a rate command, or the one of its loop, or none, and its safe state (R209). -/
def State.solHold (s : State) (n e : Nat) (rate dest : Option Nat) (safe : Bool) (safeRate : Option Nat) : State :=
  let s := s.setSch n { s.sch n with holder := some e, rate := rate, dest := dest, kept := none }
  let s := s.setSolSafe n true safe (match safeRate with | some r => r | none => vHold (s.entry 1 n))
  s.solCommand n

/-- The endpoint leaves channel n: it keeps the state applied (R210); its safe state is the entry's again. -/
def State.solRelease (s : State) (n : Nat) : State :=
  let s := s.setSch n { s.sch n with holder := none, rate := none, dest := none, kept := some (s.fld (solF F.SOL_CHCMD_CMD n)) }
  ((s.solEntrySafe n).solCommand n)

/-- The holding endpoint's rate command for channel n (R107). -/
def State.solRate (s : State) (n : Nat) (rate : Option Nat) : State :=
  (s.setSch n { s.sch n with rate := rate, dest := none }).solCommand n

/-- The magnitude of channel n where a loop sets it (Table 8-2). -/
def State.solMag (s : State) (n v : Nat) : State := (s.setSch n { s.sch n with dest := some v, kept := none }).solCommand n

/-- A Bridle destination names channel n, or no longer does: it then keeps its last level and command (R210). -/
def State.solName (s : State) (n : Nat) (named : Bool) : State :=
  let s := s.setBit (solF F.SOL_CHSTAT_DEST n) named
  let x := s.sch n
  let s := if named || x.holder.isSome then s
    else s.setSch n { x with dest := none, kept := some (s.fld (solF F.SOL_CHCMD_CMD n)) }
  s.solShow n

/-- A Bridle destination's command for channel n (Table 8-2): the magnitude, and, unless an endpoint holds it, the level. -/
def State.solDest (s : State) (n v : Nat) : State :=
  let s := s.solMag n v
  if (s.sch n).holder.isSome then s else s.solEdge n (decide (0 < v)) s.now

/-- Whether channel n has a channel diagnostic fault (R207). -/
def State.solFaulty (s : State) (n : Nat) : Bool := !s.solValid n || s.solPhase n = phFAULT

/-- A write of SOL_CMDj (R210): ignored with HELD_WR while held, named by a destination, or the odd half of a pair. -/
def State.takeSolCmd (s : State) (n : Nat) (w : Word) : State :=
  if (s.sch n).holder.isSome || s.flag (solF F.SOL_CHSTAT_DEST n) || s.solSlave n then
    s.solFlag F.SOL_CHSTAT_HELD_WR F.SOL_STAT_HELD_WR n
  else
    let s := s.writePlain (R.SOL_CMD (n / 32) (n % 32)) w
    let s := (s.setSch n { s.sch n with kept := none, dest := none }).solCommand n
    s.solEdge n (s.flag (solF F.SOL_CMD_ON n)) s.now

/-- A write of the CMD register by a master (R457, R463). -/
def State.writeSolCmd (s : State) (n : Nat) (w : Word) : State :=
  s.ownCmd 0 n (R.SOL_CMD (n / 32) (n % 32)) w (fun s => s.takeSolCmd n w)

/-- SOL_CMD_WRITE (R210). -/
def execSolCmdWrite (acc : Acc) (n : Fin 64) (value : Word) (s : State) : Out :=
  .next (s.guardWrite acc (R.SOL_CMD (n / 32) (n % 32)) (fun s => s.writeSolCmd n value))

/-- A write of SOL_CTL (R210): EN 0 turns every channel of the die off; EN 1 after 0 gives each channel with a valid
entry the level and command of its source. -/
def State.writeSolCtl (s : State) (d : Nat) (w : Word) : State :=
  let on := s.flag (F.SOL_CTL_EN d)
  let s := s.writePlain (R.SOL_CTL d) w
  match on, s.flag (F.SOL_CTL_EN d) with
  | true, false => (List.range 32).foldl (fun s j => s.solOff (32 * d + j)) s
  | false, true => (List.range 32).foldl (fun s j =>
      let n := 32 * d + j
      if s.solValid n then (s.solCommand n).solAct n (s.flag (solF F.SOL_CHSTAT_LEVEL n)) s.now else s) s
  | _, _ => s

/-- SOL_ENABLE (R210). -/
def execSolEnable (acc : Acc) (d : Fin 2) (value : Word) (s : State) : Out :=
  .next (s.guardWrite acc (R.SOL_CTL d) (fun s => s.writeSolCtl d value))

/-! ### Boost converters (R204) -/

/-- Whether an overvoltage keeps converter b from switching (R204). -/
def State.boostStopped (s : State) (b : Nat) : Bool := SMap.get (fun _ => false) s.sol.stopped b

/-- Stop converter b, or let it switch. -/
def State.setStopped (s : State) (b : Nat) (p : Bool) : State :=
  { s with sol := { s.sol with stopped := SMap.set (fun _ => false) s.sol.stopped b p } }

/-- The measured voltage of converter b, in 10 mV, and what follows from it: READY while EN is 1 and it is at or above
RDY % of SETPT; one that an overvoltage stopped switches again once it has fallen to SETPT. -/
def State.boostVolt (s : State) (b v : Nat) : State :=
  let s := s.setFld (bstF F.SOL_BSTSTAT_VMEAS b) v
  let s := if s.boostStopped b && decide (v ≤ 50 * s.fld (bstF F.SOL_BSTCFG_SETPT b)) then s.setStopped b false else s
  s.setBit (bstF F.SOL_BSTSTAT_READY b) (s.flag (bstF F.SOL_BSTCFG_EN b) &&
    decide (s.fld (bstF F.SOL_BSTCFG_RDY b) * s.fld (bstF F.SOL_BSTCFG_SETPT b) * 50 ≤ 100 * v))

/-- A write of SOL_BSTCFGb: ignored with CONFIG where SETPT lies outside 48 to 120. -/
def State.writeBstCfg (s : State) (b : Nat) (w : Word) : State :=
  let a := R.SOL_BSTCFG (b / 2) (b % 2)
  let new := writtenWord a (s.locked a) (s.reg a) w
  if within 48 120 ((bstF F.SOL_BSTCFG_SETPT b).get new) then
    let s := s.setReg a new
    s.boostVolt b (s.fld (bstF F.SOL_BSTSTAT_VMEAS b))
  else s.raiseFlag (F.SOL_STAT_CONFIG (b / 2)) (187 + b / 2)

/-- BOOST_ENABLE (R204): EN 1 with the other bits as given. -/
def execBoostEnable (acc : Acc) (b : Fin 4) (value : Word) (s : State) : Out :=
  .next (s.guardWrite acc (R.SOL_BSTCFG (b / 2) (b % 2)) (fun s => s.writeBstCfg b (value ||| 1)))

/-- BOOST_UV (R204): converter b, measured at v in 10 mV, has stayed below 80 % of SETPT for `ms`, at least 10, with EN 1. -/
def execBoostUv (b : Fin 4) (v : BitVec 16) (ms : BitVec 16) (s : State) : Out :=
  if s.part.hasSol (16 * b) then
    let s := s.boostVolt b v.toNat
    if s.flag (bstF F.SOL_BSTCFG_EN b) && decide (v.toNat < 40 * s.fld (bstF F.SOL_BSTCFG_SETPT b)) && decide (10 ≤ ms.toNat) then
      .next ((s.setFld (bstF F.SOL_BSTSTAT_UV b) 1).raiseFlag (F.SOL_STAT_BST_FAULT (b / 2)) (187 + b / 2))
    else .next s
  else .next s

/-- SOL_BOOST_FAULT (R204): converter b, measured at v in 10 mV, has reached SETPT + 8 V or 63 V, whichever is lower: OV, the event;
it stops switching until the voltage falls to SETPT. -/
def execSolBoostFault (b : Fin 4) (v : BitVec 16) (s : State) : Out :=
  if s.part.hasSol (16 * b) then
    let s := s.boostVolt b v.toNat
    if !s.boostStopped b && decide (min (50 * s.fld (bstF F.SOL_BSTCFG_SETPT b) + 800) 6300 ≤ v.toNat) then
      let s := s.setStopped b true
      .next (((s.setFld (bstF F.SOL_BSTSTAT_OV b) 1).raiseFlag (F.SOL_STAT_BST_FAULT (b / 2)) (187 + b / 2)).event 0x0603 [])
    else .next s
  else .next s

/-! ### Phases. The odd half of a pair has none of its own (R205). -/

/-- The waiting requests of bank k that can start, the earliest te first, then the lowest channel (R217). -/
def State.bankNext (s : State) (k : Nat) : Option Nat :=
  (s.bankMembers k).foldl (fun best n =>
    if s.solPhase n = phWAIT && s.solCanStart n then
      match best with
      | some m => if (s.sch n).te < (s.sch m).te then some n else best
      | none => some n
    else best) none

/-- TOKEN_GRANT (R217, R218): bank k, its converter measured at v in 10 mV. -/
def execTokenGrant (k : Fin 16) (v : BitVec 16) (s : State) : Out :=
  if s.part.hasSol (4 * k) then
    let s := s.boostVolt (k / 4) v.toNat
    let s := (s.bankMembers k).foldl (fun s n => if s.solPhase n = phWAIT then s.solNotReady n else s) s
    match s.bankHolder k, s.bankNext k with
    | none, some n => .next (s.solGrant n)
    | _, _ => .next s
  else .next s

/-- PEAK_SKIP (R217): DEFER µs after its on-edge a request still waits. -/
def execPeakSkip (n : Fin 64) (s : State) : Out :=
  if s.solPhase n = phWAIT ∧ !s.solSlave n ∧ s.elapsed (s.sch n).te (1000 * s.fld (bankF F.SOL_BANKCFG_DEFER (n / 4))) then .next (s.solSkip n)
  else .next s

/-- BOOST_END (R212): the current of channel n has reached I_PEAK. -/
def execBoostEnd (n : Fin 64) (s : State) : Out :=
  if s.solPhase n = phBOOST ∧ !s.solSlave n then .next (if (s.sch n).wave.tpeak = 0 then s.solPeakOver n else s.solTo n phPEAK) else .next s

/-- BOOST_TO (R212): T_BMAX has elapsed in BOOST: PEAK with the flag. -/
def execBoostTo (n : Fin 64) (s : State) : Out :=
  let x := s.sch n
  if s.solPhase n = phBOOST ∧ !s.solSlave n ∧ s.elapsed x.phaseAt (1000 * x.wave.tbmax) then
    .next ((s.solFlag F.SOL_CHSTAT_BOOST_TO F.SOL_STAT_BOOST_TO n).solTo n phPEAK)
  else .next s

/-- PEAK_END (R212): T_PEAK has elapsed. -/
def execPeakEnd (n : Fin 64) (s : State) : Out :=
  let x := s.sch n
  if s.solPhase n = phPEAK ∧ !s.solSlave n ∧ s.elapsed x.phaseAt (1000 * x.wave.tpeak) then .next (s.solPeakOver n) else .next s

/-- HOLD_ENTRY (R212): the current of channel n has fallen to the hold command; the token is released. -/
def execHoldEntry (n : Fin 64) (s : State) : Out :=
  if s.solPhase n = phPKDEC ∧ !s.solSlave n then .next (s.solTo n phHOLD) else .next s

/-- DECAY_END (R212): the current of channel n has reached zero; the odd half of a new pair is then part of it (R208). -/
def execDecayEnd (n : Fin 64) (s : State) : Out :=
  if s.solPhase n = phDECAY ∧ !s.solHalf n then .next ((s.setSch n { s.sch n with parting := false }).solTo n phOFF) else .next s

/-- BAND_EVAL (R216): every 10 ms, with the readings of the bank sensors, channel currents (0.25 mA) and converter
voltages (10 mV) of die d: every channel updates its tracked band. -/
def execBandEval (d : Fin 2) (temps : List (Fin 8 × BitVec 16)) (currents : List (Fin 32 × BitVec 16))
    (volts : List (Fin 2 × BitVec 16)) (s : State) : Out :=
  let last := SMap.get (fun _ => 0) s.sol.bandAt d
  if s.part.hasSol (32 * d) && s.due last 10000000 then
    let s : State := { s with sol := { s.sol with bandAt := SMap.set (fun _ => 0) s.sol.bandAt d (s.now / 10000000 * 10000000) } }
    let s := temps.foldl (fun s x => s.setFld (F.SOL_BANKTEMP_TEMP d x.1) x.2.toNat) s
    let s := volts.foldl (fun s x => s.boostVolt (2 * d + x.1) x.2.toNat) s
    let s := currents.foldl (fun s x => (s.setFld (F.SOL_CHI_IMEAS d x.1) x.2.toNat).solShow (32 * d + x.1)) s
    .next ((List.range 32).foldl (fun s j =>
      let n := 32 * d.val + j
      match s.solValid n, s.solTemp n with
      | true, some t => s.setSch n { s.sch n with beta := s.bandStep d (vProfile (s.entry 1 n)) t 8 (s.sch n).beta }
      | _, _ => s) s)
  else .next s

/-! ### Diagnostics (R220, R221) -/

/-- FCAUSE codes and the flag of each: SHORT, OT, BANK, OPEN. -/
def solCauseFlag (c : Nat) : Nat → Nat → Fld :=
  match c with
  | 1 => F.SOL_CHSTAT_SHORT
  | 2 => F.SOL_CHSTAT_OT
  | 3 => F.SOL_CHSTAT_BANK
  | _ => F.SOL_CHSTAT_OPEN

/-- Channel n enters FAULT with a cause; the token, if it held it, is free (R220). -/
def State.solEnterFault (s : State) (n c : Nat) : State :=
  let s := (s.setFld (solF (solCauseFlag c) n) 1).setFld (solF F.SOL_CHSTAT_FCAUSE n) c
  (s.raiseFlag (F.SOL_STAT_FAULT (n / 32)) (187 + n / 32)).solTo n phFAULT

/-- SOL_FAULT (R220): SHORT in any phase, OT, or OPEN: in HOLD at 100 mA or more with no current for 2 ms, or in OFF with
OPENCHK for 10 ms; `us` is how long the condition has lasted. Of a pair's half it is the pair's (R205). -/
def execSolFault (half : Fin 64) (cause : Fin 3) (us : BitVec 32) (s : State) : Out :=
  let n := s.solUnit half
  let ph := s.solPhase n
  let c : Nat := if cause.val = 0 then 1 else if cause.val = 1 then 2 else 4
  let open_ := s.solValid n ∧ ((ph = phHOLD ∧ 400 ≤ s.fld (solF F.SOL_CHCMD_CMD n) ∧ 2000 ≤ us.toNat) ∨
    (ph = phOFF ∧ vOpenchk (s.entry 1 n) ∧ 10000 ≤ us.toNat ∧ s.offTest 0 n))
  if s.part.hasSol n && ph ≠ phFAULT && s.cut (n / 32) ≠ 2 && (c ≠ 4 || decide open_) then
    .next ((s.solEnterFault n c).event 0x0601 [w32 n, w32 c])
  else .next s

/-- SOL_BANK_FAULT (R220): the high-side switch of bank k, closed while a channel is active, carries more than its
threshold: BANK in all four channels, BANK_SHORT, the event once. -/
def execSolBankFault (k : Fin 16) (s : State) : Out :=
  if (s.bankMembers k).any s.solActive && s.cut (k / 8) ≠ 2 then
    let s := (s.bankMembers k).foldl (fun s n => s.solEnterFault n 3) s
    let s := (s.setFld (bankF F.SOL_BANKSTAT_BANK_SHORT k) 1).raiseFlag (F.SOL_STAT_BANK_FAULT (k / 8)) (187 + k / 8)
    .next (s.event 0x0602 [w32 k.val])
  else .next s

/-- SOL_REG_ERR (R220): in HOLD the error, in 0.25 mA, has been above REG_TOL for `ms`, at least REG_T. -/
def execSolRegErr (n : Fin 64) (err : BitVec 16) (ms : BitVec 16) (s : State) : Out :=
  let e := s.entry 1 n
  if s.solValid n && s.solPhase n = phHOLD && vRegTol e ≠ 0 && decide (vRegTol e < err.toNat) && decide (vRegT e ≤ ms.toNat) then
    .next ((s.solFlag F.SOL_CHSTAT_REG_ERR F.SOL_STAT_REG_ERR n).solShow n)
  else .next s

/-- The flag that FCAUSE of channel n names, as a bit of SOL_CHSTATj. -/
def State.solCauseBit (s : State) (n : Nat) : Word :=
  match s.fld (solF F.SOL_CHSTAT_FCAUSE n) with
  | 1 => 0x10000
  | 2 => 0x20000
  | 3 => 0x40000
  | 4 => 0x80000
  | _ => 0

/-- Release channel n from FAULT to OFF. -/
def State.solFree (s : State) (n : Nat) : State := (s.setFld (solF F.SOL_CHSTAT_FCAUSE n) 0).solTo n phOFF

/-- Release what W1C writes have freed in bank k (R221): a BANK fault only when all its channels have BANK cleared. -/
def State.bankFree (s : State) (k : Nat) : State :=
  if (s.bankMembers k).any (fun n => s.fld (solF F.SOL_CHSTAT_FCAUSE n) = 3 && s.flag (solF F.SOL_CHSTAT_BANK n)) then s
  else (s.bankMembers k).foldl (fun s n => if s.fld (solF F.SOL_CHSTAT_FCAUSE n) = 3 then s.solFree n else s) s

/-- The shed channels of a die, most recent first: 0 to 47 load switches, 64 to 95 solenoids. -/
def State.shedList (s : State) (d : Nat) : List Nat := SMap.get (fun _ => []) s.lsw.shed d

/-- Replace the shed channels of a die. -/
def State.setShedList (s : State) (d : Nat) (l : List Nat) : State :=
  { s with lsw := { s.lsw with shed := SMap.set (fun _ => []) s.lsw.shed d l } }

/-- The supply pin groups of a local load (Table 9-2), by the numbers of the shed list. -/
def groupsOf (x : Nat) : List Nat :=
  if x < 32 then [x / 8]
  else if x < 44 then [(x - 32) / 3]
  else if x = 44 then [0, 1]
  else if x = 45 then [1, 2]
  else if x = 46 then [2, 3]
  else if x = 47 then [0, 3]
  else [(x - 64) / 8]

/-- NSHED of every group of a die. -/
def State.shedShow (s : State) (d : Nat) : State :=
  [0, 1, 2, 3].foldl (fun s g =>
    s.setFld (F.LSW_GRPSTAT_NSHED d g) ((s.shedList d).filter (fun x => (groupsOf x).contains g)).length) s

/-- Take a local load from the shed list. -/
def State.unlist (s : State) (d x : Nat) : State := (s.setShedList d ((s.shedList d).filter (· ≠ x))).shedShow d

/-- A shed solenoid channel returns (R244): the level and command of its source; a waveform if ON. -/
def State.solUnshed (s : State) (n : Nat) : State :=
  if (s.sch n).shed then
    let s := (s.setSch n { s.sch n with shed := false }).unlist (n / 32) (64 + n % 32)
    (s.solCommand n).solAct n (s.flag (solF F.SOL_CHSTAT_LEVEL n)) s.now
  else s

/-- A solenoid channel is shed: off as by an off-edge, SHED (R222, R242). -/
def State.solShed (s : State) (n : Nat) : State :=
  (((s.solOff n).setSch n { (s.solOff n).sch n with shed := true }).setFld (solF F.SOL_CHSTAT_SHED n) 1).solShow n

/-- A write of SOL_CHSTATj: its W1C flags; the flag FCAUSE names releases FAULT; SHED returns a shed channel (R221, R244). -/
def State.writeSolChstat (s : State) (n : Nat) (w : Word) : State :=
  let n := if s.solSlave n then n - 1 else n
  let c := s.fld (solF F.SOL_CHSTAT_FCAUSE n)
  let b := s.solCauseBit n
  let shed := w &&& 0x10000000 ≠ 0
  let s := (s.writePlain (R.SOL_CHSTAT (n / 32) (n % 32)) w).solShow n
  let s := if b ≠ 0 ∧ w &&& b ≠ 0 then (if c = 3 then s.bankFree (n / 4) else s.solFree n) else s
  if shed then s.solUnshed n else s

/-- SOL_FAULT_RELEASE (R221): 1 written to the flag that FCAUSE names. -/
def execSolFaultRelease (acc : Acc) (n : Fin 64) (s : State) : Out :=
  .next (s.guardWrite acc (R.SOL_CHSTAT (n / 32) (n % 32)) (fun s => s.writeSolChstat n (s.solCauseBit n)))

/-! ### Entries, profiles, resets -/

/-- A change of NB or a boundary resets the band of the profile's channels at their next waveform (R216). -/
def State.writePrf (s : State) (d p a : Nat) (w : Word) : State :=
  let look (s : State) : Nat × Int × Int × Int := (s.fld (F.SOL_PRFCFG_NB d p), s.solTB d p 1, s.solTB d p 2, s.solTB d p 3)
  let old := look s
  let s := s.writePlain a w
  if look s = old then s
  else (List.range 32).foldl (fun s j =>
    let n := 32 * d + j
    if s.hasEntry 1 n && vProfile (s.entry 1 n) = p then s.setSch n { s.sch n with betaNew := true } else s) s

/-- Whether old entry bytes of even channel n made a pair. -/
def pairedBy (n : Nat) (old : List Byte) : Bool := n % 2 = 0 && old ≠ [] && field old 0 2 ≠ 0 && vPair old

/-- Channel n's entry is not valid: CONFIG and the event (R207). -/
def State.solBad (s : State) (n : Nat) : State :=
  (s.solFlag F.SOL_CHSTAT_CONFIG F.SOL_STAT_CONFIG n).event 0x0605 [w32 n]

/-- Even channel n now forms a pair, or no longer does (R205, R207, R208): both halves turn off with FAST decay, the odd one on its own
while its current lasts; an odd entry that is not empty is no longer valid; a FAULT of the odd half becomes the pair's (log entry 34). -/
def State.solRepair (s : State) (n : Nat) : State :=
  let o := n + 1
  if s.solPairs n then
    let s := s.setSch o { s.sch o with parting := true, shed := false }
    let c := s.fld (solF F.SOL_CHSTAT_FCAUSE o)
    let s := (s.solOffFast n).solOffFast o
    let s := if s.solPhase o = phDECAY then s else s.setSch o { s.sch o with parting := false }
    let s := if s.solPhase o = phFAULT ∧ s.solPhase n ≠ phFAULT then
        ((s.setFld (solF (solCauseFlag c) n) 1).setFld (solF F.SOL_CHSTAT_FCAUSE n) c).solTo n phFAULT
      else s.solShow n
    if s.hasEntry 1 o then s.solBad o else s
  else
    let s := s.setSch o { s.sch o with parting := false, wave := (s.sch n).wave }
    let s := s.setFld (solF F.SOL_CHSTAT_SLAVE o) 0
    let s := (s.solOffFast n).solOffFast o
    (if (s.sch o).holder.isNone then s.solEntrySafe o else s).solCommand o

/-- An entry of the SOL table has been accepted over an old copy (R205, R207, R208). -/
def State.acceptSol (s : State) (n : Nat) (old : List Byte) : State :=
  let e := s.entry 1 n
  let was := s.solOk n old
  let s := if n % 2 = 0 ∧ pairedBy n old ≠ s.solPairs n then s.solRepair n
    else if n % 2 = 1 ∧ old ≠ [] ∧ vPair old ≠ vPair e then (s.solOffFast (n - 1)).solOffFast n
    else s
  let s := if (s.sch n).holder.isNone then s.solEntrySafe n else s
  if s.solValid n then
    let s := s.solCommand n
    if was ∧ pairedBy n old = s.solPairs n then s else if was then s.solShow n
    else s.solAct n (s.flag (solF F.SOL_CHSTAT_LEVEL n)) s.now
  else
    let s := s.solOffFast n
    let s := if s.hasEntry 1 n then s.solBad n else s
    s.solCommand n

/-- A register write in the SOL window of die d. -/
def State.writeSol (s : State) (a : Nat) (w : Word) : State :=
  let d := (a - R.SOL_CTL 0) / 0x100000
  if a = R.SOL_CTL d then s.writeSolCtl d w
  else if a = R.SOL_BSTCFG d 0 then s.writeBstCfg (2 * d) w
  else if a = R.SOL_BSTCFG d 1 then s.writeBstCfg (2 * d + 1) w
  else if R.SOL_PRFCFG d 0 ≤ a ∧ a < R.SOL_PRFCFG d 16 then s.writePrf d ((a - R.SOL_PRFCFG d 0) / 0x20) a w
  else if R.SOL_CHSTAT d 0 ≤ a ∧ a < R.SOL_CHSTAT d 32 then
    let n := 32 * d + (a - R.SOL_CHSTAT d 0) / 0x20
    match (a - R.SOL_CHSTAT d 0) % 0x20 with
    | 0 => s.writeSolChstat n w
    | 0xC => s.writeSolCmd n w
    | _ => s.writePlain a w
  else s.writePlain a w

/-- What an RTX reset does to the channels of a die (Table 8-8): the effective safe state, SOL_CMDj cleared, endpoints
and destinations gone. -/
def State.solSafeAll (s : State) (d : Nat) : State :=
  (List.range 32).foldl (fun s j =>
    let n := 32 * d + j
    let s := s.setReg (R.SOL_CMD d j) 0
    if s.solSlave n then s
    else
      let on := s.flag (solF F.SOL_CHSAFE_ON n)
      let i := s.fld (solF F.SOL_CHSAFE_I n)
      let s := s.setSch n { s.sch n with holder := none, rate := none, dest := none, kept := some i }
      let s := (s.setBit (solF F.SOL_CHSTAT_DEST n) false).solEntrySafe n
      (s.solCommand n).solEdge n on s.now) s

/-- Heartbeat loss, or a cut of the die's supply: every channel off with FAST decay, every converter stopped (Table 8-8). -/
def State.solSilence (s : State) (d : Nat) : State :=
  let s := (List.range 32).foldl (fun s j => s.solOffFast (32 * d + j)) s
  [0, 1].foldl (fun s b => (s.setFld (F.SOL_BSTCFG_EN d b) 0).setFld (F.SOL_BSTSTAT_READY d b) 0) s

end Sys2Proof.Machine
end

