-- ==== Sys2Proof/Machine/Lsw.lean ====
section
/-! DEFINITION. The protected load-switch channels (09_load_switches.md). Channels are numbered 0 to 95; channel n lies
on die n / 48 as local channel n % 48, in cluster n / 8. Duties are in 0.01 % steps. -/

namespace Sys2Proof.Machine

/-- Channel n beside its registers. -/
def State.lch (s : State) (n : Nat) : LCh := SMap.get (fun _ => LCh.init) s.lsw.chs n

/-- Replace channel n. -/
def State.setLch (s : State) (n : Nat) (x : LCh) : State :=
  { s with lsw := { s.lsw with chs := SMap.set (fun _ => LCh.init) s.lsw.chs n x } }

/-- A field of channel n. -/
def lswF (f : Nat → Nat → Fld) (n : Nat) : Fld := f (n / 48) (n % 48)

/-- Fields of an LSW entry (Table 9-3). -/
def hSafe (e : List Byte) : Bool := field e 2 1 % 2 = 1
def hPwmf (e : List Byte) : Nat := field e 2 1 / 2 % 4
def hVcomp (e : List Byte) : Bool := field e 2 1 / 8 % 2 = 1
def hOlmode (e : List Byte) : Nat := field e 2 1 / 16 % 4
def hOloff (e : List Byte) : Bool := field e 2 1 / 64 % 2 = 1
def hRetry (e : List Byte) : Nat := field e 3 1 % 8
def hShed (e : List Byte) : Nat := field e 3 1 / 8 % 16
def hDuty (e : List Byte) : Nat := field e 4 2
def hSafeDuty (e : List Byte) : Nat := field e 6 2
def hLim (e : List Byte) : Nat := field e 8 2
def hInr (e : List Byte) : Nat := field e 10 2
def hTinr (e : List Byte) : Nat := field e 12 2
def hOlth (e : List Byte) : Nat := field e 14 2
def hRspace (e : List Byte) : Nat := field e 16 2
def hVnom (e : List Byte) : Nat := field e 18 2

/-- Whether the module has channel n (R226). -/
def Part.hasHs (p : Part) (n : Nat) : Bool := n < 48 || (n < 96 && p.hasP1)

/-- The class maxima of I_LIM and I_INR, in 10 mA, by local index (Tables 9-1, 9-6). -/
def hsMax (j : Nat) : Nat × Nat := if j < 32 then (900, 2000) else if j < 44 then (1800, 4000) else (3750, 8000)

/-- Whether entry bytes are valid for channel n (R229). -/
def State.lswOk (s : State) (n : Nat) (e : List Byte) : Bool :=
  let m := hsMax (n % 48)
  let ol := hOlmode e
  e ≠ [] && field e 0 2 ≠ 0 && s.part.hasHs n && ol ≠ 3 && field e 2 1 / 128 = 0 && field e 3 1 / 128 = 0 &&
    field e 20 4 = 0 && field e 28 2 = 0 && hDuty e ≤ 10000 && hSafeDuty e ≤ 10000 && hLim e ≠ 0 && hLim e ≤ m.1 &&
    (hTinr e = 0 || (hLim e ≤ hInr e && hInr e ≤ m.2)) && hTinr e ≤ 400 &&
    (ol = 0 || within 4 (if ol = 2 then 80 else 200) (hOlth e)) && (hRetry e = 0 || within 10 1000 (hRspace e)) &&
    (!hVcomp e || within 60 360 (hVnom e))

/-- Whether channel n has a valid accepted entry. -/
def State.lswValid (s : State) (n : Nat) : Bool := s.lswOk n (s.entry 2 n)

/-- States of Table 9-5. -/
def lsOFF : Nat := 0
def lsINRUSH : Nat := 1
def lsON : Nat := 2
def lsRETRY : Nat := 3
def lsFAULT : Nat := 4
def lsSHED : Nat := 5
def lsTHERM : Nat := 6

/-- STATE of channel n, and whether its switch is on. -/
def State.lswState (s : State) (n : Nat) : Nat := s.fld (lswF F.LSW_CHSTAT_STATE n)
def State.lswOn (s : State) (n : Nat) : Bool := s.lswState n = lsINRUSH || s.lswState n = lsON

/-- Take channel n to a state. -/
def State.lswTo (s : State) (n st : Nat) : State :=
  let s := s.setFld (lswF F.LSW_CHSTAT_STATE n) st
  let s := if st = lsINRUSH ∨ st = lsON then s else s.setFld (lswF F.LSW_CHSTAT_LIMITING n) 0
  s.setBit (lswF F.LSW_CHSTAT_HELD n) (s.lch n).holder.isSome

/-- Set a flag of channel n and of its unit (R247). -/
def State.lswFlag (s : State) (ch : Nat → Nat → Fld) (unit : Nat → Fld) (n : Nat) : State :=
  s.raiseBoth (lswF ch n) (unit (n / 48)) (189 + n / 48)

/-! ### Duty (R231-R233) -/

/-- The duty of channel n's source (Table 9-4). -/
def State.lswSource (s : State) (n : Nat) : Nat :=
  let x := s.lch n
  if x.holder.isSome then
    match x.dest, x.rate with
    | some v, _ => v
    | none, some r => r
    | none, none => hDuty (s.entry 2 n)
  else
    match x.dest, x.kept with
    | some v, _ => v
    | none, some v => v
    | none, none => s.fld (lswF F.LSW_CMD_DUTY n)

/-- A quotient rounded to the nearest whole number, halves up. -/
def roundDiv (a b : Nat) : Nat := (2 * a + b) / (2 * b)

/-- The filtered supply voltage of group g of die d, in 2^-16 of 10 mV, as last measured (R233). -/
def State.lswVs (s : State) (d g : Nat) : Nat :=
  match SMap.get (fun _ => none) s.lsw.vs (4 * d + g) with
  | some (v, _) => v
  | none => 0

/-- Group g of die d is measured at v in 10 mV: VMEAS, and the filter with its 10 ms time constant, which moves by the fraction
Δt ÷ (10 ms + Δt) of the difference (R233, log entry 35). -/
def State.groupVolt (s : State) (d g v : Nat) : State :=
  let s := s.setFld (F.LSW_GRPV_VMEAS d g) v
  let x : Int := v * 65536
  let f : Int := match SMap.get (fun _ => none) s.lsw.vs (4 * d + g) with
    | some (f, t) => f + (x - f) * ((s.now - t : Nat) : Int) / (10000000 + (s.now - t : Nat))
    | none => x
  { s with lsw := { s.lsw with vs := SMap.set (fun _ => none) s.lsw.vs (4 * d + g) (some (f.toNat, s.now)) } }

/-- The duty applied (R233): with VCOMP duty × (VNOM ÷ Vs)², at most 10,000; Vs of the channel's first group. -/
def State.lswApplied (s : State) (n duty : Nat) : Nat × Bool :=
  let e := s.entry 2 n
  if hVcomp e then
    let vs := s.lswVs (n / 48) ((groupsOf (n % 48)).headD 0)
    let vn := 655360 * hVnom e
    if duty = 0 then (0, false)
    else if vs = 0 then (10000, true)
    else
      let x := roundDiv (duty * vn * vn) (vs * vs)
      (min 10000 x, decide (10000 < x))
  else (duty, false)

/-- The period of PWMF in ns (Table 9-3). -/
def pwmPeriod (f : Nat) : Nat :=
  match f with
  | 0 => 10000000
  | 1 => 5000000
  | 2 => 2500000
  | _ => 1000000

/-- The start of channel n's next PWM period after an instant (R232). -/
def LCh.nextPeriod (x : LCh) (t : Nat) : Nat :=
  if t < x.phase then x.phase else x.phase + ((t - x.phase) / pwmPeriod x.pwmf + 1) * pwmPeriod x.pwmf

/-- What waited for a PWM period of channel n that has begun by now takes effect: its duty, the entry's safe duty (R230, R232). -/
def State.lswSettle (s : State) (n : Nat) : State :=
  let x := s.lch n
  let s := match x.next with
    | some (t, v) => if t ≤ s.now then (s.setFld (lswF F.LSW_CHDUTY_DUTY n) v).setLch n { s.lch n with next := none } else s
    | none => s
  match x.old with
  | some (t, _) =>
    if t ≤ s.now then
      let s := s.setLch n { s.lch n with old := none }
      if x.holder.isNone then s.setFld (lswF F.LSW_CHSAFE_DUTY n) (hSafeDuty (s.entry 2 n)) else s
    else s
  | none => s

/-- The entry of channel n whose OLMODE, OL_TH, OLOFF and SHED are in force: the last accepted one from the next PWM period on (R230). -/
def State.lswEntry (s : State) (n : Nat) : List Byte :=
  match (s.lch n).old with
  | some (t, e) => if t ≤ s.now then s.entry 2 n else e
  | none => s.entry 2 n

/-- The duty in force: the source's, cut at 10,000 with CLAMPED, compensated with COMP_SAT where the minimum acts. A channel that is on
takes it at the start of its next PWM period, one that is off at once (R232). -/
def State.lswDuty (s : State) (n : Nat) : State :=
  let s := s.lswSettle n
  if s.lswValid n then
    let v := s.lswSource n
    let s := if 10000 < v then s.setFld (lswF F.LSW_CHSTAT_CLAMPED n) 1 else s
    let (a, sat) := s.lswApplied n (min v 10000)
    let x := s.lch n
    let s := if s.lswOn n then
        s.setLch n { x with next := if a = s.fld (lswF F.LSW_CHDUTY_DUTY n) then none else some (x.nextPeriod s.now, a) }
      else (s.setFld (lswF F.LSW_CHDUTY_DUTY n) a).setLch n { x with next := none }
    if sat then s.lswFlag F.LSW_CHSTAT_COMP_SAT F.LSW_STAT_COMP_SAT n else s
  else (s.setFld (lswF F.LSW_CHDUTY_DUTY n) 0).setLch n { s.lch n with next := none }

/-- Whether the switch of channel n conducts at an instant: on, in the on-phase of its PWM period (R232). -/
def State.lswConducts (s : State) (n t : Nat) : Bool :=
  let x := s.lch n
  let per := pwmPeriod x.pwmf
  let duty := match x.next with
    | some (u, v) => if u ≤ t then v else s.fld (lswF F.LSW_CHDUTY_DUTY n)
    | none => s.fld (lswF F.LSW_CHDUTY_DUTY n)
  s.lswOn n && decide ((t + per - x.phase % per) % per * 10000 < per * duty)

/-! ### Edges (R232, R234, R239) -/

/-- Channel n starts as at an on-edge at te: its entry's limits latched, a fresh window, a fresh PWM period with its on-phase at the
edge; during stage 1 the window's limit is I_LIM (R230, R232, R240). -/
def State.lswStart (s : State) (n te : Nat) : State :=
  let e := s.entry 2 n
  let hot := s.fld (F.LSW_CLSTAT_STAGE (n / 48) (n % 48 / 8)) ≠ 0
  let s := s.setLch n { s.lch n with
    iLim := hLim e, iInr := hInr e, tInr := hTinr e, retry := hRetry e, rspace := hRspace e, startAt := te, phase := te, pwmf := hPwmf e
    hot := decide hot && decide (0 < hTinr e) }
  (s.lswDuty n).lswTo n (if 0 < hTinr e then lsINRUSH else lsON)

/-- Whether edges and commands act on channel n. -/
def State.lswDrives (s : State) (n : Nat) : Bool :=
  s.lswValid n && s.flag (F.LSW_CTL_EN (n / 48)) && s.cut (n / 48) = 0 && s.lswState n < lsFAULT && !s.hiZ 1 n

/-- Bring channel n to a level that its source holds (Table 9-5). -/
def State.lswAct (s : State) (n : Nat) (on : Bool) (te : Nat) : State :=
  if !s.lswDrives n then s
  else if on then (if s.lswState n = lsOFF then s.lswStart n te else s)
  else s.lswTo n lsOFF

/-- An edge of te reaches channel n (R239): recorded as its level, and acted on. -/
def State.lswEdge (s : State) (n : Nat) (on : Bool) (te : Nat) : State :=
  (s.setBit (lswF F.LSW_CHSTAT_LEVEL n) on).lswAct n on te

/-- Record the effective safe state of channel n (R231). -/
def State.setLswSafe (s : State) (n : Nat) (ep on : Bool) (duty : Nat) : State :=
  ((s.setBit (lswF F.LSW_CHSAFE_SRC n) ep).setBit (lswF F.LSW_CHSAFE_ON n) on).setFld (lswF F.LSW_CHSAFE_DUTY n) duty

/-- The effective safe state is the entry's. -/
def State.lswEntrySafe (s : State) (n : Nat) : State :=
  s.setLswSafe n false (hSafe (s.entry 2 n)) (hSafeDuty (s.entry 2 n))

/-- An endpoint takes channel n with a rate command, or the one of its loop, or none, and its safe state (R231). -/
def State.lswHold (s : State) (n e : Nat) (rate dest : Option Nat) (safe : Bool) (safeRate : Option Nat) : State :=
  let s := s.setLch n { s.lch n with holder := some e, rate := rate, dest := dest, kept := none }
  let s := s.setLswSafe n true safe (match safeRate with | some r => r | none => hDuty (s.entry 2 n))
  (s.setFld (lswF F.LSW_CHSTAT_HELD n) 1).lswDuty n

/-- The endpoint leaves channel n (R231, R210). -/
def State.lswRelease (s : State) (n : Nat) : State :=
  let s := s.setLch n { s.lch n with holder := none, rate := none, dest := none, kept := some (s.lswSource n) }
  ((s.setFld (lswF F.LSW_CHSTAT_HELD n) 0).lswEntrySafe n).lswDuty n

/-- The holding endpoint's rate command for channel n. -/
def State.lswRate (s : State) (n : Nat) (rate : Option Nat) : State :=
  (s.setLch n { s.lch n with rate := rate, dest := none }).lswDuty n

/-- The magnitude of channel n where a loop sets it (Table 9-4). -/
def State.lswMag (s : State) (n v : Nat) : State := (s.setLch n { s.lch n with dest := some v, kept := none }).lswDuty n

/-- A Bridle destination names channel n, or no longer does. -/
def State.lswName (s : State) (n : Nat) (named : Bool) : State :=
  let s := s.setBit (lswF F.LSW_CHSTAT_DEST n) named
  let x := s.lch n
  if named || x.holder.isSome then s else s.setLch n { x with dest := none, kept := some (s.lswSource n) }

/-- A Bridle destination's command for channel n (Table 9-4). -/
def State.lswDest (s : State) (n v : Nat) : State :=
  let s := s.lswMag n v
  if (s.lch n).holder.isSome then s else s.lswEdge n (decide (0 < v)) s.now

/-- Whether channel n has a channel diagnostic fault (R229). -/
def State.lswFaulty (s : State) (n : Nat) : Bool := !s.lswValid n || within lsFAULT lsTHERM (s.lswState n)

/-- A write of LSW_CMDj (R231): ignored with HELD_WR while an endpoint or a destination names the channel. -/
def State.takeLswCmd (s : State) (n : Nat) (w : Word) : State :=
  if (s.lch n).holder.isSome || s.flag (lswF F.LSW_CHSTAT_DEST n) then
    s.lswFlag F.LSW_CHSTAT_HELD_WR F.LSW_STAT_HELD_WR n
  else
    let s := s.writePlain (R.LSW_CMD (n / 48) (n % 48)) w
    let s := if 10000 < s.fld (lswF F.LSW_CMD_DUTY n) then
        (s.setFld (lswF F.LSW_CMD_DUTY n) 10000).setFld (lswF F.LSW_CHSTAT_CLAMPED n) 1 else s
    let s := (s.setLch n { s.lch n with kept := none, dest := none }).lswDuty n
    s.lswEdge n (s.flag (lswF F.LSW_CMD_ON n)) s.now

/-- A write of the CMD register by a master (R457, R463). -/
def State.writeLswCmd (s : State) (n : Nat) (w : Word) : State :=
  s.ownCmd 1 n (R.LSW_CMD (n / 48) (n % 48)) w (fun s => s.takeLswCmd n w)

/-- LSW_CMD_WRITE (R231). -/
def execLswCmdWrite (acc : Acc) (n : Fin 96) (value : Word) (s : State) : Out :=
  .next (s.guardWrite acc (R.LSW_CMD (n / 48) (n % 48)) (fun s => s.writeLswCmd n value))

/-- A write of LSW_CTL (R232): EN 0 turns every channel off; EN 1 after 0 gives each the level of its source, the PWM
period of member m staggered m eighths behind member 0. -/
def State.writeLswCtl (s : State) (d : Nat) (w : Word) : State :=
  let on := s.flag (F.LSW_CTL_EN d)
  let s := s.writePlain (R.LSW_CTL d) w
  match on, s.flag (F.LSW_CTL_EN d) with
  | true, false => (List.range 48).foldl (fun s j => if s.lswState (48 * d + j) < lsFAULT then s.lswTo (48 * d + j) lsOFF else s) s
  | false, true => (List.range 48).foldl (fun s j =>
      let n := 48 * d + j
      let s := s.lswAct n (s.flag (lswF F.LSW_CHSTAT_LEVEL n)) s.now
      if s.lswOn n then
        s.setLch n { s.lch n with phase := s.now + (j % 8) * (pwmPeriod (s.lch n).pwmf / 8) }
      else s) s
  | _, _ => s

/-- LSW_ENABLE (R232). -/
def execLswEnable (acc : Acc) (d : Fin 2) (value : Word) (s : State) : Out :=
  .next (s.guardWrite acc (R.LSW_CTL d) (fun s => s.writeLswCtl d value))

/-! ### Limits, faults, retries (R234-R237) -/

/-- A latch of channel n with a cause, 1 SHORT, 2 OVERLOAD, 3 OT (R236): off, the flag, the event; RETRY while retries
are left, else FAULT with FCAUSE. -/
def State.lswLatch (s : State) (n c : Nat) : State :=
  let s := match c with
    | 1 => s.lswFlag F.LSW_CHSTAT_SHORT F.LSW_STAT_SHORT n
    | 2 => s.lswFlag F.LSW_CHSTAT_OVERLOAD F.LSW_STAT_OVERLOAD n
    | _ => s.setFld (lswF F.LSW_CHSTAT_OT n) 1
  let s := s.event 0x0701 [w32 n, w32 c]
  let s := s.setLch n { s.lch n with latchAt := s.now }
  if s.fld (lswF F.LSW_CHSTAT_RETRIES n) < (s.lch n).retry then s.lswTo n lsRETRY
  else ((s.setFld (lswF F.LSW_CHSTAT_FCAUSE n) c).raiseFlag (F.LSW_STAT_FAULT (n / 48)) (189 + n / 48)).lswTo n lsFAULT

/-- INRUSH_END (R234): T_INR after the window began the channel goes ON, or latches OVERLOAD if it still limits. -/
def execInrushEnd (n : Fin 96) (limiting : Bool) (s : State) : Out :=
  let x := s.lch n
  if s.lswState n = lsINRUSH ∧ s.elapsed x.startAt (100000 * x.tInr) then
    let s := s.setBit (lswF F.LSW_CHSTAT_LIMITING n) limiting
    .next (if limiting then s.lswLatch n 2 else s.lswTo n lsON)
  else .next s

/-- LSW_FAULT (R234-R236): SHORT of a switch that is on; OVERLOAD outside the window after `us` of limiting within 4 ms,
at least 2 ms; OT of a switch that is on. -/
def execLswFault (n : Fin 96) (cause : Fin 3) (us : BitVec 32) (s : State) : Out :=
  let c : Nat := cause.val + 1
  if s.lswOn n && s.cut (n / 48) ≠ 2 && (c ≠ 2 || (s.lswState n = lsON && decide (2000 ≤ us.toNat))) then .next (s.lswLatch n c)
  else .next s

/-- LSW_RETRY (R236): RSPACE ms after the latch a channel whose level is still ON restarts with a fresh window. -/
def execLswRetry (n : Fin 96) (s : State) : Out :=
  let x := s.lch n
  if s.lswState n = lsRETRY ∧ s.elapsed x.latchAt (1000000 * x.rspace) ∧ s.flag (lswF F.LSW_CHSTAT_LEVEL n) then
    let s := s.setFld (lswF F.LSW_CHSTAT_RETRIES n) (s.fld (lswF F.LSW_CHSTAT_RETRIES n) + 1)
    let s := s.bump (F.LSW_RETRYCNT_COUNT (n / 48))
    .next (s.lswStart n s.now)
  else .next s

/-- RETRY_COUNT_CLEAR (R236): the channel has run 1,000 ms without a latch. -/
def execRetryCountClear (n : Fin 96) (s : State) : Out :=
  let x := s.lch n
  if s.lswOn n && s.elapsed (max x.startAt x.latchAt) 1000000000 then .next (s.setFld (lswF F.LSW_CHSTAT_RETRIES n) 0) else .next s

/-- The on-phase of channel n in ns. -/
def State.lswOnPhase (s : State) (n : Nat) : Nat :=
  pwmPeriod (s.lch n).pwmf * (s.lswSettle n).fld (lswF F.LSW_CHDUTY_DUTY n) / 10000

/-- LSW_OPEN_LOAD (R237): the open-load condition has lasted `ms`, at least 10: on, with OLMODE and on-phases of at
least 50 µs, or off with OLOFF. A flag only. -/
def execLswOpenLoad (n : Fin 96) (ms : BitVec 16) (s : State) : Out :=
  let e := s.lswEntry n
  let on := s.lswOn n && hOlmode e ≠ 0 && decide (50000 ≤ s.lswOnPhase n)
  let off := s.lswState n = lsOFF && hOloff e && s.offTest 1 n
  if s.lswValid n && (on || off) && decide (10 ≤ ms.toNat) && s.cut (n / 48) ≠ 2 then
    .next (s.lswFlag F.LSW_CHSTAT_OPEN F.LSW_STAT_OPEN n)
  else .next s

/-- The flag that FCAUSE of channel n names, as a bit of LSW_CHSTATj. -/
def State.lswCauseBit (s : State) (n : Nat) : Word :=
  match s.fld (lswF F.LSW_CHSTAT_FCAUSE n) with
  | 1 => 0x40000
  | 2 => 0x80000
  | 3 => 0x100000
  | _ => 0

/-! ### Cluster temperature (R240) -/

/-- The shedding order of a local load of die d (R243): its SHED, load switches before solenoids, higher index first. -/
def State.shedKey (s : State) (d x : Nat) : Nat :=
  let ofHolder (h : Option Nat) (dflt : Nat) : Nat :=
    match h with
    | some e => if e < 4096 then field (SMap.get (fun _ => Ep.init) s.ept.eps e).cfg 19 1 % 16 else dflt
    | none => dflt
  if x < 64 then ofHolder (s.lch (48 * d + x)).holder (hShed (s.lswEntry (48 * d + x))) * 256 + (63 - x)
  else ofHolder (s.sch (32 * d + (x - 64))).holder 15 * 256 + 128 + (95 - x)

/-- The load to shed next of those given. -/
def State.shedFirst (s : State) (d : Nat) (l : List Nat) : Option Nat :=
  l.foldl (fun best x =>
    match best with
    | some y => if s.shedKey d x < s.shedKey d y then some x else best
    | none => some x) none

/-- A channel comes back from SHED or THERM (R239, R244): the level of its source. -/
def State.lswBack (s : State) (n : Nat) : State :=
  (s.lswTo n lsOFF).lswAct n (s.flag (lswF F.LSW_CHSTAT_LEVEL n)) s.now

/-- The current limit in force of a channel that is on, in mA: I_INR in the inrush window, where stage 1 has not taken it, else I_LIM
(R234, R240). -/
def State.lswLimitNow (s : State) (n : Nat) : Nat :=
  let x := s.lch n
  10 * (if s.lswState n = lsINRUSH && !x.hot then x.iInr else x.iLim)

/-- The current of channel n is measured, in mA: one at its limit shows LIMITING (R234, log entry 35). -/
def State.lswMeasured (s : State) (n i : Nat) : State :=
  (s.setFld (lswF F.LSW_CHI_IMEAS n) i).setBit (lswF F.LSW_CHSTAT_LIMITING n) (s.lswOn n && decide (s.lswLimitNow n ≤ i))

/-- The thermal record of cluster c. -/
def State.therm (s : State) (c : Nat) : Therm := SMap.get (fun _ => ⟨0, 0⟩) s.lsw.cl c

/-- CLUSTER_THERM_SAMPLE (R240): every 250 µs, the sensor of cluster c in 0.1 °C, with the channel currents in mA and group
voltages in 10 mV measured then: stage 1 above 150 °C, stage 2 while it still rises, the end below 140 °C. In reverse battery no
diagnostic runs (Table 9-7). -/
def execClusterThermSample (c : Fin 12) (temp : BitVec 16) (currents : List (Fin 8 × BitVec 16))
    (volts : List (Fin 4 × BitVec 16)) (s : State) : Out :=
  let d := c.val / 6
  let k := c.val % 6
  let r := s.therm c
  if s.part.hasHs (8 * c) && s.due r.at_ 250000 && s.cut d ≠ 2 then
    let t := temp.toInt
    let s : State := { s with lsw := { s.lsw with
      cl := SMap.set (fun _ => ⟨0, 0⟩) s.lsw.cl c ⟨t, s.now / 250000 * 250000⟩ } }
    let s := s.setFld (F.LSW_CLSTAT_TEMP d k) temp.toNat
    let s := volts.foldl (fun s x => s.groupVolt d x.1 x.2.toNat) s
    let ms := (List.range 8).map (8 * k + ·)
    let s := currents.foldl (fun s x => s.lswMeasured (48 * d + 8 * k + x.1) x.2.toNat) s
    let s := ms.foldl (fun s j => if s.lswOn (48 * d + j) then s.lswDuty (48 * d + j) else s) s
    let stage := s.fld (F.LSW_CLSTAT_STAGE d k)
    let hot (s : State) : State :=
      ms.foldl (fun s j => if s.lswState (48 * d + j) = lsINRUSH then s.setLch (48 * d + j) { s.lch (48 * d + j) with hot := true } else s) s
    let note (s : State) (st : Nat) : State := (s.setFld (F.LSW_CLSTAT_STAGE d k) st).event 0x0704 [w32 c.val, w32 st]
    if t < 1400 then
      if stage = 0 then .next s
      else
        let s := s.setFld (F.LSW_CLSTAT_STAGE d k) 0
        .next (ms.foldl (fun s j => if s.lswState (48 * d + j) = lsTHERM then s.lswBack (48 * d + j) else s) s)
    else if stage = 0 then
      .next (if 1500 < t then
          hot (note (s.raiseBoth (F.LSW_CLSTAT_CL_HOT d k) (F.LSW_STAT_CL_HOT d) (189 + d)) 1)
        else s)
    else if r.last < t then
      match s.shedFirst d (ms.filter (fun j => s.lswState (48 * d + j) = lsON)) with
      | some j =>
        let s := (s.lswFlag F.LSW_CHSTAT_THERM F.LSW_STAT_THERM (48 * d + j)).lswTo (48 * d + j) lsTHERM
        .next (note s 2)
      | none => .next s
    else .next s
  else .next s

/-! ### Group budgets and shedding (R241-R244) -/

/-- The loads of die d that shedding draws on for target t: group t, or the whole die for 4 (R242). -/
def State.shedable (s : State) (d t : Nat) : List Nat :=
  let hs := (List.range 48).filter (fun j => s.lswOn (48 * d + j))
  let sol := (List.range 32).filter (fun j => s.solActive (32 * d + j) && !(s.sch (32 * d + j)).shed && !s.solSlave (32 * d + j))
  (hs ++ sol.map (64 + ·)).filter (fun x => t = 4 || (groupsOf x).contains t)

/-- Shed the next load of target t: off, SHED, the count, the event with the channel (R242). -/
def State.shedOne (s : State) (d t : Nat) : State :=
  match s.shedFirst d (s.shedable d t) with
  | some x =>
    let s := (s.setShedList d (x :: s.shedList d)).shedShow d
    let s := s.bump (F.LSW_SHEDCNT_COUNT d)
    if x < 64 then
      ((s.lswFlag F.LSW_CHSTAT_SHED F.LSW_STAT_SHED (48 * d + x)).lswTo (48 * d + x) lsSHED).event 0x0702 [w32 (48 * d + x)]
    else
      ((s.solShed (32 * d + (x - 64))).raiseFlag (F.LSW_STAT_SHED d) (189 + d)).event 0x0702 [w32 (32 * d + (x - 64))]
  | none => s

/-- The key of an overload target, its record: the instant of the last shedding. -/
def ovlKey (d t : Nat) : Nat := if t = 4 then 16 + d else 4 * d + t
def State.ovl (s : State) (d t : Nat) : Option Nat := SMap.get (fun _ => none) s.lsw.ovl (ovlKey d t)
def State.setOvl (s : State) (d t : Nat) (x : Option Nat) : State :=
  { s with lsw := { s.lsw with ovl := SMap.set (fun _ => none) s.lsw.ovl (ovlKey d t) x } }

/-- The measured current of a target, in 0.1 A: of the die, the sum of its groups, or of a group, which moves the sum (R248). -/
def State.lswCurrent (s : State) (d t i : Nat) : State :=
  if t = 4 then s.setFld (F.LSW_DIESTAT_ITOTAL d) i
  else
    let s := s.setFld (F.LSW_GRPSTAT_IMEAS d t) i
    s.setFld (F.LSW_DIESTAT_ITOTAL d) (min 4095 (([0, 1, 2, 3].map (fun (g : Nat) => s.fld (F.LSW_GRPSTAT_IMEAS d g))).sum))

/-- The limit of a target, in 0.1 A: GLIM, or 80 A for the die. -/
def State.lswLimit (s : State) (d t : Nat) : Nat := if t = 4 then 800 else s.fld (F.LSW_GRPCFG_GLIM d t)

/-- LSW_GRP_OVL (R241): target t of die d (a group, or 4 the die) with its instantaneous and 100 ms mean current in 0.1 A;
`us` is how long a group has been above 40 A. -/
def execLswGrpOvl (d : Fin 2) (t : Fin 5) (inst mean : BitVec 16) (us : BitVec 16) (s : State) : Out :=
  if s.part.hasHs (48 * d) ∧ s.cut d ≠ 2 then
    let s := s.lswCurrent d t inst.toNat
    let ovr := s.lswLimit d t < mean.toNat ∨ (t.val < 4 ∧ 400 < inst.toNat ∧ 50 ≤ us.toNat)
    if (s.ovl d t).isNone ∧ ovr then
      let s := if t.val = 4 then s.raiseBoth (F.LSW_DIESTAT_DIE_OVL d) (F.LSW_STAT_DIE_OVL d) (189 + d)
        else s.raiseBoth (F.LSW_GRPSTAT_GRP_OVL d t) (F.LSW_STAT_GRP_OVL d) (189 + d)
      .next (((s.event 0x0703 []).setOvl d t (some s.now)).shedOne d t)
    else .next s
  else .next s

/-- SHED_STEP (R241): 1 ms after the last shedding, with the instantaneous current: one further load while it stays
above the limit, else the overload is over. -/
def execShedStep (d : Fin 2) (t : Fin 5) (inst : BitVec 16) (s : State) : Out :=
  match s.ovl d t with
  | some t0 =>
    if s.elapsed t0 1000000 ∧ s.cut d ≠ 2 then
      let s := s.lswCurrent d t inst.toNat
      if s.lswLimit d t < inst.toNat then .next ((s.setOvl d t (some s.now)).shedOne d t)
      else .next (s.setOvl d t none)
    else .next s
  | none => .next s

/-- A shed load of die d returns (R244). -/
def State.shedBack (s : State) (d x : Nat) : State :=
  let s := if x < 64 then (s.unlist d x).lswBack (48 * d + x) else s.solUnshed (32 * d + (x - 64))
  (groupsOf x).foldl (fun s g => { s with lsw := { s.lsw with back := SMap.set (fun _ => 0) s.lsw.back (4 * d + g) s.now } }) s

/-- SHED_RESTORE (R244): with AUTO, group g of die d at a current at or below RST_PCT % of GLIM for `ms`, at least RST_T,
and RST_T since the last return: its most recently shed channel returns. -/
def execShedRestore (d : Fin 2) (g : Fin 4) (inst : BitVec 16) (ms : BitVec 16) (s : State) : Out :=
  let rt := s.fld (F.LSW_GRPCFG_RST_T d g)
  if s.part.hasHs (48 * d) ∧ s.cut d ≠ 2 then
    let s := s.lswCurrent d g inst.toNat
    if s.flag (F.LSW_GRPCFG_AUTO d g) && decide (100 * inst.toNat ≤ s.fld (F.LSW_GRPCFG_RST_PCT d g) * s.fld (F.LSW_GRPCFG_GLIM d g)) &&
        decide (rt ≤ ms.toNat) && s.elapsed (SMap.get (fun _ => 0) s.lsw.back (4 * d + g)) (1000000 * rt) then
      match (s.shedList d).find? (fun x => (groupsOf x).contains g.val) with
      | some x => .next (s.shedBack d x)
      | none => .next s
    else .next s
  else .next s

/-- A write of LSW_CHSTATj: its W1C flags; the flag FCAUSE names releases FAULT to OFF and clears RETRIES; SHED returns a
shed channel (R236, R244). -/
def State.writeLswChstat (s : State) (n : Nat) (w : Word) : State :=
  let b := s.lswCauseBit n
  let s := s.writePlain (R.LSW_CHSTAT (n / 48) (n % 48)) w
  let s := if b ≠ 0 ∧ w &&& b ≠ 0 then
      ((s.setFld (lswF F.LSW_CHSTAT_FCAUSE n) 0).setFld (lswF F.LSW_CHSTAT_RETRIES n) 0).lswTo n lsOFF
    else s
  if w &&& 0x4000000 ≠ 0 ∧ s.lswState n = lsSHED then s.shedBack (n / 48) (n % 48) else s

/-- LSW_FAULT_RELEASE (R236): 1 written to the flag that FCAUSE names. -/
def execLswFaultRelease (acc : Acc) (n : Fin 96) (s : State) : Out :=
  .next (s.guardWrite acc (R.LSW_CHSTAT (n / 48) (n % 48)) (fun s => s.writeLswChstat n (s.lswCauseBit n)))

/-- SHED_RETURN_WRITE (R244): 1 written to the SHED flag of a load switch (0 to 95) or a solenoid channel (96 to 159). -/
def execShedReturnWrite (acc : Acc) (ch : Fin 160) (s : State) : Out :=
  if ch.val < 96 then
    .next (s.guardWrite acc (R.LSW_CHSTAT (ch / 48) (ch % 48)) (fun s => s.writeLswChstat ch 0x4000000))
  else
    let n := ch.val - 96
    .next (s.guardWrite acc (R.SOL_CHSTAT (n / 32) (n % 32)) (fun s => s.writeSolChstat n 0x10000000))

/-! ### Supply faults (R245) -/

/-- A supply fault begins at die d, or ends: 1 loss of ground, 2 reverse battery, 4 a supply below 5.0 V. -/
def State.setCut (s : State) (d bit : Nat) (on : Bool) : State :=
  let m := s.cuts d
  let m := if m / bit % 2 = 1 then m - bit else m
  { s with lsw := { s.lsw with cut := SMap.set (fun _ => 0) s.lsw.cut d (if on then m + bit else m) } }

/-- Every switch of die d off: on, or waiting for a retry (Tables 9-7, 9-8). -/
def State.lswOffAll (s : State) (d : Nat) : State :=
  (List.range 48).foldl (fun s j =>
    if s.lswOn (48 * d + j) || s.lswState (48 * d + j) = lsRETRY then s.lswTo (48 * d + j) lsOFF else s) s

/-- Every output of die d off (Table 9-7). -/
def State.dieOff (s : State) (d : Nat) : State := ((s.lswOffAll d).solSilence d).dioShowDie d

/-- Every switch of die d held on (Table 9-7). -/
def State.dieOn (s : State) (d : Nat) : State :=
  ((List.range 48).foldl (fun s j => if s.part.hasHs (48 * d + j) then s.lswTo (48 * d + j) lsON else s) s).dioShowDie d

/-- The registers, channels, accepted entries and shed loads of die d as after power-off of its domain (Tables 8-8, 9-8, R515). -/
def State.dieClear (s : State) (d : Nat) : State :=
  let keepN (k : Nat) (m : Nat) : Bool := m / k ≠ d
  let s := s.clearRegs (fun a f => f.dom.at a = (if d = 0 then .pwr0 else .pwr1))
  let lost (k : Nat) : Bool := match k / 4096 with
    | 1 => k % 4096 / 32 = d
    | 2 => k % 4096 / 48 = d
    | 3 => k % 4096 / 32 = d
    | _ => false
  { s with
    entries := SMap.keep s.entries (fun k => !lost k)
    dio := { s.dio with pts := SMap.keep s.dio.pts (keepN 32), holdAt := SMap.keep s.dio.holdAt (· ≠ d), silent := SMap.keep s.dio.silent (· ≠ d) }
    sol := { s.sol with chs := SMap.keep s.sol.chs (keepN 32), bandAt := SMap.keep s.sol.bandAt (· ≠ d)
                        stopped := SMap.keep s.sol.stopped (keepN 2) }
    lsw := { s.lsw with chs := SMap.keep s.lsw.chs (keepN 48), cl := SMap.keep s.lsw.cl (keepN 6), vs := SMap.keep s.lsw.vs (keepN 4)
                        shed := SMap.keep s.lsw.shed (· ≠ d)
                        ovl := SMap.keep s.lsw.ovl (fun k => k ≠ 16 + d && (16 ≤ k || k / 4 ≠ d))
                        back := SMap.keep s.lsw.back (keepN 4) } }

/-- A supply below 5.0 V at die d, and its return (Table 9-7). -/
def State.dieLow (s : State) (d : Nat) : State :=
  let s := s.setCut d 4 true
  if s.cut d = 3 then s.dieOff d else s

def State.dieReturn (s : State) (d : Nat) : State :=
  let s := s.setCut d 4 false
  if s.cut d ≠ 0 then s
  else
    let s := (List.range 48).foldl (fun s j => s.lswAct (48 * d + j) (s.flag (lswF F.LSW_CHSTAT_LEVEL (48 * d + j))) s.now) s
    let s := (List.range 32).foldl (fun s j =>
      if s.solValid (32 * d + j) then s.solAct (32 * d + j) (s.flag (solF F.SOL_CHSTAT_LEVEL (32 * d + j))) s.now else s) s
    s.dioShowDie d

/-- SUPPLY of die d and the event with die and kind (R245). -/
def State.lswSupplyEvent (s : State) (d k : Nat) : State :=
  (s.raiseFlag (F.LSW_STAT_SUPPLY d) (189 + d)).event 0x0705 [w32 d, w32 k]

/-- LSW_SUPPLY (R245): loss of ground (0), reverse battery (1) or a supply below 5.0 V (2) at die d begins, or ends; the
low supply ends once Vs has been above 6.0 V for `ms`, at least 10. Of several in force the first of these three decides. -/
def execLswSupply (d : Fin 2) (kind : Fin 3) (begin_ : Bool) (ms : BitVec 16) (s : State) : Out :=
  let on := s.cuts d / 2 ^ kind.val % 2 = 1
  if s.part.hasHs (48 * d) then
    if begin_ then
      if on then .next s
      else
        let s := s.lswSupplyEvent d kind
        .next (match kind.val with
          | 0 => (s.setCut d 1 true).dieOff d
          | 1 => (let s := s.setCut d 2 true; if s.cut d = 2 then s.dieOn d else s)
          | _ => s.dieLow d)
    else if on then
      .next (match kind.val with
        | 0 => (s.setCut d 1 false).dieClear d
        | 1 => (s.setCut d 2 false).dieClear d
        | _ => if 10 ≤ ms.toNat then s.dieReturn d else s)
    else .next s
  else .next s

/-! ### Entries, registers, resets -/

/-- An entry of the LSW table has been accepted over an old copy (R229, R230): of a channel that is on, what the PWM period governs
waits for the next one. -/
def State.acceptLsw (s : State) (n : Nat) (old : List Byte) : State :=
  let was := s.lswOk n old
  let e := s.entry 2 n
  let x := s.lch n
  if s.lswValid n then
    let s := if was && s.lswOn n then s.setLch n { x with old := match x.old with
        | some (t, c) => some (if t ≤ s.now then (x.nextPeriod s.now, old) else (t, c))
        | none => some (x.nextPeriod s.now, old) }
      else s.setLch n { x with old := none }
    let s := if x.holder.isSome then s
      else if was && s.lswOn n then s.setLswSafe n false (hSafe e) (s.fld (lswF F.LSW_CHSAFE_DUTY n))
      else s.lswEntrySafe n
    let s := s.lswDuty n
    if was then s else s.lswAct n (s.flag (lswF F.LSW_CHSTAT_LEVEL n)) s.now
  else
    let s := s.setLch n { x with old := none }
    let s := if x.holder.isNone then s.lswEntrySafe n else s
    let s := if s.lswOn n ∨ s.lswState n = lsRETRY then s.lswTo n lsOFF else s
    let s := if s.hasEntry 2 n then (s.lswFlag F.LSW_CHSTAT_CONFIG F.LSW_STAT_CONFIG n).event 0x0706 [w32 n] else s
    s.lswDuty n

/-- A write of LSW_GRPCFGg (R248): one whose GLIM lies outside 50 to 200 is ignored and sets CONFIG. -/
def State.writeGrpCfg (s : State) (d g : Nat) (w : Word) : State :=
  let a := R.LSW_GRPCFG d g
  let new := writtenWord a (s.locked a) (s.reg a) w
  if within 50 200 ((F.LSW_GRPCFG_GLIM d g).get new) then s.setReg a new
  else s.raiseFlag (F.LSW_STAT_CONFIG d) (189 + d)

/-- LSW_CHDUTYj and LSW_CHSAFEj as they read: what waited for a PWM period that has begun is in force (R232). -/
def State.lswWord (s : State) (a : Nat) : Word :=
  let d := (a - R.LSW_CTL 0) / 0x100000
  (s.lswSettle (48 * d + (a - R.LSW_CHSTAT d 0) / 0x20)).reg a

/-- A register write in the LSW window of die d. -/
def State.writeLsw (s : State) (a : Nat) (w : Word) : State :=
  let d := (a - R.LSW_CTL 0) / 0x100000
  if a = R.LSW_CTL d then s.writeLswCtl d w
  else if R.LSW_GRPCFG d 0 ≤ a ∧ a < R.LSW_GRPCFG d 4 then
    (if (a - R.LSW_GRPCFG d 0) % 0x10 = 0 then s.writeGrpCfg d ((a - R.LSW_GRPCFG d 0) / 0x10) w else s.writePlain a w)
  else if R.LSW_CHSTAT d 0 ≤ a ∧ a < R.LSW_CHSTAT d 48 then
    let n := 48 * d + (a - R.LSW_CHSTAT d 0) / 0x20
    match (a - R.LSW_CHSTAT d 0) % 0x20 with
    | 0 => s.writeLswChstat n w
    | 0xC => s.writeLswCmd n w
    | _ => s.writePlain a w
  else s.writePlain a w

/-- What an RTX reset does to the channels of a die (Table 9-8). -/
def State.lswSafeAll (s : State) (d : Nat) : State :=
  (List.range 48).foldl (fun s j =>
    let n := 48 * d + j
    let s := (s.lswSettle n).setReg (R.LSW_CMD d j) 0
    let on := s.flag (lswF F.LSW_CHSAFE_ON n)
    let i := s.fld (lswF F.LSW_CHSAFE_DUTY n)
    let s := s.setLch n { s.lch n with holder := none, rate := none, dest := none, kept := some i }
    let s := ((s.setBit (lswF F.LSW_CHSTAT_DEST n) false).setFld (lswF F.LSW_CHSTAT_HELD n) 0).lswEntrySafe n
    (s.lswDuty n).lswEdge n on s.now) s

end Sys2Proof.Machine
end

