-- ==== Sys2Proof/Machine/Endpoint.lean ====
section
/-! DEFINITION. Endpoints: entries, motion, look-ahead, service states and what they drive (04_endpoint_table.md). -/

namespace Sys2Proof.Machine

/-! ### Whether an entry is valid (R96, R97) -/

/-- Whether kind and transport go together (Table 4-3); the direction of a DIO point is its own entry's. -/
def State.kindTransport (s : State) (e : List Byte) : Bool :=
  let k := eKind e
  let c := eTop e
  let n := eChan e
  match eTrans e with
  | 0 => k = kMARK
  | 2 => k < 4
  | 3 => k < 4
  | 1 =>
    if k = kSENSE then c = 3 || c = 4 || (c = 2 && !s.dioIsOut n)
    else if k = kRATE then c < 2
    else k < 3 && (c < 2 || (c = 2 && !s.dioIsIn n))
  | 4 => if k = kRATE then c < 2 else k < 3 && c < 3
  | _ => false

/-- Whether a local channel is in the part. -/
def Part.hasChan (p : Part) (c n : Nat) : Bool :=
  match c with
  | 0 => p.hasSol n
  | 1 => p.hasHs n
  | 2 => p.hasDio n
  | 3 => n < 48
  | 4 => n < 24
  | _ => true

/-- Whether a bus and node address lie in the range of Table 4-2. -/
def eAddrOk (e : List Byte) : Bool :=
  match eTrans e with
  | 2 => eTop e < 12 && eNode e ≤ 253
  | 3 => eTop e < 2 && within 1 254 (eNode e)
  | _ => true

/-- Causes of Table 4-7. -/
def caNONE : Nat := 0
def caEMPTY : Nat := 1
def caCONFIG : Nat := 2
def caABSENT : Nat := 3
def caCONFLICT : Nat := 4
def caCOMMAND : Nat := 5
def caTRANSPORT : Nat := 6
def caAXIS : Nat := 7
def caTORN : Nat := 8
def caRESET : Nat := 9
def caREWRITE : Nat := 10
def caCOUNT : Nat := 11

/-- Whether an entry names an absent channel, a partner channel on a module without a Tandem link, or an axis with a source in an
absent unit, be the rest of it valid or not (R7). -/
def State.epAbsent (s : State) (e : List Byte) : Bool :=
  ((eTrans e = 1 || eTrans e = 4) && !s.part.hasChan (eTop e) (eChan e)) || (ePartner e && !s.part.hasTDM) || s.axAbsent (eAxis e)

/-- The cause an entry gives, NONE where it is valid (R97, R7, R205); an invalid entry that names an absent channel too gives
CONFIG (log entry 52). -/
def State.epWhy (s : State) (e : List Byte) : Nat :=
  if e = [] ∨ field e 0 2 = 0 then caEMPTY
  else
    let k := eKind e
    let loc := eTrans e = 1 ∨ eTrans e = 4
    if 5 ≤ k ∨ 5 ≤ eTrans e ∨ (loc ∧ 5 ≤ eTop e) ∨ 2 ≤ eSafe e ∨ !s.kindTransport e ∨ (eWidth e = 0 ∧ k < 3) ∨
        1000000 < eTon e ∨ 1000000 < eToff e ∨ (eRemote e ∧ (eLead e < 20 ∨ 200 < eLead e)) ∨
        (ePitch e = 0 ∧ (k = kPULSE ∨ k = kSENSE)) ∨ (k = kRATE ∧ eRateMax e < eRateMin e) ∨ !eAddrOk e ∨
        (eLocal e ∧ eTop e = 0 ∧ s.solSlave (eChan e)) then caCONFIG
    else if s.epAbsent e then caABSENT
    else caNONE

/-! ### Records -/

/-- Endpoint e beside its registers. -/
def State.ep (s : State) (e : Nat) : Ep := SMap.get (fun _ => Ep.init) s.ept.eps e

/-- Replace endpoint e. -/
def State.setEp (s : State) (e : Nat) (x : Ep) : State :=
  { s with ept := { s.ept with eps := SMap.set (fun _ => Ep.init) s.ept.eps e x } }

/-- Change endpoint e. -/
def State.updEp (s : State) (e : Nat) (f : Ep → Ep) : State := s.setEp e (f (s.ep e))

/-- Service states. -/
def epOUT : Nat := 0
def epREJOIN : Nat := 1
def epIN : Nat := 2

/-- The members of cluster c. -/
def members (c : Nat) : List Nat := (List.range 16).map (16 * c + ·)

/-- IDLE of cluster c: none of its endpoints is in REJOIN or IN (R137). -/
def State.showIdle (s : State) (c : Nat) : State :=
  s.setBit (F.SLT_CLSTAT_IDLE c) ((members c).all (fun e => (s.ep e).state = epOUT))

/-- A change of service state (R109): STATE_CHG, EPT_LASTCHG, event EP_STATE with index, old, new, cause. -/
def State.epTo (s : State) (e new cause : Nat) : State :=
  let x := s.ep e
  let s := s.setEp e { x with state := new, cause := cause, cons := 0, readyAt := none, go := false }
  let s := ((s.setFld F.EPT_LASTCHG_CAUSE cause).setFld F.EPT_LASTCHG_STATE new).setFld F.EPT_LASTCHG_INDEX e
  let s := (s.raiseFlag F.EPT_STAT_STATE_CHG 181).event 0x0301 [w32 e, w32 x.state, w32 new, w32 cause]
  s.showIdle (e / 16)

/-! ### What an endpoint drives -/

/-- The level an endpoint shows: the pulse output of a PULSE endpoint, else the level emitted. -/
def Ep.shown (x : Ep) : Bool := if eKind x.cfg = kPULSE && x.pRun then x.out else x.level

/-- A level reaches a local channel of an entry, INVERT applied (R94). -/
def State.driveChan (s : State) (c : List Byte) (on : Bool) (te : Nat) : State :=
  let phys := on != eInvert c
  match eTop c with
  | 0 => s.solEdge (eChan c) phys te
  | 1 => s.lswEdge (eChan c) phys te
  | _ => s.dioEdge (eChan c) phys

/-- The highest command of the channel an entry names (Table 4-5a). Whether the partner pairs a channel is its own entry's: this
module cuts a command to an even partner channel at the limit of a pair, and the partner cuts it further (log entry 43). -/
def State.rateLimit (s : State) (c : List Byte) : Nat :=
  if eRemote c then 2 ^ 16 - 1
  else if eTop c = 0 then (if (if eLocal c then s.solPairs (eChan c) else eChan c % 2 = 0) then 32000 else 16000)
  else 10000

/-- A rate command reaches the local channel of an entry with RDEST 0 (R107): cut to its limit with CLAMPED. -/
def State.driveRate (s : State) (e : Nat) (cmd : Nat) : State :=
  let c := (s.ep e).cfg
  if eKind c ≠ kRATE ∨ eRdest c then s
  else
    let m := s.rateLimit c
    let s := if m < cmd then (s.updEp e (fun x => { x with clamped := true })).raiseFlag F.EPT_STAT_CLAMPED 181 else s
    if !eLocal c ∨ s.tdmMasked then s
    else if eTop c = 0 then s.solRate (eChan c) (some (min cmd m)) else s.lswRate (eChan c) (some (min cmd m))

/-- The safe state ON reaches the local channel of a RATE endpoint: SAFE_RATE, with RDEST 1 until its loop sends next (R113, R209). -/
def State.driveSafe (s : State) (e : Nat) (cmd : Nat) : State :=
  let c := (s.ep e).cfg
  if eKind c ≠ kRATE ∨ !eRdest c then s.driveRate e cmd
  else if !eLocal c ∨ s.tdmMasked then s
  else if eTop c = 0 then s.solMag (eChan c) (min cmd (s.rateLimit c)) else s.lswMag (eChan c) (min cmd (s.rateLimit c))

/-- Note that delivery changes with a level emitted at te: at te + T_ON of an ON edge, at te + T_OFF of an OFF edge (R170). -/
def Ep.deliver (x : Ep) (on : Bool) (te : Nat) : Ep :=
  { x with dlv := x.dlv ++ [(te + 1000 * (if on then eTon x.cfg else eToff x.cfg), on)] }

/-- A level goes to the local channel of endpoint e. -/
def State.drive (s : State) (e : Nat) (on : Bool) (te : Nat) : State :=
  let c := (s.ep e).cfg
  if eLocal c && !s.tdmMasked then s.driveChan c on te else s

/-- Emit an output level of endpoint e at te: to its local channel while the module drives it; a remote endpoint's level
follows its records, a partner channel's edge goes out in an Ecrek frame (R25, R113, R128, R140, R449). -/
def State.emitOut (s : State) (e : Nat) (on : Bool) (te : Nat) : State :=
  let x := s.ep e
  if !eRemote x.cfg && s.tdmMasked then s
  else (s.setEp e (x.deliver on te)).drive e on te

/-- The safe level and command of an endpoint (R113). -/
def Ep.safeOn (x : Ep) : Bool := eSafe x.cfg = 1
def Ep.safeCmd (x : Ep) : Nat := if x.safeOn && eKind x.cfg = kRATE then eSafeRate x.cfg else 0

/-- The effective safe state of the local channel an endpoint holds (R209, R231, R253). -/
def State.copySafe (s : State) (e : Nat) : State :=
  let x := s.ep e
  let c := x.cfg
  if !eLocal c ∨ !eOutput c then s
  else
    let on := x.safeOn != eInvert c
    match eTop c with
    | 0 => s.setSolSafe (eChan c) true on (if eKind c = kRATE then eSafeRate c else vHold (s.entry 1 (eChan c)))
    | 1 => s.setLswSafe (eChan c) true on (if eKind c = kRATE then eSafeRate c else hDuty (s.entry 2 (eChan c)))
    | _ => s.setDioSafe (eChan c) true on

/-- Endpoint e takes its local channel (R98, R209): with RDEST 1 at SAFE_RATE where its safe state is ON, else at the output of its
loop; a masked module leaves the command as it is (R463). -/
def State.takeChan (s : State) (e : Nat) : State :=
  let x := s.ep e
  let c := x.cfg
  if !eLocal c ∨ !eOutput c then s
  else
    let on := x.safeOn != eInvert c
    let dest := if eKind c = kRATE ∧ eRdest c then
        (if x.safeOn && !s.tdmMasked then some (min (eSafeRate c) (s.rateLimit c)) else (s.bloop (eLoop c)).cmd) else none
    let rate := if eKind c = kRATE ∧ !eRdest c then some (if s.tdmMasked then
        (if eTop c = 0 then s.solSource (eChan c) else s.lswSource (eChan c)) else x.safeCmd) else none
    let sr := if eKind c = kRATE then some (eSafeRate c) else none
    match eTop c with
    | 0 => s.solHold (eChan c) e rate dest on sr
    | 1 => s.lswHold (eChan c) e rate dest on sr
    | _ => s.dioHold (eChan c) e on

/-- Endpoint e leaves its local channel. -/
def State.leaveChan (s : State) (e : Nat) : State :=
  let c := (s.ep e).cfg
  if !eLocal c ∨ !eOutput c then s
  else match eTop c with
    | 0 => s.solRelease (eChan c)
    | 1 => s.lswRelease (eChan c)
    | _ => s.dioRelease (eChan c)

/-- Another endpoint in REJOIN or IN that names the output channel of entry bytes (R98). -/
def State.rival (s : State) (e : Nat) (c : List Byte) : Option Nat :=
  if !eOutput c ∨ !(eLocal c || ePartner c) then none
  else (SMap.keys s.ept.eps).find? (fun f =>
    let y := s.ep f
    f ≠ e && y.state ≠ epOUT && eOutput y.cfg && eTrans y.cfg = eTrans c && eTop y.cfg = eTop c && eChan y.cfg = eChan c)

/-! ### Transport (R110) -/

/-- Whether a bus runs: a CAN controller in ACTIVE or PASSIVE, a T1S segment with PLCA active (R432, R440). -/
def State.busUp (s : State) (b : Nat) : Bool :=
  if b < 12 then s.fld (F.CAN_ESTAT_STATE b) = 1 || s.fld (F.CAN_ESTAT_STATE b) = 2
  else s.flag (F.ETH_PLCASTAT_ACTIVE (b - 12))

/-- A field node. -/
def State.node (s : State) (b n : Nat) : Node := SMap.get (fun _ => Node.init) s.slt.nodes (256 * b + n)

/-- Replace a field node. -/
def State.setNode (s : State) (b n : Nat) (x : Node) : State :=
  { s with slt := { s.slt with nodes := SMap.set (fun _ => Node.init) s.slt.nodes (256 * b + n) x } }

/-- Whether the transport of an entry is healthy. -/
def State.transportOk (s : State) (c : List Byte) : Bool :=
  let n := eChan c
  match eTrans c with
  | 0 => true
  | 1 => match eTop c with
    | 0 => !s.solFaulty n
    | 1 => !s.lswFaulty n
    | 2 => !s.dioFaulty n
    | 3 => s.ainValid n
    | _ => s.pinValid n
  | 4 => s.tdm.formed && !s.tdm.lost
  | _ => s.busUp (eBus c) && (s.node (eBus c) (eNode c)).healthy

/-! ### Motion (R101-R105) -/

/-- The solution of the body that carries an entry, at an instant. -/
def State.bodyPose (s : State) (c : List Byte) (t : Nat) : L3 := s.poseAt (eBody c) t

/-- The slope per tick of a series of rates, newest first: the bound axis's over its last 8 endpoint ticks (R104). -/
def slope (l : List Int) : Int :=
  let n : Nat := l.length
  let w (i : Nat) : Int := (n : Int) - 1 - 2 * i
  let d := ((List.range n).map (fun i => w i * w i)).sum
  if d = 0 then 0 else 2 * ((List.range n).map (fun i => w i * l.getD i 0)).sum / d

/-- Whether curve compensation is asked for: CURVE on a GROUND axis (R101). -/
def State.curved (s : State) (c : List Byte) : Bool := eCurve c && s.fld (F.STR_AXCFG_KIND (eAxis c)) = 0

/-- Travel in whole counts over µs at a rate and an acceleration per tick, rounded (R104). -/
def travel (v a us : Int) : Int := (v * us + a * us * us / 500 + 2 ^ 31) / 2 ^ 32

/-- Own speed in counts per s (R102). -/
def Ep.perS (x : Ep) : Int := (x.rate * 1000000 + 2 ^ 31) / 2 ^ 32

/-- Motion of endpoint e at tick t (R101-R104, Table 4-5b). -/
def State.epMove (s : State) (e t : Nat) : State :=
  let x := s.ep e
  let c := x.cfg
  let a := eAxis c
  let p := s.axPos a t
  let r := s.axRate a
  let pose := s.bodyPose c t
  let known := pose.state ≠ 0
  let hdg := if known then some pose.hdg else none
  if s.axState a = axLOST then s.setEp e { x with axPos := p, hdg := hdg, rate := 0, acc := 0 }
  else
    let curve := s.curved c
    let still := s.flag (F.STR_AXSTAT_STILL a)
    let dh : Int := match x.hdg with
      | some h => if curve ∧ known then wrapPi (pose.hdg - h) else 0
      | none => 0
    let bend := if curve ∧ known ∧ !still then 10 * eY c * pose.yaw * 2 ^ 32 / 10 ^ 12 else 0
    let turn := if curve ∧ known ∧ !still then 10 * eY c * s.yawAcc (eBody c) * 250 * 2 ^ 32 / 10 ^ 18 else 0
    let rate := if still then 0 else r + bend
    let acc := if still then 0 else slope (s.axis a).rates + turn
    s.setEp e { x with
      odo := if still then x.odo else x.odo + (p - x.axPos) + 10 * eY c * dh * 2 ^ 16 / 1000000
      axPos := p, hdg := hdg, rate := rate, acc := acc
      nohdg := curve && !known
      laOn := travel rate acc (eTon c + 500), laOff := travel rate acc (eToff c + 500) }

/-- The odometer of endpoint e at an instant after the last tick. -/
def State.odoAt (s : State) (e t : Nat) : Int :=
  let x := s.ep e
  let us : Int := ((t : Int) - s.ept.tickAt) / 1000
  x.odo + (x.rate * us + x.acc * us * us / 500) / 2 ^ 16

/-- Whether the bound axis of endpoint e runs in reverse. -/
def State.epReverse (s : State) (e : Nat) : Bool := s.flag (F.STR_AXSTAT_REVERSE (eAxis (s.ep e).cfg))

/-! ### Rate command (R106, R107) -/

/-- Form the rate command of endpoint e: Rx × width × speed × RATE_K, clamped, and cut to the limit of the channel it goes to; 0 at a
negative SPEED, at standstill and with PL_EN clear. -/
def State.epRate (s : State) (e : Nat) : State :=
  let x := s.ep e
  let c := x.cfg
  if eKind c ≠ kRATE then s
  else
    let ground := s.fld (F.STR_AXCFG_KIND (eAxis c)) = 0
    let v : Int := if ground then x.perS else s.axPerS (eAxis c)
    let rx := if ePlEn c then x.rx else 0
    let raw := if v ≤ 0 ∨ s.flag (F.STR_AXSTAT_STILL (eAxis c)) then 0
      else roundDiv (rx * eWidth c * v.toNat * eRateK c) ((if ground then 10 ^ 7 else 10 ^ 9) * 65536)
    let cmd := if raw = 0 then 0 else max (eRateMin c) (min (eRateMax c) raw)
    let cmd := if eRdest c then cmd else min cmd (s.rateLimit c)
    let s := s.setEp e { x with rcmd := cmd, clamped := cmd ≠ raw }
    if cmd ≠ raw then s.raiseFlag F.EPT_STAT_CLAMPED 181 else s

/-! ### The state record (Table 4-4) -/

/-- VALUE of endpoint e. -/
def Ep.value (x : Ep) : Nat :=
  if eKind x.cfg = kRATE then x.rcmd % 2 ^ 16 + 2 ^ 16 * (x.rx % 2 ^ 16)
  else if eKind x.cfg = kSENSE then x.val else 0

/-- Bytes 28 to 31 of the record of endpoint e. -/
def State.epStatus (s : State) (e : Nat) : Nat :=
  let x := s.ep e
  let a := eAxis x.cfg
  let live := x.state ≠ epOUT
  let b (p : Bool) (k : Nat) : Nat := if p then 2 ^ k else 0
  let ax (st : Nat) : Bool := live && s.axState a = st
  x.state + 16 * x.cause + 2 ^ 8 * min x.cons 255 +
    2 ^ 16 * (b x.shown 0 + b (x.state = epREJOIN || (x.state = epIN && s.tdmMasked)) 1 +
      b (live && (s.epReverse e || (eKind x.cfg = kRATE && x.rate < 0))) 2 + b (live && s.flag (F.STR_AXSTAT_STILL a)) 3 +
      b (ax axCOAST) 4 + b (ax axLOST) 5 + b x.clamped 6 + b x.nohdg 7)

/-- Write the record of endpoint e. -/
def State.epShow (s : State) (e : Nat) : State :=
  let x := s.ep e
  let s := s.setReg64 (R.EPT_STATE e 0) (R.EPT_STATE e 1) (toBits 64 (x.odo / 2 ^ 16))
  let s := s.setReg (R.EPT_STATE e 2) (w32 (toBits 16 x.odo))
  let s := s.setReg (R.EPT_STATE e 3) (wInt x.perS)
  let s := s.setReg (R.EPT_STATE e 4) (wInt x.laOn)
  let s := s.setReg (R.EPT_STATE e 5) (wInt x.laOff)
  let s := s.setReg (R.EPT_STATE e 6) (w32 x.value)
  s.setReg (R.EPT_STATE e 7) (w32 (s.epStatus e))

/-- The 32 bytes of the record of endpoint e as last written. -/
def State.epRecord (s : State) (e : Nat) : List Byte :=
  (List.range 8).flatMap (fun w => leBytes 4 (s.reg (R.EPT_STATE e w)).toNat)

/-! ### The entry cache (R115, R45) -/

/-- Whether endpoint e has a slot that has not fired on its cluster's pages. -/
def State.hasSlot (s : State) (e : Nat) : Bool :=
  let c := e / 16
  let page := s.fld (F.SLT_CLSTAT_PAGE c)
  let fired := (s.reg (R.SLT_FIRED_LO c)).toNat + (s.reg (R.SLT_FIRED_HI c)).toNat * 2 ^ 32
  (List.range 128).any (fun k =>
    let w := (s.reg (R.SLT_PAGE c (k / 64) (k % 64) 0)).toNat
    w % 16 = e % 16 && w / 16 % 8 ≠ 0 && !(k / 64 = page && fired / 2 ^ (k % 64) % 2 = 1))

/-- Bring the entry of endpoint e to the front of the cache; the least recently used one without an unfired slot goes to
the shadow region as master EPT. Where every cached entry has one, R115 replaces none and Table 2-6 leaves the case open: the cache
holds more than 1,024 then (log entry 51). -/
def State.cachePut (s : State) (e : Nat) : State :=
  let l := e :: s.ept.cache.filter (· ≠ e)
  if l.length ≤ 1024 then { s with ept := { s.ept with cache := l } }
  else
    match l.reverse.find? (fun f => f ≠ e && !s.hasSlot f) with
    | some f =>
      let base := s.fld F.RNG_TSHADOW_LO_ADDR * 64 + s.fld F.RNG_TSHADOW_HI_ADDR * 2 ^ 32
      let s : State := { s with ept := { s.ept with cache := l.filter (· ≠ f) } }
      (s.unitWrite (engine 12) (base + 64 * f) (s.entry 0 f)).2
    | none => { s with ept := { s.ept with cache := l } }

/-- An entry that is not accepted: its flag, LAST_TORN; an endpoint without an accepted copy shows TORN, and one found torn has no
consistent tick until REJOIN begins anew (R47, R110, R545). -/
def State.keepEntry (s : State) (t i : Nat) (f : Fld) (torn : Bool) : State :=
  let s := (s.tableFlag f t).setFld (F.RNG_TSTAT_LAST_TORN t) i
  if t = 0 ∧ (torn ∨ s.entry 0 i = []) then s.updEp i (fun x => { x with torn := true }) else s

/-- An accepted entry refilled from the shadow region: the per-tick fields of R115 stay as its state record keeps them, the other
bytes are those read. -/
def refill (old new : List Byte) : List Byte :=
  let keep (i : Nat) : Bool := i = 2 || (8 ≤ i && i < 18) || (20 ≤ i && i < 44)
  (List.range 64).map (fun i =>
    if keep i then old.getD i 0
    else if i = 18 then BitVec.ofNat 8 (eAxis old + field new 18 1 / 8 * 8)
    else new.getD i 0)

/-- Look the entry of endpoint e up as a slot for it is written: a hit, or a miss refilled from the shadow region (R45, R115). What the
refill changes takes effect at the next tick as a reload would (R112, log entry 51); a denied read keeps the accepted copy (R545). -/
def State.cacheFetch (s : State) (e : Nat) : State :=
  if s.ept.cache.contains e then (s.bump F.EPT_CHIT_COUNT).cachePut e
  else
    let base := s.fld F.RNG_TSHADOW_LO_ADDR * 64 + s.fld F.RNG_TSHADOW_HI_ADDR * 2 ^ 32
    let s := s.bump F.EPT_CMISS_COUNT
    match s.unitRead (engine 12) (base + 64 * e) 64 with
    | (none, s) => s.keepEntry 0 e (F.RNG_TSTAT_DENIED 0) false
    | (some bs, s) =>
      let old := s.entry 0 e
      if old = [] then s
      else
        let new := refill old bs
        let s := if new = old then s else (s.setEntry 0 e new).updEp e (fun x => { x with fresh := true })
        s.cachePut e

/-- An entry of table 0 has been accepted (R97, R112, R115): CONFIG and its event where it is invalid; a doorbell has
covered it. -/
def State.acceptEpt (s : State) (e : Nat) : State :=
  let s := s.updEp e (fun x => { x with fresh := true, torn := x.torn && x.state ≠ epOUT, lerr := false })
  let s := s.cachePut e
  if s.epWhy (s.entry 0 e) = caCONFIG then (s.raiseFlag F.EPT_STAT_CONFIG 181).event 0x0302 [w32 e] else s

end Sys2Proof.Machine
end

