-- ==== Sys2Proof/Machine/Slots.lean ====
section
/-! DEFINITION. The slot engine: placing and emitting edges, remote records, pages and commits
(05_slot_tables.md), and an endpoint's way into and out of service, which rests on them. -/

namespace Sys2Proof.Machine

/-! ### Placing an edge (R126) -/

/-- The least time in ns after which a distance (2^-16 count, above 0) is covered at a rate (2^-32 count per µs) and
an acceleration per tick. -/
def reach (d v a : Int) : Option Int :=
  let k := 1000 * 2 ^ 16 * d
  let disc := v * v + a * k / 125000
  if disc < 0 then none
  else
    let den := v + isqrt disc.toNat
    if den ≤ 0 then none else some (2 * k / den)

/-- An instant rounded down to a whole µs. -/
def downUs (t : Int) : Nat := (t / 1000 * 1000).toNat

/-- The latency of an edge in ns. -/
def Edge.latNs (g : Edge) (c : List Byte) : Int :=
  if g.lat then 1000 * ((if g.on then eTon c else eToff c : Nat) : Int) else 0

/-- te of an edge that acts where its base reaches a place, or at a time, at tick t; none while it waits. -/
def State.placeTe (s : State) (e : Nat) (g : Edge) (t : Nat) : Option Nat :=
  let x := s.ep e
  let c := x.cfg
  if g.base = 2 then some (downUs (g.at_ - g.latNs c))
  else if s.axState (eAxis c) = axLOST then none
  else
    let still := s.flag (F.STR_AXSTAT_STILL (eAxis c))
    let pos := if g.base = 0 then x.odo else x.axPos
    let v := if g.base = 0 then x.rate else (s.axis (eAxis c)).rates.headD 0
    let a := if g.base = 0 then x.acc else if still then 0 else slope (s.axis (eAxis c)).rates
    let sg : Int := if g.back then -1 else 1
    let d := sg * (g.at_ - pos)
    if d ≤ 0 then some (downUs t)
    else match reach d (sg * v) (sg * a) with
      | some tau => some (downUs ((t : Int) + tau - g.latNs c))
      | none => none

/-- The width of a pitch pulse in µs, and whether it had to be widened to 1 µs (R130). -/
def pulseUs (c : List Byte) : Nat × Bool :=
  let w : Int := (ePwidth c : Int) + eTon c - eToff c
  if w < 1 then (1, true) else (w.toNat, false)

/-- Stretch r of pitch pulses of an endpoint, and a change of it. -/
def Ep.run (x : Ep) (r : Nat) : Option PRun := x.pRuns.find? (fun p => p.id = r)
def Ep.updRun (x : Ep) (r : Nat) (f : PRun → PRun) : Ep :=
  { x with pRuns := x.pRuns.map (fun p => if p.id = r then f p else p) }

/-- te of an edge of endpoint e at tick t (R126); none while it waits. Pitch pulse i of a stretch starts i pitches from where the level
became ON; its end follows the width later, and moves with it until the start has passed (R130, R141). -/
def State.edgeTe (s : State) (e : Nat) (g : Edge) (t : Nat) : Option Nat :=
  let x := s.ep e
  match g.src with
  | .pitch r i =>
    match x.run r with
    | some p => s.placeTe e { g with at_ := p.base + i * ePitch x.cfg * 2 ^ 16 } t
    | none => none
  | .pend r i =>
    match x.run r with
    | some p =>
      let w := 1000 * (pulseUs x.cfg).1
      let a := p.base + i * ePitch x.cfg * 2 ^ 16
      if i = 0 then some (p.on + w)
      else if (if g.back then x.odo - a else a - x.odo) ≤ 0 then none
      else (s.placeTe e { g with base := 0, at_ := a } t).map (· + w)
    | none => none
  | _ => s.placeTe e g t

/-! ### Slots (R121, R122) -/

/-- Word k of slot n of a page of cluster c. -/
def State.slotW (s : State) (c p n k : Nat) : Nat := (s.reg (R.SLT_PAGE c p n k)).toNat

def slMember (w : Nat) : Nat := w % 16
def slKind (w : Nat) : Nat := w / 16 % 8
def slBase (w : Nat) : Nat := w / 256 % 4
def slLat (w : Nat) : Bool := w / 1024 % 2 = 1
def slBack (w : Nat) : Bool := w / 2048 % 2 = 1
def slCount (w : Nat) : Nat := w / 65536

/-- The active page of cluster c. -/
def State.page (s : State) (c : Nat) : Nat := s.fld (F.SLT_CLSTAT_PAGE c)

/-- Slot n of cluster c's active page as it runs. -/
def State.run (s : State) (c n : Nat) : SRun := SMap.get (fun _ => SRun.init) s.slt.runs (64 * c + n)

def State.setRun (s : State) (c n : Nat) (r : SRun) : State :=
  { s with slt := { s.slt with runs := SMap.set (fun _ => SRun.init) s.slt.runs (64 * c + n) r } }

/-- The register and bit that mark slot n of cluster c as fired or skipped. -/
def firedAt (c n : Nat) : Fld := ⟨if n < 32 then R.SLT_FIRED_LO c else R.SLT_FIRED_HI c, n % 32, n % 32⟩

/-- The endpoint a slot word of cluster c names. -/
def slotEp (c w : Nat) : Nat := 16 * c + slMember w

/-- The starts and the ends of a slot: its gate events. -/
def slotCount (w : Nat) : Nat × Nat :=
  match slKind w with
  | 3 => (1, 1)
  | 4 => (slCount w, slCount w)
  | _ => (1, 0)

/-- Step k of slot n of a page of cluster c, AT being at0: start k / 2 at even k, end k / 2 at odd k (R124, R129). -/
def State.slotStep (s : State) (c p n k : Nat) (at0 : Int) : Edge :=
  let w := s.slotW c p n 0
  let dur := s.slotW c p n 2
  let per := s.slotW c p n 3
  let off : Int := (k / 2 * per + (if k % 2 = 1 then dur else 0) : Nat)
  let unit : Int := if slBase w = 2 then 1000 else 2 ^ 16
  let back := slBack w && slBase w ≠ 2
  ⟨.slot n k, if slKind w = 2 then false else decide (k % 2 = 0), slBase w,
    if back then at0 - off * unit else at0 + off * unit, back, slLat w⟩

/-- Skip and count a slot (R122). -/
def State.slotSkip (s : State) (c n : Nat) : State :=
  ((s.setFld (firedAt c n) 1).bump F.SLT_SKIPCNT_COUNT).raiseFlag F.SLT_STAT_SKIPPED 182

/-- AT of a slot of a page of cluster c as a whole position or time where it becomes evaluable at an instant; none where it is invalid or
lies behind (R122). -/
def State.slotOpen (s : State) (c p n t : Nat) : Option Int :=
  let w := s.slotW c p n 0
  let e := slotEp c w
  let x := s.ep e
  let k := slKind w
  let dur := s.slotW c p n 2
  let at_ := s.slotW c p n 1
  if 5 ≤ k ∨ slBase w = 3 ∨ (3 ≤ k ∧ dur = 0) ∨ (k = 4 ∧ (slCount w = 0 ∨ s.slotW c p n 3 ≤ dur)) ∨ !eOutput x.cfg then none
  else if slBase w = 2 then
    let d := sdiff32 at_ (t % 2 ^ 32)
    if d < 0 then none else some ((t : Int) + d)
  else
    let pos := if slBase w = 0 then s.odoAt e t else s.axPos (eAxis x.cfg) t
    let at0 := (pos / 2 ^ 16 + sdiff32 at_ (toBits 32 (pos / 2 ^ 16))) * 2 ^ 16
    let d := if slBack w then pos - at0 else at0 - pos
    if d < 0 then none else some at0

/-- Judge a slot of the active page that becomes evaluable at an instant (R122): skipped where it is invalid or behind. -/
def State.slotSee (s : State) (c n t : Nat) : State :=
  let p := s.page c
  let w := s.slotW c p n 0
  if slKind w = 0 ∨ s.flag (firedAt c n) ∨ (s.run c n).seen ∨ (s.ep (slotEp c w)).state = epOUT then s
  else match s.slotOpen c p n t with
    | some a => s.setRun c n ⟨true, a, 0, 0⟩
    | none => s.slotSkip c n

/-- Judge every slot of cluster c that has become evaluable. -/
def State.slotSeeAll (s : State) (c t : Nat) : State := (List.range 64).foldl (fun s n => s.slotSee c n t) s

/-! ### Levels (R124) -/

/-- The computed level: decision level AND gate; the decision level of an endpoint that is not coverage-driven is ON. -/
def Ep.computed (x : Ep) : Bool := (x.decLvl || !eCovDriven x.cfg) && x.gate

/-- Whether the module emits computed levels of an endpoint: IN, no override, not masked (R111, R125, R25). -/
def State.emits (s : State) (e : Nat) : Bool :=
  let x := s.ep e
  x.state = epIN && x.ovr = 0 && !s.tdmMasked && s.flag F.SLT_CTL_EN && eOutput x.cfg

/-- Sort key of inputs of one µs: decision edges, carried edges, slots by index and their steps in order (R124). -/
def EdgeSrc.rank : EdgeSrc → Nat
  | .dec _ => 0
  | .carry _ => 1
  | .old => 1
  | .slot s k => 2 + 2 ^ 18 * s + k
  | .pitch _ _ => 2 ^ 25
  | .pend _ _ => 2 ^ 25
  | .align => 2 ^ 25

/-- Whether an input is a pitch pulse's start, or its end. -/
def EdgeSrc.isPitch : EdgeSrc → Bool
  | .pitch _ _ => true
  | _ => false
def EdgeSrc.isPend : EdgeSrc → Bool
  | .pend _ _ => true
  | _ => false

/-- Arm an input of endpoint e. -/
def State.arm1 (s : State) (e : Nat) (g : Edge) (t : Nat) : State :=
  { s with slt := { s.slt with armed := s.slt.armed ++ [⟨e, g, t⟩] } }

/-- Drop the armed inputs that a test selects. -/
def State.disarm (s : State) (p : Armed → Bool) : State :=
  { s with slt := { s.slt with armed := s.slt.armed.filter (fun a => !p a) } }

/-- The predicted instant of a held decision edge: of the armed input, of the record in the issue list, or as last placed. -/
def State.heldTe (s : State) (e : Nat) (d : Edge × Option Nat) : Option Nat :=
  match s.slt.armed.find? (fun a => a.ep = e && a.edge.src = d.1.src),
      s.slt.issue.find? (fun i => i.ep = e && i.edge.src = d.1.src && !i.gone) with
  | some a, _ => some a.at_
  | none, some i => some i.act
  | none, none => d.2

/-- Drop the conditionally armed inputs that a test selects (R135). -/
def State.dropCond (s : State) (p : Armed → Bool) : State :=
  { s with slt := { s.slt with cond := s.slt.cond.filter (fun a => !p a) } }

/-- The decision rows of endpoint e (R123, Table 5-8); SEQ and REV of an issued edge. -/
def State.showDecs (s : State) (e : Nat) : State :=
  let c := e / 16
  let m := e % 16
  [0, 1].foldl (fun s q =>
    match (s.ep e).decs[q]? with
    | none => (List.range 4).foldl (fun s k => s.setReg (R.SLT_DEC c m q k) 0) s
    | some (g, te) =>
      let te := s.heldTe e (g, te)
      let w0 := m + 16 * (if g.on then 1 else 2) + 1024 + (if g.back then 2048 else 0)
      let seq := match s.slt.issue.find? (fun i => i.ep = e && i.edge.src = g.src && !i.gone) with
        | some i => i.seq + 2 ^ 16 * i.rev
        | none => 0
      let s := s.setReg (R.SLT_DEC c m q 0) (w32 w0)
      let s := s.setReg (R.SLT_DEC c m q 1) (w32 (toBits 32 (g.at_ / 2 ^ 16)))
      let s := s.setReg (R.SLT_DEC c m q 2) (w32 (te.getD 0))
      s.setReg (R.SLT_DEC c m q 3) (w32 seq)) s

/-! ### Remote records (R138-R142, R147) -/

/-- Pair time minus own MTB at an instant: the offset of TDM_PTOFS as last measured, moved on at its rate (R461). -/
def State.pairOfs (s : State) (t : Nat) : Int :=
  sext 64 (s.reg64 R.TDM_PTOFS_LO R.TDM_PTOFS_HI) + s.tdm.pRate * ((t : Int) - s.tdm.pAt) / 10 ^ 12

/-- A module-time instant as a remote frame carries it: short pair time (R461). -/
def State.pairShort (s : State) (t : Nat) : Nat := toBits 32 ((t : Int) + s.pairOfs t)

/-- Put a payload in front of the others waiting for its node. -/
def insImm (r : OutRec) : List OutRec → List OutRec
  | [] => [r]
  | q :: l => if q.bus = r.bus && q.node = r.node && !q.imm then r :: q :: l else q :: insImm r l

/-- Hand a payload to its bus: dropped while the module is masked or the bus refuses frames (R147, R430). -/
def State.sendOut (s : State) (r : OutRec) : State :=
  if s.tdmMasked || !s.busUp r.bus then s
  else { s with slt := { s.slt with out := if r.imm then insImm r s.slt.out else s.slt.out ++ [r] } }

/-- The 12 bytes of an edge record (Table 5-4). -/
def recBytes (seq idx : Nat) (level cancel imm : Bool) (rev rate act : Nat) : List Byte :=
  leBytes 2 seq ++ leBytes 2 (idx + (if level then 2 ^ 12 else 0) + (if cancel then 2 ^ 13 else 0) + (if imm then 2 ^ 14 else 0)) ++
    leBytes 1 rev ++ [0] ++ leBytes 2 rate ++ leBytes 4 act

/-- Send the record of an issue. -/
def State.sendIssue (s : State) (i : Issue) : State :=
  s.sendOut ⟨i.bus, i.node, 1,
    recBytes i.seq (eIndex (s.ep i.ep).cfg) i.level i.gone false i.rev i.rate (s.pairShort i.act), false⟩

/-- Take the next SEQ of a node (R140). -/
def State.takeSeq (s : State) (b n : Nat) : Nat × State :=
  let x := s.node b n
  (x.next, s.setNode b n { x with next := (x.next + 1) % 2 ^ 16 })

/-- The command a record carries: of a RATE endpoint that sends it to its transport (R107, Table 5-4). -/
def Ep.recRate (x : Ep) : Nat := if eKind x.cfg = kRATE && !eRdest x.cfg then x.rcmd else 0

/-- Send a record with IMM (R142); a masked module numbers and sends nothing (R457). -/
def State.sendImm (s : State) (e : Nat) (level : Bool) : State :=
  if s.tdmMasked then s else
  let x := s.ep e
  let c := x.cfg
  let (seq, s) := s.takeSeq (eBus c) (eNode c)
  (s.updEp e (fun x => { x with sent := x.recRate })).sendOut ⟨eBus c, eNode c, 1, recBytes seq (eIndex c) level false true 0 x.recRate (s.pairShort s.now), true⟩

/-- NCARRY of cluster c. -/
def State.showCarry (s : State) (c : Nat) : State :=
  s.setFld (F.SLT_CLSTAT_NCARRY c) ((s.slt.carries.filter (fun a => a.cl = c)).length)

/-- A carried edge is used up, or belongs to the issue list from here on (R136). -/
def State.dropCarry (s : State) (c id : Nat) : State :=
  ({ s with slt := { s.slt with carries := s.slt.carries.filter (fun a => a.id ≠ id) } } : State).showCarry c

/-- Issue a record for an edge of endpoint e with ACT te at tick t (R140): whether the list had room. A carried edge leaves its
cluster with that. -/
def State.issue (s : State) (e : Nat) (g : Edge) (te t : Nat) (level : Bool) : Bool × State :=
  if 8192 ≤ s.slt.issue.length then (false, s.raiseFlag F.SLT_STAT_ISSUE_FULL 182)
  else
    let x := s.ep e
    let c := x.cfg
    let (seq, s) := s.takeSeq (eBus c) (eNode c)
    let s := if te < t + 1000000 * eLead c then s.raiseFlag F.SLT_STAT_RLATE 182 else s
    let s := s.updEp e (fun x => { x with sent := x.recRate })
    let (g, s) := match g.src with
      | .carry id => ({ g with src := .old }, s.dropCarry (e / 16) id)
      | _ => (g, s)
    let i : Issue := ⟨e, eBus c, eNode c, seq, 0, g, level, x.recRate, te, s.fld F.SLT_RMT_REPEAT, t, false, false⟩
    (true, ({ s with slt := { s.slt with issue := s.slt.issue ++ [i] } } : State).sendIssue i)

/-- Issue a record that changes the level of endpoint e (R140). For a PULSE endpoint it starts a stretch of pitch pulses, numbered by
its SEQ, or ends the last one (R130). -/
def State.issueLevel (s : State) (e : Nat) (g : Edge) (te t : Nat) (level : Bool) : Bool × State :=
  let c := (s.ep e).cfg
  let seq := (s.node (eBus c) (eNode c)).next
  let (ok, s) := s.issue e g te t level
  if !ok ∨ eKind c ≠ kPULSE then (ok, s)
  else if level then
    let (w, adj) := pulseUs c
    let s := if adj then s.raiseFlag F.SLT_STAT_PWIDTH_ADJ 182 else s
    (true, s.updEp e (fun x => { x with pRuns := x.pRuns ++ [⟨seq, s.odoAt e te, te, 0, some (0, te + 1000 * w), none⟩] }))
  else
    (true, s.updEp e (fun x => { x with pRuns := x.pRuns.map (fun p => if p.off.isNone then { p with off := some (seq, te) } else p) }))

/-- Records that have acted or are withdrawn and have no transmission left leave the list. -/
def State.trimIssue (s : State) : State :=
  { s with slt := { s.slt with issue := s.slt.issue.filter (fun i => !((i.fired || i.gone) && i.left = 0)) } }

/-- Rewrite the issue list record by record, each rewrite free to send. -/
def State.eachIssue (s : State) (f : State → Issue → Issue × State) : State :=
  let l := s.slt.issue
  let s : State := { s with slt := { s.slt with issue := [] } }
  l.foldl (fun s i =>
    let (i, s) := f s i
    { s with slt := { s.slt with issue := s.slt.issue ++ [i] } }) s

/-- A record with a SEQ that opened or closed a stretch of pitch pulses is withdrawn: the stretch goes, or goes on. -/
def Ep.unplan (x : Ep) (seq : Nat) : Ep :=
  { x with pRuns := (x.pRuns.filter (fun p => p.id ≠ seq)).map (fun p => match p.off with
    | some (q, _) => if q = seq then { p with off := none } else p
    | none => p) }

/-- A record with a SEQ that opened or closed a stretch of pitch pulses has a new ACT, at an odometer position. -/
def Ep.replan (x : Ep) (seq te : Nat) (odo : Int) : Ep :=
  { x with pRuns := x.pRuns.map (fun p =>
    let p := if p.id = seq then { p with on := te, base := odo } else p
    match p.off with
    | some (q, _) => if q = seq then { p with off := some (q, te) } else p
    | none => p) }

/-- Whether issued record i may still be corrected or cancelled at an instant (R141). -/
def State.open_ (s : State) (i : Issue) (t : Nat) : Bool :=
  !i.fired && !i.gone && decide (t + 1000 * s.fld F.SLT_RMT_CUTOFF ≤ i.act)

/-- Withdraw issued records of endpoint e that a test selects (R141): CANCEL, up to the cutoff. The list of a masked module
is its partner's (R457). -/
def State.withdraw (s : State) (e : Nat) (p : Issue → Bool) : State :=
  if s.tdmMasked then s else
  (s.eachIssue (fun s i =>
    if i.ep = e && p i && s.open_ i s.now then
      let i := { i with gone := true, rev := (i.rev + 1) % 256, left := s.fld F.SLT_RMT_REPEAT, sentAt := s.now }
      (i, ((s.bump F.SLT_CANCNT_COUNT).updEp e (fun x => x.unplan i.seq)).sendIssue i)
    else (i, s))).trimIssue

/-- Correct the issued records of endpoint e at tick t (R141). -/
def State.correct (s : State) (e t : Nat) : State :=
  if s.tdmMasked then s else
  s.eachIssue (fun s i =>
    if i.ep = e && s.open_ i t then
      match s.edgeTe e i.edge t with
      | some te =>
        if 1000 * eCtol (s.ep e).cfg < ((te : Int) - i.act).natAbs then
          let i := { i with act := te, rev := (i.rev + 1) % 256, left := s.fld F.SLT_RMT_REPEAT, sentAt := t }
          let odo := s.odoAt e te
          (i, ((s.bump F.SLT_CORRCNT_COUNT).updEp e (fun x => x.replan i.seq te odo)).sendIssue i)
        else (i, s)
      | none => (i, s)
    else (i, s))

/-! ### Pitch pulses (R130) -/

/-- Arm an input at a scan that completes at an instant: before it, it acts at completion and counts LATE (R127). -/
def State.armScan (s : State) (e : Nat) (p : Edge × Nat) (done : Nat) : State :=
  let s := if p.2 < done then (s.bump F.SLT_LATECNT_COUNT).raiseFlag F.SLT_STAT_LATE 182 else s
  s.arm1 e p.1 (max p.2 done)

/-- Pulses of stretch r after the last one placed that the motion at tick t starts before a horizon: edge and te. -/
def State.pitches (s : State) (e r t hor : Nat) : Nat → Int → List (Edge × Nat)
  | 0, _ => []
  | fuel + 1, i =>
    let back := decide ((s.ep e).rate < 0)
    let j := if back then i - 1 else i + 1
    let g : Edge := ⟨.pitch r j, true, 0, 0, back, false⟩
    match s.edgeTe e g t with
    | some te => if te < hor then (g, te) :: State.pitches s e r t hor fuel j else []
    | none => []

/-- How many pitch positions a motion can pass before a horizon, at most. -/
def State.pitchFuel (s : State) (e t hor : Nat) : Nat :=
  let x := s.ep e
  let us := (hor - t) / 1000 + 1
  ((x.rate.natAbs * us + x.acc.natAbs * us * us / 500) / 2 ^ 32) / max 1 (ePitch x.cfg) + 2

/-- Arm the pitch pulses of a stretch that the motion at tick t starts before the horizon of its scan. -/
def State.armPitches (s : State) (e t done : Nat) : State :=
  match (s.ep e).pRuns with
  | [] => s
  | p :: _ =>
    let hor := t + 500000
    (s.pitches e p.id t hor (s.pitchFuel e t hor) p.idx).foldl (fun s g =>
      (s.armScan e g done).updEp e (fun x => x.updRun p.id (fun p => { p with idx := match g.1.src with | .pitch _ i => i | _ => p.idx }))) s

/-- Start pitch pulse i of a stretch of endpoint e at an instant; one in progress is extended; PWIDTH 0 skips it (R130). -/
def State.pulseStart (s : State) (e t r : Nat) (i : Int) : State :=
  let x := s.ep e
  let c := x.cfg
  if ePwidth c = 0 then (s.bump F.SLT_SKIPCNT_COUNT).raiseFlag F.SLT_STAT_SKIPPED 182
  else
    let (w, adj) := pulseUs c
    let s := if adj then s.raiseFlag F.SLT_STAT_PWIDTH_ADJ 182 else s
    let s := if x.out then s else s.drive e true t
    let s := s.updEp e (fun x => { x with out := true })
    (s.disarm (fun a => a.ep = e && a.edge.src.isPend)).arm1 e ⟨.pend r i, false, 2, 0, false, false⟩ (t + 1000 * w)

/-- Whether the pulses of an endpoint go out as records: a remote one's, but for those that PWIDTH 0 skips. -/
def Ep.pulseRecs (x : Ep) : Bool := eKind x.cfg = kPULSE && eRemote x.cfg && ePwidth x.cfg ≠ 0

/-- Stop the pitch pulses of endpoint e; stretches planned to begin at or after an instant stay. -/
def State.pulseStop (s : State) (e t : Nat) : State :=
  let s := s.disarm (fun a => a.ep = e && (a.edge.src.isPend || a.edge.src.isPitch))
  s.updEp e (fun x => { x with pRun := false, out := false, pRuns := if x.pulseRecs then x.pRuns.filter (fun p => t ≤ p.on) else [] })

/-! ### Emission (R113, R125, R128, R130) -/

/-- The level of endpoint e changes at te. A PULSE endpoint starts or ends its pulses, and delivers from its ON to its OFF edge (R170); a
RATE endpoint's last command goes along with ON. -/
def State.setLevel (s : State) (e : Nat) (on : Bool) (te : Nat) : State :=
  let x := s.ep e
  let s := s.updEp e (fun x => { x with level := on })
  if eKind x.cfg = kPULSE then
    let s := if !eRemote x.cfg && s.tdmMasked then s else s.updEp e (fun x => x.deliver on te)
    if on then
      let s := s.updEp e (fun y => { y with pRun := true, out := x.pulseRecs })
      if x.pulseRecs then s
      else
        let s := s.updEp e (fun y => { y with pRuns := [⟨0, s.odoAt e te, te, 0, none, none⟩] })
        (s.pulseStart e te 0 0).armPitches e s.ept.tickAt te
    else
      let s := s.pulseStop e te
      if x.out then s.drive e false te else s
  else
    let s := if on then s.driveRate e x.rcmd else s
    s.emitOut e on te

/-- Force the output of endpoint e to a level now: an edge to its channel, an IMM record to its node (R113, R125). A PULSE endpoint forced
ON shows a steady level: its odometer is not advanced then. -/
def State.force (s : State) (e : Nat) (on : Bool) : State :=
  let x := s.ep e
  if !eOutput x.cfg then s
  else
    let s := s.pulseStop e s.now
    let s := s.updEp e (fun x => { x with level := on, pRuns := [] })
    let s := if on then s.driveSafe e x.rcmd else s
    let s := s.emitOut e on s.now
    if eRemote x.cfg then s.sendImm e on else s

/-- Apply one input to endpoint e: decision level or gate, and what it uses up. -/
def State.applyInput (s : State) (e : Nat) (g : Edge) : State :=
  match g.src with
  | .dec _ => s.updEp e (fun x => { x with decLvl := g.on, decs := x.decs.filter (fun d => d.1.src ≠ g.src) })
  | .slot n k =>
    let c := e / 16
    let s := s.updEp e (fun x => { x with gate := g.on })
    let r := s.run c n
    let r := if k % 2 = 0 then { r with starts := max r.starts (k / 2 + 1) } else { r with ends := max r.ends (k / 2 + 1) }
    let s := s.setRun c n r
    let m := slotCount (s.slotW c (s.page c) n 0)
    if m.1 ≤ r.starts ∧ m.2 ≤ r.ends then s.setFld (firedAt c n) 1 else s
  | .carry i => (s.updEp e (fun x => { x with gate := g.on })).dropCarry (e / 16) i
  | .old => s.updEp e (fun x => { x with gate := g.on })
  | _ => s

/-- A record of endpoint e reaches its ACT (R140): LEVEL follows it; a pitch pulse starts or ends. -/
def State.recAct (s : State) (e t : Nat) (i : Issue) : State :=
  let x := s.ep e
  if i.edge.src.isPitch || i.edge.src.isPend then
    (if x.pRun then s.updEp e (fun x => { x with out := i.edge.src.isPitch }) else s)
  else if x.level = i.level then s
  else if s.emits e then s.setLevel e i.level t
  else if i.edge.src = .align then s.updEp e (fun x => { x with level := i.level })
  else s

/-- The latest result of the local input an endpoint samples (R131). -/
def State.senseNow (s : State) (c : List Byte) : Nat :=
  let n := eChan c
  match eTop c with
  | 2 => s.fld (F.DIO_INLVL_LEVEL (n / 32)) / 2 ^ (n % 32) % 2
  | 3 => (s.reg (R.AFE_RES n)).toNat
  | _ => (s.reg (R.PLS_RATE n)).toNat

/-- The inputs of endpoint e that act at an instant, and the records that reach their ACT (R124, R128, R140). A change of a remote
endpoint that no record carries is issued at once, or at the next tick where the list is full. A local SENSE endpoint samples (R131). -/
def State.fireEp (s : State) (e t : Nat) (l : List Edge) (recs : List Issue) : State :=
  if eKind (s.ep e).cfg = kSENSE then s.updEp e (fun x => { x with val := s.senseNow x.cfg }) else
  let inputs := sortBy (fun a b => a.src.rank ≤ b.src.rank) l
  let s := inputs.foldl (fun s g => s.applyInput e g) s
  let s := recs.foldl (fun s i => s.recAct e t i) s
  let x := s.ep e
  let pulsed := eKind x.cfg = kPULSE && !x.pulseRecs
  let s := if s.emits e ∧ x.computed ≠ x.level then
      if !eRemote x.cfg ∨ pulsed then s.setLevel e x.computed t
      else
        let (ok, s) := s.issueLevel e ⟨.align, x.computed, 2, t, false, false⟩ t t x.computed
        if ok then s else s.updEp e (fun x => { x with align := true })
    else s
  let s := if pulsed then
      (match l.find? (fun g => g.src.isPitch) with
      | some ⟨.pitch r i, _, _, _, _, _⟩ => if (s.ep e).pRun then s.pulseStart e t r i else s
      | _ =>
        if l.any (fun g => g.src.isPend) && (s.ep e).out && x.out then (s.drive e false t).updEp e (fun x => { x with out := false }) else s)
    else s
  s.showDecs e

/-- Everything that acts at an instant acts, endpoint by endpoint (R128). -/
def State.emitAt (s : State) (t : Nat) : State :=
  let arm := s.slt.armed.filter (fun a => a.at_ = t)
  let iss := s.slt.issue.filter (fun i => !i.fired && !i.gone && i.act = t)
  let s := s.disarm (fun a => a.at_ = t)
  let s : State := { s with slt := { s.slt with issue := s.slt.issue.map (fun i =>
    if !i.fired && !i.gone && i.act = t then { i with fired := true } else i) } }
  let eps := sortBy (fun a b => decide (a ≤ b)) ((arm.map (·.ep) ++ iss.map (·.ep)).eraseDups)
  (eps.foldl (fun s e =>
    if (s.ep e).state = epOUT then s
    else
      let recs := iss.filter (fun i => i.ep = e)
      s.fireEp e t ((arm.filter (fun a => a.ep = e)).map (·.edge) ++ recs.map (·.edge)) recs) s).trimIssue

/-- The instant whose inputs and records act now: the earliest, once it has come and no tick and no page swap comes before it (R128, R135). -/
def State.emitDue (s : State) : Option Nat :=
  match s.nextEmit with
  | some t =>
    let first : Bool := match s.nextSwap with
      | some u => decide (t ≤ u)
      | none => true
    if t ≤ s.now ∧ t ≤ s.str.tickAt + 50000 ∧ t ≤ s.ept.tickAt + 250000 ∧ first then some t else none
  | none => none

/-- EDGE_EMIT (R128): the inputs and records of the earliest instant that has come; before its turn nothing acts. -/
def execEdgeEmit (s : State) : Out :=
  match s.emitDue with
  | some t => .next (s.emitAt t)
  | none => .next s

/-! ### Service states (R98, R109, R113) -/

/-- Drop the pending edges of endpoint e (R113, R137): decisions, armed inputs, carried edges, started slots; its issued
records are cancelled. -/
def State.dropEdges (s : State) (e : Nat) : State :=
  let c := e / 16
  let s := s.withdraw e (fun _ => true)
  let s : State := { s with slt := { s.slt with
    issue := s.slt.issue.map (fun i => if i.ep = e then { i with fired := true } else i)
    carries := s.slt.carries.filter (fun a => a.ep ≠ e) } }
  let s := ((s.trimIssue.disarm (fun a => a.ep = e)).dropCond (fun a => a.ep = e)).showCarry c
  let s := (List.range 64).foldl (fun s n =>
    if slotEp c (s.slotW c (s.page c) n 0) = e ∧ (s.run c n).seen then
      (if 0 < (s.run c n).starts ∨ 0 < (s.run c n).ends then s.setFld (firedAt c n) 1 else s).setRun c n SRun.init
    else s) s
  (s.updEp e (fun x => { x with decs := [], pRun := false, pRuns := [] })).showDecs e

/-- Endpoint e leaves its binding: edges dropped, output to safe state, channel released (R112, R113). -/
def State.epLeave (s : State) (e : Nat) : State :=
  let s := s.dropEdges e
  let s := s.updEp e (fun x => { x with rcmd := x.safeCmd, ovr := 0, align := false, pl := false, front := none, missAt := none })
  let x := s.ep e
  if eOutput x.cfg then (s.force e x.safeOn).leaveChan e else s

/-- Endpoint e leaves service with a cause (Table 4-6). -/
def State.epOut (s : State) (e cause : Nat) : State :=
  if (s.ep e).state = epOUT then s.updEp e (fun x => { x with cause := cause }) else (s.epLeave e).epTo e epOUT cause

/-- Endpoint e loses its channel (R98): OUT with cause CONFLICT, EPT_STAT.CONFLICT. -/
def State.epLose (s : State) (e : Nat) : State :=
  let was := (s.ep e).state
  let s := s.raiseFlag F.EPT_STAT_CONFLICT 181
  if was = epOUT then s.updEp e (fun x => { x with cause := caCONFLICT }) else s.epOut e caCONFLICT

/-- Endpoint e enters REJOIN at tick t on an entry, its channel free (Table 4-6, R124, R173); while mirroring its odometer is
the partner's (R459). -/
def State.epJoin (s : State) (e cause t : Nat) (c : List Byte) : State :=
  let x := s.ep e
  let p := s.axPos (eAxis c) t
  let p0 := if s.tdm.mirror then SMap.get (fun _ => p) s.tdm.odos e else p
  let cov := eCovDriven c
  let s := s.setEp e { Ep.init with
    used := true, state := x.state, cause := x.cause, cfg := c, lerr := x.lerr, level := x.level
    odo := p0, axPos := p, decLvl := !cov, gate := cov, first := true, dlv := x.dlv, delivers := x.delivers }
  let s := s.updEp e (fun x => { x with rcmd := x.safeCmd, sIdx := p0 / 2 ^ 16 / (max 1 (ePitch c) : Nat) })
  let s := (s.epTo e epREJOIN cause).takeChan e
  let on := (s.ep e).safeOn
  if !eOutput c then s
  else
    let s := s.updEp e (fun x => { x with level := on })
    if eRemote c then s else s.emitOut e on s.now

/-- Endpoint e enters REJOIN at tick t on its accepted entry; of two that name one channel the lower index keeps it (R98). -/
def State.epRejoin (s : State) (e cause t : Nat) : State :=
  let c := s.entry 0 e
  match s.rival e c with
  | some f => if f < e then s.epLose e else (s.epLose f).epJoin e cause t c
  | none => s.epJoin e cause t c

/-- An OUT endpoint that may enter service at tick t (R109, R114, R117): REJOIN, or the cause its entry and axis give. -/
def State.epAdmit (s : State) (e t : Nat) : State :=
  let c := s.entry 0 e
  let why := s.epWhy c
  let why := if c = [] && (s.ep e).torn then caTORN else why
  if why ≠ caNONE then s.updEp e (fun x => { x with used := true, cfg := c, cause := why })
  else if s.axState (eAxis c) = axDISABLED then s.updEp e (fun x => { x with used := true, cfg := c, cause := caAXIS })
  else s.epRejoin e caNONE t

/-- Endpoint e goes IN (Table 4-6, R173): mask removed, frontier cleared, alignment due at the next tick. -/
def State.epEnter (s : State) (e : Nat) : State :=
  (s.epTo e epIN (s.ep e).cause).updEp e (fun x => { x with
    align := true, front := none, first := true, sIdx := x.odo / 2 ^ 16 / (max 1 (ePitch x.cfg) : Nat) })

/-! ### The scan (R127, R140, R141) -/

/-- Whether an edge of endpoint e is armed or issued already. -/
def State.placed (s : State) (e : Nat) (src : EdgeSrc) : Bool :=
  s.slt.armed.any (fun a => a.ep = e && a.edge.src = src) ||
    s.slt.issue.any (fun i => i.ep = e && i.edge.src = src && !i.fired && !i.gone)

/-- Starts (par 0) or ends (par 1) from number i on, of a slot, that come before a horizon, with their te. -/
def State.stepsDue (s : State) (e c p n t hor : Nat) (at0 : Int) (par : Nat) : Nat → Nat → List (Edge × Nat)
  | 0, _ => []
  | fuel + 1, i =>
    let g := s.slotStep c p n (2 * i + par) at0
    match s.edgeTe e g t with
    | some te => if te < hor then (g, te) :: State.stepsDue s e c p n t hor at0 par fuel (i + 1) else []
    | none => []

/-- The steps of slot n of a page that come before a horizon, from a start and an end on (R129). -/
def State.slotDue (s : State) (e c p n t hor : Nat) (r : SRun) : List (Edge × Nat) :=
  let m := slotCount (s.slotW c p n 0)
  s.stepsDue e c p n t hor r.at0 0 (m.1 - r.starts) r.starts ++ s.stepsDue e c p n t hor r.at0 1 (m.2 - r.ends) r.ends

/-- The pending inputs of endpoint e that come before a horizon (R127), with their te. -/
def State.pendings (s : State) (e t hor : Nat) : List (Edge × Nat) :=
  let c := e / 16
  let keep (g : Edge) : List (Edge × Nat) := match s.edgeTe e g t with
    | some te => if te < hor then [(g, te)] else []
    | none => []
  let decs := (s.ep e).decs.flatMap (fun d => keep d.1)
  let car := (s.slt.carries.filter (fun a => a.ep = e)).flatMap (fun a => keep a.edge)
  let slots := (List.range 64).flatMap (fun n =>
    let r := s.run c n
    if r.seen && slotEp c (s.slotW c (s.page c) n 0) = e && !s.flag (firedAt c n) then s.slotDue e c (s.page c) n t hor r else [])
  (decs ++ car ++ slots).filter (fun p => !s.placed e p.1.src)

/-- The scan of a local endpoint at tick t (R127, R130). -/
def State.scanLocal (s : State) (e t done : Nat) : State :=
  let s := (s.pendings e t (t + 500000)).foldl (fun s p => s.armScan e p done) s
  if eKind (s.ep e).cfg = kPULSE ∧ (s.ep e).pRun ∧ s.emits e then s.armPitches e t done else s

/-- The inputs of a remote endpoint in order of instant, each with whether it is placed already. -/
def State.outlook (s : State) (e t hor : Nat) : List (Edge × Nat × Bool) :=
  let news := (s.pendings e t hor).map (fun p => (p.1, p.2, false))
  let old := (s.slt.armed.filter (fun a => a.ep = e)).map (fun a => (a.edge, a.at_, true)) ++
    (s.slt.issue.filter (fun i => i.ep = e && !i.fired && !i.gone)).map (fun i => (i.edge, i.act, true))
  sortBy (fun a b => a.2.1 < b.2.1 || (a.2.1 = b.2.1 && a.1.src.rank ≤ b.1.src.rank)) (old ++ news)

/-- The effect of an input on decision level and gate. -/
def Edge.acts (g : Edge) (p : Bool × Bool) : Bool × Bool :=
  match g.src with
  | .dec _ => (g.on, p.2)
  | .slot _ _ => (p.1, g.on)
  | .carry _ => (p.1, g.on)
  | .old => (p.1, g.on)
  | _ => p

/-- Issue what changes the predicted level of a remote endpoint, arm what does not (R140). -/
def State.issueAll (s : State) (e t done : Nat) (can : Bool) : List (Edge × Nat × Bool) → Bool × Bool → State
  | [], _ => s
  | (g, te, placed) :: l, p =>
    let c := (s.ep e).cfg
    let p' := g.acts p
    let lvl (q : Bool × Bool) : Bool := (q.1 || !eCovDriven c) && q.2
    let s :=
      if placed then s
      else if can ∧ lvl p' ≠ lvl p ∧ !(eKind c = kPULSE && ePwidth c = 0) then (s.issueLevel e g te t (lvl p')).2
      else if te < t + 500000 then s.armScan e (g, te) done
      else s
    State.issueAll s e t done can l p'

/-- Issue the record of the end of the last pulse of stretch r that is placed (R130): the end stays to be placed where the list is
full. -/
def State.endPulse (s : State) (e t r : Nat) : State :=
  match ((s.ep e).run r).bind (·.open_) with
  | some (i, te) =>
    let (ok, s) := s.issue e ⟨.pend r i, false, 0, 0, decide ((s.ep e).rate < 0), false⟩ te t false
    if ok then s.updEp e (fun x => x.updRun r (fun p => { p with open_ := none })) else s
  | none => s

/-- Place one pulse of stretch r of a remote endpoint (R130): it extends the one before where that has not ended by then, be its end
issued already (then that record is withdrawn); else its start is issued after the end of that one. -/
def State.planPulse (s : State) (e t r : Nat) (g : Edge × Nat) : State :=
  match (s.ep e).run r, g.1.src with
  | some p, .pitch _ i =>
    let (w, adj) := pulseUs (s.ep e).cfg
    let late (q : Issue) : Bool := q.ep = e && (match q.edge.src with | .pend k _ => decide (k = r) | _ => false) && decide (g.2 ≤ q.act)
    let taken (s : State) : State :=
      (if adj then s.raiseFlag F.SLT_STAT_PWIDTH_ADJ 182 else s).updEp e (fun x => x.updRun r (fun p =>
        { p with idx := i, open_ := some (i, g.2 + 1000 * w) }))
    let unended : Bool := match p.open_ with
      | some (_, pe) => decide (g.2 ≤ pe)
      | none => false
    if (i - p.idx).natAbs ≠ 1 then s
    else if unended then taken s
    else if s.slt.issue.any (fun q => late q && s.open_ q s.now) then taken (s.withdraw e late)
    else
      let s := s.endPulse e t r
      if (((s.ep e).run r).bind (·.open_)).isSome then s
      else
        let (ok, s) := s.issue e g.1 g.2 t true
        if ok then taken s else s
  | _, _ => s

/-- The pulses of stretch r of a remote endpoint at tick t (R130, R140): starts before the level goes OFF and the horizon, and the end
of the last one. -/
def State.planRun (s : State) (e t hor r : Nat) : State :=
  match (s.ep e).run r with
  | none => s
  | some p =>
    let back := decide ((s.ep e).rate < 0)
    let o := p.open_.map (fun q => (q.1, (s.edgeTe e ⟨.pend r q.1, false, 0, 0, back, false⟩ t).getD q.2))
    let s := s.updEp e (fun x => x.updRun r (fun p => { p with open_ := o }))
    let off := p.off.map (·.2)
    let stop := min hor (off.getD hor)
    let s := (s.pitches e r t stop (s.pitchFuel e t hor) p.idx).foldl (fun s g => s.planPulse e t r g) s
    match ((s.ep e).run r).bind (·.open_) with
    | some (_, te) =>
      if (off.getD (te + 1)) ≤ te then s.updEp e (fun x => x.updRun r (fun p => { p with open_ := none }))
      else if te < hor then s.endPulse e t r
      else s
    | none => s

/-- Records of the pitch pulses of a remote PULSE endpoint (R130, R140): those of a stretch that is gone, or that its OFF edge has cut
short, are withdrawn. -/
def State.issuePitch (s : State) (e t hor : Nat) : State :=
  let x := s.ep e
  if !x.pulseRecs ∨ !s.emits e then s
  else
    let cut (r act : Nat) : Bool := match x.run r with
      | some p => (match p.off with | some (_, o) => decide (o ≤ act) | none => false)
      | none => true
    let s := s.withdraw e (fun i => match i.edge.src with
      | .pitch r _ => cut r i.act
      | .pend r _ => cut r i.act
      | _ => false)
    x.pRuns.foldl (fun s p => s.planRun e t hor p.id) s

/-- The scan of a remote endpoint at tick t (R140, R141). -/
def State.scanRemote (s : State) (e t done : Nat) : State :=
  let x := s.ep e
  let hor := t + 1000000 * eLead x.cfg + 500000
  let s := s.correct e t
  let s := s.issueAll e t done (s.emits e) (s.outlook e t hor) (x.decLvl, x.gate)
  let s := s.issuePitch e t hor
  if eKind x.cfg = kPULSE ∧ (s.ep e).pRun ∧ !x.pulseRecs ∧ s.emits e then s.armPitches e t done else s

/-- Whether one te comes no later than another; an edge that is not placed comes last. -/
def teBefore (a b : Option Nat) : Bool :=
  match a, b with
  | some x, some y => x ≤ y
  | some _, none => true
  | none, some _ => false
  | none, none => true

/-- Keep the te of held decision edges and carried edges up to date, decision edges in order of instant (R123, R126). -/
def State.retime (s : State) (e t : Nat) : State :=
  let now (d : Edge × Option Nat) : Edge × Option Nat := (d.1, if s.placed e d.1.src then s.heldTe e d else s.edgeTe e d.1 t)
  let s := s.updEp e (fun x => { x with decs := sortBy (fun a b => teBefore a.2 b.2) (x.decs.map now) })
  { s with slt := { s.slt with carries := s.slt.carries.map (fun a => if a.ep = e then { a with te := s.edgeTe e a.edge t } else a) } }

/-- The PITCH multiples that the motion of a SENSE endpoint passes before a horizon, in order: the index after each, and te (R131). -/
def State.samples (s : State) (e t hor : Nat) : Nat → Int → List (Int × Nat)
  | 0, _ => []
  | fuel + 1, i =>
    let x := s.ep e
    let back := decide (x.rate < 0)
    let j := if back then i else i + 1
    match s.placeTe e ⟨.align, true, 0, j * ePitch x.cfg * 2 ^ 16, back, false⟩ t with
    | some te => if te < hor then (if back then i - 1 else j, te) :: State.samples s e t hor fuel (if back then i - 1 else j) else []
    | none => []

/-- Sampling of endpoint e at a scan that completes at an instant (R131, R140): a SAMPLE record for each multiple a remote endpoint passes
before its horizon, an armed copy of the result for a local one. -/
def State.sense (s : State) (e t done : Nat) : State :=
  let x := s.ep e
  let c := x.cfg
  let hor := t + (if eRemote c then 1000000 * eLead c else 0) + 500000
  (s.samples e t hor (s.pitchFuel e t hor) x.sIdx).foldl (fun s p =>
    let s := s.updEp e (fun x => { x with sIdx := p.1 })
    if !eRemote c then s.arm1 e ⟨.align, true, 2, p.2, false, false⟩ (max p.2 done)
    else
      let (seq, s) := if s.tdmMasked then (0, s) else s.takeSeq (eBus c) (eNode c)
      s.sendOut ⟨eBus c, eNode c, 2, recBytes seq (eIndex c) false false false 0 0 (s.pairShort p.2), false⟩) s

/-- The slot scan of endpoint e at tick t, complete at an instant. -/
def State.scan (s : State) (e t done : Nat) : State :=
  let x := s.ep e
  if x.state = epOUT ∨ !s.flag F.SLT_CTL_EN then s
  else if eKind x.cfg = kSENSE then (if x.state = epIN then s.sense e t done else s)
  else if !eOutput x.cfg then s
  else
    let s := s.retime e t
    (if eRemote x.cfg then s.scanRemote e t done else s.scanLocal e t done).showDecs e

/-- A decision edge of the coverage engine for endpoint e at an own-odometer position (whole counts), at tick t (R123):
whether the slot engine takes it. It withdraws every held edge due after it. R123 orders edges by instant and does not say what an edge
without one is: a held edge without te counts as due after any new edge and is withdrawn, a new edge without te comes after every held
edge that has one (log entry 40). -/
def State.offer (s : State) (e t : Nat) (on : Bool) (pos : Int) (back : Bool) : Bool × State :=
  let g : Edge := ⟨.dec s.slt.nextId, on, 0, pos * 2 ^ 16, back, true⟩
  let te := s.edgeTe e g t
  let before (d : Edge × Option Nat) : Bool :=
    let u := s.heldTe e d
    u.isSome && teBefore u te
  let x := s.ep e
  let kept := x.decs.filter before
  if 2 ≤ kept.length then (false, s.raiseFlag F.SLT_STAT_DQ_FULL 182)
  else
    let lost := (x.decs.filter (fun d => !before d)).map (·.1.src)
    let s := if lost.isEmpty then s
      else (s.withdraw e (fun i => lost.contains i.edge.src)).disarm (fun a => a.ep = e && lost.contains a.edge.src)
    let s : State := { s with slt := { s.slt with nextId := s.slt.nextId + 1 } }
    (true, (s.updEp e (fun x => { x with decs := kept ++ [(g, te)] })).showDecs e)

/-! ### Pages and commits (R132-R137) -/

/-- Whether cluster c has a commit pending. -/
def State.hasCommit (s : State) (c : Nat) : Bool := s.slt.commits.any (fun m => m.cls.contains c)

/-- Bring PENDING and the point of cluster c up to date. -/
def State.showCommit (s : State) (c : Nat) : State :=
  let s := s.setBit (F.SLT_CLSTAT_PENDING c) (s.hasCommit c)
  match s.slt.commits.find? (fun m => m.cls.contains c) with
  | some m => s.setFld (F.SLT_CMTPT_POINT c) m.point
  | none => s.setFld (F.SLT_CMTPT_POINT c) 0

/-- Write a word of a slot page (R132): refused on the active page and on a shadow with a commit pending. -/
def State.writePage (s : State) (acc : Acc) (a : Nat) (w : Word) : State :=
  let o := a - R.SLT_PAGE 0 0 0 0
  let c := o / 0x800
  let p := o / 0x400 % 2
  if p = s.page c ∨ s.hasCommit c then (s.raiseFlag F.SLT_STAT_LOCKED_WR 182).denyAt 17 acc .write a
  else
    let s := s.writePlain a w
    if o % 16 / 4 = 0 ∧ slKind w.toNat ≠ 0 then s.cacheFetch (slotEp c w.toNat) else s

/-- SLOT_PAGE_WRITE (R132): a write of word k of slot n of page p of cluster c. -/
def execSlotPageWrite (acc : Acc) (c : Fin 256) (p : Fin 2) (n : Fin 64) (k : Fin 4) (value : Word) (s : State) : Out :=
  let a := R.SLT_PAGE c p n k
  .next (s.guardWrite acc a (fun s => s.ifOwn (fun s => s.writePage acc a value)))

/-- The clusters a 32-byte mask names (R133). -/
def maskClusters (bs : List Byte) : List Nat :=
  (List.range 256).filter (fun c => (bs.getD (c / 8) 0).toNat / 2 ^ (c % 8) % 2 = 1)

/-- The mask of a SLT descriptor (R133): EMPTY, BAD_LEN or ACCESS where it completes without one. -/
def State.withMask (s : State) (n : Nat) (d : Desc) (k : State → List Nat → State) : State :=
  if d.len = 0 then s.complete n d.didx stEMPTY 0
  else if d.len ≠ 32 then s.complete n d.didx stBADLEN 0
  else match s.unitRead (engine 10) d.addr 32 with
    | (some bs, s) => k s (maskClusters bs)
    | (none, s) => s.complete n d.didx stACCESS 0

/-- A descriptor of a mirrored queue: refused by a joining or STANDBY module (R457). -/
def State.ownDesc (s : State) (n : Nat) (d : Desc) (k : State → State) : State :=
  if s.mirrorOnly then s.complete n d.didx 0xF0 0 else k s

/-- The commit of a descriptor (R133, R134). -/
def State.runCommit (s : State) (n : Nat) (d : Desc) : State :=
  s.withMask n d (fun s cls =>
    let base := d.arg1 % 4
    let dirn := d.arg1 / 64 % 4
    if base = 0 ∨ base = 3 ∨ dirn = 0 then s.complete n d.didx 0x81 0
    else if cls.any s.hasCommit then s.complete n d.didx 0x80 0
    else
      let m := s.commitJudge ⟨cls, d.arg0, base, d.arg1 / 4 % 8, dirn, ⟨s.now, true, false, none, 0⟩⟩ s.now
      let s : State := { s with slt := { s.slt with commits := s.slt.commits ++ [m] } }
      (cls.foldl (fun s c => s.showCommit c) s).complete n d.didx stOK cls.length)

/-- SLT queue 0x02 (Table 5-2). -/
def State.sltCmd (s : State) (n op : Nat) (run : State → Desc → State) : State :=
  s.queueCmd n (fun q => q = 0x02) op [1, 2, 3] (fun s d => s.ownDesc n d (fun s => run s d))

/-- COMMIT (R133). -/
def execSltCommit (n : Fin 64) (s : State) : Out := .next (s.sltCmd n 1 (fun s d => s.runCommit n d))

/-- The CANCEL of a descriptor (R133): RESULT is the number of commits dropped. -/
def State.runCancel (s : State) (n : Nat) (d : Desc) : State :=
  s.withMask n d (fun s cls =>
    let k := (cls.filter s.hasCommit).length
    let s : State := { s with slt := { s.slt with commits :=
      (s.slt.commits.map (fun m => { m with cls := m.cls.filter (fun c => !cls.contains c) })).filter (fun m => !m.cls.isEmpty) } }
    let s := s.dropCond (fun a => cls.contains (a.ep / 16))
    (cls.foldl (fun s c => s.showCommit c) s).complete n d.didx stOK k)

/-- CANCEL (R133). -/
def execSltCancel (n : Fin 64) (s : State) : Out := .next (s.sltCmd n 2 (fun s d => s.runCancel n d))

/-- The PAGE_COPY of a descriptor (R133). -/
def State.runPageCopy (s : State) (n : Nat) (d : Desc) : State :=
  s.withMask n d (fun s cls =>
    if cls.any s.hasCommit then s.complete n d.didx 0x80 0
    else
      let s := cls.foldl (fun s c => (List.range 256).foldl (fun s k =>
        s.setReg (R.SLT_PAGE c (1 - s.page c) (k / 4) (k % 4)) (s.reg (R.SLT_PAGE c (s.page c) (k / 4) (k % 4)))) s) s
      s.complete n d.didx stOK cls.length)

/-- PAGE_COPY (R133). -/
def execPageCopy (n : Fin 64) (s : State) : Out := .next (s.sltCmd n 3 (fun s d => s.runPageCopy n d))

/-- The ends still pending of slots of cluster c's active page whose start has been emitted (R136 step 1): slot, endpoint,
edge, te. A record already issued belongs to the issue list. -/
def State.openEnds (s : State) (c t : Nat) : List Carry :=
  (List.range 64).flatMap (fun n =>
    let r := s.run c n
    let w := s.slotW c (s.page c) n 0
    let e := slotEp c w
    if r.seen && 3 ≤ slKind w && !s.flag (firedAt c n) then
      (List.range (r.starts - r.ends)).flatMap (fun j =>
        let g := s.slotStep c (s.page c) n (2 * (r.ends + j) + 1) r.at0
        if s.slt.issue.any (fun i => i.ep = e && i.edge.src = g.src && !i.fired && !i.gone) then []
        else [⟨0, c, e, n, g, match s.slt.armed.find? (fun a => a.ep = e && a.edge.src = g.src) with
          | some a => some a.at_
          | none => s.edgeTe e g t⟩])
    else [])

/-- Give carried edges their numbers from one on. -/
def numberCarries (id : Nat) (l : List Carry) : List Carry :=
  l.zipIdx.map (fun p => { p.1 with id := id + p.2 })

/-- The inputs of cluster c that are armed as the page is swapped (R136): an end that is carried goes on under its new number, of the
other slots and of the carried edges that found no place nothing stays armed. -/
def rearm (c : Nat) (ends kept : List Carry) (r : Armed) : Option Armed :=
  if r.ep / 16 ≠ c then some r
  else match r.edge.src with
    | .slot _ _ =>
      match ends.find? (fun a => a.ep = r.ep && a.edge.src = r.edge.src) with
      | some a => if kept.any (fun k => k.id = a.id) then some { r with edge := { r.edge with src := .carry a.id } } else none
      | none => none
    | .carry i => if kept.any (fun k => k.id = i) then some r else none
    | _ => some r

/-- The swap of cluster c at an instant (R136). -/
def State.swap (s : State) (c t : Nat) : State :=
  let old := s.slt.carries.filter (fun a => a.cl = c)
  let ends := numberCarries s.slt.nextId (s.openEnds c s.ept.tickAt)
  let all := sortBy (fun a b => teBefore a.te b.te) (old ++ ends)
  let kept := all.take 4
  let ovr := all.drop 4
  let cut := (List.range 64).any (fun n =>
    let r := s.run c n
    let w := s.slotW c (s.page c) n 0
    slKind w = 4 && r.seen && 0 < r.starts && r.starts < slCount w)
  let news := ends.filter (fun a => kept.any (fun k => k.id = a.id))
  let s : State := { s with slt := { s.slt with
    nextId := s.slt.nextId + ends.length
    carries := s.slt.carries.filter (fun a => a.cl ≠ c) ++ kept.map (fun a => { a with edge := { a.edge with src := .carry a.id } })
    armed := s.slt.armed.filterMap (rearm c ends kept)
    issue := s.slt.issue.map (fun i => if i.ep / 16 = c then { i with edge := { i.edge with src := match i.edge.src with
      | .slot _ _ => .old
      | src => src } } else i)
    runs := SMap.keep s.slt.runs (fun k => k / 64 ≠ c)
    commits := (s.slt.commits.map (fun m => { m with cls := m.cls.filter (· ≠ c) })).filter (fun m => !m.cls.isEmpty) } }
  let s := news.foldl (fun s _ => s.bump F.SLT_CARRYCNT_COUNT) s
  let s := if cut then s.raiseFlag F.SLT_STAT_TRAIN_CUT 182 else s
  let s := if ovr.isEmpty then s
    else ((s.raiseFlag F.SLT_STAT_CARRY_OVF 182).bump F.SLT_IMMCNT_COUNT ovr.length).event 0x0303 [w32 c, w32 ovr.length]
  let s := s.setFld (F.SLT_CLSTAT_PAGE c) (1 - s.page c)
  let s := (s.setReg (R.SLT_FIRED_LO c) 0).setReg (R.SLT_FIRED_HI c) 0
  let s := s.setFld (F.SLT_CLSTAT_SWAPSEQ c) (s.fld (F.SLT_CLSTAT_SWAPSEQ c) + 1)
  let s := ((s.showCarry c).showCommit c).raiseFlag F.SLT_STAT_COMMIT 183
  ovr.foldl (fun s a =>
    let s := s.updEp a.ep (fun x => { x with gate := false })
    let x := s.ep a.ep
    if s.emits a.ep ∧ x.computed ≠ x.level then
      let s := s.setLevel a.ep x.computed t
      if eRemote x.cfg then s.sendImm a.ep x.computed else s
    else s) s

/-- Endpoints of cluster c in REJOIN with enough consistent ticks go IN at its commit point (Table 4-6, R111). -/
def State.commitPoint (s : State) (c : Nat) : State :=
  (members c).foldl (fun s e =>
    let x := s.ep e
    if x.state = epREJOIN ∧ (x.readyAt.isSome ∨ s.fld F.EPT_REJOIN_N = 0) then s.epEnter e else s) s

/-- Arm the inputs of the pending page of cluster c conditionally at tick t, as if it were active (R135). R127's scan arms local edges;
a remote edge of that page has no record before the swap, since R141 knows no withdrawal for one that the swap would miss (log entry
46). -/
def State.condCluster (s : State) (c t : Nat) : State :=
  let p := 1 - s.page c
  (List.range 64).foldl (fun s n =>
    let w := s.slotW c p n 0
    let e := slotEp c w
    let x := s.ep e
    if slKind w = 0 ∨ x.state = epOUT ∨ eRemote x.cfg then s
    else match s.slotOpen c p n t with
      | none => s
      | some a =>
        let l := (s.slotDue e c p n t (t + 500000) ⟨true, a, 0, 0⟩).filter (fun g =>
          !s.slt.cond.any (fun r => r.ep = e && r.edge.src = g.1.src))
        { s with slt := { s.slt with cond := s.slt.cond ++ l.map (fun g => ⟨e, g.1, g.2⟩) } }) s

/-- The pending pages whose commit point is predicted before t + 500 µs (R135). -/
def State.condArm (s : State) (t : Nat) : State :=
  s.slt.commits.foldl (fun s m => if (s.commitAt m (t + 499999)).isSome then m.cls.foldl (fun s c => s.condCluster c t) s else s) s

/-- The new page of cluster c after a swap at an instant (R135): its slots are judged; an input due before the swap acts in
the swap µs and counts LATE, one due in it acts in it, a local one due before the next scan is armed; one armed conditionally keeps its
te. -/
def State.newPage (s : State) (c t : Nat) : State :=
  if !s.flag F.SLT_CTL_EN then s
  else
    let k := s.ept.tickAt
    let cond := s.slt.cond
    let s := (s.dropCond (fun a => a.ep / 16 = c)).slotSeeAll c t
    (members c).foldl (fun s e =>
      let x := s.ep e
      if x.state = epOUT ∨ !eOutput x.cfg then s
      else (s.pendings e k (k + 500000)).foldl (fun s p => match p.1.src with
        | .slot _ _ =>
          let te := match cond.find? (fun a => a.ep = e && a.edge.src = p.1.src) with
            | some a => a.at_
            | none => p.2
          if eRemote x.cfg ∧ t < te then s else s.armScan e (p.1, te) t
        | _ => s) s) s

/-- COMMIT_SWAP (R89, R134-R136): the commits whose points are crossed in the first µs that has one, in order of acceptance, each with all
its clusters; one found at or past its point when it was judged counts CMT_LATE. Before its turn nothing swaps. -/
def execCommitSwap (s : State) : Out :=
  match s.swapDue with
  | none => .next s
  | some t =>
    let due := s.slt.commits.filter (fun m => decide (s.commitAt m s.lineEnd = some t))
    .next (due.foldl (fun s m =>
      let s := if m.cross.late then s.raiseFlag F.SLT_STAT_CMT_LATE 182 else s
      let s := m.cls.foldl (fun s c => (s.swap c t).commitPoint c) s
      m.cls.foldl (fun s c => s.newPage c t) s) s)

/-! ### Repeats, time frames, node status (R140, R143, R144) -/

/-- RECORD_REPEAT (R140): every record 1 ms after its last transmission, while transmissions are left. -/
def execRecordRepeat (s : State) : Out :=
  .next (s.eachIssue (fun s i =>
    if 0 < i.left ∧ i.sentAt + 1000000 ≤ s.now then
      (let i := { i with left := i.left - 1, sentAt := s.now }; (i, s.sendIssue i))
    else (i, s))).trimIssue

/-- The buses that carry time frames (R143). -/
def State.timeBuses (s : State) : List Nat :=
  (List.range 14).filter (fun b =>
    if b < 12 then s.fld F.SLT_TMASK_CAN / 2 ^ b % 2 = 1 else s.fld F.SLT_TMASK_T1S / 2 ^ (b - 12) % 2 = 1)

/-- Send a TSYNC on every enabled bus; a TFOLLOW is due on each (R143, Table 5-3). -/
def State.sendTsync (s : State) : State :=
  let q := s.slt.tseq
  let bs := s.timeBuses
  let s := bs.foldl (fun s b => s.sendOut ⟨b, 255, 0x10, leBytes 2 q ++ leBytes 2 (s.fld F.SLT_TFRM_PERIOD), false⟩) s
  { s with slt := { s.slt with tseq := (q + 1) % 2 ^ 16, follow := bs.map (fun b => (b, q)), tsyncAt := s.now } }

/-- TSYNC (R143): every PERIOD ms; a PERIOD of 0 sends none. -/
def execTsync (s : State) : Out :=
  let per := 1000000 * s.fld F.SLT_TFRM_PERIOD
  if s.flag F.SLT_CTL_EN ∧ !s.tdmMasked ∧ 0 < per ∧ s.slt.tsyncAt + per ≤ s.now then .next s.sendTsync else .next s

/-- TFOLLOW (R143): on a bus whose TSYNC passed the timestamp point at a measured MTB. -/
def execTfollow (b : Fin 14) (mtb : BitVec 64) (s : State) : Out :=
  match s.slt.follow.find? (fun p => p.1 = b.val) with
  | some (_, q) =>
    let pt := toBits 64 ((mtb.toNat : Int) + s.pairOfs mtb.toNat)
    let s := s.sendOut ⟨b, 255, 0x11, leBytes 2 q ++ [0, 0] ++ leBytes 8 pt, false⟩
    .next { s with slt := { s.slt with follow := s.slt.follow.filter (fun p => p.1 ≠ b.val) } }
  | none => .next s

/-- What SLT_NODESTAT and SLT_NODESEQ show of the node that SLT_NODESEL names (Table 5-8). -/
def State.nodeWord (s : State) (seq : Bool) : Word :=
  let x := s.node (s.fld F.SLT_NODESEL_BUS) (s.fld F.SLT_NODESEL_NODE)
  let b (p : Bool) (k : Nat) : Nat := if p then 2 ^ k else 0
  if seq then w32 x.next else w32 (b x.seen 31 + b x.healthy 30 + b x.timeOk 29 + b x.fault 28 + x.lastSeq)

/-- A node ceases to be healthy (R144): NODE_LOST, event NODE_TIMEOUT with bus and node. -/
def State.nodeLost (s : State) (b n : Nat) : State :=
  ((s.setNode b n { s.node b n with healthy := false }).raiseFlag F.SLT_STAT_NODE_LOST 182).event 0x0304 [w32 b, w32 n]

/-- Every healthy node of a bus that stops ceases to be healthy (R432). -/
def State.busLost (s : State) (b : Nat) : State :=
  (SMap.keys s.slt.nodes).foldl (fun s k => if k / 256 = b ∧ (s.node b (k % 256)).healthy then s.nodeLost b (k % 256) else s) s

/-- Whether an NSTATUS with TIME_OK has come from a node within NTO ms (R144). -/
def State.nodeOk (s : State) (x : Node) : Bool :=
  match x.okAt with
  | some t => !s.elapsed t (1000000 * s.fld F.SLT_NTO_NTO)
  | none => false

/-- An NSTATUS arrives from a node (R144). -/
def State.nstatus (s : State) (b n tseq seq : Nat) (timeOk fault : Bool) : State :=
  let x := s.node b n
  let nto := s.fld F.SLT_NTO_NTO
  let y : Node := { x with
    seen := true, timeOk := timeOk, fault := fault, lastSeq := seq, lastT := tseq
    okAt := if timeOk then some s.now else x.okAt }
  let ok := !fault && (timeOk || (nto ≠ 0 && s.nodeOk x))
  let s := s.setNode b n { y with healthy := ok, ever := x.ever || ok }
  if x.healthy && !ok then s.nodeLost b n else if !x.healthy && ok && x.ever then s.event 0x0305 [] else s

/-- NSTATUS (R144): a frame from a node on a bus that runs. -/
def execNstatus (b : Fin 14) (n : BitVec 8) (tseq seq : BitVec 16) (timeOk fault : Bool) (s : State) : Out :=
  if s.busUp b then .next (s.nstatus b n.toNat tseq.toNat seq.toNat timeOk fault) else .next s

/-- NODE_TIMEOUT (R144): no NSTATUS with TIME_OK for NTO ms. -/
def execNodeTimeout (b : Fin 14) (n : BitVec 8) (s : State) : Out :=
  let x := s.node b n.toNat
  if x.healthy ∧ s.fld F.SLT_NTO_NTO ≠ 0 ∧ !s.nodeOk x then .next (s.nodeLost b n.toNat) else .next s

/-- Values from node n of bus b go to the SENSE endpoints that name its indices (R131). -/
def State.senseData (s : State) (b n : Nat) (vals : List (Nat × Nat)) : State :=
  vals.foldl (fun s v => (SMap.keys s.ept.eps).foldl (fun s e =>
    let x := s.ep e
    if x.state ≠ epOUT ∧ eKind x.cfg = kSENSE ∧ eRemote x.cfg ∧ eBus x.cfg = b ∧ eNode x.cfg = n ∧ eIndex x.cfg = v.1 then
      s.setEp e { x with val := v.2 }
    else s) s) s

/-- SENSE_DATA (R131): a frame from a node on a bus that runs. -/
def execSenseData (b : Fin 14) (n : BitVec 8) (vals : List (BitVec 12 × Word)) (s : State) : Out :=
  if s.busUp b then .next (s.senseData b n.toNat (vals.map (fun v => (v.1.toNat, v.2.toNat)))) else .next s

/-- A write of SLT_CTL (R150): clearing EN drops the armed inputs. -/
def State.writeSltCtl (s : State) (w : Word) : State :=
  let s := s.writePlain R.SLT_CTL w
  if s.flag F.SLT_CTL_EN then s else (s.disarm (fun _ => true)).dropCond (fun _ => true)

/-- A register write in the SLT windows. -/
def State.writeSlt (s : State) (acc : Acc) (a : Nat) (w : Word) : State :=
  if R.SLT_PAGE 0 0 0 0 ≤ a ∧ a < R.SLT_PAGE 256 0 0 0 then s.ifOwn (fun s => s.writePage acc a w)
  else if a = R.SLT_CTL then s.writeSltCtl w
  else s.writePlain a w

end Sys2Proof.Machine
end

