-- ==== Sys2Proof/Machine/Coverage.lean ====
section
/-! DEFINITION. The coverage engine: fields, layers, the tile cache, the walk and marking (06_coverage_engine.md). Points of
the field frame are in µm east and north of the field origin; own travel is in counts of 0.1 mm. -/

namespace Sys2Proof.Machine

/-! ### Field and layers (R151-R157) -/

/-- Fields of the layer record of layer l in a descriptor (Table 6-2). -/
def layByte (d : List Byte) (l o n : Nat) : Nat := field d (16 + 12 * l + o) n
def layKind (d : List Byte) (l : Nat) : Nat := layByte d l 0 1 % 8
def layUbpc (d : List Byte) (l : Nat) : Nat := layByte d l 0 1 / 8 % 8
def layMiss (d : List Byte) (l : Nat) : Nat := layByte d l 0 1 / 64
def layCell (d : List Byte) (l : Nat) : Nat := layByte d l 1 1
def layNtx (d : List Byte) (l : Nat) : Nat := layByte d l 2 2 % 4096
def layNty (d : List Byte) (l : Nat) : Nat := layByte d l 4 2 % 4096
def layDef (d : List Byte) (l : Nat) : Nat := layByte d l 6 2
def layDir (d : List Byte) (l : Nat) : Nat := layByte d l 8 4 * 256

/-- Layer kinds (Table 6-3). -/
def lkAPPLIED : Nat := 1
def lkPRESCRIPTION : Nat := 2
def lkEXCLUSION : Nat := 3
def lkYIELD : Nat := 4

/-- Bits per cell of a layer (Table 6-3). -/
def layBits (d : List Byte) (l : Nat) : Nat :=
  match layKind d l with
  | 1 => 2
  | 2 => 16
  | 3 => 1
  | 4 => 32
  | _ => match layUbpc d l with
    | 0 => 1
    | 1 => 2
    | 2 => 8
    | 3 => 16
    | _ => 32

/-- Bytes of a tile. -/
def tileBytes (d : List Byte) (l : Nat) : Nat := 65536 * layBits d l / 8

/-- Whether FIELD_LOAD accepts a descriptor (R152, R153). The rule on DIR, unlike the two before it, names every layer, an UNUSED one
too. -/
def fieldOk (d : List Byte) : Bool :=
  field d 0 2 = field d 126 2 && field d 0 2 ≠ 0 &&
    (List.range 8).all (fun l => layDir d l ≠ 0 && (layKind d l = 0 ||
      (layKind d l ≤ 5 && layUbpc d l ≤ 4 && layMiss d l ≠ 3 && within 1 100 (layCell d l) && layNtx d l ≠ 0 && layNty d l ≠ 0)))

/-- Whether a field is loaded, and whether it is Weave's current one (R151). -/
def State.covLoaded (s : State) : Bool := s.flag F.COV_FSTAT_LOADED
def State.covField (s : State) : Bool := s.covLoaded && s.fld F.COV_FSTAT_FIELD_ID = s.fld F.WVE_FIELD_FIELD_ID

/-- Where a point lies in a layer (R154): directory index and cell of the tile; none outside. -/
def State.locate (s : State) (l : Nat) (p : Int × Int) : Option (Nat × Nat) :=
  let d := s.cov.desc
  let c : Int := 10000 * layCell d l
  if c = 0 then none
  else
    let i := (p.1 - 1000 * fieldInt d 4 4) / c
    let j := (p.2 - 1000 * fieldInt d 8 4) / c
    if i < 0 ∨ j < 0 ∨ 256 * (layNtx d l : Int) ≤ i ∨ 256 * (layNty d l : Int) ≤ j then none
    else some (j.toNat / 256 * layNtx d l + i.toNat / 256, 256 * (j.toNat % 256) + i.toNat % 256)

/-! ### The tile cache (R156, R159) -/

/-- A frame of the cache. -/
def State.frame (s : State) (f : Nat) : Option Tile := SMap.get (fun _ => none) s.cov.frames f

/-- Replace a frame and bring COV_CACHE up to date. -/
def State.setFrame (s : State) (f : Nat) (x : Option Tile) : State :=
  let s : State := { s with cov := { s.cov with frames := SMap.set (fun _ => none) s.cov.frames f x } }
  let s := s.setFld F.COV_CACHE_USED s.cov.frames.length
  s.setFld F.COV_CACHE_DIRTY ((s.cov.frames.filter (fun p => match p.2 with | some x => x.dirty | none => false)).length)

/-- The SRAM address of a frame. -/
def State.frameAddr (s : State) (f : Nat) : Nat := s.fld F.COV_CBASE_ADDR * 2 ^ 24 + 0x20000 * f

/-- The frame that holds a tile. -/
def State.frameOf (s : State) (l idx : Nat) : Option Nat :=
  (s.cov.frames.find? (fun p => match p.2 with | some x => x.layer = l && x.idx = idx | none => false)).map (·.1)

/-- A tile directory entry (Table 6-4): read as one access of master COV, ABSENT where it is denied (R160). -/
inductive DirEntry where
  | absent (denied : Option Nat)
  | present (addr : Nat)
  | uniform (v : Nat)
  deriving DecidableEq, Repr

/-- The directory entry of a tile. -/
def State.dirEntry (s : State) (l idx : Nat) : DirEntry :=
  let d := s.cov.desc
  let a := layDir d l + 8 * idx
  match s.firstDenied (engine 13) .read a 8 with
  | some b => .absent (some b)
  | none =>
    let v := leNat (s.bytes a 8)
    match v / 2 ^ 32 % 4 with
    | 1 => .present (v % 2 ^ 32 * 256)
    | 2 => if layBits d l = 32 then .absent none else .uniform (v / 2 ^ 48 % 2 ^ layBits d l)
    | _ => .absent none

/-- One cell of tile bytes at an address (R154). -/
def State.cellBits (s : State) (a bits cell : Nat) : Nat :=
  let o := cell * bits
  if bits < 8 then (s.byte (a + o / 8)).toNat / 2 ^ (o % 8) % 2 ^ bits else leNat (s.bytes (a + o / 8) (bits / 8))

/-- What a sample of a layer reads (R157, R171): a value, nothing, an excluded sample, a tile not in the cache. -/
inductive Sample where
  | val (v : Nat)
  | hold
  | excl
  | miss
  deriving DecidableEq, Repr

/-- A sample, whether it lies outside the layer, the frame it used, a denied address. -/
structure CellRead where
  got : Sample
  outside : Bool
  used : Option Nat
  denied : Option Nat
  deriving DecidableEq, Repr

/-- The MISS policy of a layer (R157). -/
def State.missed (s : State) (l : Nat) : Sample :=
  match layMiss s.cov.desc l with
  | 0 => .val (layDef s.cov.desc l % 2 ^ layBits s.cov.desc l)
  | 1 => .hold
  | _ => .excl

/-- Sample a layer at a point. A tile whose fetch was denied reads as ABSENT (R160). -/
def State.sampleAt (s : State) (l : Nat) (p : Int × Int) : CellRead :=
  match s.locate l p with
  | none => ⟨s.missed l, true, none, none⟩
  | some (idx, cell) =>
    match s.frameOf l idx with
    | some f =>
      let a := s.frameAddr f
      let b := layBits s.cov.desc l
      if s.allowed (engine 13) .read (a + cell * b / 8) then ⟨.val (s.cellBits a b cell), false, some f, none⟩
      else ⟨s.missed l, false, some f, some (a + cell * b / 8)⟩
    | none =>
      match s.dirEntry l idx with
      | .absent d => ⟨s.missed l, false, none, d⟩
      | .uniform v => ⟨.val v, false, none, none⟩
      | .present _ => ⟨if s.cov.denied.contains (l, idx) then s.missed l else .miss, false, none, none⟩

/-! ### Projection (R162, R163) -/

/-- The rule named by HEAD (R166); a percentage above 100 is taken as 100. -/
def State.xmask (s : State) (c : List Byte) : List Nat :=
  (List.range 8).filter (fun l => s.fld (F.COV_HRULE_XMASK (eHead c)) / 2 ^ l % 2 = 1 && layKind s.cov.desc l = lkEXCLUSION)

/-- The layers an endpoint reads. -/
def State.layersOf (s : State) (c : List Byte) : List Nat :=
  (if eClEn c then [eCovl c] else []) ++ (if ePlEn c then [ePlayer c] else []) ++ s.xmask c

/-- The number of samples of a footprint (R162). -/
def State.sampleCount (s : State) (c : List Byte) : Nat :=
  let cm := (s.layersOf c).foldl (fun m l => let k := 10 * layCell s.cov.desc l; if k ≠ 0 ∧ (m = 0 ∨ k < m) then k else m) 0
  if cm = 0 then 1 else max 1 (min 32 ((eWidth c + cm - 1) / cm))

/-- The pose of an entry's body after own travel u (counts) from an instant: east, north in µm, heading (R163). -/
def State.project (s : State) (c : List Byte) (t : Nat) (u : Int) : Int × Int × Int :=
  let x := s.bodyPose c t
  let own := 10 * x.vx + (if s.curved c then 10 * eY c * x.yaw / 1000000 else 0)
  let us := if own = 0 then 0 else u * 1000000 / own
  let ds := x.vx * us / 1000
  let dh := x.yaw * us / 1000000
  let half := dh / 2
  let chord := if micro half = 0 then ds else ds * sinQ (micro half) / micro half
  (1000 * x.e + timesSin chord (x.hdg + half), 1000 * x.n + timesCos chord (x.hdg + half), x.hdg + dh)

/-- A point of the body frame, in µm forward and left, at a pose. -/
def atPose (q : Int × Int × Int) (x y : Int) : Int × Int :=
  (q.1 + timesSin x q.2.2 - timesCos y q.2.2, q.2.1 + timesCos x q.2.2 + timesSin y q.2.2)

/-- The sample points of a footprint at a pose. -/
def State.samplePoints (s : State) (c : List Byte) (q : Int × Int × Int) : List (Int × Int) :=
  let n := s.sampleCount c
  let w : Int := 1000 * eWidth c
  (List.range n).map (fun (i : Nat) => atPose q (1000 * eX c) (1000 * eY c - w / 2 + w * (2 * (i : Int) + 1) / (2 * n)))

/-! ### One step (R165, R169) -/

/-- What a step finds: a sample under HOLD, one not cached, one outside a layer; excluded samples, applied samples, all
samples; the sum and number of prescriptions at samples not excluded; frames used; denied addresses. -/
structure Look where
  hold : Bool
  miss : Bool
  outside : Bool
  nx : Nat
  na : Nat
  n : Nat
  sum : Nat
  cnt : Nat
  used : List Nat
  denied : List Nat
  deriving DecidableEq, Repr

/-- Nothing found. -/
def Look.init : Look := ⟨false, false, false, 0, 0, 0, 0, 0, [], []⟩

/-- Note what a read met. -/
def Look.met (k : Look) (r : CellRead) : Look :=
  { k with
    hold := k.hold || r.got = .hold, miss := k.miss || r.got = .miss, outside := k.outside || r.outside
    used := (match r.used with | some f => if k.used.contains f then k.used else f :: k.used | none => k.used)
    denied := (match r.denied with | some a => a :: k.denied | none => k.denied) }

/-- Add one sample point of an entry. -/
def State.lookPoint (s : State) (c : List Byte) (k : Look) (p : Int × Int) : Look :=
  let ex := (s.xmask c).map (fun l => s.sampleAt l p)
  let cv := if eClEn c then some (s.sampleAt (eCovl c) p) else none
  let pr := if ePlEn c then some (s.sampleAt (ePlayer c) p) else none
  let all := ex ++ cv.toList ++ pr.toList
  let k := all.foldl Look.met k
  let rate := match pr with | some ⟨.val v, _, _, _⟩ => some v | _ => none
  let excluded := ex.any (fun r => r.got = .val 1) || all.any (fun r => r.got = .excl) || rate = some 0
  let applied := match cv with | some ⟨.val v, _, _, _⟩ => decide (0 < v) | _ => false
  { k with
    n := k.n + 1, nx := k.nx + (if excluded then 1 else 0), na := k.na + (if applied then 1 else 0)
    sum := k.sum + (if excluded then 0 else rate.getD 0), cnt := k.cnt + (if excluded || rate.isNone then 0 else 1) }

/-- A step of the footprint of an entry at own travel u from tick t. -/
def State.look (s : State) (c : List Byte) (t : Nat) (u : Int) : Look :=
  (s.samplePoints c (s.project c t u)).foldl (fun k p => s.lookPoint c k p) Look.init

/-- The outcome of a step against the planned level (R165). -/
def State.outcome (s : State) (c : List Byte) (pl : Bool) (k : Look) : Bool :=
  let h := eHead c
  let xoff := s.fld (F.COV_HRULE_XOFF h)
  let lim := min (s.fld (F.COV_HRULE_XON h)) xoff
  if pl then decide (100 * k.nx ≤ xoff * k.n ∧ 100 * k.na ≤ eOvl c * k.n)
  else decide (100 * k.nx ≤ lim * k.n ∧ 100 * k.na ≤ (eOvl c - s.fld (F.COV_HRULE_HYST h)) * k.n)

/-! ### The walk (R164) -/

/-- How a walk ends: the last step, where it decided, whether a sample stopped it. -/
structure Walk where
  last : Option Look
  at_ : Option Int
  stop : Bool
  deriving DecidableEq, Repr

/-- Walk positions of the own odometer in order. -/
def State.walk (s : State) (c : List Byte) (t : Nat) (odo : Int) (pl : Bool) : List Int → Walk → Walk
  | [], w => w
  | p :: ps, w =>
    let k := s.look c t (p - odo)
    let k := match w.last with
      | some l => { k with outside := k.outside || l.outside, used := l.used ++ k.used, denied := l.denied ++ k.denied }
      | none => k
    if k.hold ∨ k.miss then ⟨some k, none, true⟩
    else if s.outcome c pl k ≠ pl then ⟨some k, some p, false⟩
    else State.walk s c t odo pl ps ⟨some k, none, false⟩

/-- Whole positions from one to another, both included, in the direction of travel. -/
def between (a b : Int) (back : Bool) : List Int :=
  let n := if back then (a - b + 1).toNat else (b - a + 1).toNat
  (List.range n).map (fun (i : Nat) => if back then a - (i : Int) else a + (i : Int))

/-- The row of Table 6-6 for an entry at tick t: 0 normal, 1 degraded with decisions and marks, 2 decisions without marks,
3 nothing with the level kept, 4 one decision OFF. -/
def State.motionRow (s : State) (c : List Byte) (t : Nat) : Nat :=
  let x := s.bodyPose c t
  let lim := s.fld F.COV_PERR_LIMIT
  let pol := s.fld F.COV_CTL_DEGPOL
  let ovr := lim ≠ 0 ∧ (lim : Int) < x.herr
  if x.state = 0 then (if pol = 2 then 4 else 3)
  else if ovr then (if pol = 0 then 2 else if pol = 2 then 4 else 3)
  else if x.state = 3 then 0 else 1

/-- Whether an entry names layers of the wrong kind (R161). -/
def State.layerErr (s : State) (c : List Byte) : Bool :=
  (eClEn c && layKind s.cov.desc (eCovl c) ≠ lkAPPLIED) || (ePlEn c && layKind s.cov.desc (ePlayer c) ≠ lkPRESCRIPTION)

/-- Record the denied reads of the engine, each address once a walk (R57, log entry 49), and the use of frames at this tick (R159). -/
def State.settle (s : State) (k : Look) : State :=
  let s := k.denied.reverse.eraseDups.foldl (fun s a => s.deny (engine 13) .read a) s
  k.used.foldl (fun s f => match s.frame f with
    | some x => if x.lru = s.ept.tickAt then s else s.setFrame f (some { x with lru := s.ept.tickAt })
    | none => s) s

/-- Raise a flag of COV_STAT. -/
def State.covFlag (s : State) (f : Fld) : State := s.raiseFlag f 184

/-- A decision edge OFF at ODO + LA_OFF where PL is ON, and no frontier (R171, R172). -/
def State.covOff (s : State) (e t : Nat) : State :=
  let x := s.ep e
  let s := if x.pl then
      let (ok, s) := s.offer e t false (x.odo / 2 ^ 16 + x.laOff) (decide (x.rate < 0))
      if ok then s.updEp e (fun x => { x with pl := false }) else s
    else s
  s.updEp e (fun x => { x with front := none, first := true })

/-- The decision status of an endpoint as it is being made: NODEC, MISS, OUTSIDE, DEGRADED, LAYER_ERR, NOFIELD, OVERRUN. -/
structure Dec where
  nodec : Bool
  miss : Bool
  outside : Bool
  deg : Bool
  lerr : Bool
  nofield : Bool
  ovr : Bool
  deriving DecidableEq, Repr

/-- Nothing to report. -/
def Dec.init : Dec := ⟨false, false, false, false, false, false, false⟩

/-- Write COV_DECe (R177). -/
def State.covShow (s : State) (e : Nat) (d : Dec) (k : Option Look) : State :=
  let b (p : Bool) (n : Nat) : Nat := if p then 2 ^ n else 0
  let old := (s.reg (R.COV_DEC e)).toNat
  let fr := match k with
    | some k => if k.n = 0 then 0 else 2 ^ 16 * (100 * k.nx / k.n) + 2 ^ 8 * (100 * k.na / k.n)
    | none => old / 2 ^ 8 * 2 ^ 8 % 2 ^ 23
  s.setReg (R.COV_DEC e) (w32 (fr + b (s.ep e).pl 0 + b d.nodec 1 + b d.miss 2 + b d.outside 3 + b d.deg 4 + b d.lerr 5 +
    b d.nofield 6 + b d.ovr 7))

/-- The walk of endpoint e: where it starts, where it ends, whether the step at its start is still to be judged (R164). After a change of
PL it starts at the larger of F and ODO + la. -/
def State.walkSpan (s : State) (e : Nat) : Int × Int × Bool :=
  let x := s.ep e
  let back := decide (x.rate < 0)
  let m (z : Int) : Int := if back then -z else z
  let la := (if x.pl then x.laOff else x.laOn) + (if eRemote x.cfg then travel x.rate 0 (1000 * eLead x.cfg) else 0)
  let near := x.odo / 2 ^ 16 + la
  let start := match x.front with
    | some f => if x.moved ∧ m f < m near then near else f
    | none => near
  (start, near + travel x.rate 0 250, x.first || x.front.isNone)

/-- A sample that reads nothing or whose tile is not cached leaves endpoint e without a decision at tick t (R157, R171); `since` is when
its misses began. -/
def State.covMiss (s : State) (e t : Nat) (k : Look) (since : Option Nat) : State :=
  let s := s.covFlag F.COV_STAT_MISS
  if k.miss then
    let s := (s.bump F.COV_MISSCNT_COUNT).updEp e (fun x => { x with missAt := some (since.getD t) })
    if s.fld F.COV_MISS_MISSTO = 0 then s.covOff e t else s
  else s

/-- The walk of endpoint e at tick t, and the edge it may make (R164, R165, R167, R168): stopped by a sample it goes on from F, refused by
the slot engine it offers the same edge again. -/
def State.covWalk (s : State) (e t : Nat) (d : Dec) (since : Option Nat) : State :=
  let x := s.ep e
  let back := decide (x.rate < 0)
  let (start, far, judge) := s.walkSpan e
  if x.perS = 0 ∨ (if back then start < far else far < start) then s.covShow e d none
  else
    let from_ := if judge then start else if back then start - 1 else start + 1
    let w := s.walk x.cfg t (x.odo / 2 ^ 16) x.pl (between from_ far back) ⟨none, none, false⟩
    let k := w.last.getD Look.init
    let s := s.settle k
    let d := { d with outside := d.outside || k.outside }
    if w.stop then
      let s := s.updEp e (fun x => { x with front := some start, first := judge, moved := false })
      (s.covMiss e t k since).covShow e { d with nodec := true, miss := true } (some k)
    else match w.at_ with
      | some p =>
        let (ok, s) := s.offer e t (!x.pl) p back
        (s.updEp e (fun y => { y with pl := x.pl != ok, front := some p, first := true, moved := ok })).covShow e d (some k)
      | none => (s.updEp e (fun y => { y with front := some far, first := false, moved := false })).covShow e d (some k)

/-- Rx of a RATE endpoint at tick t (R169): the mean prescription LA_ON ahead, kept where a sample is not to be had; and what the samples
met. -/
def State.covRate (s : State) (e t : Nat) : Look × State :=
  let x := s.ep e
  let c := x.cfg
  if eKind c ≠ kRATE ∨ !ePlEn c then (Look.init, s)
  else
    let k := s.look c t x.laOn
    let s := s.settle k
    (k, if k.hold ∨ k.miss then s else s.updEp e (fun x => { x with rx := if k.cnt = 0 then 0 else k.sum / k.cnt }))

/-- LAYER_ERR of endpoint e (R161): no decision, the flags, the event once per reload of its entry. -/
def State.covLayerErr (s : State) (e : Nat) (d : Dec) : State :=
  let s := s.covFlag F.COV_STAT_LAYER_ERR
  let s := if (s.ep e).lerr then s else (s.updEp e (fun x => { x with lerr := true })).event 0x0405 [w32 e]
  s.covShow e { d with nodec := true, lerr := true } none

/-- The decision for endpoint e at tick t; `over` where the engine did not reach it in time (R161, R168, R172, R173). F is cleared after a
field change, and as the solution returns within limits. -/
def State.covDecide (s : State) (e t : Nat) (ovr : Bool) : State :=
  let x := s.ep e
  let c := x.cfg
  let row := s.motionRow c t
  let s := if s.cov.changed ∨ (x.offRow ∧ row < 2) then s.updEp e (fun x => { x with front := none, first := true }) else s
  let s := s.updEp e (fun y => { y with offRow := decide (2 ≤ row), missAt := if ovr then x.missAt else none })
  if !s.flag F.COV_CTL_EN then s.setReg (R.COV_DEC e) 0
  else if eKind c = kMARK then
    (if x.state = epIN && s.covField && s.layerErr c then s.covLayerErr e Dec.init else s.setReg (R.COV_DEC e) 0)
  else if !(eCovDriven c) then s.setReg (R.COV_DEC e) 0
  else
    let d : Dec := { Dec.init with deg := decide (row ≠ 0) }
    if !s.covField then s.covShow e { d with nodec := true, nofield := true } none
    else if s.layerErr c then s.covLayerErr e d
    else if ovr then
      ((s.bump F.COV_OVRCNT_COUNT).covFlag F.COV_STAT_OVERRUN).covShow e { d with nodec := true, ovr := true } none
    else if row = 3 then
      (s.updEp e (fun x => { x with front := none, first := true })).covShow e { d with nodec := true } none
    else if row = 4 then (s.covOff e t).covShow e { d with nodec := true } none
    else
      let (k, s) := s.covRate e t
      let d := { d with outside := k.outside }
      if k.hold ∨ k.miss then (s.covMiss e t k x.missAt).covShow e { d with nodec := true, miss := true } none
      else s.covWalk e t d x.missAt

/-- COV_MISS_TIMEOUT (R171): an endpoint's misses have gone on for MISSTO ms. -/
def execCovMissTimeout (e : Fin 4096) (s : State) : Out :=
  match (s.ep e).missAt with
  | some t =>
    if (s.ep e).state ≠ epOUT ∧ s.elapsed t (1000000 * s.fld F.COV_MISS_MISSTO) then
      .next ((s.covOff e s.ept.tickAt).updEp e (fun x => { x with missAt := none }))
    else .next s
  | none => .next s

/-! ### Marking (R158, R170) -/

/-- Advance one cell of a cached APPLIED tile: 0 to 1, 1 to 2 (Table 6-3). -/
def State.advance (s : State) (f cell : Nat) : State :=
  match s.frame f with
  | some x =>
    let a := s.frameAddr f + cell / 4
    let v := s.cellBits (s.frameAddr f) 2 cell
    if 2 ≤ v then s
    else
      let b := (s.byte a).toNat + 2 ^ (2 * (cell % 4))
      let (ok, s) := s.unitWrite (engine 13) a [BitVec.ofNat 8 b]
      if ok then s.setFrame f (some { x with dirty := true }) else s
  | none => s

/-- Allocate a tile from the pool ring, filled with a cell value (R158): whether it was possible. -/
def State.allocTile (s : State) (l idx v : Nat) : Bool × State :=
  let size := s.fld F.COV_POOLCFG_SIZE
  let head := s.fld F.COV_POOLHEAD_IDX
  if size = 0 then (false, s)
  else if head = s.fld F.COV_POOLTAIL_IDX then
    let s := s.covFlag F.COV_STAT_POOL_EMPTY
    (false, if s.cov.empty then s else ({ s with cov := { s.cov with empty := true } } : State).event 0x0402 [])
  else
    let base := s.fld F.COV_POOLBASE_LO_ADDR * 64 + s.fld F.COV_POOLBASE_HI_ADDR * 2 ^ 32
    match s.unitRead (engine 13) (base + 4 * (head % 2 ^ size)) 4 with
    | (none, s) => (false, s.covFlag F.COV_STAT_POOL_ERR)
    | (some bs, s) =>
      let a := leNat bs * 256
      let (ok, s) := s.unitWrite (engine 13) a (List.replicate 16384 (BitVec.ofNat 8 (85 * v)))
      if !ok then (false, s)
      else
        let (ok, s) := s.unitWrite (engine 13) (layDir s.cov.desc l + 8 * idx) (leBytes 8 (leNat bs + 2 ^ 32 + 2 ^ 34))
        if ok then (true, s.setFld F.COV_POOLHEAD_IDX (next32 head)) else (false, s)

/-- Mark one cell of an APPLIED layer: at once where its tile is cached, when the tile arrives where it is not; the first
mark of an ABSENT or UNIFORM tile allocates it. -/
def State.markCell (s : State) (l idx cell : Nat) : State :=
  let wait (s : State) : State := { s with cov := { s.cov with marks := s.cov.marks ++ [(l, idx, cell)] } }
  match s.frameOf l idx with
  | some f => s.advance f cell
  | none =>
    let alloc (v : Nat) : State := match s.allocTile l idx v with
      | (true, s) => wait s
      | (false, s) => s.bump F.COV_UNMARKED_COUNT
    match s.dirEntry l idx with
    | .present _ => wait s
    | .uniform v => alloc (min v 2)
    | .absent none => alloc 0
    | .absent (some b) =>
      let s := s.deny (engine 13) .read b
      match s.allocTile l idx 0 with
      | (true, s) => wait s
      | (false, s) => s.bump F.COV_UNMARKED_COUNT

/-- The cross product of two vectors. -/
def cross (a b : Int × Int) : Int := a.1 * b.2 - a.2 * b.1
def subP2 (a b : Int × Int) : Int × Int := (a.1 - b.1, a.2 - b.2)

/-- Whether a point lies ahead of a line from its right to its left end: above 0, on it 0. -/
def ahead (r l p : Int × Int) : Int := - cross (subP2 l r) (subP2 p r)

/-- The direction, forward of the body, of the side that an end of the footprint swept. -/
def sideDir (r l a b : Int × Int) : Int × Int :=
  let d := subP2 b a
  let w := subP2 l r
  let fwd : Int × Int := (w.2, - w.1)
  let dot := d.1 * fwd.1 + d.2 * fwd.2
  if dot = 0 then fwd else if dot < 0 then (- d.1, - d.2) else d

/-- Whether a point lies in the quadrilateral swept from one footprint to the next (R170): its trailing and −y sides
belong to it, its leading and +y sides do not. -/
def swept (r0 l0 r1 l1 p : Int × Int) : Bool :=
  let a0 := ahead r0 l0 p
  let a1 := ahead r1 l1 p
  let right := cross (sideDir r0 l0 r0 r1) (subP2 p r0)
  let left := cross (sideDir r0 l0 l0 l1) (subP2 p l0)
  ((0 ≤ a0 && a1 < 0) || (a0 ≤ 0 && 0 < a1)) && 0 ≤ right && left < 0

/-- The cells of a layer whose centres a swept quadrilateral takes in: directory index and cell. -/
def State.sweptCells (s : State) (l : Nat) (r0 l0 r1 l1 : Int × Int) : List (Nat × Nat) :=
  let c : Int := 10000 * layCell s.cov.desc l
  let e0 := 1000 * fieldInt s.cov.desc 4 4
  let n0 := 1000 * fieldInt s.cov.desc 8 4
  let lo (a b : Int) : Int := if a ≤ b then a else b
  let hi (a b : Int) : Int := if a ≤ b then b else a
  let i0 := (lo (lo r0.1 l0.1) (lo r1.1 l1.1) - e0) / c
  let i1 := (hi (hi r0.1 l0.1) (hi r1.1 l1.1) - e0) / c
  let j0 := (lo (lo r0.2 l0.2) (lo r1.2 l1.2) - n0) / c
  let j1 := (hi (hi r0.2 l0.2) (hi r1.2 l1.2) - n0) / c
  if c = 0 then []
  else (List.range (j1 - j0 + 1).toNat).flatMap (fun (b : Nat) => (List.range (i1 - i0 + 1).toNat).flatMap (fun (a : Nat) =>
    let p : Int × Int := (e0 + (i0 + (a : Int)) * c + c / 2, n0 + (j0 + (b : Int)) * c + c / 2)
    if swept r0 l0 r1 l1 p then (s.locate l p).toList else []))

/-- The parts of the tick before t during which an endpoint delivered, as ns from its start, and the changes left (R170). -/
def deliveries (t0 t : Nat) : Nat → Bool → List (Nat × Bool) → List (Nat × Nat)
  | a, on, [] => if on ∧ a < t then [(a - t0, t - t0)] else []
  | a, on, (u, v) :: l =>
    if t ≤ u then (if on ∧ a < t then [(a - t0, t - t0)] else [])
    else
      let b := max a u
      (if on ∧ a < b then [(a - t0, b - t0)] else []) ++ deliveries t0 t b v l

/-- The actual footprint of endpoint e at tick t, right end and left end. A point footprint is one cell wide. -/
def State.footprint (s : State) (e t : Nat) : (Int × Int) × (Int × Int) :=
  let c := (s.ep e).cfg
  let q := s.project c t 0
  let w : Int := if eWidth c = 0 then 10000 * layCell s.cov.desc (eCovl c) else 1000 * eWidth c
  (atPose q (1000 * eX c) (1000 * eY c - w / 2), atPose q (1000 * eX c) (1000 * eY c + w / 2))

/-- A point part of the way, in ns of a 250 µs tick, from one to another. -/
def partWay (a b : Int × Int) (k : Nat) : Int × Int := (a.1 + (b.1 - a.1) * k / 250000, a.2 + (b.2 - a.2) * k / 250000)

/-- Marking of endpoint e at tick t (R170, R173). -/
def State.covMark (s : State) (e t : Nat) : State :=
  let x := s.ep e
  let c := x.cfg
  let a := eAxis c
  let changes := sortBy (fun p q => p.1 ≤ q.1) x.dlv
  let t0 := t - 250000
  let isMark := eKind c = kMARK
  let runs := x.state = epIN && s.axState a ≠ axLOST && !s.flag (F.STR_AXSTAT_STILL a)
  let spans := if isMark then (if runs then [(0, 250000)] else []) else deliveries t0 t t0 x.delivers changes
  let on := ((changes.filter (fun p => p.1 < t)).getLast?.map (·.2)).getD x.delivers
  let q := s.footprint e t
  let s := s.setEp e { x with
    delivers := on, dlv := changes.filter (fun p => t ≤ p.1), foot := some (q.1.1, q.1.2, q.2.1, q.2.2) }
  let l := eCovl c
  match x.foot with
  | none => s
  | some (re, rn, le, ln) =>
    if !(eCovDriven c || isMark) ∨ !eClEn c ∨ !s.covLoaded ∨ layKind s.cov.desc l ≠ lkAPPLIED ∨ !s.flag F.COV_CTL_EN ∨
        within 3 4 (s.fld F.TDM_STATE_PSTATE) then s
    else
      let cells := spans.flatMap (fun p =>
        s.sweptCells l (partWay (re, rn) q.1 p.1) (partWay (le, ln) q.2 p.1) (partWay (re, rn) q.1 p.2) (partWay (le, ln) q.2 p.2))
      if x.state = epREJOIN ∨ !s.covField ∨ s.cov.moved ∨ 2 ≤ s.motionRow c t then s.bump F.COV_UNMARKED_COUNT cells.length
      else cells.foldl (fun s p => s.markCell l p.1 p.2) s

/-! ### Fetch and write-back (R159) -/

/-- Write a dirty frame back (R159): whether it is clean now. -/
def State.writeBack (s : State) (f : Nat) (ecc : Bool) : Bool × State :=
  match s.frame f with
  | some x =>
    if !x.dirty then (true, s)
    else
      let fail (s : State) : Bool × State := (false, (s.covFlag F.COV_STAT_WB_ERR).event 0x0403 [w32 x.idx])
      if ecc then fail s
      else match s.unitRead (engine 13) (s.frameAddr f) 16384 with
        | (none, s) => fail s
        | (some bs, s) =>
          let (ok, s) := s.unitWrite (engine 13) x.addr bs
          if ok then (true, (s.setFrame f (some { x with dirty := false })).bump F.COV_WBKB_COUNT 16) else fail s
  | none => (true, s)

/-- Write every dirty frame back: how many were written, whether all could be. -/
def State.writeBackAll (s : State) (ecc : List (Fin 128)) : Nat × Bool × State :=
  (List.range 128).foldl (fun r f =>
    match r.2.2.frame f with
    | some x =>
      if x.dirty then
        let (ok, s) := r.2.2.writeBack f (ecc.any (fun g => g.val = f))
        (if ok then r.1 + 1 else r.1, r.2.1 && ok, s)
      else r
    | none => r) (0, true, s)

/-- TILE_WRITEBACK (R159): every PERIOD ms; `ecc` are the frames whose data meets an ECC error. -/
def execTileWriteback (ecc : List (Fin 128)) (s : State) : Out :=
  let per := 1000000 * s.fld F.COV_WB_PERIOD
  if s.flag F.COV_CTL_EN ∧ s.covLoaded ∧ 0 < per ∧ s.due s.cov.wbAt per then
    let s : State := { s with cov := { s.cov with wbAt := s.now } }
    .next (s.writeBackAll ecc).2.2
  else .next s

/-- Whether a point lies within a distance of a square, given by its south-west corner and side. -/
def pointNear (p q : Int × Int) (side : Int) (r : Nat) : Bool :=
  let gap (a lo : Int) : Int := if a < lo then lo - a else if lo + side < a then a - lo - side else 0
  let x := gap p.1 q.1
  let y := gap p.2 q.2
  decide (x * x + y * y ≤ (r : Int) * r)

/-- Whether a segment comes within a distance of a square: an end does, or a corner lies near its inner part, or it cuts the square. -/
def segNear (a b q : Int × Int) (side : Int) (r : Nat) : Bool :=
  let corners := [q, (q.1 + side, q.2), (q.1, q.2 + side), (q.1 + side, q.2 + side)]
  let d := subP2 b a
  let len := d.1 * d.1 + d.2 * d.2
  let beside (p : Int × Int) : Bool :=
    let v := subP2 p a
    let k := v.1 * d.1 + v.2 * d.2
    decide (0 < k ∧ k < len) && decide (cross d v * cross d v ≤ (r : Int) * r * len)
  let apart (x y lo : Int) : Bool := (x < lo && y < lo) || (lo + side < x && lo + side < y)
  let sides := corners.map (fun p => (cross d (subP2 p a)).sign)
  pointNear a q side r || pointNear b q side r || corners.any beside ||
    (!apart a.1 b.1 q.1 && !apart a.2 b.2 q.2 && !(sides.all (· = 1) || sides.all (· = -1)))

/-- The travels at which the engine places the footprint of endpoint e at this tick: where it is, along its walk, and LA_ON ahead for its
rate (R162-R164, R169). -/
def State.placings (s : State) (e : Nat) : List Int :=
  let x := s.ep e
  let (start, far, _) := s.walkSpan e
  let odo := x.odo / 2 ^ 16
  0 :: (if eCovDriven x.cfg then (start :: between start far (decide (x.rate < 0))).map (· - odo) else []) ++
    (if eKind x.cfg = kRATE && ePlEn x.cfg then [x.laOn] else [])

/-- Whether the projected footprint of a coverage-driven or MARK endpoint that reads a layer comes within COV_PF of a tile (R159). -/
def State.tileNear (s : State) (l idx : Nat) : Bool :=
  let d := s.cov.desc
  let side : Int := 2560000 * layCell d l
  let q : Int × Int := (1000 * fieldInt d 4 4 + side * ((idx % layNtx d l : Nat) : Int),
    1000 * fieldInt d 8 4 + side * ((idx / layNtx d l : Nat) : Int))
  (SMap.keys s.ept.eps).any (fun e =>
    let x := s.ep e
    let c := x.cfg
    let w : Int := 1000 * eWidth c
    x.state ≠ epOUT && (eCovDriven c || eKind c = kMARK) && (s.layersOf c).contains l &&
      (s.placings e).any (fun u =>
        let p := s.project c s.ept.tickAt u
        segNear (atPose p (1000 * eX c) (1000 * eY c - w / 2)) (atPose p (1000 * eX c) (1000 * eY c + w / 2)) q side
          (1000 * s.fld F.COV_PF_DIST)))

/-- The frame a tile can take (R159): a free one, else the least recently used that this tick does not need. -/
def State.freeFrame (s : State) : Option Nat :=
  match (List.range 128).find? (fun f => (s.frame f).isNone) with
  | some f => some f
  | none =>
    ((List.range 128).filter (fun f => match s.frame f with | some x => x.lru < s.ept.tickAt | none => false)).foldl (fun m f =>
      match m, s.frame f with
      | none, _ => some f
      | some g, some x => match s.frame g with | some y => if x.lru < y.lru then some f else some g | none => some g
      | some g, none => some g) none

/-- Note whether the fetch of a tile was denied: it reads as ABSENT until it is fetched or its copy is dropped (R160). -/
def State.noteDenied (s : State) (l idx : Nat) (b : Bool) : State :=
  let rest := s.cov.denied.filter (fun p => p ≠ (l, idx))
  { s with cov := { s.cov with denied := if b then (l, idx) :: rest else rest } }

/-- Fetch a tile into the cache (R159): waiting marks act as it arrives. A denied read is recorded and resolves as ABSENT (R160). -/
def State.fetchTile (s : State) (l idx : Nat) (ecc : Bool) : State :=
  match s.frameOf l idx, s.dirEntry l idx with
  | none, .absent (some b) => s.deny (engine 13) .read b
  | none, .present a =>
    match s.freeFrame with
    | none => s.covFlag F.COV_STAT_THRASH
    | some f =>
      let (ok, s) := s.writeBack f ecc
      if !ok then s
      else
        let n := tileBytes s.cov.desc l
        match s.unitRead (engine 13) a n with
        | (none, s) => s.noteDenied l idx true
        | (some bs, s) =>
          let s := s.setFrame f none
          let (ok, s) := s.unitWrite (engine 13) (s.frameAddr f) bs
          if !ok then s
          else
            let s := (s.setFrame f (some ⟨l, idx, a, false, s.ept.tickAt⟩)).bump F.COV_FETCHKB_COUNT (n / 1024)
            let mine := s.cov.marks.filter (fun m => m.1 = l && m.2.1 = idx)
            let s : State := { s with cov := { s.cov with marks := s.cov.marks.filter (fun m => !(m.1 = l && m.2.1 = idx)) } }
            mine.foldl (fun s m => s.advance f m.2.2) (s.noteDenied l idx false)
  | _, _ => s

/-- TILE_FETCH (R159): a tile of an APPLIED, PRESCRIPTION or EXCLUSION layer that a footprint comes near, or that a mark
waits for; `ecc` where the evicted frame's data meets an ECC error. -/
def execTileFetch (l : Fin 8) (idx : BitVec 24) (ecc : Bool) (s : State) : Out :=
  let k := idx.toNat
  let d := s.cov.desc
  if s.flag F.COV_CTL_EN ∧ s.covLoaded ∧ within 1 3 (layKind d l) ∧ k < layNtx d l * layNty d l ∧
      (s.tileNear l k ∨ s.cov.marks.any (fun m => m.1 = l.val && m.2.1 = k)) then .next (s.fetchTile l k ecc)
  else .next s

/-! ### Commands (R174) -/

/-- A COV queue command (Table 6-7). -/
def State.covCmd (s : State) (n op : Nat) (run : State → Desc → State) : State :=
  s.queueCmd n (fun q => q = 0x03) op [1, 2, 3, 4] (fun s d => s.ownDesc n d (fun s => run s d))

/-- A FIELD_LOAD starts: it takes effect at the next tick. -/
def State.runFieldLoad (s : State) (n : Nat) (d : Desc) : State :=
  if d.len = 0 then s.complete n d.didx stEMPTY 0
  else if d.len ≠ 128 then s.complete n d.didx stBADLEN 0
  else { s with cov := { s.cov with loads := s.cov.loads ++ [(n, d.didx, d.addr)] } }

/-- FIELD_LOAD (R174). -/
def execFieldLoad (n : Fin 64) (s : State) : Out := .next (s.covCmd n 1 (fun s d => s.runFieldLoad n d))

/-- Drop the field and the cache. -/
def State.unload (s : State) : State :=
  let id := s.fld F.COV_FSTAT_FIELD_ID
  let s := (s.cov.frames.map (·.1)).foldl (fun s f => s.setFrame f none) s
  let s : State := { s with cov := { s.cov with desc := [], marks := [], denied := [] } }
  let s := ((s.setReg R.COV_FLD_LO 0).setReg R.COV_FLD_HI 0).setReg R.COV_FSTAT 0
  (s.covFlag F.COV_STAT_FIELD_CHG).event 0x0401 [w32 id]

/-- A FIELD_LOAD takes effect at a tick (R152, R153, R174, R545); `ecc` are the frames whose data meets an ECC error as the old field is
written back. -/
def State.takeLoad (s : State) (j : Nat × Nat × Nat) (ecc : List (Fin 128)) : State :=
  let (n, didx, a) := j
  match s.unitRead (engine 13) a 128 with
  | (none, s) => s.complete n didx stACCESS 0
  | (some bs, s) =>
    if !fieldOk bs then s.complete n didx 0x80 0
    else
      let (_, ok, s) := s.writeBackAll ecc
      if s.covLoaded ∧ !ok then s.complete n didx 0x83 0
      else
        let s := if s.covLoaded then s.unload else s
        let s : State := { s with cov := { s.cov with desc := bs, changed := true, wbAt := s.now } }
        let s := (s.setReg R.COV_FLD_LO (w32 a)).setReg R.COV_FLD_HI (w32 (a / 2 ^ 32 % 256))
        let s := (s.setFld F.COV_FSTAT_FIELD_ID (field bs 2 2)).setFld F.COV_FSTAT_LOADED 1
        ((s.covFlag F.COV_STAT_FIELD_CHG).event 0x0401 [w32 (field bs 2 2)]).complete n didx stOK 0

/-- The FIELD_UNLOAD of a descriptor. -/
def State.runUnload (s : State) (n : Nat) (d : Desc) (ecc : List (Fin 128)) : State :=
  if s.covLoaded then (s.writeBackAll ecc).2.2.unload.complete n d.didx stOK 0 else s.complete n d.didx stOK 0

/-- FIELD_UNLOAD (R174). -/
def execFieldUnload (n : Fin 64) (ecc : List (Fin 128)) (s : State) : Out := .next (s.covCmd n 2 (fun s d => s.runUnload n d ecc))

/-- The FLUSH of a descriptor. -/
def State.runFlush (s : State) (n : Nat) (d : Desc) (ecc : List (Fin 128)) : State :=
  if s.covLoaded then
    let (k, _, s) := s.writeBackAll ecc
    s.complete n d.didx stOK k
  else s.complete n d.didx 0x82 0

/-- FLUSH of the coverage queue (R174). -/
def execCovFlush (n : Fin 64) (ecc : List (Fin 128)) (s : State) : Out := .next (s.covCmd n 3 (fun s d => s.runFlush n d ecc))

/-- The TILE_INVAL of a descriptor. -/
def State.runInval (s : State) (n : Nat) (d : Desc) : State :=
  let l := d.arg0 % 8
  if !s.covLoaded then s.complete n d.didx 0x82 0
  else if layKind s.cov.desc l = lkAPPLIED then s.complete n d.didx 0x81 0
  else
    let hit := (SMap.keys s.cov.frames).filter (fun f => match s.frame f with
      | some x => x.layer = l && within d.arg1 (d.arg1 + d.arg2 - 1) x.idx && 0 < d.arg2
      | none => false)
    let s := hit.foldl (fun s f => s.setFrame f none) s
    let s : State := { s with cov := { s.cov with denied := s.cov.denied.filter (fun p =>
      !(p.1 = l && within d.arg1 (d.arg1 + d.arg2 - 1) p.2 && 0 < d.arg2)) } }
    s.complete n d.didx stOK hit.length

/-- TILE_INVAL (R174). -/
def execTileInval (n : Fin 64) (s : State) : Out := .next (s.covCmd n 4 (fun s d => s.runInval n d))

/-- A write of COV_POOLTAIL (R158): frames are added; the pool counts as refilled. -/
def State.writePoolTail (s : State) (w : Word) : State :=
  let s := s.writePlain R.COV_POOLTAIL w
  if s.fld F.COV_POOLTAIL_IDX ≠ s.fld F.COV_POOLHEAD_IDX then { s with cov := { s.cov with empty := false } } else s

/-- COV_POOL_TAIL_WRITE (R158). -/
def execCovPoolTailWrite (acc : Acc) (value : Word) (s : State) : Out :=
  .next (s.guardWrite acc R.COV_POOLTAIL (fun s => s.writePoolTail value))

/-- Cut a field to 100 (R177). -/
def State.cut100 (s : State) (f : Fld) : State := if 100 < s.fld f then s.setFld f 100 else s

/-- A register write in the COV window: DEGPOL 3 reads 1, a pool SIZE outside 4 to 16 reads 0, percentages end at 100. -/
def State.writeCov (s : State) (a : Nat) (w : Word) : State :=
  if a = R.COV_POOLTAIL then s.writePoolTail w
  else
    let s := s.writePlain a w
    if a = R.COV_CTL then (if s.fld F.COV_CTL_DEGPOL = 3 then s.setFld F.COV_CTL_DEGPOL 1 else s)
    else if a = R.COV_POOLCFG then (if within 4 16 (s.fld F.COV_POOLCFG_SIZE) then s else s.setFld F.COV_POOLCFG_SIZE 0)
    else if R.COV_HRULE 0 ≤ a ∧ a < R.COV_HRULE 16 then
      let h := (a - R.COV_HRULE 0) / 4
      ((s.cut100 (F.COV_HRULE_HYST h)).cut100 (F.COV_HRULE_XON h)).cut100 (F.COV_HRULE_XOFF h)
    else s

end Sys2Proof.Machine
end

