-- ==== Sys2Proof/Machine/EndpointTick.lean ====
section
/-! DEFINITION. The endpoint tick and the endpoint commands (04_endpoint_table.md; R161, R168, R172). -/

namespace Sys2Proof.Machine

/-! ### Entries and service states (R97, R98, R109, R112) -/

/-- Whether a class B field differs between two entries (R112). -/
def classB (c d : List Byte) : Bool :=
  eKind c ≠ eKind d || eBody c ≠ eBody d || eTrans c ≠ eTrans d || field c 4 4 ≠ field d 4 4 || eAxis c ≠ eAxis d ||
    eLoop c ≠ eLoop d || eRdest c ≠ eRdest d

/-- A class A change of an entry takes effect (R112). -/
def State.epChange (s : State) (e : Nat) (c : List Byte) : State :=
  let x := s.ep e
  let s := s.setEp e { x with cfg := c, sIdx := if ePitch c = ePitch x.cfg then x.sIdx else x.odo / 2 ^ 16 / (max 1 (ePitch c) : Nat) }
  let s := s.copySafe e
  let safe := (s.ep e).safeOn
  if x.state = epREJOIN ∧ eOutput c ∧ x.safeOn ≠ safe then
    (s.updEp e (fun x => { x with level := safe, rcmd := x.safeCmd })).force e safe
  else if eInvert c ≠ eInvert x.cfg ∧ eOutput c ∧ eLocal c ∧ !s.tdmMasked then s.driveChan c x.shown s.now
  else s

/-- A class B change (R112): the old binding to safe state, REJOIN on the new one with cause REWRITE. -/
def State.epRebind (s : State) (e t : Nat) (c : List Byte) : State :=
  match s.rival e c with
  | some f => if f < e then s.epLose e else (s.epLeave e).epRejoin e caREWRITE t
  | none => (s.epLeave e).epRejoin e caREWRITE t

/-- Causes after which a doorbell brings an endpoint back (Table 4-6, R98). -/
def caEntry (k : Nat) : Bool := k = caEMPTY || k = caCONFIG || k = caABSENT || k = caTORN || k = caCONFLICT

/-- A doorbell has covered endpoint e since the last tick (R97, R98, R112, Table 4-6). In OUT an entry that turns invalid, empty or
absent gives its cause, and a valid one is the entry that the other causes are judged on. -/
def State.epReload (s : State) (e t : Nat) : State :=
  let x := s.ep e
  let c := s.entry 0 e
  let s := s.setEp e { x with fresh := false }
  if x.state = epOUT then
    let why := s.epWhy c
    if caEntry x.cause then s.epAdmit e t
    else s.updEp e (fun x => { x with cfg := c, cause := if why = caNONE then x.cause else why })
  else
    let why := s.epWhy c
    if why ≠ caNONE then s.epOut e why
    else if classB c x.cfg then s.epRebind e t c
    else if c ≠ x.cfg then s.epChange e c
    else s

/-- The service state of a processed endpoint at tick t, before its motion (Table 4-6): its entry reloaded, or no longer valid by a
channel entry that has changed (R205, R251), its axis disabled, its transport unhealthy or healthy again. -/
def State.epService (s : State) (e t : Nat) : State :=
  let s := if (s.ep e).used then s else (s.updEp e (fun x => { x with used := true, fresh := false })).epAdmit e t
  let s := if (s.ep e).fresh then s.epReload e t else s
  let x := s.ep e
  if x.state = epOUT then
    if x.cause = caTRANSPORT ∧ eAutoRet x.cfg ∧ s.transportOk x.cfg then s.epAdmit e t
    else if x.cause = caAXIS ∧ s.axState (eAxis x.cfg) ≠ axDISABLED then s.epAdmit e t
    else s
  else if s.epWhy x.cfg ≠ caNONE then s.epOut e (s.epWhy x.cfg)
  else if s.axState (eAxis x.cfg) = axDISABLED then s.epOut e caAXIS
  else if !s.transportOk x.cfg then s.epOut e caTRANSPORT
  else s

/-- The endpoints of a first index and a count (R116). -/
def epRange (first count : Nat) : List Nat := (List.range (min count (4096 - first))).map (first + ·)

/-- An EP_OUT or EP_RETURN acts on endpoint e (R116, Table 4-6): whether it did. EP_RETURN needs a processed endpoint, and
does not bring back one that lost a conflict (R98). -/
def State.epJob (s : State) (op e t : Nat) : Bool × State :=
  let x := s.ep e
  if op = 1 then (if x.state = epOUT then (false, s) else (true, s.epOut e caCOMMAND))
  else if x.state = epOUT ∧ e < s.ept.n ∧ x.cause ≠ caCONFLICT ∧ s.epWhy (s.entry 0 e) = caNONE then
    let s := s.epAdmit e t
    (decide ((s.ep e).state = epREJOIN), s)
  else (false, s)

/-- A waiting EP_OUT or EP_RETURN acts; it completes after the tick with the number it acted on (R116). -/
def State.epCommand (s : State) (j : Nat × Nat × Nat × Nat × Nat × Nat) (t : Nat) : State :=
  let (n, didx, op, first, count, _) := j
  if op = 3 then s
  else
    let r := (epRange first count).foldl (fun r e =>
      let (ok, s) := r.2.epJob op e t
      (if ok then r.1 + 1 else r.1, s)) ((0, s) : Nat × State)
    r.2.complete n didx stOK r.1

/-- A waiting STATE_COPY copies the records of the tick (R116, Table 4-8a). -/
def State.epCopy (s : State) (j : Nat × Nat × Nat × Nat × Nat × Nat) : State :=
  let (n, didx, op, first, count, addr) := j
  if op ≠ 3 then s
  else
    let es := epRange first count
    let (ok, s) := s.unitWrite (engine 12) addr (es.flatMap s.epRecord)
    if ok then s.complete n didx stOK es.length else s.complete n didx stACCESS 0

/-- A rise or fall of N at tick t (R114). A rise over an endpoint that lost its channel admits it without a doorbell: R98 and R114 leave
the case open, and R114 is followed (log entry 53). -/
def State.epCount (s : State) (t : Nat) : State :=
  let old := s.ept.n
  let n := min 4096 (s.fld F.EPT_COUNT_N)
  let s : State := { s with ept := { s.ept with n := n } }
  if n < old then
    (epRange n (old - n)).foldl (fun s e => if (s.ep e).state = epOUT then s else s.epOut e caCOUNT) s
  else (epRange old (n - old)).foldl (fun s e =>
    if (s.ep e).state = epOUT then (s.updEp e (fun x => { x with used := true, fresh := false })).epAdmit e t else s) s

/-! ### The tick (R100, R108, R110) -/

/-- Whether tick t is consistent for endpoint e in REJOIN (R110). An endpoint that is not coverage-driven gets no coverage decision: the
fourth condition counts as met for it (log entry 53). -/
def State.epConsistent (s : State) (e : Nat) : Bool :=
  let x := s.ep e
  let a := eAxis x.cfg
  let st := s.axState a
  let decided := !eCovDriven x.cfg || (s.flag F.COV_CTL_EN && !s.flag (F.COV_DEC_NODEC e) && !s.flag (F.COV_DEC_MISS e) &&
    !s.flag (F.COV_DEC_DEGRADED e))
  !x.torn && (st = axRUN || st = axBLEND || s.flag (F.STR_AXSTAT_STILL a)) && s.transportOk x.cfg && decided

/-- Endpoint e goes IN at the start of a tick once CWAIT is over: the tick's walk is then the fresh one of R173 (R109, R111). -/
def State.epWaited (s : State) (e : Nat) : State :=
  let x := s.ep e
  match x.readyAt with
  | some r => if x.state = epREJOIN ∧ (x.go ∨ s.elapsed r (1000000 * s.fld F.EPT_REJOIN_CWAIT)) then s.epEnter e else s
  | none => s

/-- Count consistent ticks of endpoint e (R109, R110). -/
def State.epCons (s : State) (e t : Nat) : State :=
  let x := s.ep e
  if x.state ≠ epREJOIN then s
  else
    let need := s.fld F.EPT_REJOIN_N
    let cons := if s.epConsistent e then min 255 (x.cons + 1) else 0
    if cons < need then s.setEp e { x with cons := cons, readyAt := none, go := false }
    else s.setEp e { x with cons := cons, readyAt := if x.readyAt.isSome then x.readyAt else some t }

/-- The override of Table 4-5b in force: 1 OFF, 2 the safe state ON (R108). -/
def State.epOverride (s : State) (e : Nat) : Nat :=
  let x := s.ep e
  let c := x.cfg
  let a := eAxis c
  let lost := s.axState a = axLOST && eLostSafe c
  if (eStillOff c && s.flag (F.STR_AXSTAT_STILL a)) || (eRevOff c && s.flag (F.STR_AXSTAT_REVERSE a)) || (lost && eSafe c = 0) then 1
  else if lost then 2 else 0

/-- Overrides of endpoint e, and the alignment after one or after going IN, at the scan's completion (R108, R125). An axis
that is LOST lets no decision edge and no slot on a position fire. A remote endpoint's alignment goes out as a record (R140). -/
def State.epForce (s : State) (e t done : Nat) : State :=
  let x := s.ep e
  let s := if s.axState (eAxis x.cfg) = axLOST then
      let held (a : Armed) : Bool := a.ep = e && a.edge.base ≠ 2 && (match a.edge.src with | .align => false | _ => true)
      (s.disarm held).dropCond held
    else s
  if x.state ≠ epIN ∨ !eOutput x.cfg then s
  else
    let o := s.epOverride e
    let s := s.setEp e { x with ovr := o, align := false }
    if o = 0 then
      (if x.ovr = 0 ∧ !x.align then s
      else if !eRemote x.cfg ∨ (eKind x.cfg = kPULSE ∧ !x.pulseRecs) then s.arm1 e ⟨.align, true, 2, done, false, false⟩ done
      else if x.computed = x.level ∨ !s.emits e then s
      else
        let (ok, s) := s.issueLevel e ⟨.align, x.computed, 2, done, false, false⟩ done t x.computed
        if ok then s else s.updEp e (fun x => { x with align := true }))
    else if o = x.ovr then s
    else if o = 1 then (if x.level ∨ x.shown then s.force e false else s)
    else (s.updEp e (fun x => { x with rcmd := x.safeCmd })).force e true

/-- The command formed at the last tick reaches the channel or node of endpoint e while its level is ON (R107). -/
def State.epSend (s : State) (e t : Nat) : State :=
  let x := s.ep e
  let c := x.cfg
  if eKind c ≠ kRATE ∨ eRdest c ∨ x.state ≠ epIN ∨ !x.level ∨ x.ovr ≠ 0 ∨ s.tdmMasked then s
  else if eRemote c then
    if x.sent = x.rcmd ∨ 8192 ≤ s.slt.issue.length then s
    else
      let (seq, s) := s.takeSeq (eBus c) (eNode c)
      let s := s.updEp e (fun x => { x with sent := x.rcmd })
      let i : Issue := ⟨e, eBus c, eNode c, seq, 0, ⟨.old, true, 2, t, false, false⟩, true, x.rcmd, t,
        s.fld F.SLT_RMT_REPEAT, t, true, false⟩
      (({ s with slt := { s.slt with issue := s.slt.issue ++ [i] } } : State).sendIssue i).trimIssue
  else s.driveRate e x.rcmd

/-- The rate command of endpoint e at a tick: the safe command stands while the safe state overrides (R106, R113). -/
def State.epForm (s : State) (e : Nat) : State :=
  if (s.ep e).ovr = 2 then s else s.epRate e

/-- DEG_NOW (R172): event COV_DEGRADED as the first row other than the first begins and as the last one ends. -/
def State.covDegraded (s : State) (live : List Nat) : State :=
  let now := live.any (fun e => s.flag (F.COV_DEC_DEGRADED e))
  if now = s.flag F.COV_STAT_DEG_NOW then s
  else
    let s := (s.setBit F.COV_STAT_DEG_NOW now).event 0x0404 []
    if now then s.covFlag F.COV_STAT_DEGRADED else s

/-- NOUT, NREJOIN and NIN. -/
def State.epTotals (s : State) : State :=
  let k (st : Nat) : Nat := (s.ept.eps.filter (fun p => p.2.state = st)).length
  let r := k epREJOIN
  let i := k epIN
  ((s.setFld F.EPT_NSTATE_NREJOIN r).setFld F.EPT_NSTATE_NOUT (4096 - r - i)).setFld F.EPT_NIN_NIN i

/-- The endpoint tick at t (R100-R114, R123-R131, R140, R141, R161-R173, R465): entries, commands and service states; motion and
marking; the slot scan with the decisions of earlier ticks; the coverage decisions; rate commands; overrides; the records.
`late` are the endpoints the coverage engine does not reach in time. -/
def State.endpointTick (s : State) (t : Nat) (late : List Nat) : State :=
  let (r, s) := s.drawNat 32
  let done := t + 1000 * (r % 201)
  let s := s.epCount t
  let jobs := s.ept.jobs
  let s : State := { s with ept := { s.ept with jobs := [] } }
  let s := jobs.foldl (fun s j => s.epCommand j t) s
  let all := epRange 0 s.ept.n
  let s := if s.tdm.rejoin then
      all.foldl (fun s e => if (s.ep e).state = epOUT then s else (s.epLeave e).epRejoin e caNONE t)
        { s with tdm := { s.tdm with rejoin := false } }
    else s
  let s := all.foldl (fun s e => s.epService e t) s
  let live := all.filter (fun e => (s.ep e).state ≠ epOUT)
  let s := live.foldl (fun s e => s.epWaited e) s
  let s := live.foldl (fun s e => s.epMove e t) s
  let s := live.foldl (fun s e => s.covMark e t) s
  let s := if s.flag F.SLT_CTL_EN then
      ((live.map (· / 16)).eraseDups).foldl (fun s c => s.slotSeeAll c t) s
    else s
  let s := live.foldl (fun s e => s.scan e t done) s
  let s := if s.flag F.SLT_CTL_EN then s.condArm t else s
  let s := live.foldl (fun s e => s.covDecide e t (late.contains e)) s
  let s := (SMap.keys s.ept.eps).foldl (fun s e => if (s.ep e).state = epOUT then s.setReg (R.COV_DEC e) 0 else s) s
  let s := s.covDegraded live
  let s := live.foldl (fun s e => s.epCons e t) s
  let s := live.foldl (fun s e => (s.epSend e t).epForm e) s
  let s := live.foldl (fun s e => s.epForce e t done) s
  let s : State := { s with cov := { s.cov with changed := false, moved := false } }
  let s := s.epTotals
  let s := (SMap.keys s.ept.eps).foldl (fun s e => s.epShow e) s
  let s := jobs.foldl (fun s j => s.epCopy j) s
  s.setFld F.EPT_TICKSEQ_SEQ (next32 (s.fld F.EPT_TICKSEQ_SEQ))

/-- ENDPOINT_TICK (R100): every 250 µs. A FIELD_LOAD takes effect at it; endpoints are processed while EN is set.
`work` names the endpoints the coverage engine does not reach in time, and the frames whose data meets an ECC error. -/
def execEndpointTick (work : List (Fin 4096) × List (Fin 128)) (s : State) : Out :=
  if s.due s.ept.tickAt 250000 then
    let t := (s.ept.tickAt / 250000 + 1) * 250000
    let loads := s.cov.loads
    let s : State := { s with cov := { s.cov with loads := [] } }
    let s := loads.foldl (fun s j => s.takeLoad j work.2) s
    let s := s.setBit F.COV_FSTAT_NOFIELD (s.covLoaded && !s.covField)
    let s : State := { s with ept := { s.ept with tickAt := t } }
    let s := (List.range 8).foldl (fun s a =>
      if s.axState a = axDISABLED then s else s.setAxis a { s.axis a with rates := (s.axRate a :: (s.axis a).rates).take 8 }) s
    .next (if s.flag F.EPT_CTL_EN then s.endpointTick t (work.1.map (·.val)) else s)
  else .next s

/-- REJOIN_CWAIT_EXPIRY (R109): no commit point has come within CWAIT ms of the consistent ticks; IN at the next tick. -/
def execRejoinCwaitExpiry (e : Fin 4096) (s : State) : Out :=
  let x := s.ep e
  match x.readyAt with
  | some t =>
    if x.state = epREJOIN ∧ s.elapsed t (1000000 * s.fld F.EPT_REJOIN_CWAIT) then .next (s.setEp e { x with go := true }) else .next s
  | none => .next s

/-! ### Commands and registers (R114, R116, R117) -/

/-- A descriptor of queue 0x01: it acts at the next endpoint tick. -/
def State.runEpt (s : State) (n : Nat) (d : Desc) : State :=
  if d.op = 3 ∧ d.len = 0 then s.complete n d.didx stEMPTY 0
  else if d.op = 3 ∧ d.len ≠ 32 * d.arg1 then s.complete n d.didx stBADLEN 0
  else { s with ept := { s.ept with jobs := s.ept.jobs ++ [(n, d.didx, d.op, d.arg0, d.arg1, d.addr)] } }

/-- An EPT queue command (Table 4-8a). -/
def State.eptCmd (s : State) (n op : Nat) : State :=
  s.queueCmd n (fun q => q = 0x01) op [1, 2, 3] (fun s d => s.ownDesc n d (fun s => s.runEpt n d))

/-- EP_OUT (R116). -/
def execEpOut (n : Fin 64) (s : State) : Out := .next (s.eptCmd n 1)

/-- EP_RETURN (R116). -/
def execEpReturn (n : Fin 64) (s : State) : Out := .next (s.eptCmd n 2)

/-- STATE_COPY (R116). -/
def execStateCopy (n : Fin 64) (s : State) : Out := .next (s.eptCmd n 3)

/-- EPT_COUNT_WRITE (R114): effective at the next endpoint tick. -/
def execEptCountWrite (acc : Acc) (value : Word) (s : State) : Out :=
  .next (s.guardWrite acc R.EPT_COUNT (fun s => s.writePlain R.EPT_COUNT value))

/-- EPT_ENABLE (R117): a write of EPT_CTL. -/
def execEptEnable (acc : Acc) (value : Word) (s : State) : Out :=
  .next (s.guardWrite acc R.EPT_CTL (fun s => s.writePlain R.EPT_CTL value))

end Sys2Proof.Machine
end

