-- ==== Sys2Proof/Machine/F32.lean ====
section
/-! DEFINITION. binary32 arithmetic (R178): IEEE 754, round to nearest with ties to even (log entry 54). A value is its
32 bits, as a number. -/

namespace Sys2Proof.Machine

/-- Sign, NaN, infinity, zero. -/
def fNeg (x : Nat) : Bool := x / 2 ^ 31 % 2 = 1
def fNan (x : Nat) : Bool := f32Special x && x % 2 ^ 23 ≠ 0
def fInf (x : Nat) : Bool := f32Special x && x % 2 ^ 23 = 0
def fZero (x : Nat) : Bool := x % 2 ^ 31 = 0
def fFinite (x : Nat) : Bool := !f32Special x

/-- The NaN an operation makes. -/
def fMakeNan : Nat :=
  let b := Config.nanBits.toNat
  b / 2 ^ 22 * 2 ^ 31 + 0x7FC00000 + b % 2 ^ 22

/-- A sign bit before a magnitude. -/
def fSigned (neg : Bool) (mag : Nat) : Nat := if neg then 2 ^ 31 + mag else mag

/-- The infinity of a sign. -/
def fInfinity (neg : Bool) : Nat := fSigned neg 0x7F800000

/-- n ÷ d to a whole number, to nearest with ties to even. -/
def divEven (n d : Nat) : Nat :=
  let q := n / d
  let r := n % d
  if 2 * r < d then q else if d < 2 * r then q + 1 else q + q % 2

/-- n ÷ d × 2^-e to a whole number, to nearest with ties to even. -/
def scaledEven (n d : Nat) (e : Int) : Nat :=
  if 0 ≤ e then divEven n (d * 2 ^ e.toNat) else divEven (n * 2 ^ (-e).toNat) d

/-- The binary32 value nearest to ±n ÷ d: infinity where it overflows. -/
def fRat (neg : Bool) (n d : Nat) : Nat :=
  if n = 0 ∨ d = 0 then fSigned neg 0
  else
    let l : Int := (n.log2 : Int) - d.log2
    let below := if 0 ≤ l then decide (n < d * 2 ^ l.toNat) else decide (n * 2 ^ (-l).toNat < d)
    let e : Int := (if below then l - 1 else l) - 23
    let e := if e < -149 then -149 else e
    let b := (e + 149).toNat * 2 ^ 23 + scaledEven n d e
    if 0x7F800000 ≤ b then fInfinity neg else fSigned neg b

/-- A whole number, and a whole number over another, as binary32. -/
def fInt (x : Int) : Nat := fRat (decide (x < 0)) x.natAbs 1
def fFrac (x : Int) (d : Nat) : Nat := fRat (decide (x < 0)) x.natAbs d

/-- m × 2^e as binary32; an exact zero takes a sign. -/
def fDyadic (m e : Int) (zneg : Bool) : Nat :=
  if m = 0 then fSigned zneg 0
  else if 0 ≤ e then fRat (decide (m < 0)) (m.natAbs * 2 ^ e.toNat) 1
  else fRat (decide (m < 0)) m.natAbs (2 ^ (-e).toNat)

def fNegate (x : Nat) : Nat := if fNeg x then x - 2 ^ 31 else x + 2 ^ 31
def fAbs (x : Nat) : Nat := x % 2 ^ 31

def fAdd (x y : Nat) : Nat :=
  if fNan x || fNan y || (fInf x && fInf y && fNeg x ≠ fNeg y) then fMakeNan
  else if fInf x then x
  else if fInf y then y
  else
    let (m, e) := f32Parts x
    let (n, g) := f32Parts y
    let k := if e ≤ g then e else g
    fDyadic (m * 2 ^ (e - k).toNat + n * 2 ^ (g - k).toNat) k (fNeg x && fNeg y)

def fSub (x y : Nat) : Nat := fAdd x (fNegate y)

def fMul (x y : Nat) : Nat :=
  let neg := fNeg x != fNeg y
  if fNan x || fNan y || (fInf x && fZero y) || (fZero x && fInf y) then fMakeNan
  else if fInf x || fInf y then fInfinity neg
  else
    let (m, e) := f32Parts x
    let (n, g) := f32Parts y
    fDyadic (m * n) (e + g) neg

def fDiv (x y : Nat) : Nat :=
  let neg := fNeg x != fNeg y
  if fNan x || fNan y || (fInf x && fInf y) || (fZero x && fZero y) then fMakeNan
  else if fInf x || fZero y then fInfinity neg
  else if fInf y || fZero x then fSigned neg 0
  else
    let (m, e) := f32Parts x
    let (n, g) := f32Parts y
    let k := e - g
    if 0 ≤ k then fRat neg (m.natAbs * 2 ^ k.toNat) n.natAbs else fRat neg m.natAbs (n.natAbs * 2 ^ (-k).toNat)

/-- The order key of a value that is no NaN. -/
def fKey (x : Nat) : Int := if fNeg x then -((x - 2 ^ 31 : Nat) : Int) else (x : Int)

def fLt (x y : Nat) : Bool := !fNan x && !fNan y && decide (fKey x < fKey y)
def fLe (x y : Nat) : Bool := !fNan x && !fNan y && decide (fKey x ≤ fKey y)

/-- A value kept within limits. -/
def fClamp (lo hi x : Nat) : Nat := if fLt x lo then lo else if fLt hi x then hi else x

/-- A finite value × k, to the nearest whole number, halves away from zero. -/
def fRound (x k : Nat) : Int :=
  let (m, e) := f32Parts x
  let n : Nat := m.natAbs * k
  let q : Nat := if 0 ≤ e then n * 2 ^ e.toNat else (2 * n + 2 ^ (-e).toNat) / (2 * 2 ^ (-e).toNat)
  if m < 0 then -(q : Int) else q

/-- The whole part of a finite value × k, downward. -/
def fFloor (x k : Nat) : Int :=
  let (m, e) := f32Parts x
  if 0 ≤ e then m * k * 2 ^ e.toNat else m * k / 2 ^ (-e).toNat

end Sys2Proof.Machine
end

