-- ==== Sys2Proof/Machine/Yield.lean ====
section
/-! DEFINITION. Harvest functions: loss channels, crop flow, the yield delay line (15_harvest_functions.md). -/

namespace Sys2Proof.Machine

/-- Set a flag of YLD_STAT. -/
def State.yldFlag (s : State) (f : Fld) : State := s.raiseFlag f 202

/-- A refused EN: CONFIG and its event (R368). -/
def State.yldConfig (s : State) : State := (s.yldFlag F.YLD_STAT_CONFIG).event 0x0D01 []

/-! ### Loss channels and crop flow (R352-R355) -/

/-- Whether the last result of an analogue input is OK. -/
def State.ainOk (s : State) (i : Nat) : Bool := i < 48 && s.fld (F.AFE_RES_STATUS i) = 0

/-- The inputs a mask names. -/
def maskPins (m : Nat) : List Nat := (List.range 24).filter (fun n => m / 2 ^ n % 2 = 1)

/-- The flow input is used and its last result is OK. -/
def State.flowOk (s : State) : Bool := s.flag F.YLD_FLOWCFG_EN && s.ainOk (s.fld F.YLD_FLOWCFG_AIN)

/-- Whether the inputs of loss channel l are good (R353). -/
def State.lossInputs (s : State) (l : Nat) : Bool :=
  let m := s.fld (F.YLD_LOSSMASK_MASK l)
  s.flag (F.YLD_LOSSCFG_EN l) && m ≠ 0 &&
    (maskPins m).all (fun n => s.pinValid n && pMode (s.entry 5 n) = 2 && !s.pinOpen n)

/-- 0.1 as binary32. -/
def f01 : Nat := fFrac 1 10

/-- The magnitude of the rate of the axis YLD_CFG.AXIS, in 2^-32 count of 0.1 mm per s (R352). -/
def State.yldSpeed (s : State) : Nat := (s.axRate (s.fld F.YLD_CFG_AXIS)).natAbs * 1000000

/-- Whether loss channel l is valid (R353). -/
def State.lossValid (s : State) (l : Nat) : Bool :=
  s.lossInputs l && (match s.fld (F.YLD_LOSSCFG_NORM l) with
    | 0 => true
    | 1 => decide (1000 * 2 ^ 32 ≤ s.yldSpeed)
    | 2 => s.flowOk && !fLt (s.reg R.YLD_FLOWNOW).toNat f01
    | _ => false)

/-- One update of loss channel l (R352): rate, filter, norm. -/
def State.lossUpdate (s : State) (l : Nat) : State :=
  if !s.lossInputs l then s.setFld (F.YLD_LOSSSTAT_VALID l) 0
  else
    let r := fFrac (((maskPins (s.fld (F.YLD_LOSSMASK_MASK l))).map (fun n => (s.reg (R.PLS_RATE n)).toNat)).sum : Nat) 1000
    let tf := s.fld (F.YLD_LOSSCFG_TF l)
    let y := SMap.get (fun _ => 0) s.yld.loss l
    let y := if tf = 0 then r else fDiv (fAdd (fMul (fInt tf) y) (fMul (fInt 10) r)) (fInt (tf + 10))
    let s : State := { s with yld := { s.yld with loss := SMap.set (fun _ => 0) s.yld.loss l y } }
    if s.lossValid l then
      let out := match s.fld (F.YLD_LOSSCFG_NORM l) with
        | 1 => fDiv y (fFrac s.yldSpeed (10000 * 2 ^ 32))
        | 2 => fDiv y (s.reg R.YLD_FLOWNOW).toNat
        | _ => y
      (s.setReg (R.YLD_LOSSOUT l) (w32 out)).setFld (F.YLD_LOSSSTAT_VALID l) 1
    else s.setFld (F.YLD_LOSSSTAT_VALID l) 0

/-- Whether crop-flow estimator e is valid (R355). -/
def State.cfeValid (s : State) (e : Nat) : Bool :=
  let n := s.fld (F.YLD_CFECFG_PLS e)
  s.flag (F.YLD_CFECFG_EN e) && s.ainOk (s.fld (F.YLD_CFECFG_AIN e)) &&
    (!s.flag (F.YLD_CFECFG_SEN e) || (s.pinValid n && !s.pinOpen n))

/-- LOSS_UPDATE (R352): every 10 ms. -/
def execLossUpdate (s : State) : Out :=
  if s.due s.yld.lossAt 10000000 then
    let s : State := { s with yld := { s.yld with lossAt := s.now } }
    let s := [0, 1, 2, 3].foldl (fun s l => s.lossUpdate l) s
    .next ([0, 1].foldl (fun s e => s.setBit (F.YLD_CFESTAT_VALID e) (s.cfeValid e)) s)
  else .next s

/-- A result of its input reaches estimator e, stamped at an instant (R354, R355): the filter takes the time since the result before,
valid or not, and keeps its value through those that are not. -/
def State.cfeResult (s : State) (e t : Nat) : State :=
  if !s.cfeValid e then
    let old := (SMap.get (fun _ => none) s.yld.cfe e).map (fun p => (p.1, t))
    ({ s with yld := { s.yld with cfe := SMap.set (fun _ => none) s.yld.cfe e old } } : State).setFld (F.YLD_CFESTAT_VALID e) 0
  else
    let i := s.fld (F.YLD_CFECFG_AIN e)
    let x := fInt (s.fldInt (F.AFE_RES_CODE i) - s.fldInt (F.YLD_CFEX0_X0 e))
    let rate := if s.flag (F.YLD_CFECFG_SEN e) then fFrac (s.fldInt (F.PLS_RATE_RATE (s.fld (F.YLD_CFECFG_PLS e)))) 1000 else fInt 1
    let q := fMul (fMul (s.reg (R.YLD_CFEKQ e)).toNat x) rate
    let q := if fLt q 0 then 0 else q
    let tf := fInt (s.fld (F.YLD_CFETF_TF e))
    let y := match SMap.get (fun _ => none) s.yld.cfe e with
      | some (y, t0) =>
        let dt := fFrac ((t - t0 : Nat) : Int) 1000000
        if fZero tf then q else fDiv (fAdd (fMul tf y) (fMul dt q)) (fAdd tf dt)
      | none => q
    let s : State := { s with yld := { s.yld with cfe := SMap.set (fun _ => none) s.yld.cfe e (some (y, t)) } }
    (s.setReg (R.YLD_CFEOUT e) (w32 y)).setFld (F.YLD_CFESTAT_VALID e) 1

/-- A result of input i reaches the flow and moisture sums (R357, R358). -/
def State.grainResult (s : State) (i : Nat) : State :=
  let code := s.fldInt (F.AFE_RES_CODE i)
  let ok := s.ainOk i
  let s := if s.flag F.YLD_FLOWCFG_EN ∧ s.fld F.YLD_FLOWCFG_AIN = i then
      (let c := s.yld.cur
      if ok then
        (let q := fMul (fInt (code - s.fldInt F.YLD_TARE_TARE)) (s.reg R.YLD_KF).toNat
        let q := if fLt q 0 then 0 else q
        let (mass, s) := if fFinite q then (fFloor q (aDec (s.entry 4 i) * 15625), s)
          else (let (r, s) := s.drawNat 32; ((r : Int), s))
        let s := s.setReg R.YLD_FLOWNOW (w32 q)
        { s with yld := { s.yld with cur := { c with mass := c.mass + mass, ok := c.ok + 1, all := c.all + 1 } } })
      else { s with yld := { s.yld with cur := { c with all := c.all + 1 } } })
    else s
  if s.flag F.YLD_MOISTCFG_EN ∧ s.fld F.YLD_MOISTCFG_AIN = i ∧ ok then
    let m := fAdd (fMul (fInt code) (s.reg R.YLD_KM).toNat) (s.reg R.YLD_M0).toNat
    let c := s.yld.cur
    let (x, s) := if fFinite m then (fRound m 1000000, s) else (let (r, s) := s.drawNat 32; ((r : Int), s))
    let s := s.setReg R.YLD_MOISTNOW (w32 m)
    { s with yld := { s.yld with cur := { c with moist := c.moist + x, mok := c.mok + 1 } } }
  else s

/-- AFE_RESULT (R264): a conversion of input i ends, no sooner than an output period after the one before, x in nV (a CURRENT input
in nA), the excitation in µV. The result represents the instant a group delay back, off by `err` ticks of 20 ns, at most 1 µs. The
estimators, the delay line and the HITCH sources of Weave take it (R354, R357, Table 12-2). -/
def execAfeResult (i : Fin 48) (x : BitVec 40) (vexc : BitVec 24) (err : BitVec 7) (s : State) : Out :=
  if !s.flag F.AFE_CTL_EN || !s.ainValid i || !s.ainDue i then .next s
  else
    let t := (((s.now - s.groupDelay i : Nat) : Int) + 20 * clampI (-50) 50 err.toInt).toNat
    let s := s.ainResult i x.toInt vexc.toNat t
    let s := [0, 1].foldl (fun s e =>
      if s.fld (F.YLD_CFECFG_AIN e) = i.val then s.cfeResult e t else s) s
    .next ((s.grainResult i).hitchSample i t)

/-! ### The cut trace (R359) -/

/-- Cut endpoint k: the endpoint it names, where it is used. -/
def State.cutEp (s : State) (k : Nat) : Option Nat :=
  let (en, ep) := match k with
    | 0 => (F.YLD_CUT01_EN0, F.YLD_CUT01_EP0)
    | 1 => (F.YLD_CUT01_EN1, F.YLD_CUT01_EP1)
    | 2 => (F.YLD_CUT23_EN2, F.YLD_CUT23_EP2)
    | _ => (F.YLD_CUT23_EN3, F.YLD_CUT23_EP3)
  if s.flag en then some (s.fld ep) else none

/-- Whether cut endpoint k is cutting. -/
def State.cutting (s : State) (k : Nat) : Bool :=
  let n := s.fld F.YLD_CFG_HDRPT
  match s.cutEp k with
  | some e => (s.ep e).state = epIN && s.fld (F.DIO_INLVL_LEVEL (n / 32)) / 2 ^ (n % 32) % 2 = s.fld F.YLD_CFG_HDRPOL
  | none => false

/-- TRACE_APPEND (R359): every 10 ms while the delay line is enabled. -/
def execTraceAppend (s : State) : Out :=
  if s.flag F.YLD_CTL_EN ∧ s.due s.yld.traceAt 10000000 then
    let t := (s.yld.traceAt / 10000000 + 1) * 10000000
    let body := match s.cutEp 0 with | some e => eBody (s.entry 0 e) | none => 0
    let p := s.poseAt body t
    let mask := ([0, 1, 2, 3].map (fun k => if s.cutting k then 2 ^ k else 0)).sum
    let c : Cut := ⟨t, if p.state = 0 then none else some (p.e, p.n, p.hdg), s.axPos (s.fld F.YLD_CFG_AXIS) t,
      s.fld F.WVE_FIELD_FIELD_ID, mask, if s.cfeValid 0 then some (s.reg (R.YLD_CFEOUT 0)).toNat else none, false⟩
    let s : State := { s with yld := { s.yld with traceAt := t, trace := (c :: s.yld.trace).take 2560 } }
    .next (s.setFld F.YLD_TRACE_N s.yld.trace.length)
  else .next s

/-! ### Sample periods and the transport delay (R358, R361) -/

/-- The pulse counts of the inputs of loss channel l since the start of the period. -/
def State.lossCount (s : State) (l : Nat) : Nat :=
  ((maskPins (s.fld (F.YLD_LOSSMASK_MASK l))).map (fun n =>
    ((s.reg (R.PLS_CNT n)).toNat + 2 ^ 32 - SMap.get (fun _ => 0) s.yld.cnts n) % 2 ^ 32)).sum

/-- Note the pulse counts at the start of a period. -/
def State.noteCounts (s : State) : State :=
  { s with yld := { s.yld with cnts := (List.range 24).foldl (fun m n => SMap.set (fun _ => 0) m n (s.reg (R.PLS_CNT n)).toNat) [] } }

/-- SAMPLE_PERIOD_END (R358): at a multiple of SPER ms the sums close. -/
def execSamplePeriodEnd (s : State) : Out :=
  let per := 1000000 * s.fld F.YLD_CFG_SPER
  if s.flag F.YLD_CTL_EN ∧ 0 < per ∧ s.due s.yld.perAt per then
    let t := (s.yld.perAt / per + 1) * per
    let c := { s.yld.cur with tend := t, loss0 := s.lossCount 0, loss1 := s.lossCount 1 }
    .next (({ s with yld := { s.yld with perAt := t, cur := YPer.init, closed := s.yld.closed ++ [c] } } : State).noteCounts)
  else .next s

/-- Qc of the period that ends at an instant (R361): the mean of the valid crop flows of its window, else QREF. -/
def State.yldQc (s : State) (tend : Nat) : Nat :=
  let per := 1000000 * s.fld F.YLD_CFG_SPER
  let lag := 1000000 * s.fld F.YLD_DELAY2_QLAG
  let l := (s.yld.trace.filter (fun c => tend < c.inst + per + lag && c.inst + lag ≤ tend)).filterMap (·.qc)
  if l.isEmpty then (s.reg R.YLD_QREF).toNat else fDiv (l.foldl fAdd 0) (fInt l.length)

/-- The delay in force for a period, ms (R361). -/
def State.yldDelay (s : State) (qc : Nat) : Nat :=
  let lo : Int := s.fld F.YLD_DELAY1_DMIN
  let hi : Int := s.fld F.YLD_DELAY1_DMAX
  let fix : Int := s.fld F.YLD_DELAY0_DFIX
  let var : Int := s.fld F.YLD_DELAY0_DVAR
  let slew := s.fld F.YLD_DELAY2_DSLEW
  if slew = 0 then (clampI lo hi (fix + var)).toNat
  else
    let qref := (s.reg R.YLD_QREF).toNat
    let q4 := fDiv qref (fInt 4)
    let q := fAdd (fInt fix) (fDiv (fMul (fInt var) qref) (if fLt qc q4 then q4 else qc))
    let dt := if fFinite q then clampI lo hi (fRound q 1) else hi
    match s.yld.delay with
    | none => dt.toNat
    | some d =>
      let m : Int := (slew * s.fld F.YLD_CFG_SPER / 1000 : Nat)
      (clampI ((d : Int) - m) (d + m) dt).toNat

/-! ### Attribution (R362, R363) -/

/-- How one cell fares: written, kept from an earlier pass, denied, dropped with the pool. -/
inductive CellFate where
  | written
  | kept
  | denied
  | dropped
  deriving DecidableEq, Repr

/-- A frame of the YLD pool for a tile of the YIELD layer, filled with 0 (R363): whether it was had. -/
def State.yldAlloc (s : State) (l idx : Nat) : CellFate × State :=
  let size := s.fld F.YLD_POOLCFG_SIZE
  let head := s.fld F.YLD_POOLHEAD_IDX
  if size = 0 then (.dropped, s)
  else if head = s.fld F.YLD_POOLTAIL_IDX then
    let s := s.yldFlag F.YLD_STAT_POOL_EMPTY
    (.dropped, if s.yld.empty then s else ({ s with yld := { s.yld with empty := true } } : State).event 0x0D02 [])
  else
    let base := s.fld F.YLD_POOLBASE_LO_ADDR * 64 + s.fld F.YLD_POOLBASE_HI_ADDR * 2 ^ 32
    match s.unitRead (engine 16) (base + 4 * (head % 2 ^ size)) 4 with
    | (none, s) => (.denied, s.yldFlag F.YLD_STAT_POOL_ERR)
    | (some bs, s) =>
      let (ok, s) := s.unitWrite (engine 16) (leNat bs * 256) (List.replicate 262144 0)
      if !ok then (.denied, s)
      else
        let (ok, s) := s.unitWrite (engine 16) (layDir s.cov.desc l + 8 * idx) (leBytes 8 (leNat bs + 2 ^ 32 + 2 ^ 34))
        if ok then (.written, s.setFld F.YLD_POOLHEAD_IDX (next32 head)) else (.denied, s)

/-- Write SREF into a cell of a present tile whose value is 0 (R362). -/
def State.yldStore (s : State) (a sref : Nat) : CellFate × State :=
  match s.unitRead (engine 16) a 4 with
  | (none, s) => (.denied, s)
  | (some bs, s) =>
    if leNat bs ≠ 0 then (.kept, s)
    else
      let (ok, s) := s.unitWrite (engine 16) a (leBytes 4 sref)
      (if ok then .written else .denied, s)

/-- Attribute one cell of the YIELD layer (R362, R363). -/
def State.yldCell (s : State) (l idx cell sref : Nat) : CellFate × State :=
  match s.unitRead (engine 16) (layDir s.cov.desc l + 8 * idx) 8 with
  | (none, s) => (.denied, s)
  | (some bs, s) =>
    let v := leNat bs
    if v / 2 ^ 32 % 4 = 1 then s.yldStore (v % 2 ^ 32 * 256 + 4 * cell) sref
    else match s.yldAlloc l idx with
      | (.written, s) =>
        (match s.unitRead (engine 16) (layDir s.cov.desc l + 8 * idx) 8 with
        | (some bs, s) => s.yldStore (leNat bs % 2 ^ 32 * 256 + 4 * cell) sref
        | (none, s) => (.denied, s))
      | r => r

/-- What a record gathers: cells written and kept, axis travel in 2^-16 count, any cutting; NOPOSE, NOFIELD, POOL. -/
structure YSum where
  cells : Nat
  ovl : Nat
  dist : Nat
  cut : Bool
  nopose : Bool
  nofield : Bool
  pool : Bool
  deriving DecidableEq, Repr

/-- A value part of the way from one to another. -/
def part2 (a b : Int) (n d : Nat) : Int := if d = 0 then a else a + (b - a) * n / d

/-- The pose between two trace entries at an instant. -/
def Cut.poseAt (a b : Cut) (t : Nat) : Option (Int × Int × Int) :=
  match a.pose, b.pose with
  | some (e0, n0, h0), some (e1, n1, h1) =>
    let k := t - a.inst
    let d := b.inst - a.inst
    some (part2 (1000 * e0) (1000 * e1) k d, part2 (1000 * n0) (1000 * n1) k d, h0 + part2 0 (wrapPi (h1 - h0)) k d)
  | _, _ => none

/-- The axis position between two trace entries at an instant. -/
def Cut.posAt (a b : Cut) (t : Nat) : Int := part2 a.pos b.pos (t - a.inst) (b.inst - a.inst)

/-- Whether the layer and field allow the cells of a trace entry to be written (R362). -/
def State.yldField (s : State) (a : Cut) : Bool :=
  let l := s.fld F.YLD_CFG_LAYER
  s.covLoaded && !a.stale && a.field = s.fld F.COV_FSTAT_FIELD_ID && layKind s.cov.desc l = lkYIELD && 10 ≤ layCell s.cov.desc l

/-- Right and left end of the footprint of an endpoint's entry at a pose. -/
def footAt (c : List Byte) (q : Int × Int × Int) : (Int × Int) × (Int × Int) :=
  let w : Int := 1000 * eWidth c
  (atPose q (1000 * eX c) (1000 * eY c - w / 2), atPose q (1000 * eX c) (1000 * eY c + w / 2))

/-- Attribute the cells of a list; a STANDBY module writes none (R369). -/
def State.yldCells (s : State) (l sref : Nat) (y : YSum) (cells : List (Nat × Nat)) : YSum × State :=
  if within 3 4 (s.fld F.TDM_STATE_PSTATE) then (y, s)
  else cells.foldl (fun r p =>
    let (f, s) := r.2.yldCell l p.1 p.2 sref
    match f with
    | .written => ({ r.1 with cells := r.1.cells + 1 }, s.bump F.YLD_CELLCNT_COUNT)
    | .kept => ({ r.1 with ovl := r.1.ovl + 1 }, s)
    | .denied => (r.1, s.bump F.YLD_UNMARKED_COUNT)
    | .dropped => ({ r.1 with pool := true }, s.bump F.YLD_UNMARKED_COUNT)) (y, s)

/-- One stretch between two trace entries, cut to an interval (R362). -/
def State.yldStretch (s : State) (sref : Nat) (c0 c1 : Int) (y : YSum) (a b : Cut) : YSum × State :=
  let lo := if c0 < a.inst then a.inst else c0.toNat
  let hi := if c1 < b.inst then c1.toNat else b.inst
  if hi ≤ lo ∨ c1 < 0 then (y, s)
  else
    let l := s.fld F.YLD_CFG_LAYER
    let y := if a.pose.isNone || b.pose.isNone then { y with nopose := true } else y
    let y := { y with nofield := y.nofield || !s.yldField a }
    if a.mask = 0 then (y, s)
    else
      let y := { y with cut := true, dist := y.dist + (a.posAt b hi - a.posAt b lo).natAbs }
      match a.poseAt b lo, a.poseAt b hi with
      | some q0, some q1 =>
        let cells := [0, 1, 2, 3].flatMap (fun k =>
          match s.cutEp k with
          | some e =>
            if a.mask / 2 ^ k % 2 = 1 then
              (let c := s.entry 0 e
              let f0 := footAt c q0
              let f1 := footAt c q1
              s.sweptCells l f0.1 f0.2 f1.1 f1.2)
            else []
          | none => [])
        if s.yldField a then s.yldCells l sref y cells
        else (y, s.bump F.YLD_UNMARKED_COUNT cells.length)
      | _, _ => (y, s)

/-- The stretches of a trace in order of time. -/
def State.yldWalk (s : State) (sref : Nat) (c0 c1 : Int) (y : YSum) : List Cut → YSum × State
  | a :: b :: l =>
    let (y, s) := s.yldStretch sref c0 c1 y a b
    State.yldWalk s sref c0 c1 y (b :: l)
  | _ => (y, s)

/-- Saturate at 16 bits. -/
def sat16 (n : Nat) : Nat := min n 65535

/-- The 64-byte record of a period (Table 15-2). -/
def yldBytes (p : YPer) (sref d qc : Nat) (c0 c1 : Int) (y : YSum) (area : Nat) (q : Int × Int) (width fid : Nat)
    (badflow badmoist fold : Bool) : List Byte :=
  let b (x : Bool) (k : Nat) : Nat := if x then 2 ^ k else 0
  let mean : Nat := if p.mok = 0 then 0 else (p.moist / (10000 * p.mok : Nat)).toNat
  let nvalid := if p.all = 0 then 0 else 100 * p.ok / p.all
  leBytes 4 sref ++ leBytes 4 p.tend ++ leBytes 4 (toBits 32 c0) ++ leBytes 4 (toBits 32 c1) ++
    leBytes 4 ((p.mass + 8000000) / 16000000).toNat ++ leBytes 2 mean ++ leBytes 2 d ++ leBytes 4 area ++
    leBytes 4 (y.dist / 655360) ++ leBytes 4 (toBits 32 (q.1 / 1000)) ++ leBytes 4 (toBits 32 (q.2 / 1000)) ++
    leBytes 2 width ++ leBytes 2 (sat16 y.cells) ++
    leBytes 1 (b badflow 0 + b badmoist 1 + b fold 2 + b (!y.cut) 3 + b y.nopose 4 + b y.nofield 5 + b y.pool 6) ++
    leBytes 1 nvalid ++ leBytes 2 fid ++ leBytes 4 (if fFinite qc then (fRound qc 1000).toNat else 0) ++
    leBytes 2 (sat16 p.loss0) ++ leBytes 2 (sat16 p.loss1) ++ leBytes 2 (sat16 y.ovl) ++ List.replicate 6 0

/-- Place a record on queue 0x07 (R365): dropped and counted without a buffer; FLUSH 0 completes after each record. -/
def State.yldPut (s : State) (bs : List Byte) : State :=
  match s.putRecord 0x07 (engine 16) bs with
  | (false, s) => (s.bump F.YLD_DROPCNT_COUNT).yldFlag F.YLD_STAT_DROP
  | (true, s) => if s.fld F.YLD_OUTCFG_FLUSH = 0 then (match s.ringOf 0x07 with | some n => s.closeBuf n | none => s) else s

/-- The reference of the next record, and YLD_SREF after it, 0 skipped (R364). -/
def nextSref (v : Nat) : Nat := if v = 0 then 1 else v

/-- Form the record of a closed period (R361, R362, R365). -/
def State.yldRecord (s : State) (p : YPer) : State :=
  let qc := s.yldQc p.tend
  let d := s.yldDelay qc
  let c1 : Int := (p.tend : Int) - 1000000 * d
  let c0 : Int := s.yld.cut.getD (c1 - 1000000 * s.fld F.YLD_CFG_SPER)
  let sref := nextSref (s.reg R.YLD_SREF).toNat
  let s := s.setReg R.YLD_SREF (w32 (nextSref ((sref + 1) % 2 ^ 32)))
  let fold := decide (c1 ≤ c0)
  let tr := s.yld.trace.reverse
  let before := match tr with | a :: _ => decide (c0 < a.inst) | [] => true
  let y0 : YSum := ⟨0, 0, 0, false, before && !fold, false, false⟩
  let (y, s) := if fold then (y0, s) else s.yldWalk sref c0 c1 y0 tr
  let at_ := tr.filter (fun a => decide ((a.inst : Int) ≤ c1))
  let last := at_.getLast?
  let next := tr.find? (fun a => decide (c1 < a.inst))
  let q := match last, next with
    | some a, some b => (a.poseAt b c1.toNat).getD (0, 0, 0)
    | some a, none => (match a.pose with | some (e, n, h) => (1000 * e, 1000 * n, h) | none => (0, 0, 0))
    | none, _ => (0, 0, 0)
  let mask := match last with | some a => a.mask | none => 0
  let width := ([0, 1, 2, 3].map (fun k => match s.cutEp k with
    | some e => if mask / 2 ^ k % 2 = 1 then eWidth (s.entry 0 e) else 0
    | none => 0)).sum
  let cell := layCell s.cov.desc (s.fld F.YLD_CFG_LAYER)
  let badflow := decide (100 * p.ok < 50 * p.all) || p.all = 0
  let s : State := { s with yld := { s.yld with delay := some d, cut := some c1 } }
  let s := s.setFld F.YLD_DNOW_D d
  let s := if fold then (s.yldFlag F.YLD_STAT_FOLD).bump F.YLD_FOLDCNT_COUNT else s
  let s := if y.nofield then s.yldFlag F.YLD_STAT_NOFIELD else s
  let s := if badflow then s.yldFlag F.YLD_STAT_BADFLOW else s
  let s := s.raiseFlag F.YLD_STAT_REC 203
  s.yldPut (yldBytes p sref d qc c0 c1 y (y.cells * cell * cell / 100) (q.1, q.2.1) width
    (match last with | some a => a.field | none => 0) badflow (decide (p.mok = 0)) fold)

/-- YIELD_RECORD (R365): the oldest closed period, at least 10 ms after its end. -/
def execYieldRecord (s : State) : Out :=
  match s.yld.closed with
  | p :: l =>
    if p.tend + 10000000 ≤ s.now then .next (({ s with yld := { s.yld with closed := l } } : State).yldRecord p) else .next s
  | [] => .next s

/-! ### Registers (R364, R368, R371) -/

/-- Whether a write of 1 to YLD_CTL.EN is accepted (R368). -/
def State.yldOk (s : State) : Bool :=
  let q := (s.reg R.YLD_QREF).toNat
  let bodies := ([0, 1, 2, 3].filterMap s.cutEp).map (fun e => eBody (s.entry 0 e))
  within 200 5000 (s.fld F.YLD_CFG_SPER) && 6000 ≤ s.fld F.YLD_DELAY1_DMIN && s.fld F.YLD_DELAY1_DMAX ≤ 20000 &&
    s.fld F.YLD_DELAY1_DMIN ≤ s.fld F.YLD_DELAY1_DMAX && fFinite q && fLt 0 q && s.fld F.YLD_DELAY2_DSLEW ≤ 1000 &&
    s.fld F.YLD_DELAY2_QLAG ≤ 20000 &&
    [R.YLD_KF, R.YLD_KM, R.YLD_M0, R.YLD_CFEKQ 0, R.YLD_CFEKQ 1].all (fun a => fFinite (s.reg a).toNat) &&
    bodies.all (fun b => decide (b = bodies.headD 0))

/-- A write of YLD_CTL: EN going to 1 starts the delay line anew, or is refused. -/
def State.writeYldCtl (s : State) (w : Word) : State :=
  let was := s.flag F.YLD_CTL_EN
  let s := s.writePlain R.YLD_CTL w
  if s.flag F.YLD_CTL_EN ∧ !was then
    if s.yldOk then
      let per := max 1 (1000000 * s.fld F.YLD_CFG_SPER)
      (({ s with yld := { s.yld with
        traceAt := s.now, perAt := s.now / per * per, cur := YPer.init, closed := [], trace := [], delay := none
        cut := none } } : State).setFld F.YLD_TRACE_N 0).noteCounts
    else (s.setFld F.YLD_CTL_EN 0).yldConfig
  else s

/-- YLD_ENABLE (R368): a write of YLD_CTL. -/
def execYldEnable (acc : Acc) (value : Word) (s : State) : Out :=
  .next (s.guardWrite acc R.YLD_CTL (fun s => s.writeYldCtl value))

/-- A write of YLD_SREF (R364): taken only while EN is 0. -/
def State.writeSref (s : State) (w : Word) : State := if s.flag F.YLD_CTL_EN then s.yldFlag F.YLD_STAT_CONFIG else s.writePlain R.YLD_SREF w

/-- SREF_WRITE (R364). -/
def execSrefWrite (acc : Acc) (value : Word) (s : State) : Out :=
  .next (s.guardWrite acc R.YLD_SREF (fun s => s.writeSref value))

/-- A write of YLD_POOLTAIL (R363): the pool counts as refilled. -/
def State.writeYldTail (s : State) (w : Word) : State :=
  let s := s.writePlain R.YLD_POOLTAIL w
  if s.fld F.YLD_POOLTAIL_IDX ≠ s.fld F.YLD_POOLHEAD_IDX then { s with yld := { s.yld with empty := false } } else s

/-- YLD_POOL_TAIL_WRITE (R363). -/
def execYldPoolTailWrite (acc : Acc) (value : Word) (s : State) : Out :=
  .next (s.guardWrite acc R.YLD_POOLTAIL (fun s => s.writeYldTail value))

/-- The registers that are frozen while EN is 1: those with RWL fields, and the delay registers (R368). -/
def yldFrozen : List Nat :=
  [R.YLD_CFG, R.YLD_CUT01, R.YLD_CUT23, R.YLD_FLOWCFG, R.YLD_MOISTCFG, R.YLD_DELAY0, R.YLD_DELAY1, R.YLD_DELAY2, R.YLD_QREF,
    R.YLD_POOLBASE_LO, R.YLD_POOLBASE_HI, R.YLD_POOLCFG]

/-- A register write in the YLD window. -/
def State.writeYld (s : State) (a : Nat) (w : Word) : State :=
  if a = R.YLD_CTL then s.writeYldCtl w
  else if a = R.YLD_SREF then s.writeSref w
  else if a = R.YLD_POOLTAIL then s.writeYldTail w
  else if s.flag F.YLD_CTL_EN ∧ yldFrozen.contains a then s.yldFlag F.YLD_STAT_CONFIG
  else
    let s := s.writePlain a w
    if a = R.YLD_POOLCFG ∧ !within 4 16 (s.fld F.YLD_POOLCFG_SIZE) then s.setFld F.YLD_POOLCFG_SIZE 0 else s

end Sys2Proof.Machine
end

