-- ==== Sys2Proof/Machine/Bridle.lean ====
section
/-! DEFINITION. Bridle control loops and min-select groups (07_bridle_control.md). Values are binary32 bits (F32). -/

namespace Sys2Proof.Machine

/-! ### The loop entry (Table 7-1) -/

def bDerr (c : List Byte) : Bool := field c 2 1 / 32 % 2 = 1
def bFail (c : List Byte) : Bool := field c 2 1 / 64 % 2 = 1
def bGroup (c : List Byte) : Nat := field c 3 1 % 16
def bGen (c : List Byte) : Bool := field c 3 1 / 16 % 2 = 1
def bPvSrc (c : List Byte) : Nat := field c 8 2 % 4096
def bSpSrc (c : List Byte) : Nat := field c 10 2 % 4096
def bSched (c : List Byte) : Nat := field c 12 2 % 4096
def bZtop (c : List Byte) : Nat := field c 14 1 % 8
def bCalm (c : List Byte) : Nat := field c 14 1 / 16 % 8
def bOscAct (c : List Byte) : Nat := field c 15 1 % 4
def bPvScale (c : List Byte) : Nat := field c 16 4
def bPvOff (c : List Byte) : Nat := field c 20 4
def bPvTf (c : List Byte) : Nat := field c 24 4
def bSpK (c : List Byte) : Nat := field c 28 4
def bRampUp (c : List Byte) : Nat := field c 32 4
def bRampDn (c : List Byte) : Nat := field c 36 4
def bDb (c : List Byte) : Nat := field c 40 4
def bDTf (c : List Byte) : Nat := field c 44 4
def bOutMin (c : List Byte) : Nat := field c 48 4
def bOutMax (c : List Byte) : Nat := field c 52 4
def bOutBias (c : List Byte) : Nat := field c 56 4
def bOutSlew (c : List Byte) : Nat := field c 60 4
def bStartOut (c : List Byte) : Nat := field c 64 4
def bFailOut (c : List Byte) : Nat := field c 68 4
def bDscale (c : List Byte) : Nat := field c 72 4
def bDclass (c : List Byte) : Nat := field c 76 4 / 2 ^ 28
def bDchan (c : List Byte) : Nat := field c 76 4 % 128
def bHys (c : List Byte) : Nat := field c 80 4
def bTh (c : List Byte) (z : Nat) : Nat := field c (80 + 4 * z) 4
def bOscBand (c : List Byte) : Nat := field c 112 4
def bOscWin (c : List Byte) : Nat := field c 116 2
def bOscN (c : List Byte) : Nat := field c 118 1

/-- Source codes that are not reserved (Tables 7-2 and 15-1). -/
def bSource (c : Nat) : Bool :=
  c = 0 || c = 0x010 || within 0x100 0x12F c || within 0x200 0x217 c || within 0x300 0x307 c || within 0x400 0x43F c ||
    within 0x480 0x48F c || within 0x500 0x50F c || c = 0x600 || c = 0x601 || within 0x608 0x60A c || within 0x610 0x613 c ||
    within 0x700 0x706 c || within 0x800 0x83F c

/-- Whether the thresholds TH1 to TH(ZTOP) strictly ascend. -/
def bAscends (c : List Byte) : Bool := (List.range (bZtop c - 1)).all (fun z => fLt (bTh c (z + 1)) (bTh c (z + 2)))

/-- The binary32 fields of an entry, and those that must not be negative. -/
def bFloats (c : List Byte) : List Nat := (List.range 15).map (fun k => field c (16 + 4 * k) 4) ++ (List.range 9).map (fun k => field c (80 + 4 * k) 4)
def bPositive (c : List Byte) : List Nat := [bPvTf c, bDTf c, bRampUp c, bRampDn c, bDb c, bOutSlew c, bHys c, bOscBand c]

/-- Whether an accepted entry is valid (R179, R205). -/
def State.loopOk (s : State) (c : List Byte) : Bool :=
  let per := bPeriod c
  bClk c ≠ 3 && bOscAct c ≠ 3 && bDclass c ≤ 2 && bSource (bPvSrc c) && bSource (bSpSrc c) && bSource (bSched c) &&
    bPvSrc c ≠ 0 && bPvSrc c ≠ 0x010 && bSched c ≠ 0x010 &&
    (if bClk c = 2 then within 1 (2 ^ 31 - 1) per else within 100 20000 per) &&
    (bFloats c).all fFinite && (bPositive c).all (fun x => !fLt x 0) && !fLt (bOutMax c) (bOutMin c) && bAscends c &&
    bCalm c ≤ bZtop c && (bOscN c = 0 || 2 ≤ bOscWin c) && !(bDclass c = 1 && s.solSlave (bDchan c))

/-- Whether a source, a source of the axis that clocks it, or the destination of an entry is absent (R7). -/
def State.loopAbsent (s : State) (c : List Byte) : Bool :=
  let src (k : Nat) : Bool := (within 0x800 0x83F k && !s.part.hasSol (k - 0x800)) || (within 0x300 0x307 k && s.axAbsent (k - 0x300))
  src (bPvSrc c) || src (bSpSrc c) || src (bSched c) || (bClk c = 2 && s.axAbsent (bAxis c)) ||
    (bDclass c = 1 && !s.part.hasSol (bDchan c)) || (bDclass c = 2 && !s.part.hasHs (bDchan c))

/-! ### Loops and groups -/

/-- Set a W1C flag of loop n and the flag of the same name of BRD_STAT (R200). -/
def State.loopFlag (s : State) (n : Nat) (ch : Nat → Fld) (unit : Fld) : State := s.raiseBoth (ch n) unit 185

/-- Whether two entries may share a group (R194). -/
def bMatches (c d : List Byte) : Bool := bClk c = bClk d && bAxis c = bAxis d && bPeriod c = bPeriod d

/-- Whether group g is invalid: its destination is the odd half of a pair (R205). -/
def State.groupBad (s : State) (g : Nat) : Bool := s.fld (F.BRD_GDEST_CLASS g) = 1 && s.solSlave (s.fld (F.BRD_GDEST_CHAN g))

/-- Loops that name group g. -/
def State.claimants (s : State) (g : Nat) : List Nat :=
  (List.range 64).filter (fun n => (s.bloop n).on && bGen (s.entry 6 n) && bGroup (s.entry 6 n) = g)

/-- The members of group g: the lowest-indexed claimant and those that share its clock, at most 8 (R194). -/
def State.gmembers (s : State) (g : Nat) : List Nat :=
  match s.claimants g with
  | [] => []
  | n :: l => (n :: l.filter (fun m => bMatches (s.entry 6 m) (s.entry 6 n))).take 8

/-- Whether loop n claims a group without being a member: it runs alone and sends nothing (R194). -/
def State.alone (s : State) (n : Nat) : Bool :=
  (s.bloop n).on && bGen (s.entry 6 n) && !(s.gmembers (bGroup (s.entry 6 n))).contains n

/-- The destination a group or an ungrouped loop names: groups 0 to 15, loops 16 to 79; class 1 SOL, 2 HS (R188). -/
def State.destOf (s : State) (k : Nat) : Nat × Nat :=
  if k < 16 then (if (s.gmembers k).isEmpty then (0, 0) else (s.fld (F.BRD_GDEST_CLASS k), s.fld (F.BRD_GDEST_CHAN k)))
  else
    let c := s.entry 6 (k - 16)
    if (s.bloop (k - 16)).on && !bGen c then (bDclass c, bDchan c) else (0, 0)

/-- The destination that comes first on a channel (R188). -/
def State.destFirst (s : State) (cls ch : Nat) : Option Nat := (List.range 80).find? (fun k => decide (s.destOf k = (cls, ch)))

/-- The endpoint that holds a channel (R98). -/
def State.chanHolder (s : State) (cls ch : Nat) : Option Nat := if cls = 1 then (s.sch ch).holder else (s.lch ch).holder

/-- Whether a destination may send to a channel (R188). -/
def State.destMay (s : State) (k cls ch : Nat) : Bool :=
  match s.chanHolder cls ch with
  | some e =>
    let c := (s.ep e).cfg
    16 ≤ k && eKind c = kRATE && eRdest c && eLoop c = k - 16
  | none => s.destFirst cls ch = some k

/-! ### Starting and stopping (R179, R188, R192-R194) -/

/-- Whether loop n is to run: not OFF by Table 7-3, its coefficients applied since the last reset that cleared them (R199), and its
group, if it is in one, valid (R205, log entry 55). -/
def State.loopRuns (s : State) (n : Nat) : Bool :=
  let c := s.entry 6 n
  s.flag F.BRD_CTL_EN && (s.bloop n).armed && s.hasEntry 6 n && bClk c ≠ 0 && s.loopOk c && !s.loopAbsent c &&
    !(bGen c && s.groupBad (bGroup c))

/-- Loop n leaves OFF now (R181, R182, R193). What stands beside a run stays: a manual value, the coefficients and their promotion,
waiting commands, and with OSC the value it was detected at (R196, R197). -/
def State.loopStart (s : State) (n : Nat) : State :=
  let x := s.bloop n
  let c := s.entry 6 n
  let per := 1000 * bPeriod c
  s.setLoop n { BLoop.init with
    on := true, startAt := s.now, nextAt := (s.now + per - 1) / max 1 per * per, last := bStartOut c
    manual := x.manual, apply_ := x.apply_, coef := x.coef, cmds := x.cmds, frz := x.frz, armed := x.armed }

/-- Loop n goes OFF: its registers hold (R201). -/
def State.loopStop (s : State) (n : Nat) : State :=
  (s.setLoop n { s.bloop n with on := false, state := 0 }).setFld (F.BRD_LSTAT_STATE n) 0

/-- Channels named by a destination carry DEST; one no longer named keeps its command (R188, R210, R231). -/
def State.destNames (s : State) : State :=
  let ds := (List.range 80).map (fun k => s.destOf k)
  let s := (List.range 64).foldl (fun s n =>
    let named := s.part.hasSol n && ds.contains (1, n)
    if s.flag (solF F.SOL_CHSTAT_DEST n) = named then s else s.solName n named) s
  (List.range 96).foldl (fun s n =>
    let named := s.part.hasHs n && ds.contains (2, n)
    if s.flag (lswF F.LSW_CHSTAT_DEST n) = named then s else s.lswName n named) s

/-- Bring loops, groups and destinations in line with the entries and BRD_CTL. -/
def State.brdConfig (s : State) : State :=
  let s := (List.range 64).foldl (fun s n =>
    let on := (s.bloop n).on
    if s.loopRuns n && !on then s.loopStart n else if on && !s.loopRuns n then s.loopStop n else s) s
  let s := (List.range 64).foldl (fun s n => if s.alone n then s.loopFlag n F.BRD_LSTAT_GRP_ERR F.BRD_STAT_GRP_ERR else s) s
  let s := (List.range 16).foldl (fun s g =>
    let k := (s.gmembers g).length
    (s.setFld (F.BRD_GSTAT_NMEM g) k).setBit (F.BRD_GSTAT_ACTIVE g) (decide (0 < k))) s
  s.destNames

/-- Loop n is invalid: CONFIG and the event (R179, R205). -/
def State.loopBad (s : State) (n : Nat) : State :=
  (s.loopFlag n F.BRD_LSTAT_CONFIG F.BRD_STAT_CONFIG).event 0x0501 [w32 n]

/-- An entry of table 6 has been accepted in place of another (R179, R192). -/
def State.acceptLoop (s : State) (n : Nat) (old : List Byte) : State :=
  let c := s.entry 6 n
  let s := if s.hasEntry 6 n && bClk c ≠ 0 && !s.loopOk c then s.loopBad n else s
  let x := s.bloop n
  let restart := !bMatches c old || bGroup c ≠ bGroup old || bGen c ≠ bGen old
  let s := if x.on && s.loopRuns n then
      (if restart then s.loopStart n else if c ≠ old then s.setLoop n { x with xfer := true } else s)
    else s
  s.brdConfig

/-- Solenoid channel o has become the odd half of a pair, or is one no longer: loops and groups that name it are invalid (R205). -/
def State.brdPaired (s : State) (o : Nat) : State :=
  let s := if !s.solSlave o then s else
    let s := (List.range 64).foldl (fun s k =>
      let c := s.entry 6 k
      if s.hasEntry 6 k && bClk c ≠ 0 && bDclass c = 1 && bDchan c = o then s.loopBad k else s) s
    if (List.range 16).any (fun g => s.groupBad g && s.fld (F.BRD_GDEST_CHAN g) = o) then s.raiseFlag F.BRD_STAT_CONFIG 185 else s
  s.brdConfig

/-! ### Sources (Table 7-2) -/

/-- The endpoints whose accepted entry names loop n (R107, R189). -/
def State.namers (s : State) (n : Nat) : List Nat :=
  (epRange 0 s.ept.n).filter (fun e =>
    let c := s.entry 0 e
    s.epWhy c = caNONE && eKind c = kRATE && eRdest c && eLoop c = n)

/-- Of them, those in REJOIN or IN. -/
def State.suppliers (s : State) (n : Nat) : List Nat :=
  (s.namers n).filter (fun e => let x := s.ep e; x.state ≠ epOUT && eRdest x.cfg && eLoop x.cfg = n)

/-- Whether loop n's gate is open; none where no endpoint names it (R189). -/
def State.gate (s : State) (n : Nat) : Option Bool :=
  match s.suppliers n with
  | e :: _ => let x := s.ep e; some (x.state = epIN && x.shown && !s.tdmMasked)
  | [] => if (s.namers n).isEmpty then none else some false

/-- The solution of a body as a source: none while LOST. -/
def State.l3Source (s : State) (body t : Nat) (f : L3 → Int) (d : Nat) : Option Nat :=
  let x := s.poseAt body t
  if x.state = 0 then none else some (fFrac (f x) d)

/-- The body that guidance is for, at an instant (R296, R310). -/
def State.guided (s : State) (t : Nat) : L3 := s.poseAt (s.fld F.WVE_GUIDE_BODY) t

/-- The raw value of a source for loop n at an instant, as binary32; none where it is invalid. -/
def State.brdSource (s : State) (code n t : Nat) : Option Nat :=
  if code = 0x010 then some (match s.suppliers n with | e :: _ => fInt (s.ep e).rcmd | [] => 0)
  else if code < 0x200 then
    let i := code - 0x100
    if s.fld (F.AFE_RES_STATUS i) = 0 then some (fInt (s.fldInt (F.AFE_RES_CODE i))) else none
  else if code < 0x300 then
    let k := code - 0x200
    if s.pinOpen k then none else some (fInt (s.fldInt (F.PLS_RATE_RATE k)))
  else if code < 0x400 then
    let a := code - 0x300
    if s.axLive a then some (fFrac (s.axRate a * 1000000) (2 ^ 32)) else none
  else if code < 0x480 then
    let m := code - 0x400
    let x := s.bloop m
    if !x.on ∨ x.state = 0 ∨ x.state = 5 then none else some (s.fld (F.BRD_LOUT_OUT m))
  else if code < 0x500 then
    let g := code - 0x480
    if (s.gmembers g).isEmpty then none else some (s.fld (F.BRD_GOUT_OUT g))
  else if code < 0x600 then
    let k := code - 0x500
    let fresh : Bool := match SMap.get (fun _ => none) s.brd.sw k with | some (_, f) => f | none => false
    if s.fld F.BRD_SWTO_TO = 0 ∨ fresh = true then some (s.fld (F.BRD_SWVAL_VALUE k)) else none
  else if code < 0x608 then
    let e := code - 0x600
    if s.cfeValid e then some (s.fld (F.YLD_CFEOUT_Q e)) else none
  else if code = 0x608 then
    (if s.flowOk then some (s.reg R.YLD_FLOWNOW).toNat else none)
  else if code = 0x609 then
    (if s.flag F.YLD_MOISTCFG_EN ∧ s.ainOk (s.fld F.YLD_MOISTCFG_AIN) then some (s.reg R.YLD_MOISTNOW).toNat else none)
  else if code = 0x60A then (if s.flag F.YLD_CTL_EN then some (fFrac (s.fld F.YLD_DNOW_D) 1000) else none)
  else if code < 0x700 then
    let l := code - 0x610
    if s.lossValid l then some (s.fld (F.YLD_LOSSOUT_RATE l)) else none
  else if code = 0x700 then (s.guidance (s.guided t)).map (fun g => fFrac g.1 1000)
  else if code = 0x701 then (s.guidance (s.guided t)).map (fun g => fFrac g.2 1000000)
  else if code = 0x702 then s.l3Source 0 t (·.vx) 1000
  else if code = 0x703 then s.l3Source 0 t (·.yaw) 1000000
  else if code = 0x704 then s.l3Source 0 t (·.pitch) 1000000
  else if code = 0x705 then s.l3Source 0 t (·.roll) 1000000
  else if code = 0x706 then s.l3Source 1 t (·.hitch) 1000000
  else
    let k := code - 0x800
    if s.solFaulty k then none else some (fFrac (s.fld (solF F.SOL_CHI_IMEAS k)) 4)

/-! ### The sample (R185-R193) -/

/-- States of Table 7-3. -/
def lpRUN : Nat := 1
def lpGATED : Nat := 2
def lpMANUAL : Nat := 3
def lpHOLD : Nat := 4
def lpFAIL : Nat := 5
def lpFROZEN : Nat := 6

/-- The condition of the bound axis of an entry: 0 runs, 1 LOST, 2 DISABLED (R183). -/
def State.axCond (s : State) (c : List Byte) : Nat :=
  if bClk c ≠ 2 then 0
  else if s.axState (bAxis c) = axDISABLED then 2 else if s.axState (bAxis c) = axLOST then 1 else 0

/-- dt of loop n at an instant, in ns. -/
def BLoop.dt (x : BLoop) (t : Nat) : Nat := match x.lastAt with | some l => t - l | none => 0

/-- T of a loop at an instant, its axis at a position (R185). -/
def State.loopT (s : State) (x : BLoop) (c : List Byte) (t : Nat) (pos : Int) : Nat :=
  if bClk c = 2 then
    (if x.lastAt.isNone then 0
    else
      let per := match s.fld (F.STR_AXCFG_KIND (bAxis c)) with | 0 => 10000 | 1 => 65536 | 2 => 4096 | _ => 1000000000
      fFrac ((pos - x.pos).natAbs : Int) (65536 * per))
  else fFrac (x.dt t) 1000000000

/-- A command acts at a sample (R198): `free` stands for an integrator whose value the manual does not state. -/
def BLoop.command (x : BLoop) (c : List Byte) (free : Nat) (p : Nat × Nat) : BLoop :=
  match p.1 with
  | 1 => { x with manual := some (fClamp (bOutMin c) (bOutMax c) p.2) }
  | 2 => { x with manual := none }
  | _ => { x with i := fClamp (bOutMin c) (bOutMax c) (if fNan p.2 then free else p.2) }

/-- Move the scheduled zone up, and down (R190). -/
def zoneUp (c : List Byte) (v : Nat) : Nat → Nat → Nat
  | 0, z => z
  | k + 1, z => if z < bZtop c ∧ fLe (fAdd (bTh c (z + 1)) (bHys c)) v then zoneUp c v k (z + 1) else z

def zoneDown (c : List Byte) (v : Nat) : Nat → Nat → Nat
  | 0, z => z
  | k + 1, z => if 0 < z ∧ fLt v (fSub (bTh c z) (bHys c)) then zoneDown c v k (z - 1) else z

/-- A first-order lag a·y + b·x over a + b; `atZero` where a + b is 0. -/
def fLag (a y bx b atZero : Nat) : Nat :=
  let den := fAdd a b
  if fZero den then atZero else fDiv (fAdd (fMul a y) bx) den

/-- The ramped setpoint (R185). -/
def rampTo (c : List Byte) (spr sp dt : Nat) : Nat :=
  let step := fSub sp spr
  let step := if fZero (bRampDn c) then step else
    (let lo := fNegate (fMul (bRampDn c) dt); if fLt step lo then lo else step)
  let step := if fZero (bRampUp c) then step else
    (let hi := fMul (bRampUp c) dt; if fLt hi step then hi else step)
  fAdd spr step

/-- A coefficient of the active zone: 0 KP, 1 KI, 2 KD, 3 KFF. -/
def BLoop.gain (x : BLoop) (k : Nat) : Nat := x.coef.getD (4 * x.zone + k) 0

/-- One sample in RUN (R185, R186, R192): `xfer` a transfer, `first` the first after OFF; `free` the derivative over no
travel, which the manual does not state. -/
def BLoop.runSample (x : BLoop) (c : List Byte) (dt tt pv sp : Nat) (xfer first : Bool) (free : Nat) : BLoop :=
  let allow := !x.losing && !x.slewed
  let lo := bOutMin c
  let hi := bOutMax c
  let pvf := if first then x.pvf else fLag (bPvTf c) x.pvf (fMul tt pv) tt pv
  let spr := if first then x.spr else rampTo c x.spr sp dt
  let e := fSub spr pvf
  let e := if fLt (fAbs e) (bDb c) then 0 else e
  let xx := if bDerr c then e else fNegate pvf
  let d := if first then 0 else fLag (bDTf c) x.d (fMul (x.gain 2) (fSub xx x.xprev)) tt free
  let p := fMul (x.gain 0) e
  let ff := fMul (x.gain 3) spr
  let val (i : Nat) : Nat := fAdd (fAdd (fAdd (fAdd (bOutBias c) p) i) d) ff
  let inside (v : Nat) : Bool := fLe lo v && fLe v hi
  let i := if xfer then
      (let prev := if x.state = lpRUN then x.u else x.last
      fClamp lo hi (fSub prev (fAdd (fAdd (fAdd (bOutBias c) p) d) ff)))
    else if allow then
      (let j := fAdd x.i (fMul (fMul (x.gain 1) tt) e)
      if inside (val j) then fClamp lo hi j else x.i)
    else x.i
  let tried := if xfer || !allow then val i else val (fAdd x.i (fMul (fMul (x.gain 1) tt) e))
  let v := if inside tried then tried else val i
  let u := fClamp lo hi v
  { x with
    pvf := pvf, spr := spr, d := d, xprev := xx, i := i, err := e, u := u, last := u, state := lpRUN, slewed := false
    satHi := fLt hi v, satLo := fLt v lo }

/-- The shadow of loop n, zone by zone (R191). -/
def State.shadow (s : State) (n : Nat) : List Nat :=
  (List.range 32).map (fun k => (s.reg (R.BRD_KP n (k / 4) + 4 * (k % 4))).toNat)

/-- Promote the shadow of loop n where a promotion is pending: whether it makes a transfer (R191). -/
def State.promote (s : State) (n : Nat) : Bool × State :=
  let x := s.bloop n
  if !x.apply_ then (false, s)
  else
    let sh := s.shadow n
    if sh.all fFinite then (true, s.setLoop n { x with apply_ := false, coef := sh })
    else (false, (s.setLoop n { x with apply_ := false }).loopFlag n F.BRD_LSTAT_CONFIG F.BRD_STAT_CONFIG)

/-- The scheduled and the active zone of loop n at a sample (R190, R196): whether the active zone changes. -/
def State.rezone (s : State) (n t : Nat) : Bool × State :=
  let x := s.bloop n
  let c := s.entry 6 n
  let z := if bZtop c = 0 ∨ bSched c = 0 then (if bZtop c = 0 then 0 else x.z)
    else match s.brdSource (bSched c) n t with
      | some v => zoneDown c v 8 (zoneUp c v 8 x.z)
      | none => x.z
  let calm := bOscAct c = 1 && s.flag (F.BRD_LSTAT_OSC n)
  let zone := if calm then bCalm c else z
  let s := (s.setLoop n { x with z := z, zone := zone }).setBit (F.BRD_LSTAT_CALM n) calm
  if zone = x.zone then (false, s) else (true, s.setFld (F.BRD_LSTAT_ZSW n) 1)

/-- A sample or an entry of HOLD or FAIL that a loop's engine is to run: its instant, the position of the bound axis at it, whether it
was deferred, whether it is such an entry (R182, R183). -/
structure LJob where
  at_ : Nat
  pos : Int
  fast : Bool
  enter : Bool
  deriving DecidableEq, Repr

/-- The state of loop n at a sample (Table 7-3): `bad` where PV or SP is invalid. -/
def State.loopState (s : State) (n : Nat) (bad : Bool) : Nat :=
  let x := s.bloop n
  let c := s.entry 6 n
  let ax := x.axc
  if x.manual.isSome then lpMANUAL
  else if s.gate n = some false then lpGATED
  else if (bad && bFail c) || ax = 2 then lpFAIL
  else if bad || ax = 1 then lpHOLD
  else if bOscAct c = 2 && s.flag (F.BRD_LSTAT_OSC n) then lpFROZEN
  else lpRUN

/-- What a loop in another state than RUN puts out (Table 7-3). -/
def BLoop.held (x : BLoop) (c : List Byte) (st : Nat) : Nat :=
  if st = lpMANUAL then x.manual.getD 0 else if st = lpGATED then bStartOut c
  else if st = lpFAIL then bFailOut c else if st = lpFROZEN then x.frz else x.last

/-- The loop enters such a state with its output. -/
def BLoop.rest (x : BLoop) (c : List Byte) (st : Nat) : BLoop :=
  let u := x.held c st
  { x with state := st, u := u, last := u, satHi := false, satLo := false, slewed := false }

/-- One sample of loop n, up to its output u (R185-R193, R197, R198). -/
def State.loopSample (s : State) (n : Nat) (j : LJob) : State :=
  let t := j.at_
  let c := s.entry 6 n
  let (free, s) := s.drawNat 32
  let x := s.bloop n
  let dt := fFrac (x.dt t) 1000000000
  let tt := s.loopT x c t j.pos
  let s := if j.fast then s.loopFlag n F.BRD_LSTAT_AXFAST F.BRD_STAT_AXFAST else s
  let x := x.cmds.foldl (fun x p => x.command c free p) x
  let s := s.setLoop n { x with cmds := [], lastAt := some t, pos := j.pos, axc := 0 }
  let s := if 1 < (s.suppliers n).length then s.raiseFlag F.BRD_STAT_LOOPSHARE 185 else s
  let raw := s.brdSource (bPvSrc c) n t
  let sp := if bSpSrc c = 0 then some (bSpK c) else (s.brdSource (bSpSrc c) n t).map (fun v => fMul v (bSpK c))
  let bad := raw.isNone || sp.isNone
  let s := if bad && !x.pvbad then (s.loopFlag n F.BRD_LSTAT_PVFAIL F.BRD_STAT_PVFAIL).event 0x0502 [] else s
  let st := s.loopState n bad
  let (zsw, s) := s.rezone n t
  let (prom, s) := s.promote n
  let x := { s.bloop n with pvbad := bad }
  let pv := fAdd (fMul (raw.getD 0) (bPvScale c)) (bPvOff c)
  let first := x.first && raw.isSome
  let x := if first then { x with first := false, pvf := pv, spr := pv, d := 0, xprev := if bDerr c then 0 else fNegate pv } else x
  let xfer := x.xfer || zsw || prom || first || x.state ≠ lpRUN
  let y := if st = lpRUN then { x.runSample c dt tt pv (sp.getD 0) xfer first free with xfer := false }
    else { x.rest c st with xfer := false, spr := (if st = lpGATED then sp.getD x.spr else x.spr) }
  s.setLoop n y

/-- Loop n as its bound axis is found LOST or DISABLED: HOLD or FAIL, or the state that comes before it; no sample is taken (R183). -/
def State.loopEnter (s : State) (n : Nat) : State :=
  let c := s.entry 6 n
  let s := s.setLoop n { s.bloop n with axc := s.axCond c }
  s.setLoop n ((s.bloop n).rest c (s.loopState n (s.bloop n).pvbad))

/-- What the engine does of loop n up to its output u. -/
def State.loopCompute (s : State) (n : Nat) (j : LJob) : State := if j.enter then s.loopEnter n else s.loopSample n j

/-! ### The oscillation detector (R196) -/

/-- Count one sample of loop n: an ungrouped loop or a group's winner in RUN. -/
def State.oscCount (s : State) (n : Nat) : State :=
  let x := s.bloop n
  let c := s.entry 6 n
  if x.state ≠ lpRUN ∨ bOscN c = 0 ∨ s.flag (F.BRD_LSTAT_OSC n) then s
  else
    let cnt := x.cnt + 1
    let sg : Int := if fLt 0 x.err then 1 else if fLt x.err 0 then -1 else 0
    let rev := sg ≠ 0 && x.sign ≠ 0 && sg ≠ x.sign && x.wide
    let revs := ((if rev then cnt :: x.revs else x.revs)).filter (fun k => decide (cnt < k + bOscWin c))
    let wide := (x.wide && !rev) || fLt (bOscBand c) (fAbs x.err)
    let s := s.setLoop n { x with cnt := cnt, sign := if sg = 0 then x.sign else sg, wide := wide, revs := revs }
    let s := s.setFld (F.BRD_LOSC_COUNT n) (min 255 revs.length)
    if bOscN c ≤ revs.length then
      let s := s.setLoop n { s.bloop n with frz := x.last }
      let s := (s.setFld (F.BRD_LSTAT_OSC n) 1).raiseFlag F.BRD_STAT_OSC 186
      s.event 0x0503 [w32 n, w32 x.zone, w32 revs.length]
    else s

/-- Writing 1 to OSC of loop n: the window is emptied, and a loop that had it set is released by a transfer at its next sample. -/
def State.oscRelease (s : State) (n : Nat) : State :=
  let x := s.bloop n
  let s := s.setLoop n { x with revs := [], sign := 0, wide := false, cnt := 0, xfer := x.xfer || s.flag (F.BRD_LSTAT_OSC n) }
  (s.setFld (F.BRD_LSTAT_OSC n) 0).setFld (F.BRD_LOSC_COUNT n) 0

/-! ### Destinations (R187, R188) -/

/-- A value in steps of 1 ÷ k, kept within 0 and a limit; a NaN, whose command the manual does not state, is free. -/
def State.destSteps (s : State) (v k lim : Nat) : Nat × State :=
  if fNan v then (let (r, s) := s.drawNat 16; (r % (lim + 1), s))
  else if fInf v then (if fNeg v then 0 else lim, s)
  else ((clampI 0 lim (fRound v k)).toNat, s)

/-- A destination sends a value: one that lost its channel sends nothing (R188), nor does a masked module (R25, R199). A loop keeps
what its output comes to at its destination, for the endpoint that names it (R209). -/
def State.destSend (s : State) (k : Nat) (v : Nat) : State :=
  let (cls, ch) := s.destOf k
  let present := (cls = 1 && s.part.hasSol ch) || (cls = 2 && s.part.hasHs ch)
  if !present then s
  else
    let (i, s) := if cls = 1 then s.destSteps v 4 (if s.solPairs ch then 32000 else 16000) else s.destSteps v 100 10000
    let s := if k < 16 then s else s.setLoop (k - 16) { s.bloop (k - 16) with cmd := some i }
    let may := s.destMay k cls ch
    let s := if k < 16 then s.setBit (F.BRD_GSTAT_CONFLICT k) (!may) else s
    if !may then
      (if k < 16 then s.raiseFlag F.BRD_STAT_CONFLICT 185 else s.loopFlag (k - 16) F.BRD_LSTAT_CONFLICT F.BRD_STAT_CONFLICT)
    else if s.tdmMasked then s
    else if cls = 1 then s.solDest ch i else s.lswDest ch i

/-! ### Samples (R181-R184, R194, R195) -/

/-- Write the registers of loop n at the end of a sample; an entry of HOLD or FAIL leaves the time of the last sample (R201). -/
def State.loopShow (s : State) (n : Nat) (j : LJob) : State :=
  let x := s.bloop n
  let s := (s.setFld (F.BRD_LSTAT_STATE n) x.state).setFld (F.BRD_LSTAT_ZONE n) x.zone
  let s := (s.setFld (F.BRD_LSTAT_SZONE n) x.z).setBit (F.BRD_LSTAT_SAT_HI n) x.satHi
  let s := (s.setBit (F.BRD_LSTAT_SAT_LO n) x.satLo).setBit (F.BRD_LSTAT_LOSING n) x.losing
  let s := s.setBit (F.BRD_LSTAT_SHDIRTY n) x.apply_
  let s := (s.setReg (R.BRD_LOUT n) (w32 x.last)).setReg (R.BRD_LPV n) (w32 x.pvf)
  let s := (s.setReg (R.BRD_LSP n) (w32 x.spr)).setReg (R.BRD_LERR n) (w32 x.err)
  let s := s.setReg (R.BRD_LINT n) (w32 x.i)
  if j.enter then s else s.setReg (R.BRD_LTIME n) (w32 j.at_)

/-- A value limited to a change of rate × dt from another, and in which direction the limit acts (0 no limit). -/
def slewTo (prev v rate dt : Nat) : Nat × Int :=
  let lim := fMul rate dt
  if fLt (fAdd prev lim) v then (fAdd prev lim, 1)
  else if fLt v (fSub prev lim) then (fSub prev lim, -1)
  else (v, 0)

/-- The slew limit acts on a loop in a direction: it counts as saturation, and integration stops at the next sample (R186). -/
def BLoop.slew (x : BLoop) (d : Int) : BLoop :=
  if d = 0 then x else { x with slewed := true, satHi := x.satHi || decide (0 < d), satLo := x.satLo || decide (d < 0) }

/-- What is due of loop n after the sample at its front: the next TIME instant, the samples of its axis already noted. -/
def State.loopRest (s : State) (n : Nat) : Nat × List LDue :=
  ((s.bloop n).nextAt + 1000 * bPeriod (s.entry 6 n), (s.loopNoted n s.lineEnd).dues.tail)

/-- The engine's busy share, which the manual bounds and does not state (R184). -/
def State.brdBusy (s : State) : State := let (r, s) := s.drawNat 32; s.setFld F.BRD_LOAD_BUSY (r % 101)

/-- A sample of a loop outside a group (R185). -/
def State.loopJob (s : State) (n : Nat) (j : LJob) : State :=
  let c := s.entry 6 n
  let x0 := s.bloop n
  let (next, dues) := s.loopRest n
  let s := (s.setLoop n (if j.enter then x0 else { x0 with nextAt := next, dues := dues })).loopCompute n j
  let x := { s.bloop n with losing := false }
  let x := if x.state = lpRUN ∧ !fZero (bOutSlew c) then
      (let (v, d) := slewTo x0.last x.u (bOutSlew c) (fFrac (x0.dt j.at_) 1000000000)
      { x with last := v }.slew d)
    else x
  let s := (s.setLoop n x).oscCount n
  let s := if s.alone n then s else s.destSend (16 + n) (fMul (s.bloop n).last (bDscale c))
  (s.loopShow n j).brdBusy

/-- The member with the lowest output, ties to the lower index (R194). -/
def State.gwinner (s : State) : List Nat → Nat → Nat
  | [], w => w
  | m :: l, w => State.gwinner s l (if fLt (s.bloop m).u (s.bloop w).u then m else w)

/-- A sample of group g, with the instants of its lowest-indexed member (R184, R194, R195). -/
def State.groupJob (s : State) (g : Nat) (j : LJob) : State :=
  let ms := s.gmembers g
  match ms with
  | [] => s
  | m0 :: _ =>
    let (next, dues) := s.loopRest m0
    let s := ms.foldl (fun s m =>
      (s.setLoop m (if j.enter then s.bloop m else { s.bloop m with nextAt := next, dues := dues })).loopCompute m j) s
    let w := s.gwinner ms m0
    let s := ms.foldl (fun s m => s.setLoop m { s.bloop m with losing := decide (m ≠ w) }) s
    let u := (s.bloop w).u
    let rate := s.fld (F.BRD_GSLEW_SLEW g)
    let (v, d) := match SMap.get (fun _ => none) s.brd.gsent g with
      | some (p, at_) => if fFinite rate ∧ fLt 0 rate then slewTo p u rate (fFrac ((j.at_ - at_ : Nat) : Int) 1000000000) else (u, 0)
      | none => (u, 0)
    let s := (s.setLoop w ((s.bloop w).slew d)).oscCount w
    let s : State := { s with brd := { s.brd with gsent := SMap.set (fun _ => none) s.brd.gsent g (some (v, j.at_)) } }
    let s := (s.setReg (R.BRD_GOUT g) (w32 v)).setFld (F.BRD_GSTAT_WINNER g) w
    let s := s.destSend g (fMul v (s.fld (F.BRD_GSCALE_SCALE g)))
    (ms.foldl (fun s m => s.loopShow m j) s).brdBusy

/-- What the engine has to do next of loop n, up to the end of the axes' lines (R181-R183). -/
def State.loopNext (s : State) (n : Nat) : Option LJob :=
  let x := s.bloop n
  let c := s.entry 6 n
  if !x.on then none
  else if bClk c = 1 then (if x.nextAt ≤ s.lineEnd then some ⟨x.nextAt, 0, false, false⟩ else none)
  else
    let at_ := max x.startAt (s.axis (bAxis c)).at_
    let entry := if s.axCond c ≠ 0 ∧ s.axCond c ≠ x.axc ∧ at_ ≤ s.lineEnd then some ⟨at_, 0, false, true⟩ else none
    match (s.loopNoted n s.lineEnd).dues with
    | d :: _ => if d.at_ ≤ s.lineEnd then some ⟨d.at_, d.pos.getD 0, d.fast, false⟩ else entry
    | [] => entry

/-- Whether the front sample of loop n has not started by the loop's next instant (R184). -/
def State.loopLate (s : State) (n : Nat) : Bool :=
  let x := s.bloop n
  let c := s.entry 6 n
  x.on && (if bClk c = 1 then decide (x.nextAt + 1000 * bPeriod c ≤ s.now)
    else match (s.loopNoted n s.lineEnd).dues with
      | _ :: d :: _ => decide (d.at_ ≤ s.now)
      | _ => false)

/-- The loop in whose place loop n is sampled: itself, or its group's lowest-indexed member (R184). -/
def State.loopPlace (s : State) (n : Nat) : Nat :=
  let c := s.entry 6 n
  if bGen c && !s.alone n then (match s.gmembers (bGroup c) with | m :: _ => m | [] => n) else n

/-- Whether it is the turn of loop n's sample at an instant: after every stride tick, emission, trigger and page swap up to then, after
the samples due earlier, and in one µs after those of lower-indexed loops (R89, R184). -/
def State.loopTurn (s : State) (n t : Nat) : Bool :=
  s.emitClear t && s.trgClear t 32 && (match s.nextSwap with | some u => decide (t < u) | none => true) &&
    (List.range 64).all (fun m => s.loopPlace m ≠ m || s.loopLate m || (match s.loopNext m with
      | some j => decide (t < j.at_ ∨ (t = j.at_ ∧ n ≤ m))
      | none => true))

/-- The job that the engine does now of loop n. -/
def State.loopDue (s : State) (n : Nat) : Option LJob :=
  match s.loopNext n with
  | some j => if s.loopTurn n j.at_ then some j else none
  | none => none

/-- A sample of loop n, or of the group ms that it leads, is dropped (R184). -/
def State.loopDrop (s : State) (n : Nat) (ms : List Nat) : State :=
  let (next, dues) := s.loopRest n
  let s := ms.foldl (fun s m =>
    (s.setLoop m { s.bloop m with nextAt := next, dues := dues }).loopFlag m F.BRD_LSTAT_OVERRUN F.BRD_STAT_OVERRUN) s
  s.bump F.BRD_OVRCNT_COUNT

/-- LOOP_SAMPLE (R181-R193): loop n, when it is due and no member of a group. -/
def execLoopSample (n : Fin 64) (s : State) : Out :=
  let k := n.val
  if bGen (s.entry 6 k) ∧ !s.alone k then .next s
  else if s.loopLate k then .next (s.loopDrop k [k])
  else match s.loopDue k with
    | some j => .next (s.loopJob k j)
    | none => .next s

/-- GROUP_SAMPLE (R194, R195): group g, in the place of its lowest-indexed member. -/
def execGroupSample (g : Fin 16) (s : State) : Out :=
  let ms := s.gmembers g
  match ms with
  | [] => .next s
  | m :: _ =>
    if s.loopLate m then .next (s.loopDrop m ms)
    else match s.loopDue m with
      | some j => .next (s.groupJob g j)
      | none => .next s

/-! ### Commands and registers (R180, R191, R196, R198, R201) -/

/-- A write of BRD_APPLY_LO or _HI (R191); a loop whose coefficients are applied may run (R199). -/
def State.applyShadows (s : State) (base : Nat) (w : Word) : State :=
  ((List.range 32).foldl (fun s k =>
    if w.toNat / 2 ^ k % 2 = 1 then
      (s.setLoop (base + k) { s.bloop (base + k) with apply_ := true, armed := true }).setFld (F.BRD_LSTAT_SHDIRTY (base + k)) 1
    else s) s).brdConfig

/-- COEF_APPLY (R191): a write of BRD_APPLY_LO, or of BRD_APPLY_HI. -/
def execCoefApply (acc : Acc) (hi : Bool) (value : Word) (s : State) : Out :=
  let a := if hi then R.BRD_APPLY_HI else R.BRD_APPLY_LO
  .next (s.guardWrite acc a (fun s => s.ifOwn (fun s => s.applyShadows (if hi then 32 else 0) value)))

/-- A write of BRD_LSTATn: writing 1 to OSC releases the loop. -/
def State.writeLstat (s : State) (n : Nat) (w : Word) : State :=
  let s := if (F.BRD_LSTAT_OSC n).get w = 1 then s.oscRelease n else s
  s.writePlain (R.BRD_LSTAT n) w

/-- OSC_RELEASE (R196). -/
def execOscRelease (acc : Acc) (n : Fin 64) (s : State) : Out :=
  .next (s.guardWrite acc (R.BRD_LSTAT n) (fun s => s.writeLstat n ((F.BRD_LSTAT_OSC n).put 0 1)))

/-- A write of BRD_SWVALk: it is fresh from now (R180). -/
def State.writeSwVal (s : State) (k : Nat) (w : Word) : State :=
  let s := s.writePlain (R.BRD_SWVAL k) w
  { s with brd := { s.brd with sw := SMap.set (fun _ => none) s.brd.sw k (some (s.now, true)) } }

/-- SW_VALUE_WRITE (R180). -/
def execSwValueWrite (acc : Acc) (k : Fin 16) (value : Word) (s : State) : Out :=
  .next (s.guardWrite acc (R.BRD_SWVAL k) (fun s => s.ifOwn (fun s => s.writeSwVal k value)))

/-- SW_VALUE_TIMEOUT (R180): not written for BRD_SWTO ms. -/
def execSwValueTimeout (k : Fin 16) (s : State) : Out :=
  match SMap.get (fun _ => none) s.brd.sw k.val with
  | some (t, true) =>
    if s.fld F.BRD_SWTO_TO ≠ 0 ∧ s.elapsed t (1000000 * s.fld F.BRD_SWTO_TO) then
      .next { s with brd := { s.brd with sw := SMap.set (fun _ => none) s.brd.sw k.val (some (t, false)) } }
    else .next s
  | _ => .next s

/-- A descriptor of queue 0x04 (R198): the command waits for each named loop's next sample. -/
def State.runLoopCmd (s : State) (n : Nat) (d : Desc) : State :=
  if d.len = 0 then s.complete n d.didx stEMPTY 0
  else if d.len ≠ 8 then s.complete n d.didx stBADLEN 0
  else match s.unitRead (engine 14) d.addr 8 with
    | (none, s) => s.complete n d.didx stACCESS 0
    | (some bs, s) =>
      if d.op = 1 ∧ fNan d.arg0 then s.complete n d.didx 0x80 0
      else
        let named := (List.range 64).filter (fun k => leNat bs / 2 ^ k % 2 = 1)
        let s := named.foldl (fun s k => s.setLoop k { s.bloop k with cmds := (s.bloop k).cmds ++ [(d.op, d.arg0)] }) s
        s.complete n d.didx stOK ((named.filter (fun k => (s.bloop k).on)).length)

/-- A BRD queue command (Table 7-4). -/
def State.brdCmd (s : State) (n op : Nat) : State :=
  s.queueCmd n (fun q => q = 0x04) op [1, 2, 3] (fun s d => s.ownDesc n d (fun s => s.runLoopCmd n d))

/-- LOOP_MANUAL (R198). -/
def execLoopManual (n : Fin 64) (s : State) : Out := .next (s.brdCmd n 1)

/-- LOOP_AUTO (R198). -/
def execLoopAuto (n : Fin 64) (s : State) : Out := .next (s.brdCmd n 2)

/-- INT_SET (R198). -/
def execIntSet (n : Fin 64) (s : State) : Out := .next (s.brdCmd n 3)

/-- A register write in the BRD window. -/
def State.writeBrd (s : State) (a : Nat) (w : Word) : State :=
  if a = R.BRD_APPLY_LO then s.ifOwn (fun s => s.applyShadows 0 w)
  else if a = R.BRD_APPLY_HI then s.ifOwn (fun s => s.applyShadows 32 w)
  else if R.BRD_SWVAL 0 ≤ a ∧ a < R.BRD_SWVAL 16 then s.ifOwn (fun s => s.writeSwVal ((a - R.BRD_SWVAL 0) / 4) w)
  else if R.BRD_KP 0 0 ≤ a ∧ a < R.BRD_KP 64 0 then s.ifOwn (fun s => s.writePlain a w)
  else if R.BRD_LSTAT 0 ≤ a ∧ a < R.BRD_LSTAT 64 ∧ (a - R.BRD_LSTAT 0) % 0x20 = 0 then s.writeLstat ((a - R.BRD_LSTAT 0) / 0x20) w
  else
    let s := s.writePlain a w
    let g := (a - R.BRD_GDEST 0) / 0x10
    let dest : Bool := decide (R.BRD_GDEST 0 ≤ a ∧ a < R.BRD_GDEST 16 ∧ (a - R.BRD_GDEST 0) % 0x10 = 0)
    let s := if dest && s.groupBad g then s.raiseFlag F.BRD_STAT_CONFIG 185 else s
    if a = R.BRD_CTL ∨ dest = true then s.brdConfig else s

end Sys2Proof.Machine
end

