-- ==== Sys2Proof/Machine/Image.lean ====
section
/-! DEFINITION. Camera ports, image pipelines and the encoder (17_image_pipeline.md). -/

namespace Sys2Proof.Machine

/-! ### Records -/

/-- Camera c beside its registers. -/
def State.cam (s : State) (c : Nat) : Cam := SMap.get (fun _ => Cam.init) s.img.cams c

/-- Replace camera c. -/
def State.setCam (s : State) (c : Nat) (x : Cam) : State :=
  { s with img := { s.img with cams := SMap.set (fun _ => Cam.init) s.img.cams c x } }

/-- Context x beside its registers. -/
def State.ctx (s : State) (x : Nat) : Ctx := SMap.get (fun _ => Ctx.init) s.img.ctxs x

/-- Replace context x. -/
def State.setCtx (s : State) (x : Nat) (v : Ctx) : State :=
  { s with img := { s.img with ctxs := SMap.set (fun _ => Ctx.init) s.img.ctxs x v } }

/-- Stream k beside its registers. -/
def State.enc (s : State) (k : Nat) : Enc := SMap.get (fun _ => Enc.init) s.img.encs k

/-- Replace stream k. -/
def State.setEnc (s : State) (k : Nat) (v : Enc) : State :=
  { s with img := { s.img with encs := SMap.set (fun _ => Enc.init) s.img.encs k v } }

/-- Pipeline p in context mode. -/
def State.pipe (s : State) (p : Nat) : Pipe := SMap.get (fun _ => Pipe.init) s.img.pipes p

/-- Replace pipeline p. -/
def State.setPipe (s : State) (p : Nat) (v : Pipe) : State :=
  { s with img := { s.img with pipes := SMap.set (fun _ => Pipe.init) s.img.pipes p v } }

/-- Width and height of camera c. -/
def State.camW (s : State) (c : Nat) : Nat := s.fld (F.IMG_CAMSIZE_W c)
def State.camH (s : State) (c : Nat) : Nat := s.fld (F.IMG_CAMSIZE_H c)

/-- The context of camera c, and whether it runs in context mode (R396, R397). -/
def State.camCtx (s : State) (c : Nat) : Nat := s.fld (F.IMG_CAMCFG_CTX c)
def State.camByCtx (s : State) (c : Nat) : Bool := s.flag (F.IMG_CAMCFG_MODE c)

/-- Set a camera's flag and the flag of IMG_STAT (R407). -/
def State.camFlag (s : State) (c : Nat) (ch : Nat → Fld) (unit : Fld) : State := s.raiseBoth (ch c) unit 204

/-- A frame is dropped: DROP and IMG_DROPCNT (R397, R400, R403). -/
def State.imgDrop (s : State) : State := (s.raiseFlag F.IMG_STAT_DROP 204).bump F.IMG_DROPCNT_COUNT

/-! ### Configuration (R389, R396, R404) -/

/-- Whether camera c is enabled in streaming mode on pipeline p. -/
def State.camStreams (s : State) (c p : Nat) : Bool :=
  s.flag (F.IMG_CAMCFG_EN c) && !s.camByCtx c && s.fld (F.IMG_CAMCFG_PIPE c) = p

/-- Whether camera c is configured with no size or one beyond its mode (R389). -/
def State.camSizeBad (s : State) (c : Nat) : Bool :=
  let w := s.camW c
  w = 0 || s.camH c = 0 || 16384 < w || (!s.camByCtx c && 4096 < w)

/-- Whether the configuration of camera c keeps it from capturing (R389, R396, Table 17-7). -/
def State.camBad (s : State) (c : Nat) : Bool :=
  s.camSizeBad c || s.fld (F.IMG_CAMCFG_DT c) = 3 || s.fld (F.IMG_CAMCFG_GEAR c) = 3 ||
    (if s.camByCtx c then !(2 ≤ s.fld (F.IMG_RAWCFG_RAWN c) && s.fld (F.IMG_RAWCFG_RAWN c) ≤ 8)
     else (List.range c).any (fun d => s.camStreams d (s.fld (F.IMG_CAMCFG_PIPE c))))

/-- Whether camera c captures: unit and port enabled, link up, configuration good. -/
def State.camCaptures (s : State) (c : Nat) : Bool :=
  s.flag F.IMG_CTL_EN && s.flag (F.IMG_CAMCFG_EN c) && s.flag (F.IMG_CAMSTAT_LINK_UP c) && !s.camBad c

/-- The camera that feeds pipeline p in streaming mode: the lowest index keeps it (R396). -/
def State.streamCam (s : State) (p : Nat) : Option Nat := (List.range 8).find? (fun c => s.camStreams c p)

/-- CONFIG of camera c (Table 17-7). -/
def State.camConfigFlag (s : State) (c : Nat) : State := s.camFlag c F.IMG_CAMSTAT_CONFIG F.IMG_STAT_CONFIG

/-- A camera that cannot capture: CONFIG, and for its size event IMG_CONFIG with the camera (R389). -/
def State.camConfig (s : State) (c : Nat) : State :=
  let s := s.camConfigFlag c
  if s.camSizeBad c then s.event 0x0E04 [w32 c] else s

/-- The CAMERA sources of Weave that name camera c take their state (R388, R302). -/
def State.camSources (s : State) (c : Nat) : State :=
  (List.range 32).foldl (fun s x =>
    if wKind (s.src x).entry = 8 && wInput (s.src x).entry = c then s.srcRefresh x else s) s

/-- The link of camera c goes down: LINK_UP reads 0 and the transition is recorded (R388). -/
def State.camLinkDown (s : State) (c : Nat) : State :=
  let was := s.flag (F.IMG_CAMSTAT_LINK_UP c)
  let s := (s.setCam c { s.cam c with trained := false }).setFld (F.IMG_CAMSTAT_LINK_UP c) 0
  if was then (s.event 0x0E01 [w32 c, 0]).camSources c else s

/-- Begin the count of frames and the ledger of camera c anew: a port that becomes enabled (R394, Table 17-4). -/
def State.camStart (s : State) (c : Nat) : State :=
  let x := s.cam c
  let s := s.setCam c { Cam.init with trained := x.trained, cci := x.cci, cciRd := x.cciRd }
  let s := (s.setFld (F.IMG_FNUM_FNUM c) 0).setReg (R.IMG_LEDG c) 0
  let s := s.setBit (F.IMG_CAMSTAT_LINK_UP c) x.trained
  let s := if x.trained then s.setFld (F.IMG_CAMSTAT_GEAR c) (s.fld (F.IMG_CAMCFG_GEAR c)) else s
  s.camSources c

/-- Whether port c is enabled in an enabled unit. -/
def State.camOn (s : State) (c : Nat) : Bool := s.flag F.IMG_CTL_EN && s.flag (F.IMG_CAMCFG_EN c)

/-- Bring cameras and pipelines in line with their registers after a write that came to camera c, if to one: ports that
become enabled start, one that leaves drops its open frame and its link (log entry 57), new faults of configuration show (R389, R396). -/
def State.imgConfig (t s : State) (at_ : Option Nat) : State :=
  let s := (List.range 8).foldl (fun s c =>
    if s.camOn c && !t.camOn c then s.camStart c
    else if t.camOn c && !s.camOn c then (s.setCam c { s.cam c with opened := none }).camLinkDown c else s) s
  let s := (List.range 8).foldl (fun s c =>
    if s.camOn c && s.camBad c && (at_ = some c || !(t.camOn c && t.camBad c)) then s.camConfig c else s) s
  (List.range 4).foldl (fun s p => s.setBit (F.IMG_PIPESTAT_STREAMING p) (s.streamCam p).isSome) s

/-- Whether the coding output of context x is on: enabled, and no lower context names its stream (R404). -/
def State.coding (s : State) (x : Nat) : Bool :=
  let on (y : Nat) : Bool := s.fld (F.IMG_CTXCFG_OUT y) / 2 % 2 = 1
  on x && !(List.range x).any (fun y => on y && s.fld (F.IMG_CTXCFG_STREAM y) = s.fld (F.IMG_CTXCFG_STREAM x))

/-! ### The ledger (R392-R394) -/

/-- The bytes of a parameter group: of each write the sensor's address, the register's and the data; a register at address
0 is not written (R390, R392, log entry 57). -/
def State.groupBytes (s : State) (c : Nat) : Nat :=
  let has (f : Fld) (n : Nat) : Nat := if s.fld f = 0 then 0 else n
  2 * has (F.IMG_PRF3_GHREG c) 4 + has (F.IMG_PRF3_EXPREG c) 5 + has (F.IMG_PRF4_AGREG c) 5 + has (F.IMG_PRF4_DGREG c) 5

/-- The write time of a group in ns: bytes × 9 bits ÷ the CCI rate (R392). -/
def State.groupNs (s : State) (c : Nat) : Nat :=
  let hz := match s.fld (F.IMG_PRF0_CCIRATE c) with
    | 0 => 100000 | 1 => 400000 | _ => 1000000
  (s.groupBytes c * 9 * 1000000000 + hz - 1) / hz

/-- The predicted next FS of a camera: the last FS plus the mean of its last 4 frame periods (R393). -/
def Cam.nextFs (x : Cam) : Option Nat :=
  match x.fs with
  | [] => none
  | t :: l =>
    let l := l.take 4
    if l = [] then none else some (t + (t - l.getLastD t) / l.length)

/-- Start the group of the submitted set of camera c at an instant (R393). -/
def State.groupStart (s : State) (c t : Nat) : State :=
  let x := s.cam c
  match x.submitted, x.group with
  | some p, none => s.setCam c { x with submitted := none, group := some (p, t + s.groupNs c) }
  | _, _ => s

/-- Start the group at an instant if the predicted FS lies far enough ahead of it (R393). -/
def State.groupTry (s : State) (c t : Nat) : State :=
  match (s.cam c).nextFs with
  | some f => if t + s.groupNs c + 1000 * s.fld (F.IMG_PRF1_CCIGUARD c) ≤ f then s.groupStart c t else s
  | none => s

/-- A group whose last write is over by now is complete, and a set that waited for it may start then (R393). -/
def State.groupEnd (s : State) (c : Nat) : State :=
  let x := s.cam c
  match x.group with
  | some (p, t) =>
    if t ≤ s.now then (s.setCam c { x with group := none, written := x.written ++ [p] }).groupTry c t else s
  | none => s

/-- The groups of camera c that are over by now: the one being written and one that followed it (R393). -/
def State.groupEnds (s : State) (c : Nat) : State := (s.groupEnd c).groupEnd c

/-- A write of IMG_PSETGOc (R392, R393): GO takes the set; a set not yet started is superseded. -/
def State.writePset (s : State) (c : Nat) (w : Word) : State :=
  if (F.IMG_PSETGO_GO c).get w = 0 then s
  else
    let s := s.groupEnds c
    let x := s.cam c
    let p : ParamSet := ⟨s.fld (F.IMG_PSET0_TAG c), s.fld (F.IMG_PSET1_EXP c), s.fld (F.IMG_PSET0_AGAIN c), s.fld (F.IMG_PSET1_DGAIN c)⟩
    let s := if x.submitted.isSome then
        (s.camFlag c F.IMG_CAMSTAT_SUPERSEDED F.IMG_STAT_SUPERSEDED).bump (F.IMG_SUPCNT_COUNT c) else s
    (s.setCam c { x with submitted := some p }).groupTry c s.now

/-- PARAMETER_SET_SUBMIT (R392): a write of IMG_PSETGOc. -/
def execParameterSetSubmit (acc : Acc) (c : Fin 8) (value : Word) (s : State) : Out :=
  .next (s.guardWrite acc (R.IMG_PSETGO c) (fun s => s.writePset c value))

/-- CCI_GROUP_COMPLETE (R393): the group's last write is over; a set that waits may start. -/
def execCciGroupComplete (c : Fin 8) (s : State) : Out := .next (s.groupEnd c)

/-- A write of IMG_CCICMDc (R391): GO starts a transaction; one written while BUSY is ignored. -/
def State.writeCci (s : State) (c : Nat) (w : Word) : State :=
  let x := s.cam c
  if (F.IMG_CCICMD_GO c).get w = 0 then
    (s.writePlain (R.IMG_CCICMD c) w)
  else if s.flag (F.IMG_CCICMD_BUSY c) then s.camConfigFlag c
  else ((s.writePlain (R.IMG_CCICMD c) w).setFld (F.IMG_CCICMD_BUSY c) 1).setCam c
    { x with cci := true, cciRd := (F.IMG_CCICMD_RD c).get w = 1 }

/-- The transaction of camera c ends, after the ledger's writes (R391): a read that is acknowledged leaves its data. -/
def State.cciEnd (s : State) (c : Nat) (ack : Bool) (data : BitVec 8) : State :=
  let s := s.groupEnds c
  let x := s.cam c
  if x.cci ∧ x.group = none then
    let s := (s.setCam c { x with cci := false }).setFld (F.IMG_CCICMD_BUSY c) 0
    if !ack then (s.camFlag c F.IMG_CAMSTAT_CCI_ERR F.IMG_STAT_CCI_ERR).event 0x0E03 []
    else if x.cciRd then s.setFld (F.IMG_CCICMD_DATA c) data.toNat else s
  else s

/-- CCI_TRANSACTION (R391): a write of IMG_CCICMDc, or the end of the transaction with the sensor's answer. -/
def execCciTransaction (acc : Acc) (c : Fin 8) (value : Option Word) (ack : Bool) (data : BitVec 8) (s : State) : Out :=
  match value with
  | some w => .next (s.guardWrite acc (R.IMG_CCICMD c) (fun s => s.writeCci c w))
  | none => .next (s.cciEnd c ack data)

/-- The sets of a list that apply by frame n: the last of them, and those to come. -/
def dueSets (n : Nat) (old : ParamSet) (l : List (Nat × ParamSet)) : ParamSet × List (Nat × ParamSet) :=
  (l.foldl (fun p e => if e.1 ≤ n then e.2 else p) old, l.filter (fun e => n < e.1))

/-- FS of a camera at the ledger (R393, R394): it is frame fsN; sets written by now take it as their N, with their exposure
EDLY and their gains GDLY frames on. -/
def Cam.ledgerFs (x : Cam) (now edly gdly : Nat) : Cam :=
  let n := x.fsN
  let (e, el) := dueSets n x.expo (x.expDue ++ x.written.map (fun p => (n + edly, p)))
  let (g, gl) := dueSets n x.gain (x.gainDue ++ x.written.map (fun p => (n + gdly, p)))
  { x with fsN := n + 1, fs := (now :: x.fs).take 5, written := [], expo := e, expDue := el, gain := g, gainDue := gl }

/-! ### Context blocks (R398) -/

/-- A write of IMG_CTXAPPLYx: GO has the block at IMG_CTXBLKx applied at the context's next frame. -/
def State.writeApply (s : State) (x : Nat) (w : Word) : State :=
  let s := s.writePlain (R.IMG_CTXAPPLY x) w
  if (F.IMG_CTXAPPLY_GO x).get w = 1 then
    s.setCtx x { s.ctx x with next := some (s.fld (F.IMG_CTXAPPLY_TAG x), s.fld (F.IMG_CTXBLK_ADDR x) * 256) }
  else s

/-- CONTEXT_APPLY (R398). -/
def execContextApply (acc : Acc) (x : Fin 16) (value : Word) (s : State) : Out :=
  .next (s.guardWrite acc (R.IMG_CTXAPPLY x) (fun s => s.writeApply x value))

/-- The start of a context's frame on pipeline p reads a block to apply; one that does not arrive whole sets TORN and
leaves the previous one (R398). -/
def State.ctxFrame (s : State) (x : Nat) (p : Fin 4) : State :=
  match (s.ctx x).next with
  | none => s
  | some (tag, a) =>
    match s.unitRead (engine ⟨23 + p.val, by omega⟩) a 4096 with
    | (some bs, s) => s.setCtx x ⟨tag, bs, none⟩
    | (none, s) => (s.setCtx x { s.ctx x with next := none }).raiseFlag F.IMG_STAT_TORN 204

/-! ### Frames (R388, R395, R396, R403) -/

/-- n free bytes, and the state after drawing them. -/
def State.drawBytes (s : State) (n : Nat) : List Byte × State :=
  ((List.range n).map (fun i => (Config.freeValue (s.freeSeq + i)).setWidth 8), { s with freeSeq := s.freeSeq + n })

/-- A bit of a frame's flags. -/
def bitIf (b : Bool) (k : Nat) : Nat := if b then 2 ^ k else 0

/-- Whether a flag of a frame is set. -/
def CamFrm.has (f : CamFrm) (k : Nat) : Bool := f.flags / 2 ^ k % 2 = 1

/-- The open frame of camera c ends (Table 17-5): at its FE, or short at a new FS or with its link. -/
def State.frameClose (s : State) (c : Nat) (cut : FrameCut) (fe link : Bool) : State :=
  let x := s.cam c
  match x.opened with
  | none => s
  | some f =>
    let h := s.camH c
    let n := cut.lines.toNat
    let short := decide (n < h) || !fe
    let line := cut.shortLine || cut.longLine
    let part := decide (f.expo.tag ≠ f.gain.tag)
    let num := (s.fld (F.IMG_FNUM_FNUM c) + 1) % 2 ^ 32
    let g : CamFrm := { f with
      fnum := num, feAt := s.now, lines := min n h
      flags := bitIf (short || cut.shortLine) 0 + bitIf (decide (h < n)) 1 + bitIf line 2 + bitIf link 3 + bitIf part 4 + bitIf (short || cut.shortLine) 5 }
    let s := s.setCam c { x with opened := none, raw := x.raw ++ [g], rawN := x.rawN + 1 }
    let s := (s.setFld (F.IMG_FNUM_FNUM c) num).setReg (R.IMG_LEDG c) (w32 (f.gain.tag * 65536 + f.expo.tag))
    let s := if short then (s.camFlag c F.IMG_CAMSTAT_FRAME_SHORT F.IMG_STAT_FRAME_SHORT).event 0x0E02 [] else s
    let s := if h < n then (s.camFlag c F.IMG_CAMSTAT_FRAME_LONG F.IMG_STAT_FRAME_LONG).event 0x0E02 [] else s
    let s := if line then s.camFlag c F.IMG_CAMSTAT_LINE_ERR F.IMG_STAT_LINE_ERR else s
    let s := if part then s.camFlag c F.IMG_CAMSTAT_PARTIAL F.IMG_STAT_PARTIAL else s
    if s.camByCtx c then
      let len := 2 * s.camW c * g.lines
      let a := s.fld (F.IMG_RAWBASE_ADDR c) * 256 + x.rawN % max 1 (s.fld (F.IMG_RAWCFG_RAWN c)) * (2 * s.camW c * h)
      match s.drawBytes len with
      | (bs, s) => (s.unitWrite (engine ⟨23 + c % 4, by omega⟩) a bs).2
    else s

/-- Whether a raw frame is too old to start: not started within MAXAGE ms of its FE. -/
def State.rawOld (s : State) (f : CamFrm) : Bool :=
  let m := s.fld F.IMG_SCHED_MAXAGE
  m ≠ 0 && f.stripes = 0 && decide (f.feAt + 1000000 * m < s.now)

/-- Drop the oldest raw frame of camera c that is too old (R397). -/
def State.ageDrop (s : State) (c : Nat) : State :=
  let x := s.cam c
  match (if s.camByCtx c then x.raw.find? s.rawOld else none) with
  | some f => (s.setCam c { x with raw := x.raw.filter (fun g => g.fnum ≠ f.fnum) }).imgDrop
  | none => s

/-- Drop every raw frame of camera c that is too old. -/
def State.ageDrops (s : State) (c : Nat) : State := (List.range 8).foldl (fun s _ => s.ageDrop c) s

/-- FRAME_START (R393, R394, R396, R398, R403): an open frame closes as short; the ledger takes the frame; a parameter group
that waits starts; in streaming mode the context's block applies; a raw ring full of frames that are not
too old takes no frame. -/
def State.frameStart (s : State) (c : Nat) (cut : FrameCut) : State :=
  if !s.camCaptures c then s
  else
    let s := s.frameClose c cut false false
    let s := s.groupEnds c
    let s := s.setCam c ((s.cam c).ledgerFs s.now (s.fld (F.IMG_PRF0_EDLY c)) (s.fld (F.IMG_PRF0_GDLY c)))
    let s := s.groupStart c s.now
    let byCtx := s.camByCtx c
    let p : Fin 4 := ⟨s.fld (F.IMG_CAMCFG_PIPE c) % 4, by omega⟩
    let s := if byCtx then s.ageDrops c
      else (s.ctxFrame (s.camCtx c) p).setFld (F.IMG_PIPESTAT_CTX p) (s.camCtx c)
    let x := s.cam c
    if byCtx && s.fld (F.IMG_RAWCFG_RAWN c) ≤ x.raw.length then s.camFlag c F.IMG_CAMSTAT_OVERFLOW F.IMG_STAT_OVERFLOW
    else s.setCam c { x with
      opened := some ⟨0, s.now / 1000 * 1000, 0, x.expo, x.gain, (s.ctx (s.camCtx c)).tag, 0, 0, 0, none⟩ }

/-- FRAME_START: cut is what an open frame had received. -/
def execFrameStart (c : Fin 8) (cut : FrameCut) (s : State) : Out := .next (s.frameStart c cut)

/-- FRAME_END (R403). -/
def execFrameEnd (c : Fin 8) (cut : FrameCut) (s : State) : Out := .next (s.frameClose c cut true false)

/-- IMG_LINK (R388): the link of an enabled port trains at GEAR, or goes down, ending a frame in progress. -/
def execImgLink (c : Fin 8) (up : Bool) (cut : FrameCut) (s : State) : Out :=
  if up then
    if !s.flag (F.IMG_CAMSTAT_LINK_UP c) && s.camOn c && s.fld (F.IMG_CAMCFG_GEAR c) ≠ 3 then
      let s := s.setCam c { s.cam c with trained := true }
      let s := (s.setFld (F.IMG_CAMSTAT_LINK_UP c) 1).setFld (F.IMG_CAMSTAT_GEAR c) (s.fld (F.IMG_CAMCFG_GEAR c))
      .next ((s.event 0x0E01 [w32 c, 1]).camSources c)
    else .next s
  else
    .next ((s.frameClose c cut false true).camLinkDown c)

/-- The frame instant (R395): the mid-exposure instant of the frame's centre line. -/
def State.frameInstant (s : State) (c : Nat) (f : CamFrm) : Nat :=
  let lt : Int := (s.fld (F.IMG_PRF2_LINET c) : Nat)
  ((f.fsAt : Int) - 1000 * s.fldInt (F.IMG_PRF1_FSDLY c) + (((s.camH c : Nat) : Int) * lt - (f.expo.exp : Int) * lt) / 2).toNat

/-! ### The scheduler (R397) -/

/-- The stripes of a frame of camera c: one, or those of at most 4,096 pixels with 32 pixels of overlap on each inner side. -/
def State.stripeCount (s : State) (c : Nat) : Nat :=
  let w := s.camW c
  if 4096 < w || s.flag (F.IMG_CTXCFG_STRIPE (s.camCtx c)) then
    (if w ≤ 4096 then 1 else 2 + (w - 2 * 4064 + 4031) / 4032)
  else 1

/-- The raw frame of camera c that may be served: its oldest with stripes to start that no pipeline holds. -/
def State.servable (s : State) (c : Nat) : Option CamFrm :=
  if s.camByCtx c then (s.cam c).raw.find? (fun f => f.pipe = none && f.stripes < s.stripeCount c && !s.rawOld f) else none

/-- The camera served next: the earliest FE, ties to the lower camera (R397). -/
def State.served (s : State) : Option (Nat × CamFrm) :=
  (List.range 8).foldl (fun best c =>
    match s.servable c with
    | none => best
    | some f => match best with
      | none => some (c, f)
      | some b => if f.feAt < b.2.feAt then some (c, f) else best) none

/-- Change the raw frame of camera c with a number. -/
def State.updRaw (s : State) (c n : Nat) (g : CamFrm → CamFrm) : State :=
  let x := s.cam c
  s.setCam c { x with raw := x.raw.map (fun f => if f.fnum = n then g f else f) }

/-- Pipeline p sets down a striped frame at a stripe boundary, if it holds one (R397). -/
def State.setDown (s : State) (p : Nat) : State :=
  match (s.pipe p).cam with
  | none => s
  | some c =>
    if (s.cam c).raw.any (fun f => f.pipe = some p && f.stripes < s.stripeCount c) then
      let x := s.cam c
      (s.setCam c { x with raw := x.raw.map (fun f => if f.pipe = some p then { f with pipe := none } else f) }).setPipe p
        { s.pipe p with cam := none }
    else s

/-- Pipeline p takes the frame served next: its first stripe reads a block to apply and fixes PIPETAG (R397, R398). -/
def State.takeUp (s : State) (p : Fin 4) : State :=
  match s.served with
  | none => s
  | some (c, f) =>
    let k := s.camCtx c
    let ready := s.now + (if (s.pipe p).ctx = some k then 0 else 4000)
    let s := if f.stripes = 0 then s.ctxFrame k p else s
    let tag := if f.stripes = 0 then (s.ctx k).tag else f.ptag
    let s := s.updRaw c f.fnum (fun f => { f with stripes := f.stripes + 1, pipe := some p.val, ptag := tag })
    (s.setPipe p ⟨some c, some k, ready⟩).setFld (F.IMG_PIPESTAT_CTX p) k

/-- CONTEXT_DISPATCH (R397): a pipeline not bound in streaming mode, free or at a stripe boundary, takes a raw frame. -/
def execContextDispatch (p : Fin 4) (s : State) : Out :=
  if s.flag F.IMG_CTL_EN && (s.streamCam p).isNone then
    let s := s.setDown p
    if (s.pipe p).cam = none then .next (s.takeUp p) else .next s
  else .next s

/-- RAW_FRAME_AGE_DROP (R397): the oldest raw frame of a camera not started within MAXAGE. -/
def execRawFrameAgeDrop (c : Fin 8) (s : State) : Out := .next (s.ageDrop c)

/-! ### Statistics (R399) -/

/-- The colour of a raw sample: 0 R, 1 G, 2 B, by the Bayer order (Table 17-7). -/
def bayerColour (order x y : Nat) : Nat :=
  let k := x % 2 + 2 * (y % 2)
  match order with
  | 0 => [0, 1, 1, 2].getD k 0
  | 1 => [1, 0, 2, 1].getD k 0
  | 2 => [1, 2, 0, 1].getD k 0
  | _ => [2, 1, 1, 0].getD k 0

/-- Y = (77R + 150G + 29B) ÷ 256. -/
def lumaOf (p : Rgb12) : Nat := (77 * p.1.toNat + 150 * p.2.1.toNat + 29 * p.2.2.toNat) / 256

/-- A histogram of 256 bins of 32 bits over the top 8 of 12 bits. -/
def histogram (l : List Nat) : List Byte :=
  (List.range 256).flatMap (fun b => leBytes 4 (l.filter (fun v => v / 16 = b)).length)

/-- The zone a coordinate lies in: equal zones, the remainder to the last. -/
def zoneOf (x w z : Nat) : Nat := if w / z = 0 then z - 1 else min (x / (w / z)) (z - 1)

/-- The statistics block: R, G, B and Y histograms, then 16 bytes per zone, from raw samples row by row and from the RGB
pixels that give Y. -/
def statBlock (order w h zx zy : Nat) (raw : List (BitVec 12)) (px : List Rgb12) : List Byte :=
  let samp := raw.zipIdx.map (fun e => (e.1.toNat, e.2 % w, e.2 / w, bayerColour order (e.2 % w) (e.2 / w)))
  let of (k : Nat) : List Nat := (samp.filter (fun e => e.2.2.2 = k)).map (·.1)
  let sum (l : List Nat) : Nat := l.foldl (· + ·) 0
  histogram (of 0) ++ histogram (of 1) ++ histogram (of 2) ++ histogram (px.map lumaOf) ++
    (if zx = 0 || zy = 0 || 32 < zx || 32 < zy then [] else
      (List.range (zx * zy)).flatMap (fun i =>
        let zone := samp.filter (fun e => zoneOf e.2.1 w zx = i % zx && zoneOf e.2.2.1 h zy = i / zx)
        let col (k : Nat) : Nat := sum ((zone.filter (fun e => e.2.2.2 = k)).map (·.1))
        leBytes 4 (col 0) ++ leBytes 4 (col 1) ++ leBytes 4 (col 2) ++
          leBytes 4 (zone.filter (fun e => 4080 ≤ e.1)).length))

/-! ### Vision and features (R401, R402) -/

/-- ExG = 2G − R − B. -/
def exg (p : Rgb12) : Int := 2 * (p.2.1.toNat : Int) - p.1.toNat - p.2.2.toNat

/-- The vision planes of white-balanced pixels: Y, then the vegetation plane, in 8 or 16 bits. -/
def visionY (wide : Bool) (px : List Rgb12) : List Byte :=
  px.flatMap (fun p => if wide then leBytes 2 (lumaOf p) else leBytes 1 (lumaOf p / 16))
def visionX (wide : Bool) (px : List Rgb12) : List Byte :=
  px.flatMap (fun p => if wide then leBytes 2 (toBits 16 (exg p)) else leBytes 1 (toBits 8 (clampI (-128) 127 (exg p / 32))))

/-- The runs of columns that hold, as (first, end). -/
def runsOf : List Bool → Nat → Option Nat → List (Nat × Nat)
  | [], x, some a => [(a, x)]
  | [], _, none => []
  | true :: l, x, none => runsOf l (x + 1) (some x)
  | true :: l, x, some a => runsOf l (x + 1) (some a)
  | false :: l, x, some a => (a, x) :: runsOf l (x + 1) none
  | false :: l, x, none => runsOf l (x + 1) none

/-- A feature: u and v in 1/16 pixel, kind, band, run width. -/
abbrev Feat := Nat × Nat × Nat × Nat × Nat

/-- The features of one band: a ROW for each run of admitted width, up to 16, an EDGE at the left of the first run and the
right of the last. -/
def bandFeats (px : List Rgb12) (w h nb b wmin wmax : Nat) (eth : Int) : List Feat :=
  let r0 := b * (h / nb)
  let r1 := (b + 1) * (h / nb)
  let rows := (List.range (r1 - r0)).map (fun i => (px.drop ((r0 + i) * w)).take w)
  let sum (x : Nat) : Int := rows.foldl (fun a r => a + exg (r.getD x (0, 0, 0))) 0
  let ovr := (List.range w).map (fun x => decide (eth * ((r1 - r0 : Nat) : Int) < sum x))
  let runs := (runsOf ovr 0 none).filter (fun e => wmin ≤ e.2 - e.1 && e.2 - e.1 ≤ wmax)
  let v := 8 * (r0 + r1)
  let rowsF := (runs.take 16).map (fun e => (8 * (e.1 + e.2), v, 0, b, e.2 - e.1))
  match runs.head?, runs.getLast? with
  | some a, some z => rowsF ++ [(16 * a.1, v, 1, b, a.2 - a.1), (16 * z.2, v, 1, b, z.2 - z.1)]
  | _, _ => []

/-- All features of a frame (R402). -/
def features (px : List Rgb12) (w h nb wmin wmax : Nat) (eth : Int) : List Feat :=
  if nb = 0 || 32 < nb then [] else (List.range nb).flatMap (fun b => bandFeats px w h nb b wmin wmax eth)

/-- A coordinate as its entry gives it: one beyond 16 signed bits is a free value (log entry 58). -/
def State.coord16 (s : State) (x : Nat) : Int × State :=
  if x < 32768 then ((x : Int), s) else ((sext 16 (s.drawNat 16).1), (s.drawNat 16).2)

/-- The entries of features, and as Weave takes them. -/
def State.featEntries (s : State) : List Feat → (List Byte × List (Int × Int × Nat)) × State
  | [] => (([], []), s)
  | (u, v, k, b, n) :: l =>
    match s.coord16 u with
    | (u, s) =>
      match s.coord16 v with
      | (v, s) =>
        match State.featEntries s l with
        | ((bs, fs), s) =>
          ((leBytes 2 (toBits 16 u) ++ leBytes 2 (toBits 16 v) ++ leBytes 1 k ++ leBytes 1 b ++ leBytes 2 n ++ bs,
            (u, v, k) :: fs), s)

/-! ### Outputs (R400) -/

/-- The next multiple of 4 KiB. -/
def page4k (n : Nat) : Nat := (n + 4095) / 4096 * 4096

/-- The offsets of parts of given lengths after the frame record, each on a 4 KiB boundary, 0 for an absent part, and the
length of the set. -/
def layOut : List (Option Nat) → Nat → List Nat × Nat
  | [], used => ([], used)
  | none :: l, used =>
    let (os, u) := layOut l used
    (0 :: os, u)
  | some n :: l, used =>
    let o := page4k used
    let (os, u) := layOut l (o + n)
    (o :: os, u)

/-- The frame record (Table 17-4). -/
def State.frameRecord (s : State) (c : Nat) (f : CamFrm) (offs : List Nat) (nfeat : Nat) : List Byte :=
  leBytes 4 f.fnum ++ leBytes 1 c ++ leBytes 1 (s.camCtx c) ++ leBytes 2 f.flags ++
    leBytes 4 (s.frameInstant c f % 2 ^ 32) ++ leBytes 4 (f.fsAt % 2 ^ 32) ++
    leBytes 2 f.expo.tag ++ leBytes 2 f.gain.tag ++ leBytes 2 f.ptag ++ leBytes 2 f.lines ++
    leBytes 2 f.expo.exp ++ leBytes 2 f.gain.again ++ leBytes 2 f.gain.dgain ++ leBytes 2 0 ++
    offs.flatMap (leBytes 4) ++ leBytes 4 nfeat ++ leBytes 8 0

/-- Take the next buffer set of ring n with room for `need` bytes: NOPs and empty descriptors complete on the way. None:
no descriptor; a set too small completes BUF_SMALL. -/
def State.takeSet (s : State) (n need : Nat) : Nat → Option (Option Desc) × State
  | 0 => (none, s)
  | fuel + 1 =>
    match s.nextDesc n with
    | none => (none, s)
    | some d =>
      let s := s.startDesc n d
      if d.op = 0 then State.takeSet (s.complete n d.didx stOK 0) n need fuel
      else if d.len = 0 then State.takeSet (s.complete n d.didx stEMPTY 0) n need fuel
      else if d.len < need then (some none, s.complete n d.didx 0x80 0)
      else (some (some d), s)

/-- Write parts of a set by a pipeline: whether all were permitted (R57). -/
def State.writeParts (s : State) (acc : Acc) : List (Nat × List Byte) → Bool × State
  | [] => (true, s)
  | (a, bs) :: l =>
    match s.unitWrite acc a bs with
    | (ok, s) =>
      match State.writeParts s acc l with
      | (ok', s) => (ok && ok', s)

/-- A coding output goes to its stream: the stream's frame waits to be coded (R404). -/
def State.encFeed (s : State) (k inst etag ptag : Nat) : State :=
  if s.flag (F.IMG_ENCCFG_EN k) && s.fld (F.IMG_ENCCFG_GOP k) ≠ 0 then
    let e := s.enc k
    s.setEnc k { e with queue := e.queue ++ [(s.now, inst, etag, ptag)], seen := (s.now :: e.seen).take 2 }
  else s

/-- Write the outputs of a frame of camera c by pipeline p into a buffer set, or drop it (R400-R403). `raw` holds the samples
after lens shading, `px` the pixels Y is formed from there, `wb` the white-balanced linear pixels, each row by row. -/
def State.frameOut (s : State) (p : Fin 4) (c : Nat) (f : CamFrm) (raw : List (BitVec 12)) (px wb : List Rgb12) : State :=
  let x := s.camCtx c
  let out := s.fld (F.IMG_CTXCFG_OUT x)
  let w := s.camW c
  let h := s.camH c
  let en (k : Nat) : Bool := out / 2 ^ k % 2 = 1
  let wide := s.flag (F.IMG_CTXCFG_VFMT x)
  let bad := f.has 5
  let inst := s.frameInstant c f
  let wb := wb.take (w * f.lines)
  let fts := if en 4 && !bad then features wb w h (s.fld (F.IMG_CTXFEAT_NB x)) (s.fld (F.IMG_CTXFEAT_WMIN x))
      (s.fld (F.IMG_CTXFEAT_WMAX x)) (s.fldInt (F.IMG_CTXETH_ETHR x)) else []
  match s.featEntries fts with
  | ((fbs, fs), s) =>
    let s := if en 4 && !bad then s.camFeatures c inst fs else s
    if bad && s.flag (F.IMG_CTXCFG_SHORTPOL x) then s.imgDrop
    else
      let dn := s.fld (F.IMG_CTXDISP_DW x) * s.fld (F.IMG_CTXDISP_DH x) * (if s.flag (F.IMG_CTXCFG_DFMT x) then 2 else 3)
      let cn := s.fld (F.IMG_CTXCODE_CW x) * s.fld (F.IMG_CTXCODE_CH x) * 3 / 2
      let vb := if wide then 2 else 1
      let stats := statBlock (s.fld (F.IMG_CAMCFG_BAYER c)) w h (s.fld (F.IMG_CTXZONE_ZX x)) (s.fld (F.IMG_CTXZONE_ZY x))
        (raw.take (w * f.lines)) (px.take (w * f.lines))
      let part (b : Bool) (n : Nat) : Option Nat := if b then some n else none
      let cod := s.coding x
      match layOut [part (en 0) dn, part cod cn, part (en 2) (2 * vb * (w * h)), part (en 3) stats.length, part (en 4) fbs.length] 64 with
      | (offs, need) =>
        match s.ringOf (0x50 + p) with
        | none => s.imgDrop
        | some n =>
          match s.takeSet n need (s.ringSize n + 1) with
          | (none, s) => s.imgDrop
          | (some none, s) => s.imgDrop
          | (some (some d), s) =>
            let dim := s.drawBytes (if en 0 then dn else 0)
            let cim := dim.2.drawBytes (if cod then cn else 0)
            let s := cim.2
            let o (k : Nat) : Nat := d.addr + offs.getD k 0
            let parts := [(d.addr, s.frameRecord c f offs fts.length)] ++ (if en 0 then [(o 0, dim.1)] else []) ++
              (if cod then [(o 1, cim.1)] else []) ++
              (if en 2 then [(o 2, visionY wide wb), (o 2 + vb * (w * h), visionX wide wb)] else []) ++
              (if en 3 then [(o 3, stats)] else []) ++ (if en 4 then [(o 4, fbs)] else [])
            match s.writeParts (engine ⟨23 + p.val, by omega⟩) parts with
            | (ok, s) =>
              let s := s.complete n d.didx (if ok then stOK else stACCESS) need
              if cod then s.encFeed (s.fld (F.IMG_CTXCFG_STREAM x)) inst f.expo.tag f.ptag else s

/-- The frame pipeline p finishes: in streaming mode the oldest whole frame of its camera, else the one it holds with every
stripe started. -/
def State.finishing (s : State) (p : Nat) : Option (Nat × CamFrm) :=
  match s.streamCam p with
  | some c => ((s.cam c).raw.head?).map (fun f => (c, f))
  | none =>
    match (s.pipe p).cam with
    | none => none
    | some c =>
      if (s.pipe p).readyAt ≤ s.now then
        ((s.cam c).raw.find? (fun f => f.pipe = some p && s.stripeCount c ≤ f.stripes)).map (fun f => (c, f))
      else none

/-- FRAME_PROCESSED (R399-R403): a pipeline finishes a frame, which leaves the raw ring; its LOAD is a free value. -/
def execFrameProcessed (p : Fin 4) (raw : List (BitVec 12)) (px wb : List Rgb12) (s : State) : Out :=
  match s.finishing p with
  | none => .next s
  | some (c, f) =>
    let s := s.setCam c { s.cam c with raw := (s.cam c).raw.filter (fun g => g.fnum ≠ f.fnum) }
    let s := s.setPipe p { s.pipe p with cam := none }
    let l := s.drawNat 7
    let s := l.2.setFld (F.IMG_PIPESTAT_LOAD p) (min l.1 100)
    .next (s.frameOut p c f raw px wb)

/-! ### The encoder (R404, R405) -/

/-- The 16-byte header of an access unit, or of a part of one (R405). -/
def auHeader (a : Au) (n : Nat) : List Byte :=
  leBytes 4 (a.inst % 2 ^ 32) ++ leBytes 2 a.etag ++ leBytes 2 a.ptag ++ leBytes 4 n ++
    leBytes 1 (bitIf a.idr 0 + bitIf a.cont 1) ++ leBytes 3 0

/-- Write an access unit into the buffers of ring n, each part under a header; what finds no buffer waits (R405). -/
def State.auWrite (s : State) (n : Nat) (a : Au) : Nat → Option Au × State
  | 0 => (some a, s)
  | fuel + 1 =>
    match (s.roomFor n 17).outBuf n with
    | none => (some a, s.roomFor n 17)
    | some b =>
      let s := s.roomFor n 17
      let k := min (b.len - b.used - 16) a.rest.length
      match s.unitWrite (engine 27) (b.addr + b.used) (auHeader a k ++ a.rest.take k) with
      | (false, s) => (none, (s.complete n b.didx stACCESS b.used).setOutBuf n none)
      | (true, s) =>
        let s := s.setOutBuf n (some { b with used := b.used + 16 + k })
        if k = a.rest.length then (none, s)
        else State.auWrite (s.closeBuf n) n { a with rest := a.rest.drop k, cont := true } fuel

/-- Write what it can of an access unit of stream k. -/
def State.auPut (s : State) (k : Nat) (a : Au) : State :=
  match s.ringOf (0x54 + k) with
  | none => s.setEnc k { s.enc k with part := some a }
  | some n =>
    match s.auWrite n a (s.ringSize n + 2) with
    | (r, s) => s.setEnc k { s.enc k with part := r }

/-- ENCODE_FRAME (R404, R405): stream k goes on with an access unit that waits for a buffer, or takes its oldest frame: one
not started within a frame period of its stream is skipped, else it is coded, `size` bytes long; IDR at the start, when
forced, and every GOP frames. -/
def execEncodeFrame (k : Fin 4) (size : BitVec 24) (s : State) : Out :=
  let e := s.enc k
  match e.part with
  | some a => .next (s.auPut k a)
  | none =>
    match e.queue with
    | [] => .next s
    | (t, inst, etag, ptag) :: rest =>
      let per := match e.seen with
        | a :: b :: _ => some (a - b)
        | _ => none
      if per.any (fun d => decide (t + d < s.now)) then
        .next ((s.setEnc k { e with queue := rest }).bump (F.IMG_ENCSKIP_COUNT k))
      else
        let idr := e.idr || decide (s.fld (F.IMG_ENCCFG_GOP k) ≤ e.since)
        match s.drawBytes size.toNat with
        | (bs, s) =>
          let s := s.setEnc k { e with queue := rest, idr := false, since := if idr then 1 else e.since + 1 }
          .next (s.auPut k ⟨inst, etag, ptag, idr, bs, false⟩)

/-- A write of IMG_ENCIDRk (R405). -/
def State.writeIdr (s : State) (k : Nat) (w : Word) : State :=
  if (F.IMG_ENCIDR_IDR k).get w = 1 then s.setEnc k { s.enc k with idr := true } else s

/-- FORCE_IDR (R405). -/
def execForceIdr (acc : Acc) (k : Fin 4) (value : Word) (s : State) : Out :=
  .next (s.guardWrite acc (R.IMG_ENCIDR k) (fun s => s.writeIdr k value))

/-- A write of IMG_ENCCFGk: EN going to 1 starts the stream with an IDR; with GOP 0 it does not start (Table 17-6). -/
def State.writeEnc (s : State) (k : Nat) (w : Word) : State :=
  let was := s.flag (F.IMG_ENCCFG_EN k) && s.fld (F.IMG_ENCCFG_GOP k) ≠ 0
  let s := s.writePlain (R.IMG_ENCCFG k) w
  let on := s.flag (F.IMG_ENCCFG_EN k)
  if on && s.fld (F.IMG_ENCCFG_GOP k) = 0 then s.raiseFlag F.IMG_STAT_CONFIG 204
  else if on && !was then s.setEnc k Enc.init
  else if !on then s.setEnc k { s.enc k with queue := [] } else s

/-! ### Register writes -/

/-- A write of IMG_CTXCFGx: the coding output reads 0 without an encoder (R408); a stream that two contexts name sets
CONFIG (R404). -/
def State.writeCtxCfg (s : State) (x : Nat) (w : Word) : State :=
  let s := s.writePlain (R.IMG_CTXCFG x) w
  let o := s.fld (F.IMG_CTXCFG_OUT x)
  let s := if s.part.hasENC then s else s.setFld (F.IMG_CTXCFG_OUT x) (o - 2 * (o / 2 % 2))
  if (List.range 16).any (fun y => s.fld (F.IMG_CTXCFG_OUT y) / 2 % 2 = 1 && !s.coding y) then s.raiseFlag F.IMG_STAT_CONFIG 204 else s

/-- A write of a register of the image unit. -/
def State.writeImg (s : State) (a : Nat) (w : Word) : State :=
  let o := a - 0x40600000
  if o = 0 then s.imgConfig (s.writePlain a w) none
  else if 0x1000 ≤ o ∧ o < 0x1800 then
    let c := (o - 0x1000) / 0x100
    let r := (o - 0x1000) % 0x100
    if r = 0 ∨ r = 4 ∨ r = 0x44 then s.imgConfig (s.writePlain a w) (some c)
    else if r = 0x2C then s.writePset c w
    else if r = 0x38 then s.writeCci c w
    else s.writePlain a w
  else if 0x2000 ≤ o ∧ o < 0x3000 ∧ o % 0x100 = 0 then s.writeCtxCfg ((o - 0x2000) / 0x100) w
  else if 0x2000 ≤ o ∧ o < 0x3000 ∧ o % 0x100 = 0x1C then s.writeApply ((o - 0x2000) / 0x100) w
  else if 0x80000 ≤ o ∧ o < 0x80100 ∧ o % 0x40 = 0 then s.writeEnc ((o - 0x80000) / 0x40) w
  else if 0x80000 ≤ o ∧ o < 0x80100 ∧ o % 0x40 = 0xC then s.writeIdr ((o - 0x80000) / 0x40) w
  else s.writePlain a w

end Sys2Proof.Machine
end

