-- ==== Sys2Proof/Machine/Display.lean ====
section
/-! DEFINITION. Panel outputs and panel power (18_display.md). -/

namespace Sys2Proof.Machine

/-! ### Records -/

/-- Panel p beside its registers. -/
def State.panel (s : State) (p : Nat) : Panel := SMap.get (fun _ => Panel.init) s.dsp.panels p

/-- Replace panel p. -/
def State.setPanel (s : State) (p : Nat) (x : Panel) : State :=
  { s with dsp := { s.dsp with panels := SMap.set (fun _ => Panel.init) s.dsp.panels p x } }

/-- The power state of panel p: 0 OFF, 1 RAILS, 2 LINK, 3 BLACK, 4 ON, 5 DOWN, 6 FAULT (Table 18-2). -/
def State.panelState (s : State) (p : Nat) : Nat := s.fld (F.DSP_PSTAT_STATE p)

/-- Enter a power state. -/
def State.panelTo (s : State) (p st : Nat) : State := s.setFld (F.DSP_PSTAT_STATE p) st

/-- Set a panel's flag and the flag of DSP_STAT (R420). -/
def State.panelFlag (s : State) (ch unit : Fld) : State := s.raiseBoth ch unit 205

/-- Whether the backlight of panel p is enabled: in ON only, with DSP_BLp.EN (R414, R418). -/
def State.backlight (s : State) (p : Nat) : Bool := s.panelState p = 4 && s.flag (F.DSP_BL_EN p)

/-- The backlight PWM duty of panel p in 0.1 %: a change applies at the next PWM period (R418). -/
def State.blDuty (s : State) (p : Nat) : Nat :=
  let x := s.panel p
  if !s.backlight p then 0 else min 1000 (if x.dutyAt ≤ s.now then s.fld (F.DSP_BL_DUTY p) else x.duty)

/-- A latched configuration field of panel p: word i of the latched list, bits hi..lo. -/
def Panel.cf (x : Panel) (i hi lo : Nat) : Nat := (⟨0, hi, lo⟩ : Fld).get (x.cfg.getD i 0)

/-- Sequence delay Tk of panel p in ns, k 1 to 4 (R413). -/
def Panel.delay (x : Panel) (k : Nat) : Nat := 1000000 * x.cf 7 (8 * k - 1) (8 * k - 8)

/-- The frame period of panel p in ns: HTOT × VTOT ÷ PCLK (R410). -/
def Panel.period (x : Panel) : Nat := max 1 (x.cf 0 31 16 * x.cf 1 31 16 * 1000000 / max 1 (x.cf 4 17 0))

/-! ### Power-up (R410, R413) -/

/-- Link rate in kbit/s, lanes, bits per pixel of panel p. -/
def State.linkRate (s : State) (p : Nat) : Nat :=
  match s.fld (F.DSP_PCFG_RATE p) with
  | 0 => 1620000 | 1 => 2700000 | _ => 5400000
def State.lanes (s : State) (p : Nat) : Nat :=
  match s.fld (F.DSP_PCFG_LANES p) with
  | 0 => 1 | 1 => 2 | _ => 4

/-- Whether a power-up of panel p passes (R410, Table 18-5). -/
def State.panelOk (s : State) (p : Nat) : Bool :=
  let ht := s.fld (F.DSP_HTIM_HTOT p)
  let ha := s.fld (F.DSP_HTIM_HACT p)
  let vt := s.fld (F.DSP_VTIM_VTOT p)
  let va := s.fld (F.DSP_VTIM_VACT p)
  let pclk := s.fld (F.DSP_PCLK_PCLK p)
  let bpp := if s.flag (F.DSP_PCFG_BPC p) then 24 else 18
  let avdd := s.fld (F.DSP_RAIL_AVDD p)
  ha ≤ 1920 && va ≤ 1200 && decide (ha + s.fld (F.DSP_SYNC_HSW p) + s.fld (F.DSP_PORCH_HBP p) < ht) &&
    decide (va + s.fld (F.DSP_SYNC_VSW p) + s.fld (F.DSP_PORCH_VBP p) < vt) && within 25000 165000 pclk &&
    24 * (ht * vt) ≤ 1000 * pclk && 1000 * pclk ≤ 61 * (ht * vt) &&
    100 * (pclk * bpp) ≤ 80 * (s.lanes p * s.linkRate p) && s.fld (F.DSP_PCFG_RATE p) ≠ 3 && s.fld (F.DSP_PCFG_LANES p) ≠ 3 &&
    s.fld (F.DSP_SEQT1_NBLACK p) ≠ 0 && within 80 180 avdd && within 75 175 (s.fld (F.DSP_RAIL_VGH p)) &&
    within 50 150 (s.fld (F.DSP_RAIL1_VGL p)) &&
    (List.range (s.fld (F.DSP_PCFG_NB p) + 1)).all (fun b =>
      let v := s.fld (F.DSP_VCOM_VCOM p b)
      5 ≤ v && 10 * v + 50 ≤ 100 * avdd)

/-- CONFIG of panel p (R410, R418). -/
def State.panelConfig (s : State) (p : Nat) : State := s.panelFlag (F.DSP_PSTAT_CONFIG p) F.DSP_STAT_CONFIG

/-- Start the power sequence of panel p, or refuse it: CONFIG and event DSP_CONFIG with the panel (R410). AVDD goes on; the
band is 0 and its VCOM latched (R415, R416). -/
def State.panelUp (s : State) (p : Nat) : State :=
  if s.panelOk p then
    let x := s.panel p
    let cfg := [R.DSP_HTIM p, R.DSP_VTIM p, R.DSP_SYNC p, R.DSP_PORCH p, R.DSP_PCLK p, R.DSP_RAIL p, R.DSP_RAIL1 p,
      R.DSP_SEQT p, R.DSP_SEQT1 p].map s.reg
    let s := s.setPanel p { Panel.init with
      cfg := cfg, rails := 1, swAt := s.now, cur := x.cur, held := x.held, done := x.done
      vcom := s.fld (F.DSP_VCOM_VCOM p 0) }
    (s.setFld (F.DSP_PSTAT_BAND p) 0).panelTo p 1
  else (s.panelConfig p).event 0x0F03 [w32 p]

/-- Every DSP register of panel p, and the unit's own once no panel waits, at its reset value (R419). -/
def State.panelClear (s : State) (p : Nat) : State :=
  let s := s.setPanel p Panel.init
  let others := (List.range 2).any (fun q => (s.panel q).rst)
  s.clearRegs (fun a _ => (0x40701000 + 0x1000 * p ≤ a && a < 0x40702000 + 0x1000 * p) || (!others && 0x40700000 ≤ a && a < 0x40701000))

/-- DOWN of panel p is over: OFF; a reset that waited clears the registers; a power-up asked for in DOWN starts (R414). -/
def State.panelOff (s : State) (p : Nat) : State :=
  let x := s.panel p
  if x.rst then s.panelClear p
  else
    let s := (s.setPanel p { x with again := false }).panelTo p 0
    if x.again && s.flag F.DSP_CTL_EN then s.panelUp p else s

/-! ### Power-down (R414, Table 18-2) -/

/-- The next rail of panel p goes off: the last switched on. -/
def State.railOff (s : State) (p : Nat) : State :=
  let x := s.panel p
  s.setPanel p { x with rails := x.rails - 1, swAt := s.now, settled := none }

/-- Panel p enters DOWN at the step that reverses the last step reached: a black frame after BLACK or ON, else the rails,
of which at least AVDD is on. -/
def State.panelDown (s : State) (p : Nat) : State :=
  let st := s.panelState p
  let x := s.panel p
  let s := s.setPanel p { x with cur := none, held := x.held ++ x.cur.toList, out := [] }
  if st = 3 ∨ st = 4 then (s.setPanel p { s.panel p with black := some s.now }).panelTo p 5
  else (s.railOff p).panelTo p 5

/-- A step of panel p in RAILS: the rail switched last is up, or its delay is over (R413). -/
def State.stepRails (s : State) (p : Nat) (rail : Bool) : State :=
  let x := s.panel p
  match x.settled with
  | none => if rail && s.now ≤ x.swAt + 20000000 then s.setPanel p { x with settled := some s.now } else s
  | some t =>
    if t + x.delay x.rails ≤ s.now then
      if x.rails < 4 then s.setPanel p { x with rails := x.rails + 1, swAt := s.now, settled := none } else s.panelTo p 2
    else s

/-- A step of panel p in DOWN: the black frame is over, the rail switched off last is down, or its delay is over. -/
def State.stepDown (s : State) (p : Nat) (rail : Bool) : State :=
  let x := s.panel p
  match x.black with
  | some t => if t + x.period ≤ s.now then (s.setPanel p { x with black := none }).railOff p else s
  | none =>
    match x.settled with
    | none => if rail || x.swAt + 50000000 ≤ s.now then s.setPanel p { x with settled := some s.now } else s
    | some t =>
      if t + x.delay (x.rails + 1) ≤ s.now then (if x.rails = 0 then s.panelOff p else s.railOff p) else s

/-- PANEL_STEP (R413, R414): `rail` says that the rail switched last has now reached its level. In BLACK: the last black
frame ended, then TBL. -/
def execPanelStep (p : Fin 2) (rail : Bool) (s : State) : Out :=
  let x := s.panel p
  match s.panelState p with
  | 1 => .next (s.stepRails p rail)
  | 3 =>
    if x.t0 + x.cf 8 19 16 * x.period + 1000000 * x.cf 8 7 0 ≤ s.now then
      .next ((s.setPanel p { x with k := (s.now - x.t0) / x.period, first := true, onAt := s.now, dutyAt := s.now }).panelTo p 4)
    else .next s
  | 5 => .next (s.stepDown p rail)
  | _ => .next s

/-! ### The power request (R413, R414) -/

/-- A write of DSP_PCFGp: in DOWN and in FAULT the request is kept; elsewhere a change of PWR starts or reverses the
sequence (R414). -/
def State.writePcfg (s : State) (p : Nat) (w : Word) : State :=
  let was := s.flag (F.DSP_PCFG_PWR p)
  let s := s.writePlain (R.DSP_PCFG p) w
  let on := s.flag (F.DSP_PCFG_PWR p)
  let st := s.panelState p
  if st = 6 then s.setPanel p { s.panel p with noted := true }
  else if st = 5 then s.setPanel p { s.panel p with again := on }
  else if on = was ∨ !s.flag F.DSP_CTL_EN then s
  else if on then (if st = 0 then s.panelUp p else s)
  else if st = 0 then s
  else s.panelDown p

/-- PANEL_POWER_UP (R410): a write of DSP_PCFGp with PWR 1. -/
def execPanelPowerUp (acc : Acc) (p : Fin 2) (value : Word) (s : State) : Out :=
  .next (s.guardWrite acc (R.DSP_PCFG p) (fun s => s.writePcfg p ((F.DSP_PCFG_PWR p).put value 1)))

/-- PANEL_POWER_DOWN (R414): a write of DSP_PCFGp with PWR 0. -/
def execPanelPowerDown (acc : Acc) (p : Fin 2) (value : Word) (s : State) : Out :=
  .next (s.guardWrite acc (R.DSP_PCFG p) (fun s => s.writePcfg p ((F.DSP_PCFG_PWR p).put value 0)))

/-- A write of DSP_CTL: panels go DOWN when EN clears, and a standing request starts when it sets (log entry 59). -/
def State.writeDspCtl (s : State) (w : Word) : State :=
  let was := s.flag F.DSP_CTL_EN
  let s := s.writePlain R.DSP_CTL w
  let on := s.flag F.DSP_CTL_EN
  if on = was then s
  else (List.range 2).foldl (fun s p =>
    let st := s.panelState p
    if on && st = 0 && s.flag (F.DSP_PCFG_PWR p) then s.panelUp p
    else if !on && 1 ≤ st && st ≤ 4 then s.panelDown p else s) s

/-! ### Link and rails (R413, R414) -/

/-- LINK_TRAINED (R413): BLACK begins. -/
def execLinkTrained (p : Fin 2) (s : State) : Out :=
  if s.panelState p = 2 then
    let s := s.setPanel p { s.panel p with t0 := s.now, k := 0 }
    .next ((s.setFld (F.DSP_PSTAT_HPD p) 1).panelTo p 3)
  else .next s

/-- DSP_LINK (R413, R414): the third training has failed. -/
def execDspLink (p : Fin 2) (s : State) : Out :=
  if s.panelState p = 2 then
    let s := (s.panelFlag (F.DSP_PSTAT_LINK_FAIL p) F.DSP_STAT_LINK_FAIL).event 0x0F02 []
    .next (s.panelDown p)
  else .next s

/-- HPD_LOSS (R414): HPD low for 2 ms in ON: backlight off, the link trains again. -/
def execHpdLoss (p : Fin 2) (s : State) : Out :=
  if s.panelState p = 4 then
    let x := s.panel p
    let s := s.setPanel p { x with cur := none, held := x.held ++ x.cur.toList, out := [] }
    .next ((s.setFld (F.DSP_PSTAT_HPD p) 0).panelTo p 2)
  else .next s

/-- DSP_RAIL (R413): a rail that is on is not up within 20 ms, or, once up, has been below 80 % for `us`: all off, FAULT. -/
def execDspRail (p : Fin 2) (rail : Fin 4) (us : BitVec 16) (s : State) : Out :=
  let x := s.panel p
  let st := s.panelState p
  let late := st = 1 && rail.val + 1 = x.rails && x.settled = none
  if st = 0 ∨ st = 6 ∨ x.rails ≤ rail.val then .next s
  else if (if late then x.swAt + 20000000 ≤ s.now else 100 ≤ us.toNat) then
    let s := s.setPanel p { x with rails := 0, black := none, again := false, noted := false, cur := none,
                                   held := x.held ++ x.cur.toList, out := [] }
    let s := (s.setFld (F.DSP_PSTAT_FCAUSE p) (rail + 1)).panelTo p 6
    let s := (s.panelFlag (F.DSP_PSTAT_RAIL p) F.DSP_STAT_RAIL).event 0x0F01 []
    if x.rst then .next (s.panelClear p) else .next s
  else .next s

/-- A write of DSP_PSTATp: 1 to RAIL releases FAULT to OFF; a write of PWR recorded in FAULT is acted on (R413, R414). -/
def State.writePstat (s : State) (p : Nat) (w : Word) : State :=
  let s := s.writePlain (R.DSP_PSTAT p) w
  if s.panelState p = 6 ∧ (F.DSP_PSTAT_RAIL p).get w = 1 then
    let noted := (s.panel p).noted
    let s := ((s.setPanel p { s.panel p with noted := false }).setFld (F.DSP_PSTAT_FCAUSE p) 0).panelTo p 0
    if noted && s.flag (F.DSP_PCFG_PWR p) && s.flag F.DSP_CTL_EN then s.panelUp p else s
  else s

/-- RAIL_FAULT_RELEASE (R413): a write of DSP_PSTATp with RAIL 1. -/
def execRailFaultRelease (acc : Acc) (p : Fin 2) (value : Word) (s : State) : Out :=
  .next (s.guardWrite acc (R.DSP_PSTAT p) (fun s => s.writePstat p ((F.DSP_PSTAT_RAIL p).put value 1)))

/-! ### Temperature bands (R415) -/

/-- Boundary TBi of panel p in 0.1 °C, i 1 to 3. -/
def State.panelTb (s : State) (p i : Nat) : Int := 10 * sext 8 ((s.reg (R.DSP_TB p)).toNat / 2 ^ (8 * (i - 1)) % 256)

/-- One application of the rise and fall rules at a temperature. -/
def State.panelBandStep (s : State) (p : Nat) (t : Int) (b : Nat) : Nat :=
  if b < s.fld (F.DSP_PCFG_NB p) ∧ s.panelTb p (b + 1) ≤ t then b + 1
  else if 0 < b ∧ t < s.panelTb p b - 30 then b - 1 else b

/-- The band of panel p from a band: the rules applied until neither applies; no value leaves it. -/
def State.bandOf (s : State) (p b : Nat) : Nat :=
  let t := s.fld (F.DSP_TEMP_TEMP p)
  if t = 0x8000 then b else
    let t := sext 16 t
    s.panelBandStep p t (s.panelBandStep p t (s.panelBandStep p t b))

/-! ### Overdrive (R417) -/

/-- Byte k of the overdrive table of band b of panel p. -/
def State.odByte (s : State) (p b k : Nat) : Nat := (s.reg (R.DSP_OD p b (k / 4))).toNat / 256 ^ (k % 4) % 256

/-- Overdrive of a component from q to n: bilinear between the grid levels 0, 16 … 240, 255, halves up. -/
def overdrive (o : Nat → Nat → Nat) (q n : Nat) : Nat :=
  let i := min (q / 16) 15
  let j := min (n / 16) 15
  let li := if i = 15 then 15 else 16
  let lj := if j = 15 then 15 else 16
  let x := q - 16 * i
  let y := n - 16 * j
  let v := o i j * ((li - x) * (lj - y)) + o (i + 1) j * (x * (lj - y)) + o i (j + 1) * ((li - x) * y) + o (i + 1) (j + 1) * (x * y)
  (2 * v + li * lj) / (2 * (li * lj))

/-- The R, G, B components of a pixel: XRGB8888, or RGB565 expanded by repeating its top bits. -/
def pixelRgb (rgb565 : Bool) (bs : List Byte) : List Nat :=
  if rgb565 then
    let v := leNat (bs.take 2)
    let r := v / 2048 % 32
    let g := v / 32 % 64
    let b := v % 32
    [r * 8 + r / 4, g * 4 + g / 16, b * 8 + b / 4]
  else [(bs.getD 2 0).toNat, (bs.getD 1 0).toNat, (bs.getD 0 0).toNat]

/-- The pixels of a line of n, each of `size` bytes. -/
def lineRgb (rgb565 : Bool) (size : Nat) : Nat → List Byte → List Nat
  | 0, _ => []
  | n + 1, bs => pixelRgb rgb565 bs ++ lineRgb rgb565 size n (bs.drop size)

/-- Bytes per pixel of panel p. -/
def State.pixelSize (s : State) (p : Nat) : Nat := if s.flag (F.DSP_PCFG_FMT p) then 2 else 4

/-- The components of a frame in memory; a denied read gives zeros (R57). -/
def State.framePixels (s : State) (p : Nat) (f : PFrame) : List Nat :=
  let x := s.panel p
  let n := x.cf 0 15 0
  let ok := (s.firstDenied (engine 28) .read f.addr (f.stride * x.cf 1 15 0)).isNone
  (List.range (x.cf 1 15 0)).flatMap (fun y =>
    if ok then lineRgb (s.flag (F.DSP_PCFG_FMT p)) (s.pixelSize p) n (s.bytes (f.addr + f.stride * y) (n * s.pixelSize p))
    else List.replicate (3 * n) 0)

/-! ### Frames (R411, R412) -/

/-- Complete descriptors OK. -/
def State.completeAll (s : State) : List PFrame → State
  | [] => s
  | f :: l => State.completeAll (s.complete f.ring f.didx stOK 0) l

/-- Take the oldest waiting descriptor of ring n for panel p: NOP, empty, ill-sized and unreadable ones complete (R411, R545). -/
def State.takeFrame (s : State) (p n : Nat) : Nat → Option PFrame × State
  | 0 => (none, s)
  | fuel + 1 =>
    match s.nextDesc n with
    | none => (none, s)
    | some d =>
      let x := s.panel p
      let s := s.startDesc n d
      if d.op = 0 then State.takeFrame (s.complete n d.didx stOK 0) p n fuel
      else if d.len = 0 then State.takeFrame (s.complete n d.didx stEMPTY 0) p n fuel
      else if d.arg0 % 64 ≠ 0 ∨ d.arg0 < x.cf 0 15 0 * s.pixelSize p ∨ d.len ≠ d.arg0 * x.cf 1 15 0 then
        State.takeFrame (s.complete n d.didx stBADLEN 0) p n fuel
      else match s.firstDenied (engine 28) .read d.addr d.len with
        | some b => State.takeFrame ((s.deny (engine 28) .read b).complete n d.didx stACCESS 0) p n fuel
        | none => (some ⟨n, d.didx, d.addr, d.arg0⟩, s)

/-- PANEL_FRAME_START (R411, R415-R417): the last frame's scan-out has ended; the panel takes the oldest waiting descriptor or
repeats; band, VCOM and overdrive are latched, and the frame's components follow. -/
def State.panelFrame (s : State) (p : Nat) : State :=
  let x := s.panel p
  let s := s.completeAll x.done
  let s := s.setPanel p { x with done := [], k := (s.now - x.t0) / x.period }
  let b := s.bandOf p (s.fld (F.DSP_PSTAT_BAND p))
  let s := s.setFld (F.DSP_PSTAT_BAND p) b
  let r := match s.ringOf (0x58 + p) with
    | some n => s.takeFrame p n (s.ringSize n + 1)
    | none => (none, s)
  let s := r.2
  let y := s.panel p
  let s := match r.1 with
    | some f => s.setPanel p { y with cur := some f, done := y.held ++ y.cur.toList, held := [] }
    | none => s.bump (F.DSP_REPCNT_COUNT p)
  let y := s.panel p
  match y.cur with
  | none => s.setPanel p { y with first := false, vcom := s.fld (F.DSP_VCOM_VCOM p b), out := [] }
  | some f =>
    let new := s.framePixels p f
    let old := match x.cur with
      | some g => s.framePixels p g
      | none => List.replicate new.length 0
    let out := if s.flag (F.DSP_PCFG_ODEN p) && !y.first then
        (old.zip new).map (fun e => overdrive (fun i j => s.odByte p b (17 * i + j)) e.1 e.2)
      else new
    s.setPanel p { y with first := false, vcom := s.fld (F.DSP_VCOM_VCOM p b), out := out }

/-- PANEL_FRAME_START: the next frame start of a panel that is ON has come. -/
def execPanelFrameStart (p : Fin 2) (s : State) : Out :=
  let x := s.panel p
  if s.panelState p = 4 ∧ x.k < (s.now - x.t0) / x.period then .next (s.panelFrame p) else .next s

/-- UNDERRUN (R412): pixels from the given one on did not arrive: the rest of the frame is black. -/
def execDspUnderrun (p : Fin 2) (pix : BitVec 22) (s : State) : Out :=
  let x := s.panel p
  if s.panelState p = 4 ∧ x.cur.isSome then
    let s := s.setPanel p { x with out := (x.out.take (3 * pix.toNat)) ++ List.replicate (x.out.length - 3 * pix.toNat) 0 }
    .next (s.panelFlag (F.DSP_PSTAT_UNDERRUN p) F.DSP_STAT_UNDERRUN)
  else .next s

/-! ### Register writes and resets -/

/-- A write of DSP_BLp: a FREQ outside its range is ignored, with CONFIG; a new DUTY acts from the next PWM period (R418). -/
def State.writeBl (s : State) (p : Nat) (w : Word) : State :=
  let x := s.panel p
  let per := 1000000000 / max 1 (s.fld (F.DSP_BL_FREQ p))
  let s := s.setPanel p { x with duty := s.blDuty p, dutyAt := x.onAt + ((s.now - x.onAt) / per + 1) * per }
  if within 200 25000 ((F.DSP_BL_FREQ p).get w) then s.writePlain (R.DSP_BL p) w
  else (s.writePlain (R.DSP_BL p) ((F.DSP_BL_FREQ p).put w (s.fld (F.DSP_BL_FREQ p)))).panelConfig p

/-- A write of a register of the display unit. -/
def State.writeDsp (s : State) (a : Nat) (w : Word) : State :=
  let o := a - 0x40700000
  if o = 0 then s.writeDspCtl w
  else if 0x1000 ≤ o ∧ o < 0x3000 then
    let p := (o - 0x1000) / 0x1000
    let r := o % 0x1000
    if r = 0 then s.writePcfg p w
    else if 4 ≤ r ∧ r < 0x18 then (if s.panelState p = 0 then s.writePlain a w else s.panelConfig p)
    else if r = 0x40 then s.writeBl p w
    else if r = 0x44 then s.writePstat p w
    else s.writePlain a w
  else s.writePlain a w

/-- An RTX, MOD, WDT or PIN reset at the display unit (R419): a panel that is powered carries out DOWN with its latched
values and clears when that ends; any other clears now. Descriptors in flight are gone. -/
def State.dspReset (s : State) : State :=
  let s := (List.range 2).foldl (fun s p =>
    let st := s.panelState p
    let live := 1 ≤ st && st ≤ 5
    s.setPanel p { s.panel p with rst := live, cur := none, held := [], done := [], again := false }) s
  (List.range 2).foldl (fun s p =>
    let st := s.panelState p
    if !(s.panel p).rst then s.panelClear p
    else if st = 5 then s else s.panelDown p) s

end Sys2Proof.Machine
end

