-- ==== Sys2Proof/Machine/Pair.lean ====
section
/-! DEFINITION. The role of a Tandem module: its pair state, the mask that comes and goes with it, and the conflict
(20_tandem.md, R445, R455, R463). -/

namespace Sys2Proof.Machine

/-- Pair states (Table 20-1). -/
def psOFF : Nat := 0
def psSOLO : Nat := 1
def psJOINING : Nat := 2
def psSTANDBY : Nat := 3
def psPENDING : Nat := 4
def psACTIVE : Nat := 5
def psFENCED : Nat := 6

/-- PSTATE and TERM. -/
def State.pairState (s : State) : Nat := s.fld F.TDM_STATE_PSTATE
def State.term (s : State) : Nat := s.fld F.TDM_STATE_TERM

/-- Set a flag of TDM_STAT other than ROLE_CHG (R468). -/
def State.tdmFlag (s : State) (f : Fld) : State := s.raiseFlag f 219

/-- Records not yet acted on are the partner's from here on: they carry their level (R457). -/
def State.yieldIssue (s : State) : State :=
  { s with slt := { s.slt with
    out := [], follow := []
    issue := s.slt.issue.map (fun i => if i.fired ∨ i.gone then i else { i with edge := { i.edge with src := .align } }) } }

/-- The mask comes: MIRRORED stages go high-impedance, nothing waits to be sent (Table 20-1, R463). -/
def State.maskOn (s : State) : State :=
  let s := (List.range 64).foldl (fun s n => if s.mirrored 0 n && !s.solSlave n then s.solOffFast n else s) s
  let s := (List.range 96).foldl (fun s n => if s.mirrored 1 n && s.lswOn n then s.lswTo n lsOFF else s) s
  ((s.dioShowDie 0).dioShowDie 1).yieldIssue

/-- A change of pair state (R445): ROLE_CHG with interrupt 220, event TDM_ROLE with old state, new state and TERM; the mask
comes with a state that masks. -/
def State.pairTo (s : State) (new : Nat) : State :=
  let old := s.pairState
  if old = new then s
  else
    let was := s.tdmMasked
    let s := s.setFld F.TDM_STATE_PSTATE new
    let s := if new = psFENCED then s else { s with pwr := { s.pwr with hiz := [] } }
    let s := (s.raiseFlag F.TDM_STAT_ROLE_CHG 220).event 0x1101 [w32 old, w32 new, w32 s.term]
    if !was && s.tdmMasked then s.maskOn else s

/-- The level, as its endpoint counts it, of the local channel of an entry as the mask goes: a MIRRORED stage was off, a SPLIT
one has its level. -/
def State.chanLevel (s : State) (c : List Byte) : Bool :=
  let n := eChan c
  let phys := !s.mirrored (eTop c) n && (match eTop c with
    | 0 => s.flag (solF F.SOL_CHSTAT_LEVEL n)
    | 1 => s.flag (lswF F.LSW_CHSTAT_LEVEL n)
    | _ => s.flag (F.DIO_PTSTAT_LEVEL (n / 32) (n % 32)))
  phys != eInvert c

/-- The mask of endpoint e goes (R454, R456): it aligns at the next endpoint tick; in a handover its output passes at its
computed level in this µs. One in REJOIN drives its safe state. -/
def State.unmaskEp (s : State) (hand : Bool) (e : Nat) : State :=
  let x := s.ep e
  let c := x.cfg
  if x.state = epOUT ∨ !eOutput c then s
  else if x.state = epREJOIN then (if eLocal c then s.emitOut e x.safeOn s.now else s)
  else
    let s := s.disarm (fun a => a.ep = e && (a.edge.src.isPend || a.edge.src.isPitch))
    let lvl := if eLocal c then s.chanLevel c else if ePartner c && hand then x.computed else x.level
    let s := s.updEp e (fun x => { x with level := lvl, align := true, pRun := false, out := false, pRuns := [] })
    if hand && eLocal c && x.computed != lvl && s.emits e then s.setLevel e x.computed s.now else s

/-- The mask goes (R454, R456, R457): a MIRRORED channel that no endpoint holds acts on the level its command gives, the
others wait for their endpoints. -/
def State.maskOff (s : State) (hand : Bool) : State :=
  let s := (SMap.keys s.ept.eps).foldl (fun s e => s.unmaskEp hand e) s
  let s := (List.range 64).foldl (fun s n =>
    if s.mirrored 0 n && (s.sch n).holder.isNone && !s.solSlave n then s.solAct n (s.flag (solF F.SOL_CHSTAT_LEVEL n)) s.now else s) s
  let s := (List.range 96).foldl (fun s n =>
    if s.mirrored 1 n && (s.lch n).holder.isNone then s.lswAct n (s.flag (lswF F.LSW_CHSTAT_LEVEL n)) s.now else s) s
  (s.dioShowDie 0).dioShowDie 1

/-- The levels of MIRRORED channels that endpoints hold, before the mask goes: off (Table 20-6). -/
def State.heldOff (s : State) : State :=
  let s := (List.range 64).foldl (fun s n =>
    if s.mirrored 0 n && (s.sch n).holder.isSome then s.setBit (solF F.SOL_CHSTAT_LEVEL n) false else s) s
  let s := (List.range 96).foldl (fun s n =>
    if s.mirrored 1 n && (s.lch n).holder.isSome then s.setBit (lswF F.LSW_CHSTAT_LEVEL n) false else s) s
  (List.range 64).foldl (fun s n =>
    if s.mirrored 2 n && (s.dpt n).holder.isSome then s.setBit (F.DIO_PTSTAT_LEVEL (n / 32) (n % 32)) false else s) s

/-- The signed 16-bit difference of two TERMs (R447). -/
def termDiff (x y : Nat) : Int := sext 16 ((x + (2 ^ 16 - y % 2 ^ 16)) % 2 ^ 16)

/-- A conflict with a partner of a TERM (R455): the lower TERM, at equal TERM side 1, is masked and FENCED. -/
def State.conflictWith (s : State) (term : Nat) : State :=
  let s := (s.tdmFlag F.TDM_STAT_CONFLICT).event 0x1105 []
  let d := termDiff s.term term
  if d < 0 ∨ (d = 0 ∧ s.part.sideB) then s.pairTo psFENCED else s

/-- Whether the module runs as the one that drives: SOLO or ACTIVE. -/
def State.leads (s : State) : Bool := s.pairState = psSOLO || s.pairState = psACTIVE

/-- A TSYNC arrives with a SIDE (R455): of the other side, while this module leads, it is a conflict with the partner's last TERM. -/
def State.tsyncIn (s : State) (side : Bool) : State :=
  if s.leads && side != s.part.sideB then s.conflictWith s.tdm.pTerm else s

end Sys2Proof.Machine
end

