-- ==== Sys2Proof/Machine/ReinUnit.lean ====
section
/-! DEFINITION. Rein arbitration (R50-R54) and the access-table commands (R5, R11, R57, R58, R543). -/

namespace Sys2Proof.Machine

/-- The rank of a master in force (REIN_RANKm; the rank of masters 39 to 47 reads 0, R60). -/
def State.rank (s : State) (m : Nat) : Nat := if m < 39 then s.fld (F.REIN_RANK_RANK m) else 0

/-- The starvation limit of a master. -/
def State.reinLimit (s : State) (m : Nat) : Nat := if m < 39 then s.fld (F.REIN_RANK_LIMIT m) else 0

/-- How far a master stands from the one after the last granted, in round-robin order (R50). -/
def robin (last m : Nat) : Nat := (m + 48 - (last + 1)) % 48

/-- The better of two requests: the higher rank, then the nearer in round-robin order, then the earlier. -/
def State.better (s : State) (last : Nat) (x y : ReinWait) : ReinWait :=
  if s.rank x.master < s.rank y.master then y
  else if s.rank y.master < s.rank x.master then x
  else if robin last y.master < robin last x.master then y else x

/-- The request the arbiter grants (R50). -/
def State.winner (s : State) (last : Nat) : List ReinWait → Option ReinWait
  | [] => none
  | x :: xs => some (xs.foldl (fun b y => s.better last b y) x)

/-- Let every waiting request count cycles, saturating at 65,535 (R53). -/
def countWait (c : Nat) (l : List ReinWait) : List ReinWait := l.map (fun x => { x with wait := min (x.wait + c) 65535 })

/-- Set the starvation bit and interrupt of every request whose counter exceeds its master's limit, once per wait (R53). -/
def State.starve (s : State) (t : Nat) : State :=
  let r := s.arb t
  let late := r.waiting.filter (fun x => !x.starved && s.reinLimit x.master ≠ 0 && s.reinLimit x.master < x.wait)
  let s := late.foldl (fun s x =>
    let a := if x.master < 32 then R.REIN_STARV_LO t else R.REIN_STARV_HI t
    (s.setReg a (s.reg a ||| BitVec.ofNat 32 (2 ^ (x.master % 32)))).pend (154 + t)) s
  let mark (x : ReinWait) : ReinWait :=
    if s.reinLimit x.master ≠ 0 && s.reinLimit x.master < x.wait then { x with starved := true } else x
  s.setArb t { r with waiting := r.waiting.map mark }

/-- The length of a locked sequence: the output writes of an image pipeline have IMG_PIPECFGp.LOCK bursts (R400). -/
def State.lockLen (s : State) (m : Nat) (k : Nat) : Nat :=
  if k ≠ 0 ∧ 23 ≤ m ∧ m ≤ 26 then min 64 (s.fld (F.IMG_PIPECFG_LOCK (m - 23))) else k

/-- `cycles` more target cycles of waiting, in which the requests `arrivals` (master, lock length, cycles it has waited
by now) came (R53). -/
def State.waitSpan (s : State) (t : Nat) (cycles : Nat) (arrivals : List (Fin 48 × Fin 65 × BitVec 16)) : State :=
  let r := s.arb t
  let fresh := arrivals.map (fun p => (⟨p.1.val, min p.2.2.toNat cycles, false, s.lockLen p.1.val p.2.1.val⟩ : ReinWait))
  s.setArb t { r with waiting := countWait cycles r.waiting ++ fresh }

/-- REIN_ARBITRATE (R50-R52, R54): a burst boundary of target t, after `cycles` target cycles in which the requests
`arrivals` (master, lock length, cycles it has waited by now) came. A lock keeps the holder through its last burst; else the best
waiting request is granted and its counter goes. -/
def execReinArbitrate (t : Fin 17) (cycles : BitVec 16) (arrivals : List (Fin 48 × Fin 65 × BitVec 16)) (s : State) : Out :=
  let s := (s.waitSpan t cycles.toNat arrivals).starve t
  let r := s.arb t
  if 0 < r.lockLeft then .next (s.setArb t { r with lockLeft := r.lockLeft - 1 })
  else match s.winner r.last r.waiting with
  | none => .next (s.setArb t { r with holder := none, locked := false })
  | some x => .next (s.setArb t { r with
      holder := some x.master, last := x.master, locked := decide (0 < x.lockLen), lockLeft := x.lockLen - 1,
      waiting := r.waiting.erase x })

/-- REIN_LOCK_TIMEOUT (R52): the holder of a lock has presented no burst for `idle` cycles; from 1,024 the lock ends. -/
def execReinLockTimeout (t : Fin 17) (idle : BitVec 16) (s : State) : Out :=
  let r := s.arb t
  if 0 < r.lockLeft ∧ 1024 ≤ idle.toNat then
    .next (((s.setArb t { r with locked := false, lockLeft := 0, holder := none }).setFld (F.REIN_TSTAT_LOCK_TIMEOUT t) 1).event 0x0105 [])
  else .next s

/-- REIN_STARVATION (R53): inside a burst, after more cycles of waiting; `span` is those cycles and the requests that
came in them. -/
def execReinStarvation (t : Fin 17) (span : BitVec 16 × List (Fin 48 × Fin 65 × BitVec 16)) (s : State) : Out :=
  .next ((s.waitSpan t span.1.toNat span.2).starve t)

/-- A write of REIN_RANKm (R54): the register takes it; at each target where the master holds a locked sequence the
change shows as deferred until the lock ends. -/
def State.writeRank (s : State) (m : Nat) (w : Word) : State :=
  let s := s.writePlain (R.REIN_RANK m) w
  (List.range 17).foldl (fun s t =>
    if (s.arb t).holder = some m ∧ (s.arb t).locked then s.setFld (F.REIN_TSTAT_RANK_DEFERRED t) 1 else s) s

/-- REIN_RANK_WRITE (R54). -/
def execReinRankWrite (acc : Acc) (m : Fin 39) (value : Word) (s : State) : Out :=
  .next (s.guardWrite acc (R.REIN_RANK m) (fun s => s.writeRank m value))

/-- What an access leaves in rdata: 0 for a read or a fetch that is denied or finds nothing (R5, R57). -/
def State.readsZero (s : State) (kind : AccKind) : State := if kind = .write then s else { s with rdata := 0 }

/-- ABSENT_UNIT_ACCESS (R5): an access to the window of an absent unit reads 0, drops a write, and is recorded with
the window base. -/
def execAbsentUnitAccess (kind : AccKind) (addr : BitVec 40) (s : State) : Out :=
  match s.part.absentWindow addr.toNat with
  | some base => .next ((s.absentAccess base).readsZero kind)
  | none => .next s

/-- ACCESS_FAULT (R57): an access that a target's table denies. An access to an absent unit's window follows R5 instead. -/
def execAccessFault (acc : Acc) (target : Fin 18) (kind : AccKind) (addr : BitVec 40) (s : State) : Out :=
  match if target = 17 then s.part.absentWindow addr.toNat else none with
  | some base => .next ((s.absentAccess base).readsZero kind)
  | none => if s.permits target acc kind addr.toNat then .next s else .next ((s.denyAt target acc kind addr.toNat).readsZero kind)

/-- UNMAPPED_ACCESS (R543): an address in none of the target ranges. -/
def execUnmappedAccess (acc : Acc) (kind : AccKind) (addr : BitVec 40) (s : State) : Out :=
  if (targetOf addr.toNat).isNone then .next ((s.deny acc kind addr.toNat).readsZero kind) else .next s

/-- A write of an access-table entry's CTL: SIZE 1 to 11 and 41 to 63 read back 0 (Table 2-14). -/
def State.writeAccCtl (s : State) (t e : Nat) (w : Word) : State :=
  let s := s.writePlain (R.ACC_TE_CTL t e) w
  let z := s.fld (F.ACC_TE_CTL_SIZE t e)
  if z < 12 ∨ 40 < z then s.setFld (F.ACC_TE_CTL_SIZE t e) 0 else s

/-- A write of ACC_Tt_FINFO: clearing VALID clears COUNT with it (Table 2-14). -/
def State.writeFinfo (s : State) (t : Nat) (w : Word) : State :=
  let s' := s.writePlain (R.ACC_T_FINFO t) w
  if s.flag (F.ACC_T_FINFO_VALID t) && !s'.flag (F.ACC_T_FINFO_VALID t) then s'.setFld (F.ACC_T_FINFO_COUNT t) 0 else s'

/-- ACC_LOCK (R58): the target's entries and OWNER become read-only. -/
def execAccLock (acc : Acc) (target : Fin 18) (s : State) : Out :=
  .next (s.guardWrite acc (R.ACC_T_CTL target) (fun s => s.setFld (F.ACC_T_CTL_LOCK target) 1))

end Sys2Proof.Machine
end

