-- ==== Sys2Proof/Machine/Can.lean ====
section
/-! DEFINITION. CAN FD controllers and the ISO 11783 assists (19_buses_network.md, R421-R435). -/

namespace Sys2Proof.Machine

/-! ### Records -/

/-- Controller n beside its registers. -/
def State.can (s : State) (n : Nat) : CanU := SMap.get (fun _ => CanU.init) s.net.cans n

/-- Replace controller n. -/
def State.setCan (s : State) (n : Nat) (x : CanU) : State :=
  { s with net := { s.net with cans := SMap.set (fun _ => CanU.init) s.net.cans n x } }

/-- The state of controller n: 0 OFF, 1 ACTIVE, 2 PASSIVE, 3 BUS_OFF, 4 RECOVERING, 5 LISTEN (Table 19-4). -/
def State.canState (s : State) (n : Nat) : Nat := s.fld (F.CAN_ESTAT_STATE n)

/-- Whether a controller state sends. -/
def canSends (st : Nat) : Bool := st = 1 || st = 2

/-- Set a flag of CAN_STATn (R442). -/
def State.canFlag (s : State) (n : Nat) (f : Nat → Fld) : State := s.raiseFlag (f n) (206 + n)

/-! ### Frames -/

/-- Whether an ID word is of a 29-bit identifier, of an FD frame. -/
def idIde (w : Nat) : Bool := w / 2 ^ 29 % 2 = 1
def idFd (w : Nat) : Bool := w / 2 ^ 30 % 2 = 1
/-- The identifier, and its ISO 11783 parts: priority, PDU format, PDU specific, source address, PGN. -/
def idOf (w : Nat) : Nat := w % 2 ^ 29
def idPrio (w : Nat) : Nat := w / 2 ^ 26 % 8
def idPf (w : Nat) : Nat := w / 2 ^ 16 % 256
def idPs (w : Nat) : Nat := w / 2 ^ 8 % 256
def idSa (w : Nat) : Nat := w % 256
def idPgn (w : Nat) : Nat := w / 2 ^ 24 % 4 * 65536 + idPf w * 256 + (if 240 ≤ idPf w then idPs w else 0)

/-- The data bytes a DLC means (R421). -/
def dlcLen (fd : Bool) (dlc : Nat) : Nat :=
  if dlc ≤ 8 then dlc else if fd then [12, 16, 20, 24, 32, 48, 64].getD (dlc - 9) 64 else 8

/-- The DLC that encodes a length, if one does (R425). -/
def dlcOf (fd : Bool) (len : Nat) : Option Nat := (List.range (if fd then 16 else 9)).find? (fun d => dlcLen fd d = len)

/-- Data padded with 0x00 to a length. -/
def padTo (n : Nat) (bs : List Byte) : List Byte := bs.take n ++ List.replicate (n - bs.length) 0

/-- The order of bus arbitration: the smaller wins; a base identifier beats an extended one that begins with it. -/
def arbKey (w : Nat) : Nat :=
  if idIde w then idOf w / 2 ^ 18 * 2 ^ 19 + 2 ^ 18 + idOf w % 2 ^ 18 else w % 2 ^ 11 * 2 ^ 19

/-! ### States (R429-R432) -/

/-- Controller n stops sending: every field node on it is lost and the slot engine's frames are refused (R430, R432). -/
def State.canSilence (s : State) (n : Nat) : State :=
  ({ s with slt := { s.slt with out := s.slt.out.filter (fun r => r.bus ≠ n) } } : State).busLost n

/-- Enter a state of Table 19-4. -/
def State.canTo (s : State) (n st : Nat) : State :=
  let was := s.canState n
  let s := s.setFld (F.CAN_ESTAT_STATE n) st
  if canSends was && !canSends st then s.canSilence n else s

/-- Take new error counters: WARN when one reaches 96; PASSIVE at 128, ACTIVE below it again (R429). -/
def State.canCounters (s : State) (n tec rec : Nat) : State :=
  let t0 := s.fld (F.CAN_ESTAT_TEC n)
  let r0 := s.fld (F.CAN_ESTAT_REC n)
  let s := (s.setFld (F.CAN_ESTAT_TEC n) (min tec 511)).setFld (F.CAN_ESTAT_REC n) (min rec 255)
  let s := if (t0 < 96 ∧ 96 ≤ tec) ∨ (r0 < 96 ∧ 96 ≤ rec) then s.canFlag n F.CAN_STAT_WARN else s
  if s.canState n = 1 ∧ (128 ≤ tec ∨ 128 ≤ rec) then (s.canTo n 2).canFlag n F.CAN_STAT_PASSIVE
  else if s.canState n = 2 ∧ tec < 128 ∧ rec < 128 then s.canTo n 1 else s

/-- Abort the transmit buffers of controller n that a test selects: RESULT ABORTED (R424, R430). -/
def State.txbAbort (s : State) (n : Nat) (p : Nat → Bool) : State :=
  [0, 1, 2].foldl (fun s b =>
    if s.fld (F.CAN_TXB_CTL_STATE n b) ≠ 0 && p b then
      (s.setFld (F.CAN_TXB_CTL_STATE n b) 0).setFld (F.CAN_TXB_CTL_RESULT n b) 2
    else s) s

/-- Complete every transmit descriptor of ring r made available with a status, in order (R430). -/
def State.failAvailable (s : State) (r status : Nat) : Nat → State
  | 0 => s
  | fuel + 1 =>
    match s.nextDesc r with
    | none => s
    | some d => State.failAvailable ((s.startDesc r d).complete r d.didx status 0) r status fuel

/-- The transmit descriptor controller n holds completes with a status. -/
def State.hostFail (s : State) (n status : Nat) : State :=
  match (s.can n).host with
  | some (r, didx, _) => (s.setCan n { s.can n with host := none }).complete r didx status 0
  | none => s

/-- Controller n enters BUS_OFF (R430). -/
def State.canBusOff (s : State) (n : Nat) : State :=
  let s := ((s.canTo n 3).canFlag n F.CAN_STAT_BUSOFF).event 0x1001 []
  let s := (s.txbAbort n (fun _ => true)).hostFail n 0x81
  let s := s.setCan n { s.can n with bus := none, stop := false, own := [] }
  match s.ringOf (0x10 + n) with
  | some r => s.failAvailable r 0x81 (s.ringSize r + 1)
  | none => s

/-- A transmit error: TEC rises by 8; above 255 the controller leaves the bus (R429, R430). -/
def State.canTxError (s : State) (n lec : Nat) : State :=
  let s := if lec = 0 then s else s.setFld (F.CAN_ESTAT_LEC n) lec
  let tec := s.fld (F.CAN_ESTAT_TEC n) + 8
  let s := s.canCounters n tec (s.fld (F.CAN_ESTAT_REC n))
  if 255 < tec then s.canBusOff n else s

/-! ### Address claim (R434) -/

/-- Whether the claim assist of controller n is on. -/
def State.claims (s : State) (n : Nat) : Bool := n < 4 && s.flag (F.CAN_ACCFG_EN n)

/-- The NAME of controller n. -/
def State.acName (s : State) (n : Nat) : Nat := (s.reg (R.CAN_ACNAME_LO n)).toNat + (s.reg (R.CAN_ACNAME_HI n)).toNat * 2 ^ 32

/-- An Address Claimed, or Cannot Claim, frame from an address. -/
def claimFrame (sa name : Nat) : CanF := ⟨2 ^ 29 + 6 * 2 ^ 26 + 0xEEFF00 + sa, 8, leBytes 8 name, false⟩

/-- Queue a frame of an assist. -/
def State.ownSend (s : State) (n : Nat) (f : CanF) : State := s.setCan n { s.can n with own := (s.can n).own ++ [f] }

/-- The address of controller n changes: ADDR and event CAN_ADDR (R434). -/
def State.setAddr (s : State) (n sa : Nat) : State :=
  if s.fld (F.CAN_ACSTAT_SA n) = sa then s
  else ((s.setFld (F.CAN_ACSTAT_SA n) sa).canFlag n F.CAN_STAT_ADDR).event 0x1003 []

/-- Start a claim for PREF after 0.6 ms × a pseudo-random value from 0 to 255. -/
def State.claimStart (s : State) (n : Nat) : State :=
  if s.claims n then
    let r := s.drawNat 8
    let s := r.2.setCan n { r.2.can n with claimDue := some (s.now + 600000 * r.1), claimAt := none }
    (s.setFld (F.CAN_ACSTAT_STATE n) 1).setAddr n (s.fld (F.CAN_ACCFG_PREF n))
  else s

/-- Send Address Claimed for the address being claimed; 250 ms run from here. -/
def State.claimSend (s : State) (n : Nat) : State :=
  let s := s.setCan n { s.can n with claimDue := none, claimAt := some s.now }
  s.ownSend n (claimFrame (s.fld (F.CAN_ACSTAT_SA n)) (s.acName n))

/-- Whether a frame of controller n is held up by its claim: a 29-bit identifier while CLAIMING. -/
def State.claimHolds (s : State) (n w : Nat) : Bool := s.claims n && idIde w && s.fld (F.CAN_ACSTAT_STATE n) = 1

/-- Whether a frame of controller n cannot be sent: a 29-bit identifier while LOST. -/
def State.claimBars (s : State) (n w : Nat) : Bool := s.claims n && idIde w && s.fld (F.CAN_ACSTAT_STATE n) = 3

/-- In LOST the frames that would use the address complete NO_ADDRESS, and the slot engine's are discarded (R434). -/
def State.claimPurge (s : State) (n : Nat) : State :=
  let s := s.txbAbort n (fun b => s.fld (F.CAN_TXB_CTL_STATE n b) = 1 && s.claimBars n (s.fld (F.CAN_TXB_ID_ID n b)))
  let s := match (s.can n).host with
    | some (_, _, f) => if s.claimBars n f.idw then s.hostFail n 0x82 else s
    | none => s
  if s.claimBars n (2 ^ 29) then { s with slt := { s.slt with out := s.slt.out.filter (fun r => r.bus ≠ n) } } else s

/-- The claim is lost: Cannot Claim from 254 (R434). -/
def State.claimLost (s : State) (n : Nat) : State :=
  let s := s.setCan n { s.can n with claimDue := none, claimAt := none }
  let s := ((s.setFld (F.CAN_ACSTAT_STATE n) 3).canFlag n F.CAN_STAT_AC_LOST).setAddr n 254
  (s.ownSend n (claimFrame 254 (s.acName n))).claimPurge n

/-- The next address from MIN to MAX not seen claimed, after one, wrapping once. -/
def State.nextAddr (s : State) (n sa : Nat) : Option Nat :=
  let lo := s.fld (F.CAN_ACCFG_MIN n)
  let hi := s.fld (F.CAN_ACCFG_MAX n)
  let all := (List.range (hi + 1 - lo)).map (· + lo)
  ((all.filter (fun a => sa < a)) ++ (all.filter (fun a => a < sa))).find? (fun a => !(s.can n).seen.contains a)

/-- Another unit claims an address: contention when it is ours (R434). -/
def State.claimSeen (s : State) (n a name : Nat) : State :=
  let x := s.can n
  let s := if a = 254 ∨ x.seen.contains a then s else s.setCan n { x with seen := a :: x.seen }
  let st := s.fld (F.CAN_ACSTAT_STATE n)
  if a ≠ s.fld (F.CAN_ACSTAT_SA n) ∨ !(st = 2 ∨ (st = 1 ∧ x.claimAt.isSome)) then s
  else if name < s.acName n then
    if s.acName n / 2 ^ 63 = 1 then
      match s.nextAddr n a with
      | some b => ((s.setFld (F.CAN_ACSTAT_STATE n) 1).setAddr n b).claimSend n
      | none => s.claimLost n
    else s.claimLost n
  else if st = 1 then s.claimSend n
  else s.ownSend n (claimFrame a (s.acName n))

/-- A Request for the claim is answered (R434). -/
def State.claimAnswer (s : State) (n : Nat) : State :=
  let st := s.fld (F.CAN_ACSTAT_STATE n)
  if st = 2 ∨ (st = 1 ∧ (s.can n).claimAt.isSome) ∨ st = 3 then
    s.ownSend n (claimFrame (s.fld (F.CAN_ACSTAT_SA n)) (s.acName n))
  else s

/-- ADDRESS_CLAIM (R434): the delay is over and the controller is on the bus. -/
def execAddressClaim (n : Fin 4) (s : State) : Out :=
  match (s.can n).claimDue with
  | some t => if t ≤ s.now && canSends (s.canState n) then .next (s.claimSend n) else .next s
  | none => .next s

/-- ADDRESS_CLAIMED (R434): 250 ms after the claim without contention. -/
def execAddressClaimed (n : Fin 4) (s : State) : Out :=
  match (s.can n).claimAt with
  | some t =>
    if s.fld (F.CAN_ACSTAT_STATE n) = 1 ∧ t + 250000000 ≤ s.now then .next (s.setFld (F.CAN_ACSTAT_STATE n) 2) else .next s
  | none => .next s

/-! ### Enabling (R422) -/

/-- Whether bit timing has a rate within limits: 80 MHz ÷ ((BRP + 1) × (1 + TSEG1 + TSEG2)), in kbit/s, and TSEG2 ≥ SJW. -/
def bitTimeOk (brp tseg1 tseg2 sjw lo hi : Nat) : Bool :=
  let d := (brp + 1) * (1 + tseg1 + tseg2)
  lo * d ≤ 80000 && 80000 ≤ hi * d && sjw ≤ tseg2

/-- Whether a write of 1 to CAN_CTLn.EN is accepted. -/
def State.canOk (s : State) (n : Nat) : Bool :=
  let dz := s.fld (F.CAN_DBT_TSEG1 n) = 0 && s.fld (F.CAN_DBT_TSEG2 n) = 0
  bitTimeOk (s.fld (F.CAN_NBT_BRP n)) (s.fld (F.CAN_NBT_TSEG1 n)) (s.fld (F.CAN_NBT_TSEG2 n)) (s.fld (F.CAN_NBT_SJW n)) 125 1000 &&
    (if dz then !s.flag (F.CAN_CTL_FDEN n)
     else bitTimeOk (s.fld (F.CAN_DBT_BRP n)) (s.fld (F.CAN_DBT_TSEG1 n)) (s.fld (F.CAN_DBT_TSEG2 n)) (s.fld (F.CAN_DBT_SJW n)) 500 8000)

/-- Controller n goes OFF: EN 0. -/
def State.canStop (s : State) (n : Nat) : State :=
  let s := s.canTo n 0
  let x := s.can n
  let s := [0, 1, 2].foldl (fun s b =>
    if s.fld (F.CAN_TXB_CTL_STATE n b) = 2 then s.setFld (F.CAN_TXB_CTL_STATE n b) 1 else s) s
  let s := s.setCan n { x with bus := none, stop := false, own := [], good := 0, claimDue := none, claimAt := none, seen := [] }
  if n < 4 then (s.setFld (F.CAN_ACSTAT_STATE n) 0).setAddr n 254 else s

/-- RECOVER written in BUS_OFF (R430). -/
def State.canRecover (s : State) (n : Nat) : State := if s.canState n = 3 then s.canTo n 4 else s

/-- A write of CAN_CTLn: EN is accepted or refused with CONFIG; RECOVER acts in BUS_OFF (R422, R430). -/
def State.writeCanCtl (s : State) (n : Nat) (w : Word) : State :=
  let was := s.flag (F.CAN_CTL_EN n)
  let s := (s.writePlain (R.CAN_CTL n) w).setFld (F.CAN_CTL_RECOVER n) 0
  let on := s.flag (F.CAN_CTL_EN n)
  let s :=
    if on && !was then
      (if s.canOk n then ((s.setFld (F.CAN_ESTAT_TEC n) 0).setFld (F.CAN_ESTAT_REC n) 0).claimStart n
       else (s.setFld (F.CAN_CTL_EN n) 0).canFlag n F.CAN_STAT_CONFIG)
    else if was && !on then s.canStop n else s
  if (F.CAN_CTL_RECOVER n).get w = 1 then s.canRecover n else s

/-- CAN_ENABLE (R422): a write of CAN_CTLn with EN 1. -/
def execCanEnable (acc : Acc) (n : Fin 12) (value : Word) (s : State) : Out :=
  .next (s.guardWrite acc (R.CAN_CTL n) (fun s => s.writeCanCtl n ((F.CAN_CTL_EN n).put value 1)))

/-- CAN_RECOVER (R430): a write of CAN_CTLn with RECOVER 1. -/
def execCanRecover (acc : Acc) (n : Fin 12) (value : Word) (s : State) : Out :=
  .next (s.guardWrite acc (R.CAN_CTL n) (fun s => s.writeCanCtl n ((F.CAN_CTL_RECOVER n).put value 1)))

/-- INTEGRATION (R422): 11 recessive bits after EN: ACTIVE. -/
def execCanIntegration (n : Fin 12) (s : State) : Out :=
  if s.flag (F.CAN_CTL_EN n) ∧ s.canState n = 0 then .next (s.canTo n 1) else .next s

/-- End LISTEN: ACTIVE, REJOINED, event CAN_REJOIN, a new claim; PASSIVE where a counter stands at 128 or more (R429, R431,
R434). -/
def State.canRejoin (s : State) (n : Nat) : State :=
  let s := (((s.canTo n 1).canFlag n F.CAN_STAT_REJOINED).event 0x1002 []).claimStart n
  s.canCounters n (s.fld (F.CAN_ESTAT_TEC n)) (s.fld (F.CAN_ESTAT_REC n))

/-- CAN_LISTEN_ENTRY (R429, R431): 128 × 11 recessive bits in RECOVERING; the counters are 0, and an N of 0 skips LISTEN. -/
def execCanListenEntry (n : Fin 12) (s : State) : Out :=
  if s.canState n = 4 then
    let s := (s.setFld (F.CAN_ESTAT_TEC n) 0).setFld (F.CAN_ESTAT_REC n) 0
    let s := (s.setCan n { s.can n with good := 0, idleAt := s.now }).canTo n 5
    if s.fld (F.CAN_RJCFG_N n) = 0 then .next (s.canRejoin n) else .next s
  else .next s

/-- CAN_REJOIN (R431): N good frames, or LTO ms of idle. -/
def execCanRejoin (n : Fin 12) (s : State) : Out :=
  let x := s.can n
  let lto := s.fld (F.CAN_RJCFG_LTO n)
  if s.canState n = 5 ∧ (s.fld (F.CAN_RJCFG_N n) ≤ x.good ∨ (lto ≠ 0 ∧ x.idleAt + 1000000 * lto ≤ s.now)) then .next (s.canRejoin n)
  else .next s

/-- CAN_BUSOFF (R430): the transmit error that takes TEC above 255. -/
def execCanBusoff (n : Fin 12) (lec : Fin 8) (s : State) : Out :=
  if canSends (s.canState n) && decide (255 < s.fld (F.CAN_ESTAT_TEC n) + 8) then .next (s.canTxError n lec) else .next s

/-! ### Transmission (R423-R425) -/

/-- The frame of a transmit buffer. -/
def State.txbFrame (s : State) (n b : Nat) : CanF :=
  let w := s.fld (F.CAN_TXB_ID_ID n b)
  let d := s.fld (F.CAN_TXB_CTL_DLC n b)
  ⟨w, d, ((List.range 16).flatMap (fun k => leBytes 4 (s.reg (R.CAN_TXB_D n b k)).toNat)).take (dlcLen (idFd w) d),
    s.flag (F.CAN_TXB_CTL_ONESHOT n b)⟩

/-- A frame as it goes on the bus: while CLAIMED the claimed address replaces bits [7:0] of a 29-bit identifier (R434). -/
def State.withSa (s : State) (n : Nat) (f : CanF) : CanF :=
  if s.claims n && idIde f.idw && s.fld (F.CAN_ACSTAT_STATE n) = 2 then
    { f with idw := f.idw / 256 * 256 + s.fld (F.CAN_ACSTAT_SA n) }
  else f

/-- The payloads of a bus that one frame carries: the first, and with EDGE and SAMPLE records others for its node, up to a
count (R139). -/
def State.slotBatch (s : State) (b maxN : Nat) : List OutRec :=
  match s.slt.out.find? (fun r => r.bus = b) with
  | none => []
  | some r =>
    if r.type = 1 ∨ r.type = 2 then (s.slt.out.filter (fun q => q.bus = b && q.node = r.node && q.type = r.type)).take maxN else [r]

/-- The remote frame of payloads (R139, Table 5-3): header with SIDE and RESTART, then their bytes. -/
def State.slotPayload (s : State) (b : Nat) (l : List OutRec) : List Byte :=
  let t := (l.map (·.type)).headD 0
  let count := if t = 1 ∨ t = 2 then l.length else 0
  let flags := (if s.flag F.TDM_CTL_EN && s.part.sideB then 1 else 0) + (if s.slt.followed.contains b then 0 else 2)
  leBytes 1 t ++ leBytes 1 count ++ leBytes 2 flags ++ l.flatMap (·.body)

/-- The source address of remote frames on controller n (R138). -/
def State.slotSa (s : State) (n : Nat) : Nat := if n < 4 then s.fld (F.CAN_ACSTAT_SA n) else s.fld F.SLT_SA_SA

/-- The slot engine's next frame for controller n (R138). -/
def State.slotFrame (s : State) (n : Nat) : Option (CanF × List OutRec) :=
  match s.slotBatch n 5 with
  | [] => none
  | r :: l =>
    let bs := s.slotPayload n (r :: l)
    let dlc := ((List.range 16).find? (fun d => bs.length ≤ dlcLen true d)).getD 15
    let id := s.fld F.SLT_RMT_PRIO * 2 ^ 26 + 0xEF0000 + r.node * 256 + s.slotSa n
    some (⟨7 * 2 ^ 29 + id, dlc, padTo (dlcLen true dlc) bs, false⟩, r :: l)

/-- Payloads whose frame target 14 or 15 denies to the slot engine are dropped (R49, R57). -/
def State.slotDrop (s : State) (l : List OutRec) : State :=
  { s with slt := { s.slt with out := l.foldl (fun o r => o.erase r) s.slt.out } }

/-- Payloads have been sent on a bus; after the first TFOLLOW, RESTART ends (R145). -/
def State.slotSent (s : State) (b : Nat) (l : List OutRec) : State :=
  let out := l.foldl (fun o r => o.erase r) s.slt.out
  let fin := l.any (fun r => r.type = 0x11) && !s.slt.followed.contains b
  { s with slt := { s.slt with out := out, followed := if fin then b :: s.slt.followed else s.slt.followed } }

/-- The queue candidate of controller n: the assists' frames first, then by rank at Rein target 15 the transmit ring or the
slot engine (R423). Its master, 48 for the assists. -/
def State.queueCand (s : State) (n : Nat) : Option (Nat × CanF × List OutRec × Nat) :=
  let x := s.can n
  match x.own with
  | f :: _ => some (5, f, [], 48)
  | [] =>
    let h := match x.host with
      | some (r, i, f) => if s.claimHolds n f.idw then none else some (3, f, ([] : List OutRec), (s.descMaster r i).master.val)
      | none => none
    let e := match s.slotFrame n with
      | some (f, l) => if s.claimHolds n f.idw then none else some (4, f, l, 10)
      | none => none
    match h, e with
    | some a, some b =>
      let wa : ReinWait := ⟨a.2.2.2, 0, false, 0⟩
      let wb : ReinWait := ⟨10, 0, false, 0⟩
      if s.better (s.arb 15).last wa wb = wa then some a else some b
    | some a, none => some a
    | none, b => b

/-- The transmit buffers of controller n that may go, then the queue candidate (R423). -/
def State.txCands (s : State) (n : Nat) : List (Nat × CanF × List OutRec × Nat) :=
  ([0, 1, 2].filterMap (fun b =>
    let f := s.txbFrame n b
    if s.fld (F.CAN_TXB_CTL_STATE n b) = 1 && !s.claimHolds n f.idw then some (b, s.withSa n f, [], 48) else none)) ++
    ((s.queueCand n).map (fun q => (q.1, s.withSa n q.2.1, q.2.2.1, q.2.2.2))).toList

/-- The next frame of controller n: ORDER 1 the first candidate, ORDER 0 the one that wins arbitration, the first of equals. -/
def State.txNext (s : State) (n : Nat) : Option (Nat × CanF × List OutRec × Nat) :=
  match s.txCands n with
  | [] => none
  | c :: l =>
    if s.flag (F.CAN_CTL_ORDER n) then some c
    else some (l.foldl (fun b x => if arbKey x.2.1.idw < arbKey b.2.1.idw then x else b) c)

/-- A start of frame of controller n (R423). -/
def State.txStart (s : State) (n : Nat) : State :=
  let s := s.claimPurge n
  if !canSends (s.canState n) || s.flag (F.CAN_CTL_LISTEN n) || (s.can n).bus.isSome then s
  else match s.txNext n with
  | none => s
  | some (src, f, l, m) =>
    if src = 4 ∧ !s.permits 15 (engine 10) .write ((0x10 + n) * 4096) then
      (s.denyAt 15 (engine 10) .write ((0x10 + n) * 4096)).slotDrop l
    else
    let s := s.setCan n { s.can n with bus := some (src, f, l), stop := false }
    let s := if src < 3 then s.setFld (F.CAN_TXB_CTL_STATE n src) 2 else s
    if m < 48 then s.setArb 15 { s.arb 15 with last := m } else s

/-- The frame on the bus is not sent and not retried: a buffer reports RESULT, a descriptor ONESHOT_FAIL. -/
def State.txDrop (s : State) (n src result : Nat) : State :=
  if src < 3 then (s.setFld (F.CAN_TXB_CTL_STATE n src) 0).setFld (F.CAN_TXB_CTL_RESULT n src) result
  else if src = 3 then s.hostFail n 0x80 else s

/-- The frame on the bus ends: sent at a timestamp point, or lost to arbitration or an error (R423-R425). -/
def State.txEnd (s : State) (n : Nat) (sent : Option Nat) : State :=
  let x := s.can n
  match x.bus with
  | none => s
  | some (src, f, l) =>
    let s := s.setCan n { x with bus := none, stop := false, idleAt := s.now }
    match sent with
    | some ts =>
      if src < 3 then
        ((s.setFld (F.CAN_TXB_CTL_STATE n src) 0).setFld (F.CAN_TXB_CTL_RESULT n src) 1).setFld (F.CAN_TXB_TS_TIME n src) ts
      else if src = 3 then
        match x.host with
        | some (r, didx, _) => (s.setCan n { s.can n with host := none }).complete r didx stOK ts
        | none => s
      else if src = 4 then s.slotSent n l
      else s.setCan n { s.can n with own := (s.can n).own.tail }
    | none =>
      if x.stop then s.txDrop n src 2
      else if f.once then s.txDrop n src 3
      else if src < 3 then s.setFld (F.CAN_TXB_CTL_STATE n src) 1 else s

/-- CAN_FRAME_TX (R423): a start of frame, or how the frame on the bus ended. -/
def execCanFrameTx (n : Fin 12) (e : CanTx) (s : State) : Out :=
  match e with
  | .start => .next (s.txStart n)
  | .sent ts =>
    if (s.can n).bus.isSome then
      .next ((s.canCounters n (s.fld (F.CAN_ESTAT_TEC n) - 1) (s.fld (F.CAN_ESTAT_REC n))).txEnd n (some ts.toNat))
    else .next s
  | .lost => .next (s.txEnd n none)
  | .error lec =>
    if (s.can n).bus.isNone then .next s
    else if 255 < s.fld (F.CAN_ESTAT_TEC n) + 8 then .next (s.canTxError n lec)
    else .next ((s.txEnd n none).canTxError n lec)

/-- A write to a transmit buffer (R424, R430): ignored with TXB_BUSY while PENDING or ON_BUS, but for ABORT; GO makes it
PENDING unless the controller has left the bus. -/
def State.writeTxb (s : State) (n b : Nat) (a : Nat) (w : Word) : State :=
  let st := s.fld (F.CAN_TXB_CTL_STATE n b)
  let ctl := decide (a = R.CAN_TXB_CTL n b)
  if st ≠ 0 then
    if ctl && (F.CAN_TXB_CTL_ABORT n b).get w = 1 then
      (if st = 1 then s.txbAbort n (fun x => decide (x = b)) else s.setCan n { s.can n with stop := true })
    else s.canFlag n F.CAN_STAT_TXB_BUSY
  else if !ctl then s.writePlain a w
  else
    let s := ((s.writePlain a w).setFld (F.CAN_TXB_CTL_GO n b) 0).setFld (F.CAN_TXB_CTL_ABORT n b) 0
    if (F.CAN_TXB_CTL_GO n b).get w = 0 then s
    else if 3 ≤ s.canState n then s.canFlag n F.CAN_STAT_TXB_BUSY
    else ((s.setFld (F.CAN_TXB_CTL_STATE n b) 1).setFld (F.CAN_TXB_CTL_RESULT n b) 0).claimPurge n

/-- TXB_SEND (R424): a write of CAN_TXBn_b_CTL with GO 1. -/
def execTxbSend (acc : Acc) (n : Fin 12) (b : Fin 3) (value : Word) (s : State) : Out :=
  .next (s.guardWrite acc (R.CAN_TXB_CTL n b) (fun s => s.writeTxb n b (R.CAN_TXB_CTL n b) ((F.CAN_TXB_CTL_GO n b).put value 1)))

/-- TXB_ABORT (R424): a write of CAN_TXBn_b_CTL with ABORT 1. -/
def execTxbAbort (acc : Acc) (n : Fin 12) (b : Fin 3) (value : Word) (s : State) : Out :=
  .next (s.guardWrite acc (R.CAN_TXB_CTL n b) (fun s => s.writeTxb n b (R.CAN_TXB_CTL n b) ((F.CAN_TXB_CTL_ABORT n b).put value 1)))

/-- Take a transmit descriptor of controller c: it fails off the bus (R430) or where target 15 denies it (R57), else its
frame waits as the head of the transmit ring. -/
def State.canTake (s : State) (n c : Nat) (d : Desc) (dlc : Nat) (bs : List Byte) : State :=
  if 3 ≤ s.canState c then s.complete n d.didx 0x81 0
  else
    let m := s.descMaster n d.didx
    let a := (0x10 + c) * 4096
    if !s.permits 15 m .write a then (s.denyAt 15 m .write a).complete n d.didx stACCESS 0
    else
      (s.setCan c { s.can c with host := some (n, d.didx, ⟨d.arg0, dlc, bs, d.arg1 % 2 = 1⟩) }).claimPurge c

/-- The controllers whose transmit ring may give a descriptor: enabled, with none taken. -/
def State.canFree (s : State) (q : Nat) : Bool :=
  0x10 ≤ q && q ≤ 0x1B && s.canState (q - 0x10) ≠ 0 && (s.can (q - 0x10)).host.isNone

/-- CAN_SEND (Table 19-2, opcode 0x01). -/
def execCanSend (n : Fin 64) (s : State) : Out :=
  .next (s.queueCmd n s.canFree 1 [1, 2] (fun s d =>
    let c := s.fld (F.RNG_CFG_QUEUE n) - 0x10
    if d.len = 0 then s.complete n d.didx stEMPTY 0
    else match dlcOf (idFd d.arg0) d.len with
      | none => s.complete n d.didx stBADLEN 0
      | some dlc =>
        match s.unitRead (engine 29) d.addr d.len with
        | (some bs, s) => s.canTake n c d dlc bs
        | (none, s) => s.complete n d.didx stACCESS 0))

/-- SEND_DLC0 (Table 19-2, opcode 0x02). -/
def execSendDlc0 (n : Fin 64) (s : State) : Out :=
  .next (s.queueCmd n s.canFree 2 [1, 2] (fun s d =>
    if d.len ≠ 0 then s.complete n d.didx stBADLEN 0
    else s.canTake n (s.fld (F.RNG_CFG_QUEUE n) - 0x10) d 0 []))

/-! ### Mailboxes (R428) -/

/-- Put a frame into mailbox m with NEW. -/
def State.mbStore (s : State) (n m : Nat) (f : MbF) : State :=
  let s := (s.setFld (F.CAN_MB_ID_ID n m) f.idw).setReg (R.CAN_MB_CTL n m)
    (w32 ((s.reg (R.CAN_MB_CTL n m)).toNat / 2 ^ 29 * 2 ^ 29 + f.ctl % 2 ^ 29))
  let s := s.setFld (F.CAN_MB_TS_TIME n m) f.ts
  let s := (List.range 16).foldl (fun s k => s.setFld (F.CAN_MB_D_DATA n m k) (field f.data (4 * k) 4)) s
  let s := s.setFld (F.CAN_MB_CTL_NEW n m) 1
  s.setReg (R.CAN_MBCTL n) (s.reg (R.CAN_MBCTL n) ||| w32 (2 ^ (16 + m)))

/-- Clear NEW of mailbox m. -/
def State.mbOld (s : State) (n m : Nat) : State :=
  let s := s.setFld (F.CAN_MB_CTL_NEW n m) 0
  s.setReg (R.CAN_MBCTL n) (s.reg (R.CAN_MBCTL n) &&& ~~~w32 (2 ^ (16 + m)))

/-- The shadow of mailbox m. -/
def State.mbShadow (s : State) (n m : Nat) : Option MbF := SMap.get (fun _ => none) (s.can n).shadows m

/-- Replace the shadow of mailbox m. -/
def State.setShadow (s : State) (n m : Nat) (f : Option MbF) : State :=
  s.setCan n { s.can n with shadows := SMap.set (fun _ => none) (s.can n).shadows m f }

/-- A frame for mailbox m: into the mailbox, or while it is locked into its shadow. -/
def State.mbFrame (s : State) (n m : Nat) (f : MbF) : State :=
  if s.flag (F.CAN_MB_CTL_LOCKED n m) then
    let s := if (s.mbShadow n m).isSome then s.setFld (F.CAN_MB_CTL_OVR n m) 1 else s
    s.setShadow n m (some f)
  else
    let s := if s.flag (F.CAN_MB_CTL_NEW n m) then s.setFld (F.CAN_MB_CTL_OVR n m) 1 else s
    s.mbStore n m f

/-- Lock mailbox m. -/
def State.mbLock (s : State) (n m : Nat) : State := s.setFld (F.CAN_MB_CTL_LOCKED n m) 1

/-- Release mailbox m: a full shadow moves in with NEW, otherwise NEW clears. -/
def State.mbRelease (s : State) (n m : Nat) : State :=
  if s.flag (F.CAN_MB_CTL_LOCKED n m) then
    let s := s.setFld (F.CAN_MB_CTL_LOCKED n m) 0
    match s.mbShadow n m with
    | some f => (s.setShadow n m none).mbStore n m f
    | none => (s.mbOld n m).setFld (F.CAN_MB_CTL_OVR n m) 0
  else s

/-- A write of CAN_MBCTLn: each 1 in UNLOCK releases. -/
def State.writeMbctl (s : State) (n : Nat) (w : Word) : State :=
  (List.range 16).foldl (fun s m => if w.toNat / 2 ^ m % 2 = 1 then s.mbRelease n m else s) s

/-- MAILBOX_LOCK (R428): a read of CAN_MBn_m_ID. -/
def execMailboxLock (acc : Acc) (n : Fin 12) (m : Fin 16) (s : State) : Out :=
  .next (s.guardRead acc (R.CAN_MB_ID n m) (fun s => s.reg (R.CAN_MB_ID n m)) (fun s => s.mbLock n m))

/-- MAILBOX_RELEASE (R428): a read of CAN_MBn_m_TS, or a write of CAN_MBCTLn. -/
def execMailboxRelease (acc : Acc) (n : Fin 12) (m : Fin 16) (value : Option Word) (s : State) : Out :=
  match value with
  | none => .next (s.guardRead acc (R.CAN_MB_TS n m) (fun s => s.reg (R.CAN_MB_TS n m)) (fun s => s.mbRelease n m))
  | some w => .next (s.guardWrite acc (R.CAN_MBCTL n) (fun s => s.writeMbctl n w))

/-! ### The receive ring (R427) -/

/-- A record of the receive ring: header and data padded to 4 bytes. -/
def rxRecord (idw len ts filt dlc : Nat) (bs : List Byte) : List Byte :=
  leBytes 4 idw ++ leBytes 4 len ++ leBytes 4 ts ++ leBytes 1 filt ++ leBytes 1 dlc ++ leBytes 2 0 ++
    padTo ((bs.length + 3) / 4 * 4) bs

/-- Deliver a record to queue q by a unit: a FLUSH of 0 completes the descriptor with it; with no buffer it is dropped. -/
def State.rxDeliver (s : State) (q : Nat) (acc : Acc) (flush : Nat) (bs : List Byte) (drop : State → State) : State :=
  match s.putRecord q acc bs with
  | (true, s) =>
    if flush = 0 then (match s.ringOf q with | some n => s.closeBuf n | none => s) else s
  | (false, s) => drop s

/-- Deliver a frame to the receive ring of controller n. -/
def State.canRing (s : State) (n idw len ts filt dlc : Nat) (bs : List Byte) : State :=
  s.rxDeliver (0x20 + n) (engine 29) (s.fld (F.CAN_RXFLUSH_FLUSH n)) (rxRecord idw len ts filt dlc bs)
    (fun s => (s.canFlag n F.CAN_STAT_RXOVF).bump (F.CAN_RXDROP_COUNT n))

/-! ### Transport sessions (R435) -/

/-- Show the number of sessions. -/
def State.tpShow (s : State) (n : Nat) : State := s.setFld (F.CAN_TPSTAT_SESSIONS n) (s.can n).tps.length

/-- Keep the sessions of controller n. -/
def State.setTps (s : State) (n : Nat) (l : List TpS) : State := (s.setCan n { s.can n with tps := l }).tpShow n

/-- A connection management frame of 8 bytes to an address: TP.CM 0xEC, ETP.CM 0xC8. -/
def State.tpCm (s : State) (n dst : Nat) (etp : Bool) (bs : List Byte) : State :=
  let id := 7 * 2 ^ 26 + (if etp then 0xC8 else 0xEC) * 2 ^ 16 + dst * 256 + s.fld (F.CAN_ACSTAT_SA n)
  s.ownSend n ⟨2 ^ 29 + id, 8, bs, false⟩

/-- Whether two frames belong to one session: sender, ETP, BAM. -/
def TpS.same (x : TpS) (src : Nat) (etp bam : Bool) : Bool := x.src = src && x.etp = etp && x.bam = bam

/-- A session is aborted: TP_ABORT and event CAN_TP_ABORT; Connection Abort with a reason, but not for BAM; its descriptor
completes with no bytes. -/
def State.tpAbort (s : State) (n : Nat) (x : TpS) (reason : Nat) : State :=
  let s := s.setTps n ((s.can n).tps.filter (fun y => !y.same x.src x.etp x.bam))
  let s := (s.complete x.ring x.didx stOK 0).canFlag n F.CAN_STAT_TP_ABORT
  let s := s.event 0x1004 []
  if x.bam then s else s.tpCm n x.src x.etp ([255, BitVec.ofNat 8 reason, 255, 255, 255] ++ leBytes 3 x.pgn)

/-- A message that cannot be taken: aborted for resources, without a session. -/
def State.tpRefuse (s : State) (n src pgn : Nat) (etp bam : Bool) : State :=
  let s := (s.canFlag n F.CAN_STAT_TP_ABORT).event 0x1004 []
  if bam then s else s.tpCm n src etp ([255, 2, 255, 255, 255] ++ leBytes 3 pgn)

/-- Packets of a message. -/
def TpS.packets (x : TpS) : Nat := (x.size + 6) / 7

/-- Answer with CTS for the next window of session x, of up to `lim` packets: T2 runs. -/
def State.tpCts (s : State) (n : Nat) (x : TpS) (lim : Nat) : State :=
  let c := min (min (max 1 (min 16 (s.fld (F.CAN_TPCFG_CTSN n)))) lim) (x.packets + 1 - x.next)
  let y := { x with last := x.next + c - 1, due := s.now + 1250000000, off := if x.etp then none else some 0 }
  let s := s.setTps n (((s.can n).tps.filter (fun z => !z.same x.src x.etp x.bam)) ++ [y])
  s.tpCm n x.src x.etp (if x.etp then leBytes 1 21 ++ leBytes 1 c ++ leBytes 3 x.next ++ leBytes 3 x.pgn
    else leBytes 1 17 ++ leBytes 1 c ++ leBytes 1 x.next ++ [255, 255] ++ leBytes 3 x.pgn)

/-- Take the next receive descriptor of controller n, if its buffer holds a message of `need` bytes: NOPs and empty ones
complete on the way. -/
def State.tpBuffer (s : State) (r need : Nat) : Nat → Option Desc × State
  | 0 => (none, s)
  | fuel + 1 =>
    match s.nextDesc r with
    | none => (none, s)
    | some d =>
      if d.op = 0 then State.tpBuffer ((s.startDesc r d).complete r d.didx stOK 0) r need fuel
      else if d.len = 0 then State.tpBuffer ((s.startDesc r d).complete r d.didx stEMPTY 0) r need fuel
      else if need ≤ d.len then (some d, s.startDesc r d) else (none, s)

/-- RTS or BAM: a session begins, or the message is refused; one of the same kind that runs ends first. -/
def State.tpBegin (s : State) (n : Nat) (idw size pgn lim : Nat) (etp bam : Bool) : State :=
  let src := idSa idw
  let s := match (s.can n).tps.find? (fun x => x.same src etp bam) with
    | some x => s.tpAbort n x 1
    | none => s
  let need := 16 + (size + 3) / 4 * 4
  if size = 0 ∨ (if etp then 1048576 else 1785) < size ∨ 8 ≤ (s.can n).tps.length then s.tpRefuse n src pgn etp bam
  else match s.ringOf (0x20 + n) with
  | none => s.tpRefuse n src pgn etp bam
  | some r =>
    match s.tpBuffer r need (s.ringSize r + 1) with
    | (none, s) => s.tpRefuse n src pgn etp bam
    | (some d, s) =>
      let x : TpS :=
        { src := src, etp := etp, bam := bam, pgn := pgn, prio := idPrio idw, size := size, next := 1, last := (size + 6) / 7
          off := some 0, data := [], ring := r, didx := d.didx, addr := d.addr, due := s.now + 750000000 }
      if bam then s.setTps n ((s.can n).tps ++ [x]) else s.tpCts n x lim

/-- A message is whole: End of Message Acknowledgement, and one record with TP or ETP set. -/
def State.tpDeliver (s : State) (n : Nat) (x : TpS) (ts filt : Nat) : State :=
  let s := s.setTps n ((s.can n).tps.filter (fun z => !z.same x.src x.etp x.bam))
  let s := if x.bam then s
    else s.tpCm n x.src x.etp (if x.etp then leBytes 1 23 ++ leBytes 4 x.size ++ leBytes 3 x.pgn
      else leBytes 1 19 ++ leBytes 2 x.size ++ leBytes 1 x.packets ++ [255] ++ leBytes 3 x.pgn)
  let bs := rxRecord (2 ^ 29 + x.prio * 2 ^ 26 + x.pgn * 256 + x.src) (x.size + (if x.etp then 2 ^ 26 else 2 ^ 25)) ts filt 0
    (x.data.take x.size)
  match s.unitWrite (engine 29) x.addr bs with
  | (true, s) => s.complete x.ring x.didx stOK bs.length
  | (false, s) => s.complete x.ring x.didx stACCESS 0

/-- A data packet to this module or, of a BAM, to all: the one its session expects, a bad sequence, or a duplicate. -/
def State.tpData (s : State) (n idw : Nat) (etp : Bool) (bs : List Byte) (ts filt : Nat) : State :=
  let seq := field bs 0 1
  let bam := decide (idPs idw = 255)
  match (if bam || idPs idw = s.fld (F.CAN_ACSTAT_SA n) then (s.can n).tps.find? (fun x => x.same (idSa idw) etp bam) else none) with
  | none => s
  | some x =>
    match x.off with
    | none => s.tpAbort n x 6
    | some o =>
      let k := o + seq
      if k ≠ x.next then s.tpAbort n x (if k < x.next then 8 else 7)
      else
        let y := { x with next := k + 1, data := x.data ++ padTo 7 (bs.drop 1), due := s.now + 750000000 }
        if x.packets ≤ k then s.tpDeliver n y ts filt
        else if x.last ≤ k && !x.bam then s.tpCts n y 255
        else s.setTps n ((s.can n).tps.map (fun z => if z.same x.src x.etp x.bam then y else z))

/-- A connection management frame received by controller n. -/
def State.tpManage (s : State) (n idw : Nat) (bs : List Byte) : State :=
  let src := idSa idw
  let me := decide (idPs idw = s.fld (F.CAN_ACSTAT_SA n))
  let pgn := field bs 5 3
  let etp := decide (idPf idw = 0xC8)
  match field bs 0 1, etp with
  | 16, false => if me then s.tpBegin n idw (field bs 1 2) pgn (field bs 4 1) false false else s
  | 32, false => if idPs idw = 255 then s.tpBegin n idw (field bs 1 2) pgn 255 false true else s
  | 20, true => if me then s.tpBegin n idw (field bs 1 4) pgn 255 true false else s
  | 22, true =>
    if me then s.setTps n ((s.can n).tps.map (fun x =>
      if x.same src true false && x.pgn = pgn then { x with off := some (field bs 2 3), due := s.now + 750000000 } else x))
    else s
  | 255, _ =>
    if me then
      match (s.can n).tps.find? (fun x => x.same src etp false && x.pgn = pgn) with
      | some x => (s.setTps n ((s.can n).tps.filter (fun y => !y.same src etp false))).complete x.ring x.didx stOK 0
      | none => s
    else s
  | _, _ => s

/-- CAN_TP_ABORT (R435): a session of controller n whose time is over is aborted with the reason for a timeout. -/
def execCanTpAbort (n : Fin 4) (s : State) : Out :=
  match (s.can n).tps.find? (fun x => x.due ≤ s.now) with
  | some x => .next (s.tpAbort n x 3)
  | none => .next s

/-! ### Reception (R426, R429, R431) -/

/-- The filter that decides a frame: the lowest that matches. -/
def State.canFilter (s : State) (n idw : Nat) : Option Nat :=
  (List.range 128).find? (fun f =>
    decide ((idOf idw ^^^ s.fld (F.CAN_FID_ID n f)) &&& s.fld (F.CAN_FMASK_MASK n f) = 0) &&
    (idIde idw == s.flag (F.CAN_FID_IDE n f) || !s.flag (F.CAN_FMASK_IDEM n f)) &&
    !(s.fld (F.CAN_FACT_ACT n f) = 3 && 4 ≤ n))

/-- Whether a frame is an Address Claimed, or a Request for it (R434). -/
def isClaim (idw : Nat) : Bool := idIde idw && idPf idw = 0xEE
def isClaimRequest (idw : Nat) (bs : List Byte) : Bool := idIde idw && idPf idw = 0xEA && field bs 0 3 = 60928

/-- The claim assist sees a frame. -/
def State.claimFrameIn (s : State) (n idw : Nat) (bs : List Byte) : State :=
  if !s.claims n then s
  else if isClaim idw then s.claimSeen n (idSa idw) (field bs 0 8)
  else if isClaimRequest idw bs && (idPs idw = 255 || idPs idw = s.fld (F.CAN_ACSTAT_SA n)) then s.claimAnswer n
  else s

/-- The remote payload of a node, in a frame to this module (R138, Table 5-3), at the slot engine; a TSYNC is another sender's
(R455). -/
def State.nodePayload (s : State) (b node : Nat) (bs : List Byte) : State :=
  match field bs 0 1 with
  | 0x10 => s.tsyncIn (field bs 2 1 % 2 = 1)
  | 0x20 => s.nstatus b node (field bs 4 2) (field bs 6 2) (field bs 8 1 % 2 = 1) (field bs 8 1 / 2 % 2 = 1)
  | 0x21 => s.senseData b node ((List.range (field bs 1 1)).map (fun i =>
      (field bs (4 + 8 * i + 2) 2 % 4096, field bs (4 + 8 * i + 4) 4)))
  | _ => s

/-- A good frame of controller n: the assists, the slot engine, the filters (R426, R432, R434, R435). -/
def State.canGood (s : State) (n : Nat) (f : CanF) (esi : Bool) (ts : Nat) : State :=
  let s := s.claimFrameIn n f.idw f.data
  let s := if idIde f.idw && idFd f.idw && idPf f.idw = 0xEF && s.busUp n && (idPs f.idw = s.slotSa n || idPs f.idw = 255) then
      s.nodePayload n (idSa f.idw) f.data else s
  let len := f.data.length + (if esi then 2 ^ 24 else 0)
  match s.canFilter n f.idw with
  | none =>
    if s.flag (F.CAN_CTL_NOMATCH n) then
      let r := s.drawNat 8
      r.2.canRing n f.idw len ts r.1 f.dlc f.data
    else s
  | some k =>
    match s.fld (F.CAN_FACT_ACT n k) with
    | 0 => s
    | 1 => s.canRing n f.idw len ts k f.dlc f.data
    | 2 => s.mbFrame n (s.fld (F.CAN_FACT_MB n k)) ⟨f.idw, k * 2 ^ 16 + f.dlc * 2 ^ 8 + (if esi then 1 else 0), f.data, ts⟩
    | _ =>
      let tp := s.flag (F.CAN_TPCFG_EN n) && idIde f.idw
      if tp && (idPf f.idw = 0xEC || idPf f.idw = 0xC8) then s.tpManage n f.idw f.data
      else if tp && (idPf f.idw = 0xEB || idPf f.idw = 0xC7) then s.tpData n f.idw (idPf f.idw = 0xC7) f.data ts k
      else if s.claims n && (isClaim f.idw || isClaimRequest f.idw f.data) then s
      else s.canRing n f.idw len ts k f.dlc f.data

/-- A frame (R426, R429, R431) arrives at controller n, good, or with an error (its code; `heavy` where the
counter rises by 8). Remote frames, and FD frames while FDEN is clear, are not received. -/
def State.canFrameRx (s : State) (n : Fin 12) (idw : BitVec 31) (brs rtr esi : Bool) (dlc : Fin 16) (data : List Byte) (ts : Word) (err : Fin 8)
    (heavy : Bool) : State :=
  let st := s.canState n
  if !(st = 1 || st = 2 || st = 5) then s
  else
    let s := s.setCan n { s.can n with idleAt := s.now }
    let rec0 := s.fld (F.CAN_ESTAT_REC n)
    let tec := s.fld (F.CAN_ESTAT_TEC n)
    if err ≠ 0 then
      let s := s.setFld (F.CAN_ESTAT_LEC n) err
      (s.setCan n { s.can n with good := 0 }).canCounters n tec (rec0 + (if heavy then 8 else 1))
    else
      let r := s.drawNat 64
      let s := if 127 < rec0 then r.2.canCounters n tec (119 + r.1 % 9) else s.canCounters n tec (rec0 - 1)
      let fd := idFd idw.toNat
      if fd && !s.flag (F.CAN_CTL_FDEN n) then s
      else
        let s := s.setCan n { s.can n with good := (s.can n).good + 1 }
        let f : CanF := ⟨idw.toNat + (if brs then 2 ^ 31 else 0), dlc, padTo (dlcLen fd dlc) data, false⟩
        let s := if rtr then s else s.canGood n f esi ts.toNat
        if s.canState n = 5 ∧ s.fld (F.CAN_RJCFG_N n) ≤ (s.can n).good then s.canRejoin n else s

/-! ### Register writes -/

/-- A write of a register of a CAN controller. -/
def State.writeCan (s : State) (a : Nat) (w : Word) : State :=
  let n := (a - 0x40800000) / 0x10000
  let o := (a - 0x40800000) % 0x10000
  if o = 0 then s.writeCanCtl n w
  else if 4 ≤ o ∧ o ≤ 0xC then (if s.flag (F.CAN_CTL_EN n) then s.canFlag n F.CAN_STAT_CONFIG else s.writePlain a w)
  else if o = 0x30 then s.writeMbctl n w
  else if 0x1000 ≤ o ∧ o < 0x1300 then s.writeTxb n ((o - 0x1000) / 0x100) a w
  else if 0x8000 ≤ o ∧ 4 ≤ n then s
  else if o = 0x8008 then
    let was := s.claims n
    let s := s.writePlain a w
    if s.claims n && !was && s.flag (F.CAN_CTL_EN n) then s.claimStart n
    else if was && !s.claims n then (s.setFld (F.CAN_ACSTAT_STATE n) 0).setAddr n 254
    else s
  else s.writePlain a w

end Sys2Proof.Machine
end

