-- ==== Sys2Proof/Machine/Ether.lean ====
section
/-! DEFINITION. The Ethernet switch, its ports and the T1S segments (19_buses_network.md, R436-R440; R341). -/

namespace Sys2Proof.Machine

/-! ### Ports -/

/-- Set a flag of ETH_STAT (R442). -/
def State.ethFlag (s : State) (f : Fld) : State := s.raiseFlag f 218

/-- Replace the Ethernet unit's own record. -/
def State.setEth (s : State) (x : Eth) : State := { s with net := { s.net with eth := x } }

/-- Whether port p works: switch and port enabled, link up. -/
def State.portUp (s : State) (p : Nat) : Bool :=
  s.flag F.ETH_CTL_EN && s.flag (F.ETH_PCFG_EN p) && s.flag (F.ETH_PSTAT_LINK p)

/-- The egress queues of T1S port p. -/
def State.ethQueue (s : State) (p : Nat) : List EthQ := SMap.get (fun _ => []) s.net.eth.queues p

/-- Replace the egress queues of T1S port p. -/
def State.setEthQueue (s : State) (p : Nat) (l : List EthQ) : State :=
  s.setEth { s.net.eth with queues := SMap.set (fun _ => []) s.net.eth.queues p l }

/-- Port p has sent a frame. -/
def State.ethSent (s : State) (p : Nat) (frame : List Byte) : State :=
  (s.setEth { s.net.eth with sent := SMap.set (fun _ => []) s.net.eth.sent p frame }).bump (F.ETH_TXCNT_COUNT p)

/-- Bring ACTIVE of T1S segment k in line: PLCA on with 2 opportunities or more, port 8 + k working. A segment that stops
loses its nodes and the frames that wait for it (R432, R440). -/
def State.plcaRefresh (s : State) (k : Nat) : State :=
  let was := s.flag (F.ETH_PLCASTAT_ACTIVE k)
  let on := s.portUp (8 + k) && s.flag (F.ETH_PLCA_EN k) && decide (2 ≤ s.fld (F.ETH_PLCA_NCNT k))
  let s := s.setBit (F.ETH_PLCASTAT_ACTIVE k) on
  if was && !on then
    ({ s with slt := { s.slt with out := s.slt.out.filter (fun r => r.bus ≠ 12 + k) } } : State).busLost (12 + k)
  else s

/-- The speed of a link of port p: that of its PHY, negotiated on SVC (Table 19-5). -/
def portSpeed (p auto : Nat) : Nat := if p < 4 then 2 else if p < 8 then 1 else if p < 10 then 0 else auto

/-- ETH_LINK (R436): the link of an enabled port comes up at a speed, or goes down. -/
def execEthLink (p : Fin 11) (up : Bool) (speed : Fin 3) (s : State) : Out :=
  let was := s.flag (F.ETH_PSTAT_LINK p)
  if up = was ∨ (up ∧ !(s.flag F.ETH_CTL_EN && s.flag (F.ETH_PCFG_EN p))) then .next s
  else
    let s := s.setBit (F.ETH_PSTAT_LINK p) up
    let s := if up then s.setFld (F.ETH_PSTAT_SPEED p) (portSpeed p speed) else s
    let s := (s.ethFlag F.ETH_STAT_LINK_CHG).event 0x1005 [w32 p]
    .next ((s.plcaRefresh 0).plcaRefresh 1)

/-- ETH_PLCA (R440): a beacon of another coordinator, or a collision, on a segment with PLCA on. -/
def execEthPlca (k : Fin 2) (s : State) : Out :=
  if s.flag (F.ETH_PLCASTAT_ACTIVE k) then
    .next (((s.setFld (F.ETH_PLCASTAT_ERR k) 1).ethFlag F.ETH_STAT_PLCA_ERR).event 0x1006 [])
  else .next s

/-! ### Frames: bytes from the destination address, without FCS -/

/-- A big-endian number of bytes of a frame. -/
def beAt (bs : List Byte) (off n : Nat) : Nat := ((bs.drop off).take n).foldl (fun v b => v * 256 + b.toNat) 0

/-- The n bytes of a number, most significant first. -/
def beBytes (n v : Nat) : List Byte := (leBytes n v).reverse

/-- Destination and source address, as numbers of 48 bits, first byte most significant. -/
def ethDst (f : List Byte) : Nat := beAt f 0 6
def ethSrc (f : List Byte) : Nat := beAt f 6 6
/-- Whether a frame carries a VLAN tag. -/
def ethTagged (f : List Byte) : Bool := beAt f 12 2 = 0x8100
/-- Where the EtherType of the payload stands. -/
def ethTypeAt (f : List Byte) : Nat := if ethTagged f then 16 else 12
def ethType (f : List Byte) : Nat := beAt f (ethTypeAt f) 2
/-- A group address: broadcast or multicast. -/
def macGroup (a : Nat) : Bool := a / 2 ^ 40 % 2 = 1
/-- A frame without its tag. -/
def ethUntag (f : List Byte) : List Byte := if ethTagged f then f.take 12 ++ f.drop 16 else f

/-- Where the PTP message of a frame begins: EtherType 0x88F7, or UDP ports 319 and 320 over IPv4 and IPv6 (R341). -/
def ptpAt (f : List Byte) : Option Nat :=
  let o := ethTypeAt f + 2
  let udp (h : Nat) : Option Nat := if beAt f (h + 2) 2 = 319 || beAt f (h + 2) 2 = 320 then some (h + 8) else none
  if ethType f = 0x88F7 then some o
  else if ethType f = 0x0800 ∧ beAt f (o + 9) 1 = 17 then udp (o + 4 * (beAt f o 1 % 16))
  else if ethType f = 0x86DD ∧ beAt f (o + 6) 1 = 17 then udp (o + 40)
  else none

/-- A frame forwarded with a residence time: added to the correctionField of a PTP event message, in 2^-16 ns (R341). -/
def addResidence (f : List Byte) (ns : Nat) : List Byte :=
  match ptpAt f with
  | some o =>
    if beAt f o 1 % 16 ≤ 3 then f.take (o + 8) ++ beBytes 8 ((beAt f (o + 8) 8 + ns * 65536) % 2 ^ 64) ++ f.drop (o + 16) else f
  | none => f

/-! ### The switch (R437) -/

/-- The VLAN entry of a VID. -/
def State.vlanOf (s : State) (vid : Nat) : Option Nat :=
  (List.range 64).find? (fun v => s.flag (F.ETH_VLAN_EN v) && s.fld (F.ETH_VLAN_VID v) = vid)

/-- The VID of a frame from port p, and its class: from the tag's PCP, or the port's PVID and DEFPRIO. -/
def State.ethVid (s : State) (p : Nat) (f : List Byte) : Nat :=
  if ethTagged f then beAt f 14 2 % 4096 else s.fld (F.ETH_PCFG_PVID p)
def State.ethClass (s : State) (p : Nat) (f : List Byte) : Nat :=
  if ethTagged f then s.fld F.ETH_PCPMAP_MAP / 8 ^ (beAt f 14 1 / 32) % 8 else s.fld (F.ETH_PCFG_DEFPRIO p)

/-- The learned addresses in use within AGE s; AGE 0 keeps all (R437). -/
def State.fdbLive (s : State) : List (Nat × Nat × Nat × Nat) :=
  let age := s.fld F.ETH_AGE_AGE
  s.net.eth.fdb.filter (fun e => age = 0 || decide (s.now < e.2.2.2 + 1000000000 * age))

/-- Learn a source address on a port in a VLAN; a full table of 2,048 learns nothing further (R437). -/
def State.fdbLearn (s : State) (mac vid p : Nat) : State :=
  if macGroup mac then s
  else
    let rest := s.fdbLive.filter (fun e => !(e.1 = mac && e.2.1 = vid))
    if rest.length < 2048 then s.setEth { s.net.eth with fdb := rest ++ [(mac, vid, p, s.now)] } else s.ethFlag F.ETH_STAT_FDB_FULL

/-- The port an address was learned on. -/
def State.fdbPort (s : State) (mac vid : Nat) : Option Nat :=
  (s.fdbLive.find? (fun e => e.1 = mac && e.2.1 = vid)).map (fun e => e.2.2.1)

/-- FDB_AGE_OUT (R437): learned addresses unused for AGE s go. -/
def execFdbAgeOut (s : State) : Out := .next (s.setEth { s.net.eth with fdb := s.fdbLive })

/-- The bytes of forwarded frames that the shared buffer holds. -/
def State.ethHeld (s : State) : Nat :=
  (s.ethQueue 8 ++ s.ethQueue 9).foldl (fun n q => if q.desc = none then n + q.frame.length else n) 0

/-- Send a frame out of port p: a T1S port queues it for its transmit opportunity, dropped where the shared 1 MiB buffer is
full; any other port sends it now, with its residence time since it arrived (R341, R437). -/
def State.ethOut (s : State) (p cls arrived : Nat) (frame : List Byte) : State :=
  if !s.portUp p then s
  else if p = 8 ∨ p = 9 then
    (if s.ethHeld + frame.length ≤ 1048576 then s.setEthQueue p (s.ethQueue p ++ [⟨cls, frame, none⟩])
     else s.bump (F.ETH_DROP_COUNT p))
  else s.ethSent p (addResidence frame (s.now - arrived))

/-- The host's address. -/
def State.ethMac (s : State) : Nat :=
  beAt (leBytes 4 (s.reg R.ETH_MAC_LO).toNat ++ leBytes 2 (s.fld F.ETH_MAC_HI_MAC)).reverse 0 6

/-- Whether the host receives a frame from port p (R439). -/
def State.hostTakes (s : State) (p : Nat) (f : List Byte) : Bool :=
  ethDst f = s.ethMac || ethDst f = 2 ^ 48 - 1 || (s.flag F.ETH_CTL_ALLMC && macGroup (ethDst f)) || (ptpAt f).isSome ||
    (ethType f = 0x88B5 && (p = 8 || p = 9)) || s.flag F.ETH_CTL_PROMISC

/-- The host's record of a frame (R439). -/
def hostRecord (p ts : Nat) (f : List Byte) : List Byte :=
  leBytes 2 f.length ++ leBytes 1 p ++ leBytes 1 (if ethTagged f then 1 else 0) ++ leBytes 4 0 ++ leBytes 8 ts ++
    padTo ((f.length + 3) / 4 * 4) f

/-- Deliver a frame to the host on queue 0x40 + p. -/
def State.hostFrame (s : State) (p ts : Nat) (f : List Byte) : State :=
  s.rxDeliver (0x40 + p) (engine 30) (s.fld F.ETH_RXFLUSH_FLUSH) (hostRecord p ts f) (fun s => s.bump (F.ETH_DROP_COUNT p))

/-- Forward a frame from port p within its VLAN entry v: to the port its address was learned on, else to every member. -/
def State.ethForward (s : State) (p v vid ts : Nat) (f : List Byte) : State :=
  let dst := ethDst f
  let member (q : Nat) : Bool := s.fld (F.ETH_VLAN_MEMBER v) / 2 ^ q % 2 = 1
  let untag (q : Nat) : Bool := s.fld (F.ETH_UNTAG_UNTAG v) / 2 ^ q % 2 = 1
  let cls := s.ethClass p f
  let ports := if dst = s.ethMac then []
    else match (if macGroup dst then none else s.fdbPort dst vid) with
      | some q => [q]
      | none => List.range 11
  let s := ports.foldl (fun s q =>
    if q ≠ p ∧ member q then s.ethOut q cls ts (if untag q then ethUntag f else f) else s) s
  if member 11 && s.hostTakes p f then s.hostFrame p ts (if untag 11 then ethUntag f else f) else s

/-- A good frame of 14 to 1,518 bytes (R436, R437, R439) arrives at a working port, stamped with the MTB: it counts, reaches the slot
engine from T1S, is learned and forwarded in its VLAN. -/
def State.ethFrameRx (s : State) (p : Fin 11) (frame : List Byte) (ts : BitVec 64) : State :=
  if !s.portUp p || frame.length < 14 || 1518 < frame.length then s
  else
    let s := s.bump (F.ETH_RXCNT_COUNT p)
    let node := ethSrc frame % 256
    let s := if (p = 8 ∨ p = 9) ∧ ethType frame = 0x88B5 ∧ s.busUp (p + 4) then
        s.nodePayload (p + 4) node (frame.drop (ethTypeAt frame + 2)) else s
    let vid := s.ethVid p frame
    match s.vlanOf vid with
    | none => s
    | some v => (s.fdbLearn (ethSrc frame) vid p).ethForward p v vid ts.toNat frame

/-! ### Sending (R438, R440) -/

/-- The port of a transmit queue. -/
def ethPortOf (q : Nat) : Nat := q - 0x30

/-- Whether a queue is a transmit queue of a working port. -/
def State.ethMay (s : State) (q : Nat) : Bool := 0x30 ≤ q && q ≤ 0x3A && s.portUp (ethPortOf q)

/-- ETH_SEND (R438, opcode 0x01): a frame leaves a port at once with its egress stamp, or waits for the T1S port's
opportunity. -/
def execEthSend (n : Fin 64) (ts : Word) (s : State) : Out :=
  .next (s.queueCmd n s.ethMay 1 [1] (fun s d =>
    let q := s.fld (F.RNG_CFG_QUEUE n)
    let p := ethPortOf q
    let m := s.descMaster n d.didx
    if d.len = 0 then s.complete n d.didx stEMPTY 0
    else if d.len < 14 ∨ 1518 < d.len then s.complete n d.didx stBADLEN 0
    else match s.unitRead (engine 30) d.addr d.len with
    | (none, s) => s.complete n d.didx stACCESS 0
    | (some bs, s) =>
      if 1514 < d.len ∧ !ethTagged bs then s.complete n d.didx stBADLEN 0
      else if !s.permits 14 m .write (q * 4096) then (s.denyAt 14 m .write (q * 4096)).complete n d.didx stACCESS 0
      else
        let f := padTo (max 60 bs.length) bs
        let tsreq := d.arg0 / 256 % 2 = 1
        if p = 8 ∨ p = 9 then s.setEthQueue p (s.ethQueue p ++ [⟨d.arg0 % 8, f, some (n, d.didx, tsreq)⟩])
        else (s.ethSent p f).complete n d.didx stOK (if tsreq then ts.toNat else f.length)))

/-- The position of the frame a T1S port sends next: the highest class, host frames of a class in order. -/
def bestOf : List EthQ → Option EthQ
  | [] => none
  | q :: l =>
    match bestOf l with
    | some r => if q.cls < r.cls then some r else some q
    | none => some q

/-- The frame of the slot engine for a T1S segment (R138, R139): to 03-57-A1-00-00-nn, up to 32 records. -/
def State.slotT1s (s : State) (k : Nat) : Option (List Byte × List OutRec) :=
  match s.slotBatch (12 + k) 32 with
  | [] => none
  | r :: l =>
    let bs := beBytes 6 (0x0357A1000000 + r.node) ++ beBytes 6 s.ethMac ++ [0x88, 0xB5] ++ s.slotPayload (12 + k) (r :: l)
    some (padTo (max 60 bs.length) bs, r :: l)

/-- One frame in the module's opportunity: the slot engine's enter class 7 ahead of the host's (R438). -/
def State.t1sSend (s : State) (k ts : Nat) : State :=
  let p := 8 + k
  let best := bestOf (s.ethQueue p)
  match s.slotT1s k with
  | some (f, l) =>
    if s.permits 14 (engine 10) .write ((0x38 + k) * 4096) then (s.slotSent (12 + k) l).ethSent p f
    else (s.denyAt 14 (engine 10) .write ((0x38 + k) * 4096)).slotDrop l
  | none =>
    match best with
    | none => s
    | some q =>
      let s := (s.setEthQueue p ((s.ethQueue p).erase q)).ethSent p q.frame
      match q.desc with
      | some (r, didx, tsreq) => s.complete r didx stOK (if tsreq then ts else q.frame.length)
      | none => s

/-- Send up to n frames. -/
def State.t1sBurst (s : State) (k ts : Nat) : Nat → State
  | 0 => s
  | n + 1 => State.t1sBurst (s.t1sSend k ts) k ts n

/-- PLCA_BEACON (R440): the module's opportunity of a cycle: up to 1 + BURST frames. -/
def execPlcaBeacon (k : Fin 2) (ts : Word) (s : State) : Out :=
  if s.flag (F.ETH_PLCASTAT_ACTIVE k) then .next (s.t1sBurst k ts.toNat (1 + s.fld (F.ETH_PLCA_BURST k))) else .next s

/-! ### Register writes -/

/-- Ports whose enable or switch enable is gone have no link. -/
def State.ethPorts (s : State) : State :=
  let s := (List.range 11).foldl (fun s p =>
    if s.flag (F.ETH_PSTAT_LINK p) && !(s.flag F.ETH_CTL_EN && s.flag (F.ETH_PCFG_EN p)) then
      ((s.setFld (F.ETH_PSTAT_LINK p) 0).ethFlag F.ETH_STAT_LINK_CHG).event 0x1005 [w32 p]
    else s) s
  (s.plcaRefresh 0).plcaRefresh 1

/-- A write of ETH_PLCAk: NCNT 0 and 1 set CONFIG (Table 19-8); turning PLCA on ends an earlier error. -/
def State.writePlca (s : State) (k : Nat) (w : Word) : State :=
  let was := s.flag (F.ETH_PLCA_EN k)
  let s := s.writePlain (R.ETH_PLCA k) w
  let s := if s.fld (F.ETH_PLCA_NCNT k) < 2 then s.ethFlag F.ETH_STAT_CONFIG else s
  let s := if s.flag (F.ETH_PLCA_EN k) && !was then s.setFld (F.ETH_PLCASTAT_ERR k) 0 else s
  s.plcaRefresh k

/-- A write of a register of the Ethernet unit. -/
def State.writeEth (s : State) (a : Nat) (w : Word) : State :=
  let o := a - 0x40900000
  if o = 0x2000 then s.writePlca 0 w
  else if o = 0x2010 then s.writePlca 1 w
  else
    let s := s.writePlain a w
    if o = 0 ∨ (0x1000 ≤ o ∧ o < 0x1B00 ∧ o % 0x100 = 0) then s.ethPorts else s

end Sys2Proof.Machine
end

