-- ==== Sys2Proof/Machine/Rings.lean ====
section
/-! DEFINITION. Rings, doorbells, completions and the table doorbell (02_rings_tables_access.md, R31-R48, R544). -/

namespace Sys2Proof.Machine

/-- The queues of Table 2-1 that are not reserved. -/
def validQueue (q : Nat) : Bool :=
  q ≤ 0x0B || (0x10 ≤ q && q ≤ 0x1B) || (0x20 ≤ q && q ≤ 0x2B) || (0x30 ≤ q && q ≤ 0x3A) ||
  (0x40 ≤ q && q ≤ 0x4A) || (0x50 ≤ q && q ≤ 0x59) || q = 0x5C || q = 0x60

/-- The window base of the absent unit a queue belongs to (R6, Table 0-1). -/
def Part.absentQueue (p : Part) (q : Nat) : Option Nat :=
  if q = 0x0B then p.absentWindow 0x40500000
  else if 0x50 ≤ q ∧ q ≤ 0x53 then p.absentWindow 0x40600000
  else if 0x54 ≤ q ∧ q ≤ 0x57 then p.absentWindow 0x40680000
  else if q = 0x58 ∨ q = 0x59 then p.absentWindow 0x40700000
  else if q = 0x5C then p.absentWindow 0x40A00000
  else none

/-- Whether another ring has the queue: enabled on it, or still finishing a stop (R31). -/
def State.queueTaken (s : State) (n q : Nat) : Bool :=
  (List.range 64).any (fun m => m ≠ n && (((s.ring m).queue = q && s.fld (F.RNG_CFG_SIZE m) ≠ 0) ||
    (s.ring m).inflight.any (fun e => e.last && e.queue = q)))

/-- The descriptors of ring n not yet started, oldest first, that a stop completes: each ABORTED, or, from a denied
fetch on, one ACCESS with TAG 0 and nothing further, with the address denied (R38, R544). -/
def State.abortList (s : State) (n lg : Nat) : Nat → Nat → List Inflight × Option Nat
  | 0, _ => ([], none)
  | k + 1, i =>
    let a := s.descAddr n lg i
    let r := s.ring n
    match s.firstDenied (engine 17) .read a 32 with
    | some b => ([⟨{ decodeDesc i [] with tag := 0 }, some (stACCESS, 0), s.short, r.cring, r.queue, false⟩], some b)
    | none =>
      let (l, dn) := State.abortList s n lg k (next32 i)
      (⟨decodeDesc i (s.bytes a 32), some (stABORTED, 0), s.short, r.cring, r.queue, false⟩ :: l, dn)

/-- Stop ring n, which had 2^lg entries: started descriptors finish, the others complete ABORTED in order;
ABORT_DONE when nothing is left (R38, R39). RNG_HWn takes RNG_DBn at once, and a completion ring, which has nothing to finish,
sets no ABORT_DONE (log entry 16). -/
def State.stopRing (s : State) (n lg : Nat) : State :=
  let s := (s.setFld (F.RNG_CFG_SIZE n) 0).setFld (F.RNG_STAT_ACTIVE n) 0
  let r := s.ring n
  if lg = 0 ∨ r.queue = 0 then s.refreshRings n
  else
    let cnt := (s.ringDb n + (2 ^ 32 - s.ringHw n)) % 2 ^ 32
    let (l, dn) := s.abortList n lg cnt (s.ringHw n)
    let s := match dn with
      | some b => (s.deny (engine 17) .read b).ringFlag (F.RNG_STAT_FETCH_ERR n) n true
      | none => s
    let s := s.setFld (F.RNG_HW_IDX n) (s.ringDb n)
    let left := markLast (r.inflight ++ l)
    let s := s.setRing n { r with inflight := left }
    let s := if left.isEmpty then s.setFld (F.RNG_STAT_ABORT_DONE n) 1 else s
    s.refreshRings n

/-- Enable or bind ring n with a written RNG_CFGn (R31, R32, R39): CFG_ERR, BIND_CONFLICT or an absent unit's queue
leave SIZE at 0. The size is judged before the queue, and SIZE 0 binds nothing, so neither records an access to an absent unit
(log entry 16). -/
def State.bindRing (s : State) (n : Nat) : State :=
  let size := s.fld (F.RNG_CFG_SIZE n)
  let q := s.fld (F.RNG_CFG_QUEUE n)
  let c := s.fld (F.RNG_CFG_CRING n)
  let off (s : State) : State := ((s.setFld (F.RNG_CFG_SIZE n) 0).setFld (F.RNG_STAT_ACTIVE n) 0).refreshRings n
  if size < 4 ∨ 16 < size ∨ !validQueue q then (off s).ringFlag (F.RNG_STAT_CFG_ERR n) n true
  else match s.part.absentQueue q with
  | some base => (off s).absentAccess base
  | none =>
    if q ≠ 0 ∧ s.queueTaken n q then (off s).ringFlag (F.RNG_STAT_BIND_CONFLICT n) n true
    else if q ≠ 0 ∧ s.fld (F.RNG_CFG_QUEUE c) ≠ 0 then (off s).ringFlag (F.RNG_STAT_CFG_ERR n) n true
    else
      let r := s.ring n
      let s := s.setRing n { r with start := s.ringHw n, queue := q, cring := c, masters := [] }
      (s.setFld (F.RNG_STAT_ACTIVE n) 1).refreshRings n

/-- A write of RNG_CFGn (R38): SIZE 0 stops the ring at any time and keeps QUEUE and CRING while work is pending;
any other write is taken only while RNG_HWn equals RNG_DBn. -/
def State.writeRngCfg (s : State) (n : Nat) (w : Word) : State :=
  let a := R.RNG_CFG n
  let new := writtenWord a (s.locked a) (s.reg a) w
  let lg := s.fld (F.RNG_CFG_SIZE n)
  if (F.RNG_CFG_SIZE n).get w = 0 then
    let changes := (F.RNG_CFG_QUEUE n).get new ≠ s.fld (F.RNG_CFG_QUEUE n) || (F.RNG_CFG_CRING n).get new ≠ s.fld (F.RNG_CFG_CRING n)
    if changes && s.ringHw n ≠ s.ringDb n then (s.stopRing n lg).setFld (F.RNG_STAT_CFG_BUSY n) 1
    else
      let t := s.stopRing n lg
      t.setReg a ((F.RNG_CFG_SIZE n).put new 0)
  else if s.ringHw n ≠ s.ringDb n then s.setFld (F.RNG_STAT_CFG_BUSY n) 1
  else (s.setReg a new).bindRing n

/-- A write of RNG_DBn (R35): a producer index of a work ring, a consumer index of a completion ring; a value out of
order sets DB_ERR and leaves the previous one. -/
def State.writeRngDb (s : State) (acc : Acc) (n : Nat) (v : Nat) : State :=
  let d := sdiff32 v (s.ringDb n)
  if d = 0 then s
  else if s.fld (F.RNG_CFG_QUEUE n) = 0 then
    if d < 0 ∨ sdiff32 (s.ringHw n) v < 0 then s.ringFlag (F.RNG_STAT_DB_ERR n) n true
    else (s.setFld (F.RNG_DB_IDX n) v).refreshRings n
  else if d < 0 ∨ (s.ringSize n : Int) < sdiff32 v (s.ringHw n) then s.ringFlag (F.RNG_STAT_DB_ERR n) n true
  else
    let r := s.ring n
    (s.setFld (F.RNG_DB_IDX n) v).setRing n
      { r with masters := r.masters.filter (fun p => 0 < sdiff32 p.1 (s.ringHw n)) ++ [(v, acc)] }

/-- A write of RNG_TDB (R46): queue the reload of a range; table 7 and COUNT 0 do nothing; a 17th waiting doorbell
is dropped with TDB_BUSY; indices beyond the table set RANGE. -/
def State.takeTdb (s : State) (w : Word) : State :=
  let t := F.RNG_TDB_TABLE.get w
  let cnt := F.RNG_TDB_COUNT.get w
  let first := F.RNG_TDB_FIRST.get w
  let size := (tableSize t).1
  if cnt = 0 ∨ t = 7 then s
  else if 16 ≤ (s.tableJobs.tail.filter (fun j => !j.full)).length then s.tableFlag (F.RNG_TSTAT_TDB_BUSY t) t
  else
    let s := if size < first + cnt then s.tableFlag (F.RNG_TSTAT_RANGE t) t else s
    let cnt := min cnt (size - first)
    if cnt = 0 then s
    else ({ s with tableJobs := s.tableJobs ++ [⟨t, first, cnt, false⟩] } : State).refreshTables

/-- A write of RNG_TDB by a master: tables 0 and 6 of a joining or STANDBY module are its partner's to reload (R457). -/
def State.writeTdb (s : State) (w : Word) : State :=
  if F.RNG_TDB_TABLE.get w = 0 ∨ F.RNG_TDB_TABLE.get w = 6 then s.ifOwn (fun s => s.takeTdb w) else s.takeTdb w

/-! ### The commands -/

/-- RING_CONFIGURE (R31, R32, R38, R39). -/
def execRingConfigure (acc : Acc) (n : Fin 64) (value : Word) (s : State) : Out :=
  .next (s.guardWrite acc (R.RNG_CFG n) (fun s => s.writeRngCfg n value))

/-- RING_STOP (R38): a write of SIZE 0, the other bits of the word as given. -/
def execRingStop (acc : Acc) (n : Fin 64) (value : Word) (s : State) : Out :=
  .next (s.guardWrite acc (R.RNG_CFG n) (fun s => s.writeRngCfg n ((F.RNG_CFG_SIZE n).put value 0)))

/-- RING_DOORBELL (R35). -/
def execRingDoorbell (acc : Acc) (n : Fin 64) (idx : Word) (s : State) : Out :=
  .next (s.guardWrite acc (R.RNG_DB n) (fun s => s.writeRngDb acc n idx.toNat))

/-- COMPLETION_DOORBELL (R35): the doorbell of a completion ring holds the consumer index. -/
def execCompletionDoorbell (acc : Acc) (n : Fin 64) (idx : Word) (s : State) : Out :=
  .next (s.guardWrite acc (R.RNG_DB n) (fun s => s.writeRngDb acc n idx.toNat))

/-- DESCRIPTOR_FETCH_DENIED (R544): the next descriptor's fetch is denied; it completes ACCESS with TAG 0, the ring
stops, the descriptors after it are discarded, FETCH_ERR sets. -/
def execDescriptorFetchDenied (n : Fin 64) (s : State) : Out :=
  if s.ringReady n then
    match s.fetchDenied n with
    | none => .next s
    | some b =>
      let i := s.ringHw n
      let s := s.deny (engine 17) .read b
      let s := s.ringFlag (F.RNG_STAT_FETCH_ERR n) n true
      let r := s.ring n
      let s := s.setFld (F.RNG_HW_IDX n) (s.ringDb n)
      let s := (s.setFld (F.RNG_CFG_SIZE n) 0).setFld (F.RNG_STAT_ACTIVE n) 0
      let s := s.setRing n { r with
        inflight := markLast (r.inflight ++
          [⟨{ decodeDesc i [] with tag := 0 }, some (stACCESS, 0), s.short, r.cring, r.queue, false⟩]) }
      .next (s.refreshRings n)
  else .next s

/-- NOP (R33): opcode 0x00 on any queue completes OK. -/
def execNop (n : Fin 64) (s : State) : Out :=
  match s.nextDesc n with
  | some d => if d.op = 0 then .next ((s.startDesc n d).complete n d.didx stOK 0) else .next s
  | none => .next s

/-- The 16 bytes of a completion entry (Table 2-3). -/
def completionBytes (d : Desc) (status n phase result stamp : Nat) : List Byte :=
  leBytes 2 d.tag ++ leBytes 1 status ++ leBytes 1 (n + 128 * phase) ++ leBytes 4 result ++ leBytes 4 d.didx ++ leBytes 4 stamp

/-- PHASE of the next entry of completion ring c: 1 on the first pass after enabling, inverted on each wrap. -/
def State.phase (s : State) (c : Nat) : Nat :=
  let size := s.ringSize c
  let start := (s.ring c).start
  if ((start % size + (s.ringHw c + (2 ^ 32 - start)) % 2 ^ 32) / size) % 2 = 0 then 1 else 0

/-- Count an IRQ completion of ring n: at COUNT the completion interrupt (R42). -/
def State.countIrq (s : State) (n : Nat) : State :=
  let r := s.ring n
  let k := r.irqCount + 1
  if s.fld (F.RNG_COAL_COUNT n) ≠ 0 ∧ s.fld (F.RNG_COAL_COUNT n) ≤ k then
    (s.setRing n { r with irqCount := 0, irqSince := none }).pend n
  else s.setRing n { r with irqCount := k, irqSince := if r.irqCount = 0 then some s.now else r.irqSince }

/-- Write the front completion of ring n to its completion ring c, the one its ring was enabled with: the entry as master 17, RNG_HWc moves on, the
interrupt count, and ABORT_DONE after the last completion of a stopped ring (R34, R37, R39, R42). -/
def State.writeCompletion (s : State) (n : Nat) (e : Inflight) (rest : List Inflight) (status result : Nat) : State :=
  let r := s.ring n
  let c := e.cring
  let bs := completionBytes e.desc status n (s.phase c) result e.stamp
  let a := s.ringBase c + 16 * (s.ringHw c % s.ringSize c)
  let s := (s.unitWrite (engine 17) a bs).2
  let s := s.setFld (F.RNG_HW_IDX c) (next32 (s.ringHw c))
  let s := s.setRing n { r with inflight := rest }
  let s := if e.last then s.setFld (F.RNG_STAT_ABORT_DONE n) 1 else s
  let s := if e.desc.irq then s.countIrq n else s
  s.refreshRings c

/-- COMPLETION_WRITE (R34, R37): the oldest started descriptor of ring n is complete and its completion ring has room. -/
def execCompletionWrite (n : Fin 64) (s : State) : Out :=
  match (s.ring n).inflight with
  | e :: rest =>
    match e.res with
    | some (status, result) =>
      if s.ringAccepts e.cring then .next (s.writeCompletion n e rest status result) else .next s
    | none => .next s
  | [] => .next s

/-- COALESCE_TIMEOUT (R42): TIME µs since the first uncounted IRQ completion. -/
def execCoalesceTimeout (n : Fin 64) (s : State) : Out :=
  match (s.ring n).irqSince with
  | some t =>
    if s.fld (F.RNG_COAL_TIME n) ≠ 0 ∧ s.elapsed t (1000 * s.fld (F.RNG_COAL_TIME n)) then
      .next ((s.setRing n { s.ring n with irqCount := 0, irqSince := none }).pend n)
    else .next s
  | none => .next s

/-- TABLE_DOORBELL (R46). -/
def execTableDoorbell (acc : Acc) (value : Word) (s : State) : Out :=
  .next (s.guardWrite acc R.RNG_TDB (fun s => s.writeTdb value))

end Sys2Proof.Machine
end

