-- ==== Sys2Proof/Machine/Tandem.lean ====
section
/-! DEFINITION. The Tandem unit: link, heartbeat, takeover, mirroring, joining and the Ecrek queue (20_tandem.md). -/

namespace Sys2Proof.Machine

/-- Change the Tandem record. -/
def State.updTdm (s : State) (f : Tdm → Tdm) : State := { s with tdm := f s.tdm }

/-- MOD_VARIANT.CODE of an ordering code (Table 0-2). -/
def codeNum : OrderCode → Nat
  | .f => 1 | .a => 2 | .c => 3 | .d => 4

/-- Bring the PARTNER time input up to date (Table 14-1). -/
def State.partnerTime (s : State) (ok : Bool) : State :=
  if s.tim.partnerValid = ok then s else ({ s with tim := { s.tim with partnerValid := ok } } : State).timInputs

/-! ### Link (R448, R451) -/

/-- The width code of healthy lanes: the highest of 4, 2 and 1 (R448). -/
def laneWidth (m : Nat) : Nat :=
  let k := ((List.range 4).filter (fun l => m / 2 ^ l % 2 = 1)).length
  if k = 4 then 3 else if 2 ≤ k then 2 else k

/-- The join starts again from step 1 (R465). -/
def State.joinAgain (s : State) : State :=
  let s := s.updTdm (fun x => { x with joinDue := false, mirror := false, rejoin := false })
  (s.setFld F.TDM_STATE_READY 0).pairTo psJOINING

/-- The link goes down: LINK_CHG, TDM_LINK; SENDs complete ABORTED (R466), a join that is not complete breaks off (R465). -/
def State.linkDown (s : State) : State :=
  if !s.flag F.TDM_LINK_UP then s
  else
    let s := ((s.setFld F.TDM_LINK_UP 0).setFld F.TDM_LINK_WIDTH 0).setFld F.TDM_LINK_LANEMASK 0
    let s := (s.tdmFlag F.TDM_STAT_LINK_CHG).event 0x1102 []
    let gone := s.tdm.sends
    let s := s.updTdm (fun x => { x with formed := false, mirror := false, sends := [], retryAt := s.now })
    let s := gone.foldl (fun s p => s.complete p.1 p.2 stABORTED 0) s
    let s := s.partnerTime false
    if s.pairState = psJOINING ∨ (s.pairState = psSTANDBY ∧ !s.flag F.TDM_STATE_READY) then s.joinAgain else s

/-- Whether a partner's wiring map is this module's. -/
def State.sameWiring (s : State) (p : TdmPeer) : Bool :=
  p.sol.toNat = s.fld F.TDM_WIRE_SOL_BANKS &&
    [0, 1, 2].all (fun w => p.hs.toNat / 2 ^ (32 * w) % 2 ^ 32 = s.fld (F.TDM_WIRE_HS_CHANNELS w)) &&
    [0, 1].all (fun w => p.dio.toNat / 2 ^ (32 * w) % 2 ^ 32 = s.fld (F.TDM_WIRE_DIO_POINTS w))

/-- The roles once both modules hear each other (R446, R453, R455). Two modules that both lead are in conflict; a STANDBY whose link
comes up again to a partner that leads has missed frames of the mirror and joins again (log entry 63). -/
def State.pairRoles (s : State) (p : TdmPeer) : State :=
  let q := p.pstate.val
  if s.pairState = psOFF then
    if q = psOFF then s.pairTo (if s.part.sideB then psJOINING else psACTIVE)
    else if q = psSOLO ∨ q = psSTANDBY ∨ q = psACTIVE then s.pairTo psJOINING
    else s
  else if s.leads then (if q = psSOLO ∨ q = psACTIVE then s.conflictWith p.term.toNat else s)
  else if s.pairState = psSTANDBY ∧ (q = psSOLO ∨ q = psACTIVE) ∧ !s.tdm.mirror then s.joinAgain
  else s

/-- The identity and wiring check (R451): a pair is formed, or MISMATCH (with WIRE_ERR for the wiring) and TDM_MISMATCH with
both codes. -/
def State.identify (s : State) (p : TdmPeer) : State :=
  let same := p.code = s.part.code && s.part.code ≠ .d
  if same && s.sameWiring p then
    let s := s.updTdm (fun x => { x with formed := true, heard := true, lost := false, pTerm := p.term.toNat, hbSeen := s.now })
    (s.setFld F.TDM_STATE_PPSTATE p.pstate).pairRoles p
  else
    let s := s.tdmFlag F.TDM_STAT_MISMATCH
    let s := if same then s.tdmFlag F.TDM_STAT_WIRE_ERR else s
    (s.updTdm (fun x => { x with formed := false })).event 0x1104 [w32 (codeNum s.part.code), w32 (codeNum p.code)]

/-- The link trains on lanes, while EN is 1 (R448): LINK_CHG, TDM_LINK, and the identity exchange. -/
def State.linkUp (s : State) (lanes : Nat) (p : TdmPeer) : State :=
  if !s.flag F.TDM_CTL_EN ∨ lanes = 0 ∨ s.flag F.TDM_LINK_UP then s
  else
    let s := ((s.setFld F.TDM_LINK_UP 1).setFld F.TDM_LINK_WIDTH (laneWidth lanes)).setFld F.TDM_LINK_LANEMASK lanes
    ((s.tdmFlag F.TDM_STAT_LINK_CHG).event 0x1102 []).identify p

/-- TDM_LANE (R448): block errors of lane l in 1 s, of 156.25 million blocks: above 10^-6 the lane is removed; with none
left the link is down. -/
def execTdmLane (l : Fin 4) (errors : Word) (s : State) : Out :=
  let m := s.fld F.TDM_LINK_LANEMASK
  if s.flag F.TDM_LINK_UP && m / 2 ^ l.val % 2 = 1 then
    let s := s.bump (F.TDM_LANEERR_COUNT l) errors.toNat
    if errors.toNat ≤ 156 then .next s
    else
      let m := m - 2 ^ l.val
      let s := (s.setFld F.TDM_LINK_LANEMASK m).setFld F.TDM_LINK_WIDTH (laneWidth m)
      let s := (s.tdmFlag F.TDM_STAT_LANE).event 0x1103 []
      .next (if m = 0 then s.linkDown else s)
  else .next s

/-- LINK_TIME_MEASURE (R450, R461), every 1 ms: the partner's MTB minus this one's in ns, its rate in 10^-12, the partner's own pair
time offset, and whether its TIM is LOCKED or in HOLDOVER. A module that joins or follows takes pair time from it. -/
def execLinkTimeMeasure (ofs : BitVec 64) (rate : BitVec 32) (pofs : BitVec 64) (locked : Bool) (s : State) : Out :=
  if s.tdm.formed && s.due s.tdm.measAt 1000000 then
    let s := s.updTdm (fun x => { x with ofs := ofs.toInt, rate := rate.toInt, measAt := s.now })
    let s := if s.mirrorOnly then
        (s.setReg64 R.TDM_PTOFS_LO R.TDM_PTOFS_HI (toBits 64 (ofs.toInt + pofs.toInt))).updTdm (fun x => { x with
          pRate := rate.toInt, pAt := s.now })
      else s
    .next (s.partnerTime (locked && s.fld F.TDM_STATE_PPSTATE = psACTIVE))
  else .next s

/-- The partner's MTB minus own now: as measured, moved on at its rate (R450). -/
def State.linkOfs (s : State) : Int := s.tdm.ofs + s.tdm.rate * ((s.now : Int) - s.tdm.measAt) / 10 ^ 12

/-- An instant of the partner's MTB in own MTB (R73, R457). -/
def State.ownInst (s : State) (t : Nat) : Nat := ((t : Int) - s.linkOfs).toNat

/-! ### Heartbeat and takeover (R452-R456) -/

/-- SOLO_ENTRY (R446): EN has been 1 for 100 ms and no partner heard. -/
def execSoloEntry (s : State) : Out :=
  if s.flag F.TDM_CTL_EN && s.pairState = psOFF && !s.tdm.heard && s.elapsed s.tdm.enAt 100000000 then .next (s.pairTo psSOLO)
  else .next s

/-- HEARTBEAT_SEND (R452): at a multiple of 1 ms, in SOLO, STANDBY, PENDING or ACTIVE: a frame leaves, TDM_HBO toggles. -/
def execHeartbeatSend (s : State) : Out :=
  let p := s.pairState
  if s.due s.tdm.hbAt 1000000 then
    let s := s.updTdm (fun x => { x with hbAt := s.now / 1000000 * 1000000 })
    .next (if p = psSOLO ∨ p = psSTANDBY ∨ p = psPENDING ∨ p = psACTIVE then s.updTdm (fun x => { x with hbo := !x.hbo }) else s)
  else .next s

/-- The position of the takeover axis now. -/
def State.tkPos (s : State) : Int := s.axPos (s.fld F.TDM_TKCFG_AXIS) s.now

/-- The records of the issue list after a takeover (R462): each takes the pending input of its endpoint of its level that lies
nearest its ACT; the others have none and are withdrawn. -/
def State.adoptIssue (s : State) : State :=
  let pick (s : State) (used : List (Nat × EdgeSrc)) (i : Issue) : Option Edge :=
    let c := (s.ep i.ep).cfg
    let t := s.ept.tickAt
    let l := (s.slt.armed.filter (fun a => a.ep = i.ep)).map (fun a => (a.edge, a.at_)) ++
      s.pendings i.ep t (max i.act (t + 1000000 * eLead c) + 500000)
    let l := l.filter (fun p => p.1.on = i.level && !used.contains (i.ep, p.1.src) && (match p.1.src with
      | .dec _ => true | .slot _ _ => true | .carry _ => true | _ => false))
    (l.foldl (fun (m : Option (Edge × Nat)) p => match m with
      | some q => if ((p.2 : Int) - i.act).natAbs < ((q.2 : Int) - i.act).natAbs then some p else m
      | none => some p) none).map (·.1)
  let s := (s.slt.issue.foldl (fun (r : List (Nat × EdgeSrc) × List Issue) i =>
      if i.fired ∨ i.gone ∨ i.edge.src ≠ .align then (r.1, r.2 ++ [i])
      else match pick s r.1 i with
        | some g => ((i.ep, g.src) :: r.1, r.2 ++ [{ i with edge := g }])
        | none => (r.1, r.2 ++ [i])) (([], []) : List (Nat × EdgeSrc) × List Issue)).2 |> fun l => { s with slt := { s.slt with issue := l } }
  ((s.slt.issue.map (·.ep)).eraseDups).foldl (fun s e => s.withdraw e (fun i => i.edge.src = .align)) s

/-- The module takes over, after a loss or in a handover (R453, R454, R456, R462): TERM, ACTIVE, the mask goes, loops
transfer, TSYNC leaves. -/
def State.takeOver (s : State) (hand : Bool) : State :=
  let s := ((s.setFld F.TDM_STATE_TERM (s.term + 1)).setFld F.TDM_STATE_READY 0).bump F.TDM_TKOCNT_COUNT
  let s := s.updTdm (fun x => { x with
    tk := none, orphan := false, mirror := false, joinDue := false, rejoin := false, splits := [], odos := [] })
  let s := (s.heldOff.pairTo psACTIVE).adoptIssue
  let s := s.maskOff hand
  let s := (SMap.keys s.brd.loops).foldl (fun s n => if (s.bloop n).on then s.setLoop n { s.bloop n with xfer := true } else s) s
  ({ s with slt := { s.slt with followed := List.range 14 } } : State).sendTsync

/-- Record D_a and the partner's positions (whole counts) as mirroring begins (R458). -/
def State.captureOffsets (s : State) (pos : List (Fin 8 × BitVec 64)) : State :=
  let s := s.updTdm (fun x => { x with ppos := pos.foldl (fun m p => SMap.set (fun _ => 0) m p.1.val (p.2.toInt * 2 ^ 16)) x.ppos })
  (pos.map (fun p => (p.1.val, p.2.toInt))).foldl (fun s p =>
    if s.axState p.1 = axDISABLED then s
    else
      let d := p.2 - s.axPos p.1 s.now / 2 ^ 16
      (s.setReg64 (R.TDM_AXOFF_LO p.1) (R.TDM_AXOFF_HI p.1) (toBits 64 d)).setReg (R.TDM_AXDIV p.1) 0) s

/-- The old ACTIVE hands over (R456): STANDBY, masked, READY again 2 s later. -/
def State.handOff (s : State) (pos : List (Fin 8 × BitVec 64)) : State :=
  let s := ((s.setFld F.TDM_STATE_TERM (s.term + 1)).setFld F.TDM_STATE_READY 0).bump F.TDM_TKOCNT_COUNT
  let s := s.updTdm (fun x => { x with tk := none, mirror := true, cleanAt := s.now })
  (s.pairTo psSTANDBY).captureOffsets pos

/-- A STANDBY cannot take over (R453): NOTREADY and its event. -/
def State.notReady (s : State) : State :=
  ((s.updTdm (fun x => { x with tk := none, orphan := true })).tdmFlag F.TDM_STAT_NOTREADY).event 0x1106 []

/-- Whether three periods of 1 ms of the MTB have passed without the partner's heartbeat (R452). -/
def State.hbOver (s : State) : Bool := decide (s.tdm.hbSeen / 1000000 + 4 ≤ s.now / 1000000)

/-- HB_LOST (R452, R453): three periods without the partner's heartbeat. -/
def execHbLost (s : State) : Out :=
  if !s.flag F.TDM_CTL_EN ∨ !s.tdm.heard ∨ s.tdm.lost ∨ s.pairState = psOFF ∨ !s.hbOver then .next s
  else
    let s := (s.updTdm (fun x => { x with lost := true })).tdmFlag F.TDM_STAT_HB_LOST
    let s := s.partnerTime false
    if s.pairState = psSTANDBY then
      if s.flag F.TDM_STATE_READY && s.flag F.TDM_CTL_TKEN then
        .next ((s.updTdm (fun x => { x with tk := some (s.now, s.tkPos, false) })).pairTo psPENDING)
      else .next s.notReady
    else if s.pairState = psACTIVE then .next (s.updTdm (fun x => { x with mirror := false, tk := none }))
    else if s.pairState = psJOINING then .next s.joinAgain
    else .next s

/-- Whether the takeover point that follows an entry at t0 and an axis position has come (R454). -/
def State.tkPoint (s : State) (t0 : Nat) (p0 : Int) : Bool :=
  let a := s.fld F.TDM_TKCFG_AXIS
  let w := s.fld F.TDM_TKWAIT_TKWAIT
  let k : Int := (s.fld F.TDM_TKCFG_PITCH : Int) * 2 ^ 16
  let p := s.tkPos
  if w = 0 then decide (t0 < s.ept.tickAt)
  else s.elapsed t0 (1000000 * w) ||
    (k ≠ 0 && (s.axState a = axRUN || s.axState a = axBLEND) && !s.flag (F.STR_AXSTAT_STILL a) &&
      (decide (p0 / k < p / k) || decide ((-p0) / k < (-p) / k)))

/-- TAKEOVER (R453, R454, R456): the takeover point has come. `pos` is what the partner counts on its axes, for the module that
follows from here on. -/
def execTdmTakeover (pos : List (Fin 8 × BitVec 64)) (s : State) : Out :=
  match s.tdm.tk with
  | none => .next s
  | some (t0, p0, hand) =>
    if !s.tkPoint t0 p0 then .next s
    else if s.pairState = psACTIVE then .next (s.handOff pos)
    else if s.pairState = psPENDING ∧ !(s.flag F.TDM_STATE_READY && s.flag F.TDM_CTL_TKEN) then .next (s.notReady.pairTo psSTANDBY)
    else if s.pairState = psPENDING ∨ s.pairState = psSTANDBY then .next (s.takeOver hand)
    else .next (s.updTdm (fun x => { x with tk := none }))

/-! ### Registers (R446, R456, R465, R469) -/

/-- EN is cleared: OFF, the link down, the outputs as of a single module. -/
def State.tdmOff (s : State) : State :=
  let was := s.tdmMasked
  let s := if was then s.heldOff else s
  let s := (s.pairTo psOFF).linkDown
  let s := s.updTdm (fun x => { Tdm.init with
    enAt := x.enAt, hbo := x.hbo, hbAt := x.hbAt, pRate := x.pRate, pAt := x.pAt })
  let s := s.setFld F.TDM_STATE_READY 0
  if was then s.maskOff false else s

/-- EN goes from one value to another. -/
def State.tdmEn (s : State) (was now : Bool) : State :=
  if !was && now then s.updTdm (fun x => { x with enAt := s.now, heard := false })
  else if was && !now then s.tdmOff
  else s

/-- JOIN is written 1 (Table 20-4). -/
def State.tdmJoinBit (s : State) : State :=
  if s.pairState = psJOINING ∧ s.tdm.formed then s.updTdm (fun x => { x with joinDue := true, joinAt := s.now }) else s

/-- HANDOVER is written 1 (R456). -/
def State.tdmHandBit (s : State) : State :=
  if s.pairState ≠ psACTIVE then s
  else if s.tdm.formed && s.tdm.pReady && !s.tdm.lost then s.updTdm (fun x => { x with tk := some (s.now, s.tkPos, true) })
  else s.tdmFlag F.TDM_STAT_NOTREADY

/-- A write of TDM_CTL: EN, JOIN and HANDOVER. -/
def State.writeTdmCtl (s : State) (w : Word) : State :=
  let was := s.flag F.TDM_CTL_EN
  let s := s.writePlain R.TDM_CTL w
  let s := s.tdmEn was (s.flag F.TDM_CTL_EN)
  let s := if F.TDM_CTL_JOIN.get w = 1 then s.tdmJoinBit else s
  if F.TDM_CTL_HANDOVER.get w = 1 then s.tdmHandBit else s

/-- A register write in the TDM window. -/
def State.writeTdm (s : State) (a : Nat) (w : Word) : State := if a = R.TDM_CTL then s.writeTdmCtl w else s.writePlain a w

/-- TDM_ENABLE (R446): a write of TDM_CTL with EN 1. -/
def execTdmEnable (acc : Acc) (value : Word) (s : State) : Out :=
  .next (s.guardWrite acc R.TDM_CTL (fun s => s.writeTdmCtl (F.TDM_CTL_EN.put value 1)))

/-- HANDOVER (R456): a write of TDM_CTL with HANDOVER 1. -/
def execTdmHandover (acc : Acc) (value : Word) (s : State) : Out :=
  .next (s.guardWrite acc R.TDM_CTL (fun s => s.writeTdmCtl (F.TDM_CTL_HANDOVER.put value 1)))

/-- JOIN (R465): a write of TDM_CTL with JOIN 1. -/
def execTdmJoin (acc : Acc) (value : Word) (s : State) : Out :=
  .next (s.guardWrite acc R.TDM_CTL (fun s => s.writeTdmCtl (F.TDM_CTL_JOIN.put value 1)))

/-! ### Mirroring (R457-R460) -/

/-- MIRROR_START (R458, R465): the stride tick after the JOIN, at which mirroring begins; `pos` is what the partner counts on its axes. -/
def execMirrorStart (pos : List (Fin 8 × BitVec 64)) (s : State) : Out :=
  if s.tdm.joinDue && s.pairState = psJOINING && s.tdm.formed && !s.tdm.lost && s.tdm.joinAt < s.now && s.now = s.str.tickAt then
    let s := s.captureOffsets pos
    let s := s.setFld F.TDM_STATE_TERM s.tdm.pTerm
    let s := s.updTdm (fun x => { x with joinDue := false, mirror := true, cleanAt := s.now, rejoin := true, orphan := false })
    .next (({ s with slt := { s.slt with issue := [] } } : State).pairTo psSTANDBY)
  else .next s

/-- READY_SET (R458, R465): 2 s of mirroring without divergence, every endpoint in IN or OUT. -/
def execReadySet (s : State) : Out :=
  let diverged (a : Nat) : Bool := decide (s.fld F.TDM_AXTOL_TOL < (s.fldInt (F.TDM_AXDIV_DIV a)).natAbs)
  if s.pairState = psSTANDBY && s.tdm.mirror && s.tdm.formed && s.elapsed s.tdm.cleanAt 2000000000 && !(List.range 8).any diverged &&
      s.ept.eps.all (fun p => p.2.state ≠ epREJOIN) then .next (s.setFld F.TDM_STATE_READY 1)
  else .next s

/-- An axis position and a module time of the partner as this module counts them (R457, R458, R461). -/
def State.ownPos (s : State) (a v : Nat) : Nat := toBits 32 ((v : Int) - sext 64 (s.reg64 (R.TDM_AXOFF_LO a) (R.TDM_AXOFF_HI a)))
def State.ownTime (s : State) (v : Nat) : Nat := toBits 32 ((v : Int) - s.linkOfs)

/-- An EPT entry of the partner: LOCAL and PARTNER are exchanged on a SPLIT channel. -/
def State.ownEntry (s : State) (e : List Byte) : List Byte :=
  let t := eTrans e
  if (t = 1 ∨ t = 4) ∧ eTop e < 3 ∧ eKind e < 3 ∧ !s.mirrored (eTop e) (eChan e) then
    (e.take 3) ++ [BitVec.ofNat 8 (field e 3 1 - t + (5 - t))] ++ e.drop 4
  else e

/-- A byte list cut into pieces of n. -/
def pieces (n : Nat) : Nat → List Byte → List (List Byte)
  | 0, _ => []
  | k + 1, l => l.take n :: pieces n k (l.drop n)

/-- Entries of a table from the partner: written at the same address as master TDM, and reloaded. -/
def State.mirrorTable (s : State) (t first addr : Nat) (data : List Byte) : State :=
  let size := (tableSize t).2
  let n := data.length / size
  let bs := ((pieces size n data).map (fun e => if t = 0 then s.ownEntry e else e)).flatten
  let (ok, s) := s.unitWrite (engine 31) addr bs
  if ok then s.takeTdb (F.RNG_TDB_TABLE.put (F.RNG_TDB_COUNT.put (F.RNG_TDB_FIRST.put 0 first) n) t) else s

/-- A descriptor of the partner's queue (0 to 3 for 0x01 to 0x04): its data at the same address, then the same work; it
completes on no ring here. -/
def State.mirrorDesc (s : State) (q op len addr a0 a1 a2 a3 : Nat) (data : List Byte) : State :=
  let s := (s.unitWrite (engine 31) addr (data.take len)).2
  let a0 := if q = 1 ∧ op = 1 then
      (if a1 % 4 = 1 then s.ownPos (a1 / 4 % 8) a0 else if a1 % 4 = 2 then s.ownTime a0 else a0) else a0
  let d : Desc := ⟨0, op, false, false, 0, len, addr, a0, a1, a2, a3⟩
  match q, op with
  | 0, 0 => s
  | 0, _ => if op ≤ 3 then s.runEpt 64 d else s
  | 1, 1 => s.runCommit 64 d
  | 1, 2 => s.runCancel 64 d
  | 1, 3 => s.runPageCopy 64 d
  | 2, 1 => s.runFieldLoad 64 d
  | 2, 2 => s.runUnload 64 d []
  | 2, 3 => s.runFlush 64 d []
  | 2, 4 => s.runInval 64 d
  | 3, 0 => s
  | 3, _ => if op ≤ 3 then s.runLoopCmd 64 d else s
  | _, _ => s

/-- A slot of cluster c's shadow page: AT translated by its BASE. -/
def State.mirrorSlot (s : State) (c n : Nat) (w0 w1 w2 w3 : Word) : State :=
  let at_ := if slBase w0.toNat = 1 then w32 (s.ownPos (eAxis (s.entry 0 (slotEp c w0.toNat))) w1.toNat)
    else if slBase w0.toNat = 2 then w32 (s.ownTime w1.toNat) else w1
  let p := 1 - s.page c
  [(1, at_), (2, w2), (3, w3), (0, w0)].foldl (fun s k => s.writePage (engine 31) (R.SLT_PAGE c p n k.1) k.2) s

/-- A write of a BRD register or of the CMD register of a MIRRORED channel. -/
def State.mirrorWrite (s : State) (a : Nat) (w : Word) : State :=
  if a = R.BRD_APPLY_LO then s.applyShadows 0 w
  else if a = R.BRD_APPLY_HI then s.applyShadows 32 w
  else if R.BRD_SWVAL 0 ≤ a ∧ a < R.BRD_SWVAL 16 then s.writeSwVal ((a - R.BRD_SWVAL 0) / 4) w
  else if R.BRD_KP 0 0 ≤ a ∧ a < R.BRD_KP 64 0 then s.writePlain a w
  else match (List.range 64).find? (fun n => R.SOL_CMD (n / 32) (n % 32) = a),
      (List.range 96).find? (fun n => R.LSW_CMD (n / 48) (n % 48) = a), (List.range 64).find? (fun n => R.DIO_CMD (n / 32) (n % 32) = a) with
    | some n, _, _ => if s.mirrored 0 n then s.takeSolCmd n w else s
    | _, some n, _ => if s.mirrored 1 n then s.takeLswCmd n w else s
    | _, _, some n => if s.mirrored 2 n then s.takeDioCmd n w else s
    | _, _, _ => s

/-- An APPLIED cell advanced to a value (R457): in the cache, or when its tile arrives. -/
def State.mirrorMark (s : State) (l idx cell v : Nat) : State :=
  if !s.covLoaded ∨ layKind s.cov.desc l ≠ lkAPPLIED then s
  else
    let old := match s.frameOf l idx with | some f => s.cellBits (s.frameAddr f) 2 cell | none => 0
    (List.range (v - old)).foldl (fun s _ => s.markCell l idx cell) s

/-- A record the partner has sent (R462): the same list, its node's next SEQ. -/
def State.mirrorIssue (s : State) (e b n seq rev : Nat) (level cancel imm : Bool) (rate : Nat) (act : Int) : State :=
  let s := s.setNode b n { s.node b n with next := (seq + 1) % 2 ^ 16 }
  if imm then s.updEp e (fun x => { x with level := level })
  else
    let at_ := (act - s.pairOfs s.now).toNat
    let i : Issue := ⟨e, b, n, seq, rev, ⟨.align, level, 2, at_, false, false⟩, level, rate, at_, s.fld F.SLT_RMT_REPEAT, s.now, false, cancel⟩
    let same (j : Issue) : Bool := j.bus = b && j.node = n && j.seq = seq && !j.fired
    if s.slt.issue.any same then { s with slt := { s.slt with issue := s.slt.issue.map (fun j => if same j then i else j) } }
    else if 8192 ≤ s.slt.issue.length then s
    else { s with slt := { s.slt with issue := s.slt.issue ++ [i] } }

/-- The partner's heartbeat is present: a HEARTBEAT frame has arrived, or TDM_HBI has toggled (R452). -/
def State.hbHeard (s : State) : State := s.updTdm (fun x => { x with lost := false, hbSeen := s.now })

/-- A HEARTBEAT (R452, R457, Table 20-3): the partner's state, TERM and READY. A partner that has joined makes a SOLO module
ACTIVE (R446), and the STANDBY that could not take over (R453). -/
def State.heartbeatIn (s : State) (q term : Nat) (ready : Bool) : State :=
  let s := s.setFld F.TDM_STATE_PPSTATE q
  let s := s.hbHeard.updTdm (fun x => { x with pReady := ready, pTerm := term })
  let s := if s.mirrorOnly ∧ (q = psSOLO ∨ q = psACTIVE) then s.setFld F.TDM_STATE_TERM term else s
  if s.pairState = psOFF ∧ s.flag F.TDM_CTL_EN ∧ (q = psSOLO ∨ q = psACTIVE) then s.pairTo psJOINING
  else if q = psSTANDBY ∧ s.pairState = psSOLO then s.pairTo psACTIVE
  else if q = psSTANDBY ∧ s.pairState = psSTANDBY ∧ s.tdm.orphan then s.takeOver false
  else s

/-- Increments of the partner's axes up to an instant of own MTB (R73), and the divergence they show (R458). -/
def State.axesIn (s : State) (t : Nat) (l : List (Fin 8 × BitVec 64 × Bool × Bool)) : State :=
  l.foldl (fun s p =>
    let a := p.1.val
    let d := p.2.1.toInt
    let s := s.partnerAxis a t d p.2.2.1 p.2.2.2
    let s := s.updTdm (fun x => { x with ppos := SMap.set (fun _ => 0) x.ppos a (SMap.get (fun _ => 0) x.ppos a + d) })
    if s.pairState = psSTANDBY ∧ s.tdm.mirror ∧ s.axState a ≠ axDISABLED then
      let div := SMap.get (fun _ => 0) s.tdm.ppos a / 2 ^ 16 - s.axPos a t / 2 ^ 16 - sext 64 (s.reg64 (R.TDM_AXOFF_LO a) (R.TDM_AXOFF_HI a))
      let s := s.setInt (F.TDM_AXDIV_DIV a) div
      if s.fld F.TDM_AXTOL_TOL < div.natAbs then
        (s.tdmFlag F.TDM_STAT_AXDIV).setFld F.TDM_STATE_READY 0 |>.updTdm (fun x => { x with cleanAt := s.now })
      else s
    else s) s

/-- The mirror has backed up (R457): MIRROR_OVF, READY cleared, the join again. -/
def State.mirrorOvf (s : State) : State :=
  let s := s.tdmFlag F.TDM_STAT_MIRROR_OVF
  if s.mirrorOnly then s.joinAgain else s

/-- One item from the partner. The mirrored ones act on a joining or STANDBY module. -/
def State.mirrorItem (s : State) (m : MirrorItem) : State :=
  let own (k : State → State) : State := if s.mirrorOnly then k s else s
  match m with
  | .heartbeat q term ready => s.heartbeatIn q term.toNat ready
  | .axes t l => s.axesIn (s.ownInst t.toNat) l
  | .line => s.hbHeard
  | .solution t e n hdg v st => s.deliverKind 5 (s.ownInst t.toNat) [e.toInt, n.toInt, 0, hdg.toInt, v.toInt, 0, 0, 0, 0, 0, st.val] 0
  | .overflow => s.mirrorOvf
  | .table brd first addr data => own (fun s => s.mirrorTable (if brd then 6 else 0) first addr.toNat data)
  | .desc q op len addr a0 a1 a2 a3 data => own (fun s =>
      s.mirrorDesc q op.toNat len.toNat addr.toNat a0.toNat a1.toNat a2.toNat a3.toNat data)
  | .slot c n w0 w1 w2 w3 => own (fun s => s.mirrorSlot c n w0 w1 w2 w3)
  | .write a w => own (fun s => s.mirrorWrite a.toNat w)
  | .loop n u i zone st => own (fun s =>
      (s.setLoop n { s.bloop n with u := u.toNat, last := u.toNat, i := i.toNat, zone := zone, state := st }).loopShow n
        ⟨0, 0, false, true⟩)
  | .mark l idx cell v => own (fun s => s.mirrorMark l idx.toNat cell.toNat v)
  | .yld sref cells => own (fun s =>
      (cells.foldl (fun s p => (s.yldCell (s.fld F.YLD_CFG_LAYER) p.1.toNat p.2.toNat sref.toNat).2) s).setReg R.YLD_SREF
        (w32 (nextSref ((sref.toNat + 1) % 2 ^ 32))))
  | .issue e b n seq rev level cancel imm rate act => own (fun s =>
      s.mirrorIssue e b n.toNat seq.toNat rev.toNat level cancel imm rate.toNat act.toInt)
  | .tseq v => own (fun s => { s with slt := { s.slt with tseq := v.toNat } })
  | .odo e v => own (fun s => s.updTdm (fun x => { x with odos := SMap.set (fun _ => 0) x.odos e.val v.toInt }))

/-- MIRROR_FRAME (R449, R452, R457): the items of frames from the partner, in order; of a partner that does not form a pair with this
module, only TDM_HBI is seen. -/
def execMirrorFrame (items : List MirrorItem) (s : State) : Out :=
  .next (items.foldl (fun s m => if s.tdm.formed || m = .line then s.mirrorItem m else s) s)

/-! ### Local outputs (R463) -/

/-- An edge reaches a SPLIT channel of this STANDBY module, with its command. -/
def State.splitEmit (s : State) (cls ch : Nat) (level : Bool) (cmd : Option Nat) (te : Nat) : State :=
  match cls with
  | 0 =>
    let s := match cmd with
      | some v => (s.setSch ch { s.sch ch with rate := (if (s.sch ch).holder.isSome then some v else (s.sch ch).rate), dest := none
                                               kept := (if (s.sch ch).holder.isSome then (s.sch ch).kept else some v) }).solCommand ch
      | none => s
    s.solEdge ch level te
  | 1 =>
    let s := match cmd with
      | some v => (s.setLch ch { s.lch ch with rate := (if (s.lch ch).holder.isSome then some v else (s.lch ch).rate), dest := none
                                               kept := (if (s.lch ch).holder.isSome then (s.lch ch).kept else some v) }).lswDuty ch
      | none => s
    s.lswEdge ch level te
  | _ => s.dioEdge ch level

/-- Whether the part has an output of a class that a partner may drive. -/
def State.isSplit (s : State) (cls ch : Nat) : Bool :=
  !s.mirrored cls ch && (match cls with | 0 => s.part.hasSol ch | 1 => s.part.hasHs ch | _ => s.part.hasDio ch)

/-- The held edges that have come, in order of te. -/
def State.splitDue (s : State) : State :=
  let due := sortBy (fun a b => decide (a.2.2.2.2 ≤ b.2.2.2.2)) (s.tdm.splits.filter (fun p => p.2.2.2.2 ≤ s.now))
  let s := s.updTdm (fun x => { x with splits := x.splits.filter (fun p => s.now < p.2.2.2.2) })
  due.foldl (fun s p => s.splitEmit p.1 p.2.1 p.2.2.1 p.2.2.2.1 p.2.2.2.2) s

/-- SPLIT_EDGE (R463): an EDGE frame arrives for a SPLIT channel of a STANDBY module, late after its te; with none, held
edges are emitted. PENDING acts as STANDBY (Table 20-1). -/
def execSplitEdge (edge : Option TdmEdge) (s : State) : Out :=
  if s.pairState ≠ psSTANDBY ∧ s.pairState ≠ psPENDING then .next s
  else match edge with
  | none => .next s.splitDue
  | some g =>
    if !s.tdm.formed ∨ !s.isSplit g.cls g.ch then .next s
    else
      let te : Int := g.te.toInt - s.pairOfs s.now
      let c := g.cmd.map (·.toNat)
      if te < s.now then .next ((s.bump F.TDM_LATECNT_COUNT).splitEmit g.cls g.ch g.level c s.now)
      else .next ((s.updTdm (fun x => { x with splits := x.splits ++ [(g.cls.val, g.ch.val, g.level, c, te.toNat)] })).splitDue)

/-- The effective safe state of a SPLIT channel, from the partner's endpoint, or the entry's again (R209, R449). -/
def State.splitSafe (s : State) (cls ch : Nat) (ep on : Bool) (cmd : Nat) : State :=
  if !s.isSplit cls ch then s
  else match cls with
    | 0 => if ep then s.setSolSafe ch true on cmd else s.solEntrySafe ch
    | 1 => if ep then s.setLswSafe ch true on cmd else s.lswEntrySafe ch
    | _ => if ep then s.setDioSafe ch true on else s.setDioSafe ch false (dSafe (s.entry 3 ch))

/-! ### Queue 0x5C (R466) -/

/-- A SEND that starts: its data, read by the Tandem unit, leave through target 16 as the ring's master (R55, R449). -/
def State.runSend (s : State) (n : Nat) (d : Desc) : State :=
  if !s.part.hasTDM then s.complete n d.didx stABSENT 0
  else if d.len = 0 then s.complete n d.didx stEMPTY 0
  else if 64 * 2 ^ 20 < d.len then s.complete n d.didx stBADLEN 0
  else if !s.tdm.formed then s.complete n d.didx stABORTED 0
  else match s.unitRead (engine 31) d.addr d.len with
    | (none, s) => s.complete n d.didx stACCESS 0
    | (some _, s) =>
      let m := s.descMaster n d.didx
      if !s.permits 16 m .write 0x5C000 then (s.denyAt 16 m .write 0x5C000).complete n d.didx stACCESS 0
      else s.updTdm (fun x => { x with sends := x.sends ++ [(n, d.didx)] })

/-- TDM_SEND (R466): the ring's next descriptor starts; with an answer, the partner has written the last byte of the oldest
SEND of the ring, or was denied. -/
def execTdmSend (n : Fin 64) (answer : Option Bool) (s : State) : Out :=
  match answer with
  | none => .next (s.queueCmd n (fun q => q = 0x5C) 1 [1] (fun s d => s.runSend n d))
  | some ok =>
    match s.tdm.sends.find? (fun p => p.1 = n.val) with
    | some p => .next ((s.updTdm (fun x => { x with sends := x.sends.erase p })).complete p.1 p.2 (if ok then stOK else stACCESS) 0)
    | none => .next s

/-- BLOCK_FRAME (R466): a BLOCK frame is written as master TDM. -/
def execBlockFrame (addr : BitVec 40) (data : List Byte) (s : State) : Out :=
  if s.tdm.formed then .next (s.unitWrite (engine 31) addr.toNat data).2 else .next s

end Sys2Proof.Machine
end

