-- ==== Sys2Proof/Machine/Tables.lean ====
section
/-! DEFINITION. The reload of channel-table entries (02_rings_tables_access.md, R44-R47, R545, R7). -/

namespace Sys2Proof.Machine

/-- Whether the accepted entry i of table t names an absent channel, partner or source (R7). -/
def State.entryAbsent (s : State) (t i : Nat) : Bool :=
  s.hasEntry t i && (match t with
    | 0 => s.epAbsent (s.entry 0 i)
    | 1 => !s.part.hasSol i
    | 2 => !s.part.hasHs i
    | 3 => !s.part.hasDio i
    | 6 => s.loopAbsent (s.entry 6 i)
    | _ => false)

/-- After an RTX or TKO reset, the reload of table 0 sends a remote output endpoint to its safe state with an IMM record (R113,
R148, R514; log entry 66). -/
def State.safeRecord (s : State) (e : Nat) : State :=
  let c := s.entry 0 e
  if !s.hasEntry 0 e ∨ s.epWhy c ≠ caNONE ∨ !eOutput c ∨ !eRemote c then s
  else
    let on : Bool := eSafe c = 1
    let rate := if on && eKind c = kRATE && !eRdest c then eSafeRate c else 0
    let (seq, s) := s.takeSeq (eBus c) (eNode c)
    s.sendOut ⟨eBus c, eNode c, 1, recBytes seq (eIndex c) on false true 0 rate (s.pairShort s.now), true⟩

/-- Accept bytes as entry i of table t: the unit takes it up; an absent channel, which has no unit, is recorded (R7, R44). -/
def State.acceptEntry (s : State) (t i : Nat) (bs : List Byte) : State :=
  let old := s.entry t i
  let s := s.setEntry t i bs
  let s := match t with
    | 0 => s.acceptEpt i
    | 1 =>
      if s.part.hasSol i then
        let was := pairedBy i old
        let s := s.acceptSol i old
        if i % 2 = 0 ∧ was ≠ s.solPairs i then s.brdPaired (i + 1) else s
      else s
    | 2 => if s.part.hasHs i then s.acceptLsw i old else s
    | 3 => if s.part.hasDio i then s.acceptDio i old else s
    | 4 => s.acceptAfe i old
    | 5 => s.acceptPls i old
    | _ => s.acceptLoop i old
  if s.entryAbsent t i then s.event 0x0102 [w32 i] else s

/-- Read entry i of table t and accept it or keep the copy: denied (R545), torn through its re-reads (R47), whole (R44). A doorbell
for a table whose base still reads 0 reads at address 0, which no target holds, and takes the denial (log entry 66). -/
def State.reloadEntry (s : State) (t i : Nat) : State :=
  let size := (tableSize t).2
  match s.unitRead (engine 17) (s.tableBase t + size * i) size with
  | (none, s) => s.keepEntry t i (F.RNG_TSTAT_DENIED t) false
  | (some bs, s) =>
    if field bs 0 2 = field bs (size - 2) 2 then s.acceptEntry t i bs
    else (s.keepEntry t i (F.RNG_TSTAT_TORN t) true).event 0x0103 [w32 t, w32 i]

/-- ENTRY_RELOAD (R45, R46): the next entry of the job in front; a job that is through leaves. -/
def execEntryReload (s : State) : Out :=
  match s.tableJobs with
  | [] => .next s
  | j :: rest =>
    let s := s.reloadEntry j.table j.first
    let s := if j.full && j.table = 0 && s.pwr.imm then s.safeRecord j.first else s
    let done : Bool := j.count ≤ 1
    let s := if j.full && j.table = 0 && done then { s with pwr := { s.pwr with imm := false } } else s
    let s : State := { s with tableJobs := if done then rest else { j with first := j.first + 1, count := j.count - 1 } :: rest }
    .next s.refreshTables

end Sys2Proof.Machine
end

