-- ==== Sys2Proof/Machine/Recorder.lean ====
section
/-! DEFINITION. The event recorder (22_event_recorder.md, R486-R498): intake, folding, staging, journal, commands. -/

namespace Sys2Proof.Machine

/-! ### CRC-32 (R486) -/

/-- Eight bit steps of the reflected IEEE 802.3 polynomial. -/
def crcBits : Nat → BitVec 32 → BitVec 32
  | 0, c => c
  | n + 1, c => crcBits n (if c.getLsbD 0 then (c >>> 1) ^^^ 0xEDB88320#32 else c >>> 1)

/-- CRC-32 of bytes: initial value and final XOR 0xFFFF_FFFF (R486). -/
def crc32 (bs : List Byte) : Nat :=
  (bs.foldl (fun c b => crcBits 8 (c ^^^ b.zeroExtend 32)) 0xFFFFFFFF#32 ^^^ 0xFFFFFFFF#32).toNat

/-! ### Records (R486, R487) -/

/-- The bytes of a record: 16-byte header (Table 22-1), payload, CRC. -/
def EvRec.bytes (r : EvRec) : List Byte :=
  let len := 5 + r.args.length
  let h := leBytes 2 (len + (if r.fw then 0x200 else 0) + (if r.notime then 0x400 else 0) + (if r.rep = 65535 then 0x800 else 0))
    ++ leBytes 2 r.code ++ leBytes 2 r.rep ++ leBytes 2 r.last ++ leBytes 8 r.stamp
  let body := h ++ r.args.flatMap (fun w => leBytes 4 w.toNat)
  body ++ leBytes 4 (crc32 body)

/-- The bytes a record takes. -/
def EvRec.size (r : EvRec) : Nat := 20 + 4 * r.args.length

/-- The record an event opens. -/
def Event.toRec (e : Event) : EvRec := ⟨e.code, e.fw, e.notime, 0, 0, e.stamp, e.args, e.mtb⟩

/-- Bytes in staging, the open record included (R490). -/
def Evr.used (v : Evr) : Nat :=
  (v.staged.map EvRec.size).foldl (· + ·) 0 + (match v.open_ with | some r => r.size | none => 0)

/-- Bring EVR_STGUSED and EVR_OPEN up to date with staging. -/
def State.evrSync (s : State) : State :=
  let s := s.setFld F.EVR_STGUSED_BYTES s.evr.used
  match s.evr.open_ with
  | some r => (s.setFld F.EVR_OPEN_REPEAT r.rep).setFld F.EVR_OPEN_CODE r.code
  | none => (s.setFld F.EVR_OPEN_REPEAT 0).setFld F.EVR_OPEN_CODE 0

/-- Close the open record: it becomes the newest closed one (R488). -/
def State.closeRec (s : State) : State :=
  match s.evr.open_ with
  | some r => ({ s with evr := { s.evr with staged := s.evr.staged ++ [r], open_ := none } } : State).evrSync
  | none => s

/-- Whether the recorder can record an event of n bytes: EN, the journal not FULL, room in staging (R490). -/
def State.evrCan (s : State) (n : Nat) : Bool :=
  s.flag F.EVR_CTL_EN && !s.flag F.EVR_STAT_FULL && s.evr.used + n ≤ 262144

/-- Whether an event folds into the open record: same CODE and payload, FLUSHT not passed (0 never folds), REPEAT
below 65,535 (R488). -/
def State.folds (s : State) (e : Event) : Bool :=
  match s.evr.open_ with
  | some r => r.code = e.code && r.args = e.args && s.fld F.EVR_RECCFG_FLUSHT ≠ 0 &&
      e.mtb < r.mtb + 1000000 * s.fld F.EVR_RECCFG_FLUSHT && r.rep < 65535
  | none => false

/-- Stage a record at the end: the open record closes, the new one opens, or closes at once with FLUSHT 0 (R488). -/
def State.stageRec (s : State) (r : EvRec) : State :=
  let s := s.closeRec
  let s : State := { s with evr := { s.evr with open_ := some r } }
  if s.fld F.EVR_RECCFG_FLUSHT = 0 then s.closeRec else s.evrSync

/-- After a loss, stage EVR_LOST before any later event: first loss stamp, seconds to the last, the count (R490). -/
def State.stageLost (s : State) : State :=
  if s.evr.lost = 0 then s
  else
    let r : EvRec := ⟨0x1401, false, s.evr.lostNotime, 0, min (stampSec s.evr.lostLast - stampSec s.evr.lostFirst) 65535,
      s.evr.lostFirst, [w32 s.evr.lost], s.now⟩
    ({ s with evr := { s.evr with lost := 0 } } : State).stageRec r

/-- The next chance to record (R490): an EVR_LOST record that is due is staged where it can be. -/
def State.lostChance (s : State) : State := if s.evr.lost ≠ 0 ∧ s.evrCan 24 then s.stageLost else s

/-- Take one event out of the intake: fold it, stage it, or lose it (R488, R490). -/
def State.takeEvent (s : State) (e : Event) : State :=
  if !s.flag F.EVR_CTL_EN ∨ s.flag F.EVR_STAT_FULL then s.loseEvent e.stamp e.notime
  else if s.folds e ∧ s.evr.lost = 0 then
    match s.evr.open_ with
    | some r =>
      let r := { r with rep := r.rep + 1, last := min (stampSec e.stamp - stampSec r.stamp) 65535 }
      let s := ({ s with evr := { s.evr with open_ := some r } } : State).evrSync
      if r.rep = 65535 then s.closeRec else s
    | none => s
  else
    let need := e.toRec.size + (if s.evr.lost = 0 then 0 else 24)
    if s.evrCan need then s.stageLost.stageRec e.toRec else s.loseEvent e.stamp e.notime

/-- Take in the whole intake, in order (R489). -/
def State.drainIntake (s : State) : State :=
  let l := s.evr.intake
  l.foldl (fun s e => s.takeEvent e) { s with evr := { s.evr with intake := [] } }

/-- EVENT_INTAKE (R488-R490): the event at the front of the intake reaches staging. -/
def execEventIntake (s : State) : Out :=
  match s.evr.intake with
  | e :: rest => .next (({ s with evr := { s.evr with intake := rest } } : State).takeEvent e)
  | [] => .next s

/-- RECORD_CLOSE (R488): FLUSHT ms since the open record's first occurrence. -/
def execRecordClose (s : State) : Out :=
  match s.evr.open_ with
  | some r => if s.elapsed r.mtb (1000000 * s.fld F.EVR_RECCFG_FLUSHT) then .next s.closeRec else .next s
  | none => .next s

/-- Append bytes to the journal: EVR_JWPTR moves on; JWARN when it first reaches WARN MiB after an ERASE (R490, R497). -/
def State.appendJournal (s : State) (bs : List Byte) : State :=
  let s : State := { s with evr := { s.evr with journal := s.evr.journal ++ bs } }
  let s := s.setFld F.EVR_JWPTR_PTR s.evr.journal.length
  if s.fld F.EVR_WARN_WARN ≠ 0 ∧ !s.evr.warned ∧ s.fld F.EVR_WARN_WARN * 2 ^ 20 ≤ s.evr.journal.length then
    ({ s with evr := { s.evr with warned := true } } : State).raiseFlag F.EVR_STAT_JWARN 222
  else s

/-- Count one journal write down in every waiting FLUSH, completing those with nothing left; all complete FULL when
the journal is full (Table 22-2). -/
def State.flushDone (s : State) (full : Bool) : State :=
  let l := s.evr.flushes.map (fun (n, d, k) => (n, d, k - 1))
  let fin := if full then l else l.filter (fun (_, _, k) => k = 0)
  let s := fin.foldl (fun s (n, d, _) => s.complete n d (if full then 0x82 else stOK) 0) s
  { s with evr := { s.evr with flushes := if full then [] else l.filter (fun (_, _, k) => k ≠ 0) } }

/-- Whether journal writing is allowed: outside a freeze, EN set, the journal not FULL (R490). -/
def State.journalOpen (s : State) : Bool :=
  !s.flag F.EVR_CTL_FREEZE && s.flag F.EVR_CTL_EN && !s.flag F.EVR_STAT_FULL

/-- JOURNAL_WRITE (R490, R492): the oldest closed record goes to the journal; one that no longer fits below the
64-byte reserve writes EVR_FULL with its stamp instead and sets FULL. -/
def execJournalWrite (s : State) : Out :=
  match s.evr.staged with
  | r :: rest =>
    if !s.journalOpen then .next s
    else if s.evr.journal.length + r.size ≤ 268435456 - 64 then
      let s : State := { s with evr := { s.evr with staged := rest } }
      .next ((s.appendJournal r.bytes).evrSync.flushDone false).lostChance
    else
      let full : EvRec := ⟨0x1402, false, r.notime, 0, 0, r.stamp, [], s.now⟩
      .next (((s.appendJournal full.bytes).setFld F.EVR_STAT_FULL 1).flushDone true)
  | [] => .next s

/-! ### Queue 0x08 (Table 22-2) -/

/-- The EVR opcodes. -/
def evrOps : List Nat := [1, 2, 3, 4, 5]

/-- A command of queue 0x08: LEN 0 completes EMPTY, any other LEN not a multiple of 4 BAD_LEN (R494). -/
def State.evrCmd (s : State) (n : Nat) (op : Nat) (run : State → Desc → State) : State :=
  s.queueCmd n (fun q => q = 0x08) op evrOps (fun s d =>
    if d.len = 0 then s.complete n d.didx stEMPTY 0
    else if d.len % 4 ≠ 0 then s.complete n d.didx stBADLEN 0
    else run s d)

/-- Copy bytes to a descriptor's address as a unit: OK with the count, or ACCESS. -/
def State.copyOut (s : State) (n : Nat) (acc : Acc) (d : Desc) (bs : List Byte) (status : Nat := stOK) : State :=
  match s.unitWrite acc d.addr bs with
  | (true, s) => s.complete n d.didx status bs.length
  | (false, s) => s.complete n d.didx stACCESS 0

/-- READ (Table 22-2): journal bytes from ARG0. `ecc` is the offset of an uncorrectable flash byte, if the read meets one. -/
def execEvrRead (n : Fin 64) (ecc : Option (BitVec 29)) (s : State) : Out :=
  .next (s.evrCmd n 1 (fun s d =>
    if 2 ^ 24 < d.len then s.complete n d.didx stBADLEN 0
    else if d.arg0 % 4 ≠ 0 then s.complete n d.didx 0x83 0
    else
      let bs := (s.evr.journal.drop d.arg0).take d.len
      match ecc with
      | some e =>
        if d.arg0 ≤ e.toNat ∧ e.toNat < d.arg0 + bs.length then s.copyOut n (engine 18) d (bs.take (e.toNat - d.arg0)) stECC
        else s.copyOut n (engine 18) d bs
      | none => s.copyOut n (engine 18) d bs))

/-- The longest run of whole records that fits in a length. -/
def wholeRecs : Nat → List EvRec → List Byte
  | _, [] => []
  | len, r :: rs => if r.size ≤ len then r.bytes ++ wholeRecs (len - r.size) rs else []

/-- READ_STAGE (Table 22-2): whole staged records, oldest first, the open one as it stands. -/
def execEvrReadStage (n : Fin 64) (s : State) : Out :=
  .next (s.evrCmd n 2 (fun s d => s.copyOut n (engine 18) d (wholeRecs d.len (s.evr.staged ++ s.evr.open_.toList))))

/-- The argument words of a firmware payload. -/
def wordsOf : Nat → List Byte → List Word
  | 0, _ => []
  | k + 1, bs => w32 (leNat (bs.take 4)) :: wordsOf k (bs.drop 4)

/-- RECORD (R491): a firmware event of code 0xF000 to 0xFFFF, recorded in order behind the events in the intake. -/
def execEvrRecord (n : Fin 64) (s : State) : Out :=
  .next (s.evrCmd n 3 (fun s d =>
    match s.unitRead (engine 18) d.addr d.len with
    | (none, s) => s.complete n d.didx stACCESS 0
    | (some bs, s) =>
      let len := field bs 0 2 % 512
      let code := field bs 2 2
      if code < 0xF000 ∨ len < 5 ∨ 257 < len ∨ d.len ≠ 4 * len - 4 then
        (s.raiseFlag F.EVR_STAT_BADREC 222).complete n d.didx 0x80 0
      else
        let e : Event := ⟨code, wordsOf (len - 5) (bs.drop 16), s.stamp, s.noTime, s.now, true⟩
        if s.flag F.EVR_STAT_FULL then (s.loseEvent e.stamp e.notime).complete n d.didx 0x82 0
        else if 64 ≤ s.evr.intake.length then (s.loseEvent e.stamp e.notime).complete n d.didx 0x84 0
        else
          let s := s.drainIntake
          let before := s.evr.lost
          let s := s.takeEvent e
          s.complete n d.didx (if before < s.evr.lost then 0x84 else stOK) 0))

/-- FLUSH (Table 22-2): closes the open record; completes once every staged record is in the journal. -/
def execEvrFlush (n : Fin 64) (s : State) : Out :=
  .next (s.evrCmd n 4 (fun s d =>
    if s.flag F.EVR_CTL_FREEZE then s.complete n d.didx 0x81 0
    else if s.flag F.EVR_STAT_FULL then s.complete n d.didx 0x82 0
    else
      let s := s.closeRec
      if s.evr.staged = [] then s.complete n d.didx stOK 0
      else { s with evr := { s.evr with flushes := s.evr.flushes ++ [(n.val, d.didx, s.evr.staged.length)] } }))

/-- ERASE (R492): the journal starts again with EVR_ERASED, which carries EVR_LOSTCNT; FULL goes, EVR_LOSTCNT is
cleared, ERASED sets. -/
def execEvrErase (n : Fin 64) (s : State) : Out :=
  .next (s.evrCmd n 5 (fun s d =>
    if s.flag F.EVR_CTL_FREEZE then s.complete n d.didx 0x81 0
    else
      let r : EvRec := ⟨0x1403, false, s.noTime, 0, 0, s.stamp, [s.reg R.EVR_LOSTCNT], s.now⟩
      let s : State := { s with evr := { s.evr with journal := [], warned := false } }
      let s := (s.setFld F.EVR_STAT_FULL 0).appendJournal r.bytes
      let s := ((s.setFld F.EVR_LOSTCNT_COUNT 0).raiseFlag F.EVR_STAT_ERASED 222).lostChance
      s.complete n d.didx stOK 0))

/-! ### Freeze (R493) -/

/-- A write of EVR_CTL: a rise of FREEZE notes its start, a fall ends it; EN set again is a
chance to record. -/
def State.writeEvrCtl (s : State) (w : Word) : State :=
  let was := s.flag F.EVR_CTL_FREEZE
  let s := s.writePlain R.EVR_CTL w
  let is := s.flag F.EVR_CTL_FREEZE
  let s : State := { s with evr := { s.evr with freezeAt := if is then (if was then s.evr.freezeAt else some s.now) else none } }
  s.lostChance

/-- FREEZE_START (R493): a write of FREEZE 1, EN as it is. -/
def execFreezeStart (acc : Acc) (s : State) : Out :=
  .next (s.guardWrite acc R.EVR_CTL (fun s => s.writeEvrCtl (F.EVR_CTL_FREEZE.put (s.reg R.EVR_CTL) 1)))

/-- FREEZE_END (R493): a write of FREEZE 0. -/
def execFreezeEnd (acc : Acc) (s : State) : Out :=
  .next (s.guardWrite acc R.EVR_CTL (fun s => s.writeEvrCtl (F.EVR_CTL_FREEZE.put (s.reg R.EVR_CTL) 0)))

/-- FREEZE_TIMEOUT (R493): FRZTO s after its start a freeze ends by itself with UNFROZEN. -/
def execFreezeTimeout (s : State) : Out :=
  match s.evr.freezeAt with
  | some t =>
    if s.flag F.EVR_CTL_FREEZE ∧ s.fld F.EVR_RECCFG_FRZTO ≠ 0 ∧ s.elapsed t (1000000000 * s.fld F.EVR_RECCFG_FRZTO) then
      let s : State := { s with evr := { s.evr with freezeAt := none } }
      .next ((s.setFld F.EVR_CTL_FREEZE 0).raiseFlag F.EVR_STAT_UNFROZEN 222)
    else .next s
  | none => .next s

/-- A register write in the EVR window. -/
def State.writeEvr (s : State) (a : Nat) (w : Word) : State :=
  if a = R.EVR_CTL then s.writeEvrCtl w else s.writePlain a w

end Sys2Proof.Machine
end

