-- ==== Sys2Proof/Machine/Update.lean ====
section
/-! DEFINITION. Remount: partitions, containers, the boot check (21_remount_update.md, R470-R485). -/

namespace Sys2Proof.Machine

/-! ### Slots and headers -/

/-- The default of a slot: A as made, B empty (log entry 7). -/
def slotInit (k : Nat) : Slot := if k % 2 = 0 then .factory else .empty

/-- Slot b (0 A, 1 B) of partition p. -/
def State.slot (s : State) (p b : Nat) : Slot := SMap.get slotInit s.upd.slots (2 * p + b)

/-- Replace slot b of partition p. -/
def State.setSlot (s : State) (p b : Nat) (x : Slot) : State :=
  { s with upd := { s.upd with slots := SMap.set slotInit s.upd.slots (2 * p + b) x } }

/-- The active and the inactive slot of partition p (R470). -/
def State.actSlot (s : State) (p : Nat) : Nat := s.fld (F.UPD_PSTAT_ACTIVE p)
def State.inactSlot (s : State) (p : Nat) : Nat := 1 - s.actSlot p

/-- The header of a slot. -/
def State.slotHdr (s : State) (p b : Nat) : List Byte :=
  match s.slot p b with
  | .empty => []
  | .factory => Config.factoryHeader p
  | .written bs => bs.take 256

/-- Slot sizes in bytes (Table 21-1). -/
def slotSize (p : Nat) : Nat :=
  match p with
  | 0 => 8 * 2 ^ 20 | 1 => 16 * 2 ^ 20 | 2 => 512 * 2 ^ 20 | 3 => 4 * 2 ^ 20 | 4 => 4 * 2 ^ 20 | _ => 64 * 2 ^ 20

/-- Header fields (Table 21-2). -/
def hVERSION (h : List Byte) : Nat := field h 24 4
def hRBVER (h : List Byte) : Nat := field h 28 4
def hPLEN (h : List Byte) : Nat := field h 32 4
def hCFGFMT (h : List Byte) : Nat := field h 90 2

/-- The bit of CODES for an ordering code. -/
def codeBit (x : OrderCode) : Nat := match x with | .f => 0 | .a => 1 | .c => 2 | .d => 3

/-- The header check of R475: the first reason that fails, 0 where none does. Steppings compare by letter, then
number (log entry 14). -/
def State.headerReason (s : State) (p : Nat) (h : List Byte) : Nat :=
  let bind := field h 7 1 % 2 = 1
  let stepmin := field h 13 1 % 16 * 16 + field h 13 1 / 16
  if field h 0 4 ≠ 0x444E4744 then 1
  else if field h 4 2 ≠ 1 then 2
  else if field h 6 1 ≠ p then 3
  else if field h 8 4 ≠ 0x57A10880 then 4
  else if field h 12 1 / 2 ^ codeBit s.part.code % 2 = 0 then 5
  else if s.part.stepping < stepmin then 6
  else if (bind ∧ field h 16 8 ≠ s.part.serial) ∨ (field h 88 1 ≠ 0 ∧ (!bind ∨ field h 88 1 ≠ 1)) then 7
  else if hPLEN h = 0 ∨ slotSize p - 368 < hPLEN h then 8
  else if hRBVER h < s.fld (F.UPD_RBCNT_COUNT p) then 9
  else if 4 ≤ field h 89 1 ∨ s.part.keys / 2 ^ field h 89 1 % 2 = 0 ∨ s.fld F.UPD_KEYREV_REVOKED / 2 ^ field h 89 1 % 2 = 1 then 10
  else if field h 7 1 / 2 ≠ 0 ∨ field h 14 2 ≠ 0 ∨ ((h.drop 92).take 164).any (fun b => b ≠ 0) then 11
  else 0

/-! ### Registers of a partition -/

/-- The state of a partition (Table 21-4): 0 IDLE, 1 WRITING, 2 STAGED, 3 TRIAL, 4 DEAD. -/
def State.pstate (s : State) (p : Nat) : Nat := s.fld (F.UPD_PSTAT_STATE p)

/-- Whether a partition is in progress (R474). -/
def State.inProgress (s : State) (p : Nat) : Bool := s.fld F.UPD_BUSY_PARTS / 2 ^ p % 2 = 1

/-- Mark a partition in progress or not, and count those that are (Table 21-8). -/
def State.setProgress (s : State) (p : Nat) (on : Bool) : State :=
  let parts := s.fld F.UPD_BUSY_PARTS
  let bit := parts / 2 ^ p % 2
  let parts := parts - bit * 2 ^ p + (if on then 2 ^ p else 0)
  (s.setFld F.UPD_BUSY_PARTS parts).setFld F.UPD_BUSY_NBUSY ((List.range 6).foldl (fun k i => k + parts / 2 ^ i % 2) 0)

/-- Enter a partition state; IDLE and DEAD end the progress. -/
def State.setPstate (s : State) (p st : Nat) : State :=
  let s := s.setFld (F.UPD_PSTAT_STATE p) st
  if st = 0 ∨ st = 4 then s.setProgress p false else s.setProgress p true

/-- Return a partition to IDLE: trials and the link go. -/
def State.toIdle (s : State) (p : Nat) : State :=
  ((s.setPstate p 0).setFld (F.UPD_PSTAT_TRIALS p) 0).setFld (F.UPD_PSTAT_LINKED p) 0

/-- An UPD flag that sets raises interrupt 221 (R484). -/
def State.updFlag (s : State) (f : Fld) : State := s.raiseFlag f 221

/-! ### The boot check (R477, R480) -/

/-- The check of a slot at boot: 0 where it passes, else the REASON (1 signature, 2 tag, 3 header, 4 rollback, 5 read). -/
def State.bootCheck (s : State) (fails : BootFails) (p b : Nat) : Nat :=
  let verdict := match fails.find? (fun f => f.1.val = 2 * p + b) with | some f => f.2.val | none => 0
  match s.slot p b with
  | .empty => 3
  | .factory => verdict
  | .written bs =>
    let h := bs.take 256
    let r := s.headerReason p h
    if bs.length ≠ 368 + hPLEN h then 3
    else if r = 9 then 4
    else if r ≠ 0 then 3
    else verdict

/-- The outcome of booting a partition: the slot booted, if any, the new state, trials, and what is flagged. -/
structure BootPlan where
  slot : Option Nat
  state : Nat
  trials : Nat
  reason : Nat
  checkFail : Bool
  fallback : Bool
  trial : Bool
  deriving DecidableEq, Repr

/-- Table 21-4 for a boot of partition p whose first candidate is the inactive slot (`tryNew`) or the active one. -/
def State.bootPlan (s : State) (fails : BootFails) (p : Nat) (tryNew : Bool) : BootPlan :=
  let a := s.actSlot p
  let o := s.inactSlot p
  let ra := s.bootCheck fails p a
  let ro := s.bootCheck fails p o
  let st := s.pstate p
  let old (reason : Nat) (cf fb : Bool) : BootPlan :=
    if ra = 0 then ⟨some a, 0, 0, reason, cf, fb, false⟩
    else if ro = 0 then ⟨some o, 0, 0, ra, true, fb, false⟩
    else ⟨none, 4, 0, ra, false, false, false⟩
  if st = 4 then ⟨none, 4, 0, 0, false, false, false⟩
  else if st = 2 ∧ tryNew then
    if ro = 0 then ⟨some o, 3, 1, 0, false, false, true⟩ else old ro true false
  else if st = 3 ∧ tryNew then
    let tr := s.fld (F.UPD_PSTAT_TRIALS p)
    if tr < 3 ∧ ro = 0 then ⟨some o, 3, tr + 1, 0, false, false, false⟩ else old (if tr < 3 then ro else 0) false true
  else if ra = 0 then ⟨some a, st, s.fld (F.UPD_PSTAT_TRIALS p), 0, false, false, false⟩
  else if ro = 0 then ⟨some o, st, s.fld (F.UPD_PSTAT_TRIALS p), ra, true, false, false⟩
  else ⟨none, 4, 0, ra, false, false, false⟩

/-- Carry a boot plan out: STATE, TRIALS, REASON, VERSION, flags and events with the partition and the reason (R484). -/
def State.applyBoot (s : State) (p : Nat) (b : BootPlan) : State :=
  let was := s.pstate p
  let s := if was = 4 then s else (s.setPstate p b.state).setFld (F.UPD_PSTAT_TRIALS p) b.trials
  let s := if b.reason ≠ 0 then s.setFld (F.UPD_PSTAT_REASON p) b.reason else s
  let s := if b.trial then (s.updFlag F.UPD_STAT_TRIAL).event 0x1202 [w32 p] else s
  let s := if b.checkFail then s.updFlag F.UPD_STAT_CHECK_FAIL else s
  let s := if b.checkFail && was = 2 then s.event 0x1204 [w32 p, w32 b.reason] else s
  let s := if b.fallback then (s.updFlag F.UPD_STAT_FALLBACK).event 0x1205 ([w32 p] ++ (if b.reason ≠ 0 then [w32 b.reason] else [])) else s
  let s := if b.state = 4 ∧ was ≠ 4 then (s.updFlag F.UPD_STAT_NO_IMAGE).event 0x1207 [w32 p, w32 b.reason] else s
  match b.slot with
  | some k => s.setFld (F.UPD_VER_VERSION p) (hVERSION (s.slotHdr p k))
  | none => s

/-- Record the UPD_ABORT of partitions whose WRITING a reset ended (R476). -/
def State.bootAborts (s : State) : State :=
  let l := s.upd.aborts
  let s : State := { s with upd := { s.upd with aborts := [] } }
  l.foldl (fun s p => (s.updFlag F.UPD_STAT_ABORTED).event 0x1206 [w32 p]) s

/-- Boot a partition other than CFG and APP (R477). -/
def State.bootPart (s : State) (fails : BootFails) (p : Nat) : State := s.applyBoot p (s.bootPlan fails p true)

/-- Boot CFG and APP (R480): the CFG slot is chosen by the format the APP slot being booted requires; a staged or
trial slot that matches wins, then the confirmed one, then the other; CFG_WAIT where nothing matches or a staged slot waits. A CFG in
TRIAL of a format unlike the other slot's is linked to the APP in TRIAL that selected it; an APP that falls back
returns a linked CFG to its old slot. -/
def State.bootApp (s : State) (fails : BootFails) : State :=
  let plan := s.bootPlan fails 2 true
  let req := match plan.slot with | some k => hCFGFMT (s.slotHdr 2 k) | none => s.fld F.UPD_CFGFMT_REQ
  let s := if plan.fallback ∧ s.flag (F.UPD_PSTAT_LINKED 5) then s.toIdle 5 else s
  let o := s.inactSlot 5
  let fits := s.slot 5 o ≠ .empty && hCFGFMT (s.slotHdr 5 o) = req
  let newMatches := (s.pstate 5 = 2 || s.pstate 5 = 3) && fits
  let oldMatches := hCFGFMT (s.slotHdr 5 (s.actSlot 5)) = req
  let idleOther := s.pstate 5 = 0 && fits && !oldMatches
  let wait := (!newMatches && !oldMatches && !idleOther) || (s.pstate 5 = 2 && !newMatches)
  let cplan : BootPlan := if idleOther && s.bootCheck fails 5 o = 0 then ⟨some o, 0, 0, 0, false, false, false⟩
    else s.bootPlan fails 5 newMatches
  let s := s.applyBoot 5 cplan
  let s := if wait then s.updFlag F.UPD_STAT_CFG_WAIT else s
  let s := match cplan.slot with
    | some k => s.setFld F.UPD_CFGFMT_ACT (hCFGFMT (s.slotHdr 5 k))
    | none => s
  let s := (s.applyBoot 2 plan).setFld F.UPD_CFGFMT_REQ req
  let differ := hCFGFMT (s.slotHdr 5 (s.inactSlot 5)) ≠ hCFGFMT (s.slotHdr 5 (s.actSlot 5))
  if s.pstate 5 = 3 ∧ newMatches ∧ s.pstate 2 = 3 ∧ differ then s.setFld (F.UPD_PSTAT_LINKED 5) 1 else s

/-- The handover block at an APP boot (R481): generations equal and not 0, LEN inside UPD_HOSIZE, the body's CRC. It is
reported only after an APP or RTX reset. -/
def State.handoverCheck (s : State) (reported : Bool) : State :=
  let base := s.fld F.UPD_HOBASE_ADDR * 4096
  let size := s.fld F.UPD_HOSIZE_KIB * 1024
  let s := (s.setReg R.UPD_HOSTAT 0).setReg R.UPD_HOVER 0
  if !reported ∨ size = 0 then s
  else
    let h := s.bytes base 64
    let len := field h 4 4
    if field h 0 2 = field h 62 2 ∧ field h 0 2 ≠ 0 ∧ len + 64 ≤ size ∧ crc32 (s.bytes (base + 64) len) = field h 8 4 then
      ((s.setFld F.UPD_HOSTAT_VALID 1).setFld F.UPD_HOSTAT_HOFMT (field h 2 2)).setFld F.UPD_HOVER_WVER (field h 12 4)
    else s.updFlag F.UPD_STAT_HO_INVALID

/-- A reset of RTX or stronger, or a loss of supply, during WRITING: the inactive slot is empty, the partition IDLE,
UPD_ABORT to come at the next boot (R476). -/
def State.updInterrupted (s : State) : State :=
  (List.range 6).foldl (fun s p =>
    if s.pstate p = 1 ∨ (s.pstate p = 4 ∧ s.inProgress p) then
      let st := s.pstate p
      let s := ((s.setSlot p (s.inactSlot p) .empty).toIdle p).setFld (F.UPD_PSTAT_STATE p) (if st = 4 then 4 else 0)
      { s with upd := { s.upd with aborts := s.upd.aborts ++ [p] } }
    else s) s

/-! ### Queue 0x09 (Table 21-3) -/

/-- The UPD opcodes. -/
def updOps : List Nat := [1, 2, 3, 4, 5, 6]

/-- A command of queue 0x09. -/
def State.updCmd (s : State) (n op : Nat) (run : State → Desc → State) : State := s.queueCmd n (fun q => q = 0x09) op updOps run

/-- Whether a partition takes container bytes: WRITING, or DEAD with a BEGIN accepted (R477; log entry 15). -/
def State.writing (s : State) (p : Nat) : Bool := s.pstate p = 1 || (s.pstate p = 4 && s.inProgress p)

/-- BEGIN (R474, R475). -/
def execUpdBegin (n : Fin 64) (s : State) : Out :=
  .next (s.updCmd n 1 (fun s d =>
    let p := d.arg0 % 8
    if d.len = 0 then s.complete n d.didx stEMPTY 0
    else if d.len ≠ 256 then s.complete n d.didx stBADLEN 0
    else if s.inProgress p then s.complete n d.didx stBUSY 0
    else if 4 ≤ s.fld F.UPD_BUSY_NBUSY then s.complete n d.didx 0x80 0
    else match s.unitRead (engine 19) d.addr 256 with
    | (none, s) => s.complete n d.didx stACCESS 0
    | (some h, s) =>
      let r := s.headerReason p h
      let r := if 6 ≤ p ∧ (r = 0 ∨ 3 < r) then 3 else r
      if r ≠ 0 then s.complete n d.didx 0x81 r
      else
        let s := s.setSlot p (s.inactSlot p) (.written h)
        let s := if s.pstate p = 4 then s.setProgress p true else s.setPstate p 1
        s.complete n d.didx stOK 0))

/-- DATA (R474): bytes after the header, in order, inside the container. -/
def execUpdData (n : Fin 64) (s : State) : Out :=
  .next (s.updCmd n 2 (fun s d =>
    let p := d.arg0 % 8
    if d.len = 0 then s.complete n d.didx stEMPTY 0
    else if 6 ≤ p ∨ !s.writing p then s.complete n d.didx 0x85 0
    else match s.slot p (s.inactSlot p) with
    | .written bs =>
      if 2 ^ 24 < d.len ∨ 368 + hPLEN bs < 256 + d.arg1 + d.len then s.complete n d.didx stBADLEN 0
      else if d.arg1 ≠ bs.length - 256 then s.complete n d.didx 0x82 0
      else match s.unitRead (engine 19) d.addr d.len with
      | (none, s) => s.complete n d.didx stACCESS 0
      | (some x, s) => (s.setSlot p (s.inactSlot p) (.written (bs ++ x))).complete n d.didx stOK d.len
    | _ => s.complete n d.didx 0x85 0))

/-- COMMIT (Table 21-4): a fully written container is STAGED. -/
def execUpdCommit (n : Fin 64) (s : State) : Out :=
  .next (s.updCmd n 3 (fun s d =>
    let p := d.arg0 % 8
    if 6 ≤ p ∨ !s.writing p then s.complete n d.didx 0x85 0
    else match s.slot p (s.inactSlot p) with
    | .written bs =>
      if bs.length < 368 + hPLEN bs then s.complete n d.didx 0x83 0
      else (((s.setPstate p 2).updFlag F.UPD_STAT_STAGED).event 0x1201 [w32 p]).complete n d.didx stOK 0
    | _ => s.complete n d.didx 0x85 0))

/-- ABORT (Table 21-4): in WRITING or STAGED, the inactive slot is empty, the partition IDLE (DEAD stays DEAD). -/
def execUpdAbort (n : Fin 64) (s : State) : Out :=
  .next (s.updCmd n 4 (fun s d =>
    let p := d.arg0 % 8
    if 6 ≤ p ∨ !(s.writing p || s.pstate p = 2) then s.complete n d.didx 0x85 0
    else
      let st := s.pstate p
      let s := ((s.setSlot p (s.inactSlot p) .empty).toIdle p).setFld (F.UPD_PSTAT_STATE p) (if st = 4 then 4 else 0)
      ((s.updFlag F.UPD_STAT_ABORTED).event 0x1206 [w32 p]).complete n d.didx stOK 0))

/-- Confirm a partition in TRIAL: its trial slot becomes active, the rollback counter rises to its RBVER (R479). -/
def State.confirm (s : State) (p : Nat) : State :=
  let o := s.inactSlot p
  let rb := hRBVER (s.slotHdr p o)
  let s := (s.setFld (F.UPD_PSTAT_ACTIVE p) o).setFld (F.UPD_RBCNT_COUNT p) (max (s.fld (F.UPD_RBCNT_COUNT p)) rb)
  (s.toIdle p).event 0x1203 [w32 p]

/-- CONFIRM (R479, R480): only in TRIAL; a linked CFG follows its APP. -/
def execUpdConfirm (n : Fin 64) (s : State) : Out :=
  .next (s.updCmd n 6 (fun s d =>
    let p := d.arg0 % 8
    if 6 ≤ p ∨ s.pstate p ≠ 3 then s.complete n d.didx 0x85 0
    else if p = 5 ∧ s.flag (F.UPD_PSTAT_LINKED 5) then s.complete n d.didx 0x84 0
    else
      let linked := p = 2 && s.flag (F.UPD_PSTAT_LINKED 5) && s.pstate 5 = 3
      let s := s.confirm p
      (if linked then s.confirm 5 else s).complete n d.didx stOK 0))

/-- KEY_REVOKE (R485): bits of UPD_KEYREV set for good. -/
def execKeyRevoke (acc : Acc) (keys : BitVec 4) (s : State) : Out :=
  .next (s.guardWrite acc R.UPD_KEYREV (fun s => s.setReg R.UPD_KEYREV (s.reg R.UPD_KEYREV ||| keys.zeroExtend 32)))

/-- A write of UPD_HOSIZE: a value above 4,096 reads back 0 (Table 21-8). -/
def State.writeHosize (s : State) (w : Word) : State :=
  let s := s.writePlain R.UPD_HOSIZE w
  if 4096 < s.fld F.UPD_HOSIZE_KIB then s.setFld F.UPD_HOSIZE_KIB 0 else s

end Sys2Proof.Machine
end

