-- ==== Sys2Proof/Machine/Reset.lean ====
section
/-! DEFINITION. Resets, start-up, heartbeat and watchdogs (23_power_reset_startup.md, R510-R517), and what each reset and
each domain's power-off clears. -/

namespace Sys2Proof.Machine

/-- Change the power record. -/
def State.updPwr (s : State) (f : Pwr → Pwr) : State := { s with pwr := f s.pwr }

/-- The last instant of a grid. -/
def State.gridNow (s : State) (per : Nat) : Nat := s.now / per * per

/-! ### What the domains hold beside their registers (Table 23-6) -/

/-- Accepted entries of a table are lost. -/
def State.loseTable (s : State) (t : Nat) : State := { s with entries := SMap.keep s.entries (fun k => k / 4096 ≠ t) }

/-- The queues of the units in a power domain that can be switched alone (Table 2-1). -/
def domQueue (d : Dom) (q : Nat) : Bool :=
  match d with
  | .img => 0x50 ≤ q && q ≤ 0x57
  | .dsp => q = 0x58 || q = 0x59
  | .nav => q = 0x0B
  | _ => false

/-- Descriptors in flight on a domain's queues are discarded without completion (R40, R406, R419; log entry 67). -/
def State.dropQueues (s : State) (d : Dom) : State :=
  (SMap.keys s.rings).foldl (fun s n =>
    let r := s.ring n
    if domQueue d r.queue then (s.setRing n r.discard).setOutBuf n none else s) s

/-- RTX: rings, tables 0, Stride, endpoints, slots; descriptors in flight on any queue go (R40, R91, R117, R148). -/
def State.initRtx (s : State) : State :=
  let s := s.loseTable 0
  { s with
    rings := [], routes := [], tableJobs := [], outBufs := []
    str := { Str.init with tickAt := s.gridNow 50000 }
    ept := { Ept.init with tickAt := s.gridNow 250000 }
    slt := Slt.init
    evr := { s.evr with flushes := [] }
    net := { s.net with
      cans := SMap.mapKeep (fun _ => CanU.init) s.net.cans (fun _ x => { x with host := none, tps := [] })
      eth := { s.net.eth with queues := s.net.eth.queues.map (fun p => (p.1, p.2.map (fun q => { q with desc := none }))) } } }

/-- CTL: coverage, Bridle with table 6, Weave, YLD (R175, R312, R369). -/
def State.initCtl (s : State) : State :=
  let s := s.loseTable 6
  { s with
    cov := Cov.init, brd := Brd.init
    wve := { Wve.init with epochAt := s.gridNow 625000 }
    yld := { Yld.init with lossAt := s.now, traceAt := s.now, perAt := s.now } }

/-- The image unit: links stay trained through an RTX reset, and go down otherwise (R406). -/
def State.initImg (s : State) (links : Bool) : State :=
  { s with img := { Img.init with
      cams := if links then s.img.cams.filterMap (fun p => if p.2.trained then some (p.1, { Cam.init with trained := true }) else none) else [] } }

/-- NAV: held GNSS data; the GNSS time input is gone (R331). -/
def State.initNav (s : State) : State :=
  ({ s with gns := { Gns.init with epochAt := s.now }, tim := { s.tim with gnssValid := false, gnssFresh := none } } : State).timInputs

/-- The A-die's sensor units and the entries of tables 4 and 5 (R279). -/
def State.initAfe (s : State) : State :=
  let s := (s.loseTable 4).loseTable 5
  { s with afe := { Afe.init with rateAt := s.gridNow 1000000 } }

/-- NET: controllers recessive, links down, claims lost, the Tandem unit OFF (R441, R467). -/
def State.initNet (s : State) : State :=
  ({ s with net := Net.init, tdm := Tdm.init } : State).partnerTime false

/-- The registers of a domain. -/
def State.clearDom (s : State) (d : Dom) : State := s.clearRegs (fun a f => f.dom.at a = d)

/-- Power off one domain: registers, hidden state, descriptors in flight (R515). -/
def State.domainOff (s : State) (d : Dom) : State :=
  match d with
  | .img => (List.range 8).foldl (fun s c => s.camSources c) (((s.clearDom .img).dropQueues .img).initImg false)
  | .dsp => { ((s.clearDom .dsp).dropQueues .dsp) with dsp := Dsp.init }
  | .nav => ((s.clearDom .nav).dropQueues .nav).initNav
  | .afe => (s.clearDom .afe).initAfe
  | .pwr0 => s.dieClear 0
  | .pwr1 => s.dieClear 1
  | .rtx => (s.clearDom .rtx).initRtx
  | .ctl => (s.clearDom .ctl).initCtl
  | .net => (s.clearDom .net).initNet
  | .smon => { s.clearDom .smon with rein := [], pwr := { s.pwr with wd0 := Wd.init, wd1 := Wd.init, snap := none, latch := [], imm := false } }
  | .mem => { s with mem := SMap.keep s.mem (fun a => a < 0x0800000000) }
  | .sram => { s with mem := SMap.keep s.mem (fun a => 0x0800000000 ≤ a) }
  | d => s.clearDom d

/-! ### DOMSTAT (R502) -/

/-- Whether a domain is powered. -/
def State.domOn (s : State) (d : Dom) : Bool :=
  match d.num with
  | some n => s.fld F.PWRM_DOMSTAT_ON / 2 ^ n % 2 = 1
  | none => false

/-- Set or clear domains' bits in PWRM_DOMSTAT. -/
def State.setDoms (s : State) (l : List Dom) (on : Bool) : State :=
  l.foldl (fun s d => match d.num with
    | some n => s.setBit ⟨R.PWRM_DOMSTAT, n, n⟩ on
    | none => s) s

/-- Whether the units of a domain are in the part (R8). -/
def Part.hasDom (p : Part) (d : Dom) : Bool :=
  match d with
  | .img => p.hasIMG
  | .dsp => p.hasDSP
  | .nav => p.hasGNS
  | .pwr1 => p.hasP1
  | _ => true

/-- Whether PWRM_DOMEN asks for a domain, where it is one of IMG, DSP and NAV. -/
def State.domAsked (s : State) (d : Dom) : Bool :=
  match d with
  | .img => s.flag F.PWRM_DOMEN_IMG
  | .dsp => s.flag F.PWRM_DOMEN_DSP
  | .nav => s.flag F.PWRM_DOMEN_NAV
  | _ => true

/-- Whether a domain is powered in a power state, as things stand (Table 23-2, R8, R502). -/
def State.domWanted (s : State) (st : Nat) (d : Dom) : Bool :=
  s.part.hasDom d && s.domAsked d && (match st with
    | 0 => true
    | 1 => d ≠ .img
    | 2 => d ≠ .img && d ≠ .dsp && d ≠ .app
    | 3 => d = .aon || d = .mem
    | 4 => d = .aon
    | _ => false)

/-- The 14 domains (R502). -/
def doms : List Dom := [.aon, .smon, .rtx, .ctl, .app, .mem, .sram, .img, .dsp, .nav, .net, .afe, .pwr0, .pwr1]

/-- The power die domain of die d. -/
def dieDom (d : Nat) : Dom := if d = 0 then .pwr0 else .pwr1

/-! ### Watchdogs (R513) -/

/-- Watchdog w. -/
def State.wd (s : State) (w : Nat) : Wd := if w = 0 then s.pwr.wd0 else s.pwr.wd1

/-- Replace watchdog w. -/
def State.setWd (s : State) (w : Nat) (x : Wd) : State := s.updPwr (fun p => if w = 0 then { p with wd0 := x } else { p with wd1 := x })

/-- Restart a watchdog's count. -/
def State.wdRestart (s : State) (w : Nat) : State := s.setWd w ⟨s.now, none, false⟩

/-- Whether watchdog w counts: armed, no reset in progress, its count not stopped with APP off. -/
def State.wdCounts (s : State) (w : Nat) : Bool := s.flag (F.RST_WDCFG_EN w) && s.pwr.seq.isNone && (s.wd w).stop.isNone

/-- ms to the expiry of watchdog w: RST_WDCNTw.LEFT. -/
def State.wdLeft (s : State) (w : Nat) : Nat :=
  if s.flag (F.RST_WDCFG_EN w) then s.fld (F.RST_WDCFG_TO w) - ((s.wd w).stop.getD s.now - (s.wd w).since) / 1000000 else 0

/-- APP goes off, or comes back: WD0 stops counting with it. -/
def State.wdApp (s : State) (on : Bool) : State :=
  if on then s.wdRestart 0 else s.setWd 0 { s.wd 0 with stop := some s.now }

/-! ### Soft resets (R510, R511) -/

/-- A reset arrives: its bit in RST_SEEN. -/
def State.seeReset (s : State) (k : ResetKind) : State := s.setBit ⟨R.RST_SEEN, k.code, k.code⟩ true

/-- RST_CAUSE of the strongest reset of a sequence. -/
def State.setCause (s : State) (k : ResetKind) (sub : Nat) : State :=
  (s.setFld F.RST_CAUSE_KIND k.code).setFld F.RST_CAUSE_SUB sub

/-- Event RESET: kind, sub-cause, RST_SEEN, RST_BOOTCNT. -/
def State.resetEvent (s : State) : State :=
  s.event 0x1301 [w32 (s.fld F.RST_CAUSE_KIND), w32 (s.fld F.RST_CAUSE_SUB), w32 (s.fld F.RST_SEEN_KINDS), w32 (s.fld F.RST_BOOTCNT_COUNT)]

/-- The MIRRORED outputs of the module (R463). -/
def State.mirroredOuts (s : State) : List (Nat × Nat) :=
  (((List.range 64).filter (s.mirrored 0)).map (fun n => (0, n))) ++
  (((List.range 96).filter (s.mirrored 1)).map (fun n => (1, n))) ++
  (((List.range 64).filter (s.mirrored 2)).map (fun n => (2, n)))

/-- OFF by a reset (Table 20-1), recorded as a change of role; MIRRORED outputs of a masked module stay high-impedance
(R455, R482, R514). -/
def State.roleReset (s : State) : State :=
  let l := if s.tdmMasked then s.mirroredOuts else s.pwr.hiz
  (s.pairTo psOFF).updPwr (fun p => { p with hiz := l })

/-- Full reloads of every table that has a base, table 0 first (R45). -/
def State.fullReload (s : State) : State :=
  let jobs := ((List.range 7).filter (fun t => s.tableBase t ≠ 0)).map (fun t => (⟨t, 0, (tableSize t).1, true⟩ : TableJob))
  ({ s with tableJobs := jobs } : State).refreshTables

/-- The actions of an RTX or TKO reset: outputs to their safe states, RTX, CTL, IMG, DSP and TDM as Table 23-6 says, the tables
reloaded. -/
def State.rtxActions (s : State) (k : ResetKind) : State :=
  let s := s.roleReset
  let s := [0, 1].foldl (fun s d => if s.domOn (dieDom d) then ((s.solSafeAll d).lswSafeAll d).dioSafeAll d else s) s
  let s := s.updInterrupted
  let s := s.clearRegs (fun a f => f.clearedBy k && !(0x40700000 ≤ a && a < 0x40800000))
  let s := s.initRtx.initCtl.initImg true
  let s := ({ s.dspReset with tdm := Tdm.init } : State).partnerTime false
  (s.fullReload).updPwr (fun p => { p with imm := true })

/-- The boots of an RTX, TKO or APP reset: RTX, then CFG and APP where the APP domain is powered (Table 23-4, R477, R481). -/
def State.softBoot (s : State) (k : ResetKind) (fails : BootFails) : State :=
  let s := s.bootAborts
  let s := if k = .app then s else s.bootPart fails 1
  if !s.domOn .app then s
  else
    let s := (s.bootApp fails).handoverCheck true
    (s.updPwr (fun p => { p with recov := s.pstate 2 = 4 })).pmuMode

/-- An APP, RTX or TKO reset that is not folded: it ends when the first of its partitions begins its check (R511). -/
def State.softReset (s : State) (k : ResetKind) (sub : Nat) (fails : BootFails) : State :=
  let s := (s.setCause k sub).seeReset k
  let s := if k = .app then s.clearRegs (fun _ f => f.clearedBy k) else s.rtxActions k
  let s := (s.bump F.RST_BOOTCNT_COUNT).resetEvent
  let s := (if s.domOn .app then s.wdRestart 0 else s).wdRestart 1
  s.softBoot k fails

/-! ### MOD and stronger resets (R511, R512, R514-R517) -/

/-- What a MOD or stronger reset clears beside registers. `dram`: DRAM is kept in self-refresh; `dio`: the DIO units are. -/
def State.initHard (s : State) (dram dio : Bool) : State :=
  let s := ((s.initRtx.initCtl.initImg false).initAfe).initNav
  let s := s.initNet
  { s with
    entries := if dio then SMap.keep s.entries (fun k => k / 4096 = 3) else []
    mem := if dram then SMap.keep s.mem (fun a => 0x0800000000 ≤ a) else []
    rein := []
    dsp := if (List.range 2).any (fun p => (s.panel p).rst) then s.dsp else Dsp.init
    sol := Sol.init
    lsw := { Lsw.init with cut := s.lsw.cut }
    dio := if dio then s.dio else Dio.init
    pwr := { s.pwr with
      hb := false, hbAt := if s.pwr.hb then s.now else s.pwr.hbAt, entry := none, reqTrim := false, held := 0, wd0 := Wd.init
      wd1 := Wd.init, recov := false, snap := none, latch := [], hiz := [], imm := false } }

/-- The grids of MTB multiples that the units run on, from now on: they meet their next multiple (R74, R294). -/
def State.regrid (s : State) : State :=
  { s with
    str := { s.str with tickAt := s.gridNow 50000 }
    ept := { s.ept with tickAt := s.gridNow 250000 }
    wve := { s.wve with epochAt := s.gridNow 625000 }
    yld := { s.yld with lossAt := s.now, traceAt := s.now, perAt := s.now }
    afe := { s.afe with rateAt := s.gridNow 1000000 }
    gns := { s.gns with epochAt := s.now } }

/-- AON as after its release: the MTB starts at 0; staging is lost, the journal is not (R349, R496, R517). -/
def State.initAon (s : State) : State :=
  { s with
    now := 0, tim := Tim.init
    evr := { Evr.init with journal := s.evr.journal, warned := s.evr.warned }
    dio := { s.dio with holdAt := [] }
    lsw := Lsw.init
    pwr := { Pwr.init with test := s.pwr.test } }

/-- A MOD or stronger reset takes the sequence from its first step; it goes on to the reset release. `dio`: the DIO units keep
their state. Panels carry out DOWN (R419), except at BOR and POR. -/
def State.hardReset (s : State) (k : ResetKind) (sub : Nat) (dram dio : Bool) : State :=
  let aon : Bool := k = .bor || k = .por
  let hold := dio && s.domOn .pwr0
  let s := (s.roleReset).updInterrupted
  let s := if dio then (s.dioRecordReset 0).dioRecordReset 1 else s
  let s := if aon then s else s.dspReset
  let s := s.clearRegs (fun a f => f.clearedBy k && (aon || !(0x40700000 ≤ a && a < 0x40800000)))
  let s := if dio then s else (s.clearRegs (fun a _ => (0x40280000 ≤ a && a < 0x402C0000) || (0x40380000 ≤ a && a < 0x403C0000)))
  let s := if aon then (({ s with dsp := Dsp.init } : State).initAon).initHard dram dio else s.initHard dram dio
  let s := if aon then (s.setFld F.RST_SEEN_KINDS 0).setFld F.RST_BOOTCNT_COUNT 1 else s
  let s := (s.setCause k sub).seeReset k
  let s := if aon then s else s.setFld F.PWRM_STATE_BUSY 0
  (s.updPwr (fun p => { p with seq := some k, wake := false, dio := hold || (dio && p.dio), lowExit := p.lowExit && !aon })).pmuMode

/-- A reset (R511): a weaker or equal one than the sequence in progress adds only its bit of RST_SEEN. -/
def State.resetTo (s : State) (k : ResetKind) (sub : Nat) (fails : BootFails) : State :=
  let go : Bool := match s.pwr.seq with
    | some q => q.strength < k.strength
    | none => true
  if !go then s.seeReset k
  else if k.strength ≤ 1 then s.softReset k sub fails
  else s.hardReset k sub false (k ≠ .por)

/-- A module that a conflict has fenced undergoes a TKO reset (R455). -/
def State.fenceReset (s : State) (fails : BootFails) : State :=
  if s.pairState = psFENCED then s.resetTo .tko 9 fails else s

end Sys2Proof.Machine
end

