-- ==== Sys2Proof/Machine/Boot.lean ====
section
/-! DEFINITION. The commands that make resets: reset kinds, RST_CMD, UPD_RESTART, watchdogs, heartbeat loss, ACTIVATE, and the
Tandem events that can end in a TKO reset (R455, R474, R482, R510-R513). -/

namespace Sys2Proof.Machine

/-! ### Reset kinds (Table 23-4) -/

/-- RESET_POR (R510, R517): the AON supply has risen from below 1.5 V and AON is released. -/
def execResetPor (s : State) : Out := .next (s.resetTo .por 0 [])

/-- RESET_BOR (R499, R501, R515): the higher of KL30 and IGN, in mV, below the AON threshold for `ms`, at least 10. The DIO units
keep their state while KL30 is at least 3.0 V. -/
def execResetBor (kl30 ign : BitVec 16) (ms : BitVec 16) (s : State) : Out :=
  if max kl30.toNat ign.toNat < 4700 ∧ 10 ≤ ms.toNat then
    (match s.pwr.seq with
    | some .por => .next (s.seeReset .bor)
    | some .bor => .next (s.seeReset .bor)
    | _ => .next (s.hardReset .bor 0 false (decide (3000 ≤ kl30.toNat))))
  else .next s

/-- RESET_PIN (R510): RESET_N low for `ns`: a reset from 10 µs on, nothing below 1 µs; what a pulse between does is open. -/
def execResetPin (ns : BitVec 32) (s : State) : Out :=
  if 10000 ≤ ns.toNat then .next (s.resetTo .pin 0 [])
  else if ns.toNat < 1000 then .next s
  else
    let (b, s) := s.drawNat 1
    .next (if b = 1 then s.resetTo .pin 0 [] else s)

/-- RESET_WDT (R510): a lockstep mismatch of a real-time pair. Watchdog expiry is WD_EXPIRY. -/
def execResetWdt (s : State) : Out := .next (if s.domOn .rtx || s.pwr.seq.isSome then s.resetTo .wdt 5 [] else s)

/-- RESET_MOD (R510): the C-die junction, in °C, above 130 for `ms`, at least 1. RST_CMD, a low supply and a wake have their
own commands. -/
def execResetMod (temp : BitVec 16) (ms : BitVec 16) (s : State) : Out :=
  if 130 < temp.toInt ∧ 1 ≤ ms.toNat then .next (s.resetTo .mod 7 []) else .next s

/-- RESET_RTX (R510): an RTX reset arrives, from RST_CMD or UPD_RESTART. -/
def execResetRtx (upd : Bool) (fails : BootFails) (s : State) : Out := .next (s.resetTo .rtx (if upd then 2 else 1) fails)

/-- RESET_APP (R510): an APP reset arrives, from RST_CMD, UPD_RESTART or the application watchdog. -/
def execResetApp (cause : Fin 3) (fails : BootFails) (s : State) : Out := .next (s.resetTo .app (cause.val + 1) fails)

/-! ### RST_CMD (R510) -/

/-- A write of RST_CMD. -/
def State.writeRstCmd (s : State) (w : Word) (fails : BootFails) : State :=
  if F.RST_CMD_KEY.get w ≠ 0x5253 then s.raiseFlag F.RST_STAT_CMD_ERR 224
  else match F.RST_CMD_KIND.get w with
    | 4 => s.resetTo .mod 1 fails
    | 5 => s.resetTo .rtx 1 fails
    | 6 => s.resetTo .app 1 fails
    | _ => s.raiseFlag F.RST_STAT_CMD_ERR 224

/-- The word of RST_CMD with a key and a kind. -/
def rstWord (key : BitVec 16) (kind : Nat) : Word := w32 (key.toNat * 2 ^ 16 + kind)

/-- RST_CMD_MOD (R510): a write of RST_CMD with KIND 4. -/
def execRstCmdMod (acc : Acc) (key : BitVec 16) (s : State) : Out :=
  .next (s.guardWrite acc R.RST_CMD (fun s => s.writeRstCmd (rstWord key 4) []))

/-- RST_CMD_RTX (R510): a write of RST_CMD with KIND 5. -/
def execRstCmdRtx (acc : Acc) (key : BitVec 16) (fails : BootFails) (s : State) : Out :=
  .next (s.guardWrite acc R.RST_CMD (fun s => s.writeRstCmd (rstWord key 5) fails))

/-- RST_CMD_APP (R510): a write of RST_CMD with KIND 6. -/
def execRstCmdApp (acc : Acc) (key : BitVec 16) (fails : BootFails) (s : State) : Out :=
  .next (s.guardWrite acc R.RST_CMD (fun s => s.writeRstCmd (rstWord key 6) fails))

/-! ### UPD_RESTART and ACTIVATE (R474, R482) -/

/-- A write of UPD_RESTART: APP, RTX, or both, of which the stronger acts. -/
def State.writeRestart (s : State) (w : Word) (fails : BootFails) : State :=
  let s := if F.UPD_RESTART_RTX.get w = 1 then s.resetTo .rtx 2 fails else s
  if F.UPD_RESTART_APP.get w = 1 then (if F.UPD_RESTART_RTX.get w = 1 then s.seeReset .app else s.resetTo .app 2 fails) else s

/-- UPD_RESTART_APP (R482). -/
def execUpdRestartApp (acc : Acc) (fails : BootFails) (s : State) : Out :=
  .next (s.guardWrite acc R.UPD_RESTART (fun s => s.writeRestart 1 fails))

/-- UPD_RESTART_RTX (R482). -/
def execUpdRestartRtx (acc : Acc) (fails : BootFails) (s : State) : Out :=
  .next (s.guardWrite acc R.UPD_RESTART (fun s => s.writeRestart 2 fails))

/-- ACTIVATE (R474, Table 21-1): AFW or PFW, STAGED: the A-die restarts as after power-off of AFE and NAV, or both power dies
as after power-off of theirs. -/
def execUpdActivate (n : Fin 64) (fails : BootFails) (s : State) : Out :=
  .next (s.updCmd n 5 (fun s d =>
    let p := d.arg0 % 8
    if !(p = 3 ∨ p = 4) ∨ s.pstate p ≠ 2 then s.complete n d.didx 0x85 0
    else
      let s := if p = 3 then (s.domainOff .afe).domainOff .nav
        else if s.part.hasP1 then (s.dieClear 0).dieClear 1 else s.dieClear 0
      (s.bootPart fails p).complete n d.didx stOK 0))

/-! ### Heartbeat (R512) -/

/-- HEARTBEAT_LOSS (R512, R539, Table 8-8, Table 9-8, R256): power die d has seen no C-die heartbeat for 30 µs: since it stopped at a
reset, or, where nothing in the module has stopped it, since the C-die lost its ground. -/
def execHeartbeatLoss (d : Fin 2) (s : State) : Out :=
  if s.domOn (dieDom d) && (s.pwr.hb || s.elapsed s.pwr.hbAt 30000) then
    let s := if s.pwr.hb then s.updPwr (fun p => { p with hb := false, hbAt := s.now - 30000 }) else s
    let s := (s.lswOffAll d).solSilence d
    .next (if s.holding d then s.dioShowDie d else s.dioEnterHold d)
  else .next s

/-! ### Watchdogs (R513) -/

/-- A write of RST_WDCFGw. -/
def State.writeWdcfg (s : State) (w : Nat) (v : Word) : State :=
  let was := s.flag (F.RST_WDCFG_EN w)
  let s := s.writePlain (R.RST_WDCFG w) v
  if !was && s.flag (F.RST_WDCFG_EN w) then
    s.setWd w ⟨s.now, if w = 0 && !s.domOn .app then some s.now else none, false⟩
  else s

/-- Watchdog w expires (Table 23-4). -/
def State.wdExpire (s : State) (w : Nat) (fails : BootFails) : State :=
  if w = 1 then s.resetTo .wdt 4 fails
  else if s.flag (F.RST_WDCFG_ACTION 0) then s.resetTo .wdt 3 fails
  else s.resetTo .app 3 fails

/-- A write of RST_WDKICKw: no effect while the watchdog does not count. -/
def State.writeKick (s : State) (w : Nat) (v : Word) (fails : BootFails) : State :=
  if !s.wdCounts w then s
  else if v = 0x0000A5A5 then s.wdRestart w
  else s.wdExpire w fails

/-- WD_ARM (R513): a write of RST_WDCFGw with EN 1. -/
def execWdArm (acc : Acc) (w : Fin 2) (value : Word) (s : State) : Out :=
  .next (s.guardWrite acc (R.RST_WDCFG w) (fun s => s.writeWdcfg w ((F.RST_WDCFG_EN w).put value 1)))

/-- WD_KICK (R513): a write of RST_WDKICKw. -/
def execWdKick (acc : Acc) (w : Fin 2) (value : Word) (fails : BootFails) (s : State) : Out :=
  .next (s.guardWrite acc (R.RST_WDKICK w) (fun s => s.writeKick w value fails))

/-- WD_WARN (R513): WARN % of TO has passed. -/
def execWdWarn (w : Fin 2) (s : State) : Out :=
  let pct := s.fld (F.RST_WDCFG_WARN w)
  if s.wdCounts w && pct ≠ 0 && !(s.wd w).warned &&
      decide (s.fld (F.RST_WDCFG_TO w) * 1000000 * pct ≤ (s.now - (s.wd w).since) * 100) then
    let s := s.setWd w { s.wd w with warned := true }
    .next ((s.raiseFlag (if w.val = 0 then F.RST_STAT_WDWARN0 else F.RST_STAT_WDWARN1) 224).event 0x1306 [w32 w])
  else .next s

/-- WD_EXPIRY (R513): TO has passed. -/
def execWdExpiry (w : Fin 2) (fails : BootFails) (s : State) : Out :=
  if s.wdCounts w && s.elapsed (s.wd w).since (s.fld (F.RST_WDCFG_TO w) * 1000000) then .next (s.wdExpire w fails) else .next s

/-- A write to a register of the RST window. -/
def State.writeRst (s : State) (a : Nat) (v : Word) (fails : BootFails) : State :=
  if a = R.RST_CMD then s.writeRstCmd v fails
  else if a = R.RST_WDCFG 0 then s.writeWdcfg 0 v
  else if a = R.RST_WDCFG 1 then s.writeWdcfg 1 v
  else if a = R.RST_WDKICK 0 then s.writeKick 0 v fails
  else if a = R.RST_WDKICK 1 then s.writeKick 1 v fails
  else s.writePlain a v

/-! ### Frames and link events that can fence the module (R449, R451, R455) -/

/-- CAN_FRAME_RX (R426): a TSYNC of the other side among its frames is a conflict (R455). -/
def execCanFrameRx (n : Fin 12) (idw : BitVec 31) (brs rtr esi : Bool) (dlc : Fin 16) (data : List Byte) (ts : Word) (err : Fin 8)
    (heavy : Bool) (fails : BootFails) (s : State) : Out :=
  .next ((s.canFrameRx n idw brs rtr esi dlc data ts err heavy).fenceReset fails)

/-- ETH_FRAME_RX (R437, R439): likewise. -/
def execEthFrameRx (p : Fin 11) (frame : List Byte) (ts : BitVec 64) (fails : BootFails) (s : State) : Out :=
  .next ((s.ethFrameRx p frame ts).fenceReset fails)

/-- TDM_LINK (R448, R451): the link trains on lanes with a partner that identifies itself, or goes down. -/
def execTdmLink (up : Option (BitVec 4 × TdmPeer)) (fails : BootFails) (s : State) : Out :=
  match up with
  | some (lanes, peer) => .next ((s.linkUp lanes.toNat peer).fenceReset fails)
  | none => .next s.linkDown

/-- LINK_RETRAIN (R448): every 100 ms while EN is 1 and the link is down; `lanes` are the lanes that train, 0 for none. -/
def execLinkRetrain (lanes : BitVec 4) (peer : TdmPeer) (fails : BootFails) (s : State) : Out :=
  if s.flag F.TDM_CTL_EN && !s.flag F.TDM_LINK_UP && s.elapsed s.tdm.retryAt 100000000 then
    .next (((s.updTdm (fun x => { x with retryAt := s.now })).linkUp lanes.toNat peer).fenceReset fails)
  else .next s

/-- TDM_CONFLICT (R455): a module in ACTIVE or SOLO finds the partner leading, with a TERM. -/
def execTdmConflict (term : BitVec 16) (fails : BootFails) (s : State) : Out :=
  .next ((if s.leads then s.conflictWith term.toNat else s).fenceReset fails)

/-- CTRL_FRAME (R449): identity, completion of the join, conflict, handover, safe states of SPLIT channels. -/
def execCtrlFrame (c : TdmCtrl) (fails : BootFails) (s : State) : Out :=
  .next (match c with
    | .identity p => (if s.flag F.TDM_LINK_UP then s.identify p else s).fenceReset fails
    | .joined => if s.pairState = psSOLO then s.pairTo psACTIVE else s
    | .conflict t => (if s.leads then s.conflictWith t.toNat else s).fenceReset fails
    | .handover =>
      if s.pairState = psSTANDBY ∧ s.flag F.TDM_STATE_READY then s.updTdm (fun x => { x with tk := some (s.now, s.tkPos, true) }) else s
    | .safe cls ch ep on cmd => s.splitSafe cls ch ep on cmd.toNat)

end Sys2Proof.Machine
end

