-- ==== Sys2Proof/Machine/Windows.lean ====
section
/-! DEFINITION. The register windows (R13, Table 0-8): which unit takes a write, and what a read shows where a register is a
view of other state. -/

namespace Sys2Proof.Machine

/-! ### Views -/

/-- MOD_CAP0, MOD_CAP1 and MOD_CAP2 per ordering code (Table 0-3). -/
def capWord (k : Nat) (code : OrderCode) : Word :=
  match k, code with
  | 0, .f => 0x000000FF | 0, .a => 0x000000CF | 0, .c => 0x000000C5 | 0, .d => 0x00000005
  | 1, .f => 0x08406040 | 1, .a => 0x08406040 | 1, .c => 0x00203020 | 1, .d => 0x00203020
  | _, .f => 0x44221000 | _, .a => 0x04201000 | _, .c => 0x00201000 | _, .d => 0x00001000

/-- A register of the MOD window (Table 0-2, Table 0-3). -/
def Part.modWord (p : Part) (a : Nat) : Word :=
  if a = R.MOD_ID then 0x57A10880
  else if a = R.MOD_VARIANT then w32 (p.stepping % 16 * 256 + p.stepping / 16 % 16 * 16 + codeNum p.code)
  else if a = R.MOD_CAP0 then capWord 0 p.code
  else if a = R.MOD_CAP1 then capWord 1 p.code
  else if a = R.MOD_CAP2 then capWord 2 p.code
  else if a = R.MOD_MEM then 0xC0004000
  else if a = R.MOD_SERIAL_LO then w32 p.serial
  else if a = R.MOD_SERIAL_HI then w32 (p.serial / 2 ^ 32)
  else 0

/-- RNG_INT_ROUTE of the selected source; GROUP of an access-fault source is its target's OWNER (R41). -/
def State.routeWord (s : State) : Word :=
  let src := s.fld F.RNG_INT_SEL_SRC
  let v := SMap.get (fun _ => 0) s.routes src
  let grp := if 136 ≤ src ∧ src ≤ 153 then s.fld (F.ACC_T_CTL_OWNER (src - 136)) else v / 16 % 2
  w32 (v % 8 + 16 * grp)

/-- A write of RNG_INT_ROUTE. -/
def State.writeRoute (s : State) (w : Word) : State :=
  let v := F.RNG_INT_ROUTE_CORE.get w + 16 * F.RNG_INT_ROUTE_GROUP.get w
  { s with routes := SMap.set (fun _ => 0) s.routes (s.fld F.RNG_INT_SEL_SRC) v }

/-- REIN_WAIT of the selected master and target (Table 2-13). -/
def State.waitWord (s : State) : Word :=
  match (s.arb (s.fld F.REIN_WSEL_TARGET)).waiting.find? (fun x => x.master = s.fld F.REIN_WSEL_MASTER) with
  | some x => w32 (2 ^ 16 + min x.wait (2 ^ 16 - 1))
  | none => 0

/-- Whether an address is no register though the array its map gives would cover it: REIN_RANK39 to REIN_RANK47 (R60), the
registers of channel table 7 (R59). -/
def reservedHole (a : Nat) : Bool := (R.REIN_RANK 39 ≤ a && a < R.REIN_RANK 48) || (R.RNG_TBASE_LO 7 ≤ a && a < R.RNG_TDB)

/-- What a read of a register shows. -/
def State.view (s : State) (a : Nat) : Word :=
  if a / 0x10000 = 0x4000 then s.part.modWord a
  else if reservedHole a then 0
  else if a = R.RNG_INT_ROUTE then s.routeWord
  else if a = R.REIN_WAIT then s.waitWord
  else if a = R.SLT_NODESTAT then s.nodeWord false
  else if a = R.SLT_NODESEQ then s.nodeWord true
  else if (R.LSW_CHSTAT 0 0 ≤ a ∧ a < R.LSW_CHSTAT 0 48) ∨ (R.LSW_CHSTAT 1 0 ≤ a ∧ a < R.LSW_CHSTAT 1 48) then s.lswWord a
  else if a = R.RST_WDCNT 0 then w32 (s.wdLeft 0)
  else if a = R.RST_WDCNT 1 then w32 (s.wdLeft 1)
  else if a = R.TDM_STATE then F.TDM_STATE_SIDE.put (s.reg a) (if s.part.sideB then 1 else 0)
  else if a = R.TDM_PTOFS_LO then w32 (toBits 64 (s.pairOfs s.now) % 2 ^ 32)
  else if a = R.TDM_PTOFS_HI then w32 (toBits 64 (s.pairOfs s.now) / 2 ^ 32)
  else if a = R.GNS_ACQSTAT then F.GNS_ACQSTAT_FOUND.put (s.reg a) s.gnsFound
  else if a = R.TIM_ERR then w32 s.timErr
  else if a = R.YLD_CFESTAT 0 ∨ a = R.YLD_CFESTAT 1 then
    (let e := (a - R.YLD_CFESTAT 0) / 0x20
     (F.YLD_CFESTAT_VALID e).put (s.reg a) (if s.cfeValid e then 1 else 0))
  else if R.YLD_LOSSSTAT 0 ≤ a ∧ a < R.YLD_LOSSSTAT 4 ∧ a % 0x20 = 0xC then
    (let l := (a - R.YLD_LOSSSTAT 0) / 0x20
     (F.YLD_LOSSSTAT_VALID l).put (s.reg a) (if s.lossValid l then 1 else 0))
  else if a = R.UPD_KEYS then w32 s.part.keys
  else if R.AFE_EXCSTAT 0 ≤ a ∧ a < R.AFE_EXCSTAT 12 ∧ a % 4 = 0 then
    (let n := (a - R.AFE_EXCSTAT 0) / 4
     (F.AFE_EXCSTAT_SETTLING n).put (s.reg a) (if s.excSettling n then 1 else 0))
  else if R.PLS_CNT 0 ≤ a ∧ a < R.PLS_CNT 24 ∧ a % 32 = 16 then
    (let n := (a - R.PLS_CNT 0) / 32
     (F.PLS_CHSTAT_OPEN_NOW n).put (s.reg a) (if s.pinOpen n then 1 else 0))
  else if 0x40060100 ≤ a ∧ (a - 0x40060100) / 16 < 56 ∧ a % 16 = 12 then w32 (SMap.get (fun _ => 0) s.pwr.latch ((a - 0x40060100) / 16))
  else s.reg a

/-! ### Writes -/

/-- A write in the RNG window. -/
def State.writeRng (s : State) (acc : Acc) (a : Nat) (w : Word) : State :=
  if a < R.RNG_BASE_LO 64 then
    (let n := (a - R.RNG_BASE_LO 0) / 0x40
     match (a - R.RNG_BASE_LO 0) % 0x40 with
     | 8 => s.writeRngCfg n w
     | 0xC => s.writeRngDb acc n w.toNat
     | _ => s.writePlain a w)
  else if a = R.RNG_TDB then s.writeTdb w
  else if a = R.RNG_INT_ROUTE then s.writeRoute w
  else if reservedHole a then s
  else s.writePlain a w

/-- A write in the REIN window. -/
def State.writeRein (s : State) (a : Nat) (w : Word) : State :=
  if a < R.REIN_RANK 39 then s.writeRank ((a - R.REIN_RANK 0) / 4) w else if reservedHole a then s else s.writePlain a w

/-- A write in the ACC window. -/
def State.writeAcc (s : State) (a : Nat) (w : Word) : State :=
  let t := (a - 0x40050000) / 0x400
  let o := (a - 0x40050000) % 0x400
  if t < 18 ∧ o < 0x200 ∧ o % 8 = 4 then s.writeAccCtl t (o / 8) w
  else if t < 18 ∧ o = 0x20C then s.writeFinfo t w
  else s.writePlain a w

/-- A write of UPD registers other than UPD_RESTART. -/
def State.writeUpd (s : State) (a : Nat) (w : Word) : State :=
  if a = R.UPD_HOSIZE then s.writeHosize w else if a = R.UPD_RESTART then s else s.writePlain a w

/-- A write to a register of a unit, PWRM and what makes resets apart. -/
def State.writeUnit (s : State) (acc : Acc) (a : Nat) (w : Word) : State :=
  let k := a / 0x10000 - 0x4000
  if k < 0x10 then
    match k with
    | 3 => s.writeRng acc a w | 4 => s.writeRein a w | 5 => s.writeAcc a w | 6 => s.writePmu a w | 7 => s.writeEvr a w
    | 8 => s.writeUpd a w | 9 => s.writeTim a w
    | _ => s
  else if k < 0x20 then
    match k - 0x10 with
    | 0 => s.writeStr a w | 1 => s.writePlain a w | 2 => s.writeSlt acc a w | 3 => s.writeCov a w | 4 => s.writeBrd a w
    | 5 => s.writeWve a w | 6 => s.writeYld a w
    | _ => s
  else if k < 0x40 then
    match k % 16 / 4 with
    | 0 => s.writeSol a w | 1 => s.writeLsw a w | 2 => s.writeDio a w
    | _ => s
  else if k < 0x50 then
    match k % 16 / 4 with
    | 0 => s.writeAfe a w | 1 => s.writePls a w | 2 => s.writeImu a w | _ => s.writeGrf a w
  else
    match k / 16 with
    | 5 => s.writeGns a w | 6 => s.writeImg a w | 7 => s.writeDsp a w | 8 => s.writeCan a w | 9 => s.writeEth a w
    | 10 => s.writeTdm a w | 11 => s.writePlain a w | 12 => s.writeSlt acc a w
    | _ => s

end Sys2Proof.Machine
end

