-- ==== Sys2Proof/Machine/Power.lean ====
section
/-! DEFINITION. Supply, power states, the wake script and start-up (23_power_reset_startup.md, R499-R509, R517-R519). -/

namespace Sys2Proof.Machine

/-- Set a flag of PWRM_STAT (R518). -/
def State.pwrFlag (s : State) (f : Fld) : State := s.raiseFlag f 223

/-- The power state (Table 23-2). -/
def State.powerState (s : State) : Nat := s.fld F.PWRM_STATE_CUR

/-- A change of power state from `old` (R504): STATE_CHG, event PWR_STATE with old state, new state and cause. -/
def State.powerFrom (s : State) (old new cause : Nat) : State :=
  let s := s.setFld F.PWRM_STATE_CUR new
  if old = new then s
  else
    let s := if new = 1 then s.pwrFlag F.PWRM_STAT_TRIM else s
    (s.pwrFlag F.PWRM_STAT_STATE_CHG).event 0x1302 [w32 old, w32 new, w32 cause]

/-- A change from the present state. -/
def State.powerTo (s : State) (new cause : Nat) : State := s.powerFrom s.powerState new cause

/-- Event SUPPLY (R518), and KL30 in PWRM_SUP in 10 mV. -/
def State.supply (s : State) (threshold dirn kl30 : Nat) : State :=
  (s.setFld F.PWRM_SUP_KL30 (kl30 / 10)).event 0x1303 [w32 threshold, w32 dirn, w32 kl30]

/-! ### The wake script (R507-R509) -/

/-- Bytes of the script window. -/
def State.wsBytes (s : State) (words : Nat) : List Byte := (List.range words).flatMap (fun w => leBytes 4 (s.reg (R.PWRM_WS w)).toNat)

/-- Entry i: ADDR with its OP in bits [1:0], VALUE. -/
def State.wsEntry (s : State) (i : Nat) : Nat × Word := ((s.reg (R.PWRM_WS (4 + 2 * i))).toNat, s.reg (R.PWRM_WS (5 + 2 * i)))

/-- The entries of the script. -/
def State.wsCount (s : State) : Nat := (s.reg (R.PWRM_WS 1)).toNat

/-- Why the script is bad (R509): 1 generations, 2 CRC, 3 an entry; 0 where it is good. -/
def State.wsReason (s : State) : Nat :=
  let lead := (s.reg (R.PWRM_WS 0)).toNat % 2 ^ 16
  let trail := (s.reg (R.PWRM_WS 3)).toNat / 2 ^ 16
  let n := s.wsCount
  let bad (i : Nat) : Bool :=
    let a := (s.wsEntry i).1
    2 ≤ a % 4 || (a % 4 = 0 && !(0x40000000 ≤ a && a < 0x41000000))
  if lead ≠ trail ∨ lead = 0 then 1
  else if 8190 < n ∨ crc32 ((s.wsBytes (4 + 2 * n)).drop 16) ≠ (s.reg (R.PWRM_WS 2)).toNat then 2
  else if (List.range n).any bad then 3
  else 0

/-- The power domain whose register window holds an address (Table 0-8). -/
def windowDom (a : Nat) : Dom :=
  let k := a / 0x10000 - 0x4000
  if k < 0x10 then
    match k with
    | 3 => .rtx | 2 => .smon | 4 => .smon | 5 => .smon | 6 => .smon | 8 => .smon
    | _ => .aon
  else if k < 0x13 then .rtx
  else if k < 0x20 then .ctl
  else if k < 0x30 then .pwr0
  else if k < 0x40 then .pwr1
  else if k < 0x4C then .afe
  else
    match k / 16 with
    | 4 => .nav | 5 => .nav | 6 => .img | 7 => .dsp | 8 => .net | 9 => .net | 10 => .net | 11 => .rtx | 12 => .rtx
    | _ => .aon

/-- One WRITE of the script as master 37, into the window of a domain that has just powered (R508). -/
def State.wsWrite (s : State) (l : List Dom) (a : Nat) (w : Word) : State :=
  if !l.contains (windowDom a) then s
  else
    let s := s.setFld F.PWRM_WSSTAT_DONE (s.fld F.PWRM_WSSTAT_DONE + 1)
    s.guardWrite (engine 37) a (fun s => if windowDom a = .smon ∧ a / 0x10000 = 0x4002 then s.writeRst a w [] else s.writeUnit (engine 37) a w)

/-- Replay the script for domains that have just powered up outside start-up, or in a wake (R508). DELAY entries take time and do
nothing else. -/
def State.replay (s : State) (l : List Dom) : State :=
  if l.isEmpty ∨ !s.flag F.PWRM_WSCTL_EN then s
  else
    let r := s.wsReason
    let s := s.setFld F.PWRM_WSSTAT_REASON r
    if r ≠ 0 then (s.pwrFlag F.PWRM_STAT_WS_BAD).event 0x1305 [w32 r]
    else
      let es := (List.range s.wsCount).map (fun i => s.wsEntry i)
      es.foldl (fun s e => if e.1 % 4 = 0 then s.wsWrite l e.1 e.2 else s) (s.setFld F.PWRM_WSSTAT_DONE 0)

/-! ### Domains (R502) -/

/-- Power up those domains of a list that the state wants and that are off. -/
def State.powerUp (s : State) (st : Nat) (l : List Dom) : State :=
  let l := l.filter (fun d => s.domWanted st d && !s.domOn d)
  (s.setDoms l true).replay l

/-- Power off those domains of a list that are on. -/
def State.powerDown (s : State) (l : List Dom) : State :=
  let l := l.filter (fun d => s.domOn d)
  l.foldl (fun s d => (s.setDoms [d] false).domainOff d) s

/-- A write of PWRM_DOMEN (R502, R508): in RUN, TRIM and PARK, IMG, DSP and NAV follow it as the state allows. The bit of an
absent domain is stored and reads back as written while its request is ignored: R8 is silent on it (DESIGN CHOICE, log entry 68). -/
def State.writeDomen (s : State) (w : Word) : State :=
  let s := s.writePlain R.PWRM_DOMEN w
  let st := s.powerState
  if 3 ≤ st ∨ s.pwr.seq.isSome then s
  else
    let s := s.powerDown ([Dom.img, Dom.dsp, Dom.nav].filter (fun d => !s.domWanted st d))
    s.powerUp st [.img, .dsp, .nav]

/-- DOMAIN_ENABLE_WRITE (R502). -/
def execDomainEnableWrite (acc : Acc) (value : Word) (s : State) : Out :=
  .next (s.guardWrite acc R.PWRM_DOMEN (fun s => s.writeDomen value))

/-! ### Entry to PARK, SLEEP and DORMANT (R503, R505) -/

/-- Whether a panel is powered or in DOWN. -/
def State.panelsLive (s : State) : Bool := (List.range 2).any (fun p => let st := s.panelState p; 1 ≤ st && st ≤ 5)

/-- Every powered panel carries out DOWN. -/
def State.panelsDown (s : State) : State :=
  (List.range 2).foldl (fun s p =>
    let st := s.panelState p
    let s := if 1 ≤ st ∧ st ≤ 4 then s.panelDown p else s
    s.setPanel p { s.panel p with again := false }) s

/-- The last step of an entry (Table 23-3): domains that the state does not keep go off; BUSY clears. -/
def State.finishEntry (s : State) (st : Nat) : State :=
  let s := if 3 ≤ st then (s.pairTo psOFF).updPwr (fun p => { p with hiz := [] }) else s
  let s := s.powerDown (doms.filter (fun d => !s.domWanted st d))
  let s := s.wdApp false
  let s := s.updPwr (fun p => { p with entry := none, offAt := s.now })
  (s.setFld F.PWRM_STATE_BUSY 0).powerTo st 0

/-- An entry whose panels are down takes its last step. -/
def State.entryStep (s : State) : State :=
  match s.pwr.entry with
  | some st => if s.panelsLive then s else s.finishEntry st
  | none => s

/-- An entry begins: APP cores halt, for SLEEP and DORMANT the C-die heartbeat stops, panels go DOWN. -/
def State.beginEntry (s : State) (st : Nat) : State :=
  let s := s.setFld F.PWRM_STATE_BUSY 1
  let s := s.updPwr (fun p => { p with
    entry := some st, since := s.now, reqTrim := false, hb := p.hb && st = 2, hbAt := if p.hb && st ≠ 2 then s.now else p.hbAt })
  s.panelsDown.entryStep

/-- One AON cycle: module time moves on; an entry that is due takes its last step (R335, R505). -/
def State.idle (s : State) : State := s.tick.entryStep

/-! ### Requests and the way back (R500, R504, R506) -/

/-- To RUN from TRIM, once neither the supply nor a request holds it. -/
def State.endTrim (s : State) (cause : Nat) : State :=
  if s.powerState = 1 ∧ !s.flag F.PWRM_STATE_TRIMSUP ∧ !s.pwr.reqTrim then (s.powerTo 0 cause).powerUp 0 [.img] else s

/-- To TRIM from RUN: IMG goes off. -/
def State.beginTrim (s : State) (cause : Nat) : State :=
  if s.powerState = 0 then (s.powerTo 1 cause).powerDown [.img] else s

/-- PARK is left for RUN, or for TRIM while the supply holds it: APP, IMG and DSP power up, and APP is reset (R506). -/
def State.leavePark (s : State) (cause : Nat) (fails : BootFails) : State :=
  let st := if s.flag F.PWRM_STATE_TRIMSUP then 1 else 0
  let s := s.powerUp st [.app, .img, .dsp]
  (((s.powerTo st cause).wdApp true).resetTo .app 8 fails)

/-- A request of PWRM_REQ that is accepted. -/
def State.request (s : State) (st : Nat) (fails : BootFails) : State :=
  let cur := s.powerState
  let s := s.setFld F.PWRM_STATE_REQ st
  if st = 0 then
    (if cur = 2 then s.leavePark 0 fails else (s.updPwr (fun p => { p with reqTrim := false })).endTrim 0)
  else if st = 1 then (s.updPwr (fun p => { p with reqTrim := true })).beginTrim 0
  else s.beginEntry st

/-- Whether a request is accepted (R504): the right KEY, no transition, a state that the present one may ask for, in PARK a
real-time pair. -/
def State.mayRequest (s : State) (acc : Acc) (w : Word) : Bool :=
  let st := F.PWRM_REQ_STATE.get w
  let cur := s.powerState
  F.PWRM_REQ_KEY.get w = 0x5057 && st ≤ 4 && !s.flag F.PWRM_STATE_BUSY &&
    (cur ≤ 1 || (cur = 2 && (acc.master = 8 || acc.master = 9) && st ≠ 1 && st ≠ 2))

/-- A write of PWRM_REQ. -/
def State.writePwrReq (s : State) (acc : Acc) (w : Word) (fails : BootFails) : State :=
  if s.mayRequest acc w then s.request (F.PWRM_REQ_STATE.get w) fails else s.pwrFlag F.PWRM_STAT_REQ_ERR

/-- The word of PWRM_REQ with a key and a state. -/
def reqWord (key : BitVec 16) (st : Nat) : Word := w32 (key.toNat * 2 ^ 16 + st)

/-- REQ_RUN (R504, R506). -/
def execReqRun (acc : Acc) (key : BitVec 16) (fails : BootFails) (s : State) : Out :=
  .next (s.guardWrite acc R.PWRM_REQ (fun s => s.writePwrReq acc (reqWord key 0) fails))

/-- REQ_TRIM (R500, R504). -/
def execReqTrim (acc : Acc) (key : BitVec 16) (s : State) : Out :=
  .next (s.guardWrite acc R.PWRM_REQ (fun s => s.writePwrReq acc (reqWord key 1) []))

/-- REQ_PARK (R504, R505). -/
def execReqPark (acc : Acc) (key : BitVec 16) (s : State) : Out :=
  .next (s.guardWrite acc R.PWRM_REQ (fun s => s.writePwrReq acc (reqWord key 2) []))

/-- REQ_SLEEP (R504, R505). -/
def execReqSleep (acc : Acc) (key : BitVec 16) (s : State) : Out :=
  .next (s.guardWrite acc R.PWRM_REQ (fun s => s.writePwrReq acc (reqWord key 3) []))

/-- REQ_DORMANT (R504, R505). -/
def execReqDormant (acc : Acc) (key : BitVec 16) (s : State) : Out :=
  .next (s.guardWrite acc R.PWRM_REQ (fun s => s.writePwrReq acc (reqWord key 4) []))

/-- A write to a register of the PWRM windows. -/
def State.writePwrm (s : State) (acc : Acc) (a : Nat) (w : Word) (fails : BootFails) : State :=
  if a = R.PWRM_REQ then s.writePwrReq acc w fails
  else if a = R.PWRM_DOMEN then s.writeDomen w
  else s.writePlain a w

/-! ### Wake (R506) -/

/-- Whether a wake source is active now: 0 IGN risen to level 1 in the low state, 1 the WAKE pin high for `ms`, 2 the MTB has reached
the alarm since the state was asked for. -/
def State.wakeActive (s : State) (src ms : Nat) : Bool :=
  match src with
  | 0 => s.pwr.held % 2 = 1
  | 1 => s.flag F.PWRM_WAKECFG_PIN && 1 ≤ ms
  | _ =>
    let t := s.reg64 R.PWRM_ALARM_LO R.PWRM_ALARM_HI
    s.flag F.PWRM_WAKECFG_ALARM && s.pwr.since < t && t ≤ s.now

/-- Hold a wake source; bit 3 says that one became active during an entry (R506). -/
def State.holdWake (s : State) (src : Nat) : State :=
  s.updPwr (fun p => { p with held := p.held ||| 2 ^ src ||| (if s.pwr.entry.isSome then 8 else 0) })

/-- The wake by the sources held: PWRM_WAKECAUSE and event WAKE; from SLEEP or DORMANT a start-up as after a MOD reset, from PARK
an APP reset. -/
def State.wakeUp (s : State) (fails : BootFails) : State :=
  let m := s.pwr.held % 8
  let s := (s.setFld F.PWRM_WAKECAUSE_SRC m).event 0x1304 [w32 m]
  let s := s.updPwr (fun p => { p with held := 0 })
  if s.powerState = 2 then s.leavePark 2 fails
  else (s.hardReset .mod 8 (s.powerState = 3) false).updPwr (fun p => { p with wake := true })

/-- WAKE (R506): a source becomes active, or, with none, the held ones act: in an entry they wait until 1 ms after its last step. -/
def execPwrWake (src : Option (Fin 3)) (ms : BitVec 16) (fails : BootFails) (s : State) : Out :=
  let fresh : Bool := match src with
    | some k => s.wakeActive k ms.toNat
    | none => false
  let low : Bool := s.pwr.entry.isSome || (2 ≤ s.powerState && s.powerState ≤ 4)
  if !low ∨ s.pwr.seq.isSome then .next s
  else
    let now : Bool := match src with
      | some k => fresh && k ≠ 0
      | none => false
    let waits := s.pwr.entry.isSome || (s.pwr.held / 8 % 2 = 1 && !now && !s.elapsed s.pwr.offAt 1000000)
    let s := match src with
      | some k => if fresh then s.holdWake k.val else s
      | none => s
    if s.pwr.held = 0 ∨ waits then .next s else .next (s.wakeUp fails)

/-- IGN_CHANGE (R499): IGN, in mV, past a threshold for `ms`, at least IGNDB: IGNLVL, IGNON or IGNOFF; a rise in PARK, SLEEP,
DORMANT or on the way there is held as a wake source where IGN is enabled (R506). -/
def execIgnChange (level : Bool) (mv ms : BitVec 16) (s : State) : Out :=
  let past : Bool := if level then 6500 ≤ mv.toNat else mv.toNat ≤ 4500
  if s.flag F.PWRM_STAT_IGNLVL = level ∨ !past ∨ ms.toNat < s.fld F.PWRM_WAKECFG_IGNDB then .next s
  else
    let s := (s.setFld F.PWRM_SUP_IGN (mv.toNat / 10)).setBit F.PWRM_STAT_IGNLVL level
    let s := s.pwrFlag (if level then F.PWRM_STAT_IGNON else F.PWRM_STAT_IGNOFF)
    let low : Bool := s.pwr.entry.isSome || (2 ≤ s.powerState && s.powerState ≤ 4)
    .next (if level && low && s.flag F.PWRM_WAKECFG_IGN then s.holdWake 0 else s)

/-! ### Supply thresholds (R499-R501) -/

/-- TRIM_ENTRY (R500): KL30, in mV, below the TRIM threshold for `us`, at least 1 ms. -/
def execTrimEntry (kl30 us : BitVec 16) (s : State) : Out :=
  if kl30.toNat ≤ 9200 ∧ 1000 ≤ us.toNat ∧ !s.flag F.PWRM_STATE_TRIMSUP ∧ s.powerState ≤ 2 then
    .next (((s.setFld F.PWRM_STATE_TRIMSUP 1).supply 0 0 kl30.toNat).beginTrim 1)
  else .next s

/-- TRIM_EXIT (R500): KL30 above the exit threshold for `ms`, at least 100. -/
def execTrimExit (kl30 ms : BitVec 16) (s : State) : Out :=
  if 9300 ≤ kl30.toNat ∧ 100 ≤ ms.toNat ∧ s.flag F.PWRM_STATE_TRIMSUP then
    .next (((s.setFld F.PWRM_STATE_TRIMSUP 0).supply 0 1 kl30.toNat).endTrim 1)
  else .next s

/-- LOW_SUPPLY (R499, R501): KL30 below the low-supply threshold for `us`, at least 50: a MOD reset, where a domain besides AON is
powered. Before the reset release it only restarts the dwell (R517). -/
def execLowSupply (kl30 us : BitVec 16) (s : State) : Out :=
  if kl30.toNat ≤ 6000 ∧ 50 ≤ us.toNat ∧ s.pwr.seq.isNone ∧ s.fld F.PWRM_DOMSTAT_ON ≠ 1 then
    .next (((s.supply 1 0 kl30.toNat).updPwr (fun p => { p with lowExit := true })).resetTo .mod 6 [])
  else .next s

/-- POWER_DIE_CUTOFF (R245, Table 9-7): KL30 below 5.0 V: the outputs of the power dies off, until it has been above 6.0 V for
`ms`, at least 10. -/
def execPowerDieCutoff (begin_ : Bool) (kl30 ms : BitVec 16) (s : State) : Out :=
  let dies := [0, 1].filter (fun d => s.domOn (dieDom d))
  if begin_ then
    let l := dies.filter (fun d => s.cuts d / 4 % 2 = 0)
    if 5000 ≤ kl30.toNat ∨ l.isEmpty then .next s
    else .next ((l.foldl (fun s d => (s.lswSupplyEvent d 2).dieLow d) s).supply 2 0 kl30.toNat)
  else
    let l := dies.filter (fun d => s.cuts d / 4 % 2 = 1)
    if kl30.toNat ≤ 6000 ∨ ms.toNat < 10 ∨ l.isEmpty then .next s
    else .next ((l.foldl (fun s d => s.dieReturn d) s).supply 2 1 kl30.toNat)

/-! ### Start-up (R511, R517, Table 23-8) -/

/-- Domains power in a step of the start-up; in a wake the script is replayed into them first (R508). -/
def State.startDoms (s : State) (l : List Dom) : State :=
  let st := if s.flag F.PWRM_STATE_TRIMSUP then 1 else 0
  let l := l.filter (fun d => s.domWanted st d)
  let s := s.setDoms l true
  if s.pwr.wake then s.replay l else s

/-- The end of the sequence: BOOTCNT, the low supply's exit, event RESET. -/
def State.endSeq (s : State) (k : ResetKind) (kl30 : Nat) : State :=
  let low := s.pwr.lowExit
  let s := s.updPwr (fun p => { p with seq := none, lowExit := false })
  let s := if k = .por ∨ k = .bor then s else s.bump F.RST_BOOTCNT_COUNT
  let s := if low then s.supply 1 1 kl30 else s.setFld F.PWRM_SUP_KL30 (kl30 / 10)
  ((s.wdRestart 0).wdRestart 1).regrid.resetEvent

/-- Step 5: the power dies run; one whose DIO units held through the reset is in HOLD by now; the heartbeat starts (R256, R512). -/
def State.startDies (s : State) (fails : BootFails) : State :=
  let s := (s.bootPart fails 4).startDoms [.pwr0, .pwr1]
  let s := if s.pwr.dio then
      [0, 1].foldl (fun s d => if s.domOn (dieDom d) && !s.holding d then s.dioEnterHold d else s) s
    else s
  s.updPwr (fun p => { p with hb := true, dio := false })

/-- Steps 6 to 8, and the power state the start-up ends in. -/
def State.startRest (s : State) (k : ResetKind) (fails : BootFails) : State :=
  let s := (s.bootPart fails 3).startDoms [.afe, .nav]
  let s := ((s.bootPart fails 1).bootApp fails).handoverCheck false
  let s := s.updPwr (fun p => { p with recov := s.pstate 2 = 4 })
  let s := s.startDoms [.img, .dsp]
  let old := if k = .por ∨ k = .bor then 5 else s.powerState
  let s := s.powerFrom old (if s.flag F.PWRM_STATE_TRIMSUP then 1 else 0) (if s.pwr.wake then 2 else 3)
  (s.updPwr (fun p => { p with wake := false })).pmuMode

/-- STARTUP_RELEASE (R517): KL30, in mV, has stayed above the release threshold for `ms`, at least 10: the sequence ends, the
domains power, the partitions boot. With BOOT DEAD the module stays at the boot ROM (R477). -/
def execStartupRelease (kl30 ms : BitVec 16) (fails : BootFails) (s : State) : Out :=
  match s.pwr.seq with
  | none => .next s
  | some k =>
    if kl30.toNat < 6000 ∨ ms.toNat < 10 then .next s
    else
      let s := (s.endSeq k kl30.toNat).startDoms [.smon, .mem, .sram, .rtx, .ctl, .app, .net]
      let s := s.bootAborts.bootPart fails 0
      if s.pwr.seq.isSome then .next s
      else if s.pstate 0 = 4 then .next s.pmuMode
      else
        let s := s.startDies fails
        if s.pwr.seq.isSome then .next s else .next (s.startRest k fails)

end Sys2Proof.Machine
end

