-- ==== Sys2Proof/Machine/Access.lean ====
section
/-! DEFINITION. Accesses by a master to the address map (R10-R13, R55-R57, R543): register writes and reads, the locks, memory;
and the triggers, whose action 2 takes a PMU snapshot (R87, R523). -/

namespace Sys2Proof.Machine

/-! ### Registers -/

/-- A permitted write to any register window. -/
def State.writeReg (s : State) (acc : Acc) (a : Nat) (w : Word) (fails : BootFails) : State :=
  let k := a / 0x10000
  if k = 0x4001 ∨ k = 0x40D0 then s.writePwrm acc a w fails
  else if k = 0x4002 then s.writeRst a w fails
  else if a = R.UPD_RESTART then s.writeRestart w fails
  else s.writeUnit acc a w

/-- The mailbox whose ID register (k 0) or TS register (k 1) lies at an address. -/
def mailboxAt (ts : Bool) (a : Nat) : Option (Nat × Nat) :=
  let n := a / 0x10000 - 0x4080
  if a / 0x10000 < 0x4080 ∨ 12 ≤ n then none
  else ((List.range 16).find? (fun m => a = if ts then R.CAN_MB_TS n m else R.CAN_MB_ID n m)).map (fun m => (n, m))

/-- The axis whose STR_AXPOS_LO lies at an address. -/
def axisPosAt (a : Nat) : Option Nat := (List.range 8).find? (fun i => a = R.STR_AXPOS_LO i)

/-- The analogue input whose AFE_RES lies at an address. -/
def afeResAt (a : Nat) : Option Nat := (List.range 48).find? (fun i => a = R.AFE_RES i)

/-- The value a read of any register returns: the live position and MTB where the register latches (R93, R339), else what it shows. -/
def State.readValue (s : State) (a : Nat) : Word :=
  match axisPosAt a with
  | some i => w32 (s.axCount i s.now)
  | none => if a = R.TIM_MTB_LO then w32 s.now else s.view a

/-- What a read leaves (R11): RC fields cleared. -/
def State.clearRead (s : State) (a : Nat) : State :=
  if (fieldsAt a).any (fun f => f.access = .rc) then s.setReg a (resetFields a (s.reg a) (fun f => f.access = .rc)) else s

/-- The registers that a read latches (R93, R281, R283, R339, R428, R528). -/
def State.latchRead (s : State) (a : Nat) : State :=
  match axisPosAt a, afeResAt a, mailboxAt false a, mailboxAt true a with
  | some i, _, _, _ => s.axLatch i
  | _, some i, _, _ => s.setReg (R.AFE_TS i) (w32 (s.ain i).ts)
  | _, _, some (n, m), _ => s.mbLock n m
  | _, _, _, some (n, m) => s.mbRelease n m
  | none, none, none, none =>
    if a = R.TIM_MTB_LO then s.mtbLatch
    else if a = R.IMU_AXY then s.imuLatch
    else if 0x40060100 ≤ a ∧ (a - 0x40060100) / 16 < 56 ∧ a % 16 = 8 then s.pmuLatch ((a - 0x40060100) / 16)
    else s

/-! ### Any address -/

/-- A word written by a master (R11, R56, R57, R543): a register, memory, or an address that is neither, which denies. -/
def State.writeWord (s : State) (acc : Acc) (a : Nat) (w : Word) (fails : BootFails) : State :=
  if targetOf a = some 17 then s.guardWrite acc a (fun s => s.writeReg acc a w fails)
  else (s.unitWrite acc a (leBytes 4 w.toNat)).2

/-- A word read by a master: its value, 0 where denied, and what the read leaves. -/
def State.readWord (s : State) (acc : Acc) (a : Nat) : State :=
  if targetOf a = some 17 then s.guardRead acc a (fun s => s.readValue a) (fun s => (s.latchRead a).clearRead a)
  else
    match s.unitRead acc a 4 with
    | (some l, s) => { s with rdata := w32 (leNat l) }
    | (none, s) => { s with rdata := 0 }

/-- REGISTER_WRITE (R11, R12): a word written at 4 times `a`. -/
def execRegisterWrite (acc : Acc) (a : BitVec 38) (value : Word) (fails : BootFails) (s : State) : Out :=
  .next (s.writeWord acc (4 * a.toNat) value fails)

/-- COUNTER_READ_CLEAR (R11): a word read at 4 times `a`; RC fields clear. -/
def execCounterReadClear (acc : Acc) (a : BitVec 38) (s : State) : Out := .next (s.readWord acc (4 * a.toNat))

/-! ### Locks -/

/-- The lock bits of the units: PWRM, RST, RNG, PMU, EVR, UPD, TIM, STR, EPT, SLT, COV, BRD, WVE, YLD, AFE, PLS, IMU, GRF, GNS, IMG,
DSP, ETH, TDM; from 23 SOL, from 25 LSW of the power dies; from 27 CAN; from 39 the access tables. -/
def unitLock (u : Nat) : Fld :=
  if u < 23 then
    [F.PWRM_CTL_LOCK, F.RST_CTL_LOCK, F.RNG_LOCK_LOCK, F.PMU_CTL_LOCK, F.EVR_CTL_LOCK, F.UPD_CTL_LOCK, F.TIM_CTL_LOCK,
      F.STR_CTL_LOCK, F.EPT_CTL_LOCK, F.SLT_CTL_LOCK, F.COV_CTL_LOCK, F.BRD_CTL_LOCK, F.WVE_CTL_LOCK, F.YLD_CTL_LOCK,
      F.AFE_CTL_LOCK, F.PLS_CTL_LOCK, F.IMU_CTL_LOCK, F.GRF_CTL_LOCK, F.GNS_CTL_LOCK, F.IMG_CTL_LOCK, F.DSP_CTL_LOCK,
      F.ETH_CTL_LOCK, F.TDM_CTL_LOCK].getD u F.PWRM_CTL_LOCK
  else if u < 25 then F.SOL_CTL_LOCK (u - 23)
  else if u < 27 then F.LSW_CTL_LOCK (u - 25)
  else if u < 39 then F.CAN_CTL_LOCK (u - 27)
  else F.ACC_T_CTL_LOCK (u - 39)

/-- UNIT_LOCK (R11): 1 written to the lock bit of unit u; the other fields of the register are REGISTER_WRITE's. -/
def execUnitLock (acc : Acc) (u : Fin 57) (s : State) : Out :=
  let f := unitLock u.val
  .next (s.guardWrite acc f.addr (fun s => s.setFld f 1))

/-! ### Triggers -/

/-- TRIGGER_FIRE (R87, R89): trigger n fires if its target is crossed by now and no trigger comes before it; action 2 takes a PMU
global snapshot (R523). One that has not crossed goes on armed. -/
def execTriggerFire (n : Fin 32) (s : State) : Out :=
  match s.trgDue n.val with
  | some t =>
    let s := s.fire n.val t
    .next (if s.fld (F.STR_TRGCFG_ACTION n.val) = 2 then s.pmuSnap false n.val t else s)
  | none => .next s

end Sys2Proof.Machine
end

