-- ==== Sys2Proof/Machine/Dispatch.lean ====
section
/-! DEFINITION. The dispatch: one arm per command, each a direct call of its meaning. -/

namespace Sys2Proof.Machine

def exec (i : Instr) (s : State) : Host.Outcome State Fault Refusal :=
  match i with
  | .registerWrite acc a value fails => Sys2Proof.Machine.execRegisterWrite acc a value fails s
  | .counterReadClear acc a => Sys2Proof.Machine.execCounterReadClear acc a s
  | .unitLock acc u => Sys2Proof.Machine.execUnitLock acc u s
  | .absentUnitAccess kind addr => Sys2Proof.Machine.execAbsentUnitAccess kind addr s
  | .accessFault acc target kind addr => Sys2Proof.Machine.execAccessFault acc target kind addr s
  | .unmappedAccess acc kind addr => Sys2Proof.Machine.execUnmappedAccess acc kind addr s
  | .accLock acc target => Sys2Proof.Machine.execAccLock acc target s
  | .ringConfigure acc n value => Sys2Proof.Machine.execRingConfigure acc n value s
  | .ringStop acc n value => Sys2Proof.Machine.execRingStop acc n value s
  | .ringDoorbell acc n idx => Sys2Proof.Machine.execRingDoorbell acc n idx s
  | .completionDoorbell acc n idx => Sys2Proof.Machine.execCompletionDoorbell acc n idx s
  | .descriptorFetchDenied n => Sys2Proof.Machine.execDescriptorFetchDenied n s
  | .nop n => Sys2Proof.Machine.execNop n s
  | .completionWrite n => Sys2Proof.Machine.execCompletionWrite n s
  | .coalesceTimeout n => Sys2Proof.Machine.execCoalesceTimeout n s
  | .tableDoorbell acc value => Sys2Proof.Machine.execTableDoorbell acc value s
  | .entryReload => Sys2Proof.Machine.execEntryReload s
  | .reinArbitrate t cycles arrivals => Sys2Proof.Machine.execReinArbitrate t cycles arrivals s
  | .reinLockTimeout t idle => Sys2Proof.Machine.execReinLockTimeout t idle s
  | .reinStarvation t span => Sys2Proof.Machine.execReinStarvation t span s
  | .reinRankWrite acc m value => Sys2Proof.Machine.execReinRankWrite acc m value s
  | .strideTick => Sys2Proof.Machine.execStrideTick s
  | .axisEnable acc a value => Sys2Proof.Machine.execAxisEnable acc a value s
  | .axisDisable acc a value => Sys2Proof.Machine.execAxisDisable acc a value s
  | .axisCfgWrite acc a k value => Sys2Proof.Machine.execAxisCfgWrite acc a k value s
  | .pulseEdge n level both ts => Sys2Proof.Machine.execPulseEdge n level both ts s
  | .zeroCrossing z ts => Sys2Proof.Machine.execZeroCrossing z ts s
  | .standstillEntry a => Sys2Proof.Machine.execStandstillEntry a s
  | .sourceTimeout a j => Sys2Proof.Machine.execSourceTimeout a j s
  | .sourceRestore a j => Sys2Proof.Machine.execSourceRestore a j s
  | .axisXchk a => Sys2Proof.Machine.execAxisXchk a s
  | .axisLost a => Sys2Proof.Machine.execAxisLost a s
  | .triggerArm acc n value => Sys2Proof.Machine.execTriggerArm acc n value s
  | .triggerFire n => Sys2Proof.Machine.execTriggerFire n s
  | .strideSnapshot acc => Sys2Proof.Machine.execStrideSnapshot acc s
  | .axisPosRead acc a => Sys2Proof.Machine.execAxisPosRead acc a s
  | .endpointTick work => Sys2Proof.Machine.execEndpointTick work s
  | .rejoinCwaitExpiry e => Sys2Proof.Machine.execRejoinCwaitExpiry e s
  | .epOut n => Sys2Proof.Machine.execEpOut n s
  | .epReturn n => Sys2Proof.Machine.execEpReturn n s
  | .stateCopy n => Sys2Proof.Machine.execStateCopy n s
  | .eptCountWrite acc value => Sys2Proof.Machine.execEptCountWrite acc value s
  | .eptEnable acc value => Sys2Proof.Machine.execEptEnable acc value s
  | .edgeEmit => Sys2Proof.Machine.execEdgeEmit s
  | .slotPageWrite acc c p n k value => Sys2Proof.Machine.execSlotPageWrite acc c p n k value s
  | .sltCommit n => Sys2Proof.Machine.execSltCommit n s
  | .sltCancel n => Sys2Proof.Machine.execSltCancel n s
  | .pageCopy n => Sys2Proof.Machine.execPageCopy n s
  | .commitSwap => Sys2Proof.Machine.execCommitSwap s
  | .recordRepeat => Sys2Proof.Machine.execRecordRepeat s
  | .tsync => Sys2Proof.Machine.execTsync s
  | .tfollow b mtb => Sys2Proof.Machine.execTfollow b mtb s
  | .nstatus b n tseq seq timeOk fault => Sys2Proof.Machine.execNstatus b n tseq seq timeOk fault s
  | .nodeTimeout b n => Sys2Proof.Machine.execNodeTimeout b n s
  | .senseData b n vals => Sys2Proof.Machine.execSenseData b n vals s
  | .tileFetch l idx ecc => Sys2Proof.Machine.execTileFetch l idx ecc s
  | .tileWriteback ecc => Sys2Proof.Machine.execTileWriteback ecc s
  | .covMissTimeout e => Sys2Proof.Machine.execCovMissTimeout e s
  | .covPoolTailWrite acc value => Sys2Proof.Machine.execCovPoolTailWrite acc value s
  | .fieldLoad n => Sys2Proof.Machine.execFieldLoad n s
  | .fieldUnload n ecc => Sys2Proof.Machine.execFieldUnload n ecc s
  | .covFlush n ecc => Sys2Proof.Machine.execCovFlush n ecc s
  | .tileInval n => Sys2Proof.Machine.execTileInval n s
  | .loopSample n => Sys2Proof.Machine.execLoopSample n s
  | .groupSample g => Sys2Proof.Machine.execGroupSample g s
  | .coefApply acc hi value => Sys2Proof.Machine.execCoefApply acc hi value s
  | .oscRelease acc n => Sys2Proof.Machine.execOscRelease acc n s
  | .swValueWrite acc k value => Sys2Proof.Machine.execSwValueWrite acc k value s
  | .swValueTimeout k => Sys2Proof.Machine.execSwValueTimeout k s
  | .loopManual n => Sys2Proof.Machine.execLoopManual n s
  | .loopAuto n => Sys2Proof.Machine.execLoopAuto n s
  | .intSet n => Sys2Proof.Machine.execIntSet n s
  | .solCmdWrite acc n value => Sys2Proof.Machine.execSolCmdWrite acc n value s
  | .solEnable acc d value => Sys2Proof.Machine.execSolEnable acc d value s
  | .tokenGrant k v => Sys2Proof.Machine.execTokenGrant k v s
  | .peakSkip n => Sys2Proof.Machine.execPeakSkip n s
  | .boostEnd n => Sys2Proof.Machine.execBoostEnd n s
  | .boostTo n => Sys2Proof.Machine.execBoostTo n s
  | .peakEnd n => Sys2Proof.Machine.execPeakEnd n s
  | .holdEntry n => Sys2Proof.Machine.execHoldEntry n s
  | .decayEnd n => Sys2Proof.Machine.execDecayEnd n s
  | .bandEval d temps currents volts => Sys2Proof.Machine.execBandEval d temps currents volts s
  | .solFault n cause us => Sys2Proof.Machine.execSolFault n cause us s
  | .solBankFault k => Sys2Proof.Machine.execSolBankFault k s
  | .solRegErr n err ms => Sys2Proof.Machine.execSolRegErr n err ms s
  | .solFaultRelease acc n => Sys2Proof.Machine.execSolFaultRelease acc n s
  | .boostEnable acc b value => Sys2Proof.Machine.execBoostEnable acc b value s
  | .boostUv b v ms => Sys2Proof.Machine.execBoostUv b v ms s
  | .solBoostFault b v => Sys2Proof.Machine.execSolBoostFault b v s
  | .lswCmdWrite acc n value => Sys2Proof.Machine.execLswCmdWrite acc n value s
  | .inrushEnd n limiting => Sys2Proof.Machine.execInrushEnd n limiting s
  | .lswFault n cause us => Sys2Proof.Machine.execLswFault n cause us s
  | .lswRetry n => Sys2Proof.Machine.execLswRetry n s
  | .retryCountClear n => Sys2Proof.Machine.execRetryCountClear n s
  | .lswFaultRelease acc n => Sys2Proof.Machine.execLswFaultRelease acc n s
  | .lswOpenLoad n ms => Sys2Proof.Machine.execLswOpenLoad n ms s
  | .clusterThermSample c temp currents volts => Sys2Proof.Machine.execClusterThermSample c temp currents volts s
  | .lswGrpOvl d t inst mean us => Sys2Proof.Machine.execLswGrpOvl d t inst mean us s
  | .shedStep d t inst => Sys2Proof.Machine.execShedStep d t inst s
  | .shedRestore d g inst ms => Sys2Proof.Machine.execShedRestore d g inst ms s
  | .shedReturnWrite acc ch => Sys2Proof.Machine.execShedReturnWrite acc ch s
  | .lswSupply d kind begin_ ms => Sys2Proof.Machine.execLswSupply d kind begin_ ms s
  | .debouncedEdge n level us => Sys2Proof.Machine.execDebouncedEdge n level us s
  | .dioCmdWrite acc n on => Sys2Proof.Machine.execDioCmdWrite acc n on s
  | .dioFault n ot us => Sys2Proof.Machine.execDioFault n ot us s
  | .dioDiagFlag n extv ms => Sys2Proof.Machine.execDioDiagFlag n extv ms s
  | .dioFaultRelease acc n => Sys2Proof.Machine.execDioFaultRelease acc n s
  | .dioSupply c ma ms => Sys2Proof.Machine.execDioSupply c ma ms s
  | .dioSupplyRelease acc c => Sys2Proof.Machine.execDioSupplyRelease acc c s
  | .dioHold n => Sys2Proof.Machine.execDioHold n s
  | .holdRelease acc d value => Sys2Proof.Machine.execHoldRelease acc d value s
  | .afeResult j x vexc err => Sys2Proof.Machine.execAfeResult j x vexc err s
  | .afeOpen at_ => Sys2Proof.Machine.execAfeOpen at_ s
  | .comparatorClear at_ => Sys2Proof.Machine.execComparatorClear at_ s
  | .afeExcFault n us => Sys2Proof.Machine.execAfeExcFault n us s
  | .excRestore acc n => Sys2Proof.Machine.execExcRestore acc n s
  | .excConfigWrite acc n value => Sys2Proof.Machine.execExcConfigWrite acc n value s
  | .firWrite acc f tap value => Sys2Proof.Machine.execFirWrite acc f tap value s
  | .afeEnable acc value => Sys2Proof.Machine.execAfeEnable acc value s
  | .afeResultRead acc j => Sys2Proof.Machine.execAfeResultRead acc j s
  | .pulseRateUpdate => Sys2Proof.Machine.execPulseRateUpdate s
  | .plsImpact n peak ts => Sys2Proof.Machine.execPlsImpact n peak ts s
  | .plsOpen n ms => Sys2Proof.Machine.execPlsOpen n ms s
  | .plsOpenClear n ms => Sys2Proof.Machine.execPlsOpenClear n ms s
  | .zxOkClear z => Sys2Proof.Machine.execZxOkClear z s
  | .imuSample ax ay az gx gy gz temp ts => Sys2Proof.Machine.execImuSample ax ay az gx gy gz temp ts s
  | .imuSelfTest acc => Sys2Proof.Machine.execImuSelfTest acc s
  | .selfTestEnd pass => Sys2Proof.Machine.execSelfTestEnd pass s
  | .imuSampleRead acc => Sys2Proof.Machine.execImuSampleRead acc s
  | .wveSamples n => Sys2Proof.Machine.execWveSamples n s
  | .trackCoastExpiry x => Sys2Proof.Machine.execTrackCoastExpiry x s
  | .srcLoad n => Sys2Proof.Machine.execSrcLoad n s
  | .geomLoad n => Sys2Proof.Machine.execGeomLoad n s
  | .fieldSet n => Sys2Proof.Machine.execFieldSet n s
  | .wveEpoch => Sys2Proof.Machine.execWveEpoch s
  | .wveSrcState slot => Sys2Proof.Machine.execWveSrcState slot s
  | .outputFlushTimeout n => Sys2Proof.Machine.execOutputFlushTimeout n s
  | .gnssEpoch obs time sol hdg => Sys2Proof.Machine.execGnssEpoch obs time sol hdg s
  | .restartCold acc => Sys2Proof.Machine.execRestartCold acc s
  | .restartWarm acc => Sys2Proof.Machine.execRestartWarm acc s
  | .restartHot acc => Sys2Proof.Machine.execRestartHot acc s
  | .acquisitionFound ant sig svid => Sys2Proof.Machine.execAcquisitionFound ant sig svid s
  | .navRecord sig svid words => Sys2Proof.Machine.execNavRecord sig svid words s
  | .gnsInjection acc value => Sys2Proof.Machine.execGnsInjection acc value s
  | .gnsInjStale => Sys2Proof.Machine.execGnsInjStale s
  | .notchMove a b f tone => Sys2Proof.Machine.execNotchMove a b f tone s
  | .gnsJam a b power agc => Sys2Proof.Machine.execGnsJam a b power agc s
  | .gnsAnt a current ms => Sys2Proof.Machine.execGnsAnt a current ms s
  | .antRetry a current => Sys2Proof.Machine.execAntRetry a current s
  | .servoMeasurement src link => Sys2Proof.Machine.execServoMeasurement src link s
  | .ptpOffset acc inst => Sys2Proof.Machine.execPtpOffset acc inst s
  | .ptpTimeout => Sys2Proof.Machine.execPtpTimeout s
  | .timeStep => Sys2Proof.Machine.execTimeStep s
  | .holdoverExpiry => Sys2Proof.Machine.execHoldoverExpiry s
  | .timeSet acc value => Sys2Proof.Machine.execTimeSet acc value s
  | .utcChange => Sys2Proof.Machine.execUtcChange s
  | .timePulse p => Sys2Proof.Machine.execTimePulse p s
  | .tpConfigApply p => Sys2Proof.Machine.execTpConfigApply p s
  | .mtbRead acc => Sys2Proof.Machine.execMtbRead acc s
  | .lossUpdate => Sys2Proof.Machine.execLossUpdate s
  | .traceAppend => Sys2Proof.Machine.execTraceAppend s
  | .samplePeriodEnd => Sys2Proof.Machine.execSamplePeriodEnd s
  | .yieldRecord => Sys2Proof.Machine.execYieldRecord s
  | .yldEnable acc value => Sys2Proof.Machine.execYldEnable acc value s
  | .srefWrite acc value => Sys2Proof.Machine.execSrefWrite acc value s
  | .imgLink c up cut => Sys2Proof.Machine.execImgLink c up cut s
  | .frameStart c cut => Sys2Proof.Machine.execFrameStart c cut s
  | .frameEnd c cut => Sys2Proof.Machine.execFrameEnd c cut s
  | .cciTransaction acc c value ack data => Sys2Proof.Machine.execCciTransaction acc c value ack data s
  | .parameterSetSubmit acc c value => Sys2Proof.Machine.execParameterSetSubmit acc c value s
  | .cciGroupComplete c => Sys2Proof.Machine.execCciGroupComplete c s
  | .contextDispatch p => Sys2Proof.Machine.execContextDispatch p s
  | .rawFrameAgeDrop c => Sys2Proof.Machine.execRawFrameAgeDrop c s
  | .contextApply acc x value => Sys2Proof.Machine.execContextApply acc x value s
  | .frameProcessed p raw px wb => Sys2Proof.Machine.execFrameProcessed p raw px wb s
  | .encodeFrame k size => Sys2Proof.Machine.execEncodeFrame k size s
  | .forceIdr acc k value => Sys2Proof.Machine.execForceIdr acc k value s
  | .panelPowerUp acc p value => Sys2Proof.Machine.execPanelPowerUp acc p value s
  | .panelPowerDown acc p value => Sys2Proof.Machine.execPanelPowerDown acc p value s
  | .panelStep p rail => Sys2Proof.Machine.execPanelStep p rail s
  | .linkTrained p => Sys2Proof.Machine.execLinkTrained p s
  | .dspLink p => Sys2Proof.Machine.execDspLink p s
  | .dspRail p rail us => Sys2Proof.Machine.execDspRail p rail us s
  | .railFaultRelease acc p value => Sys2Proof.Machine.execRailFaultRelease acc p value s
  | .hpdLoss p => Sys2Proof.Machine.execHpdLoss p s
  | .panelFrameStart p => Sys2Proof.Machine.execPanelFrameStart p s
  | .dspUnderrun p pix => Sys2Proof.Machine.execDspUnderrun p pix s
  | .canEnable acc n value => Sys2Proof.Machine.execCanEnable acc n value s
  | .txbSend acc n b value => Sys2Proof.Machine.execTxbSend acc n b value s
  | .txbAbort acc n b value => Sys2Proof.Machine.execTxbAbort acc n b value s
  | .canFrameTx n e => Sys2Proof.Machine.execCanFrameTx n e s
  | .canSend n => Sys2Proof.Machine.execCanSend n s
  | .sendDlc0 n => Sys2Proof.Machine.execSendDlc0 n s
  | .canFrameRx n idw brs rtr esi dlc data ts err heavy fails => Sys2Proof.Machine.execCanFrameRx n idw brs rtr esi dlc data ts err heavy fails s
  | .mailboxLock acc n m => Sys2Proof.Machine.execMailboxLock acc n m s
  | .mailboxRelease acc n m value => Sys2Proof.Machine.execMailboxRelease acc n m value s
  | .canBusoff n lec => Sys2Proof.Machine.execCanBusoff n lec s
  | .canRecover acc n value => Sys2Proof.Machine.execCanRecover acc n value s
  | .canListenEntry n => Sys2Proof.Machine.execCanListenEntry n s
  | .canRejoin n => Sys2Proof.Machine.execCanRejoin n s
  | .addressClaim n => Sys2Proof.Machine.execAddressClaim n s
  | .addressClaimed n => Sys2Proof.Machine.execAddressClaimed n s
  | .canTpAbort n => Sys2Proof.Machine.execCanTpAbort n s
  | .ethSend n ts => Sys2Proof.Machine.execEthSend n ts s
  | .ethFrameRx p frame ts fails => Sys2Proof.Machine.execEthFrameRx p frame ts fails s
  | .ethLink p up speed => Sys2Proof.Machine.execEthLink p up speed s
  | .ethPlca k => Sys2Proof.Machine.execEthPlca k s
  | .fdbAgeOut => Sys2Proof.Machine.execFdbAgeOut s
  | .tdmEnable acc value => Sys2Proof.Machine.execTdmEnable acc value s
  | .soloEntry => Sys2Proof.Machine.execSoloEntry s
  | .tdmLink up fails => Sys2Proof.Machine.execTdmLink up fails s
  | .tdmLane l errors => Sys2Proof.Machine.execTdmLane l errors s
  | .linkRetrain lanes peer fails => Sys2Proof.Machine.execLinkRetrain lanes peer fails s
  | .linkTimeMeasure ofs rate pofs locked => Sys2Proof.Machine.execLinkTimeMeasure ofs rate pofs locked s
  | .heartbeatSend => Sys2Proof.Machine.execHeartbeatSend s
  | .hbLost => Sys2Proof.Machine.execHbLost s
  | .tdmTakeover pos => Sys2Proof.Machine.execTdmTakeover pos s
  | .tdmConflict term fails => Sys2Proof.Machine.execTdmConflict term fails s
  | .tdmHandover acc value => Sys2Proof.Machine.execTdmHandover acc value s
  | .tdmJoin acc value => Sys2Proof.Machine.execTdmJoin acc value s
  | .mirrorStart pos => Sys2Proof.Machine.execMirrorStart pos s
  | .mirrorFrame items => Sys2Proof.Machine.execMirrorFrame items s
  | .readySet => Sys2Proof.Machine.execReadySet s
  | .splitEdge edge => Sys2Proof.Machine.execSplitEdge edge s
  | .tdmSend n answer => Sys2Proof.Machine.execTdmSend n answer s
  | .updBegin n => Sys2Proof.Machine.execUpdBegin n s
  | .updData n => Sys2Proof.Machine.execUpdData n s
  | .updCommit n => Sys2Proof.Machine.execUpdCommit n s
  | .updAbort n => Sys2Proof.Machine.execUpdAbort n s
  | .updActivate n fails => Sys2Proof.Machine.execUpdActivate n fails s
  | .updConfirm n => Sys2Proof.Machine.execUpdConfirm n s
  | .updRestartApp acc fails => Sys2Proof.Machine.execUpdRestartApp acc fails s
  | .updRestartRtx acc fails => Sys2Proof.Machine.execUpdRestartRtx acc fails s
  | .keyRevoke acc keys => Sys2Proof.Machine.execKeyRevoke acc keys s
  | .eventIntake => Sys2Proof.Machine.execEventIntake s
  | .recordClose => Sys2Proof.Machine.execRecordClose s
  | .journalWrite => Sys2Proof.Machine.execJournalWrite s
  | .evrRead n ecc => Sys2Proof.Machine.execEvrRead n ecc s
  | .evrReadStage n => Sys2Proof.Machine.execEvrReadStage n s
  | .evrRecord n => Sys2Proof.Machine.execEvrRecord n s
  | .evrFlush n => Sys2Proof.Machine.execEvrFlush n s
  | .evrErase n => Sys2Proof.Machine.execEvrErase n s
  | .freezeStart acc => Sys2Proof.Machine.execFreezeStart acc s
  | .freezeEnd acc => Sys2Proof.Machine.execFreezeEnd acc s
  | .freezeTimeout => Sys2Proof.Machine.execFreezeTimeout s
  | .trimEntry kl30 us => Sys2Proof.Machine.execTrimEntry kl30 us s
  | .trimExit kl30 ms => Sys2Proof.Machine.execTrimExit kl30 ms s
  | .lowSupply kl30 us => Sys2Proof.Machine.execLowSupply kl30 us s
  | .powerDieCutoff begin_ kl30 ms => Sys2Proof.Machine.execPowerDieCutoff begin_ kl30 ms s
  | .ignChange level mv ms => Sys2Proof.Machine.execIgnChange level mv ms s
  | .reqRun acc key fails => Sys2Proof.Machine.execReqRun acc key fails s
  | .reqTrim acc key => Sys2Proof.Machine.execReqTrim acc key s
  | .reqPark acc key => Sys2Proof.Machine.execReqPark acc key s
  | .reqSleep acc key => Sys2Proof.Machine.execReqSleep acc key s
  | .reqDormant acc key => Sys2Proof.Machine.execReqDormant acc key s
  | .pwrWake src ms fails => Sys2Proof.Machine.execPwrWake src ms fails s
  | .domainEnableWrite acc value => Sys2Proof.Machine.execDomainEnableWrite acc value s
  | .rstCmdMod acc key => Sys2Proof.Machine.execRstCmdMod acc key s
  | .rstCmdRtx acc key fails => Sys2Proof.Machine.execRstCmdRtx acc key fails s
  | .rstCmdApp acc key fails => Sys2Proof.Machine.execRstCmdApp acc key fails s
  | .resetPor => Sys2Proof.Machine.execResetPor s
  | .resetBor kl30 ign ms => Sys2Proof.Machine.execResetBor kl30 ign ms s
  | .resetPin ns => Sys2Proof.Machine.execResetPin ns s
  | .resetWdt => Sys2Proof.Machine.execResetWdt s
  | .resetMod temp ms => Sys2Proof.Machine.execResetMod temp ms s
  | .resetRtx upd fails => Sys2Proof.Machine.execResetRtx upd fails s
  | .resetApp cause fails => Sys2Proof.Machine.execResetApp cause fails s
  | .startupRelease kl30 ms fails => Sys2Proof.Machine.execStartupRelease kl30 ms fails s
  | .heartbeatLoss d => Sys2Proof.Machine.execHeartbeatLoss d s
  | .wdArm acc w value => Sys2Proof.Machine.execWdArm acc w value s
  | .wdKick acc w value fails => Sys2Proof.Machine.execWdKick acc w value fails s
  | .wdWarn w => Sys2Proof.Machine.execWdWarn w s
  | .wdExpiry w fails => Sys2Proof.Machine.execWdExpiry w fails s
  | .pmuSnapshot acc value => Sys2Proof.Machine.execPmuSnapshot acc value s
  | .pmuOverflow n inc pc btgt run => Sys2Proof.Machine.execPmuOverflow n inc pc btgt run s
  | .pmuBwWindow => Sys2Proof.Machine.execPmuBwWindow s
  | .pmuCounterRead acc n hi => Sys2Proof.Machine.execPmuCounterRead acc n hi s
  | .lswEnable acc d value => Sys2Proof.Machine.execLswEnable acc d value s
  | .servoEnable acc en => Sys2Proof.Machine.execServoEnable acc en s
  | .canIntegration n => Sys2Proof.Machine.execCanIntegration n s
  | .plcaBeacon k ts => Sys2Proof.Machine.execPlcaBeacon k ts s
  | .ctrlFrame c fails => Sys2Proof.Machine.execCtrlFrame c fails s
  | .blockFrame addr data => Sys2Proof.Machine.execBlockFrame addr data s
  | .lostLock ch => Sys2Proof.Machine.execLostLock ch s
  | .debugPortTest enter => Sys2Proof.Machine.execDebugPortTest enter s
  | .yldPoolTailWrite acc value => Sys2Proof.Machine.execYldPoolTailWrite acc value s

end Sys2Proof.Machine
end

