-- ==== Sys2Proof/Safety.lean ====
section
/-! DEFINITION. What a sound state is: the canonical forms that every step keeps. -/

namespace Sys2Proof.Machine

/-- Memory is in its canonical form and lists only bytes of DRAM and bulk SRAM (R49). -/
abbrev Memory.wf (m : SMap Byte) : Prop := SMap.Wf memDefault m ∧ ∀ p ∈ m, isMemory p.1 = true

/-- The register file is in its canonical form: no listed register holds its reset value. -/
abbrev Registers.wf (m : SMap Word) : Prop := SMap.Wf resetOf m

/-- Ring n may start a descriptor that carries an opcode on a queue, and does: it is the ring's next one (R33, R35). -/
abbrev State.starts (s : State) (n : Nat) (d : Desc) (q op : Nat) : Prop :=
  s.nextDesc n = some d ∧ s.fld (F.RNG_CFG_QUEUE n) = q ∧ d.op = op

/-- A descriptor that ring n started is complete with a status, a result and the short timestamp of now, which wait to be
written (R34, R37). -/
abbrev State.hasDone (t : State) (n : Nat) (d : Desc) (status result : Nat) : Prop :=
  ∃ e ∈ (t.ring n).inflight, e.desc = d ∧ e.res = some (status, result) ∧ e.stamp = t.short

/-- A descriptor that ring n started is not complete yet. -/
abbrev State.hasStarted (t : State) (n : Nat) (d : Desc) : Prop := ∃ e ∈ (t.ring n).inflight, e.desc = d ∧ e.res = none

/-- A write of a register by its access codes: what it holds after, and every other register as before (R11, R12). -/
abbrev State.wrote (s t : State) (a : Nat) (v : Word) : Prop :=
  t.reg a = writtenWord a (s.locked a) (s.reg a) v ∧ ∀ b, b ≠ a → t.reg b = s.reg b

/-- A status flag is set after, and where it was clear before its interrupt is pending (log entry 10). -/
abbrev State.raised (s t : State) (f : Fld) (irq : Nat) : Prop := t.flag f ∧ (s.flag f = false → t.isPending irq)

/-- A reset of a kind has been taken with a sub-cause: RST_CAUSE, its bit of RST_SEEN, and for a MOD or stronger one the sequence
that goes on to the release (R510, R511). -/
abbrev State.tookReset (t : State) (k : ResetKind) (sub : Nat) : Prop :=
  t.fld F.RST_CAUSE_KIND = k.code ∧ t.fld F.RST_CAUSE_SUB = sub ∧ t.fld F.RST_SEEN_KINDS / 2 ^ k.code % 2 = 1 ∧
    (2 ≤ k.strength → t.pwr.seq = some k)

/-- A command that a key or a mode turns away (R504, R514): its flag, and nothing of the power unit, the recorder or memory. -/
abbrev State.turnedAway (s t : State) (f : Fld) (irq : Nat) : Prop :=
  s.raised t f irq ∧ t.powerState = s.powerState ∧ t.pwr = s.pwr ∧ t.evr = s.evr ∧ t.mem = s.mem

/-- An entry has taken its last step: the state, BUSY clear, STATE_CHG, only the domains the state keeps powered (R502, R505). -/
abbrev State.entered (s t : State) (st : Nat) : Prop :=
  t.powerState = st ∧ t.flag F.PWRM_STATE_BUSY = false ∧ t.pwr.entry = none ∧ t.pwr.offAt = s.now ∧
    s.raised t F.PWRM_STAT_STATE_CHG 223 ∧ ∀ d ∈ doms, t.domOn d = (s.domOn d && s.domWanted st d)

/-- An entry waits for its panels, each of them in DOWN (R505). -/
abbrev State.entering (s t : State) (st : Nat) : Prop :=
  t.powerState = s.powerState ∧ t.flag F.PWRM_STATE_BUSY ∧ t.pwr.entry = some st ∧ t.pwr.since = s.now ∧
    ∀ q < 2, 1 ≤ s.panelState q → s.panelState q ≤ 5 → t.panelState q = 5

/-- Of the registers, only those of a list may differ. -/
abbrev State.onlyRegs (s t : State) (l : List Nat) : Prop := ∀ a, a ∉ l → t.reg a = s.reg a

/-- The registers that recording an event may change: where the intake is full, the count of events lost (R490). -/
def eventRegs : List Nat := [R.EVR_LOSTCNT, R.EVR_STAT, R.RNG_INT_PEND 6]

/-- An outcome is a next state of which P holds. -/
abbrev Gives (o : Out) (P : State → Prop) : Prop := ∃ t, o = .next t ∧ P t

/-- The parts of the state. -/
inductive StatePart where
  | regs | mem | part | pending | rdata | freeSeq | now | rings | routes | tableJobs | entries | rein | evr | outBufs | tim | upd
  | afe | wve | gns | str | dio | lsw | sol | ept | slt | cov | brd | yld | img | dsp | net | tdm | pwr
  deriving DecidableEq, Repr

/-- A part of two states is the same. -/
def State.same (s t : State) : StatePart → Prop
  | .regs => t.regs = s.regs
  | .mem => t.mem = s.mem
  | .part => t.part = s.part
  | .pending => t.pending = s.pending
  | .rdata => t.rdata = s.rdata
  | .freeSeq => t.freeSeq = s.freeSeq
  | .now => t.now = s.now
  | .rings => t.rings = s.rings
  | .routes => t.routes = s.routes
  | .tableJobs => t.tableJobs = s.tableJobs
  | .entries => t.entries = s.entries
  | .rein => t.rein = s.rein
  | .evr => t.evr = s.evr
  | .outBufs => t.outBufs = s.outBufs
  | .tim => t.tim = s.tim
  | .upd => t.upd = s.upd
  | .afe => t.afe = s.afe
  | .wve => t.wve = s.wve
  | .gns => t.gns = s.gns
  | .str => t.str = s.str
  | .dio => t.dio = s.dio
  | .lsw => t.lsw = s.lsw
  | .sol => t.sol = s.sol
  | .ept => t.ept = s.ept
  | .slt => t.slt = s.slt
  | .cov => t.cov = s.cov
  | .brd => t.brd = s.brd
  | .yld => t.yld = s.yld
  | .img => t.img = s.img
  | .dsp => t.dsp = s.dsp
  | .net => t.net = s.net
  | .tdm => t.tdm = s.tdm
  | .pwr => t.pwr = s.pwr

/-- The parts of the state that a command may change: its own units, the registers, the rings and memory its descriptors and
records lie in, the recorder where it records an event. Every other part it leaves. -/
def touches (c : Instr) : List StatePart :=
  match c with
  | .registerWrite .. | .canFrameRx .. | .ethFrameRx .. | .tdmLink .. | .linkRetrain .. | .tdmConflict .. | .updRestartApp ..
  | .updRestartRtx .. | .trimExit .. | .lowSupply .. | .reqRun .. | .reqTrim .. | .reqPark .. | .reqSleep .. | .reqDormant ..
  | .pwrWake .. | .domainEnableWrite .. | .rstCmdMod .. | .rstCmdRtx .. | .rstCmdApp .. | .resetPin .. | .resetWdt ..
  | .resetMod .. | .resetRtx .. | .resetApp .. | .startupRelease .. | .wdKick .. | .wdExpiry .. | .ctrlFrame .. =>
    [.regs, .mem, .freeSeq, .rings, .routes, .tableJobs, .entries, .rein, .evr, .outBufs, .tim, .upd, .afe, .wve, .gns, .str, .dio,
     .lsw, .sol, .ept, .slt, .cov, .brd, .yld, .img, .dsp, .net, .tdm, .pwr]
  | .counterReadClear .. =>
    [.regs, .rdata, .evr, .lsw, .net, .pwr]
  | .unitLock .. | .accLock .. | .reinRankWrite .. | .eptCountWrite .. | .eptEnable .. | .dioFault .. | .dioSupply ..
  | .afeExcFault .. | .plsOpen .. | .srefWrite .. | .ethPlca .. | .keyRevoke .. | .eventIntake .. | .recordClose ..
  | .freezeStart .. | .freezeEnd .. | .freezeTimeout .. =>
    [.regs, .evr]
  | .absentUnitAccess .. | .accessFault .. | .unmappedAccess .. | .axisPosRead .. | .afeResultRead .. | .imuSampleRead ..
  | .mtbRead .. | .mailboxLock .. =>
    [.regs, .rdata, .evr]
  | .ringConfigure .. | .ringStop .. | .ringDoorbell .. | .completionDoorbell .. | .descriptorFetchDenied .. | .nop ..
  | .pageCopy .. | .updCommit .. | .updConfirm .. | .journalWrite .. | .evrRecord .. | .evrFlush .. | .evrErase .. =>
    [.regs, .rings, .evr]
  | .completionWrite .. | .evrRead .. | .evrReadStage .. =>
    [.regs, .mem, .rings, .evr]
  | .coalesceTimeout .. =>
    [.regs, .rings]
  | .tableDoorbell .. =>
    [.regs, .tableJobs, .evr]
  | .entryReload .. =>
    [.regs, .mem, .tableJobs, .entries, .evr, .afe, .dio, .lsw, .sol, .ept, .slt, .brd, .pwr]
  | .reinArbitrate .. | .reinStarvation .. =>
    [.regs, .rein]
  | .reinLockTimeout .. =>
    [.regs, .rein, .evr]
  | .strideTick .. | .axisEnable .. | .axisDisable .. | .axisCfgWrite .. | .axisLost .. =>
    [.regs, .evr, .str, .slt, .brd]
  | .pulseEdge .. | .zeroCrossing .. =>
    [.regs, .afe, .str]
  | .standstillEntry .. | .sourceTimeout .. | .sourceRestore .. =>
    [.regs, .str]
  | .axisXchk .. | .triggerArm .. | .strideSnapshot .. =>
    [.regs, .evr, .str]
  | .triggerFire .. =>
    [.regs, .mem, .rings, .evr, .str, .ept, .slt, .pwr]
  | .endpointTick .. =>
    [.regs, .mem, .freeSeq, .rings, .evr, .outBufs, .wve, .str, .dio, .lsw, .sol, .ept, .slt, .cov, .yld, .tdm]
  | .rejoinCwaitExpiry .. | .senseData .. =>
    [.ept]
  | .epOut .. | .epReturn .. | .stateCopy .. =>
    [.regs, .rings, .evr, .ept]
  | .edgeEmit .. =>
    [.regs, .mem, .freeSeq, .rings, .evr, .outBufs, .wve, .str, .dio, .lsw, .sol, .ept, .slt, .yld]
  | .slotPageWrite .. =>
    [.regs, .mem, .entries, .evr, .ept]
  | .sltCommit .. | .sltCancel .. =>
    [.regs, .rings, .evr, .slt]
  | .commitSwap .. =>
    [.regs, .mem, .freeSeq, .rings, .evr, .outBufs, .wve, .dio, .lsw, .sol, .ept, .slt, .yld]
  | .recordRepeat .. | .covMissTimeout .. =>
    [.regs, .ept, .slt]
  | .tsync .. | .tfollow .. =>
    [.slt]
  | .nstatus .. | .nodeTimeout .. | .ethLink .. | .canIntegration .. =>
    [.regs, .evr, .slt]
  | .tileFetch .. | .tileWriteback .. =>
    [.regs, .mem, .evr, .cov]
  | .covPoolTailWrite .. =>
    [.regs, .evr, .cov]
  | .fieldLoad .. | .tileInval .. =>
    [.regs, .rings, .evr, .cov]
  | .fieldUnload .. | .covFlush .. =>
    [.regs, .mem, .rings, .evr, .cov]
  | .loopSample .. | .groupSample .. =>
    [.regs, .freeSeq, .evr, .lsw, .sol, .ept, .slt, .brd]
  | .coefApply .. =>
    [.regs, .evr, .lsw, .sol, .brd]
  | .oscRelease .. | .swValueWrite .. =>
    [.regs, .evr, .brd]
  | .swValueTimeout .. =>
    [.brd]
  | .loopManual .. | .loopAuto .. | .intSet .. =>
    [.regs, .rings, .evr, .brd]
  | .solCmdWrite .. | .solEnable .. | .solFault .. | .solBankFault .. | .boostEnable .. | .solBoostFault .. =>
    [.regs, .evr, .sol]
  | .tokenGrant .. | .peakSkip .. | .boostEnd .. | .boostTo .. | .peakEnd .. | .holdEntry .. | .decayEnd .. | .bandEval ..
  | .boostUv .. =>
    [.regs, .sol]
  | .solRegErr .. | .retryCountClear .. | .dioDiagFlag .. | .plsOpenClear .. | .utcChange .. | .addressClaimed .. | .readySet ..
  | .pmuOverflow .. =>
    [.regs]
  | .solFaultRelease .. | .lswFaultRelease .. | .lswGrpOvl .. | .shedStep .. | .shedRestore .. | .shedReturnWrite ..
  | .powerDieCutoff .. =>
    [.regs, .evr, .lsw, .sol]
  | .lswCmdWrite .. | .inrushEnd .. | .lswFault .. | .clusterThermSample .. | .lswEnable .. =>
    [.regs, .evr, .lsw]
  | .lswRetry .. | .lswOpenLoad .. =>
    [.regs, .lsw]
  | .lswSupply .. =>
    [.regs, .entries, .evr, .dio, .lsw, .sol]
  | .debouncedEdge .. =>
    [.regs, .dio]
  | .dioCmdWrite .. | .dioFaultRelease .. | .dioSupplyRelease .. | .dioHold .. | .holdRelease .. =>
    [.regs, .evr, .dio]
  | .afeResult .. | .pulseRateUpdate .. | .imuSample .. =>
    [.regs, .mem, .freeSeq, .rings, .evr, .outBufs, .afe, .wve, .yld]
  | .afeOpen .. | .firWrite .. | .afeEnable .. | .imuSelfTest .. =>
    [.regs, .evr, .afe]
  | .comparatorClear .. | .plsImpact .. | .zxOkClear .. | .selfTestEnd .. =>
    [.regs, .afe]
  | .excRestore .. | .excConfigWrite .. =>
    [.regs, .freeSeq, .evr, .afe]
  | .wveSamples .. =>
    [.regs, .mem, .freeSeq, .rings, .evr, .outBufs, .wve, .yld]
  | .trackCoastExpiry .. | .wveSrcState .. =>
    [.regs, .mem, .rings, .evr, .outBufs, .wve]
  | .srcLoad .. =>
    [.regs, .mem, .freeSeq, .rings, .evr, .outBufs, .wve]
  | .geomLoad .. | .fieldSet .. =>
    [.regs, .rings, .evr, .wve]
  | .wveEpoch .. =>
    [.regs, .mem, .freeSeq, .rings, .evr, .outBufs, .wve, .cov, .yld]
  | .outputFlushTimeout .. =>
    [.rings, .outBufs]
  | .gnssEpoch .. =>
    [.regs, .mem, .freeSeq, .rings, .evr, .outBufs, .tim, .wve, .gns, .yld]
  | .restartCold .. | .restartWarm .. | .restartHot .. =>
    [.regs, .freeSeq, .evr, .gns]
  | .acquisitionFound .. | .notchMove .. | .lostLock .. =>
    [.regs, .gns]
  | .navRecord .. =>
    [.regs, .mem, .rings, .evr, .outBufs]
  | .gnsInjection .. =>
    [.regs, .mem, .freeSeq, .rings, .evr, .outBufs, .wve, .gns, .yld]
  | .gnsInjStale .. | .gnsJam .. | .gnsAnt .. | .antRetry .. =>
    [.regs, .evr, .gns]
  | .servoMeasurement .. | .timeSet .. =>
    [.regs, .mem, .freeSeq, .rings, .evr, .outBufs, .tim]
  | .ptpOffset .. | .ptpTimeout .. | .timeStep .. | .holdoverExpiry .. | .timePulse .. | .servoEnable .. =>
    [.regs, .mem, .rings, .evr, .outBufs, .tim]
  | .tpConfigApply .. =>
    [.regs, .tim]
  | .lossUpdate .. | .traceAppend .. =>
    [.regs, .yld]
  | .samplePeriodEnd .. =>
    [.yld]
  | .yieldRecord .. =>
    [.regs, .mem, .rings, .evr, .outBufs, .yld]
  | .yldEnable .. | .yldPoolTailWrite .. =>
    [.regs, .evr, .yld]
  | .imgLink .. =>
    [.regs, .mem, .freeSeq, .rings, .evr, .outBufs, .wve, .img]
  | .frameStart .. | .frameEnd .. =>
    [.regs, .mem, .freeSeq, .evr, .img]
  | .cciTransaction .. | .parameterSetSubmit .. | .contextDispatch .. | .contextApply .. | .forceIdr .. =>
    [.regs, .evr, .img]
  | .cciGroupComplete .. =>
    [.img]
  | .rawFrameAgeDrop .. =>
    [.regs, .img]
  | .frameProcessed .. =>
    [.regs, .mem, .freeSeq, .rings, .evr, .outBufs, .wve, .yld, .img]
  | .encodeFrame .. =>
    [.regs, .mem, .freeSeq, .rings, .evr, .outBufs, .img]
  | .panelPowerUp .. | .panelPowerDown .. | .panelStep .. | .dspLink .. | .dspRail .. | .railFaultRelease .. =>
    [.regs, .evr, .dsp]
  | .linkTrained .. | .hpdLoss .. | .dspUnderrun .. =>
    [.regs, .dsp]
  | .panelFrameStart .. =>
    [.regs, .rings, .evr, .dsp]
  | .canEnable .. | .canRecover .. | .canListenEntry .. | .canRejoin .. =>
    [.regs, .freeSeq, .evr, .slt, .net]
  | .txbSend .. | .txbAbort .. | .canSend .. | .sendDlc0 .. | .canBusoff .. | .plcaBeacon .. =>
    [.regs, .rings, .evr, .slt, .net]
  | .canFrameTx .. =>
    [.regs, .rings, .rein, .evr, .slt, .net]
  | .mailboxRelease .. =>
    [.regs, .rdata, .evr, .net]
  | .addressClaim .. | .fdbAgeOut .. =>
    [.net]
  | .canTpAbort .. | .ethSend .. =>
    [.regs, .rings, .evr, .net]
  | .tdmEnable .. | .tdmHandover .. | .tdmJoin .. =>
    [.regs, .mem, .freeSeq, .rings, .evr, .outBufs, .tim, .wve, .dio, .lsw, .sol, .ept, .slt, .yld, .tdm, .pwr]
  | .soloEntry .. =>
    [.regs, .mem, .freeSeq, .rings, .evr, .outBufs, .wve, .sol, .ept, .slt, .pwr]
  | .tdmLane .. | .hbLost .. =>
    [.regs, .mem, .freeSeq, .rings, .evr, .outBufs, .tim, .wve, .sol, .ept, .slt, .tdm, .pwr]
  | .linkTimeMeasure .. =>
    [.regs, .mem, .rings, .evr, .outBufs, .tim, .tdm]
  | .heartbeatSend .. =>
    [.tdm]
  | .tdmTakeover .. =>
    [.regs, .mem, .freeSeq, .rings, .evr, .outBufs, .wve, .dio, .lsw, .sol, .ept, .slt, .brd, .yld, .tdm, .pwr]
  | .mirrorStart .. =>
    [.regs, .mem, .freeSeq, .rings, .evr, .outBufs, .wve, .sol, .ept, .slt, .tdm, .pwr]
  | .mirrorFrame .. =>
    [.regs, .mem, .freeSeq, .rings, .tableJobs, .entries, .evr, .outBufs, .wve, .str, .dio, .lsw, .sol, .ept, .slt, .cov, .brd,
     .yld, .tdm, .pwr]
  | .splitEdge .. =>
    [.regs, .evr, .dio, .lsw, .sol, .tdm]
  | .tdmSend .. =>
    [.regs, .rings, .evr, .tdm]
  | .updBegin .. | .updData .. | .updAbort .. =>
    [.regs, .rings, .evr, .upd]
  | .updActivate .. | .trimEntry .. =>
    [.regs, .mem, .rings, .routes, .tableJobs, .entries, .rein, .evr, .outBufs, .tim, .afe, .wve, .gns, .str, .dio, .lsw, .sol,
     .ept, .slt, .cov, .brd, .yld, .img, .dsp, .net, .tdm, .pwr]
  | .ignChange .. | .pmuBwWindow .. | .debugPortTest .. =>
    [.regs, .pwr]
  | .resetPor .. | .resetBor .. =>
    [.regs, .mem, .freeSeq, .now, .rings, .routes, .tableJobs, .entries, .rein, .evr, .outBufs, .tim, .upd, .afe, .wve, .gns, .str,
     .dio, .lsw, .sol, .ept, .slt, .cov, .brd, .yld, .img, .dsp, .net, .tdm, .pwr]
  | .heartbeatLoss .. =>
    [.regs, .evr, .dio, .sol, .pwr]
  | .wdArm .. | .wdWarn .. =>
    [.regs, .evr, .pwr]
  | .pmuSnapshot .. =>
    [.regs, .mem, .rings, .evr, .pwr]
  | .pmuCounterRead .. =>
    [.regs, .rdata, .evr, .pwr]
  | .blockFrame .. =>
    [.regs, .mem, .evr]

end Sys2Proof.Machine
end

