-- ==== Sys2Proof/Certificates/Slice0/Obligations.lean ====
section
/-! DEFINITION. The statements about the model, for the provers. -/

open Sys2Proof Sys2Proof.Machine

/-- For every command c, queue rest and state s: one step of s with c in front of rest answers exactly what exec answers for c
on s with the queue rest. (The queue is the model's form of a block, not a rule of the spec.) (00_scope.md, 01_machine_model.md) -/
def Obligations.StepRunsTheFrontCommand : Prop :=
  ∀ (c : Instr) (rest : List Instr) (s : State),
    step { s with pending := c :: rest } = exec c { s with pending := rest }

/-- With an empty queue the step answers a next state whose MTB is 20 ns later, with no command waiting. That time passes in the
step on an empty queue is the model's choice (log entry 1). (14_time.md, 22_event_recorder.md) -/
def Obligations.IdleStepMovesTimeOn : Prop :=
  ∀ s : State, s.pending = [] → Gives (step s) (fun t => t.now = s.now + 20 ∧ t.pending = [])

/-- A permitted REGISTER_WRITE of an interrupt enable word leaves that word, every other register and all memory as before; of a
word of memory, the four bytes and nothing else. A COUNTER_READ_CLEAR of an EPT cache counter returns it and leaves 0.
UNIT_LOCK and ACC_LOCK set their lock. ABSENT_UNIT_ACCESS reads 0. ACCESS_FAULT with VALID 0 captures the address and raises
interrupt 136 + target; with VALID 1 it counts. UNMAPPED_ACCESS reads 0 and changes no register outside the recorder. (R5, R11, R57, R58, R543) -/
def Obligations.AccessCommandsComplete : Prop :=
  (∀ (s : State) (acc : Acc) (k : Fin 16) (v : Word) (fails : BootFails), s.takesWrite acc (R.RNG_INT_EN k) →
    Gives (exec (.registerWrite acc (BitVec.ofNat 38 (R.RNG_INT_EN k / 4)) v fails) s) (fun t =>
      t.reg (R.RNG_INT_EN k) = v ∧ (∀ a, a ≠ R.RNG_INT_EN k → t.reg a = s.reg a) ∧ t.mem = s.mem)) ∧
  (∀ (s : State) (acc : Acc) (a : BitVec 38) (v : Word) (fails : BootFails),
    isMemory (4 * a.toNat) → (s.firstDenied acc .write (4 * a.toNat) 4).isNone →
    Gives (exec (.registerWrite acc a v fails) s) (fun t =>
      t.bytes (4 * a.toNat) 4 = leBytes 4 v.toNat ∧ (∀ b, b < 4 * a.toNat ∨ 4 * a.toNat + 4 ≤ b → t.byte b = s.byte b) ∧ t.regs = s.regs)) ∧
  (∀ (s : State) (acc : Acc), s.takesRead acc 0x40110020 →
    Gives (exec (.counterReadClear acc (BitVec.ofNat 38 (0x40110020 / 4))) s) (fun t =>
      t.rdata = s.reg 0x40110020 ∧ t.reg 0x40110020 = 0 ∧ (∀ a, a ≠ 0x40110020 → t.reg a = s.reg a) ∧ t.mem = s.mem)) ∧
  (∀ (s : State) (acc : Acc) (u : Fin 57), s.takesWrite acc (unitLock u).addr →
    Gives (exec (.unitLock acc u) s) (fun t => t.flag (unitLock u) ∧ (∀ a, a ≠ (unitLock u).addr → t.reg a = s.reg a) ∧ t.mem = s.mem)) ∧
  (∀ (s : State) (acc : Acc) (n : Fin 18), s.takesWrite acc (R.ACC_T_CTL n) →
    Gives (exec (.accLock acc n) s) (fun t =>
      t.flag (F.ACC_T_CTL_LOCK n) ∧ t.fld (F.ACC_T_CTL_OWNER n) = s.fld (F.ACC_T_CTL_OWNER n) ∧ t.mem = s.mem)) ∧
  (∀ (s : State) (kind : AccKind) (a : BitVec 40), (s.part.absentWindow a.toNat).isSome →
    Gives (exec (.absentUnitAccess kind a) s) (fun t =>
      (kind ≠ .write → t.rdata = 0) ∧ t.mem = s.mem ∧ (∀ k < 16, t.reg (R.RNG_INT_PEND k) = s.reg (R.RNG_INT_PEND k) ∨ k = 222 / 32))) ∧
  (∀ (s : State) (acc : Acc) (n : Fin 18) (kind : AccKind) (a : BitVec 40),
    (n = 17 → s.part.absentWindow a.toNat = none) → s.permits n acc kind a.toNat = false →
    Gives (exec (.accessFault acc n kind a) s) (fun t =>
      t.flag (F.ACC_T_FINFO_VALID n) ∧ t.mem = s.mem ∧ (kind ≠ .write → t.rdata = 0) ∧
      (s.flag (F.ACC_T_FINFO_VALID n) = false → t.reg (R.ACC_T_FADDR_LO n) = w32 a.toNat ∧
        t.fld (F.ACC_T_FINFO_MASTER n) = acc.master ∧ t.isPending (136 + n)) ∧
      (s.flag (F.ACC_T_FINFO_VALID n) = true → t.reg (R.ACC_T_FADDR_LO n) = s.reg (R.ACC_T_FADDR_LO n) ∧
        t.fld (F.ACC_T_FINFO_COUNT n) = min (s.fld (F.ACC_T_FINFO_COUNT n) + 1) 255))) ∧
  (∀ (s : State) (acc : Acc) (kind : AccKind) (a : BitVec 40), targetOf a.toNat = none →
    Gives (exec (.unmappedAccess acc kind a) s) (fun t => (kind ≠ .write → t.rdata = 0) ∧ t.mem = s.mem ∧
      (∀ n : Fin 18, t.reg (R.ACC_T_FINFO n) = s.reg (R.ACC_T_FINFO n))))

/-- RING_CONFIGURE of a valid size and a free queue of a present unit, with no work pending, enables the ring with those values.
RING_STOP leaves SIZE 0 and the ring inactive. RING_DOORBELL and COMPLETION_DOORBELL take an index in order. NOP completes
OK with the index moved on. COMPLETION_WRITE puts the entry, with the short timestamp of its completion, at the producer
index of the completion ring and moves that index on; the last one of a stop sets ABORT_DONE. COALESCE_TIMEOUT makes the
ring interrupt pending. DESCRIPTOR_FETCH_DENIED leaves the ring off with FETCH_ERR. TABLE_DOORBELL queues its range;
ENTRY_RELOAD takes one entry off the job in front. (R33, R35, R37, R38, R42, R46) -/
def Obligations.RingCommandsComplete : Prop :=
  (∀ (s : State) (acc : Acc) (n : Fin 64) (v : Word), s.takesWrite acc (R.RNG_CFG n) → s.flag F.RNG_LOCK_LOCK = false →
    s.ringHw n = s.ringDb n → 4 ≤ (F.RNG_CFG_SIZE n).get v → (F.RNG_CFG_SIZE n).get v ≤ 16 →
    validQueue ((F.RNG_CFG_QUEUE n).get v) → s.part.absentQueue ((F.RNG_CFG_QUEUE n).get v) = none →
    ((F.RNG_CFG_QUEUE n).get v ≠ 0 → s.queueTaken n ((F.RNG_CFG_QUEUE n).get v) = false ∧ (F.RNG_CFG_CRING n).get v ≠ n.val ∧
      s.fld (F.RNG_CFG_QUEUE ((F.RNG_CFG_CRING n).get v)) = 0) →
    Gives (exec (.ringConfigure acc n v) s) (fun t =>
      t.fld (F.RNG_CFG_SIZE n) = (F.RNG_CFG_SIZE n).get v ∧ t.fld (F.RNG_CFG_QUEUE n) = (F.RNG_CFG_QUEUE n).get v ∧
      t.fld (F.RNG_CFG_CRING n) = (F.RNG_CFG_CRING n).get v ∧ t.flag (F.RNG_STAT_ACTIVE n) ∧ t.mem = s.mem)) ∧
  (∀ (s : State) (acc : Acc) (n : Fin 64) (v : Word), s.takesWrite acc (R.RNG_CFG n) →
    Gives (exec (.ringStop acc n v) s) (fun t =>
      t.fld (F.RNG_CFG_SIZE n) = 0 ∧ t.flag (F.RNG_STAT_ACTIVE n) = false ∧ t.mem = s.mem)) ∧
  (∀ (s : State) (acc : Acc) (n : Fin 64) (v : Word), s.takesWrite acc (R.RNG_DB n) → s.fld (F.RNG_CFG_QUEUE n) ≠ 0 →
    0 < sdiff32 v.toNat (s.ringDb n) → sdiff32 v.toNat (s.ringHw n) ≤ s.ringSize n →
    Gives (exec (.ringDoorbell acc n v) s) (fun t =>
      t.reg (R.RNG_DB n) = v ∧ (∀ a, a ≠ R.RNG_DB n → t.reg a = s.reg a) ∧ (t.ring n).masters.getLast? = some (v.toNat, acc) ∧ t.mem = s.mem)) ∧
  (∀ (s : State) (acc : Acc) (n : Fin 64) (v : Word), s.takesWrite acc (R.RNG_DB n) → s.fld (F.RNG_CFG_QUEUE n) = 0 →
    0 ≤ sdiff32 v.toNat (s.ringDb n) → 0 ≤ sdiff32 (s.ringHw n) v.toNat →
    Gives (exec (.completionDoorbell acc n v) s) (fun t =>
      t.reg (R.RNG_DB n) = v ∧ (∀ m < 64, t.reg (R.RNG_HW m) = s.reg (R.RNG_HW m)) ∧ t.mem = s.mem)) ∧
  (∀ (s : State) (n : Fin 64) (d : Desc), s.nextDesc n = some d → d.op = 0 →
    Gives (exec (.nop n) s) (fun t => t.ringHw n = next32 (s.ringHw n) ∧ t.mem = s.mem ∧
      ∃ e, (t.ring n).inflight.getLast? = some e ∧ e.desc = d ∧ e.res = some (stOK, 0) ∧ e.stamp = s.short)) ∧
  (∀ (s : State) (n : Fin 64) (e : Inflight) (rest : List Inflight) (st res : Nat),
    (s.ring n).inflight = e :: rest → e.res = some (st, res) → e.cring < 64 → s.ringAccepts e.cring → e.cring ≠ n.val →
    Gives (exec (.completionWrite n) s) (fun t =>
      t.ringHw e.cring = next32 (s.ringHw e.cring) ∧ (t.ring n).inflight = rest ∧ (e.last → t.flag (F.RNG_STAT_ABORT_DONE n)) ∧
      ((s.firstDenied (engine 17) .write (s.ringBase e.cring + 16 * (s.ringHw e.cring % s.ringSize e.cring)) 16).isNone →
        t.mem = (s.setBytes (s.ringBase e.cring + 16 * (s.ringHw e.cring % s.ringSize e.cring))
          (completionBytes e.desc st n (s.phase e.cring) res e.stamp)).mem))) ∧
  (∀ (s : State) (n : Fin 64) (t0 : Nat), (s.ring n).irqSince = some t0 → s.fld (F.RNG_COAL_TIME n) ≠ 0 →
    t0 + 1000 * s.fld (F.RNG_COAL_TIME n) ≤ s.now →
    Gives (exec (.coalesceTimeout n) s) (fun t => t.isPending n ∧ (t.ring n).irqCount = 0 ∧ t.mem = s.mem)) ∧
  (∀ (s : State) (n : Fin 64) (b : Nat), s.ringReady n → s.fetchDenied n = some b →
    Gives (exec (.descriptorFetchDenied n) s) (fun t =>
      t.fld (F.RNG_CFG_SIZE n) = 0 ∧ t.flag (F.RNG_STAT_FETCH_ERR n) ∧ t.ringHw n = s.ringDb n ∧ t.mem = s.mem)) ∧
  (∀ (s : State) (acc : Acc) (v : Word), s.takesWrite acc R.RNG_TDB → s.mirrorOnly = false → F.RNG_TDB_TABLE.get v ≠ 7 →
    F.RNG_TDB_COUNT.get v ≠ 0 → (s.tableJobs.tail.filter (fun j => !j.full)).length < 16 →
    F.RNG_TDB_FIRST.get v + F.RNG_TDB_COUNT.get v ≤ (tableSize (F.RNG_TDB_TABLE.get v)).1 →
    Gives (exec (.tableDoorbell acc v) s) (fun t => t.mem = s.mem ∧
      t.tableJobs = s.tableJobs ++ [⟨F.RNG_TDB_TABLE.get v, F.RNG_TDB_FIRST.get v, F.RNG_TDB_COUNT.get v, false⟩])) ∧
  (∀ (s : State) (j : TableJob) (rest : List TableJob), s.tableJobs = j :: rest →
    Gives (exec .entryReload s) (fun t =>
      t.tableJobs = if j.count ≤ 1 then rest else { j with first := j.first + 1, count := j.count - 1 } :: rest))

/-- For a permitted doorbell write of a ring, with d the signed 32-bit difference of the new and the previous value. Work ring:
d = 0 changes nothing; d above 0 with the new value at most the ring size past RNG_HWn makes the entries available: RNG_DBn
takes it; any other value leaves the previous one and sets DB_ERR. Completion ring: an index is taken when both differences
are 0 or more, else it is ignored with DB_ERR. The ring records, indices RNG_HW and memory stay (a taken work doorbell notes
its master). (R35) -/
def Obligations.DoorbellTakesIndicesInOrder : Prop :=
  ∀ (s : State) (acc : Acc) (n : Fin 64) (v : Word), s.takesWrite acc (R.RNG_DB n) →
    (s.fld (F.RNG_CFG_QUEUE n) ≠ 0 →
      (sdiff32 v.toNat (s.ringDb n) = 0 → exec (.ringDoorbell acc n v) s = .next s) ∧
      (0 < sdiff32 v.toNat (s.ringDb n) → sdiff32 v.toNat (s.ringHw n) ≤ s.ringSize n →
        Gives (exec (.ringDoorbell acc n v) s) (fun t => t.ringDb n = v.toNat ∧ t.ringHw n = s.ringHw n ∧
          (t.ring n).inflight = (s.ring n).inflight ∧ t.mem = s.mem)) ∧
      (sdiff32 v.toNat (s.ringDb n) < 0 ∨ (sdiff32 v.toNat (s.ringDb n) ≠ 0 ∧ (s.ringSize n : Int) < sdiff32 v.toNat (s.ringHw n)) →
        Gives (exec (.ringDoorbell acc n v) s) (fun t => t.ringDb n = s.ringDb n ∧ t.ringHw n = s.ringHw n ∧
          t.flag (F.RNG_STAT_DB_ERR n) ∧ t.rings = s.rings ∧ t.mem = s.mem))) ∧
    (s.fld (F.RNG_CFG_QUEUE n) = 0 →
      (0 ≤ sdiff32 v.toNat (s.ringDb n) → 0 ≤ sdiff32 (s.ringHw n) v.toNat →
        Gives (exec (.completionDoorbell acc n v) s) (fun t => t.ringDb n = v.toNat ∧ t.ringHw n = s.ringHw n ∧ t.rings = s.rings ∧ t.mem = s.mem)) ∧
      (sdiff32 v.toNat (s.ringDb n) < 0 ∨ (sdiff32 v.toNat (s.ringDb n) ≠ 0 ∧ sdiff32 (s.ringHw n) v.toNat < 0) →
        Gives (exec (.completionDoorbell acc n v) s) (fun t => t.ringDb n = s.ringDb n ∧ t.ringHw n = s.ringHw n ∧
          t.flag (F.RNG_STAT_DB_ERR n) ∧ t.rings = s.rings ∧ t.mem = s.mem)))

/-- COMPLETION_WRITE of ring n, whose oldest completion goes to completion ring c: every entry of c from the consumer index up
to the producer index, as many as the ring holds, reads after it as before. Where c is full (its producer index is its size
ahead of the consumer index) the command changes nothing: the completion stays held. (R37) -/
def Obligations.CompletionNeverOverwritten : Prop :=
  ∀ (s : State) (n : Fin 64) (e : Inflight), (s.ring n).inflight.head? = some e →
    Gives (exec (.completionWrite n) s) (fun t =>
      ∀ j < min ((s.ringHw e.cring + (2 ^ 32 - s.ringDb e.cring)) % 2 ^ 32) (s.ringSize e.cring),
        t.bytes (s.ringBase e.cring + 16 * ((s.ringDb e.cring + j) % s.ringSize e.cring)) 16 =
          s.bytes (s.ringBase e.cring + 16 * ((s.ringDb e.cring + j) % s.ringSize e.cring)) 16) ∧
    ((s.ringHw e.cring + (2 ^ 32 - s.ringDb e.cring)) % 2 ^ 32 = s.ringSize e.cring → exec (.completionWrite n) s = .next s)

/-- At an arbitration with no lock running and some request waiting or arriving, the grant goes to a request of the highest rank
among them, and among the masters of that rank to the one nearest after the last master granted; HOLDER shows it. (R50) -/
def Obligations.ArbitrationGrantsTheHighestRank : Prop :=
  ∀ (s : State) (t : Fin 17) (c : BitVec 16) (l : List (Fin 48 × Fin 65 × BitVec 16)), (s.arb t).lockLeft = 0 →
    (s.arb t).waiting.map (·.master) ++ l.map (fun p => p.1.val) ≠ [] →
    (∀ x ∈ (s.arb t).waiting, x.master < 48) →
    Gives (exec (.reinArbitrate t c l) s) (fun u => ∃ m, (u.arb t).holder = some m ∧ u.fld (F.REIN_TSTAT_HOLDER t) = m ∧ (u.arb t).last = m ∧
      m ∈ (s.arb t).waiting.map (·.master) ++ l.map (fun p => p.1.val) ∧
      ∀ k ∈ (s.arb t).waiting.map (·.master) ++ l.map (fun p => p.1.val),
        s.rank k < 16 ∧ s.rank k ≤ s.rank m ∧ (s.rank k = s.rank m → robin (s.arb t).last m ≤ robin (s.arb t).last k))

/-- REIN_ARBITRATE inside a lock keeps the holder and LOCKED, through the last burst, and takes one burst off the lock.
REIN_LOCK_TIMEOUT after 1,024 cycles ends the lock, sets LOCK_TIMEOUT. REIN_STARVATION sets the starvation bit and the
target interrupt of a request whose counter exceeds its limit. REIN_RANK_WRITE leaves the rank and limit written, and no
arbiter changed. (R50, R52, R53, R54, R60) -/
def Obligations.ReinCommandsComplete : Prop :=
  (∀ (s : State) (t : Fin 17) (c : BitVec 16) (l : List (Fin 48 × Fin 65 × BitVec 16)), 0 < (s.arb t).lockLeft →
    Gives (exec (.reinArbitrate t c l) s) (fun u =>
      (u.arb t).holder = (s.arb t).holder ∧ (u.arb t).locked = (s.arb t).locked ∧ (u.arb t).lockLeft = (s.arb t).lockLeft - 1 ∧ u.mem = s.mem)) ∧
  (∀ (s : State) (t : Fin 17) (idle : BitVec 16), 0 < (s.arb t).lockLeft → 1024 ≤ idle.toNat →
    Gives (exec (.reinLockTimeout t idle) s) (fun u =>
      u.flag (F.REIN_TSTAT_LOCK_TIMEOUT t) ∧ u.flag (F.REIN_TSTAT_LOCKED t) = false ∧ (u.arb t).lockLeft = 0 ∧ u.mem = s.mem)) ∧
  (∀ (s : State) (t : Fin 17) (c : BitVec 16) (l : List (Fin 48 × Fin 65 × BitVec 16)) (x : ReinWait), x ∈ (s.arb t).waiting → x.starved = false → x.master < 32 →
    s.reinLimit x.master ≠ 0 → s.reinLimit x.master < min (x.wait + c.toNat) 65535 →
    Gives (exec (.reinStarvation t (c, l)) s) (fun u =>
      (u.reg (R.REIN_STARV_LO t)).getLsbD x.master ∧ u.isPending (154 + t) ∧ u.mem = s.mem)) ∧
  (∀ (s : State) (acc : Acc) (m : Fin 39) (v : Word), s.takesWrite acc (R.REIN_RANK m) →
    Gives (exec (.reinRankWrite acc m v) s) (fun u =>
      u.fld (F.REIN_RANK_RANK m) = (F.REIN_RANK_RANK m).get v ∧ u.fld (F.REIN_RANK_LIMIT m) = (F.REIN_RANK_LIMIT m).get v ∧
      u.rein = s.rein ∧ u.mem = s.mem))

/-- STRIDE_TICK when due takes the tick at the next 50,000 ns instant. AXIS_ENABLE of a valid configuration leaves EN set, the
axis in RUN or LOST, its position the preset with fraction 0. AXIS_DISABLE leaves it DISABLED with no active slot, EN clear,
its position frozen at that instant. AXIS_CFG_WRITE of the blend, standstill and loss registers leaves the word written and
every other register. STANDSTILL_ENTRY at a stride tick sets STILL with rate 0. SOURCE_TIMEOUT and SOURCE_RESTORE change the
health of the slot and SRC_OK. AXIS_XCHK sets XCHK_FAIL and fails the active slot. AXIS_LOST at a stride tick leaves LOST
with no slot and rate 0. AXIS_POS_READ returns the low position and latches the rest. Memory stays. (R62, R66, R74, R78, R79, R80, R81, R82, R84, R90, R93) -/
def Obligations.AxisCommandsComplete : Prop :=
  (∀ s : State, (s.str.tickAt / 50000 + 1) * 50000 ≤ s.now →
    Gives (exec .strideTick s) (fun t => t.str.tickAt = (s.str.tickAt / 50000 + 1) * 50000 ∧ t.now = s.now ∧ t.mem = s.mem)) ∧
  (∀ (s : State) (acc : Acc) (a : Fin 8) (v : Word), s.takesWrite acc (R.STR_AXCFG a) → s.flag (F.STR_AXCFG_EN a) = false →
    (s.setReg (R.STR_AXCFG a) (writtenWord (R.STR_AXCFG a) (s.locked (R.STR_AXCFG a)) (s.reg (R.STR_AXCFG a)) (v ||| 1))).axisOk a →
    Gives (exec (.axisEnable acc a v) s) (fun t => t.flag (F.STR_AXCFG_EN a) ∧ (t.axState a = axRUN ∨ t.axState a = axLOST) ∧
      (t.axis a).pos = sext 64 (s.reg64 (R.STR_AXPRESET_LO a) (R.STR_AXPRESET_HI a)) * 2 ^ 16 ∧ t.mem = s.mem)) ∧
  (∀ (s : State) (acc : Acc) (a : Fin 8) (v : Word), s.takesWrite acc (R.STR_AXCFG a) → s.flag (F.STR_AXCFG_EN a) →
    (s.reg (R.STR_AXCFG a) ||| 0x301) =
      (writtenWord (R.STR_AXCFG a) (s.locked (R.STR_AXCFG a)) (s.reg (R.STR_AXCFG a)) (v &&& 0xFFFFFFFE) ||| 0x301) →
    Gives (exec (.axisDisable acc a v) s) (fun t => t.flag (F.STR_AXCFG_EN a) = false ∧ t.axState a = axDISABLED ∧ t.axActive a = 3 ∧
      (t.axis a).pos = s.axPos a s.now ∧ t.mem = s.mem)) ∧
  (∀ (s : State) (acc : Acc) (a : Fin 8) (k : Fin 12) (v : Word), k.val = 5 ∨ k.val = 6 ∨ k.val = 7 →
    s.takesWrite acc (R.STR_AXCFG a + 4 * k) →
    Gives (exec (.axisCfgWrite acc a k v) s) (fun t => t.reg (R.STR_AXCFG a + 4 * k) = v ∧
      (∀ b, b ≠ R.STR_AXCFG a + 4 * k → t.reg b = s.reg b) ∧ t.str = s.str ∧ t.mem = s.mem)) ∧
  (∀ (s : State) (a : Fin 8) (t0 : Nat), (s.axis a).slowAt = some t0 → s.axState a = axRUN ∨ s.axState a = axBLEND →
    s.flag (F.STR_AXSTAT_STILL a) = false → t0 + 1000000 * s.axF a 5 F.STR_AXSTILL_DWELL ≤ s.now → s.now = s.str.tickAt → s.axActive a < 3 →
    (s.slotRate a (s.axActive a) s.now * 1000000).natAbs < s.axF a 5 F.STR_AXSTILL_RATE * 2 ^ 32 →
    Gives (exec (.standstillEntry a) s) (fun t => t.flag (F.STR_AXSTAT_STILL a) ∧ t.axRate a = 0 ∧ t.axState a = axRUN ∧
      (∀ u, t.axPos a u = s.axPos a s.now) ∧ t.mem = s.mem)) ∧
  (∀ (s : State) (a : Fin 8) (k : Fin 3), s.axState a ≠ axDISABLED → s.axCode a k ≠ 0 → ((s.axis a).slot k).ok → s.slotBad a k →
    Gives (exec (.sourceTimeout a k) s) (fun t => ((t.axis a).slot k).ok = false ∧ (t.fld (F.STR_AXSTAT_SRC_OK a)).testBit k = false ∧ t.mem = s.mem)) ∧
  (∀ (s : State) (a : Fin 8) (k : Fin 3), s.axState a ≠ axDISABLED → s.axCode a k ≠ 0 → ((s.axis a).slot k).ok = false →
    ((((s.axis a).slot k).goodAt = none ∧ s.axF a 8 F.STR_AXREST_RESTORE = 0) ∨ ∃ u, ((s.axis a).slot k).goodAt = some u ∧ u + 1000000 * s.axF a 8 F.STR_AXREST_RESTORE ≤ s.now) →
    s.slotGood a k →
    Gives (exec (.sourceRestore a k) s) (fun t => ((t.axis a).slot k).ok ∧ (t.fld (F.STR_AXSTAT_SRC_OK a)).testBit k ∧ t.mem = s.mem)) ∧
  (∀ (s : State) (a : Fin 8) (u : Nat), (s.axis a).xAt = some u → s.xFails a s.now → u + 1000000 * s.axF a 7 F.STR_AXXCHK_XDWELL ≤ s.now →
    Gives (exec (.axisXchk a) s) (fun t => t.flag (F.STR_AXSTAT_XCHK_FAIL a) ∧ ((t.axis a).slot (s.axActive a)).ok = false ∧ t.mem = s.mem)) ∧
  (∀ (s : State) (a : Fin 8), s.axState a = axCOAST → (s.axis a).coastAt + 1000000 * s.axF a 6 F.STR_AXLOSS_COAST ≤ s.now → s.axBest a = none → s.now = s.str.tickAt →
    Gives (exec (.axisLost a) s) (fun t => t.axState a = axLOST ∧ t.axActive a = 3 ∧ t.flag (F.STR_AXSTAT_AXIS_LOST a) ∧ t.axRate a = 0 ∧
      (∀ u, t.axPos a u = s.axPos a s.now) ∧ t.mem = s.mem)) ∧
  (∀ (s : State) (acc : Acc) (a : Fin 8), s.takesRead acc (R.STR_AXPOS_LO a) →
    Gives (exec (.axisPosRead acc a) s) (fun t => t.rdata = w32 (s.axCount a s.now) ∧ t.reg (R.STR_AXPOS_HI a) = w32 (s.axCount a s.now / 2 ^ 32) ∧
      t.fld (F.STR_AXFRAC_FRAC a) = toBits 16 (s.axPos a s.now) ∧ t.str = s.str ∧ t.mem = s.mem))

/-- TRIGGER_ARM with an allowed action and direction leaves EN set and the trigger armed; with DIRN 0 or a reserved action EN
reads 0, CFG_ERR sets and it is not armed. TRIGGER_FIRE of a trigger that reaches its target in a µs, with all that R89 puts
before it done, clears EN, sets FIRED, disarms it, stamps that µs, and sets LATE where it was past when judged.
STRIDE_SNAPSHOT, none having been taken in this µs, leaves the MTB and the position of every axis of this instant, the cause
DOORBELL and SEQ one higher; in the µs of a trigger snapshot it only adds DOORBELL to its cause. (R87, R88, R93) -/
def Obligations.TriggerCommandsComplete : Prop :=
  (∀ (s : State) (acc : Acc) (n : Fin 32) (v : Word), s.takesWrite acc (R.STR_TRGCFG n) →
    (F.STR_TRGCFG_ACTION n).get v < 3 → (F.STR_TRGCFG_DIRN n).get v ≠ 0 →
    Gives (exec (.triggerArm acc n v) s) (fun t => t.flag (F.STR_TRGCFG_EN n) ∧ (t.trg n).isSome ∧
      t.fld (F.STR_TRGCFG_AXIS n) = (F.STR_TRGCFG_AXIS n).get v ∧ t.reg (R.STR_TRGPOS n) = s.reg (R.STR_TRGPOS n) ∧ t.mem = s.mem)) ∧
  (∀ (s : State) (acc : Acc) (n : Fin 32) (v : Word), s.takesWrite acc (R.STR_TRGCFG n) →
    3 ≤ (F.STR_TRGCFG_ACTION n).get v ∨ (F.STR_TRGCFG_DIRN n).get v = 0 →
    Gives (exec (.triggerArm acc n v) s) (fun t => t.flag (F.STR_TRGCFG_EN n) = false ∧ t.flag (F.STR_TRGSTAT_CFG_ERR n) ∧ t.trg n = none)) ∧
  (∀ (s : State) (n : Fin 32) (u : Nat), s.trgDue n = some u →
    Gives (exec (.triggerFire n) s) (fun t => t.flag (F.STR_TRGCFG_EN n) = false ∧ t.flag (F.STR_TRGSTAT_FIRED n) ∧ t.trg n = none ∧
      t.fld (F.STR_TRGTIME_TIME n) = u % 2 ^ 32 ∧ (∀ x, s.trg n = some x → x.late → t.flag (F.STR_TRGSTAT_LATE n)))) ∧
  (∀ (s : State) (acc : Acc), s.takesWrite acc R.STR_SNAP_DB → s.str.snapUs.1 ≠ s.now / 1000 + 1 → (∀ a < 8, (s.axis a).at_ ≤ s.now) →
    Gives (exec (.strideSnapshot acc) s) (fun t => t.fld F.STR_SNAP_STAT_SEQ = (s.fld F.STR_SNAP_STAT_SEQ + 1) % 2 ^ 16 ∧
      t.flag F.STR_SNAP_STAT_DOORBELL ∧ t.reg R.STR_SNAP_MTB_LO = w32 s.now ∧ t.reg R.STR_SNAP_MTB_HI = w32 (s.now / 2 ^ 32) ∧
      (∀ a < 8, t.reg (R.STR_SNAP_POS_LO a) = w32 (s.axCount a s.now)) ∧ t.isPending 180 ∧ t.mem = s.mem)) ∧
  (∀ (s : State) (acc : Acc), s.takesWrite acc R.STR_SNAP_DB → s.str.snapUs = (s.now / 1000 + 1, false, true) →
    Gives (exec (.strideSnapshot acc) s) (fun t => t.flag F.STR_SNAP_STAT_DOORBELL ∧ t.fld F.STR_SNAP_STAT_SEQ = s.fld F.STR_SNAP_STAT_SEQ ∧
      t.fld F.STR_SNAP_STAT_TRG = s.fld F.STR_SNAP_STAT_TRG ∧ (∀ a, a ≠ R.STR_SNAP_STAT → t.reg a = s.reg a) ∧ t.mem = s.mem))

/-- With EN 0 and the axis DISABLED: where the written configuration has a reserved or zero primary code, a source not allowed
for the kind (Table 3-4), two slots naming the same source, or a partner source on a module without a Tandem link,
AXIS_ENABLE leaves EN 0, sets CFG_ERR and leaves the state DISABLED. The sources a kind takes are written out. (R65) -/
def Obligations.InvalidAxisConfigurationRefused : Prop :=
  ∀ (s : State) (acc : Acc) (a : Fin 8) (v : Word) (u : State), s.takesWrite acc (R.STR_AXCFG a) → s.flag (F.STR_AXCFG_EN a) = false →
    s.axState a = axDISABLED →
    u = s.setReg (R.STR_AXCFG a) (writtenWord (R.STR_AXCFG a) (s.locked (R.STR_AXCFG a)) (s.reg (R.STR_AXCFG a)) (v ||| 1)) →
    (∃ k < 3, let c := u.axCode a k
      (c = 0 → k = 0) ∧
      ¬ ((c < 0x28 ∧ 0x10 ≤ c ∧ u.fld (F.STR_AXCFG_KIND a) < 2) ∨ (c < 0x3C ∧ 0x30 ≤ c ∧ u.fld (F.STR_AXCFG_KIND a) < 2) ∨
        (c = 0x40 ∧ u.fld (F.STR_AXCFG_KIND a) = 0) ∨ ((c = 0x50 ∨ c = 0x51) ∧ u.fld (F.STR_AXCFG_KIND a) = 2) ∨
        (c = 0x60 ∧ u.fld (F.STR_AXCFG_KIND a) = 3) ∨ (0x70 ≤ c ∧ c < 0x78 ∧ s.part.hasTDM))) ∨
      (∃ j < 3, ∃ k < 3, j ≠ k ∧ u.axCode a k ≠ 0 ∧ u.axCode a j = u.axCode a k) →
    Gives (exec (.axisEnable acc a v) s) (fun t => t.flag (F.STR_AXCFG_EN a) = false ∧ t.flag (F.STR_AXSTAT_CFG_ERR a) ∧
      t.axState a = axDISABLED ∧ t.str = s.str ∧ t.mem = s.mem)

/-- ENDPOINT_TICK when due, with EPT_CTL.EN set, leaves EPT_NIN and EPT_NSTATE counting the endpoints in IN and in REJOIN and
every record of a kept endpoint showing its state; with EN clear it only takes the tick at the next 250,000 ns instant.
REJOIN_CWAIT_EXPIRY marks an endpoint whose CWAIT has passed to go IN at the next tick. EP_OUT, EP_RETURN and STATE_COPY
start their descriptor and wait for the next endpoint tick. EPT_COUNT_WRITE and EPT_ENABLE leave the fields written, with no
endpoint changed before the next tick. (R100, R109, R114, R116, R117) -/
def Obligations.EndpointCommandsComplete : Prop :=
  (∀ (s : State) (work : List (Fin 4096) × List (Fin 128)), (s.ept.tickAt / 250000 + 1) * 250000 ≤ s.now →
    Gives (exec (.endpointTick work) s) (fun t =>
      (s.flag F.EPT_CTL_EN = false → t.ept.tickAt = (s.ept.tickAt / 250000 + 1) * 250000 ∧ t.ept.eps = s.ept.eps) ∧
      (s.flag F.EPT_CTL_EN →
        t.fld F.EPT_NIN_NIN = (t.ept.eps.filter (fun p => p.2.state = epIN)).length % 2 ^ 13 ∧
        t.fld F.EPT_NSTATE_NREJOIN = (t.ept.eps.filter (fun p => p.2.state = epREJOIN)).length % 2 ^ 13 ∧
        ∀ e < 4096, (t.ep e).state < 3 → e ∈ SMap.keys t.ept.eps → (t.reg (R.EPT_STATE e 7)).toNat % 4 = (t.ep e).state)) ) ∧
  (∀ (s : State) (e : Fin 4096) (t0 : Nat), (s.ep e).readyAt = some t0 → (s.ep e).state = epREJOIN →
    t0 + 1000000 * s.fld F.EPT_REJOIN_CWAIT ≤ s.now →
    Gives (exec (.rejoinCwaitExpiry e) s) (fun t => (t.ep e).go ∧ (t.ep e).state = epREJOIN ∧ (∀ f, f ≠ e.val → t.ep f = s.ep f) ∧
      t.regs = s.regs ∧ t.mem = s.mem)) ∧
  (∀ (s : State) (n : Fin 64) (d : Desc), s.nextDesc n = some d → s.fld (F.RNG_CFG_QUEUE n) = 1 → s.mirrorOnly = false → d.op = 1 →
    Gives (exec (.epOut n) s) (fun t => t.ept.jobs = s.ept.jobs ++ [(n.val, d.didx, 1, d.arg0, d.arg1, d.addr)] ∧
      t.ept.eps = s.ept.eps ∧ t.ringHw n = next32 (s.ringHw n) ∧ t.mem = s.mem)) ∧
  (∀ (s : State) (n : Fin 64) (d : Desc), s.nextDesc n = some d → s.fld (F.RNG_CFG_QUEUE n) = 1 → s.mirrorOnly = false → d.op = 2 →
    Gives (exec (.epReturn n) s) (fun t => t.ept.jobs = s.ept.jobs ++ [(n.val, d.didx, 2, d.arg0, d.arg1, d.addr)] ∧
      t.ept.eps = s.ept.eps ∧ t.ringHw n = next32 (s.ringHw n) ∧ t.mem = s.mem)) ∧
  (∀ (s : State) (n : Fin 64) (d : Desc), s.nextDesc n = some d → s.fld (F.RNG_CFG_QUEUE n) = 1 → s.mirrorOnly = false → d.op = 3 →
    d.len ≠ 0 → d.len = 32 * d.arg1 →
    Gives (exec (.stateCopy n) s) (fun t => t.ept.jobs = s.ept.jobs ++ [(n.val, d.didx, 3, d.arg0, d.arg1, d.addr)] ∧
      t.ept.eps = s.ept.eps ∧ t.ringHw n = next32 (s.ringHw n) ∧ t.mem = s.mem)) ∧
  (∀ (s : State) (acc : Acc) (v : Word), s.takesWrite acc R.EPT_COUNT → s.flag F.EPT_CTL_LOCK = false →
    Gives (exec (.eptCountWrite acc v) s) (fun t => t.fld F.EPT_COUNT_N = F.EPT_COUNT_N.get v ∧ (∀ a, a ≠ R.EPT_COUNT → t.reg a = s.reg a) ∧
      t.ept = s.ept ∧ t.mem = s.mem)) ∧
  (∀ (s : State) (acc : Acc) (v : Word), s.takesWrite acc R.EPT_CTL →
    Gives (exec (.eptEnable acc v) s) (fun t => t.fld F.EPT_CTL_EN = F.EPT_CTL_EN.get v ∧ (∀ a, a ≠ R.EPT_CTL → t.reg a = s.reg a) ∧
      t.ept = s.ept ∧ t.mem = s.mem))

/-- For a RATE endpoint: with v the SPEED in 0.1 mm per s on a GROUND axis and D = 10^7, or the counts per s of the axis and D =
10^9 on another kind, and m the product Rx x WIDTH x v x RATE_K rounded to the nearest multiple of D x 65,536, halves away
from zero: the command is 0 where m is 0, else m clamped into RATE_MIN to RATE_MAX, and with RDEST 0 cut to the limit of its
channel; CLAMPED of the endpoint tells whether the command differs from m. With PL_EN clear, v not above 0 or the axis at
standstill it is 0. (R106, R107) -/
def Obligations.RateCommandFollowsTheFormula : Prop :=
  ∀ (s : State) (e : Nat) (c : List Byte) (v : Int) (D : Nat), c = (s.ep e).cfg → eKind c = kRATE →
    (s.fld (F.STR_AXCFG_KIND (eAxis c)) = 0 → v = (s.ep e).perS ∧ D = 10 ^ 7) →
    (s.fld (F.STR_AXCFG_KIND (eAxis c)) ≠ 0 → v = s.axPerS (eAxis c) ∧ D = 10 ^ 9) →
    (ePlEn c = false ∨ v ≤ 0 ∨ s.flag (F.STR_AXSTAT_STILL (eAxis c)) → ((s.epRate e).ep e).rcmd = 0) ∧
    (ePlEn c → 0 < v → s.flag (F.STR_AXSTAT_STILL (eAxis c)) = false →
      ∃ m k : Nat, 2 * (m * (D * 65536)) ≤ 2 * ((s.ep e).rx * eWidth c * v.toNat * eRateK c) + D * 65536 ∧
        2 * ((s.ep e).rx * eWidth c * v.toNat * eRateK c) + D * 65536 < 2 * ((m + 1) * (D * 65536)) ∧
        k = (if m = 0 then 0 else max (eRateMin c) (min (eRateMax c) m)) ∧
        ((s.epRate e).ep e).rcmd = (if eRdest c then k else min k (s.rateLimit c)) ∧
        ((s.epRate e).ep e).clamped = decide (((s.epRate e).ep e).rcmd ≠ m))

/-- SLOT_PAGE_WRITE to the page not active, with no commit pending, leaves the word written by the access codes. COMMIT of a
32-byte mask with an allowed base and direction, no named cluster having a commit, queues one commit with those clusters and
that point. CANCEL leaves no commit on a named cluster. PAGE_COPY leaves the shadow page of every named cluster equal to its
active page. COMMIT_SWAP, with all that comes before it done, leaves no commit on the clusters of a commit whose point was
crossed, and takes each of them to its other page, and no other cluster. EDGE_EMIT of an instant that has come, no tick and
no page swap standing before it, leaves nothing armed at that instant. (R128, R132, R133, R134, R136) -/
def Obligations.SlotCommandsComplete : Prop :=
  (∀ (s : State) (acc : Acc) (c : Fin 256) (p : Fin 2) (n : Fin 64) (k : Fin 4) (v : Word), s.takesWrite acc (R.SLT_PAGE c p n k) →
    s.mirrorOnly = false → p.val ≠ s.page c → s.hasCommit c = false →
    Gives (exec (.slotPageWrite acc c p n k v) s) (fun t =>
      t.reg (R.SLT_PAGE c p n k) = writtenWord (R.SLT_PAGE c p n k) (s.locked (R.SLT_PAGE c p n k)) (s.reg (R.SLT_PAGE c p n k)) v ∧
      t.slt = s.slt)) ∧
  (∀ (s : State) (n : Fin 64) (d : Desc), s.nextDesc n = some d → s.fld (F.RNG_CFG_QUEUE n) = 2 → s.mirrorOnly = false → d.op = 1 →
    d.len = 32 → (s.firstDenied (engine 10) .read d.addr 32).isNone → d.arg1 % 4 = 1 ∨ d.arg1 % 4 = 2 → d.arg1 / 64 % 4 ≠ 0 →
    (∀ c ∈ maskClusters (s.bytes d.addr 32), s.hasCommit c = false) →
    Gives (exec (.sltCommit n) s) (fun t => ∃ m, t.slt.commits = s.slt.commits ++ [m] ∧ m.cls = maskClusters (s.bytes d.addr 32) ∧
      m.point = d.arg0 ∧ m.base = d.arg1 % 4 ∧ m.dirn = d.arg1 / 64 % 4 ∧ t.mem = s.mem)) ∧
  (∀ (s : State) (n : Fin 64) (d : Desc), s.nextDesc n = some d → s.fld (F.RNG_CFG_QUEUE n) = 2 → s.mirrorOnly = false → d.op = 2 →
    d.len = 32 → (s.firstDenied (engine 10) .read d.addr 32).isNone →
    Gives (exec (.sltCancel n) s) (fun t => (∀ c ∈ maskClusters (s.bytes d.addr 32), t.hasCommit c = false) ∧
      (∀ c < 256, c ∉ maskClusters (s.bytes d.addr 32) → t.hasCommit c = s.hasCommit c) ∧ t.mem = s.mem)) ∧
  (∀ (s : State) (n : Fin 64) (d : Desc), s.nextDesc n = some d → s.fld (F.RNG_CFG_QUEUE n) = 2 → s.mirrorOnly = false → d.op = 3 →
    d.len = 32 → (s.firstDenied (engine 10) .read d.addr 32).isNone → (∀ c ∈ maskClusters (s.bytes d.addr 32), s.hasCommit c = false) →
    Gives (exec (.pageCopy n) s) (fun t => (∀ c ∈ maskClusters (s.bytes d.addr 32), ∀ k < 64, ∀ w < 4,
      t.reg (R.SLT_PAGE c (1 - s.page c) k w) = s.reg (R.SLT_PAGE c (s.page c) k w) ∧
      t.reg (R.SLT_PAGE c (s.page c) k w) = s.reg (R.SLT_PAGE c (s.page c) k w)) ∧ t.slt = s.slt ∧ t.mem = s.mem)) ∧
  (∀ (s : State) (u : Nat) (m : Commit), s.swapDue = some u → m ∈ s.slt.commits → s.commitAt m s.lineEnd = some u →
    Gives (exec .commitSwap s) (fun t => ∀ c ∈ m.cls, t.hasCommit c = false)) ∧
  (∀ (s : State) (u : Nat) (m : Commit), s.swapDue = some u → s.slt.commits = [m] → m.cls.Nodup → (∀ c ∈ m.cls, c < 256) →
    Gives (exec .commitSwap s) (fun t => t.slt.commits = [] ∧ ∀ c < 256, t.page c = if c ∈ m.cls then 1 - s.page c else s.page c)) ∧
  (∀ (s : State) (u : Nat), s.nextEmit = some u → u ≤ s.now → u ≤ s.str.tickAt + 50000 → u ≤ s.ept.tickAt + 250000 →
    (∀ v, s.nextSwap = some v → u ≤ v) →
    Gives (exec .edgeEmit s) (fun t => ∀ a ∈ t.slt.armed, a.at_ ≠ u))

/-- RECORD_REPEAT leaves no record with transmissions left that was last sent a millisecond or more ago. TSYNC when due moves
TSEQ on, notes the instant and makes a TFOLLOW due on every enabled bus; TFOLLOW takes its bus off that list. NSTATUS on a
running bus leaves the node seen with its SEQ, healthy where it reports no fault and it, or an NSTATUS of the last NTO ms,
reports the time; not healthy where it reports a fault or the time was never reported. NODE_TIMEOUT makes the node unhealthy
and sets NODE_LOST. SENSE_DATA stores the value at each SENSE endpoint in service that names the index. (R131, R140, R143, R144) -/
def Obligations.NodeAndTimeFrameCommandsComplete : Prop :=
  (∀ s : State, Gives (exec .recordRepeat s) (fun t => (∀ i ∈ t.slt.issue, 0 < i.left → s.now < i.sentAt + 1000000) ∧
      t.regs = s.regs ∧ t.mem = s.mem)) ∧
  (∀ s : State, s.flag F.SLT_CTL_EN → s.tdmMasked = false → 0 < s.fld F.SLT_TFRM_PERIOD →
    s.slt.tsyncAt + 1000000 * s.fld F.SLT_TFRM_PERIOD ≤ s.now →
    Gives (exec .tsync s) (fun t => t.slt.tseq = (s.slt.tseq + 1) % 2 ^ 16 ∧ t.slt.tsyncAt = s.now ∧
      t.slt.follow = s.timeBuses.map (fun b => (b, s.slt.tseq)) ∧ t.regs = s.regs ∧ t.mem = s.mem)) ∧
  (∀ (s : State) (b : Fin 14) (mtb : BitVec 64) (q : Nat), s.slt.follow.find? (fun p => p.1 = b.val) = some (b.val, q) →
    Gives (exec (.tfollow b mtb) s) (fun t => (∀ p ∈ t.slt.follow, p.1 ≠ b.val) ∧ t.regs = s.regs ∧ t.mem = s.mem ∧
      (s.tdmMasked = false → s.busUp b → ∃ r, t.slt.out = s.slt.out ++ [r] ∧ r.bus = b.val ∧ r.type = 0x11))) ∧
  (∀ (s : State) (b : Fin 14) (n : BitVec 8) (tseq seq : BitVec 16) (timeOk fault : Bool), s.busUp b →
    Gives (exec (.nstatus b n tseq seq timeOk fault) s) (fun t => (t.node b n.toNat).seen ∧ (t.node b n.toNat).lastSeq = seq.toNat ∧
      (fault = false → timeOk ∨ (s.fld F.SLT_NTO_NTO ≠ 0 ∧ ∃ u, (s.node b n.toNat).okAt = some u ∧ s.now < u + 1000000 * s.fld F.SLT_NTO_NTO) →
        (t.node b n.toNat).healthy) ∧
      (fault ∨ (timeOk = false ∧ (s.node b n.toNat).okAt = none) → (t.node b n.toNat).healthy = false) ∧ t.mem = s.mem)) ∧
  (∀ (s : State) (b : Fin 14) (n : BitVec 8), (s.node b n.toNat).healthy → s.fld F.SLT_NTO_NTO ≠ 0 →
    (∀ u, (s.node b n.toNat).okAt = some u → u + 1000000 * s.fld F.SLT_NTO_NTO ≤ s.now) →
    Gives (exec (.nodeTimeout b n) s) (fun t => (t.node b n.toNat).healthy = false ∧ t.flag F.SLT_STAT_NODE_LOST ∧ t.mem = s.mem)) ∧
  (∀ (s : State) (b : Fin 14) (n : BitVec 8) (k : BitVec 12) (v : Word) (e : Nat), s.busUp b → e ∈ SMap.keys s.ept.eps →
    (s.ep e).state ≠ epOUT → eKind (s.ep e).cfg = kSENSE → eRemote (s.ep e).cfg → eBus (s.ep e).cfg = b.val → eNode (s.ep e).cfg = n.toNat →
    eIndex (s.ep e).cfg = k.toNat →
    Gives (exec (.senseData b n [(k, v)]) s) (fun t => (t.ep e).val = v.toNat ∧ (t.ep e).state = (s.ep e).state ∧ t.regs = s.regs ∧ t.mem = s.mem))

/-- On a module that takes its own writes: a permitted SLOT_PAGE_WRITE to the active page of its cluster, or to the shadow page
while the cluster has a commit pending, leaves every slot word and the whole slot engine as they were, sets LOCKED_WR, and
is treated as a denied write at target 17. (R132, R57) -/
def Obligations.ActivePageIsReadOnly : Prop :=
  ∀ (s : State) (acc : Acc) (c : Fin 256) (p : Fin 2) (n : Fin 64) (k : Fin 4) (v : Word), s.takesWrite acc (R.SLT_PAGE c p n k) →
    s.mirrorOnly = false → p.val = s.page c ∨ s.hasCommit c →
    Gives (exec (.slotPageWrite acc c p n k v) s) (fun t =>
      (∀ (c' : Fin 256) (p' : Fin 2) (n' : Fin 64) (k' : Fin 4), t.reg (R.SLT_PAGE c' p' n' k') = s.reg (R.SLT_PAGE c' p' n' k')) ∧
      t.flag F.SLT_STAT_LOCKED_WR ∧ t.slt = s.slt ∧ t.flag (F.ACC_T_FINFO_VALID 17) ∧
      (s.flag (F.ACC_T_FINFO_VALID 17) = false → t.reg (R.ACC_T_FADDR_LO 17) = w32 (R.SLT_PAGE c p n k) ∧ t.isPending 153) ∧ t.mem = s.mem)

/-- TILE_FETCH of a present tile that a mark waits for or a footprint comes near, a clean frame being free and the accesses
permitted, leaves the tile in that frame and no mark waiting for it. TILE_WRITEBACK when due notes the instant and leaves no
frame dirty whose bytes can be read and written. COV_MISS_TIMEOUT leaves the endpoint with no miss running and no frontier.
COV_POOL_TAIL_WRITE takes the index. FIELD_LOAD of 128 bytes waits for the next tick. FIELD_UNLOAD leaves no field, an empty
cache, completion OK. FLUSH completes OK and cleans frames. TILE_INVAL leaves no frame of the layer with an index of the
range. (R158, R159, R171, R174) -/
def Obligations.CoverageCommandsComplete : Prop :=
  (∀ (s : State) (l : Fin 8) (idx : BitVec 24) (ecc : Bool) (a f : Nat), s.flag F.COV_CTL_EN → s.covLoaded →
    within 1 3 (layKind s.cov.desc l) → idx.toNat < layNtx s.cov.desc l * layNty s.cov.desc l →
    (s.tileNear l idx.toNat ∨ ∃ m ∈ s.cov.marks, m.1 = l.val ∧ m.2.1 = idx.toNat) → s.frameOf l idx.toNat = none →
    s.dirEntry l idx.toNat = .present a → s.freeFrame = some f → (∀ x, s.frame f = some x → x.dirty = false) →
    (s.firstDenied (engine 13) .read a (tileBytes s.cov.desc l)).isNone →
    (s.firstDenied (engine 13) .write (s.frameAddr f) (tileBytes s.cov.desc l)).isNone →
    Gives (exec (.tileFetch l idx ecc) s) (fun t => (∃ x, t.frame f = some x ∧ x.layer = l.val ∧ x.idx = idx.toNat ∧ x.addr = a) ∧
      (∀ m ∈ t.cov.marks, ¬ (m.1 = l.val ∧ m.2.1 = idx.toNat)) ∧
      (∀ g, g ≠ f → t.frame g = s.frame g) ∧
      ((∀ m ∈ s.cov.marks, ¬ (m.1 = l.val ∧ m.2.1 = idx.toNat)) →
        t.mem = (s.setBytes (s.frameAddr f) (s.bytes a (tileBytes s.cov.desc l))).mem))) ∧
  (∀ (s : State) (ecc : List (Fin 128)), s.flag F.COV_CTL_EN → s.covLoaded → 0 < s.fld F.COV_WB_PERIOD →
    s.due s.cov.wbAt (1000000 * s.fld F.COV_WB_PERIOD) →
    Gives (exec (.tileWriteback ecc) s) (fun t => t.cov.wbAt = s.now ∧ ∀ (f : Fin 128) (x : Tile), s.frame f = some x → f ∉ ecc →
      (s.firstDenied (engine 13) .read (s.frameAddr f) 16384).isNone → (s.firstDenied (engine 13) .write x.addr 16384).isNone →
      t.frame f = some { x with dirty := false })) ∧
  (∀ (s : State) (e : Fin 4096) (t0 : Nat), (s.ep e).missAt = some t0 → (s.ep e).state ≠ epOUT →
    t0 + 1000000 * s.fld F.COV_MISS_MISSTO ≤ s.now →
    Gives (exec (.covMissTimeout e) s) (fun t => (t.ep e).missAt = none ∧ (t.ep e).front = none ∧ (t.ep e).first)) ∧
  (∀ (s : State) (acc : Acc) (v : Word), s.takesWrite acc R.COV_POOLTAIL →
    Gives (exec (.covPoolTailWrite acc v) s) (fun t => s.wrote t R.COV_POOLTAIL v ∧
      (t.fld F.COV_POOLTAIL_IDX ≠ t.fld F.COV_POOLHEAD_IDX → t.cov.empty = false) ∧ t.mem = s.mem)) ∧
  (∀ (s : State) (n : Fin 64) (d : Desc), s.starts n d 3 1 → s.mirrorOnly = false → d.len = 128 →
    Gives (exec (.fieldLoad n) s) (fun t => t.hasStarted n d ∧ t.cov = { s.cov with loads := s.cov.loads ++ [(n.val, d.didx, d.addr)] } ∧
      t.mem = s.mem)) ∧
  (∀ (s : State) (n : Fin 64) (d : Desc) (ecc : List (Fin 128)), s.starts n d 3 2 → s.mirrorOnly = false → s.covLoaded →
    Gives (exec (.fieldUnload n ecc) s) (fun t => t.hasDone n d stOK 0 ∧ t.covLoaded = false ∧ t.cov.desc = [] ∧ t.cov.marks = [] ∧
      (∀ f, t.frame f = none) ∧ t.flag F.COV_STAT_FIELD_CHG)) ∧
  (∀ (s : State) (n : Fin 64) (d : Desc) (ecc : List (Fin 128)), s.starts n d 3 3 → s.mirrorOnly = false → s.covLoaded →
    Gives (exec (.covFlush n ecc) s) (fun t => (∃ k, t.hasDone n d stOK k) ∧ ∀ (f : Fin 128) (x : Tile), s.frame f = some x → f ∉ ecc →
      (s.firstDenied (engine 13) .read (s.frameAddr f) 16384).isNone → (s.firstDenied (engine 13) .write x.addr 16384).isNone →
      t.frame f = some { x with dirty := false })) ∧
  (∀ (s : State) (n : Fin 64) (d : Desc), s.starts n d 3 4 → s.mirrorOnly = false → s.covLoaded →
    layKind s.cov.desc (d.arg0 % 8) ≠ lkAPPLIED →
    Gives (exec (.tileInval n) s) (fun t => (∃ k, t.hasDone n d stOK k) ∧
      (∀ f x, t.frame f = some x → ¬ (x.layer = d.arg0 % 8 ∧ d.arg1 ≤ x.idx ∧ x.idx < d.arg1 + d.arg2)) ∧
      (∀ f x, s.frame f = some x → ¬ (x.layer = d.arg0 % 8 ∧ d.arg1 ≤ x.idx ∧ x.idx < d.arg1 + d.arg2) → t.frame f = some x) ∧ t.mem = s.mem))

/-- LOOP_SAMPLE of a loop that is due, not too late and no member of a group notes the instant, takes its commands, ends in a
state of Table 7-3 shown in BRD_LSTATn, shows its output; in MANUAL, GATED, FAIL, HOLD and FROZEN the output is the manual
value, START_OUT, FAIL_OUT, the last value, the value at detection. Where its axis is newly found LOST or DISABLED it takes
no sample and leaves RUN; a sample that comes too late is dropped with OVERRUN. GROUP_SAMPLE samples every member at one
instant; the winner is a member, no member has a lower output, and exactly the others are losing. COEF_APPLY makes a
promotion pending for the named loops and lets them run. OSC_RELEASE clears OSC and the window, and makes a loop that had it
transfer. SW_VALUE_WRITE makes the value fresh, SW_VALUE_TIMEOUT stale. LOOP_MANUAL, LOOP_AUTO and INT_SET put the command
before each named loop and complete OK. (R180, R183, R188, R191, R192, R193, R194, R196, R198, R201) -/
def Obligations.BridleCommandsComplete : Prop :=
  (∀ (s : State) (n : Fin 64) (j : LJob), bGen (s.entry 6 n) = false ∨ s.alone n → s.loopLate n = false → s.loopDue n = some j →
    j.enter = false →
    Gives (exec (.loopSample n) s) (fun t => let x := t.bloop n
      x.lastAt = some j.at_ ∧ x.cmds = [] ∧ 1 ≤ x.state ∧ x.state ≤ 6 ∧ t.fld (F.BRD_LSTAT_STATE n) = x.state ∧
      t.reg (R.BRD_LOUT n) = w32 x.last ∧ t.reg (R.BRD_LTIME n) = w32 j.at_ ∧
      (x.state = lpMANUAL → x.manual = some x.last) ∧ (x.state = lpGATED → x.last = bStartOut (s.entry 6 n)) ∧
      (x.state = lpFAIL → x.last = bFailOut (s.entry 6 n)) ∧ (x.state = lpHOLD → x.last = (s.bloop n).last) ∧
      (x.state = lpFROZEN → x.last = (s.bloop n).frz) ∧ (∀ m, m ≠ n.val → t.bloop m = s.bloop m) ∧ t.mem = s.mem)) ∧
  (∀ (s : State) (n : Fin 64) (j : LJob), bGen (s.entry 6 n) = false ∨ s.alone n → s.loopLate n = false → s.loopDue n = some j →
    j.enter →
    Gives (exec (.loopSample n) s) (fun t => (t.bloop n).lastAt = (s.bloop n).lastAt ∧ (t.bloop n).state ≠ lpRUN ∧
      t.reg (R.BRD_LTIME n) = s.reg (R.BRD_LTIME n) ∧ t.mem = s.mem)) ∧
  (∀ (s : State) (n : Fin 64), bGen (s.entry 6 n) = false ∨ s.alone n → s.loopLate n →
    Gives (exec (.loopSample n) s) (fun t => (t.bloop n).lastAt = (s.bloop n).lastAt ∧ (t.bloop n).last = (s.bloop n).last ∧
      t.flag (F.BRD_LSTAT_OVERRUN n) ∧ t.flag F.BRD_STAT_OVERRUN ∧ (∀ m, m ≠ n.val → t.bloop m = s.bloop m) ∧ t.mem = s.mem)) ∧
  (∀ (s : State) (g : Fin 16) (m : Nat) (l : List Nat) (j : LJob), s.gmembers g = m :: l → s.loopLate m = false → s.loopDue m = some j →
    j.enter = false →
    Gives (exec (.groupSample g) s) (fun t => t.fld (F.BRD_GSTAT_WINNER g) ∈ s.gmembers g ∧
      (∀ k ∈ s.gmembers g, (t.bloop k).lastAt = some j.at_ ∧ (t.bloop k).losing = decide (k ≠ t.fld (F.BRD_GSTAT_WINNER g)) ∧
        fLt (t.bloop k).u (t.bloop (t.fld (F.BRD_GSTAT_WINNER g))).u = false ∧ t.reg (R.BRD_LTIME k) = w32 j.at_) ∧ t.mem = s.mem)) ∧
  (∀ (s : State) (acc : Acc) (hi : Bool) (v : Word), s.takesWrite acc (if hi then R.BRD_APPLY_HI else R.BRD_APPLY_LO) → s.mirrorOnly = false →
    Gives (exec (.coefApply acc hi v) s) (fun t => (∀ k < 32, v.toNat / 2 ^ k % 2 = 1 →
      (t.bloop ((if hi then 32 else 0) + k)).apply_ ∧ (t.bloop ((if hi then 32 else 0) + k)).armed ∧
      t.flag (F.BRD_LSTAT_SHDIRTY ((if hi then 32 else 0) + k))) ∧ t.mem = s.mem)) ∧
  (∀ (s : State) (acc : Acc) (n : Fin 64), s.takesWrite acc (R.BRD_LSTAT n) →
    Gives (exec (.oscRelease acc n) s) (fun t => t.flag (F.BRD_LSTAT_OSC n) = false ∧ t.fld (F.BRD_LOSC_COUNT n) = 0 ∧
      t.bloop n = { s.bloop n with revs := [], sign := 0, wide := false, cnt := 0, xfer := (s.bloop n).xfer || s.flag (F.BRD_LSTAT_OSC n) } ∧
      (∀ a, a ≠ R.BRD_LSTAT n → a ≠ R.BRD_LOSC n → t.reg a = s.reg a) ∧ t.mem = s.mem)) ∧
  (∀ (s : State) (acc : Acc) (k : Fin 16) (v : Word), s.takesWrite acc (R.BRD_SWVAL k) → s.mirrorOnly = false →
    Gives (exec (.swValueWrite acc k v) s) (fun t => s.wrote t (R.BRD_SWVAL k) v ∧
      SMap.get (fun _ => none) t.brd.sw k = some (s.now, true) ∧ t.brd.loops = s.brd.loops ∧ t.mem = s.mem)) ∧
  (∀ (s : State) (k : Fin 16) (t0 : Nat), SMap.get (fun _ => none) s.brd.sw k.val = some (t0, true) → s.fld F.BRD_SWTO_TO ≠ 0 →
    t0 + 1000000 * s.fld F.BRD_SWTO_TO ≤ s.now →
    Gives (exec (.swValueTimeout k) s) (fun t => SMap.get (fun _ => none) t.brd.sw k.val = some (t0, false) ∧
      t.brd.loops = s.brd.loops ∧ t.regs = s.regs ∧ t.mem = s.mem)) ∧
  (∀ (s : State) (n : Fin 64) (d : Desc), s.starts n d 4 1 → s.mirrorOnly = false → d.len = 8 →
    (s.firstDenied (engine 14) .read d.addr 8).isNone → fNan d.arg0 = false →
    Gives (exec (.loopManual n) s) (fun t => (∃ k, t.hasDone n d stOK k) ∧
      (∀ k < 64, t.bloop k = (if (leNat (s.bytes d.addr 8)).testBit k then
        { s.bloop k with cmds := (s.bloop k).cmds ++ [(1, d.arg0)] } else s.bloop k)) ∧ t.mem = s.mem)) ∧
  (∀ (s : State) (n : Fin 64) (d : Desc), s.starts n d 4 2 → s.mirrorOnly = false → d.len = 8 →
    (s.firstDenied (engine 14) .read d.addr 8).isNone →
    Gives (exec (.loopAuto n) s) (fun t => (∃ k, t.hasDone n d stOK k) ∧
      (∀ k < 64, t.bloop k = (if (leNat (s.bytes d.addr 8)).testBit k then
        { s.bloop k with cmds := (s.bloop k).cmds ++ [(2, d.arg0)] } else s.bloop k)) ∧ t.mem = s.mem)) ∧
  (∀ (s : State) (n : Fin 64) (d : Desc), s.starts n d 4 3 → s.mirrorOnly = false → d.len = 8 →
    (s.firstDenied (engine 14) .read d.addr 8).isNone →
    Gives (exec (.intSet n) s) (fun t => (∃ k, t.hasDone n d stOK k) ∧
      (∀ k < 64, t.bloop k = (if (leNat (s.bytes d.addr 8)).testBit k then
        { s.bloop k with cmds := (s.bloop k).cmds ++ [(3, d.arg0)] } else s.bloop k)) ∧ t.mem = s.mem))

/-- SOL_CMD_WRITE of a channel that no endpoint or destination holds, on a module not masked, leaves the word, LEVEL as its ON,
and the command cut to I_MAX. SOL_ENABLE leaves SOL_CTL written; EN 1 to 0 leaves every channel OFF, in DECAY or in FAULT;
EN 0 to 1 gives every valid channel its source command cut to I_MAX. TOKEN_GRANT takes the waiting request chosen to BOOST,
or to PEAK without BSTEN. PEAK_SKIP, BOOST_END, BOOST_TO, PEAK_END, HOLD_ENTRY and DECAY_END take a channel from WAIT,
BOOST, BOOST, PEAK, PKDEC, DECAY to HOLD, PEAK or PKDEC, PEAK, PKDEC, HOLD, OFF, the other channels as they were. BAND_EVAL
updates every valid channel by the band rules. BOOST_ENABLE leaves SOL_BSTCFG written and READY by RDY. (R204, R210, R212, R213, R216, R217) -/
def Obligations.SolenoidWaveformCommandsComplete : Prop :=
  (∀ (s : State) (acc : Acc) (n : Fin 64) (v : Word), s.takesWrite acc (R.SOL_CMD (n / 32) (n % 32)) → s.tdmMasked = false →
    (s.sch n).holder = none → s.flag (solF F.SOL_CHSTAT_DEST n) = false → s.solSlave n = false →
    Gives (exec (.solCmdWrite acc n v) s) (fun t =>
      t.reg (R.SOL_CMD (n / 32) (n % 32)) = writtenWord (R.SOL_CMD (n / 32) (n % 32)) (s.locked (R.SOL_CMD (n / 32) (n % 32)))
        (s.reg (R.SOL_CMD (n / 32) (n % 32))) v ∧
      t.flag (solF F.SOL_CHSTAT_LEVEL n) = t.flag (solF F.SOL_CMD_ON n) ∧
      (s.solValid n → t.fld (solF F.SOL_CHCMD_CMD n) = min (t.fld (solF F.SOL_CMD_I n)) (vMax (s.entry 1 n))) ∧
      (t.sch n).kept = none ∧ (t.sch n).dest = none ∧ t.mem = s.mem)) ∧
  (∀ (s : State) (acc : Acc) (d : Fin 2) (v : Word), s.takesWrite acc (R.SOL_CTL d) →
    Gives (exec (.solEnable acc d v) s) (fun t => t.reg (R.SOL_CTL d) = writtenWord (R.SOL_CTL d) (s.locked (R.SOL_CTL d)) (s.reg (R.SOL_CTL d)) v ∧
      (s.flag (F.SOL_CTL_EN d) → t.flag (F.SOL_CTL_EN d) = false → ∀ j < 32, s.solSlave (32 * d + j) = false →
        t.solPhase (32 * d + j) = phOFF ∨ t.solPhase (32 * d + j) = phDECAY ∨ t.solPhase (32 * d + j) = phFAULT) ∧
      (s.flag (F.SOL_CTL_EN d) = false → t.flag (F.SOL_CTL_EN d) → ∀ j < 32, s.solValid (32 * d + j) →
        t.fld (solF F.SOL_CHCMD_CMD (32 * d + j)) = min (s.solSource (32 * d + j)) (vMax (s.entry 1 (32 * d + j)))) ∧ t.mem = s.mem)) ∧
  (∀ (s u : State) (k : Fin 16) (v : BitVec 16) (n : Nat), s.part.hasSol (4 * k) → u = s.boostVolt (k / 4) v.toNat →
    u.bankHolder k = none → u.bankNext k = some n →
    Gives (exec (.tokenGrant k v) s) (fun t => t.solPhase n = (if (s.sch n).wave.bsten then phBOOST else phPEAK) ∧
      (t.sch n).phaseAt = s.now ∧ (∀ m, m ≠ n → t.sch m = s.sch m) ∧ t.mem = s.mem)) ∧
  (∀ (s : State) (n : Fin 64), s.solPhase n = phWAIT → s.solSlave n = false →
    (s.sch n).te + 1000 * s.fld (bankF F.SOL_BANKCFG_DEFER (n / 4)) ≤ s.now →
    Gives (exec (.peakSkip n) s) (fun t => t.solPhase n = phHOLD ∧ (t.sch n).phaseAt = s.now ∧ t.flag (solF F.SOL_CHSTAT_PEAK_SKIP n) ∧
      (∀ m, m ≠ n.val → t.sch m = s.sch m) ∧ t.mem = s.mem)) ∧
  (∀ (s : State) (n : Fin 64), s.solPhase n = phBOOST → s.solSlave n = false →
    Gives (exec (.boostEnd n) s) (fun t => t.solPhase n = (if (s.sch n).wave.tpeak = 0 then phPKDEC else phPEAK) ∧ (t.sch n).phaseAt = s.now ∧
      (∀ m, m ≠ n.val → t.sch m = s.sch m) ∧ t.mem = s.mem)) ∧
  (∀ (s : State) (n : Fin 64), s.solPhase n = phBOOST → s.solSlave n = false →
    (s.sch n).phaseAt + 1000 * (s.sch n).wave.tbmax ≤ s.now →
    Gives (exec (.boostTo n) s) (fun t => t.solPhase n = phPEAK ∧ (t.sch n).phaseAt = s.now ∧ t.flag (solF F.SOL_CHSTAT_BOOST_TO n) ∧
      (∀ m, m ≠ n.val → t.sch m = s.sch m) ∧ t.mem = s.mem)) ∧
  (∀ (s : State) (n : Fin 64), s.solPhase n = phPEAK → s.solSlave n = false →
    (s.sch n).phaseAt + 1000 * (s.sch n).wave.tpeak ≤ s.now →
    Gives (exec (.peakEnd n) s) (fun t => t.solPhase n = phPKDEC ∧ (t.sch n).phaseAt = s.now ∧
      (∀ m, m ≠ n.val → t.sch m = s.sch m) ∧ t.mem = s.mem)) ∧
  (∀ (s : State) (n : Fin 64), s.solPhase n = phPKDEC → s.solSlave n = false →
    Gives (exec (.holdEntry n) s) (fun t => t.solPhase n = phHOLD ∧ (t.sch n).phaseAt = s.now ∧
      (∀ m, m ≠ n.val → t.sch m = s.sch m) ∧ t.mem = s.mem)) ∧
  (∀ (s : State) (n : Fin 64), s.solPhase n = phDECAY → s.solSlave n = false →
    Gives (exec (.decayEnd n) s) (fun t => t.solPhase n = phOFF ∧ (t.sch n).phaseAt = s.now ∧
      (∀ m, m ≠ n.val → t.sch m = s.sch m) ∧ t.mem = s.mem)) ∧
  (∀ (s : State) (d : Fin 2) (temps : List (Fin 8 × BitVec 16)) (currents : List (Fin 32 × BitVec 16)) (volts : List (Fin 2 × BitVec 16)),
    s.part.hasSol (32 * d) → s.due (SMap.get (fun _ => 0) s.sol.bandAt d) 10000000 →
    Gives (exec (.bandEval d temps currents volts) s) (fun t => SMap.get (fun _ => 0) t.sol.bandAt d = s.now / 10000000 * 10000000 ∧
      (∀ (j : Nat) (c : Int), j < 32 → t.solValid (32 * d + j) → t.solTemp (32 * d + j) = some c →
        t.sch (32 * d + j) = { s.sch (32 * d + j) with
          beta := t.bandStep d (vProfile (t.entry 1 (32 * d + j))) c 8 (s.sch (32 * d + j)).beta }) ∧ t.mem = s.mem)) ∧
  (∀ (s : State) (acc : Acc) (b : Fin 4) (v : Word) (w : Word), s.takesWrite acc (R.SOL_BSTCFG (b / 2) (b % 2)) →
    w = writtenWord (R.SOL_BSTCFG (b / 2) (b % 2)) (s.locked (R.SOL_BSTCFG (b / 2) (b % 2))) (s.reg (R.SOL_BSTCFG (b / 2) (b % 2))) (v ||| 1) →
    within 48 120 ((bstF F.SOL_BSTCFG_SETPT b).get w) →
    Gives (exec (.boostEnable acc b v) s) (fun t => t.reg (R.SOL_BSTCFG (b / 2) (b % 2)) = w ∧
      t.flag (bstF F.SOL_BSTSTAT_READY b) = ((bstF F.SOL_BSTCFG_EN b).get w = 1 ∧
        (bstF F.SOL_BSTCFG_RDY b).get w * (bstF F.SOL_BSTCFG_SETPT b).get w * 50 ≤ 100 * s.fld (bstF F.SOL_BSTSTAT_VMEAS b) : Bool) ∧
      t.sol.chs = s.sol.chs ∧ t.mem = s.mem))

/-- SOL_FAULT (SHORT, OT, or OPEN where R220 detects it) of a present channel, for a half the pair, not in FAULT leaves it in
FAULT with its cause. SOL_BANK_FAULT leaves every channel of the bank in FAULT with cause BANK, BANK_SHORT set. SOL_REG_ERR
sets REG_ERR and leaves the phase. SOL_FAULT_RELEASE takes a channel with cause SHORT, OT or OPEN to OFF, and one with BANK
once no other channel of its bank has BANK uncleared. BOOST_UV of an enabled converter sets UV and BST_FAULT;
SOL_BOOST_FAULT sets OV and BST_FAULT, enabled or not, and the converter stops switching. (R204, R220, R221) -/
def Obligations.SolenoidFaultCommandsComplete : Prop :=
  (∀ (s : State) (half : Fin 64) (n : Nat) (cause : Fin 3) (us : BitVec 32), n = s.solUnit half → s.part.hasSol n →
    s.solPhase n ≠ phFAULT → s.cut (n / 32) ≠ 2 →
    (cause.val = 2 → s.solValid n) → (cause.val = 2 → (s.solPhase n = phHOLD ∧ 400 ≤ s.fld (solF F.SOL_CHCMD_CMD n) ∧ 2000 ≤ us.toNat) ∨
      (s.solPhase n = phOFF ∧ vOpenchk (s.entry 1 n) ∧ 10000 ≤ us.toNat ∧ s.offTest 0 n)) →
    Gives (exec (.solFault half cause us) s) (fun t => t.solPhase n = phFAULT ∧
      t.fld (solF F.SOL_CHSTAT_FCAUSE n) = (if cause.val = 2 then 4 else cause.val + 1) ∧
      (∀ m, m ≠ n → t.sch m = s.sch m) ∧ t.mem = s.mem)) ∧
  (∀ (s : State) (k : Fin 16), (∃ n ∈ s.bankMembers k, s.solActive n) → s.cut (k / 8) ≠ 2 →
    Gives (exec (.solBankFault k) s) (fun t => (∀ n ∈ s.bankMembers k, t.solPhase n = phFAULT ∧ t.fld (solF F.SOL_CHSTAT_FCAUSE n) = 3) ∧
      t.flag (bankF F.SOL_BANKSTAT_BANK_SHORT k) ∧ t.mem = s.mem)) ∧
  (∀ (s : State) (n : Fin 64) (err ms : BitVec 16), s.solValid n → s.solPhase n = phHOLD → vRegTol (s.entry 1 n) ≠ 0 →
    vRegTol (s.entry 1 n) < err.toNat → vRegT (s.entry 1 n) ≤ ms.toNat →
    Gives (exec (.solRegErr n err ms) s) (fun t => t.flag (solF F.SOL_CHSTAT_REG_ERR n) ∧ t.solPhase n = phHOLD ∧ t.sol = s.sol ∧ t.mem = s.mem)) ∧
  (∀ (s : State) (acc : Acc) (n : Fin 64), s.takesWrite acc (R.SOL_CHSTAT (n / 32) (n % 32)) → s.solSlave n = false →
    (s.fld (solF F.SOL_CHSTAT_FCAUSE n) = 1 ∨ s.fld (solF F.SOL_CHSTAT_FCAUSE n) = 2 ∨ s.fld (solF F.SOL_CHSTAT_FCAUSE n) = 4 ∨
      (s.fld (solF F.SOL_CHSTAT_FCAUSE n) = 3 ∧ ∀ m ∈ s.bankMembers (n / 4), m ≠ n.val →
        ¬ (s.fld (solF F.SOL_CHSTAT_FCAUSE m) = 3 ∧ s.flag (solF F.SOL_CHSTAT_BANK m)))) →
    Gives (exec (.solFaultRelease acc n) s) (fun t => t.solPhase n = phOFF ∧ t.fld (solF F.SOL_CHSTAT_FCAUSE n) = 0 ∧ t.mem = s.mem)) ∧
  (∀ (s : State) (b : Fin 4) (v ms : BitVec 16), s.part.hasSol (16 * b) → s.flag (bstF F.SOL_BSTCFG_EN b) →
    v.toNat < 40 * s.fld (bstF F.SOL_BSTCFG_SETPT b) → 10 ≤ ms.toNat →
    Gives (exec (.boostUv b v ms) s) (fun t => t.flag (bstF F.SOL_BSTSTAT_UV b) ∧ t.flag (F.SOL_STAT_BST_FAULT (b / 2)) ∧
      t.boostStopped b = false ∧ t.sol.chs = s.sol.chs ∧ t.mem = s.mem)) ∧
  (∀ (s : State) (b : Fin 4) (v : BitVec 16), s.part.hasSol (16 * b) → s.boostStopped b = false →
    min (50 * s.fld (bstF F.SOL_BSTCFG_SETPT b) + 800) 6300 ≤ v.toNat →
    Gives (exec (.solBoostFault b v) s) (fun t => t.flag (bstF F.SOL_BSTSTAT_OV b) ∧ t.flag (F.SOL_STAT_BST_FAULT (b / 2)) ∧
      t.boostStopped b ∧ t.sol.chs = s.sol.chs ∧ t.mem = s.mem))

/-- LSW_CMD_WRITE of a channel that no endpoint or destination holds, on a module not masked, with DUTY at most 10,000, leaves
the word, LEVEL as its ON, and a channel that acts in INRUSH or ON where it was OFF and the level is ON, in OFF where the
level is OFF. LSW_ENABLE 1 to 0 leaves every channel OFF or above RETRY, 0 to 1 starts the channels with LEVEL ON.
INRUSH_END goes ON, or latches OVERLOAD. LSW_FAULT goes to RETRY while retries are left, else to FAULT with its cause.
LSW_RETRY restarts with RETRIES one higher; RETRY_COUNT_CLEAR clears RETRIES. LSW_FAULT_RELEASE goes to OFF. LSW_OPEN_LOAD
sets OPEN. SHED_RETURN_WRITE takes a load off the shed list. (R231, R232, R234, R236, R237, R244) -/
def Obligations.LoadSwitchCommandsComplete : Prop :=
  (∀ (s : State) (acc : Acc) (n : Fin 96) (v w : Word), s.takesWrite acc (R.LSW_CMD (n / 48) (n % 48)) → s.tdmMasked = false →
    (s.lch n).holder = none → s.flag (lswF F.LSW_CHSTAT_DEST n) = false →
    w = writtenWord (R.LSW_CMD (n / 48) (n % 48)) (s.locked (R.LSW_CMD (n / 48) (n % 48))) (s.reg (R.LSW_CMD (n / 48) (n % 48))) v →
    (lswF F.LSW_CMD_DUTY n).get w ≤ 10000 →
    Gives (exec (.lswCmdWrite acc n v) s) (fun t => t.reg (R.LSW_CMD (n / 48) (n % 48)) = w ∧
      t.flag (lswF F.LSW_CHSTAT_LEVEL n) = ((lswF F.LSW_CMD_ON n).get w = 1 : Bool) ∧ (t.lch n).kept = none ∧ (t.lch n).dest = none ∧
      (s.lswDrives n → (lswF F.LSW_CMD_ON n).get w = 1 → s.lswState n = lsOFF →
        t.lswState n = if 0 < hTinr (s.entry 2 n) then lsINRUSH else lsON) ∧
      (s.lswDrives n → (lswF F.LSW_CMD_ON n).get w = 0 → t.lswState n = lsOFF) ∧
      (∀ m, m ≠ n.val → t.lch m = s.lch m) ∧ t.mem = s.mem)) ∧
  (∀ (s : State) (acc : Acc) (d : Fin 2) (v : Word), s.takesWrite acc (R.LSW_CTL d) →
    Gives (exec (.lswEnable acc d v) s) (fun t => t.reg (R.LSW_CTL d) = writtenWord (R.LSW_CTL d) (s.locked (R.LSW_CTL d)) (s.reg (R.LSW_CTL d)) v ∧
      (s.flag (F.LSW_CTL_EN d) → t.flag (F.LSW_CTL_EN d) = false → ∀ j < 48, t.lswState (48 * d + j) = lsOFF ∨ lsFAULT ≤ t.lswState (48 * d + j)) ∧
      (s.flag (F.LSW_CTL_EN d) = false → t.flag (F.LSW_CTL_EN d) → s.cut d = 0 → ∀ j < 48, s.lswValid (48 * d + j) →
        s.hiZ 1 (48 * d + j) = false → s.lswState (48 * d + j) = lsOFF → s.flag (lswF F.LSW_CHSTAT_LEVEL (48 * d + j)) →
        t.lswState (48 * d + j) = if 0 < hTinr (s.entry 2 (48 * d + j)) then lsINRUSH else lsON) ∧ t.mem = s.mem)) ∧
  (∀ (s : State) (n : Fin 96) (limiting : Bool), s.lswState n = lsINRUSH → (s.lch n).startAt + 100000 * (s.lch n).tInr ≤ s.now →
    Gives (exec (.inrushEnd n limiting) s) (fun t => (limiting = false → t.lswState n = lsON ∧ t.lsw = s.lsw) ∧
      (limiting → t.flag (lswF F.LSW_CHSTAT_OVERLOAD n) ∧ (t.lch n).latchAt = s.now ∧
        t.lswState n = if s.fld (lswF F.LSW_CHSTAT_RETRIES n) < (s.lch n).retry then lsRETRY else lsFAULT) ∧
      (∀ m, m ≠ n.val → t.lch m = s.lch m) ∧ t.mem = s.mem)) ∧
  (∀ (s : State) (n : Fin 96) (cause : Fin 3) (us : BitVec 32), s.lswOn n → s.cut (n / 48) ≠ 2 →
    (cause.val = 1 → s.lswState n = lsON ∧ 2000 ≤ us.toNat) →
    Gives (exec (.lswFault n cause us) s) (fun t => (t.lch n).latchAt = s.now ∧
      (s.fld (lswF F.LSW_CHSTAT_RETRIES n) < (s.lch n).retry → t.lswState n = lsRETRY) ∧
      ((s.lch n).retry ≤ s.fld (lswF F.LSW_CHSTAT_RETRIES n) → t.lswState n = lsFAULT ∧ t.fld (lswF F.LSW_CHSTAT_FCAUSE n) = cause.val + 1 ∧
        t.flag (F.LSW_STAT_FAULT (n / 48))) ∧ (∀ m, m ≠ n.val → t.lch m = s.lch m) ∧ t.mem = s.mem)) ∧
  (∀ (s : State) (n : Fin 96), s.lswState n = lsRETRY → (s.lch n).latchAt + 1000000 * (s.lch n).rspace ≤ s.now →
    s.flag (lswF F.LSW_CHSTAT_LEVEL n) →
    Gives (exec (.lswRetry n) s) (fun t => t.lswState n = (if 0 < hTinr (s.entry 2 n) then lsINRUSH else lsON) ∧
      t.fld (lswF F.LSW_CHSTAT_RETRIES n) = (s.fld (lswF F.LSW_CHSTAT_RETRIES n) + 1) % 8 ∧ (t.lch n).startAt = s.now ∧
      (∀ m, m ≠ n.val → t.lch m = s.lch m) ∧ t.mem = s.mem)) ∧
  (∀ (s : State) (n : Fin 96), s.lswOn n → max (s.lch n).startAt (s.lch n).latchAt + 1000000000 ≤ s.now →
    Gives (exec (.retryCountClear n) s) (fun t => t.fld (lswF F.LSW_CHSTAT_RETRIES n) = 0 ∧ t.lswState n = s.lswState n ∧
      (∀ a, a ≠ R.LSW_CHSTAT (n / 48) (n % 48) → t.reg a = s.reg a) ∧ t.lsw = s.lsw ∧ t.mem = s.mem)) ∧
  (∀ (s : State) (acc : Acc) (n : Fin 96), s.takesWrite acc (R.LSW_CHSTAT (n / 48) (n % 48)) →
    within 1 3 (s.fld (lswF F.LSW_CHSTAT_FCAUSE n)) →
    Gives (exec (.lswFaultRelease acc n) s) (fun t => t.lswState n = lsOFF ∧ t.fld (lswF F.LSW_CHSTAT_FCAUSE n) = 0 ∧
      t.fld (lswF F.LSW_CHSTAT_RETRIES n) = 0 ∧ t.lsw = s.lsw ∧ t.mem = s.mem)) ∧
  (∀ (s : State) (n : Fin 96) (ms : BitVec 16), s.lswValid n → 10 ≤ ms.toNat → s.cut (n / 48) ≠ 2 →
    (s.lswOn n ∧ hOlmode (s.lswEntry n) ≠ 0 ∧ 50000 ≤ s.lswOnPhase n) ∨
      (s.lswState n = lsOFF ∧ hOloff (s.lswEntry n) ∧ s.offTest 1 n) →
    Gives (exec (.lswOpenLoad n ms) s) (fun t => t.flag (lswF F.LSW_CHSTAT_OPEN n) ∧ t.lswState n = s.lswState n ∧ t.lsw = s.lsw ∧ t.mem = s.mem)) ∧
  (∀ (s : State) (acc : Acc) (ch : Fin 160),
    (ch.val < 96 → s.takesWrite acc (R.LSW_CHSTAT (ch.val / 48) (ch.val % 48)) → s.lswState ch = lsSHED →
      Gives (exec (.shedReturnWrite acc ch) s) (fun t => ch.val % 48 ∉ t.shedList (ch.val / 48) ∧ t.lswState ch ≠ lsSHED ∧ t.mem = s.mem)) ∧
    (96 ≤ ch.val → s.takesWrite acc (R.SOL_CHSTAT ((ch.val - 96) / 32) ((ch.val - 96) % 32)) → s.solSlave (ch.val - 96) = false →
      (s.sch (ch.val - 96)).shed →
      Gives (exec (.shedReturnWrite acc ch) s) (fun t => 64 + (ch.val - 96) % 32 ∉ t.shedList ((ch.val - 96) / 32) ∧
        (t.sch (ch.val - 96)).shed = false ∧ t.mem = s.mem)))

/-- CLUSTER_THERM_SAMPLE when due stores the temperature; below 140 degrees the stage is 0 and no channel of the cluster stays
in THERM; above 150 degrees stage 0 becomes 1. LSW_GRP_OVL above the limit, no overload running, sets the flag and notes the
instant, and sheds a load where one is on. SHED_STEP a millisecond after sheds one more while the current stays above the
limit, else ends the overload. SHED_RESTORE under its conditions takes the most recently shed load of the group off the
list. LSW_SUPPLY begins a supply fault of the die, with every switch off where the ground is lost or the supply is low, and
every one on in reverse battery (of several faults ground, reverse, low decide in this order, log entry 37), and ends it;
after loss of ground or reverse battery the accepted entries are gone. (R240, R241, R242, R244, R245) -/
def Obligations.LoadGroupCommandsComplete : Prop :=
  (∀ (s : State) (c : Fin 12) (temp : BitVec 16) (currents : List (Fin 8 × BitVec 16)) (volts : List (Fin 4 × BitVec 16)),
    s.part.hasHs (8 * c) → s.due (s.therm c).at_ 250000 → s.cut (c / 6) ≠ 2 →
    Gives (exec (.clusterThermSample c temp currents volts) s) (fun t => t.therm c = ⟨temp.toInt, s.now / 250000 * 250000⟩ ∧
      t.fld (F.LSW_CLSTAT_TEMP (c / 6) (c % 6)) = temp.toNat ∧
      (temp.toInt < 1400 → t.fld (F.LSW_CLSTAT_STAGE (c / 6) (c % 6)) = 0 ∧
        (s.fld (F.LSW_CLSTAT_STAGE (c / 6) (c % 6)) ≠ 0 → ∀ j < 8, t.lswState (8 * c + j) ≠ lsTHERM)) ∧
      (1500 < temp.toInt → s.fld (F.LSW_CLSTAT_STAGE (c / 6) (c % 6)) = 0 → t.fld (F.LSW_CLSTAT_STAGE (c / 6) (c % 6)) = 1 ∧
        t.flag (F.LSW_CLSTAT_CL_HOT (c / 6) (c % 6))) ∧ t.mem = s.mem)) ∧
  (∀ (s : State) (d : Fin 2) (g : Fin 5) (inst mean us : BitVec 16), s.part.hasHs (48 * d) → s.ovl d g = none → s.cut d ≠ 2 →
    s.lswLimit d g < mean.toNat ∨ (g.val < 4 ∧ 400 < inst.toNat ∧ 50 ≤ us.toNat) →
    Gives (exec (.lswGrpOvl d g inst mean us) s) (fun t => t.ovl d g = some s.now ∧
      t.flag (if g.val = 4 then F.LSW_DIESTAT_DIE_OVL d else F.LSW_GRPSTAT_GRP_OVL d g) ∧
      (s.shedable d g ≠ [] → ∃ x ∈ s.shedable d g, t.shedList d = x :: s.shedList d) ∧ t.mem = s.mem)) ∧
  (∀ (s : State) (d : Fin 2) (g : Fin 5) (inst : BitVec 16) (t0 : Nat), s.ovl d g = some t0 → t0 + 1000000 ≤ s.now → s.cut d ≠ 2 →
    Gives (exec (.shedStep d g inst) s) (fun t =>
      (s.lswLimit d g < inst.toNat → t.ovl d g = some s.now ∧ (s.shedable d g ≠ [] → ∃ x ∈ s.shedable d g, t.shedList d = x :: s.shedList d)) ∧
      (inst.toNat ≤ s.lswLimit d g → t.ovl d g = none ∧ t.shedList d = s.shedList d) ∧ t.mem = s.mem)) ∧
  (∀ (s : State) (d : Fin 2) (g : Fin 4) (inst ms : BitVec 16) (x : Nat), s.part.hasHs (48 * d) → s.cut d ≠ 2 → s.flag (F.LSW_GRPCFG_AUTO d g) →
    100 * inst.toNat ≤ s.fld (F.LSW_GRPCFG_RST_PCT d g) * s.fld (F.LSW_GRPCFG_GLIM d g) → s.fld (F.LSW_GRPCFG_RST_T d g) ≤ ms.toNat →
    SMap.get (fun _ => 0) s.lsw.back (4 * d + g) + 1000000 * s.fld (F.LSW_GRPCFG_RST_T d g) ≤ s.now →
    (s.shedList d).find? (fun y => (groupsOf y).contains g.val) = some x → x < 64 ∨ (s.sch (32 * d + (x - 64))).shed →
    Gives (exec (.shedRestore d g inst ms) s) (fun t => x ∉ t.shedList d ∧ SMap.get (fun _ => 0) t.lsw.back (4 * d + g) = s.now ∧ t.mem = s.mem)) ∧
  (∀ (s : State) (d : Fin 2) (kind : Fin 3) (ms : BitVec 16), s.part.hasHs (48 * d) → s.cuts d / 2 ^ kind.val % 2 = 0 →
    Gives (exec (.lswSupply d kind true ms) s) (fun t => t.cuts d = s.cuts d + 2 ^ kind.val ∧ t.flag (F.LSW_STAT_SUPPLY d) ∧
      (kind.val = 0 ∨ (kind.val = 2 ∧ s.cuts d % 4 = 0) → ∀ j < 48, t.lswOn (48 * d + j) = false) ∧
      (kind.val = 1 → s.cuts d % 2 = 0 → ∀ j < 48, s.part.hasHs (48 * d + j) → t.lswState (48 * d + j) = lsON) ∧ t.mem = s.mem)) ∧
  (∀ (s : State) (d : Fin 2) (kind : Fin 3) (ms : BitVec 16), s.part.hasHs (48 * d) → s.cuts d / 2 ^ kind.val % 2 = 1 →
    (kind.val = 2 → 10 ≤ ms.toNat) →
    Gives (exec (.lswSupply d kind false ms) s) (fun t => t.cuts d = s.cuts d - 2 ^ kind.val ∧
      (kind.val < 2 → ∀ j < 48, t.entry 2 (48 * d + j) = []) ∧ t.mem = s.mem))

/-- DEBOUNCED_EDGE of a working input that has differed for DEBOUNCE leaves the debounced level, its stamp, and EDGE where
enabled. DIO_CMD_WRITE of a point no endpoint holds, on a module not masked, leaves ON as given, LEVEL equal to it, and the
output that follows. DIO_FAULT leaves the cause, the flag and the output off. DIO_DIAG_FLAG sets EXTV or OPEN.
DIO_FAULT_RELEASE leaves FCAUSE 0 and, but in reverse battery, the output off. DIO_SUPPLY sets SUPPLY of the cluster, its
outputs off; DIO_SUPPLY_RELEASE clears it. DIO_HOLD leaves the effective safe level. HOLD_RELEASE ends HOLD. Memory stays. (R252, R253, R255, R256, R257) -/
def Obligations.DigitalPointCommandsComplete : Prop :=
  (∀ (s : State) (n : Fin 64) (level : Bool) (us : BitVec 32), s.dioIsIn n →
    (s.fld (F.DIO_INLVL_LEVEL (n / 32)) / 2 ^ (n.val % 32) % 2 = 1 : Bool) ≠ level → dDebounce (s.entry 3 n) ≤ us.toNat →
    Gives (exec (.debouncedEdge n level us) s) (fun t => t.fld (F.DIO_INLVL_LEVEL (n / 32)) / 2 ^ (n.val % 32) % 2 = level.toNat ∧
      t.fld (F.DIO_INTS_TIME (n / 32) (n % 32)) = s.short ∧
      (level && dIrqR (s.entry 3 n) || !level && dIrqF (s.entry 3 n) → t.flag (F.DIO_PTSTAT_EDGE (n / 32) (n % 32))) ∧
      (t.dpt n).edges.head? = some (s.now, level) ∧ (∀ m, m ≠ n.val → t.dpt m = s.dpt m) ∧ t.mem = s.mem)) ∧
  (∀ (s : State) (acc : Acc) (n : Fin 64) (on : Bool), s.takesWrite acc (R.DIO_CMD (n / 32) (n % 32)) → s.tdmMasked = false →
    (s.dpt n).holder = none →
    Gives (exec (.dioCmdWrite acc n on) s) (fun t => t.flag (F.DIO_CMD_ON (n / 32) (n % 32)) = on ∧
      t.flag (F.DIO_PTSTAT_LEVEL (n / 32) (n % 32)) = on ∧ t.fld (F.DIO_OUTLVL_LEVEL (n / 32)) / 2 ^ (n.val % 32) % 2 = (t.dioDrives n).toNat ∧
      (s.dioStill (n / 32) = false → on = false → s.cut (n / 32) ≠ 2 → t.dioDrives n = false) ∧
      (s.dioStill (n / 32) = false → on → s.dioIsOut n → s.flag (F.DIO_CTL_EN (n / 32)) → s.fld (F.DIO_PTSTAT_FCAUSE (n / 32) (n % 32)) = 0 →
        s.dioSupplyBad n = false → s.cut (n / 32) = 0 → s.hiZ 2 n = false → t.dioDrives n) ∧
      (∀ m, m ≠ n.val → t.dpt m = s.dpt m) ∧ t.mem = s.mem)) ∧
  (∀ (s : State) (n : Fin 64) (ot : Bool) (us : BitVec 32), s.dioIsOut n → s.fld (F.DIO_PTSTAT_FCAUSE (n / 32) (n % 32)) = 0 →
    s.cut (n / 32) ≠ 2 → (ot = false → s.dioDrives n ∧ 5000 ≤ us.toNat) →
    Gives (exec (.dioFault n ot us) s) (fun t => t.fld (F.DIO_PTSTAT_FCAUSE (n / 32) (n % 32)) = (if ot then 2 else 1) ∧
      t.flag (if ot then F.DIO_PTSTAT_OT (n / 32) (n % 32) else F.DIO_PTSTAT_OVERLOAD (n / 32) (n % 32)) ∧
      t.fld (F.DIO_OUTLVL_LEVEL (n / 32)) / 2 ^ (n.val % 32) % 2 = 0 ∧ t.dioDrives n = false ∧ t.dio = s.dio ∧ t.mem = s.mem)) ∧
  (∀ (s : State) (n : Fin 64) (extv : Bool) (ms : BitVec 16), s.dioIsOut n → 10 ≤ ms.toNat → s.cut (n / 32) ≠ 2 →
    (if extv then s.dioDrives n = false else s.dioDrives n ∧ dOlchk (s.entry 3 n)) →
    Gives (exec (.dioDiagFlag n extv ms) s) (fun t =>
      t.flag (if extv then F.DIO_PTSTAT_EXTV (n / 32) (n % 32) else F.DIO_PTSTAT_OPEN (n / 32) (n % 32)) ∧
      t.dioDrives n = s.dioDrives n ∧ t.dio = s.dio ∧ t.mem = s.mem)) ∧
  (∀ (s : State) (acc : Acc) (n : Fin 64), s.takesWrite acc (R.DIO_PTSTAT (n / 32) (n % 32)) →
    within 1 2 (s.fld (F.DIO_PTSTAT_FCAUSE (n / 32) (n % 32))) →
    Gives (exec (.dioFaultRelease acc n) s) (fun t => t.fld (F.DIO_PTSTAT_FCAUSE (n / 32) (n % 32)) = 0 ∧ (t.dpt n).off ∧
      (s.cut (n / 32) ≠ 2 → t.dioDrives n = false) ∧ (∀ m, m ≠ n.val → t.dpt m = s.dpt m) ∧ t.mem = s.mem)) ∧
  (∀ (s : State) (c : Fin 8) (ma : BitVec 13) (ms : BitVec 16), s.part.hasDio (8 * c) → s.flag (F.DIO_CTL_EN (c / 4)) →
    s.flag (F.DIO_CLSTAT_SUPPLY (c / 4) (c % 4)) = false → 1 ≤ ms.toNat → s.cut (c / 4) ≠ 2 →
    Gives (exec (.dioSupply c ma ms) s) (fun t => t.flag (F.DIO_CLSTAT_SUPPLY (c / 4) (c % 4)) ∧
      (∀ j < 8, t.dioDrives (8 * c + j) = false) ∧ t.dio = s.dio ∧ t.mem = s.mem)) ∧
  (∀ (s : State) (acc : Acc) (c : Fin 8), s.takesWrite acc (R.DIO_CLSTAT (c / 4) (c % 4)) → s.flag (F.DIO_CLSTAT_SUPPLY (c / 4) (c % 4)) →
    Gives (exec (.dioSupplyRelease acc c) s) (fun t => t.flag (F.DIO_CLSTAT_SUPPLY (c / 4) (c % 4)) = false ∧
      (∀ j < 8, (t.dpt (8 * c + j)).off = false) ∧ t.mem = s.mem)) ∧
  (∀ (s : State) (n : Fin 64), s.dioIsOut n → s.holding (n / 32) → dHlen (s.entry 3 n) → (s.dpt n).ended = false →
    SMap.get (fun _ => 0) s.dio.holdAt (n / 32) + 1000000 * dHoldLim (s.entry 3 n) ≤ s.now →
    Gives (exec (.dioHold n) s) (fun t => t.dpt n = { s.dpt n with holdLvl := s.dioSafe n, ended := true, off := false } ∧
      t.flag (F.DIO_STAT_HOLD_END (n / 32)) ∧ (∀ m, m ≠ n.val → t.dpt m = s.dpt m) ∧ t.mem = s.mem)) ∧
  (∀ (s : State) (acc : Acc) (d : Fin 2) (v : Word), s.takesWrite acc (R.DIO_CTL d) → s.pwr.hb → s.holding d →
    Gives (exec (.holdRelease acc d v) s) (fun t => t.holding d = false ∧
      t.reg (R.DIO_CTL d) = writtenWord (R.DIO_CTL d) (s.locked (R.DIO_CTL d)) (s.reg (R.DIO_CTL d)) (v ||| 0x100) ∧
      (∀ j < 32, (t.dpt (32 * d + j)).off = false ∧ (t.dpt (32 * d + j)).ended = false) ∧ t.mem = s.mem))

/-- AFE_RESULT of a working input, an output period after the last, leaves STATUS by the precedence of Table 11-3 (OPEN,
SUSPECT, HELD or SETTLING, OK), the stamp a group delay back with its error of at most 1 µs, and, with no FIR set and a
known excitation, the code of Table 11-2; else nothing. AFE_OPEN where the comparator trips sets TRIP and OPEN and makes the
conversion suspect. COMPARATOR_CLEAR where it trips no more clears TRIP with a settling restart. AFE_EXC_FAULT switches the
source off, its inputs OPEN. EXC_RESTORE and a changed EXC_CONFIG_WRITE restart settling of the cluster, its source settled
within 1 ms; VSEL 3 reads 0. FIR_WRITE of an unlocked register restarts every input of the set, or makes it NONE with
CONFIG. AFE_ENABLE restarts every input, or makes every result NONE; an AFE that was off forgets its OK codes.
AFE_RESULT_READ returns the result and latches its stamp. (R264, R265, R266, R267, R268, R281) -/
def Obligations.AnalogueCommandsComplete : Prop :=
  (∀ (s : State) (i : Fin 48) (x : BitVec 40) (vexc : BitVec 24) (err : BitVec 7), s.flag F.AFE_CTL_EN → s.ainValid i → s.ainDue i →
    Gives (exec (.afeResult i x vexc err) s) (fun t => let e := s.entry 4 i; let a := s.ain i
      t.fld (F.AFE_RES_STATUS i) = (if (aKind e ≠ 2 ∧ s.excOn (i / 4) = false) ∨ (s.flag (F.AFE_CHSTAT_TRIP i) ∧ (a.tripAt ≤ a.convAt ∨ s.settling i)) then 2
        else if a.suspect then 1
        else if s.settling i then (if aHoldPol e = 0 ∧ a.lastOk.isSome then 4 else 3) else 0) ∧
      (aFir e = 0 → aKind e = 2 ∨ vexc ≠ 0 → s.settling i = false →
        t.fld (F.AFE_RES_CODE i) = toBits 24 (ainCode e x.toInt vexc.toNat)) ∧
      (t.ain i).ts = (((s.now - s.groupDelay i : Nat) : Int) + 20 * clampI (-50) 50 err.toInt).toNat % 2 ^ 32 ∧
      (t.ain i).convAt = s.now ∧ (∀ j, j ≠ i.val → t.ain j = s.ain j))) ∧
  (∀ (s : State) (i : Fin 48) (x : BitVec 40) (vexc : BitVec 24) (err : BitVec 7),
    s.flag F.AFE_CTL_EN = false ∨ s.ainValid i = false ∨ s.ainDue i = false → exec (.afeResult i x vexc err) s = .next s) ∧
  (∀ (s : State) (i : Fin 48) (p n : BitVec 40) (vexc : BitVec 24), s.flag F.AFE_CTL_EN → s.ainValid i → s.flag (F.AFE_CHSTAT_TRIP i) = false →
    ainTrips (s.entry 4 i) p.toInt n.toInt vexc.toNat →
    Gives (exec (.afeOpen (i, p, n, vexc)) s) (fun t => t.flag (F.AFE_CHSTAT_TRIP i) ∧ t.flag (F.AFE_CHSTAT_OPEN i) ∧ t.flag F.AFE_STAT_OPEN ∧
      t.ain i = { s.ain i with tripAt := s.now, suspect := true } ∧ (∀ j, j ≠ i.val → t.ain j = s.ain j) ∧ t.mem = s.mem)) ∧
  (∀ (s : State) (i : Fin 48) (p n : BitVec 40) (vexc : BitVec 24), s.flag (F.AFE_CHSTAT_TRIP i) →
    (s.ainValid i → ainTrips (s.entry 4 i) p.toInt n.toInt vexc.toNat = false) →
    Gives (exec (.comparatorClear (i, p, n, vexc)) s) (fun t => t.flag (F.AFE_CHSTAT_TRIP i) = false ∧ t.ain i = { s.ain i with origin := some s.now } ∧
      (∀ a, a ≠ R.AFE_CHSTAT i → t.reg a = s.reg a) ∧ (∀ j, j ≠ i.val → t.ain j = s.ain j) ∧ t.mem = s.mem)) ∧
  (∀ (s : State) (n : Fin 12) (us : BitVec 32), s.excOn n → 1000 ≤ us.toNat →
    Gives (exec (.afeExcFault n us) s) (fun t => t.flag (F.AFE_EXCSTAT_EXCF n) ∧ t.excOn n = false ∧ t.fld (F.AFE_EXCSTAT_VMEAS n) = 0 ∧
      (∀ k < 4, s.flag F.AFE_CTL_EN → s.ainValid (4 * n + k) → aKind (s.entry 4 (4 * n + k)) ≠ 2 → t.fld (F.AFE_RES_STATUS (4 * n + k)) = 2) ∧
      t.afe = s.afe ∧ t.mem = s.mem)) ∧
  (∀ (s : State) (acc : Acc) (n : Fin 12), s.takesWrite acc (R.AFE_EXCSTAT n) → s.flag (F.AFE_EXCSTAT_EXCF n) →
    Gives (exec (.excRestore acc n) s) (fun t => t.flag (F.AFE_EXCSTAT_EXCF n) = false ∧
      (∃ u, s.now ≤ u ∧ u ≤ s.now + 1000000 ∧ SMap.get (fun _ => 0) t.afe.srcs n.val = u) ∧
      (∀ k < 4, (t.ain (4 * n + k)).origin = some s.now) ∧ t.mem = s.mem)) ∧
  (∀ (s : State) (acc : Acc) (n : Fin 12) (v w : Word), s.takesWrite acc (R.AFE_EXCCFG n) →
    w = writtenWord (R.AFE_EXCCFG n) (s.locked (R.AFE_EXCCFG n)) (s.reg (R.AFE_EXCCFG n)) v →
    Gives (exec (.excConfigWrite acc n v) s) (fun t =>
      t.reg (R.AFE_EXCCFG n) = (if (F.AFE_EXCCFG_VSEL n).get w = 3 then (F.AFE_EXCCFG_VSEL n).put w 0 else w) ∧
      (t.reg (R.AFE_EXCCFG n) ≠ s.reg (R.AFE_EXCCFG n) →
        (∃ u, s.now ≤ u ∧ u ≤ s.now + 1000000 ∧ SMap.get (fun _ => 0) t.afe.srcs n.val = u) ∧ ∀ k < 4, (t.ain (4 * n + k)).origin = some s.now) ∧
      (t.reg (R.AFE_EXCCFG n) = s.reg (R.AFE_EXCCFG n) → t.afe = s.afe) ∧ t.mem = s.mem)) ∧
  (∀ (s : State) (acc : Acc) (f : Fin 3) (tap : Option (Fin 32)) (v : Word) (a : Nat),
    a = (match tap with | none => R.AFE_FIRLEN f | some k => R.AFE_FIR f k) → s.takesWrite acc a → s.locked a = false →
    Gives (exec (.firWrite acc f tap v) s) (fun t => t.reg a = writtenWord a (s.locked a) (s.reg a) v ∧
      (∀ i < 48, if s.hasEntry 4 i ∧ aFir (s.entry 4 i) = f.val + 1 then
          (t.ainValid i → (t.ain i).origin = some s.now) ∧
          (s.ainValid i → t.ainValid i = false → t.fld (F.AFE_RES_STATUS i) = 7 ∧ t.flag (F.AFE_CHSTAT_CONFIG i))
        else t.ain i = s.ain i ∧ t.reg (R.AFE_RES i) = s.reg (R.AFE_RES i)) ∧ t.mem = s.mem)) ∧
  (∀ (s : State) (acc : Acc) (v : Word), s.takesWrite acc R.AFE_CTL →
    Gives (exec (.afeEnable acc v) s) (fun t => t.reg R.AFE_CTL = writtenWord R.AFE_CTL (s.locked R.AFE_CTL) (s.reg R.AFE_CTL) v ∧
      (F.AFE_CTL_EN.get v = 1 → ∀ i < 48, (t.ain i).origin = some s.now ∧
        (t.ain i).lastOk = if s.flag F.AFE_CTL_EN then (s.ain i).lastOk else none) ∧
      (F.AFE_CTL_EN.get v = 0 → ∀ i < 48, t.fld (F.AFE_RES_STATUS i) = 7) ∧ t.mem = s.mem)) ∧
  (∀ (s : State) (acc : Acc) (i : Fin 48), s.takesRead acc (R.AFE_RES i) →
    Gives (exec (.afeResultRead acc i) s) (fun t => t.rdata = s.reg (R.AFE_RES i) ∧ t.reg (R.AFE_TS i) = w32 (s.ain i).ts ∧
      (∀ a, a ≠ R.AFE_TS i → t.reg a = s.reg a) ∧ t.afe = s.afe ∧ t.mem = s.mem))

/-- PULSE_EDGE of a working single input that has lasted its filter leaves LEVEL and, for a counted edge, the count one higher
and its stamp; of a quadrature input, the pair count moved by the direction, or, where both changed at once, no count; of an
input that does not work or before its filter, nothing. ZERO_CROSSING on an enabled input notes the crossing.
PULSE_RATE_UPDATE when due writes the rate of each working input. IMPACT below PMAX counts in PLS_CNT, above it in PLS_AUX.
PLS_OPEN and PLS_OPEN_CLEAR set and clear OPEN_NOW. ZX_OK_CLEAR clears OK. IMU_SAMPLE stores the sample, IMU_SELF_TEST
starts a test, SELF_TEST_END ends it with its flag, IMU_SAMPLE_READ returns IMU_AXY and latches the rest. (R273, R275, R276, R277, R278, R283) -/
def Obligations.PulseAndInertialCommandsComplete : Prop :=
  (∀ (s : State) (n : Fin 24) (level both : Bool) (ts : Word) (u : Nat), u = s.fromShort ts.toNat / 10 * 10 → s.pinOn n →
    u + 10 * pFilt (s.entry 5 n) ≤ s.now → s.flag (F.PLS_CHSTAT_LEVEL n) ≠ level →
    (pMode (s.entry 5 n) = 0 →
      Gives (exec (.pulseEdge n level both ts) s) (fun t => t.flag (F.PLS_CHSTAT_LEVEL n) = level ∧ t.flag (F.PLS_CHSTAT_OPEN_NOW n) = false ∧
        (if (level ∧ pEdge (s.entry 5 n) % 2 = 1) ∨ (level = false ∧ 2 ≤ pEdge (s.entry 5 n)) then
          t.fld (F.PLS_CNT_COUNT n) = (s.fld (F.PLS_CNT_COUNT n) + 1) % 2 ^ 32 ∧ t.fld (F.PLS_TS_TIME n) = u % 2 ^ 32
        else t.reg (R.PLS_CNT n) = s.reg (R.PLS_CNT n) ∧ t.pin n = s.pin n) ∧ t.mem = s.mem)) ∧
    (pMode (s.entry 5 n) = 1 → s.pinOn (n.val ^^^ 1) → both = false →
      Gives (exec (.pulseEdge n level both ts) s) (fun t => t.flag (F.PLS_CHSTAT_LEVEL n) = level ∧
        t.fldInt (F.PLS_CNT_COUNT (n.val / 2 * 2)) = sext 32 (toBits 32 (s.fldInt (F.PLS_CNT_COUNT (n.val / 2 * 2)) +
          quadDir (s.flag (F.PLS_CHSTAT_LEVEL (n.val / 2 * 2))) (s.flag (F.PLS_CHSTAT_LEVEL (n.val / 2 * 2 + 1)))
            (t.flag (F.PLS_CHSTAT_LEVEL (n.val / 2 * 2))) (t.flag (F.PLS_CHSTAT_LEVEL (n.val / 2 * 2 + 1))))) ∧
        t.reg (R.PLS_CNT (n.val / 2 * 2 + 1)) = t.reg (R.PLS_CNT (n.val / 2 * 2)) ∧ t.mem = s.mem)) ∧
    (pMode (s.entry 5 n) = 1 → s.pinOn (n.val ^^^ 1) → both →
      Gives (exec (.pulseEdge n level both ts) s) (fun t => t.flag (F.PLS_CHSTAT_LEVEL n) = level ∧
        (∀ m < 24, t.reg (R.PLS_CNT m) = s.reg (R.PLS_CNT m)) ∧ t.mem = s.mem))) ∧
  (∀ (s : State) (n : Fin 24) (level both : Bool) (ts : Word),
    s.pinOn n = false ∨ s.now < s.fromShort ts.toNat / 10 * 10 + 10 * pFilt (s.entry 5 n) → exec (.pulseEdge n level both ts) s = .next s) ∧
  (∀ (s : State) (z : Fin 2) (ts : Word), s.flag (F.PLS_ZXCFG_EN z) →
    Gives (exec (.zeroCrossing z ts) s) (fun t => (t.zx z).last = some (s.fromShort ts.toNat) ∧
      t.fld (F.PLS_ZXTS_TIME z) = s.fromShort ts.toNat % 2 ^ 32 ∧
      (∀ l, (s.zx z).last = some l → t.fld (F.PLS_ZXSTAT_PERIOD z) = min ((s.fromShort ts.toNat - l) / 100) (2 ^ 24 - 1)) ∧ t.mem = s.mem)) ∧
  (∀ s : State, s.due s.afe.rateAt 1000000 →
    Gives (exec .pulseRateUpdate s) (fun t => t.afe.rateAt = (s.afe.rateAt / 1000000 + 1) * 1000000 ∧
      (∀ n < 24, s.pinOn n → ¬ (pMode (s.entry 5 n) = 1 ∧ n % 2 = 1) →
        t.fld (F.PLS_RATE_RATE n) = toBits 32 (s.pinRate n ((s.afe.rateAt / 1000000 + 1) * 1000000))))) ∧
  (∀ (s : State) (n : Fin 24) (peak : BitVec 10) (ts : Word), s.pinOn n → pMode (s.entry 5 n) = 2 → field (s.entry 5 n) 14 2 < peak.toNat →
    (s.pin n).dead ≤ s.fromShort ts.toNat →
    Gives (exec (.plsImpact n peak ts) s) (fun t => t.fld (F.PLS_CHSTAT_PEAK n) = peak.toNat ∧
      (t.pin n).dead = s.now + 1000 * field (s.entry 5 n) 18 2 ∧
      (if peak.toNat ≤ field (s.entry 5 n) 16 2 then
        t.fld (F.PLS_CNT_COUNT n) = (s.fld (F.PLS_CNT_COUNT n) + 1) % 2 ^ 32 ∧ t.fld (F.PLS_AUX_COUNT n) = s.fld (F.PLS_AUX_COUNT n)
      else t.fld (F.PLS_AUX_COUNT n) = (s.fld (F.PLS_AUX_COUNT n) + 1) % 2 ^ 32 ∧ t.fld (F.PLS_CNT_COUNT n) = s.fld (F.PLS_CNT_COUNT n)) ∧
      (∀ m, m ≠ n.val → t.pin m = s.pin m) ∧ t.mem = s.mem)) ∧
  (∀ (s : State) (n : Fin 24) (ms : BitVec 16), s.pinOn n → pOpenChk (s.entry 5 n) → pOpenT (s.entry 5 n) ≤ ms.toNat →
    s.flag (F.PLS_CHSTAT_OPEN_NOW n) = false →
    Gives (exec (.plsOpen n ms) s) (fun t => t.flag (F.PLS_CHSTAT_OPEN_NOW n) ∧ t.flag (F.PLS_CHSTAT_OPEN n) ∧ t.afe = s.afe ∧ t.mem = s.mem)) ∧
  (∀ (s : State) (n : Fin 24) (ms : BitVec 16), s.pinOn n = false ∨ pOpenChk (s.entry 5 n) = false ∨ pOpenT (s.entry 5 n) ≤ ms.toNat →
    Gives (exec (.plsOpenClear n ms) s) (fun t => t.flag (F.PLS_CHSTAT_OPEN_NOW n) = false ∧
      (∀ a, a ≠ R.PLS_CHSTAT n → t.reg a = s.reg a) ∧ t.afe = s.afe ∧ t.mem = s.mem)) ∧
  (∀ (s : State) (z : Fin 2), s.flag (F.PLS_ZXCFG_EN z) = false ∨ (∀ l, (s.zx z).last = some l → l + 50000000 ≤ s.now) →
    Gives (exec (.zxOkClear z) s) (fun t => t.flag (F.PLS_ZXSTAT_OK z) = false ∧ (t.zx z).good = 0 ∧ t.mem = s.mem)) ∧
  (∀ (s : State) (ax ay az gx gy gz temp : BitVec 16) (ts : Word), s.flag F.IMU_CTL_EN →
    Gives (exec (.imuSample ax ay az gx gy gz temp ts) s) (fun t => t.reg R.IMU_AXY = w32 (ay.toNat * 65536 + ax.toNat) ∧
      t.afe = { s.afe with imu := [ax.toNat, ay.toNat, az.toNat, gx.toNat, gy.toNat, gz.toNat, temp.toNat, ts.toNat] })) ∧
  (∀ (s : State) (acc : Acc), s.takesWrite acc R.IMU_CTL → s.flag F.IMU_CTL_ST = false →
    Gives (exec (.imuSelfTest acc) s) (fun t => t.flag F.IMU_CTL_ST ∧ t.afe = { s.afe with selfTest := some s.now } ∧ t.mem = s.mem)) ∧
  (∀ (s : State) (pass : Bool) (u : Nat), s.afe.selfTest = some u → u + 50000000 ≤ s.now →
    Gives (exec (.selfTestEnd pass) s) (fun t => t.flag F.IMU_CTL_ST = false ∧ t.flag (if pass then F.IMU_STAT_ST_PASS else F.IMU_STAT_ST_FAIL) ∧
      t.afe = { s.afe with selfTest := none } ∧ t.mem = s.mem)) ∧
  (∀ (s : State) (acc : Acc), s.takesRead acc R.IMU_AXY →
    Gives (exec (.imuSampleRead acc) s) (fun t => t.rdata = s.reg R.IMU_AXY ∧ t.reg R.IMU_TS = w32 (s.afe.imu.getD 7 0) ∧
      t.reg R.IMU_GZ = w32 (s.afe.imu.getD 5 0) ∧ t.afe = s.afe ∧ t.mem = s.mem))

/-- SAMPLES completes OK, or 0x80 where a record overran, with the records accepted as RESULT. SRC_LOAD of a permitted range
completes OK; each whole entry waits for the next epoch, or with EN 0 is in force. GEOM_LOAD without NaN or infinity waits
and completes OK. FIELD_SET waits for the epoch with its descriptor. WVE_EPOCH takes the waiting geometry and fields, leaves
no sample at or before its instant, counts itself, and leaves the solution states, NOMAJ and SRCIN in their registers.
WVE_SRC_STATE leaves the state of Table 12-9. TRACK_COAST_EXPIRY frees the track. OUTPUT_FLUSH_TIMEOUT completes the buffer
with the bytes written. (R286, R287, R294, R298, R302, R304, R307, R309, R311) -/
def Obligations.WeaveCommandsComplete : Prop :=
  (∀ (s : State) (n : Fin 64) (d : Desc), s.starts n d 5 1 → d.len ≠ 0 → (s.firstDenied (engine 15) .read d.addr d.len).isNone →
    Gives (exec (.wveSamples n) s) (fun t =>
      t.hasDone n d (if ((s.startDesc n d).sampBlock (s.bytes d.addr d.len) 0 d.len).2.1 then 0x80 else stOK)
        ((s.startDesc n d).sampBlock (s.bytes d.addr d.len) 0 d.len).1)) ∧
  (∀ (s : State) (n : Fin 64) (d : Desc), s.starts n d 5 2 → 0 < d.arg1 → d.arg0 + d.arg1 ≤ 32 → d.len = 64 * d.arg1 →
    (s.firstDenied (engine 15) .read d.addr d.len).isNone →
    Gives (exec (.srcLoad n) s) (fun t => t.hasDone n d stOK 0 ∧ ∀ i < d.arg1, let e := s.bytes (d.addr + 64 * i) 64
      field e 0 2 = field e 62 2 →
        (s.flag F.WVE_CTL_EN → (t.src (d.arg0 + i)).next = some e ∧ (t.src (d.arg0 + i)).entry = (s.src (d.arg0 + i)).entry) ∧
        (s.flag F.WVE_CTL_EN = false → (t.src (d.arg0 + i)).entry = e ∧ (t.src (d.arg0 + i)).next = none))) ∧
  (∀ (s : State) (n : Fin 64) (d : Desc), s.starts n d 5 3 → d.len = 1280 → (s.firstDenied (engine 15) .read d.addr 1280).isNone →
    (∀ o ∈ geomFloats, f32Special (field (s.bytes d.addr 1280) o 4) = false) →
    Gives (exec (.geomLoad n) s) (fun t => t.hasDone n d stOK 0 ∧ t.wve = { s.wve with geomNext := some (s.bytes d.addr 1280) } ∧ t.mem = s.mem)) ∧
  (∀ (s : State) (n : Fin 64) (d : Desc), s.starts n d 5 4 → d.len = 32 → (s.firstDenied (engine 15) .read d.addr 32).isNone →
    Gives (exec (.fieldSet n) s) (fun t => t.hasStarted n d ∧
      t.wve = { s.wve with fieldNext := s.wve.fieldNext ++ [(n.val, d.didx, s.bytes d.addr 32)] } ∧ t.mem = s.mem)) ∧
  (∀ (s : State) (t0 : Nat), s.flag F.WVE_CTL_EN → s.nextEpoch = some t0 →
    Gives (exec .wveEpoch s) (fun t => t.wve.epochAt = t0 ∧ t.wve.epochs = s.wve.epochs + 1 ∧ t.wve.machine.inst = t0 ∧
      (∀ p ∈ t.wve.inbox, t0 < p.inst) ∧ t.wve.fieldNext = [] ∧ t.wve.geomNext = none ∧
      t.fld F.WVE_SOL_MSTATE = t.wve.machine.state ∧ t.fld F.WVE_SOL_ISTATE = t.wve.implement.state ∧
      t.flag F.WVE_SOL_NOMAJ = t.wve.machine.nomaj ∧ t.fld F.WVE_SOLIN_SRCIN = t.wve.machine.srcin)) ∧
  (∀ (s : State) (x : Fin 32), Gives (exec (.wveSrcState x) s) (fun t => t.fld (F.WVE_SRCSTAT_STATE x) = s.srcState x ∧
      (s.fld (F.WVE_SRCSTAT_STATE x) ≠ s.srcState x → t.flag F.WVE_STAT_SRC_CHG) ∧ t.wve.srcs = s.wve.srcs)) ∧
  (∀ (s : State) (x : Fin 256) (k : Trk), s.trk x = some k → k.state = 2 → k.hitAt + 1000000 * s.fld F.WVE_TRKCOAST_T ≤ s.now →
    Gives (exec (.trackCoastExpiry x) s) (fun t => t.trk x = none ∧ ∀ y, y ≠ x.val → t.trk y = s.trk y)) ∧
  (∀ (s : State) (n : Fin 64) (b : OutBuf) (ns : Nat), s.outBuf n = some b → s.flushNs (s.fld (F.RNG_CFG_QUEUE n)) = some ns → b.used ≠ 0 →
    b.since + ns ≤ s.now →
    Gives (exec (.outputFlushTimeout n) s) (fun t => t.outBuf n = none ∧
      (∀ e ∈ (s.ring n).inflight, e.desc.didx = b.didx → e.res = none → t.hasDone n e.desc stOK b.used) ∧ t.regs = s.regs ∧ t.mem = s.mem))

/-- GNSS_EPOCH when due takes the next instant of RATE, the signals enabled, the correlator spacing, CLKOFF, and SOL.INJ by the
injection in force; without HDGEN HFIXED reads 0. RESTART_COLD drops channels, waiting signals and jobs; WARM and HOT keep
them. ACQUISITION_FOUND of a signal that can have a channel ends the job, and the signal has a channel or waits. LOST_LOCK
of a channel in lock leaves it in pull-in with SLIP and a reacquisition job. NAV_RECORD of 1 to 40 words writes its record
to the open buffer, or counts a drop with no ring; other lengths are ill-formed. INJECTION accepts the set of a known later
epoch with QUAL 3 or 4, else sets INJ_REJ. GNS_INJ_STALE marks the injections stale. (R318, R319, R322, R323, R325, R326) -/
def Obligations.GnssReceiverCommandsComplete : Prop :=
  (∀ (s : State) (obs : List GObs) (time : GTime) (sol : Option GSol) (hdg : Option GHdg) (per : Nat), s.flag F.GNS_CTL_EN →
    s.gnsPeriod = some per → s.due s.gns.epochAt per →
    Gives (exec (.gnssEpoch obs time sol hdg) s) (fun t => t.gns.epochAt = (s.gns.epochAt / per + 1) * per ∧
      t.gns.sigen = s.fld F.GNS_SIGEN_SIG ∧ t.gns.spacing = s.fld F.GNS_CORR_SP ∧ t.gns.notchChg = [] ∧
      t.gns.epochs.head?.map (·.1) = some ((s.gns.epochAt / per + 1) * per) ∧
      t.reg64 R.GNS_CLKOFF_LO R.GNS_CLKOFF_HI = time.clkoff.toNat ∧
      t.flag F.GNS_SOL_INJ = (s.fld F.GNS_INJCFG_MODE = 1 && !s.gns.stale && s.gns.injEpoch.isSome) ∧
      (s.flag F.GNS_CTL_HDGEN = false → t.flag F.GNS_SOL_HFIXED = false))) ∧
  (∀ (s : State) (acc : Acc), s.takesWrite acc R.GNS_ACQCMD →
    Gives (exec (.restartCold acc) s) (fun t => t.gns = { s.gns with chans := [], waiting := [], jobs := [] } ∧ t.mem = s.mem)) ∧
  (∀ (s : State) (acc : Acc), s.takesWrite acc R.GNS_ACQCMD → Gives (exec (.restartWarm acc) s) (fun t => t.gns = s.gns ∧ t.mem = s.mem)) ∧
  (∀ (s : State) (acc : Acc), s.takesWrite acc R.GNS_ACQCMD → Gives (exec (.restartHot acc) s) (fun t => t.gns = s.gns ∧ t.mem = s.mem)) ∧
  (∀ (s : State) (ant : Fin 2) (sig : Fin 15) (svid : BitVec 8), s.flag F.GNS_CTL_EN → (s.needClass ant sig).isSome → s.antOk ant →
    Gives (exec (.acquisitionFound ant sig svid) s) (fun t => s.now ∈ t.gns.found ∧
      (∀ j ∈ t.gns.jobs, ¬ (j.1 = ant.val ∧ j.2.1 = sig.val ∧ j.2.2.1 = svid.toNat)) ∧
      ((∃ c < 256, ∃ x, t.chan c = some x ∧ x.ant = ant.val ∧ x.sig = sig.val ∧ x.svid = svid.toNat) ∨
        (ant.val, sig.val, svid.toNat) ∈ t.gns.waiting) ∧ t.mem = s.mem)) ∧
  (∀ (s : State) (c : Fin 256) (x : Chan), s.chan c = some x → 2 ≤ x.state →
    Gives (exec (.lostLock c) s) (fun t => t.chan c = some { x with state := 1, slip := true } ∧
      t.gns.jobs = s.gns.jobs ++ [(x.ant, x.sig, x.svid, s.now + 10000000000)] ∧ (∀ k, k ≠ c.val → t.chan k = s.chan k) ∧ t.mem = s.mem)) ∧
  (∀ (s : State) (sig : Fin 15) (svid : BitVec 8) (l : List Word),
    (l.length = 0 ∨ 40 < l.length → exec (.navRecord sig svid l) s = .fault (.illFormed "NAV_RECORD")) ∧
    (1 ≤ l.length → l.length ≤ 40 → s.flag F.GNS_CTL_EN →
      Gives (exec (.navRecord sig svid l) s) (fun t => t.gns = s.gns ∧
        (s.ringOf 0x0B = none → t.fld F.GNS_DROPCNT_COUNT = min (s.fld F.GNS_DROPCNT_COUNT + 1) (2 ^ 32 - 1) ∧ t.mem = s.mem) ∧
        ∀ n : Nat, s.ringOf 0x0B = some n → ∀ b : OutBuf, s.outBuf n = some b → b.used + (8 + 4 * l.length) ≤ b.len →
          (s.firstDenied (engine 22) .write (b.addr + b.used) (8 + 4 * l.length)).isNone →
          t.mem = (s.setBytes (b.addr + b.used) (leBytes 1 5 ++ leBytes 1 sig ++ leBytes 1 svid.toNat ++ leBytes 1 l.length ++
            leBytes 4 s.short ++ l.flatMap (fun w => leBytes 4 w.toNat))).mem ∧ t.regs = s.regs))) ∧
  (∀ (s u : State) (acc : Acc) (v : Word), s.takesWrite acc R.GNS_INJ_CTL → s.fld F.GNS_INJCFG_MODE = 1 →
    u = s.writePlain R.GNS_INJ_CTL (v ||| 0x80000000) →
    (∀ e, s.gns.epochs.find? (fun e => e.1 % 2 ^ 32 = s.fld F.GNS_INJ_EPOCH_EPOCH) = some e → (∀ last, s.gns.injEpoch = some last → last < e.1) →
      u.fld F.GNS_INJ_CTL_QUAL = 3 ∨ u.fld F.GNS_INJ_CTL_QUAL = 4 →
      Gives (exec (.gnsInjection acc v) s) (fun t => t.gns.injEpoch = some e.1 ∧ t.gns.injAt = s.now)) ∧
    (s.gns.epochs.find? (fun e => e.1 % 2 ^ 32 = s.fld F.GNS_INJ_EPOCH_EPOCH) = none →
      Gives (exec (.gnsInjection acc v) s) (fun t => t.flag F.GNS_STAT_INJ_REJ ∧ t.gns = s.gns ∧ t.mem = s.mem))) ∧
  (∀ s : State, s.flag F.GNS_CTL_EN → s.fld F.GNS_INJCFG_MODE = 1 → s.gns.stale = false → s.fld F.GNS_INJCFG_TO ≠ 0 →
    s.gns.injAt + 1000000 * s.fld F.GNS_INJCFG_TO ≤ s.now →
    Gives (exec .gnsInjStale s) (fun t => t.gns = { s.gns with stale := true } ∧ t.flag F.GNS_SOL_INJ = false ∧ t.flag F.GNS_STAT_INJ_STALE ∧
      t.mem = s.mem))

/-- NOTCH_MOVE of an enabled AUTO filter leaves its offset at the tone; of a waiting write at or past its millisecond boundary
puts it in force, with NOTCHCHG where it changes the filter. GNS_JAM leaves JI and the gain; JI at or above JTH for a second
sets JAM. GNS_ANT below 2 mA for 100 ms leaves OPEN, at or above the limit for 1 ms SHORT with no current, else OK.
ANT_RETRY a second after tries the supply again: OK, or shorted once more. (R327, R328, R329) -/
def Obligations.GnssFrontEndCommandsComplete : Prop :=
  (∀ (s : State) (a : Fin 2) (b : Fin 3) (f : Fin 4) (tone : BitVec 16),
    (s.flag (F.GRF_NOTCH_AUTO a b f) → s.flag (F.GRF_NOTCH_EN a b f) → s.flag F.GRF_CTL_EN →
      Gives (exec (.notchMove a b f tone) s) (fun t => t.fldInt (F.GRF_NOTCH_FOFF a b f) = tone.toInt ∧
        (∀ r, r ≠ R.GRF_NOTCH a b f → t.reg r = s.reg r) ∧ t.mem = s.mem)) ∧
    (∀ p, s.flag (F.GRF_NOTCH_AUTO a b f) = false → s.gns.notchNext.find? (fun p => p.1 = 12 * a.val + 4 * b.val + f.val) = some p →
      (p.2 / 1000000 + 1) * 1000000 ≤ s.now →
      Gives (exec (.notchMove a b f tone) s) (fun t => (∀ q ∈ t.gns.notchNext, q.1 ≠ 12 * a.val + 4 * b.val + f.val) ∧
        SMap.get (fun _ => 0) t.gns.notchOn (12 * a.val + 4 * b.val + f.val) = (s.reg (R.GRF_NOTCH a b f)).toNat ∧
        (SMap.get (fun _ => 0) s.gns.notchOn (12 * a.val + 4 * b.val + f.val) ≠ (s.reg (R.GRF_NOTCH a b f)).toNat →
          3 * a.val + b.val ∈ t.gns.notchChg) ∧ t.regs = s.regs ∧ t.mem = s.mem))) ∧
  (∀ (s : State) (a : Fin 2) (b : Fin 3) (power : BitVec 16) (agc : BitVec 8), s.flag F.GRF_CTL_EN →
    Gives (exec (.gnsJam a b power agc) s) (fun t => t.fld (F.GRF_JAM_JI a b) = min 255 ((4 * power.toNat + 50) / 100) ∧
      t.fld (F.GRF_JAM_AGC a b) = agc.toNat ∧
      (∀ t0, SMap.get (fun _ => none) s.gns.jam (3 * a.val + b.val) = some (t0, false) → t0 + 1000000000 ≤ s.now →
        s.fld (F.GRF_JAM_JTH a b) ≠ 0 → s.fld (F.GRF_JAM_JTH a b) ≤ min 255 ((4 * power.toNat + 50) / 100) →
        t.flag (F.GRF_JAM_JAM a b) ∧ t.flag F.GRF_STAT_JAM) ∧ t.mem = s.mem)) ∧
  (∀ (s : State) (a : Fin 2) (cur : BitVec 12) (ms : BitVec 16), s.flag (F.GRF_ANTCFG_EN a) → s.fld (F.GRF_ANTSTAT_STATE a) ≠ 3 →
    (cur.toNat < 20 → 100 ≤ ms.toNat →
      Gives (exec (.gnsAnt a cur ms) s) (fun t => t.fld (F.GRF_ANTSTAT_STATE a) = 1 ∧ t.mem = s.mem)) ∧
    (20 ≤ cur.toNat → ilim (s.fld (F.GRF_ANTCFG_ILIM a)) ≤ cur.toNat → 1 ≤ ms.toNat →
      Gives (exec (.gnsAnt a cur ms) s) (fun t => t.fld (F.GRF_ANTSTAT_STATE a) = 3 ∧ t.fld (F.GRF_ANTSTAT_IMEAS a) = 0 ∧
        t.flag (F.GRF_ANTSTAT_SHORT a) ∧ SMap.get (fun _ => none) t.gns.shorts a = some s.now ∧ t.mem = s.mem)) ∧
    (20 ≤ cur.toNat → cur.toNat < ilim (s.fld (F.GRF_ANTCFG_ILIM a)) →
      Gives (exec (.gnsAnt a cur ms) s) (fun t => t.fld (F.GRF_ANTSTAT_STATE a) = 2 ∧ t.fld (F.GRF_ANTSTAT_IMEAS a) = cur.toNat ∧
        t.gns = s.gns ∧ t.mem = s.mem))) ∧
  (∀ (s : State) (a : Fin 2) (cur : BitVec 12) (t0 : Nat), SMap.get (fun _ => none) s.gns.shorts a.val = some t0 → s.flag (F.GRF_ANTCFG_EN a) →
    t0 + 1000000000 ≤ s.now →
    Gives (exec (.antRetry a cur) s) (fun t =>
      (cur.toNat < ilim (s.fld (F.GRF_ANTCFG_ILIM a)) → SMap.get (fun _ => none) t.gns.shorts a.val = none ∧ t.fld (F.GRF_ANTSTAT_STATE a) = 2 ∧
        t.fld (F.GRF_ANTSTAT_IMEAS a) = cur.toNat) ∧
      (ilim (s.fld (F.GRF_ANTCFG_ILIM a)) ≤ cur.toNat → SMap.get (fun _ => none) t.gns.shorts a.val = some s.now ∧
        t.fld (F.GRF_ANTSTAT_STATE a) = 3 ∧ t.fld (F.GRF_ANTSTAT_IMEAS a) = 0 ∧ t.flag (F.GRF_ANTSTAT_SHORT a)) ∧ t.mem = s.mem))

/-- SERVO_MEASUREMENT of the input in use leaves FREE for LOCKING with RT at the measured time; the first offset after a return
beyond STEPTH, with STEPEN and no other valid input before it, waits as a step at the next whole second, else beyond LOCKTH
it slews for the time it takes at SLEW; after that in LOCKING the tenth offset in a row within LOCKTH gives LOCKED, one
outside restarts the count; in LOCKED one beyond ten times LOCKTH gives LOCKING. PTP_OFFSET takes a set at most 2 s old,
else sets PTP_REJ; PTP_TIMEOUT drops it. TIME_STEP moves OFS by the offset. HOLDOVER_EXPIRY leaves UNTRUSTED. TIME_SET in
FREE sets RT and leaves LOCKING, HOLDOVER or UNTRUSTED, else sets CONFIG. UTC_CHANGE takes NEXT. TP_CONFIG_APPLY puts a
valid configuration in force. TIME_PULSE starts or ends a pulse, unless a step is due first. MTB_READ returns MTB and
latches the rest. SERVO_ENABLE leaves EN. (R337, R338, R339, R340, R341, R342, R343, R344, R345, R346) -/
def Obligations.TimeCommandsComplete : Prop :=
  (∀ (s u : State) (src : Fin 4) (link : BitVec 64) (d : Int) (t0 : Nat), u = s.timInputs → u.tim.src = src.val → src.val ≠ 0 →
    s.flag F.TIM_CTL_EN → u.timOffset src link.toInt = some (d, t0) → u.tim.step = none →
    (u.timeFree → Gives (exec (.servoMeasurement src link) s) (fun t => t.fld F.TIM_STATE_STATE = 1 ∧ t.rt = (d + ((s.now - t0 : Nat) : Int)).toNat ∧
      t.flag F.TIM_STAT_STEP)) ∧
    (u.timeFree = false → u.tim.stepAt ≤ t0 → u.tim.first →
      Gives (exec (.servoMeasurement src link) s) (fun t => t.tim.ofs = s.tim.ofs ∧ t.tim.first = false ∧
        (u.fld F.TIM_STEPTH_STEPTH * 1000 < d.natAbs → u.flag F.TIM_CTL_STEPEN → u.tim.noStep = false →
          t.tim.step = some (d, u.rt / 1000000000 + 1) ∧ t.fld F.TIM_STATE_STATE = u.fld F.TIM_STATE_STATE) ∧
        (d.natAbs ≤ u.fld F.TIM_STEPTH_STEPTH * 1000 ∨ u.flag F.TIM_CTL_STEPEN = false ∨ u.tim.noStep → t.tim.step = none ∧
          (u.fld F.TIM_SERVO_LOCKTH < d.natAbs → t.tim.slew = (if d < 0 then -u.slewRate else u.slewRate) ∧
            t.tim.slewEnd = s.now + d.natAbs * 1000000 / max 1 (u.fld F.TIM_SLEW_SLEW))))) ∧
    (u.timeFree = false → u.tim.stepAt ≤ t0 → u.tim.first = false →
      Gives (exec (.servoMeasurement src link) s) (fun t =>
        (d.natAbs ≤ u.fld F.TIM_SERVO_LOCKTH → t.tim.slew = 0) ∧ t.tim.ofs = s.tim.ofs ∧
        (u.fld F.TIM_STATE_STATE = 1 → d.natAbs ≤ u.fld F.TIM_SERVO_LOCKTH → u.tim.inLock = 9 → t.fld F.TIM_STATE_STATE = 2 ∧ t.flag F.TIM_STAT_LOCKED) ∧
        (u.fld F.TIM_STATE_STATE = 1 → d.natAbs ≤ u.fld F.TIM_SERVO_LOCKTH → u.tim.inLock ≠ 9 → t.tim.inLock = u.tim.inLock + 1 ∧ t.fld F.TIM_STATE_STATE = 1) ∧
        (u.fld F.TIM_STATE_STATE = 1 → u.fld F.TIM_SERVO_LOCKTH < d.natAbs → t.tim.inLock = 0 ∧ t.fld F.TIM_STATE_STATE = 1) ∧
        (u.fld F.TIM_STATE_STATE = 2 → 10 * u.fld F.TIM_SERVO_LOCKTH < d.natAbs → t.fld F.TIM_STATE_STATE = 1)))) ∧
  (∀ (s : State) (acc : Acc) (v : Word), s.takesWrite acc R.TIM_PTPINST →
    (0 ≤ sdiff32 s.short v.toNat → sdiff32 s.short v.toNat ≤ 2000000000 →
      Gives (exec (.ptpOffset acc v) s) (fun t => t.reg R.TIM_PTPINST = v ∧ t.tim.ptpAt = some s.now ∧ t.tim.ptpFresh)) ∧
    (sdiff32 s.short v.toNat < 0 ∨ 2000000000 < sdiff32 s.short v.toNat →
      Gives (exec (.ptpOffset acc v) s) (fun t => t.flag F.TIM_STAT_PTP_REJ ∧ t.tim = s.tim ∧ t.mem = s.mem))) ∧
  (∀ (s : State) (t0 : Nat), s.tim.ptpAt = some t0 → t0 + 1000000 * s.fld F.TIM_PTPCFG_PTPTO < s.now →
    Gives (exec .ptpTimeout s) (fun t => t.tim.ptpAt = none ∧ t.timValid 2 = false)) ∧
  (∀ (s : State) (d : Int) (sec : Nat), s.tim.step = some (d, sec) → s.timeFree = false → sec * 1000000000 ≤ s.rt →
    Gives (exec .timeStep s) (fun t => t.tim.ofs = s.tim.ofs + d * 2 ^ 40 ∧ t.tim.step = none ∧ t.tim.stepAt = s.now ∧ t.flag F.TIM_STAT_STEP)) ∧
  (∀ s : State, s.fld F.TIM_STATE_STATE = 3 → s.errLim < s.timErr ∨ s.tim.holdAt + 1000000000 * s.fld F.TIM_HOLD_HOLD_LIM ≤ s.now →
    Gives (exec .holdoverExpiry s) (fun t => t.fld F.TIM_STATE_STATE = 4 ∧ t.flag F.TIM_STAT_UNTRUSTED ∧ t.tim.ofs = s.tim.ofs)) ∧
  (∀ (s u : State) (acc : Acc) (v : Word), s.takesWrite acc R.TIM_SET_SEC_HI → u = s.writePlain R.TIM_SET_SEC_HI (v ||| 0x80000000) →
    (s.timeFree → Gives (exec (.timeSet acc v) s) (fun t =>
      t.rt = (u.fld F.TIM_SET_SEC_LO_SEC + u.fld F.TIM_SET_SEC_HI_SEC * 2 ^ 32) * 1000000000 + u.fld F.TIM_SET_NS_NS ∧
      t.fld F.TIM_STATE_STATE = (if u.timSelect ≠ 0 then 1
        else if u.fld F.TIM_HOLD_HOLD_LIM = 0 ∨ u.errLim < u.fld F.TIM_SETERR_ERR then 4 else 3))) ∧
    (s.timeFree = false → Gives (exec (.timeSet acc v) s) (fun t => t.flag F.TIM_STAT_CONFIG ∧ t.tim = s.tim ∧ t.mem = s.mem))) ∧
  (∀ s : State, s.fld F.TIM_UTCAT_AT ≠ 0 → s.timeFree = false → s.fld F.TIM_UTCAT_AT * 1000000000 ≤ s.rt →
    Gives (exec .utcChange s) (fun t => t.fld F.TIM_UTC_OFF = s.fld F.TIM_UTC_NEXT ∧ t.fld F.TIM_UTCAT_AT = 0 ∧
      (∀ a, a ≠ R.TIM_UTC → a ≠ R.TIM_UTCAT → t.reg a = s.reg a) ∧ t.tim = s.tim ∧ t.mem = s.mem)) ∧
  (∀ (s : State) (p : Fin 2) (sec : Nat) (x : Pulse), (s.pulse p).pending = some sec → s.timeFree = false → sec < s.rt / 1000000000 →
    x = { s.pulse p with
      en := s.flag (F.TIM_TPCFG_EN p), pol := s.flag (F.TIM_TPCFG_POL p), untrstop := s.flag (F.TIM_TPCFG_UNTRSTOP p),
      wrRec := s.flag (F.TIM_TPCFG_REC p), irq := s.flag (F.TIM_TPCFG_IRQ p), per := s.fld (F.TIM_TPPER_PERIOD p),
      wid := s.fld (F.TIM_TPWID_WIDTH p), dly := s.fldInt (F.TIM_TPDLY_DELAY p), pending := none,
      lastEdge := max (s.pulse p).lastEdge ((sec + 1) * 1000000000 - 1) } →
    Gives (exec (.tpConfigApply p) s) (fun t => t.pulse (1 - p) = s.pulse (1 - p) ∧ t.mem = s.mem ∧
      (x.valid → t.pulse p = x ∧ t.regs = s.regs) ∧ (x.valid = false → (t.pulse p).en = false ∧ t.flag F.TIM_STAT_CONFIG))) ∧
  (∀ (s : State) (p : Fin 2), s.timeFree = false → s.stepDue = none → (s.pulse p).en → (s.pulse p).per ≠ 0 →
    ((s.pulse p).inPulse → (((s.pulse p).start + (s.pulse p).wid : Nat) : Int) ≤ (s.rt : Int) + (s.pulse p).dly / 16 →
      Gives (exec (.timePulse p) s) (fun t => (t.pulse p).inPulse = false ∧ t.pulse (1 - p) = s.pulse (1 - p) ∧ t.regs = s.regs ∧ t.mem = s.mem)) ∧
    ((s.pulse p).inPulse = false → ¬ (s.fld F.TIM_STATE_STATE = 4 ∧ (s.pulse p).untrstop) → (s.pulse p).holdUntil ≤ s.rt / 1000000000 →
      ((((s.pulse p).lastEdge / (s.pulse p).per + 1) * (s.pulse p).per : Nat) : Int) ≤ (s.rt : Int) + (s.pulse p).dly / 16 →
      Gives (exec (.timePulse p) s) (fun t => (t.pulse p).inPulse ∧ (t.pulse p).start = ((s.pulse p).lastEdge / (s.pulse p).per + 1) * (s.pulse p).per ∧
        ((s.pulse p).irq → t.isPending 201) ∧ t.pulse (1 - p) = s.pulse (1 - p) ∧ ((s.pulse p).wrRec = false → t.mem = s.mem)))) ∧
  (∀ (s : State) (acc : Acc), s.takesRead acc R.TIM_MTB_LO →
    Gives (exec (.mtbRead acc) s) (fun t => t.rdata = w32 s.now ∧ t.reg R.TIM_MTB_HI = w32 (s.now / 2 ^ 32) ∧
      t.fld F.TIM_RT_NS_NS = s.rt % 1000000000 ∧ t.fld F.TIM_RT_SEC_LO_SEC = s.rt / 1000000000 % 2 ^ 32 ∧ t.tim = s.tim ∧ t.mem = s.mem)) ∧
  (∀ (s : State) (acc : Acc) (en : Bool), s.takesWrite acc R.TIM_CTL → Gives (exec (.servoEnable acc en) s) (fun t => t.flag F.TIM_CTL_EN = en))

/-- LOSS_UPDATE, when due, shows the validity of each loss channel and estimator, holds the output of an invalid channel and
shows impacts per second without filter and norm. TRACE_APPEND puts one entry in front of at most 2,560. SAMPLE_PERIOD_END
closes the sums and starts new ones, registers and memory unchanged. YIELD_RECORD takes the oldest closed period at TEND +
10 ms, consumes SREF (0 skipped), sets REC with interrupt 203 and FOLD for an empty interval; a STANDBY module writes no
cell. YLD_ENABLE starts the delay line anew, or is refused with CONFIG. SREF_WRITE is taken while EN is 0. A YLD_POOLTAIL
away from the head counts as refilled. (R352, R353, R355, R358, R359, R361, R362, R364, R365, R368, R369) -/
def Obligations.HarvestCommandsComplete : Prop :=
  (∀ s : State, s.due s.yld.lossAt 10000000 → Gives (exec .lossUpdate s) (fun t =>
    (∀ e : Fin 2, t.flag (F.YLD_CFESTAT_VALID e) = s.cfeValid e) ∧
    (∀ l : Fin 4, t.flag (F.YLD_LOSSSTAT_VALID l) = s.lossValid l ∧
      (s.lossValid l = false → t.reg (R.YLD_LOSSOUT l) = s.reg (R.YLD_LOSSOUT l)) ∧
      (s.lossValid l → s.fld (F.YLD_LOSSCFG_NORM l) = 0 → s.fld (F.YLD_LOSSCFG_TF l) = 0 → t.reg (R.YLD_LOSSOUT l) =
        w32 (fFrac (((maskPins (s.fld (F.YLD_LOSSMASK_MASK l))).map (fun n => (s.reg (R.PLS_RATE n)).toNat)).sum : Nat) 1000))) ∧
    t.yld.lossAt = s.now ∧ t.mem = s.mem)) ∧
  (∀ s : State, s.flag F.YLD_CTL_EN → s.due s.yld.traceAt 10000000 → Gives (exec .traceAppend s) (fun t => ∃ c : Cut,
    t.yld.trace = (c :: s.yld.trace).take 2560 ∧ c.inst = (s.yld.traceAt / 10000000 + 1) * 10000000 ∧
    c.pos = s.axPos (s.fld F.YLD_CFG_AXIS) c.inst ∧ c.field = s.fld F.WVE_FIELD_FIELD_ID ∧ c.stale = false ∧
    (∀ k : Fin 4, c.mask / 2 ^ k.val % 2 = if s.cutting k then 1 else 0) ∧ (c.qc.isSome = s.cfeValid 0) ∧
    t.fld F.YLD_TRACE_N = t.yld.trace.length ∧ (∀ a, a ≠ R.YLD_TRACE → t.reg a = s.reg a) ∧ t.mem = s.mem)) ∧
  (∀ s : State, s.flag F.YLD_CTL_EN → 0 < s.fld F.YLD_CFG_SPER → s.due s.yld.perAt (1000000 * s.fld F.YLD_CFG_SPER) →
    Gives (exec .samplePeriodEnd s) (fun t =>
      t.yld.closed = s.yld.closed ++ [{ s.yld.cur with
        tend := (s.yld.perAt / (1000000 * s.fld F.YLD_CFG_SPER) + 1) * (1000000 * s.fld F.YLD_CFG_SPER),
        loss0 := s.lossCount 0, loss1 := s.lossCount 1 }] ∧
      t.yld.cur = YPer.init ∧ t.regs = s.regs ∧ t.mem = s.mem)) ∧
  (∀ (s : State) (p : YPer) (l : List YPer) (d : Nat) (c1 c0 : Int), s.yld.closed = p :: l → p.tend + 10000000 ≤ s.now →
    d = s.yldDelay (s.yldQc p.tend) → c1 = (p.tend : Int) - 1000000 * d → c0 = s.yld.cut.getD (c1 - 1000000 * s.fld F.YLD_CFG_SPER) →
    Gives (exec .yieldRecord s) (fun t => t.yld.closed = l ∧ t.yld.cut = some c1 ∧ t.yld.delay = some d ∧
      t.reg R.YLD_SREF = w32 (nextSref ((nextSref (s.reg R.YLD_SREF).toNat + 1) % 2 ^ 32)) ∧ t.reg R.YLD_SREF ≠ 0 ∧
      s.raised t F.YLD_STAT_REC 203 ∧ (c1 ≤ c0 → s.raised t F.YLD_STAT_FOLD 202) ∧
      (c1 ≤ c0 ∨ within 3 4 (s.fld F.TDM_STATE_PSTATE) → t.fld F.YLD_CELLCNT_COUNT = s.fld F.YLD_CELLCNT_COUNT))) ∧
  (∀ (s u : State) (acc : Acc) (v : Word), s.takesWrite acc R.YLD_CTL → u = s.writePlain R.YLD_CTL v →
    (s.flag F.YLD_CTL_EN = false → u.flag F.YLD_CTL_EN → u.yldOk → Gives (exec (.yldEnable acc v) s) (fun t =>
      t.flag F.YLD_CTL_EN ∧ t.yld.trace = [] ∧ t.yld.closed = [] ∧ t.yld.cut = none ∧ t.yld.delay = none ∧ t.yld.cur = YPer.init ∧
      s.wrote t R.YLD_CTL v ∧ t.mem = s.mem)) ∧
    (s.flag F.YLD_CTL_EN = false → u.flag F.YLD_CTL_EN → u.yldOk = false → Gives (exec (.yldEnable acc v) s) (fun t =>
      t.flag F.YLD_CTL_EN = false ∧ s.raised t F.YLD_STAT_CONFIG 202 ∧ t.yld = s.yld)) ∧
    (s.flag F.YLD_CTL_EN ∨ u.flag F.YLD_CTL_EN = false → Gives (exec (.yldEnable acc v) s) (fun t =>
      s.wrote t R.YLD_CTL v ∧ t.yld = s.yld ∧ t.mem = s.mem))) ∧
  (∀ (s : State) (acc : Acc) (v : Word), s.takesWrite acc R.YLD_SREF →
    (s.flag F.YLD_CTL_EN = false → Gives (exec (.srefWrite acc v) s) (fun t => s.wrote t R.YLD_SREF v ∧ t.yld = s.yld ∧ t.mem = s.mem)) ∧
    (s.flag F.YLD_CTL_EN → Gives (exec (.srefWrite acc v) s) (fun t => t.reg R.YLD_SREF = s.reg R.YLD_SREF ∧ s.raised t F.YLD_STAT_CONFIG 202 ∧ t.yld = s.yld))) ∧
  (∀ (s : State) (acc : Acc) (v : Word), s.takesWrite acc R.YLD_POOLTAIL →
    Gives (exec (.yldPoolTailWrite acc v) s) (fun t => s.wrote t R.YLD_POOLTAIL v ∧ t.mem = s.mem ∧
      (t.fld F.YLD_POOLTAIL_IDX ≠ t.fld F.YLD_POOLHEAD_IDX → t.yld.empty = false)))

/-- IMG_LINK up trains the link at GEAR, down ends an open frame. FRAME_START of a capturing camera opens a frame stamped to 1
µs with the sets in effect after groups that are over, or with a raw ring full after age drops sets OVERFLOW. FRAME_END
closes it: FNUM counts, the frame waits with its lines up to H, SHORT and LONG set their flags. CCI_TRANSACTION starts one
with BUSY, refuses one while BUSY, and ends with the read data or CCI_ERR. PARAMETER_SET_SUBMIT takes the set, superseding
one not started, and starts its group if the predicted FS lies far enough ahead. CCI_GROUP_COMPLETE leaves the set written.
Other cameras are unchanged. (R388, R391, R392, R393, R394, R395, R396, R398, R403, R407) -/
def Obligations.CameraCommandsComplete : Prop :=
  (∀ (s : State) (c : Fin 8) (cut : FrameCut),
    (s.flag (F.IMG_CAMSTAT_LINK_UP c) = false → s.camOn c → s.fld (F.IMG_CAMCFG_GEAR c) ≠ 3 →
      Gives (exec (.imgLink c true cut) s) (fun t => t.flag (F.IMG_CAMSTAT_LINK_UP c) ∧ (t.cam c).trained ∧
        t.fld (F.IMG_CAMSTAT_GEAR c) = s.fld (F.IMG_CAMCFG_GEAR c) ∧ ∀ d, d ≠ c.val → t.cam d = s.cam d)) ∧
    (s.flag (F.IMG_CAMSTAT_LINK_UP c) → Gives (exec (.imgLink c false cut) s) (fun t => t.flag (F.IMG_CAMSTAT_LINK_UP c) = false ∧
      (t.cam c).trained = false ∧ (t.cam c).opened = none ∧ (∀ d, d ≠ c.val → t.cam d = s.cam d) ∧
      ((s.cam c).opened.isSome → ∃ g : CamFrm, (t.cam c).raw = (s.cam c).raw ++ [g] ∧ g.has 3 ∧ g.has 0)))) ∧
  (∀ (s u : State) (c : Fin 8) (cut : FrameCut) (x : Cam) (n : Nat), s.camCaptures c →
    u = (s.frameClose c cut false false).groupEnds c →
    x = (u.cam c).ledgerFs s.now (s.fld (F.IMG_PRF0_EDLY c)) (s.fld (F.IMG_PRF0_GDLY c)) →
    n = ((u.ageDrops c).cam c).raw.length →
    (s.camByCtx c = false ∨ n < s.fld (F.IMG_RAWCFG_RAWN c) → Gives (exec (.frameStart c cut) s) (fun t => ∃ f : CamFrm,
      (t.cam c).opened = some f ∧ f.fsAt = s.now / 1000 * 1000 ∧ f.expo = x.expo ∧ f.gain = x.gain ∧
      f.ptag = (t.ctx (s.camCtx c)).tag ∧ (t.cam c).fsN = (s.cam c).fsN + 1 ∧ (t.cam c).fs.head? = some s.now ∧
      (t.cam c).written = [] ∧ (t.cam c).raw.length = n ∧ ∀ d, d ≠ c.val → t.cam d = s.cam d)) ∧
    (s.camByCtx c → s.fld (F.IMG_RAWCFG_RAWN c) ≤ n → Gives (exec (.frameStart c cut) s) (fun t => (t.cam c).opened = none ∧
      t.flag (F.IMG_CAMSTAT_OVERFLOW c) ∧ s.raised t F.IMG_STAT_OVERFLOW 204 ∧ (t.cam c).raw.length = n ∧
      (t.cam c).fsN = (s.cam c).fsN + 1 ∧ ∀ d, d ≠ c.val → t.cam d = s.cam d))) ∧
  (∀ (s : State) (c : Fin 8) (cut : FrameCut) (f : CamFrm), (s.cam c).opened = some f →
    Gives (exec (.frameEnd c cut) s) (fun t => ∃ g : CamFrm, (t.cam c).raw = (s.cam c).raw ++ [g] ∧ (t.cam c).opened = none ∧
      g.fsAt = f.fsAt ∧ g.feAt = s.now ∧ g.expo = f.expo ∧ g.gain = f.gain ∧ g.lines = min cut.lines.toNat (s.camH c) ∧
      g.has 0 = (decide (cut.lines.toNat < s.camH c) || cut.shortLine) ∧ g.has 1 = decide (s.camH c < cut.lines.toNat) ∧ g.has 3 = false ∧
      g.has 4 = decide (f.expo.tag ≠ f.gain.tag) ∧ t.fld (F.IMG_FNUM_FNUM c) = (s.fld (F.IMG_FNUM_FNUM c) + 1) % 2 ^ 32 ∧
      g.fnum = t.fld (F.IMG_FNUM_FNUM c) ∧ t.reg (R.IMG_LEDG c) = w32 (f.gain.tag * 65536 + f.expo.tag) ∧
      (cut.lines.toNat < s.camH c → t.flag (F.IMG_CAMSTAT_FRAME_SHORT c) ∧ s.raised t F.IMG_STAT_FRAME_SHORT 204) ∧
      (s.camH c < cut.lines.toNat → t.flag (F.IMG_CAMSTAT_FRAME_LONG c) ∧ s.raised t F.IMG_STAT_FRAME_LONG 204) ∧
      (cut.shortLine ∨ cut.longLine → t.flag (F.IMG_CAMSTAT_LINE_ERR c) ∧ t.flag F.IMG_STAT_LINE_ERR) ∧
      (∀ d, d ≠ c.val → t.cam d = s.cam d))) ∧
  (∀ (s : State) (acc : Acc) (c : Fin 8) (v : Word) (ack : Bool) (b : BitVec 8), s.takesWrite acc (R.IMG_CCICMD c) →
    (v.toNat < 2 ^ 31 → Gives (exec (.cciTransaction acc c (some v) ack b) s) (fun t =>
      s.wrote t (R.IMG_CCICMD c) v ∧ t.img = s.img ∧ t.mem = s.mem)) ∧
    (2 ^ 31 ≤ v.toNat → s.flag (F.IMG_CCICMD_BUSY c) = false → Gives (exec (.cciTransaction acc c (some v) ack b) s) (fun t =>
      t.flag (F.IMG_CCICMD_BUSY c) ∧ (t.cam c).cci ∧ (∀ d, d ≠ c.val → t.cam d = s.cam d) ∧
      (∀ a, a ≠ R.IMG_CCICMD c → t.reg a = s.reg a) ∧ t.mem = s.mem)) ∧
    (2 ^ 31 ≤ v.toNat → s.flag (F.IMG_CCICMD_BUSY c) → Gives (exec (.cciTransaction acc c (some v) ack b) s) (fun t =>
      t.reg (R.IMG_CCICMD c) = s.reg (R.IMG_CCICMD c) ∧ t.flag (F.IMG_CAMSTAT_CONFIG c) ∧ t.flag F.IMG_STAT_CONFIG ∧ t.img = s.img))) ∧
  (∀ (s : State) (acc : Acc) (c : Fin 8) (ack : Bool) (b : BitVec 8), (s.cam c).cci → ((s.groupEnds c).cam c).group = none →
    Gives (exec (.cciTransaction acc c none ack b) s) (fun t => t.flag (F.IMG_CCICMD_BUSY c) = false ∧ (t.cam c).cci = false ∧
      (ack → t.mem = s.mem ∧ t.fld (F.IMG_CCICMD_DATA c) =
        (if (s.cam c).cciRd then b.toNat else s.fld (F.IMG_CCICMD_DATA c))) ∧
      (ack = false → t.flag (F.IMG_CAMSTAT_CCI_ERR c) ∧ s.raised t F.IMG_STAT_CCI_ERR 204))) ∧
  (∀ (s u : State) (acc : Acc) (c : Fin 8) (v : Word) (p : ParamSet), s.takesWrite acc (R.IMG_PSETGO c) → v.toNat % 2 = 1 →
    u = s.groupEnds c →
    p = ⟨s.fld (F.IMG_PSET0_TAG c), s.fld (F.IMG_PSET1_EXP c), s.fld (F.IMG_PSET0_AGAIN c), s.fld (F.IMG_PSET1_DGAIN c)⟩ →
    Gives (exec (.parameterSetSubmit acc c v) s) (fun t =>
      ((u.cam c).group = none → (∃ at_, (s.cam c).nextFs = some at_ ∧ s.now + s.groupNs c + 1000 * s.fld (F.IMG_PRF1_CCIGUARD c) ≤ at_) →
        (t.cam c).group = some (p, s.now + s.groupNs c) ∧ (t.cam c).submitted = none) ∧
      ((u.cam c).group.isSome ∨ (∀ at_, (s.cam c).nextFs = some at_ → at_ < s.now + s.groupNs c + 1000 * s.fld (F.IMG_PRF1_CCIGUARD c)) →
        (t.cam c).group = (u.cam c).group ∧ (t.cam c).submitted = some p) ∧
      ((u.cam c).submitted.isSome → t.flag (F.IMG_CAMSTAT_SUPERSEDED c) ∧ t.flag F.IMG_STAT_SUPERSEDED ∧
        t.fld (F.IMG_SUPCNT_COUNT c) = min (s.fld (F.IMG_SUPCNT_COUNT c) + 1) (2 ^ 32 - 1)) ∧
      ((u.cam c).submitted = none → t.regs = s.regs) ∧ t.mem = s.mem ∧ ∀ d, d ≠ c.val → t.cam d = s.cam d)) ∧
  (∀ (s : State) (c : Fin 8) (p : ParamSet) (t0 : Nat), (s.cam c).group = some (p, t0) → t0 ≤ s.now →
    Gives (exec (.cciGroupComplete c) s) (fun t => (t.cam c).written = (s.cam c).written ++ [p] ∧
      ((s.cam c).submitted = none → (t.cam c).group = none) ∧ t.regs = s.regs ∧ t.mem = s.mem ∧ ∀ d, d ≠ c.val → t.cam d = s.cam d))

/-- CONTEXT_DISPATCH gives a free pipeline the raw frame with the earliest FE, one stripe further, ready at once or after 4 µs.
RAW_FRAME_AGE_DROP takes the oldest frame not started within MAXAGE out of the ring, with DROP counted. CONTEXT_APPLY with
GO notes the tag and address for the next frame. FRAME_PROCESSED takes the frame out of the ring and frees the pipeline;
with no ring on its queue the frame is dropped. ENCODE_FRAME takes the oldest frame of its stream, skips one not started in
a frame period, and counts to the next IDR. FORCE_IDR notes the IDR. (R396, R397, R398, R400, R403, R404, R405, R407) -/
def Obligations.PipelineCommandsComplete : Prop :=
  (∀ (s u : State) (p : Fin 4) (c : Nat) (f : CamFrm), s.flag F.IMG_CTL_EN → s.streamCam p = none → u = s.setDown p →
    (u.pipe p).cam = none → u.served = some (c, f) →
    Gives (exec (.contextDispatch p) s) (fun t =>
      t.pipe p = ⟨some c, some (s.camCtx c), s.now + (if (s.pipe p).ctx = some (s.camCtx c) then 0 else 4000)⟩ ∧
      t.fld (F.IMG_PIPESTAT_CTX p) = s.camCtx c ∧
      (∃ g ∈ (t.cam c).raw, g.fnum = f.fnum ∧ g.feAt = f.feAt ∧ g.pipe = some p.val ∧ g.stripes = f.stripes + 1) ∧
      (∀ d, d < 8 → ∀ g, u.servable d = some g → f.feAt ≤ g.feAt) ∧ (∀ q, q ≠ p.val → t.pipe q = s.pipe q))) ∧
  (∀ (s : State) (c : Fin 8) (f : CamFrm), s.camByCtx c → (s.cam c).raw.find? s.rawOld = some f →
    Gives (exec (.rawFrameAgeDrop c) s) (fun t => (t.cam c).raw = (s.cam c).raw.filter (fun g => g.fnum ≠ f.fnum) ∧
      s.raised t F.IMG_STAT_DROP 204 ∧ t.fld F.IMG_DROPCNT_COUNT = min (s.fld F.IMG_DROPCNT_COUNT + 1) (2 ^ 32 - 1) ∧
      (∀ d, d ≠ c.val → t.cam d = s.cam d) ∧ t.mem = s.mem)) ∧
  (∀ (s : State) (acc : Acc) (x : Fin 16) (v : Word), s.takesWrite acc (R.IMG_CTXAPPLY x) →
    Gives (exec (.contextApply acc x v) s) (fun t => s.wrote t (R.IMG_CTXAPPLY x) v ∧ t.mem = s.mem ∧
      (2 ^ 31 ≤ v.toNat → (t.ctx x).next = some (v.toNat % 2 ^ 16, s.fld (F.IMG_CTXBLK_ADDR x) * 256) ∧
        (t.ctx x).tag = (s.ctx x).tag ∧ (t.ctx x).block = (s.ctx x).block) ∧
      (v.toNat < 2 ^ 31 → t.img = s.img) ∧ ∀ y, y ≠ x.val → t.ctx y = s.ctx y)) ∧
  (∀ (s : State) (p : Fin 4) (raw : List (BitVec 12)) (px wb : List Rgb12) (c : Nat) (f : CamFrm), s.finishing p = some (c, f) →
    Gives (exec (.frameProcessed p raw px wb) s) (fun t => (t.cam c).raw = (s.cam c).raw.filter (fun g => g.fnum ≠ f.fnum) ∧
      (t.pipe p).cam = none ∧ t.fld (F.IMG_PIPESTAT_LOAD p) ≤ 100 ∧ (∀ d, d ≠ c → t.cam d = s.cam d) ∧
      (s.ringOf (0x50 + p) = none → s.raised t F.IMG_STAT_DROP 204))) ∧
  (∀ (s : State) (k : Fin 4) (size : BitVec 24) (t0 inst etag ptag : Nat) (rest : List (Nat × Nat × Nat × Nat)) (late : Bool),
    (s.enc k).part = none → (s.enc k).queue = (t0, inst, etag, ptag) :: rest →
    late = (match (s.enc k).seen with | a :: b :: _ => decide (t0 + (a - b) < s.now) | _ => false) →
    (late → Gives (exec (.encodeFrame k size) s) (fun t => t.enc k = { s.enc k with queue := rest } ∧
      t.fld (F.IMG_ENCSKIP_COUNT k) = min (s.fld (F.IMG_ENCSKIP_COUNT k) + 1) (2 ^ 32 - 1) ∧ t.mem = s.mem ∧
      ∀ j, j ≠ k.val → t.enc j = s.enc j)) ∧
    (late = false → Gives (exec (.encodeFrame k size) s) (fun t => (t.enc k).queue = rest ∧ (t.enc k).idr = false ∧
      (t.enc k).since = (if (s.enc k).idr ∨ s.fld (F.IMG_ENCCFG_GOP k) ≤ (s.enc k).since then 1 else (s.enc k).since + 1) ∧
      (∀ j, j ≠ k.val → t.enc j = s.enc j) ∧
      (s.ringOf (0x54 + k) = none → ∃ a, (t.enc k).part = some a ∧ a.inst = inst ∧ a.etag = etag ∧ a.ptag = ptag ∧
        a.rest.length = size.toNat ∧ a.cont = false ∧
        a.idr = decide ((s.enc k).idr ∨ s.fld (F.IMG_ENCCFG_GOP k) ≤ (s.enc k).since))))) ∧
  (∀ (s : State) (acc : Acc) (k : Fin 4) (v : Word), s.takesWrite acc (R.IMG_ENCIDR k) → v.toNat % 2 = 1 →
    Gives (exec (.forceIdr acc k v) s) (fun t => t.enc k = { s.enc k with idr := true } ∧ (∀ j, j ≠ k.val → t.enc j = s.enc j) ∧
      t.regs = s.regs ∧ t.mem = s.mem))

/-- PANEL_POWER_UP from OFF enters RAILS with AVDD on, or is refused with CONFIG; in DOWN and in FAULT it is noted.
PANEL_POWER_DOWN enters DOWN at the step that reverses the last one. PANEL_STEP notes a rail up, switches the next, enters
LINK after the fourth, ON after BLACK, and goes down rail by rail to OFF. LINK_TRAINED enters BLACK, DSP_LINK sets LINK_FAIL
and goes DOWN, HPD_LOSS returns to LINK. DSP_RAIL switches all off and enters FAULT; RAIL_FAULT_RELEASE leaves it.
PANEL_FRAME_START chooses the band and VCOM and repeats without a descriptor. UNDERRUN makes the rest of the frame black. (R410, R411, R412, R413, R414, R415, R416, R418, R420) -/
def Obligations.PanelCommandsComplete : Prop :=
  (∀ (s u : State) (acc : Acc) (p : Fin 2) (v w : Word), s.takesWrite acc (R.DSP_PCFG p) → w = (F.DSP_PCFG_PWR p).put v 1 →
    u = s.writePlain (R.DSP_PCFG p) w →
    (s.panelState p ≠ 5 → s.panelState p ≠ 6 →
      s.flag (F.DSP_PCFG_PWR p) ∨ s.flag F.DSP_CTL_EN = false ∨ s.panelState p ≠ 0 →
      Gives (exec (.panelPowerUp acc p v) s) (fun t => s.wrote t (R.DSP_PCFG p) w ∧ t.dsp = s.dsp ∧ t.mem = s.mem)) ∧
    (s.flag (F.DSP_PCFG_PWR p) = false → s.flag F.DSP_CTL_EN → s.panelState p = 0 → u.panelOk p →
      Gives (exec (.panelPowerUp acc p v) s) (fun t => t.panelState p = 1 ∧ (t.panel p).rails = 1 ∧ (t.panel p).swAt = s.now ∧
        (t.panel p).settled = none ∧ t.fld (F.DSP_PSTAT_BAND p) = 0 ∧ (t.panel p).vcom = s.fld (F.DSP_VCOM_VCOM p 0) ∧
        t.panel (1 - p).val = s.panel (1 - p).val ∧ t.mem = s.mem)) ∧
    (s.flag (F.DSP_PCFG_PWR p) = false → s.flag F.DSP_CTL_EN → s.panelState p = 0 → u.panelOk p = false →
      Gives (exec (.panelPowerUp acc p v) s) (fun t => t.panelState p = 0 ∧ t.flag (F.DSP_PSTAT_CONFIG p) ∧ s.raised t F.DSP_STAT_CONFIG 205 ∧ t.dsp = s.dsp)) ∧
    (s.panelState p = 5 →
      Gives (exec (.panelPowerUp acc p v) s) (fun t => t.panel p = { s.panel p with again := true } ∧ s.wrote t (R.DSP_PCFG p) w)) ∧
    (s.panelState p = 6 →
      Gives (exec (.panelPowerUp acc p v) s) (fun t => t.panel p = { s.panel p with noted := true } ∧ s.wrote t (R.DSP_PCFG p) w))) ∧
  (∀ (s : State) (acc : Acc) (p : Fin 2) (v w : Word), s.takesWrite acc (R.DSP_PCFG p) → w = (F.DSP_PCFG_PWR p).put v 0 →
    (s.panelState p = 0 → Gives (exec (.panelPowerDown acc p v) s) (fun t => s.wrote t (R.DSP_PCFG p) w ∧ t.dsp = s.dsp)) ∧
    (s.flag (F.DSP_PCFG_PWR p) = false ∨ s.flag F.DSP_CTL_EN = false → s.panelState p ≤ 4 →
      Gives (exec (.panelPowerDown acc p v) s) (fun t => s.wrote t (R.DSP_PCFG p) w ∧ t.dsp = s.dsp)) ∧
    (s.flag (F.DSP_PCFG_PWR p) → s.flag F.DSP_CTL_EN → s.panelState p = 1 ∨ s.panelState p = 2 →
      Gives (exec (.panelPowerDown acc p v) s) (fun t => t.panelState p = 5 ∧
      (t.panel p).rails = (s.panel p).rails - 1 ∧ (t.panel p).swAt = s.now ∧ (t.panel p).settled = none ∧ (t.panel p).cur = none ∧ t.mem = s.mem)) ∧
    (s.flag (F.DSP_PCFG_PWR p) → s.flag F.DSP_CTL_EN → s.panelState p = 3 ∨ s.panelState p = 4 →
      Gives (exec (.panelPowerDown acc p v) s) (fun t => t.panelState p = 5 ∧
      t.backlight p = false ∧ (t.panel p).black = some s.now ∧ (t.panel p).rails = (s.panel p).rails ∧ (t.panel p).cur = none ∧ t.mem = s.mem)) ∧
    (s.panelState p = 5 → Gives (exec (.panelPowerDown acc p v) s) (fun t => t.panel p = { s.panel p with again := false })) ∧
    (s.panelState p = 6 → Gives (exec (.panelPowerDown acc p v) s) (fun t => t.panel p = { s.panel p with noted := true }))) ∧
  (∀ (s : State) (p : Fin 2) (x : Panel), x = s.panel p → s.panelState p = 1 →
    (x.settled = none → s.now ≤ x.swAt + 20000000 → Gives (exec (.panelStep p true) s) (fun t =>
      t.panel p = { x with settled := some s.now } ∧ t.regs = s.regs ∧ t.mem = s.mem)) ∧
    (∀ (rail : Bool) (t0 : Nat), x.settled = some t0 → t0 + x.delay x.rails ≤ s.now → Gives (exec (.panelStep p rail) s) (fun t =>
      (x.rails < 4 → t.panel p = { x with rails := x.rails + 1, swAt := s.now, settled := none } ∧ t.regs = s.regs) ∧
      (4 ≤ x.rails → t.panelState p = 2 ∧ t.panel p = x) ∧ t.mem = s.mem))) ∧
  (∀ (s : State) (p : Fin 2) (rail : Bool) (x : Panel), x = s.panel p → s.panelState p = 3 →
    x.t0 + x.cf 8 19 16 * x.period + 1000000 * x.cf 8 7 0 ≤ s.now →
    Gives (exec (.panelStep p rail) s) (fun t => t.panelState p = 4 ∧ (t.panel p).first ∧ t.mem = s.mem)) ∧
  (∀ (s : State) (p : Fin 2) (rail : Bool) (x : Panel), x = s.panel p → s.panelState p = 5 →
    (∀ t0, x.black = some t0 → t0 + x.period ≤ s.now → Gives (exec (.panelStep p rail) s) (fun t =>
      t.panel p = { x with black := none, rails := x.rails - 1, swAt := s.now, settled := none } ∧ t.panelState p = 5)) ∧
    (x.black = none → x.settled = none → rail ∨ x.swAt + 50000000 ≤ s.now → Gives (exec (.panelStep p rail) s) (fun t =>
      t.panel p = { x with settled := some s.now } ∧ t.regs = s.regs)) ∧
    (∀ t0, x.black = none → x.settled = some t0 → t0 + x.delay (x.rails + 1) ≤ s.now → Gives (exec (.panelStep p rail) s) (fun t =>
      (x.rails ≠ 0 → (t.panel p).rails = x.rails - 1 ∧ t.panelState p = 5) ∧
      (x.rails = 0 → x.rst = false → x.again = false → t.panelState p = 0)))) ∧
  (∀ (s : State) (p : Fin 2), s.panelState p = 2 → Gives (exec (.linkTrained p) s) (fun t => t.panelState p = 3 ∧
    t.flag (F.DSP_PSTAT_HPD p) ∧ (t.panel p).t0 = s.now ∧ t.mem = s.mem)) ∧
  (∀ (s : State) (p : Fin 2), s.panelState p = 2 → Gives (exec (.dspLink p) s) (fun t => t.panelState p = 5 ∧
    t.flag (F.DSP_PSTAT_LINK_FAIL p) ∧ s.raised t F.DSP_STAT_LINK_FAIL 205 ∧ (t.panel p).rails = (s.panel p).rails - 1)) ∧
  (∀ (s : State) (p : Fin 2), s.panelState p = 4 → Gives (exec (.hpdLoss p) s) (fun t => t.panelState p = 2 ∧
    t.backlight p = false ∧ t.flag (F.DSP_PSTAT_HPD p) = false ∧ (t.panel p).cur = none ∧ t.mem = s.mem)) ∧
  (∀ (s : State) (p : Fin 2) (rail : Fin 4) (us : BitVec 16) (x : Panel), x = s.panel p → s.panelState p ≠ 0 → s.panelState p ≠ 6 →
    rail.val < x.rails → x.rst = false →
    (if s.panelState p = 1 ∧ rail.val + 1 = x.rails ∧ x.settled = none then x.swAt + 20000000 ≤ s.now else 100 ≤ us.toNat) →
    Gives (exec (.dspRail p rail us) s) (fun t => t.panelState p = 6 ∧ (t.panel p).rails = 0 ∧ t.backlight p = false ∧
      t.fld (F.DSP_PSTAT_FCAUSE p) = rail.val + 1 ∧ t.flag (F.DSP_PSTAT_RAIL p) ∧ s.raised t F.DSP_STAT_RAIL 205)) ∧
  (∀ (s : State) (acc : Acc) (p : Fin 2) (v : Word), s.takesWrite acc (R.DSP_PSTAT p) → s.panelState p = 6 →
    (s.panel p).noted = false → Gives (exec (.railFaultRelease acc p v) s) (fun t => t.panelState p = 0 ∧
      t.fld (F.DSP_PSTAT_FCAUSE p) = 0 ∧ t.flag (F.DSP_PSTAT_RAIL p) = false ∧ t.mem = s.mem)) ∧
  (∀ (s : State) (p : Fin 2), s.panelState p = 4 → (s.panel p).k < (s.now - (s.panel p).t0) / (s.panel p).period →
    Gives (exec (.panelFrameStart p) s) (fun t => t.fld (F.DSP_PSTAT_BAND p) = s.bandOf p (s.fld (F.DSP_PSTAT_BAND p)) ∧
      (t.panel p).vcom = s.fld (F.DSP_VCOM_VCOM p (s.bandOf p (s.fld (F.DSP_PSTAT_BAND p)))) ∧
      (t.panel p).k = (s.now - (s.panel p).t0) / (s.panel p).period ∧ (t.panel p).first = false ∧
      (s.ringOf (0x58 + p) = none → (t.panel p).cur = (s.panel p).cur ∧ t.mem = s.mem ∧
        t.fld (F.DSP_REPCNT_COUNT p) = min (s.fld (F.DSP_REPCNT_COUNT p) + 1) (2 ^ 32 - 1)))) ∧
  (∀ (s : State) (p : Fin 2) (pix : BitVec 22), s.panelState p = 4 → (s.panel p).cur.isSome →
    Gives (exec (.dspUnderrun p pix) s) (fun t => t.flag (F.DSP_PSTAT_UNDERRUN p) ∧ s.raised t F.DSP_STAT_UNDERRUN 205 ∧
      (t.panel p).out = (s.panel p).out.take (3 * pix.toNat) ++ List.replicate ((s.panel p).out.length - 3 * pix.toNat) 0 ∧
      t.mem = s.mem))

/-- CAN_ENABLE takes EN with counters 0 and a claim where the assist is on, or refuses it with CONFIG. INTEGRATION enters
ACTIVE. CAN_BUSOFF enters BUS_OFF: BUSOFF and its interrupt, every transmit buffer idle, no descriptor held. CAN_RECOVER in
BUS_OFF enters RECOVERING. CAN_LISTEN_ENTRY enters LISTEN with counters 0, or ACTIVE with an N of 0. CAN_REJOIN enters
ACTIVE, or PASSIVE where a counter stands at 128, with REJOINED. ADDRESS_CLAIM queues Address Claimed; ADDRESS_CLAIMED
enters CLAIMED 250 ms later. CAN_TP_ABORT ends the overdue session with TP_ABORT and, but for BAM, a Connection Abort. (R422, R429, R430, R431, R434, R435, R442) -/
def Obligations.CanControllerCommandsComplete : Prop :=
  (∀ (s u : State) (acc : Acc) (n : Fin 12) (v w : Word), s.takesWrite acc (R.CAN_CTL n) → w = (F.CAN_CTL_EN n).put v 1 →
    u = s.writePlain (R.CAN_CTL n) w →
    (s.flag (F.CAN_CTL_EN n) = false → u.canOk n → Gives (exec (.canEnable acc n v) s) (fun t => t.flag (F.CAN_CTL_EN n) ∧
      t.fld (F.CAN_ESTAT_TEC n) = 0 ∧ t.fld (F.CAN_ESTAT_REC n) = 0 ∧
      (u.claims n → t.fld (F.CAN_ACSTAT_STATE n) = 1 ∧ t.fld (F.CAN_ACSTAT_SA n) = s.fld (F.CAN_ACCFG_PREF n) ∧ (t.can n).claimDue.isSome))) ∧
    (s.flag (F.CAN_CTL_EN n) = false → u.canOk n = false → Gives (exec (.canEnable acc n v) s) (fun t =>
      t.flag (F.CAN_CTL_EN n) = false ∧ s.raised t (F.CAN_STAT_CONFIG n) (206 + n) ∧ t.net = s.net ∧ t.mem = s.mem)) ∧
    (s.flag (F.CAN_CTL_EN n) → (F.CAN_CTL_RECOVER n).get v = 0 → Gives (exec (.canEnable acc n v) s) (fun t =>
      t.flag (F.CAN_CTL_EN n) ∧ (∀ a, a ≠ R.CAN_CTL n → t.reg a = s.reg a) ∧ t.net = s.net ∧ t.mem = s.mem))) ∧
  (∀ (s : State) (n : Fin 12), s.flag (F.CAN_CTL_EN n) → s.canState n = 0 →
    Gives (exec (.canIntegration n) s) (fun t => t.canState n = 1 ∧ t.fld (F.CAN_ESTAT_TEC n) = s.fld (F.CAN_ESTAT_TEC n) ∧
      (∀ a, a ≠ R.CAN_ESTAT n → t.reg a = s.reg a) ∧ t.net = s.net ∧ t.mem = s.mem)) ∧
  (∀ (s : State) (n : Fin 12) (lec : Fin 8), canSends (s.canState n) → 255 < s.fld (F.CAN_ESTAT_TEC n) + 8 →
    Gives (exec (.canBusoff n lec) s) (fun t => t.canState n = 3 ∧ 255 < t.fld (F.CAN_ESTAT_TEC n) ∧ s.raised t (F.CAN_STAT_BUSOFF n) (206 + n) ∧ (∀ b : Fin 3, t.fld (F.CAN_TXB_CTL_STATE n b) = 0 ∧
        (s.fld (F.CAN_TXB_CTL_STATE n b) ≠ 0 → t.fld (F.CAN_TXB_CTL_RESULT n b) = 2)) ∧
      (t.can n).host = none ∧ (t.can n).bus = none ∧ ∀ m, m ≠ n.val → t.can m = s.can m)) ∧
  (∀ (s : State) (acc : Acc) (n : Fin 12) (v : Word), s.takesWrite acc (R.CAN_CTL n) → (F.CAN_CTL_EN n).get v = s.fld (F.CAN_CTL_EN n) →
    Gives (exec (.canRecover acc n v) s) (fun t => t.canState n = (if s.canState n = 3 then 4 else s.canState n) ∧
      t.flag (F.CAN_CTL_RECOVER n) = false ∧ t.flag (F.CAN_CTL_EN n) = s.flag (F.CAN_CTL_EN n) ∧
      (∀ a, a ≠ R.CAN_CTL n → a ≠ R.CAN_ESTAT n → t.reg a = s.reg a) ∧ t.net = s.net ∧ t.mem = s.mem)) ∧
  (∀ (s : State) (n : Fin 12), s.canState n = 4 →
    Gives (exec (.canListenEntry n) s) (fun t => t.fld (F.CAN_ESTAT_TEC n) = 0 ∧ t.fld (F.CAN_ESTAT_REC n) = 0 ∧
      (s.fld (F.CAN_RJCFG_N n) ≠ 0 → t.canState n = 5 ∧ (t.can n).good = 0 ∧ (t.can n).idleAt = s.now ∧ t.mem = s.mem) ∧
      (s.fld (F.CAN_RJCFG_N n) = 0 → t.canState n = 1 ∧ s.raised t (F.CAN_STAT_REJOINED n) (206 + n)))) ∧
  (∀ (s : State) (n : Fin 12), s.canState n = 5 →
    s.fld (F.CAN_RJCFG_N n) ≤ (s.can n).good ∨
      (s.fld (F.CAN_RJCFG_LTO n) ≠ 0 ∧ (s.can n).idleAt + 1000000 * s.fld (F.CAN_RJCFG_LTO n) ≤ s.now) →
    Gives (exec (.canRejoin n) s) (fun t =>
      t.canState n = (if 128 ≤ s.fld (F.CAN_ESTAT_TEC n) ∨ 128 ≤ s.fld (F.CAN_ESTAT_REC n) then 2 else 1) ∧ s.raised t (F.CAN_STAT_REJOINED n) (206 + n) ∧
      (s.claims n → t.fld (F.CAN_ACSTAT_STATE n) = 1 ∧ (t.can n).claimDue.isSome))) ∧
  (∀ (s : State) (n : Fin 4) (t0 : Nat), (s.can n).claimDue = some t0 → t0 ≤ s.now → canSends (s.canState n) →
    Gives (exec (.addressClaim n) s) (fun t =>
      t.can n = { s.can n with claimDue := none, claimAt := some s.now, own := (s.can n).own ++ [claimFrame (s.fld (F.CAN_ACSTAT_SA n)) (s.acName n)] } ∧
      t.regs = s.regs ∧ t.mem = s.mem)) ∧
  (∀ (s : State) (n : Fin 4) (t0 : Nat), (s.can n).claimAt = some t0 → s.fld (F.CAN_ACSTAT_STATE n) = 1 → t0 + 250000000 ≤ s.now →
    Gives (exec (.addressClaimed n) s) (fun t => t.fld (F.CAN_ACSTAT_STATE n) = 2 ∧ t.fld (F.CAN_ACSTAT_SA n) = s.fld (F.CAN_ACSTAT_SA n) ∧
      (∀ a, a ≠ R.CAN_ACSTAT n → t.reg a = s.reg a) ∧ t.net = s.net ∧ t.mem = s.mem)) ∧
  (∀ (s : State) (n : Fin 4) (x : TpS), (s.can n).tps.find? (fun y => y.due ≤ s.now) = some x →
    Gives (exec (.canTpAbort n) s) (fun t => (t.can n).tps = (s.can n).tps.filter (fun y => !y.same x.src x.etp x.bam) ∧
      s.raised t (F.CAN_STAT_TP_ABORT n) (206 + n) ∧ (x.bam → (t.can n).own = (s.can n).own) ∧
      (x.bam = false → ∃ f : CanF, (t.can n).own = (s.can n).own ++ [f] ∧ f.dlc = 8 ∧ idPs f.idw = x.src % 256 ∧
        f.data = [255, 3, 255, 255, 255] ++ leBytes 3 x.pgn)))

/-- TXB_SEND makes an idle buffer PENDING, or sets TXB_BUSY. TXB_ABORT aborts a pending buffer at once and stops retries of one
on the bus. CAN_FRAME_TX starts the chosen candidate, drops a slot frame that target 15 denies, reports SENT with its stamp,
retries or gives up. CAN_SEND and SEND_DLC0 hold the frame of a good descriptor for the bus, or complete EMPTY, BAD_LEN or
BUS_OFF. CAN_FRAME_RX counts; a mailbox action stores into an unlocked mailbox, or the shadow. MAILBOX_LOCK reads the
identifier and locks; MAILBOX_RELEASE reads the stamp and moves the shadow in, or clears NEW. For a frame received: no
fencing frame of the other side while leading. (R421, R423, R424, R425, R426, R428, R429, R430, R434) -/
def Obligations.CanFrameCommandsComplete : Prop :=
  (∀ (s : State) (acc : Acc) (n : Fin 12) (b : Fin 3) (v : Word), s.takesWrite acc (R.CAN_TXB_CTL n b) →
    (s.fld (F.CAN_TXB_CTL_STATE n b) = 0 → s.canState n < 3 → s.claimBars n (s.fld (F.CAN_TXB_ID_ID n b)) = false →
      Gives (exec (.txbSend acc n b v) s) (fun t => t.fld (F.CAN_TXB_CTL_STATE n b) = 1 ∧ t.fld (F.CAN_TXB_CTL_RESULT n b) = 0 ∧
        t.fld (F.CAN_TXB_CTL_DLC n b) = (F.CAN_TXB_CTL_DLC n b).get v ∧ t.flag (F.CAN_TXB_CTL_ONESHOT n b) = v.getLsbD 8 ∧ t.mem = s.mem)) ∧
    (s.fld (F.CAN_TXB_CTL_STATE n b) = 0 → 3 ≤ s.canState n → Gives (exec (.txbSend acc n b v) s) (fun t =>
      t.fld (F.CAN_TXB_CTL_STATE n b) = 0 ∧ s.raised t (F.CAN_STAT_TXB_BUSY n) (206 + n) ∧ t.net = s.net)) ∧
    (s.fld (F.CAN_TXB_CTL_STATE n b) ≠ 0 → (F.CAN_TXB_CTL_ABORT n b).get v = 0 → Gives (exec (.txbSend acc n b v) s) (fun t =>
      t.reg (R.CAN_TXB_CTL n b) = s.reg (R.CAN_TXB_CTL n b) ∧ s.raised t (F.CAN_STAT_TXB_BUSY n) (206 + n) ∧ t.net = s.net)) ∧
    (s.fld (F.CAN_TXB_CTL_STATE n b) = 1 → Gives (exec (.txbAbort acc n b v) s) (fun t => t.fld (F.CAN_TXB_CTL_STATE n b) = 0 ∧
      t.fld (F.CAN_TXB_CTL_RESULT n b) = 2 ∧ (∀ a, a ≠ R.CAN_TXB_CTL n b → t.reg a = s.reg a) ∧ t.net = s.net ∧ t.mem = s.mem)) ∧
    (2 ≤ s.fld (F.CAN_TXB_CTL_STATE n b) → Gives (exec (.txbAbort acc n b v) s) (fun t => t.can n = { s.can n with stop := true } ∧
      t.regs = s.regs ∧ t.mem = s.mem))) ∧
  (∀ (s u : State) (n : Fin 12) (src m : Nat) (f : CanF) (l : List OutRec), u = s.claimPurge n → canSends (u.canState n) →
    u.flag (F.CAN_CTL_LISTEN n) = false → (u.can n).bus = none → u.txNext n = some (src, f, l, m) →
    (src ≠ 4 ∨ u.permits 15 (engine 10) .write ((0x10 + n) * 4096) → Gives (exec (.canFrameTx n .start) s) (fun t =>
      (t.can n).bus = some (src, f, l) ∧ (t.can n).stop = false ∧
      (src < 3 → t.fld (F.CAN_TXB_CTL_STATE n src) = 2) ∧ (m < 48 → (t.arb 15).last = m) ∧ t.mem = s.mem)) ∧
    (src = 4 → u.permits 15 (engine 10) .write ((0x10 + n) * 4096) = false → Gives (exec (.canFrameTx n .start) s) (fun t =>
      (t.can n).bus = none ∧ t.slt.out = l.foldl (fun o r => o.erase r) u.slt.out ∧ t.mem = s.mem))) ∧
  (∀ (s : State) (n : Fin 12) (src : Nat) (f : CanF) (l : List OutRec) (ts : Word), (s.can n).bus = some (src, f, l) →
    Gives (exec (.canFrameTx n (.sent ts)) s) (fun t => (t.can n).bus = none ∧
      t.fld (F.CAN_ESTAT_TEC n) = s.fld (F.CAN_ESTAT_TEC n) - 1 ∧
      (src < 3 → t.fld (F.CAN_TXB_CTL_STATE n src) = 0 ∧ t.fld (F.CAN_TXB_CTL_RESULT n src) = 1 ∧ t.reg (R.CAN_TXB_TS n src) = ts) ∧
      (src = 3 → (t.can n).host = none) ∧ (src = 5 → (t.can n).own = (s.can n).own.tail) ∧ t.mem = s.mem)) ∧
  (∀ (s : State) (n : Fin 12) (src : Nat) (f : CanF) (l : List OutRec), (s.can n).bus = some (src, f, l) →
    Gives (exec (.canFrameTx n .lost) s) (fun t => (t.can n).bus = none ∧
      (src < 3 → (s.can n).stop = false → f.once = false → t.fld (F.CAN_TXB_CTL_STATE n src) = 1) ∧
      (src < 3 → (s.can n).stop → t.fld (F.CAN_TXB_CTL_STATE n src) = 0 ∧ t.fld (F.CAN_TXB_CTL_RESULT n src) = 2) ∧
      (src < 3 → (s.can n).stop = false → f.once → t.fld (F.CAN_TXB_CTL_STATE n src) = 0 ∧ t.fld (F.CAN_TXB_CTL_RESULT n src) = 3) ∧
      (src = 3 → f.once = false → (s.can n).stop = false → (t.can n).host = (s.can n).host) ∧ t.mem = s.mem)) ∧
  (∀ (s : State) (n : Fin 12) (lec : Fin 8) (x : Nat × CanF × List OutRec), (s.can n).bus = some x → s.fld (F.CAN_ESTAT_TEC n) + 8 ≤ 255 →
    Gives (exec (.canFrameTx n (.error lec)) s) (fun t => (t.can n).bus = none ∧ t.fld (F.CAN_ESTAT_TEC n) = s.fld (F.CAN_ESTAT_TEC n) + 8 ∧
      (lec ≠ 0 → t.fld (F.CAN_ESTAT_LEC n) = lec.val) ∧ t.mem = s.mem)) ∧
  (∀ (s : State) (n : Fin 64) (d : Desc) (q c : Nat), s.starts n d q 1 → s.canFree q → c = q - 0x10 →
    (d.len = 0 → Gives (exec (.canSend n) s) (fun t => t.hasDone n d stEMPTY 0 ∧ t.mem = s.mem)) ∧
    (d.len ≠ 0 → dlcOf (idFd d.arg0) d.len = none → Gives (exec (.canSend n) s) (fun t => t.hasDone n d stBADLEN 0 ∧ t.mem = s.mem)) ∧
    (∀ dlc, d.len ≠ 0 → dlcOf (idFd d.arg0) d.len = some dlc → (s.firstDenied (engine 29) .read d.addr d.len).isNone →
      (3 ≤ s.canState c → Gives (exec (.canSend n) s) (fun t => t.hasDone n d 0x81 0 ∧ t.mem = s.mem)) ∧
      (s.canState c < 3 → s.permits 15 (s.descMaster n d.didx) .write ((0x10 + c) * 4096) → s.claimBars c d.arg0 = false →
        Gives (exec (.canSend n) s) (fun t => t.hasStarted n d ∧ t.mem = s.mem ∧
          (t.can c).host = some (n.val, d.didx, ⟨d.arg0, dlc, s.bytes d.addr d.len, d.arg1 % 2 = 1⟩))))) ∧
  (∀ (s : State) (n : Fin 64) (d : Desc) (q c : Nat), s.starts n d q 2 → s.canFree q → c = q - 0x10 →
    (d.len ≠ 0 → Gives (exec (.sendDlc0 n) s) (fun t => t.hasDone n d stBADLEN 0 ∧ t.mem = s.mem)) ∧
    (d.len = 0 → s.canState c < 3 → s.permits 15 (s.descMaster n d.didx) .write ((0x10 + c) * 4096) → s.claimBars c d.arg0 = false →
      Gives (exec (.sendDlc0 n) s) (fun t => t.hasStarted n d ∧ t.mem = s.mem ∧
        (t.can c).host = some (n.val, d.didx, ⟨d.arg0, 0, [], d.arg1 % 2 = 1⟩)))) ∧
  (∀ (s : State) (n : Fin 12) (idw : BitVec 31) (brs rtr esi : Bool) (dlc : Fin 16) (data bs : List Byte) (ts : Word) (err : Fin 8)
    (heavy : Bool) (fails : BootFails), s.canState n = 1 ∨ s.canState n = 2 ∨ s.canState n = 5 → s.pairState ≠ psFENCED →
    bs = padTo (dlcLen (idFd idw.toNat) dlc) data → (s.leads = false ∨ field bs 0 1 ≠ 0x10) →
    (err ≠ 0 → Gives (exec (.canFrameRx n idw brs rtr esi dlc data ts err heavy fails) s) (fun t =>
      t.fld (F.CAN_ESTAT_LEC n) = err.val ∧ (t.can n).good = 0 ∧ (t.can n).idleAt = s.now ∧
      t.fld (F.CAN_ESTAT_REC n) = min (s.fld (F.CAN_ESTAT_REC n) + (if heavy then 8 else 1)) 255 ∧ t.mem = s.mem)) ∧
    (err = 0 → idFd idw.toNat = false ∨ s.flag (F.CAN_CTL_FDEN n) → rtr = false → ∀ k, s.canFilter n (idw.toNat + if brs then 2 ^ 31 else 0) = some k →
      s.fld (F.CAN_FACT_ACT n k) = 2 → Gives (exec (.canFrameRx n idw brs rtr esi dlc data ts err heavy fails) s) (fun t =>
        (s.fld (F.CAN_ESTAT_REC n) ≤ 127 → t.fld (F.CAN_ESTAT_REC n) = s.fld (F.CAN_ESTAT_REC n) - 1) ∧
        (s.fld (F.CAN_FACT_MB n k) < 16 → s.flag (F.CAN_MB_CTL_LOCKED n (s.fld (F.CAN_FACT_MB n k))) = false →
          t.flag (F.CAN_MB_CTL_NEW n (s.fld (F.CAN_FACT_MB n k))) ∧
          t.fld (F.CAN_MB_ID_ID n (s.fld (F.CAN_FACT_MB n k))) = idw.toNat + (if brs then 2 ^ 31 else 0) ∧
          t.reg (R.CAN_MB_TS n (s.fld (F.CAN_FACT_MB n k))) = ts ∧ t.fld (F.CAN_MB_CTL_DLC n (s.fld (F.CAN_FACT_MB n k))) = dlc.val) ∧
        (s.flag (F.CAN_MB_CTL_LOCKED n (s.fld (F.CAN_FACT_MB n k))) →
          ∃ g : MbF, t.mbShadow n (s.fld (F.CAN_FACT_MB n k)) = some g ∧ g.idw = idw.toNat + (if brs then 2 ^ 31 else 0) ∧
            g.data = bs ∧ g.ts = ts.toNat)))) ∧
  (∀ (s : State) (acc : Acc) (n : Fin 12) (m : Fin 16),
    (s.takesRead acc (R.CAN_MB_ID n m) → Gives (exec (.mailboxLock acc n m) s) (fun t => t.rdata = s.reg (R.CAN_MB_ID n m) ∧
      t.flag (F.CAN_MB_CTL_LOCKED n m) ∧ (∀ a, a ≠ R.CAN_MB_CTL n m → t.reg a = s.reg a) ∧ t.net = s.net ∧ t.mem = s.mem)) ∧
    (s.takesRead acc (R.CAN_MB_TS n m) → s.flag (F.CAN_MB_CTL_LOCKED n m) → Gives (exec (.mailboxRelease acc n m none) s) (fun t =>
      t.rdata = s.reg (R.CAN_MB_TS n m) ∧ t.flag (F.CAN_MB_CTL_LOCKED n m) = false ∧ t.mem = s.mem ∧
      (s.mbShadow n m = none → t.flag (F.CAN_MB_CTL_NEW n m) = false) ∧
      (∀ g, s.mbShadow n m = some g → t.flag (F.CAN_MB_CTL_NEW n m) ∧ t.mbShadow n m = none ∧ t.fld (F.CAN_MB_ID_ID n m) = g.idw % 2 ^ 32))) ∧
    (∀ v : Word, s.takesWrite acc (R.CAN_MBCTL n) → v.getLsbD m → Gives (exec (.mailboxRelease acc n m (some v)) s) (fun t =>
      t.flag (F.CAN_MB_CTL_LOCKED n m) = false ∧ t.mem = s.mem)))

/-- ETH_SEND of a good frame sends it at once out of a port, padded to 60 bytes, completing with its stamp or its length, or
queues it for a T1S port; it completes EMPTY or BAD_LEN for other lengths. ETH_FRAME_RX at a working port counts a frame of
14 to 1,518 bytes, unless it is one of the slot engine. ETH_LINK changes the link, with LINK_CHG and interrupt 218. ETH_PLCA
on an active segment sets ERR and PLCA_ERR. PLCA_BEACON with BURST 0 sends the best waiting host frame where the slot engine
has none. FDB_AGE_OUT keeps the addresses used within AGE. (R436, R437, R438, R439, R440, R442) -/
def Obligations.EthernetCommandsComplete : Prop :=
  (∀ (s : State) (n : Fin 64) (ts : Word) (d : Desc) (q p : Nat), s.starts n d q 1 → s.ethMay q → p = ethPortOf q →
    (d.len = 0 → Gives (exec (.ethSend n ts) s) (fun t => t.hasDone n d stEMPTY 0 ∧ t.net = s.net ∧ t.mem = s.mem)) ∧
    (d.len ≠ 0 → d.len < 14 ∨ 1518 < d.len → Gives (exec (.ethSend n ts) s) (fun t => t.hasDone n d stBADLEN 0 ∧ t.net = s.net ∧ t.mem = s.mem)) ∧
    (∀ (bs f : List Byte), bs = s.bytes d.addr d.len → f = padTo (max 60 bs.length) bs → 14 ≤ d.len → d.len ≤ 1518 →
      (s.firstDenied (engine 30) .read d.addr d.len).isNone →
      (1514 < d.len → ethTagged bs = false → Gives (exec (.ethSend n ts) s) (fun t => t.hasDone n d stBADLEN 0 ∧ t.net = s.net)) ∧
      (d.len ≤ 1514 ∨ ethTagged bs → s.permits 14 (s.descMaster n d.didx) .write (q * 4096) →
        (p = 8 ∨ p = 9 → Gives (exec (.ethSend n ts) s) (fun t => t.hasStarted n d ∧ t.mem = s.mem ∧
          t.ethQueue p = s.ethQueue p ++ [⟨d.arg0 % 8, f, some (n.val, d.didx, d.arg0 / 256 % 2 = 1)⟩])) ∧
        (p ≠ 8 → p ≠ 9 → Gives (exec (.ethSend n ts) s) (fun t => SMap.get (fun _ => []) t.net.eth.sent p = f ∧ t.mem = s.mem ∧
          t.fld (F.ETH_TXCNT_COUNT p) = min (s.fld (F.ETH_TXCNT_COUNT p) + 1) (2 ^ 32 - 1) ∧
          t.hasDone n d stOK (if d.arg0 / 256 % 2 = 1 then ts.toNat else f.length)))))) ∧
  (∀ (s : State) (p : Fin 11) (frame : List Byte) (ts : BitVec 64) (fails : BootFails), s.portUp p → s.pairState ≠ psFENCED → 14 ≤ frame.length → frame.length ≤ 1518 →
    ethType frame ≠ 0x88B5 ∨ s.leads = false →
    Gives (exec (.ethFrameRx p frame ts fails) s) (fun t =>
      t.fld (F.ETH_RXCNT_COUNT p) = min (s.fld (F.ETH_RXCNT_COUNT p) + 1) (2 ^ 32 - 1) ∧
      (ethType frame ≠ 0x88B5 → s.vlanOf (s.ethVid p frame) = none → t.net = s.net ∧ t.mem = s.mem) ∧
      (∀ v, s.vlanOf (s.ethVid p frame) = some v → macGroup (ethSrc frame) = false → s.net.eth.fdb.length < 2048 →
        t.fdbPort (ethSrc frame) (s.ethVid p frame) = some p.val))) ∧
  (∀ (s : State) (p : Fin 11) (up : Bool) (speed : Fin 3), s.flag (F.ETH_PSTAT_LINK p) = !up →
    up = false ∨ (s.flag F.ETH_CTL_EN ∧ s.flag (F.ETH_PCFG_EN p)) →
    Gives (exec (.ethLink p up speed) s) (fun t => t.flag (F.ETH_PSTAT_LINK p) = up ∧ s.raised t F.ETH_STAT_LINK_CHG 218 ∧
      (up → t.fld (F.ETH_PSTAT_SPEED p) = portSpeed p speed) ∧ t.net = s.net)) ∧
  (∀ (s : State) (k : Fin 2), s.flag (F.ETH_PLCASTAT_ACTIVE k) → Gives (exec (.ethPlca k) s) (fun t =>
    t.flag (F.ETH_PLCASTAT_ERR k) ∧ s.raised t F.ETH_STAT_PLCA_ERR 218 ∧ t.net = s.net)) ∧
  (∀ (s : State) (k : Fin 2) (ts : Word) (x : EthQ), s.flag (F.ETH_PLCASTAT_ACTIVE k) → s.fld (F.ETH_PLCA_BURST k) = 0 →
    s.slotT1s k = none → bestOf (s.ethQueue (8 + k)) = some x →
    Gives (exec (.plcaBeacon k ts) s) (fun t => t.ethQueue (8 + k.val) = (s.ethQueue (8 + k.val)).erase x ∧
      (∀ y ∈ s.ethQueue (8 + k.val), y.cls ≤ x.cls) ∧ SMap.get (fun _ => []) t.net.eth.sent (8 + k.val) = x.frame ∧ t.mem = s.mem ∧
      t.fld (F.ETH_TXCNT_COUNT (8 + k.val)) = min (s.fld (F.ETH_TXCNT_COUNT (8 + k.val)) + 1) (2 ^ 32 - 1))) ∧
  (∀ s : State, s.fld F.ETH_AGE_AGE ≠ 0 → Gives (exec .fdbAgeOut s) (fun t => t.regs = s.regs ∧ t.mem = s.mem ∧
    t.net.eth.fdb = s.net.eth.fdb.filter (fun e => s.now < e.2.2.2 + 1000000000 * s.fld F.ETH_AGE_AGE)))

/-- TDM_LINK up with a matching partner forms the pair and gives a module in OFF its role; with another partner it sets
MISMATCH; down it clears the link. TDM_LANE counts block errors and removes a lane above 156 in 1 s. LINK_RETRAIN notes its
instant and trains. LINK_TIME_MEASURE, once per 1 ms, takes offset and rate and, on a module that follows, pair time.
HEARTBEAT_SEND toggles TDM_HBO at multiples of 1 ms. MIRROR_FRAME takes a heartbeat, TSEQ, odometer or MIRROR_OVF; items of
a module that does not follow change nothing. BLOCK_FRAME writes as master TDM. TDM_SEND waits for the partner, completing
with its answer. CTRL_FRAME forms the pair, ends the join, notes a handover, sets a safe state. (R446, R448, R449, R450, R451, R452, R457, R461, R466, R468) -/
def Obligations.TandemLinkCommandsComplete : Prop :=
  (∀ (s : State) (lanes : BitVec 4) (p : TdmPeer) (fails : BootFails), s.flag F.TDM_CTL_EN → lanes ≠ 0 → s.flag F.TDM_LINK_UP = false →
    s.pairState ≠ psFENCED →
    (p.code = s.part.code → s.part.code ≠ .d → s.sameWiring p → s.pairState = psOFF →
      Gives (exec (.tdmLink (some (lanes, p)) fails) s) (fun t => t.flag F.TDM_LINK_UP ∧ t.fld F.TDM_LINK_LANEMASK = lanes.toNat ∧
        t.fld F.TDM_LINK_WIDTH = laneWidth lanes.toNat ∧ s.raised t F.TDM_STAT_LINK_CHG 219 ∧ t.tdm.formed ∧ t.tdm.heard ∧
        t.fld F.TDM_STATE_PPSTATE = p.pstate.val ∧
        (p.pstate.val = psOFF → t.pairState = if s.part.sideB then psJOINING else psACTIVE) ∧
        (p.pstate.val = psSOLO ∨ p.pstate.val = psSTANDBY ∨ p.pstate.val = psACTIVE → t.pairState = psJOINING))) ∧
    (¬ (p.code = s.part.code ∧ s.part.code ≠ .d ∧ s.sameWiring p) →
      Gives (exec (.tdmLink (some (lanes, p)) fails) s) (fun t => t.flag F.TDM_LINK_UP ∧ t.flag F.TDM_STAT_MISMATCH ∧
        t.tdm.formed = false ∧ t.pairState = s.pairState ∧
        (p.code = s.part.code → s.part.code ≠ .d → t.flag F.TDM_STAT_WIRE_ERR)))) ∧
  (∀ (s : State) (fails : BootFails), s.flag F.TDM_LINK_UP → Gives (exec (.tdmLink none fails) s) (fun t => t.flag F.TDM_LINK_UP = false ∧
    t.fld F.TDM_LINK_WIDTH = 0 ∧ t.fld F.TDM_LINK_LANEMASK = 0 ∧ s.raised t F.TDM_STAT_LINK_CHG 219 ∧
    t.tdm.formed = false ∧ t.tdm.sends = [])) ∧
  (∀ (s : State) (l : Fin 4) (errors : Word) (m : Nat), s.flag F.TDM_LINK_UP → m = s.fld F.TDM_LINK_LANEMASK → m / 2 ^ l.val % 2 = 1 →
    (errors.toNat ≤ 156 → Gives (exec (.tdmLane l errors) s) (fun t => t.fld F.TDM_LINK_LANEMASK = m ∧ t.tdm = s.tdm ∧ t.mem = s.mem ∧
      t.fld (F.TDM_LANEERR_COUNT l) = min (s.fld (F.TDM_LANEERR_COUNT l) + errors.toNat) (2 ^ 32 - 1))) ∧
    (156 < errors.toNat → Gives (exec (.tdmLane l errors) s) (fun t => t.fld F.TDM_LINK_LANEMASK = m - 2 ^ l.val ∧
      t.fld F.TDM_LINK_WIDTH = laneWidth (m - 2 ^ l.val) ∧ t.flag F.TDM_LINK_UP = decide (m ≠ 2 ^ l.val) ∧
      s.raised t F.TDM_STAT_LANE 219))) ∧
  (∀ (s : State) (lanes : BitVec 4) (p : TdmPeer) (fails : BootFails), s.flag F.TDM_CTL_EN → s.flag F.TDM_LINK_UP = false →
    s.elapsed s.tdm.retryAt 100000000 → s.leads = false → s.pairState ≠ psFENCED →
    Gives (exec (.linkRetrain lanes p fails) s) (fun t => t.tdm.retryAt = s.now ∧ t.flag F.TDM_LINK_UP = decide (lanes ≠ 0))) ∧
  (∀ (s : State) (ofs : BitVec 64) (rate : BitVec 32) (pofs : BitVec 64) (locked : Bool), s.tdm.formed → s.due s.tdm.measAt 1000000 →
    Gives (exec (.linkTimeMeasure ofs rate pofs locked) s) (fun t => t.tdm.ofs = ofs.toInt ∧ t.tdm.rate = rate.toInt ∧
      t.tdm.measAt = s.now ∧ (s.mirrorOnly → t.tdm.pRate = rate.toInt ∧ t.tdm.pAt = s.now) ∧
      t.tim.partnerValid = (locked && s.fld F.TDM_STATE_PPSTATE = psACTIVE) ∧
      t.reg64 R.TDM_PTOFS_LO R.TDM_PTOFS_HI = (if s.mirrorOnly then toBits 64 (ofs.toInt + pofs.toInt) else s.reg64 R.TDM_PTOFS_LO R.TDM_PTOFS_HI))) ∧
  (∀ s : State, s.due s.tdm.hbAt 1000000 → Gives (exec .heartbeatSend s) (fun t => t.regs = s.regs ∧ t.mem = s.mem ∧
    t.tdm = { s.tdm with hbAt := s.now / 1000000 * 1000000,
                         hbo := if s.pairState ∈ [psSOLO, psSTANDBY, psPENDING, psACTIVE] then !s.tdm.hbo else s.tdm.hbo })) ∧
  (∀ s : State, s.tdm.formed →
    (∀ (q : Fin 7) (term : BitVec 16) (ready : Bool), Gives (exec (.mirrorFrame [.heartbeat q term ready]) s) (fun t =>
      t.fld F.TDM_STATE_PPSTATE = q.val ∧ t.tdm.pReady = ready ∧ t.tdm.pTerm = term.toNat ∧ t.tdm.lost = false ∧ t.tdm.hbSeen = s.now ∧
      (q.val = psSTANDBY → s.pairState = psSOLO → t.pairState = psACTIVE) ∧
      (q.val = psSOLO ∨ q.val = psACTIVE → s.mirrorOnly → t.term = term.toNat))) ∧
    (∀ v : BitVec 16, Gives (exec (.mirrorFrame [.tseq v]) s) (fun t => (s.mirrorOnly → t.slt = { s.slt with tseq := v.toNat }) ∧
      (s.mirrorOnly = false → t = s) ∧ t.regs = s.regs ∧ t.mem = s.mem)) ∧
    (∀ (e : Fin 4096) (v : BitVec 64), Gives (exec (.mirrorFrame [.odo e v]) s) (fun t => t.regs = s.regs ∧ t.mem = s.mem ∧
      (s.mirrorOnly → SMap.get (fun _ => 0) t.tdm.odos e.val = v.toInt) ∧ (s.mirrorOnly = false → t = s))) ∧
    Gives (exec (.mirrorFrame [.overflow]) s) (fun t => s.raised t F.TDM_STAT_MIRROR_OVF 219 ∧
      (s.mirrorOnly → t.pairState = psJOINING ∧ t.flag F.TDM_STATE_READY = false ∧ t.tdm.mirror = false))) ∧
  (∀ (s : State) (a : BitVec 40) (bs : List Byte), s.tdm.formed → (s.firstDenied (engine 31) .write a.toNat bs.length).isNone →
    exec (.blockFrame a bs) s = .next (s.setBytes a.toNat bs)) ∧
  (∀ (s : State) (n : Fin 64) (d : Desc), s.starts n d 0x5C 1 →
    (s.part.hasTDM = false → Gives (exec (.tdmSend n none) s) (fun t => t.hasDone n d stABSENT 0)) ∧
    (s.part.hasTDM → d.len = 0 → Gives (exec (.tdmSend n none) s) (fun t => t.hasDone n d stEMPTY 0 ∧ t.tdm = s.tdm)) ∧
    (s.part.hasTDM → 64 * 2 ^ 20 < d.len → Gives (exec (.tdmSend n none) s) (fun t => t.hasDone n d stBADLEN 0 ∧ t.tdm = s.tdm)) ∧
    (s.part.hasTDM → d.len ≠ 0 → d.len ≤ 64 * 2 ^ 20 →
      (s.tdm.formed = false → Gives (exec (.tdmSend n none) s) (fun t => t.hasDone n d stABORTED 0 ∧ t.tdm = s.tdm)) ∧
      (s.tdm.formed → (s.firstDenied (engine 31) .read d.addr d.len).isNone → s.permits 16 (s.descMaster n d.didx) .write 0x5C000 →
        Gives (exec (.tdmSend n none) s) (fun t => t.hasStarted n d ∧ t.tdm.sends = s.tdm.sends ++ [(n.val, d.didx)] ∧ t.mem = s.mem)))) ∧
  (∀ (s : State) (n : Fin 64) (ok : Bool) (d : Desc) (e : Inflight), s.tdm.sends.find? (fun p => p.1 = n.val) = some (n.val, d.didx) →
    (s.ring n).inflight = [e] → e.desc = d → e.res = none → Gives (exec (.tdmSend n (some ok)) s) (fun t =>
      t.tdm.sends = s.tdm.sends.erase (n.val, d.didx) ∧ t.hasDone n d (if ok then stOK else stACCESS) 0 ∧ t.regs = s.regs ∧ t.mem = s.mem)) ∧
  (∀ (s : State) (p : TdmPeer) (fails : BootFails), s.flag F.TDM_LINK_UP → s.pairState = psOFF → p.code = s.part.code →
    s.part.code ≠ .d → s.sameWiring p → p.pstate.val = psSOLO ∨ p.pstate.val = psACTIVE →
    Gives (exec (.ctrlFrame (.identity p) fails) s) (fun t => t.tdm.formed ∧ t.pairState = psJOINING ∧ t.fld F.TDM_STATE_PPSTATE = p.pstate.val)) ∧
  (∀ (s : State) (fails : BootFails), s.pairState = psSOLO → Gives (exec (.ctrlFrame .joined fails) s) (fun t => t.pairState = psACTIVE ∧
    s.raised t F.TDM_STAT_ROLE_CHG 220)) ∧
  (∀ (s : State) (fails : BootFails), s.pairState = psSTANDBY → s.flag F.TDM_STATE_READY →
    Gives (exec (.ctrlFrame .handover fails) s) (fun t => t.tdm = { s.tdm with tk := some (s.now, s.tkPos, true) } ∧ t.regs = s.regs ∧ t.mem = s.mem)) ∧
  (∀ (s : State) (ch : Fin 96) (cls : Fin 3) (ep on : Bool) (cmd : BitVec 16) (fails : BootFails),
    (s.isSplit cls ch = false → exec (.ctrlFrame (.safe cls ch ep on cmd) fails) s = .next s) ∧
    (s.isSplit 2 ch → Gives (exec (.ctrlFrame (.safe 2 ch true on cmd) fails) s) (fun t => t.dioSafe ch = on ∧
      t.flag (F.DIO_PTSAFE_SRC (ch.val / 32) (ch.val % 32)) ∧ t.mem = s.mem)))

/-- TDM_ENABLE notes when EN was set. SOLO_ENTRY enters SOLO. HB_LOST, three periods without a heartbeat, takes a READY STANDBY
with TKEN to PENDING, any other STANDBY sets NOTREADY, an ACTIVE stops the mirror. TAKEOVER at its point makes a PENDING or
STANDBY module ACTIVE, an ACTIVE one STANDBY, TERM one higher, READY clear, counted. TDM_CONFLICT sets CONFLICT: the higher
TERM, or side 0 at equal TERM, stays; the other goes to OFF by its TKO reset. HANDOVER of an ACTIVE module notes the
request, or sets NOTREADY. JOIN waits for a stride tick after it, at which MIRROR_START enters STANDBY. READY_SET sets
READY. SPLIT_EDGE holds an edge to its instant, or counts it late. (R445, R446, R447, R452, R453, R454, R455, R456, R458, R463, R465, R468) -/
def Obligations.TandemRoleCommandsComplete : Prop :=
  (∀ (s : State) (acc : Acc) (v : Word), s.takesWrite acc R.TDM_CTL → F.TDM_CTL_JOIN.get v = 0 → F.TDM_CTL_HANDOVER.get v = 0 →
    Gives (exec (.tdmEnable acc v) s) (fun t => t.flag F.TDM_CTL_EN ∧ t.pairState = s.pairState ∧ t.mem = s.mem ∧
      (s.flag F.TDM_CTL_EN = false → t.tdm = { s.tdm with enAt := s.now, heard := false }) ∧ (s.flag F.TDM_CTL_EN → t.tdm = s.tdm) ∧
      (∀ a, a ≠ R.TDM_CTL → t.reg a = s.reg a))) ∧
  (∀ s : State, s.flag F.TDM_CTL_EN → s.pairState = psOFF → s.tdm.heard = false → s.elapsed s.tdm.enAt 100000000 →
    Gives (exec .soloEntry s) (fun t => t.pairState = psSOLO ∧ s.raised t F.TDM_STAT_ROLE_CHG 220 ∧ t.term = s.term)) ∧
  (∀ s : State, s.flag F.TDM_CTL_EN → s.tdm.heard → s.tdm.lost = false → s.pairState ≠ psOFF → s.hbOver →
    Gives (exec .hbLost s) (fun t => t.tdm.lost ∧ s.raised t F.TDM_STAT_HB_LOST 219 ∧ t.term = s.term ∧
      (s.pairState = psSTANDBY → s.flag F.TDM_STATE_READY → s.flag F.TDM_CTL_TKEN → t.pairState = psPENDING ∧
        t.tdm.tk.map (fun x => (x.1, x.2.2)) = some (s.now, false) ∧ t.flag F.TDM_STAT_ROLE_CHG) ∧
      (s.pairState = psSTANDBY → s.flag F.TDM_STATE_READY = false ∨ s.flag F.TDM_CTL_TKEN = false → t.pairState = psSTANDBY ∧
        t.tdm.orphan ∧ t.flag F.TDM_STAT_NOTREADY) ∧
      (s.pairState = psACTIVE → t.pairState = psACTIVE ∧ t.tdm.mirror = false))) ∧
  (∀ (s : State) (pos : List (Fin 8 × BitVec 64)) (t0 : Nat) (p0 : Int) (hand : Bool), s.tdm.tk = some (t0, p0, hand) → s.tkPoint t0 p0 →
    (s.pairState = psACTIVE ∨ s.pairState = psSTANDBY ∨ (s.pairState = psPENDING ∧ s.flag F.TDM_STATE_READY ∧ s.flag F.TDM_CTL_TKEN) →
      Gives (exec (.tdmTakeover pos) s) (fun t => t.pairState = (if s.pairState = psACTIVE then psSTANDBY else psACTIVE) ∧
        t.term = (s.term + 1) % 2 ^ 16 ∧ t.flag F.TDM_STATE_READY = false ∧ t.tdm.tk = none ∧ t.flag F.TDM_STAT_ROLE_CHG ∧
        t.fld F.TDM_TKOCNT_COUNT = min (s.fld F.TDM_TKOCNT_COUNT + 1) (2 ^ 16 - 1))) ∧
    (s.pairState = psPENDING → s.flag F.TDM_STATE_READY = false ∨ s.flag F.TDM_CTL_TKEN = false →
      Gives (exec (.tdmTakeover pos) s) (fun t => t.pairState = psSTANDBY ∧ t.flag F.TDM_STAT_NOTREADY ∧ t.tdm.orphan ∧ t.term = s.term)) ∧
    (s.pairState = psOFF ∨ s.pairState = psSOLO ∨ s.pairState = psJOINING → Gives (exec (.tdmTakeover pos) s) (fun t =>
      t.tdm = { s.tdm with tk := none } ∧ t.regs = s.regs ∧ t.mem = s.mem))) ∧
  (∀ (s : State) (term : BitVec 16) (fails : BootFails), s.leads →
    (0 < termDiff s.term term.toNat ∨ (termDiff s.term term.toNat = 0 ∧ s.part.sideB = false) →
      Gives (exec (.tdmConflict term fails) s) (fun t => t.pairState = s.pairState ∧ s.raised t F.TDM_STAT_CONFLICT 219 ∧ t.tdm = s.tdm)) ∧
    (s.pwr.seq = none → termDiff s.term term.toNat < 0 ∨ (termDiff s.term term.toNat = 0 ∧ s.part.sideB) →
      Gives (exec (.tdmConflict term fails) s) (fun t => t.pairState = psOFF ∧ t.flag F.TDM_CTL_EN = false))) ∧
  (∀ (s : State) (acc : Acc) (v : Word), s.takesWrite acc R.TDM_CTL → F.TDM_CTL_EN.get v = s.fld F.TDM_CTL_EN →
    (F.TDM_CTL_JOIN.get v = 0 → s.pairState = psACTIVE →
      Gives (exec (.tdmHandover acc v) s) (fun t =>
        (s.tdm.formed → s.tdm.pReady → s.tdm.lost = false → t.tdm = { s.tdm with tk := some (s.now, s.tkPos, true) }) ∧
        (s.tdm.formed = false ∨ s.tdm.pReady = false ∨ s.tdm.lost → t.tdm = s.tdm ∧ s.raised t F.TDM_STAT_NOTREADY 219) ∧
        t.pairState = psACTIVE ∧ t.mem = s.mem)) ∧
    (F.TDM_CTL_HANDOVER.get v = 0 → Gives (exec (.tdmJoin acc v) s) (fun t => t.mem = s.mem ∧ t.pairState = s.pairState ∧
      t.tdm = (if s.pairState = psJOINING ∧ s.tdm.formed then { s.tdm with joinDue := true, joinAt := s.now } else s.tdm)))) ∧
  (∀ (s : State) (pos : List (Fin 8 × BitVec 64)), s.tdm.joinDue → s.pairState = psJOINING → s.tdm.formed → s.tdm.lost = false →
    s.tdm.joinAt < s.now → s.now = s.str.tickAt →
    Gives (exec (.mirrorStart pos) s) (fun t => t.pairState = psSTANDBY ∧ t.term = s.tdm.pTerm % 2 ^ 16 ∧ t.tdm.mirror ∧ t.tdm.rejoin ∧
      t.tdm.joinDue = false ∧ t.tdm.cleanAt = s.now ∧ t.slt.issue = [] ∧ s.raised t F.TDM_STAT_ROLE_CHG 220)) ∧
  (∀ s : State, s.pairState = psSTANDBY → s.tdm.mirror → s.tdm.formed → s.elapsed s.tdm.cleanAt 2000000000 →
    (∀ a < 8, (s.fldInt (F.TDM_AXDIV_DIV a)).natAbs ≤ s.fld F.TDM_AXTOL_TOL) → (∀ p ∈ s.ept.eps, p.2.state ≠ epREJOIN) →
    Gives (exec .readySet s) (fun t => t.flag F.TDM_STATE_READY ∧ t.pairState = psSTANDBY ∧ t.term = s.term ∧
      (∀ a, a ≠ R.TDM_STATE → t.reg a = s.reg a) ∧ t.tdm = s.tdm ∧ t.mem = s.mem)) ∧
  (∀ (s : State) (g : TdmEdge) (te : Int), s.pairState = psSTANDBY ∨ s.pairState = psPENDING → s.tdm.formed →
    s.isSplit g.cls g.ch → te = g.te.toInt - s.pairOfs s.now →
    (te < s.now → Gives (exec (.splitEdge (some g)) s) (fun t => t.tdm.splits = s.tdm.splits ∧
      t.fld F.TDM_LATECNT_COUNT = min (s.fld F.TDM_LATECNT_COUNT + 1) (2 ^ 32 - 1))) ∧
    ((s.now : Int) < te → (∀ p ∈ s.tdm.splits, s.now < p.2.2.2.2) → Gives (exec (.splitEdge (some g)) s) (fun t =>
      t.tdm.splits = s.tdm.splits ++ [(g.cls.val, g.ch.val, g.level, g.cmd.map (·.toNat), te.toNat)] ∧ t.regs = s.regs ∧ t.mem = s.mem))) ∧
  (∀ s : State, s.pairState = psSTANDBY ∨ s.pairState = psPENDING → Gives (exec (.splitEdge none) s) (fun t =>
    t.tdm.splits = s.tdm.splits.filter (fun p => s.now < p.2.2.2.2)))

/-- BEGIN with a good header empties the inactive slot but for the header, starts WRITING and completes OK; a partition in
progress completes BUSY, a fifth one 0x80, a bad header 0x81 with the reason, partition unchanged. DATA appends bytes in
order, or completes 0x82. COMMIT of a fully written container gives STAGED, of a shorter one 0x83. ABORT empties the
inactive slot; DEAD stays DEAD. ACTIVATE of a staged AFW or PFW that passes its check gives TRIAL. CONFIRM makes the trial
slot active and raises the rollback counter, never lowering it. UPD_RESTART makes an APP or RTX reset with sub-cause 2.
KEY_REVOKE adds revoked keys and removes none. (R470, R474, R475, R476, R477, R479, R480, R481, R482, R484, R485) -/
def Obligations.UpdateCommandsComplete : Prop :=
  (∀ (s : State) (n : Fin 64) (d : Desc) (p : Nat) (h : List Byte), s.starts n d 9 1 → p = d.arg0 % 8 → d.len = 256 → h = s.bytes d.addr 256 →
    (s.inProgress p → Gives (exec (.updBegin n) s) (fun t => t.hasDone n d stBUSY 0 ∧ t.upd = s.upd ∧ t.mem = s.mem)) ∧
    (s.inProgress p = false → 4 ≤ s.fld F.UPD_BUSY_NBUSY → Gives (exec (.updBegin n) s) (fun t => t.hasDone n d 0x80 0 ∧ t.upd = s.upd ∧ t.mem = s.mem)) ∧
    (s.inProgress p = false → s.fld F.UPD_BUSY_NBUSY < 4 → (s.firstDenied (engine 19) .read d.addr 256).isNone →
      (6 ≤ p → Gives (exec (.updBegin n) s) (fun t => ∃ r ∈ [1, 2, 3], t.hasDone n d 0x81 r ∧ t.upd = s.upd ∧ t.mem = s.mem)) ∧
      (p < 6 → s.headerReason p h ≠ 0 → Gives (exec (.updBegin n) s) (fun t => t.hasDone n d 0x81 (s.headerReason p h) ∧
        t.upd = s.upd ∧ t.pstate p = s.pstate p ∧ t.mem = s.mem)) ∧
      (p < 6 → s.headerReason p h = 0 → Gives (exec (.updBegin n) s) (fun t => t.hasDone n d stOK 0 ∧
        t.slot p (s.inactSlot p) = .written h ∧ t.slot p (s.actSlot p) = s.slot p (s.actSlot p) ∧ t.inProgress p ∧
        t.pstate p = (if s.pstate p = 4 then 4 else 1) ∧ (∀ q < 6, q ≠ p → t.pstate q = s.pstate q ∧ t.inProgress q = s.inProgress q) ∧
        t.mem = s.mem)))) ∧
  (∀ (s : State) (n : Fin 64) (d : Desc) (p : Nat) (bs : List Byte), p = d.arg0 % 8 → p < 6 → s.writing p →
    s.slot p (s.inactSlot p) = .written bs →
    (s.starts n d 9 2 → d.len ≠ 0 → d.len ≤ 2 ^ 24 → 256 + d.arg1 + d.len ≤ 368 + hPLEN bs →
      (d.arg1 ≠ bs.length - 256 → Gives (exec (.updData n) s) (fun t => t.hasDone n d 0x82 0 ∧ t.upd = s.upd ∧ t.mem = s.mem)) ∧
      (d.arg1 = bs.length - 256 → (s.firstDenied (engine 19) .read d.addr d.len).isNone → Gives (exec (.updData n) s) (fun t =>
        t.hasDone n d stOK d.len ∧ t.slot p (s.inactSlot p) = .written (bs ++ s.bytes d.addr d.len) ∧ t.pstate p = s.pstate p ∧ t.mem = s.mem))) ∧
    (s.starts n d 9 3 →
      (bs.length < 368 + hPLEN bs → Gives (exec (.updCommit n) s) (fun t => t.hasDone n d 0x83 0 ∧ t.pstate p = s.pstate p ∧ t.upd = s.upd ∧ t.mem = s.mem)) ∧
      (368 + hPLEN bs ≤ bs.length → Gives (exec (.updCommit n) s) (fun t => t.hasDone n d stOK 0 ∧ t.pstate p = 2 ∧
        s.raised t F.UPD_STAT_STAGED 221 ∧ t.upd = s.upd ∧ t.mem = s.mem)))) ∧
  (∀ (s : State) (n : Fin 64) (d : Desc) (p : Nat), s.starts n d 9 4 → p = d.arg0 % 8 → p < 6 → s.writing p ∨ s.pstate p = 2 →
    Gives (exec (.updAbort n) s) (fun t => t.hasDone n d stOK 0 ∧ t.slot p (s.inactSlot p) = .empty ∧
      t.slot p (s.actSlot p) = s.slot p (s.actSlot p) ∧ t.pstate p = (if s.pstate p = 4 then 4 else 0) ∧ t.inProgress p = false ∧
      s.raised t F.UPD_STAT_ABORTED 221 ∧ t.mem = s.mem)) ∧
  (∀ (s : State) (n : Fin 64) (fails : BootFails) (d : Desc) (p : Nat), s.starts n d 9 5 → p = d.arg0 % 8 →
    (¬ ((p = 3 ∨ p = 4) ∧ s.pstate p = 2) → Gives (exec (.updActivate n fails) s) (fun t => t.hasDone n d 0x85 0 ∧ t.upd = s.upd ∧ t.mem = s.mem)) ∧
    (p = 3 ∨ p = 4 → (s.ring n).queue = 9 → s.pstate p = 2 → s.bootCheck fails p (s.inactSlot p) = 0 → Gives (exec (.updActivate n fails) s) (fun t =>
      t.hasDone n d stOK 0 ∧ t.pstate p = 3 ∧ t.fld (F.UPD_PSTAT_TRIALS p) = 1 ∧ t.actSlot p = s.actSlot p ∧ s.raised t F.UPD_STAT_TRIAL 221))) ∧
  (∀ (s : State) (n : Fin 64) (d : Desc) (p : Nat), s.starts n d 9 6 → p = d.arg0 % 8 → p < 6 →
    (s.pstate p ≠ 3 → Gives (exec (.updConfirm n) s) (fun t => t.hasDone n d 0x85 0 ∧ t.upd = s.upd ∧ t.mem = s.mem)) ∧
    (s.pstate p = 3 → p = 5 → s.flag (F.UPD_PSTAT_LINKED 5) → Gives (exec (.updConfirm n) s) (fun t => t.hasDone n d 0x84 0 ∧
      t.pstate 5 = 3 ∧ t.upd = s.upd ∧ t.mem = s.mem)) ∧
    (s.pstate p = 3 → p ≠ 5 ∨ s.flag (F.UPD_PSTAT_LINKED 5) = false → Gives (exec (.updConfirm n) s) (fun t => t.hasDone n d stOK 0 ∧
      t.pstate p = 0 ∧ t.actSlot p = s.inactSlot p ∧ t.upd = s.upd ∧ t.mem = s.mem ∧
      t.fld (F.UPD_RBCNT_COUNT p) = max (s.fld (F.UPD_RBCNT_COUNT p)) (hRBVER (s.slotHdr p (s.inactSlot p))) ∧
      (p = 2 → s.flag (F.UPD_PSTAT_LINKED 5) → s.pstate 5 = 3 → t.pstate 5 = 0 ∧ t.actSlot 5 = s.inactSlot 5)))) ∧
  (∀ (s : State) (acc : Acc) (fails : BootFails), s.takesWrite acc R.UPD_RESTART → s.pwr.seq = none →
    Gives (exec (.updRestartApp acc fails) s) (fun t => t.tookReset .app 2 ∧
      t.fld F.RST_BOOTCNT_COUNT = min (s.fld F.RST_BOOTCNT_COUNT + 1) (2 ^ 32 - 1) ∧ t.str = s.str ∧ t.sol = s.sol ∧ t.now = s.now ∧ t.mem = s.mem) ∧
    Gives (exec (.updRestartRtx acc fails) s) (fun t => t.tookReset .rtx 2 ∧
      t.pairState = psOFF ∧ t.tdm = Tdm.init ∧ t.flag F.TDM_CTL_EN = false ∧ t.now = s.now)) ∧
  (∀ (s : State) (acc : Acc) (k : BitVec 4), s.takesWrite acc R.UPD_KEYREV →
    Gives (exec (.keyRevoke acc k) s) (fun t => t.reg R.UPD_KEYREV = s.reg R.UPD_KEYREV ||| k.zeroExtend 32 ∧
      (∀ a, a ≠ R.UPD_KEYREV → t.reg a = s.reg a) ∧ t.upd = s.upd ∧ t.mem = s.mem))

/-- EVENT_INTAKE takes the front event: it folds into the open record, opens a record, or is counted lost with the recorder off
or FULL. RECORD_CLOSE closes the open record after FLUSHT. JOURNAL_WRITE appends the oldest closed record, or writes
EVR_FULL and sets FULL. READ and READ_STAGE copy journal or staged bytes and complete with their count. RECORD refuses a bad
record with BADREC, and accepts a good one. FLUSH closes the open record and completes at once with nothing staged, else
waits. ERASE starts the journal again with one record. A freeze begins, ends and times out. Losses are recorded at the next
chance. Nothing else in these commands stores to memory. (R488, R489, R490, R491, R492, R493, R494, R497) -/
def Obligations.EventRecorderCommandsComplete : Prop :=
  (∀ (s : State) (e : Event) (rest : List Event), s.evr.intake = e :: rest →
    (s.flag F.EVR_CTL_EN = false ∨ s.flag F.EVR_STAT_FULL → Gives (exec .eventIntake s) (fun t => t.evr.intake = rest ∧ t.evr.open_ = s.evr.open_ ∧
      t.evr.staged = s.evr.staged ∧ s.raised t F.EVR_STAT_LOST 222 ∧ t.fld F.EVR_LOSTCNT_COUNT = min (s.fld F.EVR_LOSTCNT_COUNT + 1) (2 ^ 32 - 1) ∧
      t.mem = s.mem)) ∧
    (∀ r : EvRec, s.flag F.EVR_CTL_EN → s.flag F.EVR_STAT_FULL = false → s.evr.lost = 0 → s.evr.open_ = some r → s.folds e → r.rep + 1 < 65535 →
      Gives (exec .eventIntake s) (fun t => t.evr.intake = rest ∧ t.evr.staged = s.evr.staged ∧ t.mem = s.mem ∧
        t.evr.open_ = some { r with rep := r.rep + 1, last := min (stampSec e.stamp - stampSec r.stamp) 65535 })) ∧
    (s.flag F.EVR_CTL_EN → s.flag F.EVR_STAT_FULL = false → s.evr.lost = 0 → s.folds e = false → s.evr.used + e.toRec.size ≤ 262144 →
      s.fld F.EVR_RECCFG_FLUSHT ≠ 0 → Gives (exec .eventIntake s) (fun t => t.evr.intake = rest ∧ t.evr.open_ = some e.toRec ∧
        t.evr.staged = s.evr.staged ++ s.evr.open_.toList ∧ t.fld F.EVR_OPEN_CODE = e.code % 2 ^ 16 ∧ t.mem = s.mem))) ∧
  (∀ (s : State) (r : EvRec), s.evr.open_ = some r →
    (s.elapsed r.mtb (1000000 * s.fld F.EVR_RECCFG_FLUSHT) → Gives (exec .recordClose s) (fun t =>
      t.evr = { s.evr with staged := s.evr.staged ++ [r], open_ := none } ∧ t.mem = s.mem)) ∧
    (s.elapsed r.mtb (1000000 * s.fld F.EVR_RECCFG_FLUSHT) = false → exec .recordClose s = .next s)) ∧
  (∀ (s : State) (r : EvRec) (rest : List EvRec), s.evr.staged = r :: rest →
    (s.journalOpen → s.evr.journal.length + r.size ≤ 268435456 - 64 → Gives (exec .journalWrite s) (fun t =>
      t.evr.journal = s.evr.journal ++ r.bytes ∧ (s.evr.lost = 0 → t.evr.staged = rest ∧ t.evr.open_ = s.evr.open_) ∧
      (s.evr.lost ≠ 0 → ({ s.evr with staged := rest } : Evr).used + 24 ≤ 262144 → t.evr.lost = 0) ∧
      t.fld F.EVR_JWPTR_PTR = (s.evr.journal.length + r.bytes.length) % 2 ^ 29 ∧ t.mem = s.mem)) ∧
    (s.journalOpen → 268435456 - 64 < s.evr.journal.length + r.size → Gives (exec .journalWrite s) (fun t => t.flag F.EVR_STAT_FULL ∧
      t.evr.staged = s.evr.staged ∧ t.evr.journal.length = s.evr.journal.length + 20 ∧ t.evr.flushes = [] ∧ t.mem = s.mem)) ∧
    (s.journalOpen = false → exec .journalWrite s = .next s)) ∧
  (∀ (s : State) (n : Fin 64) (d : Desc) (bs : List Byte), s.starts n d 8 1 → d.len ≠ 0 → d.len % 4 = 0 → d.len ≤ 2 ^ 24 → d.arg0 % 4 = 0 →
    bs = (s.evr.journal.drop d.arg0).take d.len → (s.firstDenied (engine 18) .write d.addr bs.length).isNone →
    Gives (exec (.evrRead n none) s) (fun t => t.hasDone n d stOK bs.length ∧ (∀ a, t.byte a = (s.setBytes d.addr bs).byte a) ∧ t.evr = s.evr)) ∧
  (∀ (s : State) (n : Fin 64) (d : Desc) (bs : List Byte), s.starts n d 8 2 → d.len ≠ 0 → d.len % 4 = 0 →
    bs = wholeRecs d.len (s.evr.staged ++ s.evr.open_.toList) → (s.firstDenied (engine 18) .write d.addr bs.length).isNone →
    Gives (exec (.evrReadStage n) s) (fun t => t.hasDone n d stOK bs.length ∧ (∀ a, t.byte a = (s.setBytes d.addr bs).byte a) ∧ t.evr = s.evr)) ∧
  (∀ (s : State) (n : Fin 64) (d : Desc) (bs : List Byte) (len : Nat), s.starts n d 8 3 → d.len ≠ 0 → d.len % 4 = 0 →
    (s.firstDenied (engine 18) .read d.addr d.len).isNone → bs = s.bytes d.addr d.len → len = field bs 0 2 % 512 →
    (field bs 2 2 < 0xF000 ∨ len < 5 ∨ 257 < len ∨ d.len ≠ 4 * len - 4 → Gives (exec (.evrRecord n) s) (fun t => t.hasDone n d 0x80 0 ∧
      s.raised t F.EVR_STAT_BADREC 222 ∧ t.evr = s.evr ∧ t.mem = s.mem)) ∧
    (0xF000 ≤ field bs 2 2 → 5 ≤ len → len ≤ 257 → d.len = 4 * len - 4 → s.flag F.EVR_CTL_EN → s.flag F.EVR_STAT_FULL = false →
      s.evr.intake = [] → s.evr.lost = 0 → s.evr.open_ = none → s.evr.used + 4 * len ≤ 262144 → s.fld F.EVR_RECCFG_FLUSHT ≠ 0 →
      Gives (exec (.evrRecord n) s) (fun t => t.hasDone n d stOK 0 ∧ t.mem = s.mem ∧ t.evr.staged = s.evr.staged ∧ ∃ r : EvRec,
        t.evr.open_ = some r ∧ r.code = field bs 2 2 ∧ r.fw ∧ r.args = wordsOf (len - 5) (bs.drop 16) ∧ r.stamp = s.stamp ∧ r.rep = 0))) ∧
  (∀ (s : State) (n : Fin 64) (d : Desc), s.starts n d 8 4 → d.len ≠ 0 → d.len % 4 = 0 →
    (s.flag F.EVR_CTL_FREEZE → Gives (exec (.evrFlush n) s) (fun t => t.hasDone n d 0x81 0 ∧ t.evr = s.evr ∧ t.mem = s.mem)) ∧
    (s.flag F.EVR_CTL_FREEZE = false → s.flag F.EVR_STAT_FULL → Gives (exec (.evrFlush n) s) (fun t => t.hasDone n d 0x82 0 ∧ t.evr = s.evr ∧ t.mem = s.mem)) ∧
    (s.flag F.EVR_CTL_FREEZE = false → s.flag F.EVR_STAT_FULL = false → Gives (exec (.evrFlush n) s) (fun t =>
      t.evr.open_ = none ∧ t.evr.staged = s.evr.staged ++ s.evr.open_.toList ∧ t.mem = s.mem ∧
      (t.evr.staged = [] → t.hasDone n d stOK 0 ∧ t.evr.flushes = s.evr.flushes) ∧
      (t.evr.staged ≠ [] → t.hasStarted n d ∧ t.evr.flushes = s.evr.flushes ++ [(n.val, d.didx, t.evr.staged.length)])))) ∧
  (∀ (s : State) (n : Fin 64) (d : Desc), s.starts n d 8 5 → d.len ≠ 0 → d.len % 4 = 0 →
    (s.flag F.EVR_CTL_FREEZE → Gives (exec (.evrErase n) s) (fun t => t.hasDone n d 0x81 0 ∧ t.evr = s.evr ∧ t.mem = s.mem)) ∧
    (s.flag F.EVR_CTL_FREEZE = false → Gives (exec (.evrErase n) s) (fun t => t.hasDone n d stOK 0 ∧ t.evr.journal.length = 24 ∧
      t.fld F.EVR_JWPTR_PTR = 24 ∧ t.flag F.EVR_STAT_FULL = false ∧ t.fld F.EVR_LOSTCNT_COUNT = 0 ∧ s.raised t F.EVR_STAT_ERASED 222 ∧
      (s.evr.lost = 0 → t.evr.staged = s.evr.staged ∧ t.evr.open_ = s.evr.open_) ∧
      (s.evr.lost ≠ 0 → s.flag F.EVR_CTL_EN → s.evr.used + 24 ≤ 262144 → t.evr.lost = 0) ∧ t.mem = s.mem))) ∧
  (∀ (s : State) (acc : Acc), s.takesWrite acc R.EVR_CTL →
    Gives (exec (.freezeStart acc) s) (fun t => t.flag F.EVR_CTL_FREEZE ∧ t.flag F.EVR_CTL_EN = s.flag F.EVR_CTL_EN ∧ t.mem = s.mem ∧
      t.evr.freezeAt = (if s.flag F.EVR_CTL_FREEZE then s.evr.freezeAt else some s.now) ∧
      (s.evr.lost = 0 → t.evr = { s.evr with freezeAt := t.evr.freezeAt } ∧ ∀ a, a ≠ R.EVR_CTL → t.reg a = s.reg a)) ∧
    Gives (exec (.freezeEnd acc) s) (fun t => t.flag F.EVR_CTL_FREEZE = false ∧ t.flag F.EVR_CTL_EN = s.flag F.EVR_CTL_EN ∧ t.mem = s.mem ∧
      t.evr.freezeAt = none ∧
      (s.evr.lost = 0 → t.evr = { s.evr with freezeAt := none } ∧ ∀ a, a ≠ R.EVR_CTL → t.reg a = s.reg a))) ∧
  (∀ (s : State) (t0 : Nat), s.evr.freezeAt = some t0 → s.flag F.EVR_CTL_FREEZE → s.fld F.EVR_RECCFG_FRZTO ≠ 0 →
    (s.elapsed t0 (1000000000 * s.fld F.EVR_RECCFG_FRZTO) → Gives (exec .freezeTimeout s) (fun t => t.flag F.EVR_CTL_FREEZE = false ∧
      s.raised t F.EVR_STAT_UNFROZEN 222 ∧ t.evr = { s.evr with freezeAt := none } ∧ t.mem = s.mem)) ∧
    (s.elapsed t0 (1000000000 * s.fld F.EVR_RECCFG_FRZTO) = false → exec .freezeTimeout s = .next s))

/-- A reset not folded records kind, sub-cause and its bit; POR and BOR restart module time and BOOTCNT, MOD and stronger ones
leave memory unlisted and the pair state OFF, RTX and APP resets count BOOTCNT at once, and a reset no stronger than the
sequence in progress adds only its bit. Conditions below the stated limits do nothing. RST_CMD with the key makes a MOD, RTX
or APP reset, else sets CMD_ERR. STARTUP_RELEASE ends the sequence in RUN, or TRIM while the supply holds it. HEARTBEAT_LOSS
switches a die's low-side and high-side outputs off and holds its DIO points. Watchdogs arm, restart, warn and expire. (R477, R501, R510, R511, R512, R513, R514, R515, R517) -/
def Obligations.ResetCommandsComplete : Prop :=
  (∀ s : State, (s.pwr.seq ≠ some .por → Gives (exec .resetPor s) (fun t => t.tookReset .por 0 ∧ t.fld F.RST_SEEN_KINDS = 1 ∧
      t.fld F.RST_BOOTCNT_COUNT = 1 ∧ t.now = 0 ∧ t.mem = [] ∧ t.pairState = psOFF ∧ t.evr.journal = s.evr.journal)) ∧
    (s.pwr.seq = some .por → exec .resetPor s = .next (s.seeReset .por))) ∧
  (∀ (s : State) (kl30 ign ms : BitVec 16),
    (max kl30.toNat ign.toNat < 4700 → 10 ≤ ms.toNat → s.pwr.seq ≠ some .por → s.pwr.seq ≠ some .bor →
      Gives (exec (.resetBor kl30 ign ms) s) (fun t => t.tookReset .bor 0 ∧ t.fld F.RST_SEEN_KINDS = 2 ∧ t.fld F.RST_BOOTCNT_COUNT = 1 ∧
        t.now = 0 ∧ t.mem = [] ∧ t.pairState = psOFF ∧ t.evr.journal = s.evr.journal)) ∧
    (4700 ≤ max kl30.toNat ign.toNat ∨ ms.toNat < 10 → exec (.resetBor kl30 ign ms) s = .next s)) ∧
  (∀ (s : State) (ns : BitVec 32),
    (10000 ≤ ns.toNat → s.pwr.seq = none → Gives (exec (.resetPin ns) s) (fun t => t.tookReset .pin 0 ∧ t.now = s.now ∧ t.mem = [] ∧ t.pairState = psOFF)) ∧
    (1000 ≤ ns.toNat → ns.toNat < 10000 → s.pwr.seq = none → Gives (exec (.resetPin ns) s) (fun t => t.tookReset .pin 0 ∨ (t.regs = s.regs ∧ t.mem = s.mem))) ∧
    (ns.toNat < 1000 → exec (.resetPin ns) s = .next s)) ∧
  (∀ s : State, s.pwr.seq = none → s.domOn .rtx → Gives (exec .resetWdt s) (fun t => t.tookReset .wdt 5 ∧ t.now = s.now ∧ t.mem = [] ∧ t.pairState = psOFF)) ∧
  (∀ (s : State) (temp ms : BitVec 16),
    (130 < temp.toInt → 1 ≤ ms.toNat → s.pwr.seq = none → Gives (exec (.resetMod temp ms) s) (fun t => t.tookReset .mod 7 ∧ t.now = s.now ∧
      t.mem = [] ∧ t.pairState = psOFF)) ∧
    (130 < temp.toInt → 1 ≤ ms.toNat → ∀ q : ResetKind, s.pwr.seq = some q → 2 ≤ q.strength → exec (.resetMod temp ms) s = .next (s.seeReset .mod)) ∧
    (temp.toInt ≤ 130 ∨ ms.toNat = 0 → exec (.resetMod temp ms) s = .next s)) ∧
  (∀ (s : State) (upd : Bool) (cause : Fin 3) (fails : BootFails), s.pwr.seq = none →
    Gives (exec (.resetRtx upd fails) s) (fun t => t.tookReset .rtx (if upd then 2 else 1) ∧ t.pairState = psOFF ∧ t.flag F.TDM_CTL_EN = false ∧
      t.tdm = Tdm.init ∧ t.fld F.RST_BOOTCNT_COUNT = min (s.fld F.RST_BOOTCNT_COUNT + 1) (2 ^ 32 - 1) ∧ t.now = s.now) ∧
    Gives (exec (.resetApp cause fails) s) (fun t => t.tookReset .app (cause.val + 1) ∧ t.str = s.str ∧ t.sol = s.sol ∧ t.mem = s.mem ∧
      t.fld F.RST_BOOTCNT_COUNT = min (s.fld F.RST_BOOTCNT_COUNT + 1) (2 ^ 32 - 1) ∧ t.now = s.now)) ∧
  (∀ (s : State) (acc : Acc) (key : BitVec 16) (fails : BootFails), s.takesWrite acc R.RST_CMD →
    (key.toNat = 0x5253 → s.pwr.seq = none → Gives (exec (.rstCmdMod acc key) s) (fun t => t.tookReset .mod 1 ∧ t.mem = [] ∧ t.pairState = psOFF) ∧
      Gives (exec (.rstCmdRtx acc key fails) s) (fun t => t.tookReset .rtx 1 ∧ t.pairState = psOFF) ∧
      Gives (exec (.rstCmdApp acc key fails) s) (fun t => t.tookReset .app 1 ∧ t.str = s.str ∧ t.mem = s.mem)) ∧
    (key.toNat ≠ 0x5253 → Gives (exec (.rstCmdMod acc key) s) (fun t => s.turnedAway t F.RST_STAT_CMD_ERR 224) ∧
      Gives (exec (.rstCmdRtx acc key fails) s) (fun t => s.turnedAway t F.RST_STAT_CMD_ERR 224) ∧
      Gives (exec (.rstCmdApp acc key fails) s) (fun t => s.turnedAway t F.RST_STAT_CMD_ERR 224))) ∧
  (∀ (s : State) (kl30 ms : BitVec 16) (fails : BootFails),
    (s.pwr.seq = none ∨ kl30.toNat < 6000 ∨ ms.toNat < 10 → exec (.startupRelease kl30 ms fails) s = .next s) ∧
    (s.pwr.seq.isSome → 6000 ≤ kl30.toNat → 10 ≤ ms.toNat → s.pwr.wake = false → s.pstate 0 = 0 → s.bootCheck fails 0 (s.actSlot 0) = 0 →
      Gives (exec (.startupRelease kl30 ms fails) s) (fun t => t.pwr.seq = none ∧ t.pwr.hb ∧ t.domOn .rtx ∧ t.domOn .app ∧ t.domOn .pwr0 ∧
        t.powerState = (if s.flag F.PWRM_STATE_TRIMSUP then 1 else 0) ∧ t.now = s.now ∧ t.pending = s.pending))) ∧
  (∀ (s : State) (d : Fin 2), s.domOn (dieDom d) → s.pwr.hb ∨ s.elapsed s.pwr.hbAt 30000 →
    Gives (exec (.heartbeatLoss d) s) (fun t => t.holding d ∧ t.pwr.hb = false ∧ ∀ j < 48, t.lswOn (48 * d + j) = false)) ∧
  (∀ (s : State) (acc : Acc) (w : Fin 2) (v : Word), s.takesWrite acc (R.RST_WDCFG w) → Gives (exec (.wdArm acc w v) s) (fun t =>
    s.wrote t (R.RST_WDCFG w) ((F.RST_WDCFG_EN w).put v 1) ∧ t.mem = s.mem ∧ (s.flag (F.RST_WDCFG_EN w) → t.pwr = s.pwr) ∧
    (s.flag (F.RST_WDCFG_EN w) = false → t.wd w = ⟨s.now, if w.val = 0 ∧ s.domOn .app = false then some s.now else none, false⟩))) ∧
  (∀ (s : State) (acc : Acc) (w : Fin 2) (v : Word) (fails : BootFails), s.takesWrite acc (R.RST_WDKICK w) →
    (s.wdCounts w = false → exec (.wdKick acc w v fails) s = .next s) ∧
    (s.wdCounts w → v = 0x0000A5A5 → Gives (exec (.wdKick acc w v fails) s) (fun t => t.wd w = ⟨s.now, none, false⟩ ∧ t.regs = s.regs ∧ t.mem = s.mem)) ∧
    (s.wdCounts w → v ≠ 0x0000A5A5 → Gives (exec (.wdKick acc w v fails) s) (fun t => if w.val = 1 then t.tookReset .wdt 4
      else if s.flag (F.RST_WDCFG_ACTION 0) then t.tookReset .wdt 3 else t.tookReset .app 3))) ∧
  (∀ (s : State) (w : Fin 2), s.wdCounts w → s.fld (F.RST_WDCFG_WARN w) ≠ 0 → (s.wd w).warned = false →
    s.fld (F.RST_WDCFG_TO w) * 1000000 * s.fld (F.RST_WDCFG_WARN w) ≤ (s.now - (s.wd w).since) * 100 →
    Gives (exec (.wdWarn w) s) (fun t => (t.wd w).warned ∧ (t.wd w).since = (s.wd w).since ∧ t.mem = s.mem ∧
      s.raised t (if w.val = 0 then F.RST_STAT_WDWARN0 else F.RST_STAT_WDWARN1) 224)) ∧
  (∀ (s : State) (w : Fin 2) (fails : BootFails), s.wdCounts w →
    (s.elapsed (s.wd w).since (s.fld (F.RST_WDCFG_TO w) * 1000000) → Gives (exec (.wdExpiry w fails) s) (fun t => if w.val = 1 then t.tookReset .wdt 4
      else if s.flag (F.RST_WDCFG_ACTION 0) then t.tookReset .wdt 3 else t.tookReset .app 3)) ∧
    (s.elapsed (s.wd w).since (s.fld (F.RST_WDCFG_TO w) * 1000000) = false → exec (.wdExpiry w fails) s = .next s))

/-- TRIM_ENTRY takes RUN to TRIM with IMG off; TRIM_EXIT goes back unless a request holds TRIM. LOW_SUPPLY is a MOD reset of
sub-cause 6. POWER_DIE_CUTOFF cuts the powered dies off and back on. IGN_CHANGE moves IGNLVL and can hold a wake. An
accepted request of RUN, TRIM, PARK, SLEEP or DORMANT enters it, the last three at once where no panel is live, else with
BUSY; one not accepted only sets REQ_ERR. WAKE from PARK is an APP reset, from SLEEP or DORMANT a MOD reset with its sources
in PWRM_WAKECAUSE, in an entry it is held until 1 ms past it. DOMAIN_ENABLE_WRITE powers IMG, DSP and NAV as asked. What
powers domains up is stated with the wake script off. (R499, R500, R501, R502, R503, R504, R505, R506, R518) -/
def Obligations.PowerCommandsComplete : Prop :=
  (∀ (s : State) (kl30 us : BitVec 16),
    (kl30.toNat ≤ 9200 → 1000 ≤ us.toNat → s.flag F.PWRM_STATE_TRIMSUP = false → s.powerState ≤ 2 → Gives (exec (.trimEntry kl30 us) s) (fun t =>
      t.flag F.PWRM_STATE_TRIMSUP ∧ t.fld F.PWRM_SUP_KL30 = kl30.toNat / 10 ∧ t.powerState = (if s.powerState = 0 then 1 else s.powerState) ∧
      (s.powerState = 0 → t.domOn .img = false ∧ s.raised t F.PWRM_STAT_TRIM 223 ∧ s.raised t F.PWRM_STAT_STATE_CHG 223))) ∧
    (9200 < kl30.toNat ∨ us.toNat < 1000 → exec (.trimEntry kl30 us) s = .next s)) ∧
  (∀ (s : State) (kl30 ms : BitVec 16),
    (9300 ≤ kl30.toNat → 100 ≤ ms.toNat → s.flag F.PWRM_STATE_TRIMSUP → s.flag F.PWRM_WSCTL_EN = false → Gives (exec (.trimExit kl30 ms) s) (fun t =>
      t.flag F.PWRM_STATE_TRIMSUP = false ∧ t.powerState = (if s.powerState = 1 ∧ s.pwr.reqTrim = false then 0 else s.powerState))) ∧
    (kl30.toNat < 9300 ∨ ms.toNat < 100 → exec (.trimExit kl30 ms) s = .next s)) ∧
  (∀ (s : State) (kl30 us : BitVec 16),
    (kl30.toNat ≤ 6000 → 50 ≤ us.toNat → s.pwr.seq = none → s.fld F.PWRM_DOMSTAT_ON ≠ 1 → Gives (exec (.lowSupply kl30 us) s) (fun t =>
      t.tookReset .mod 6 ∧ t.pwr.lowExit ∧ t.mem = [] ∧ t.now = s.now)) ∧
    (6000 < kl30.toNat ∨ us.toNat < 50 → exec (.lowSupply kl30 us) s = .next s)) ∧
  (∀ (s : State) (d : Fin 2) (kl30 ms : BitVec 16), s.domOn (dieDom d) →
    (s.cut d = 0 → kl30.toNat < 5000 → Gives (exec (.powerDieCutoff true kl30 ms) s) (fun t => t.cut d = 3 ∧ s.raised t (F.LSW_STAT_SUPPLY d) (189 + d))) ∧
    (s.cut d = 3 → 6000 < kl30.toNat → 10 ≤ ms.toNat → Gives (exec (.powerDieCutoff false kl30 ms) s) (fun t => t.cut d = 0)) ∧
    (5000 ≤ kl30.toNat → exec (.powerDieCutoff true kl30 ms) s = .next s)) ∧
  (∀ (s : State) (level : Bool) (mv ms : BitVec 16),
    (s.flag F.PWRM_STAT_IGNLVL ≠ level → (if level then 6500 ≤ mv.toNat else mv.toNat ≤ 4500) → s.fld F.PWRM_WAKECFG_IGNDB ≤ ms.toNat →
      Gives (exec (.ignChange level mv ms) s) (fun t => t.flag F.PWRM_STAT_IGNLVL = level ∧ t.fld F.PWRM_SUP_IGN = mv.toNat / 10 ∧
        s.raised t (if level then F.PWRM_STAT_IGNON else F.PWRM_STAT_IGNOFF) 223 ∧ t.powerState = s.powerState ∧ t.mem = s.mem ∧
        t.pwr = (if level = true ∧ (s.pwr.entry.isSome ∨ (2 ≤ s.powerState ∧ s.powerState ≤ 4)) ∧ s.flag F.PWRM_WAKECFG_IGN
          then { s.pwr with held := s.pwr.held ||| 1 ||| (if s.pwr.entry.isSome then 8 else 0) } else s.pwr))) ∧
    (s.flag F.PWRM_STAT_IGNLVL = level ∨ ms.toNat < s.fld F.PWRM_WAKECFG_IGNDB → exec (.ignChange level mv ms) s = .next s)) ∧
  (∀ (s : State) (acc : Acc) (key : BitVec 16) (fails : BootFails), s.takesWrite acc R.PWRM_REQ →
    (s.mayRequest acc (reqWord key 0) = false → Gives (exec (.reqRun acc key fails) s) (fun t => s.turnedAway t F.PWRM_STAT_REQ_ERR 223)) ∧
    (s.mayRequest acc (reqWord key 1) = false → Gives (exec (.reqTrim acc key) s) (fun t => s.turnedAway t F.PWRM_STAT_REQ_ERR 223)) ∧
    (s.mayRequest acc (reqWord key 2) = false → Gives (exec (.reqPark acc key) s) (fun t => s.turnedAway t F.PWRM_STAT_REQ_ERR 223)) ∧
    (s.mayRequest acc (reqWord key 3) = false → Gives (exec (.reqSleep acc key) s) (fun t => s.turnedAway t F.PWRM_STAT_REQ_ERR 223)) ∧
    (s.mayRequest acc (reqWord key 4) = false → Gives (exec (.reqDormant acc key) s) (fun t => s.turnedAway t F.PWRM_STAT_REQ_ERR 223)) ∧
    (s.mayRequest acc (reqWord key 0) → s.flag F.PWRM_WSCTL_EN = false → Gives (exec (.reqRun acc key fails) s) (fun t => t.fld F.PWRM_STATE_REQ = 0 ∧
      (s.powerState = 0 → t.powerState = 0 ∧ t.pwr = { s.pwr with reqTrim := false }) ∧
      (s.powerState = 1 → t.powerState = (if s.flag F.PWRM_STATE_TRIMSUP then 1 else 0) ∧ t.pwr.reqTrim = false) ∧
      (s.powerState = 2 → s.pwr.seq = none → t.powerState = (if s.flag F.PWRM_STATE_TRIMSUP then 1 else 0) ∧ t.tookReset .app 8))) ∧
    (s.mayRequest acc (reqWord key 1) → Gives (exec (.reqTrim acc key) s) (fun t => t.fld F.PWRM_STATE_REQ = 1 ∧ t.powerState = 1 ∧ t.pwr.reqTrim ∧
      (s.powerState = 0 → t.domOn .img = false))) ∧
    (s.mayRequest acc (reqWord key 2) → (s.panelsLive = false → Gives (exec (.reqPark acc key) s) (fun t => s.entered t 2)) ∧
      (s.panelsLive → Gives (exec (.reqPark acc key) s) (fun t => s.entering t 2))) ∧
    (s.mayRequest acc (reqWord key 3) → (s.panelsLive = false → Gives (exec (.reqSleep acc key) s) (fun t => s.entered t 3)) ∧
      (s.panelsLive → Gives (exec (.reqSleep acc key) s) (fun t => s.entering t 3))) ∧
    (s.mayRequest acc (reqWord key 4) → (s.panelsLive = false → Gives (exec (.reqDormant acc key) s) (fun t => s.entered t 4)) ∧
      (s.panelsLive → Gives (exec (.reqDormant acc key) s) (fun t => s.entering t 4)))) ∧
  (∀ (s : State) (k : Fin 3) (ms : BitVec 16) (fails : BootFails), s.pwr.seq = none → s.wakeActive k ms.toNat →
    (s.pwr.entry.isSome → Gives (exec (.pwrWake (some k) ms fails) s) (fun t => t = { s with pwr := { s.pwr with held := s.pwr.held ||| 2 ^ k.val ||| 8 } })) ∧
    (s.pwr.entry = none → s.powerState = 2 → s.flag F.PWRM_WSCTL_EN = false → (s.pwr.held / 8 % 2 = 0 ∨ k ≠ 0 ∨ s.elapsed s.pwr.offAt 1000000) → Gives (exec (.pwrWake (some k) ms fails) s) (fun t => t.tookReset .app 8 ∧
      t.fld F.PWRM_WAKECAUSE_SRC = (s.pwr.held ||| 2 ^ k.val) % 8 ∧ t.pwr.held = 0 ∧ t.powerState = (if s.flag F.PWRM_STATE_TRIMSUP then 1 else 0))) ∧
    (s.pwr.entry = none → s.powerState = 3 ∨ s.powerState = 4 → (s.pwr.held / 8 % 2 = 0 ∨ k ≠ 0 ∨ s.elapsed s.pwr.offAt 1000000) → Gives (exec (.pwrWake (some k) ms fails) s) (fun t => t.tookReset .mod 8 ∧
      t.fld F.PWRM_WAKECAUSE_SRC = (s.pwr.held ||| 2 ^ k.val) % 8 ∧ t.pwr.held = 0 ∧ t.pwr.wake ∧ t.now = s.now)) ∧
    (s.pwr.entry = none → s.powerState < 2 → exec (.pwrWake (some k) ms fails) s = .next s)) ∧
  (∀ (s : State) (acc : Acc) (v : Word), s.takesWrite acc R.PWRM_DOMEN →
    (s.powerState < 3 → s.pwr.seq = none → s.flag F.PWRM_WSCTL_EN = false → Gives (exec (.domainEnableWrite acc v) s) (fun t =>
      t.reg R.PWRM_DOMEN = writtenWord R.PWRM_DOMEN (s.locked R.PWRM_DOMEN) (s.reg R.PWRM_DOMEN) v ∧ t.powerState = s.powerState ∧
      (∀ d ∈ [Dom.img, .dsp, .nav], t.domOn d = t.domWanted s.powerState d) ∧ ∀ d ∈ [Dom.rtx, .ctl, .app, .pwr0, .net], t.domOn d = s.domOn d)) ∧
    (3 ≤ s.powerState ∨ s.pwr.seq.isSome → Gives (exec (.domainEnableWrite acc v) s) (fun t => s.wrote t R.PWRM_DOMEN v ∧ t.pwr = s.pwr ∧ t.mem = s.mem)))

/-- PMU_SNAPSHOT with GO latches every present counter and module time, advances SEQ with cause DOORBELL, and drops the record
where queue 0x60 has no ring, unless a trigger made a snapshot in this µs; without GO nothing changes. PMU_OVERFLOW of a
counter that counts adds its increment modulo 2^48; a wrap sets its PMU_OVF bit, OVF and, with OVIE, interrupt 225; one that
does not count changes nothing. PMU_BW_WINDOW copies the port counters to PMU_BWk, clears them and counts SEQ.
PMU_COUNTER_READ of the low word latches the high word, which a read of the high word gives. DEBUG_PORT_TEST sets or leaves
the test mode, with MODE as it then is. (R521, R522, R523, R525, R526, R527, R528) -/
def Obligations.CounterCommandsComplete : Prop :=
  (∀ (s : State) (acc : Acc) (v : Word), s.takesWrite acc R.PMU_SNAP_DB →
    (v.toNat % 2 = 0 → exec (.pmuSnapshot acc v) s = .next s) ∧
    (v.toNat % 2 = 1 → s.pwr.snap.map (fun x => (x.1, x.2.1)) ≠ some (s.now / 1000, false) → Gives (exec (.pmuSnapshot acc v) s) (fun t =>
      t.fld F.PMU_SNAP_STAT_SEQ = (s.fld F.PMU_SNAP_STAT_SEQ + 1) % 2 ^ 16 ∧ t.flag F.PMU_SNAP_STAT_DOORBELL ∧ t.fld F.PMU_SNAP_STAT_TRG = 0 ∧
      t.reg64 R.PMU_SNAP_MTB_LO R.PMU_SNAP_MTB_HI = s.now % 2 ^ 64 ∧ s.raised t F.PMU_STAT_SNAP 225 ∧
      (∀ n < 56, t.fld (F.PMU_SNAP_LO_COUNT n) + t.fld (F.PMU_SNAP_HI_COUNT n) * 2 ^ 32 = (if s.pmcPresent n then s.pmc n else 0) ∧ t.pmc n = s.pmc n) ∧
      (s.ringOf 0x60 = none → t.mem = s.mem ∧ s.raised t F.PMU_STAT_SNAPDROP 225 ∧
        t.fld F.PMU_SNAPDROP_COUNT = min (s.fld F.PMU_SNAPDROP_COUNT + 1) (2 ^ 32 - 1))))) ∧
  (∀ (s : State) (n : Fin 56) (inc : BitVec 48) (pc btgt : BitVec 64) (run : BitVec 16),
    (s.pmcCounts n = false → exec (.pmuOverflow n inc pc btgt run) s = .next s) ∧
    (s.pmcCounts n → Gives (exec (.pmuOverflow n inc pc btgt run) s) (fun t => t.pmc n = (s.pmc n + inc.toNat) % 2 ^ 48 ∧
      (∀ m < 56, m ≠ n.val → t.pmc m = s.pmc m) ∧ t.mem = s.mem ∧
      (s.pmc n + inc.toNat < 2 ^ 48 → t.fld (pmuOvf n) = s.fld (pmuOvf n) ∧ ∀ i < 256, t.isPending i = s.isPending i) ∧
      (2 ^ 48 ≤ s.pmc n + inc.toNat → t.fld (pmuOvf n) = 1 ∧ s.raised t F.PMU_STAT_OVF 225 ∧
        (s.flag (F.PMU_CFG_OVIE n) → s.pmuBw = false ∨ 32 ≤ n.val → t.isPending 225))))) ∧
  (∀ s : State, s.fld F.PMU_BWCFG_WIN ≠ 0 → s.pmuBw →
    (s.elapsed s.pwr.bwAt (1000 * s.fld F.PMU_BWCFG_WIN) → Gives (exec .pmuBwWindow s) (fun t =>
      (∀ k < 32, t.fld (F.PMU_BW_BYTES k) = min (s.pmc k) (2 ^ 32 - 1) ∧ t.pmc k = 0) ∧ t.fld F.PMU_BWSEQ_SEQ = (s.fld F.PMU_BWSEQ_SEQ + 1) % 2 ^ 32 ∧
      t.pwr = { s.pwr with bwAt := s.pwr.bwAt + 1000 * s.fld F.PMU_BWCFG_WIN } ∧ t.mem = s.mem)) ∧
    (s.elapsed s.pwr.bwAt (1000 * s.fld F.PMU_BWCFG_WIN) = false → exec .pmuBwWindow s = .next s)) ∧
  (∀ (s : State) (acc : Acc) (n : Fin 56),
    (s.takesRead acc (R.PMU_CNT_LO n) → Gives (exec (.pmuCounterRead acc n false) s) (fun t => t.rdata = s.reg (R.PMU_CNT_LO n) ∧
      SMap.get (fun _ => 0) t.pwr.latch n.val = s.fld (F.PMU_CNT_HI_COUNT n) ∧ t.regs = s.regs ∧ t.mem = s.mem)) ∧
    (s.takesRead acc (R.PMU_CNT_HI n) → Gives (exec (.pmuCounterRead acc n true) s) (fun t =>
      t.rdata = w32 (SMap.get (fun _ => 0) s.pwr.latch n.val) ∧ t.regs = s.regs ∧ t.pwr = s.pwr ∧ t.mem = s.mem))) ∧
  (∀ (s : State) (enter : Bool), Gives (exec (.debugPortTest enter) s) (fun t => t.pwr.test = enter ∧ t.fld F.PMU_STAT_MODE = t.pmuModeNow ∧
    (enter → t.fld F.PMU_STAT_MODE = 2) ∧ t.mem = s.mem ∧
    (t.fld F.PMU_STAT_MODE ≠ s.fld F.PMU_STAT_MODE → (∀ n < 32, t.pmc n = 0) ∧ t.pwr.bwAt = s.now) ∧
    (t.fld F.PMU_STAT_MODE = s.fld F.PMU_STAT_MODE → t.regs = s.regs)))

/-- At reset the register file lists no register that holds its reset value and memory lists no byte: both are in the canonical
form that every step keeps. (00_scope.md, 23_power_reset_startup.md) -/
def Obligations.ResetIsInCanonicalForm : Prop :=
  Registers.wf State.reset.regs ∧ Memory.wf State.reset.mem

/-- From every state whose register file and memory are in canonical form (addresses strictly rising, nothing listed that an
unlisted address reads as, memory only where DRAM and bulk SRAM lie), a step that answers a next state gives one where both
are again. So equal register files and equal memories are equal data in every run, and no command stores a byte outside DRAM
and SRAM. (00_scope.md, 01_machine_model.md, 02_rings_tables_access.md) -/
def Obligations.StepKeepsTheCanonicalForm : Prop :=
  ∀ s t : State, Registers.wf s.regs → Memory.wf s.mem → step s = .next t → Registers.wf t.regs ∧ Memory.wf t.mem

/-- Whatever a command does, it leaves the commands that still wait and the identity of the part (ordering code, stepping,
serial number, keys, side) as they were; a step takes exactly the front command off the queue. (00_scope.md, 01_machine_model.md) -/
def Obligations.CommandsLeaveTheQueueAndThePart : Prop :=
  (∀ (c : Instr) (s t : State), exec c s = .next t → t.pending = s.pending ∧ t.part = s.part) ∧
  (∀ (c : Instr) (rest : List Instr) (s t : State), s.pending = c :: rest → step s = .next t → t.pending = rest ∧ t.part = s.part)

/-- The MTB runs on unchanged through every command: no register write, servo action, step, takeover, power state or reset
changes it, but a POR and a BOR, after which it is 0 or, where they fold into a POR or BOR that is not over or the dwell is
too short, what it was. (R335, R349, R511) -/
def Obligations.NoCommandMovesModuleTime : Prop :=
  ∀ (c : Instr) (s t : State), exec c s = .next t →
    t.now = s.now ∨ (t.now = 0 ∧ (c = .resetPor ∨ ∃ kl30 ign ms, c = .resetBor kl30 ign ms))

/-- The event journal in flash only grows: every command but ERASE leaves all its bytes in place and adds at the end or not at
all, whatever reset, power state or register write the command is. (R492, R493, R494, R498) -/
def Obligations.OnlyEraseShortensTheJournal : Prop :=
  ∀ (c : Instr) (s t : State), (∀ n, c ≠ .evrErase n) → exec c s = .next t → s.evr.journal <+: t.evr.journal

/-- For each of the 286 commands, touches lists the parts of the state it may change (the registers, memory, the rings, the
recorder, one unit or another). Every other part, memory and the registers among them where they are not listed, is after
the command exactly what it was before. (00_scope.md, 01_machine_model.md, 02_rings_tables_access.md) -/
def Obligations.EveryCommandKeepsToItsUnits : Prop :=
  ∀ (c : Instr) (s t : State), exec c s = .next t → ∀ p, p ∉ touches c → s.same t p

/-- For the axis source and standstill events, digital points, load-switch open load and retry count, comparators, open inputs,
impacts and the end of an inertial self-test: after the command, every register but the named ones of that channel, its unit
status, the pending word of its interrupt and, where an event is recorded, the count of events lost, holds what it held
before. (R81, R82, R83, R84, R237, R244, R253, R257, R273, R276, R281, R490) -/
def Obligations.OutputAndSensorEventsChangeOnlyTheirRegisters : Prop :=
  (∀ (s t : State) (a : Fin 8) (j : Fin 3), exec (.sourceRestore a j) s = .next t → s.onlyRegs t [R.STR_AXSTAT a]) ∧
  (∀ (s t : State) (a : Fin 8) (j : Fin 3), exec (.sourceTimeout a j) s = .next t → s.onlyRegs t [R.STR_AXSTAT a, R.RNG_INT_PEND 5]) ∧
  (∀ (s t : State) (a : Fin 8), exec (.standstillEntry a) s = .next t → s.onlyRegs t [R.STR_AXSTAT a]) ∧
  (∀ (s t : State) (a : Fin 8), exec (.axisXchk a) s = .next t → s.onlyRegs t ([R.STR_AXSTAT a, R.RNG_INT_PEND 5] ++ eventRegs)) ∧
  (∀ (s t : State) (a : Fin 8), exec (.axisLost a) s = .next t → s.onlyRegs t ([R.STR_AXSTAT a, R.RNG_INT_PEND 5] ++ eventRegs)) ∧
  (∀ (s t : State) (n : Fin 64) (level : Bool) (us : BitVec 32), exec (.debouncedEdge n level us) s = .next t → s.onlyRegs t [R.DIO_INLVL (n / 32), R.DIO_INTS (n / 32) (n % 32), R.DIO_PTSTAT (n / 32) (n % 32), R.DIO_RAWLVL (n / 32), R.DIO_STAT (n / 32), R.RNG_INT_PEND ((191 + n / 32) / 32)]) ∧
  (∀ (s t : State) (n : Fin 64) (extv : Bool) (ms : BitVec 16), exec (.dioDiagFlag n extv ms) s = .next t → s.onlyRegs t [R.DIO_PTSTAT (n / 32) (n % 32), R.DIO_STAT (n / 32), R.RNG_INT_PEND ((191 + n / 32) / 32)]) ∧
  (∀ (s t : State) (n : Fin 96) (ms : BitVec 16), exec (.lswOpenLoad n ms) s = .next t → s.onlyRegs t [R.LSW_CHDUTY (n / 48) (n % 48), R.LSW_CHSTAT (n / 48) (n % 48), R.LSW_STAT (n / 48), R.RNG_INT_PEND 5]) ∧
  (∀ (s t : State) (n : Fin 96), exec (.retryCountClear n) s = .next t → s.onlyRegs t [R.LSW_CHSTAT (n / 48) (n % 48)]) ∧
  (∀ (s t : State) (j : Fin 48 × BitVec 40 × BitVec 40 × BitVec 24), exec (.comparatorClear j) s = .next t → s.onlyRegs t [R.AFE_CHSTAT j.1]) ∧
  (∀ (s t : State) (j : Fin 48 × BitVec 40 × BitVec 40 × BitVec 24), exec (.afeOpen j) s = .next t → s.onlyRegs t ([R.AFE_CHSTAT j.1, R.AFE_STAT] ++ eventRegs)) ∧
  (∀ (s t : State) (n : Fin 24) (ms : BitVec 16), exec (.plsOpenClear n ms) s = .next t → s.onlyRegs t [R.PLS_CHSTAT n]) ∧
  (∀ (s t : State) (n : Fin 24) (peak : BitVec 10) (ts : Word), exec (.plsImpact n peak ts) s = .next t → s.onlyRegs t [R.PLS_AUX n, R.PLS_CHSTAT n, R.PLS_CNT n, R.PLS_TS n]) ∧
  (∀ (s t : State) (n : Fin 24) (ms : BitVec 16), exec (.plsOpen n ms) s = .next t → s.onlyRegs t ([R.PLS_CHSTAT n, R.PLS_STAT] ++ eventRegs)) ∧
  (∀ (s t : State) (pass : Bool), exec (.selfTestEnd pass) s = .next t → s.onlyRegs t [R.IMU_CTL, R.IMU_STAT, R.RNG_INT_PEND 6])

/-- For notch moves, jamming and antenna events, the UTC change, panel links, dropped raw frames, address claims, TP aborts,
PLCA errors, READY, closing a record, the end of a freeze, IGN, watchdog warnings, NOP descriptors and coalescing timeouts:
after the command, every register but the named ones, the pending word of the interrupt and, where an event is recorded, the
count of events lost, holds what it held before. (R42, R326, R328, R338, R412, R434, R440, R454, R488, R493, R499, R513) -/
def Obligations.SystemEventsChangeOnlyTheirRegisters : Prop :=
  (∀ (s t : State) (a : Fin 2) (b : Fin 3) (f : Fin 4) (tone : BitVec 16), exec (.notchMove a b f tone) s = .next t → s.onlyRegs t [R.GRF_NOTCH a b f]) ∧
  (∀ (s t : State) (a : Fin 2) (b : Fin 3) (power : BitVec 16) (agc : BitVec 8), exec (.gnsJam a b power agc) s = .next t → s.onlyRegs t ([R.GRF_JAM a b, R.GRF_STAT] ++ eventRegs)) ∧
  (∀ (s t : State) (a : Fin 2) (current : BitVec 12), exec (.antRetry a current) s = .next t → s.onlyRegs t ([R.GRF_ANTSTAT a, R.GRF_STAT, R.GNS_ACQSTAT, R.GNS_CHINFO, R.GNS_CHUSE] ++ eventRegs)) ∧
  (∀ (s t : State), exec (.gnsInjStale) s = .next t → s.onlyRegs t ([R.GNS_SOL, R.GNS_STAT] ++ eventRegs)) ∧
  (∀ (s t : State), exec (.utcChange) s = .next t → s.onlyRegs t [R.TIM_UTC, R.TIM_UTCAT]) ∧
  (∀ (s t : State) (p : Fin 2), exec (.linkTrained p) s = .next t → s.onlyRegs t [R.DSP_PSTAT p]) ∧
  (∀ (s t : State) (p : Fin 2), exec (.hpdLoss p) s = .next t → s.onlyRegs t [R.DSP_PSTAT p]) ∧
  (∀ (s t : State) (p : Fin 2) (pix : BitVec 22), exec (.dspUnderrun p pix) s = .next t → s.onlyRegs t [R.DSP_PSTAT p, R.DSP_STAT, R.RNG_INT_PEND 6]) ∧
  (∀ (s t : State) (p : Fin 2), exec (.dspLink p) s = .next t → s.onlyRegs t ([R.DSP_PSTAT p, R.DSP_STAT] ++ eventRegs)) ∧
  (∀ (s t : State) (c : Fin 8), exec (.rawFrameAgeDrop c) s = .next t → s.onlyRegs t [R.IMG_DROPCNT, R.IMG_STAT, R.RNG_INT_PEND 6]) ∧
  (∀ (s t : State) (n : Fin 4), exec (.addressClaimed n) s = .next t → s.onlyRegs t [R.CAN_ACSTAT n]) ∧
  (∀ (s t : State) (n : Fin 4), exec (.canTpAbort n) s = .next t → s.onlyRegs t ([R.CAN_STAT n, R.CAN_TPSTAT n] ++ eventRegs)) ∧
  (∀ (s t : State) (k : Fin 2), exec (.ethPlca k) s = .next t → s.onlyRegs t ([R.ETH_PLCASTAT k, R.ETH_STAT] ++ eventRegs)) ∧
  (∀ (s t : State), exec (.readySet) s = .next t → s.onlyRegs t [R.TDM_STATE]) ∧
  (∀ (s t : State), exec (.recordClose) s = .next t → s.onlyRegs t [R.EVR_OPEN, R.EVR_STGUSED]) ∧
  (∀ (s t : State), exec (.freezeTimeout) s = .next t → s.onlyRegs t [R.EVR_CTL, R.EVR_STAT, R.RNG_INT_PEND 6]) ∧
  (∀ (s t : State) (level : Bool) (mv ms : BitVec 16), exec (.ignChange level mv ms) s = .next t → s.onlyRegs t [R.PWRM_STAT, R.PWRM_SUP, R.RNG_INT_PEND 6]) ∧
  (∀ (s t : State) (w : Fin 2), exec (.wdWarn w) s = .next t → s.onlyRegs t ([R.RST_STAT, R.RNG_INT_PEND 7] ++ eventRegs)) ∧
  (∀ (s t : State) (n : Fin 64), exec (.nop n) s = .next t → s.onlyRegs t ([R.RNG_HW n] ++ eventRegs)) ∧
  (∀ (s t : State) (n : Fin 64), exec (.coalesceTimeout n) s = .next t → s.onlyRegs t [R.RNG_INT_PEND (n / 32)])

/-- A write of RNG_CFGn that is taken (RNG_HWn equal to RNG_DBn): a SIZE k of 4 to 16, with QUEUE and CRING as R31 and R39
allow, leaves SIZE at k and a ring of 2^k entries; a SIZE of 0 leaves it 0; 1 to 3 and 17 to 31 leave it 0 and set CFG_ERR.
The ring base is a multiple of 64 in every state. (R32) -/
def Obligations.RingSizesAndDisabledRings : Prop :=
  (∀ (s : State) (n : Nat), s.ringBase n % 64 = 0) ∧
  (∀ (s : State) (acc : Acc) (n : Fin 64) (v new : Word), s.takesWrite acc (R.RNG_CFG n) → s.ringHw n = s.ringDb n →
    new = writtenWord (R.RNG_CFG n) (s.locked (R.RNG_CFG n)) (s.reg (R.RNG_CFG n)) v →
    (4 ≤ (F.RNG_CFG_SIZE n).get v → (F.RNG_CFG_SIZE n).get v ≤ 16 → validQueue ((F.RNG_CFG_QUEUE n).get new) →
      s.part.absentQueue ((F.RNG_CFG_QUEUE n).get new) = none →
      ((F.RNG_CFG_QUEUE n).get new ≠ 0 → s.queueTaken n ((F.RNG_CFG_QUEUE n).get new) = false ∧ (F.RNG_CFG_CRING n).get new ≠ n.val ∧
        s.fld (F.RNG_CFG_QUEUE ((F.RNG_CFG_CRING n).get new)) = 0) →
      Gives (exec (.ringConfigure acc n v) s) (fun t => t.fld (F.RNG_CFG_SIZE n) = (F.RNG_CFG_SIZE n).get v ∧
        t.ringSize n = 2 ^ (F.RNG_CFG_SIZE n).get v)) ∧
    ((F.RNG_CFG_SIZE n).get v = 0 → Gives (exec (.ringConfigure acc n v) s) (fun t => t.fld (F.RNG_CFG_SIZE n) = 0)) ∧
    (1 ≤ (F.RNG_CFG_SIZE n).get v → (F.RNG_CFG_SIZE n).get v ≤ 3 ∨ 17 ≤ (F.RNG_CFG_SIZE n).get v →
      Gives (exec (.ringConfigure acc n v) s) (fun t => t.fld (F.RNG_CFG_SIZE n) = 0 ∧ s.raised t (F.RNG_STAT_CFG_ERR n) (64 + n))))

/-- A write of RNG_CFGn that names, with a SIZE of 4 to 16, a queue of a unit that the part does not have leaves SIZE reading 0,
and the module records ABSENT_UNIT_ACCESS with the base of the unit window, where the intake of the recorder has room. (R6) -/
def Obligations.RingOfAnAbsentUnitStaysDisabled : Prop :=
  ∀ (s : State) (acc : Acc) (n : Fin 64) (v new : Word) (base : Nat), s.takesWrite acc (R.RNG_CFG n) → s.ringHw n = s.ringDb n →
    new = writtenWord (R.RNG_CFG n) (s.locked (R.RNG_CFG n)) (s.reg (R.RNG_CFG n)) v →
    4 ≤ (F.RNG_CFG_SIZE n).get v → (F.RNG_CFG_SIZE n).get v ≤ 16 → s.part.absentQueue ((F.RNG_CFG_QUEUE n).get new) = some base →
    Gives (exec (.ringConfigure acc n v) s) (fun t => t.fld (F.RNG_CFG_SIZE n) = 0 ∧
      (s.evr.intake.length < 64 → (t.evr.intake.drop s.evr.intake.length).map (fun e => (e.code, e.args)) = [(0x0101, [w32 base])]))

/-- A write of SIZE 0 stops the ring: its started descriptors stay in flight, every descriptor not started is complete with
ABORTED, in order, where its fetch is permitted. Such a write that also changes QUEUE or CRING while RNG_HWn differs from
RNG_DBn takes only SIZE and sets CFG_BUSY. Any other write while RNG_HWn differs from RNG_DBn is ignored and CFG_BUSY is
set; while they are equal it is taken. (R38) -/
def Obligations.RingWritesWhileWorkIsPending : Prop :=
  ∀ (s : State) (acc : Acc) (n : Fin 64) (v new : Word), s.takesWrite acc (R.RNG_CFG n) →
    new = writtenWord (R.RNG_CFG n) (s.locked (R.RNG_CFG n)) (s.reg (R.RNG_CFG n)) v →
    ((F.RNG_CFG_SIZE n).get v = 0 → s.fld (F.RNG_CFG_SIZE n) ≠ 0 → (s.ring n).queue ≠ 0 →
      (∀ k < (s.ringDb n + (2 ^ 32 - s.ringHw n)) % 2 ^ 32,
        s.firstDenied (engine 17) .read (s.descAddr n (s.fld (F.RNG_CFG_SIZE n)) ((s.ringHw n + k) % 2 ^ 32)) 32 = none) →
      Gives (exec (.ringConfigure acc n v) s) (fun t => t.fld (F.RNG_CFG_SIZE n) = 0 ∧ (t.ring n).inflight = markLast ((s.ring n).inflight ++
        (List.range ((s.ringDb n + (2 ^ 32 - s.ringHw n)) % 2 ^ 32)).map (fun k =>
          (⟨decodeDesc ((s.ringHw n + k) % 2 ^ 32) (s.bytes (s.descAddr n (s.fld (F.RNG_CFG_SIZE n)) ((s.ringHw n + k) % 2 ^ 32)) 32),
            some (stABORTED, 0), s.short, (s.ring n).cring, (s.ring n).queue, false⟩ : Inflight))))) ∧
    ((F.RNG_CFG_SIZE n).get v = 0 → Gives (exec (.ringConfigure acc n v) s) (fun t => t.fld (F.RNG_CFG_SIZE n) = 0 ∧
      ((F.RNG_CFG_QUEUE n).get new ≠ s.fld (F.RNG_CFG_QUEUE n) ∨ (F.RNG_CFG_CRING n).get new ≠ s.fld (F.RNG_CFG_CRING n) →
        s.ringHw n ≠ s.ringDb n → t.fld (F.RNG_CFG_QUEUE n) = s.fld (F.RNG_CFG_QUEUE n) ∧
          t.fld (F.RNG_CFG_CRING n) = s.fld (F.RNG_CFG_CRING n) ∧ t.flag (F.RNG_STAT_CFG_BUSY n)) ∧
      (s.ringHw n = s.ringDb n → t.fld (F.RNG_CFG_QUEUE n) = (F.RNG_CFG_QUEUE n).get new ∧
        t.fld (F.RNG_CFG_CRING n) = (F.RNG_CFG_CRING n).get new))) ∧
    ((F.RNG_CFG_SIZE n).get v ≠ 0 → s.ringHw n ≠ s.ringDb n → Gives (exec (.ringConfigure acc n v) s) (fun t =>
      t = s.setFld (F.RNG_STAT_CFG_BUSY n) 1)) ∧
    ((F.RNG_CFG_SIZE n).get v ≠ 0 → s.ringHw n = s.ringDb n → Gives (exec (.ringConfigure acc n v) s) (fun t =>
      t.fld (F.RNG_CFG_QUEUE n) = (F.RNG_CFG_QUEUE n).get new ∧ t.fld (F.RNG_CFG_CRING n) = (F.RNG_CFG_CRING n).get new))

/-- A write of a register by the access codes of its fields gives the same state for two words that agree in every field bit,
and after it every bit of the register that lies in no field reads 0. (R11, R12) -/
def Obligations.ReservedBitsAreIgnored : Prop :=
  (∀ (s : State) (a : Nat) (v w : Word), (∀ f ∈ fieldsAt a, ∀ i, f.lo ≤ i → i ≤ f.hi → v.getLsbD i = w.getLsbD i) →
    s.writePlain a v = s.writePlain a w) ∧
  (∀ (s : State) (a : Nat) (v : Word) (i : Nat), (∀ f ∈ fieldsAt a, i < f.lo ∨ f.hi < i) → ((s.writePlain a v).reg a).getLsbD i = false)
end

