-- ==== Sys2Proof/Laws/SMap.lean ====
section
/-! SUPPORT. The laws of sparse maps: reading after setting, and the canonical form kept. -/

namespace Sys2Proof.Machine

variable {α : Type} {d : Nat → α}

theorem SMap.find_erase_same (m : SMap α) (k : Nat) : SMap.find (SMap.erase m k) k = none := by
  induction m with
  | nil => rfl
  | cons p m ih =>
    obtain ⟨k', v⟩ := p
    by_cases h : k' = k
    · simpa [SMap.erase, List.filter_cons, h] using ih
    · simpa [SMap.erase, List.filter_cons, h, SMap.find] using ih

theorem SMap.find_erase_ne (m : SMap α) {k j : Nat} (h : j ≠ k) : SMap.find (SMap.erase m k) j = SMap.find m j := by
  induction m with
  | nil => rfl
  | cons p m ih =>
    obtain ⟨k', v⟩ := p
    by_cases hk : k' = k
    · subst hk
      simpa [SMap.erase, List.filter_cons, SMap.find, h.symm] using ih
    · by_cases hj : k' = j
      · subst hj
        simp [SMap.erase, SMap.find, hk]
      · simpa [SMap.erase, List.filter_cons, hk, SMap.find, hj] using ih

theorem SMap.find_ins_same (m : SMap α) (k : Nat) (v : α) (h : SMap.find m k = none) : SMap.find (SMap.ins m k v) k = some v := by
  induction m with
  | nil => simp [SMap.ins, SMap.find]
  | cons p m ih =>
    obtain ⟨k', w⟩ := p
    by_cases hk : k' = k
    · simp [SMap.find, hk] at h
    · have h' : SMap.find m k = none := by simpa [SMap.find, hk] using h
      unfold SMap.ins
      split <;> simp [SMap.find, hk, ih h']

theorem SMap.find_ins_ne (m : SMap α) {k j : Nat} (v : α) (h : j ≠ k) : SMap.find (SMap.ins m k v) j = SMap.find m j := by
  induction m with
  | nil => simp [SMap.ins, SMap.find, h.symm]
  | cons p m ih =>
    obtain ⟨k', w⟩ := p
    unfold SMap.ins
    split
    · simp [SMap.find, h.symm]
    · simp [SMap.find, ih]

/-- A key reads as it was set. -/
theorem SMap.get_set_same [DecidableEq α] (m : SMap α) (k : Nat) (v : α) : SMap.get d (SMap.set d m k v) k = v := by
  unfold SMap.set
  split
  · rename_i h; simp [SMap.get, SMap.find_erase_same, h]
  · simp [SMap.get, SMap.find_ins_same _ _ _ (SMap.find_erase_same m k)]

/-- Setting a key leaves every other. -/
theorem SMap.get_set_ne [DecidableEq α] (m : SMap α) {k j : Nat} (v : α) (h : j ≠ k) : SMap.get d (SMap.set d m k v) j = SMap.get d m j := by
  unfold SMap.set
  split <;> simp [SMap.get, SMap.find_erase_ne, SMap.find_ins_ne, h]

theorem SMap.get_set [DecidableEq α] (m : SMap α) (k j : Nat) (v : α) :
    SMap.get d (SMap.set d m k v) j = if j = k then v else SMap.get d m j := by
  split
  · rename_i h; rw [h, SMap.get_set_same]
  · rename_i h; exact SMap.get_set_ne m v h

theorem SMap.mem_ins {m : SMap α} {k : Nat} {v : α} {p : Nat × α} (h : p ∈ SMap.ins m k v) : p = (k, v) ∨ p ∈ m := by
  induction m with
  | nil => simpa [SMap.ins] using h
  | cons q m ih =>
    unfold SMap.ins at h
    split at h
    · simpa using h
    · rcases List.mem_cons.mp h with h | h
      · exact .inr (by simp [h])
      · rcases ih h with h | h
        · exact .inl h
        · exact .inr (by simp [h])

theorem SMap.pairwise_ins (m : SMap α) (k : Nat) (v : α) (h : m.Pairwise (fun p q => p.1 < q.1)) (hk : ∀ p ∈ m, p.1 ≠ k) :
    (SMap.ins m k v).Pairwise (fun p q => p.1 < q.1) := by
  induction m with
  | nil => simp [SMap.ins]
  | cons p m ih =>
    obtain ⟨k', w⟩ := p
    have hp := List.pairwise_cons.mp h
    unfold SMap.ins
    split
    · rename_i hlt
      refine List.pairwise_cons.mpr ⟨fun q hq => ?_, h⟩
      rcases List.mem_cons.mp hq with rfl | hq
      · exact hlt
      · exact Nat.lt_trans hlt (hp.1 q hq)
    · rename_i hlt
      refine List.pairwise_cons.mpr ⟨fun q hq => ?_, ih hp.2 (fun q hq => hk q (List.mem_cons_of_mem _ hq))⟩
      rcases SMap.mem_ins hq with rfl | hq
      · have := hk (k', w) (by simp)
        simp only at this hlt ⊢
        omega
      · exact hp.1 q hq

/-- Erasing a key keeps the canonical form. -/
theorem SMap.wf_erase {m : SMap α} (h : SMap.Wf d m) (k : Nat) : SMap.Wf d (SMap.erase m k) :=
  ⟨h.1.filter _, fun p hp => h.2 p ((List.mem_filter.mp hp).1)⟩

/-- Setting a key keeps the canonical form. -/
theorem SMap.wf_set [DecidableEq α] {m : SMap α} (h : SMap.Wf d m) (k : Nat) (v : α) : SMap.Wf d (SMap.set d m k v) := by
  have he := SMap.wf_erase h k
  unfold SMap.set
  split
  · exact he
  · rename_i hv
    refine ⟨SMap.pairwise_ins _ _ _ he.1 (fun p hp => by simpa using (List.mem_filter.mp hp).2), fun p hp => ?_⟩
    rcases SMap.mem_ins hp with rfl | hp
    · exact hv
    · exact he.2 p hp

/-- Rewriting every value, dropping defaults, keeps the canonical form. -/
theorem SMap.wf_mapKeep [DecidableEq α] {m : SMap α} (h : SMap.Wf d m) (f : Nat → α → α) : SMap.Wf d (SMap.mapKeep d m f) := by
  constructor
  · refine List.Pairwise.filterMap _ ?_ h.1
    intro p q hpq p' hp' q' hq'
    simp only [Option.ite_none_left_eq_some, Option.some.injEq] at hp' hq'
    rw [← hp'.2, ← hq'.2]; exact hpq
  · intro p hp
    obtain ⟨q, _, hq⟩ := List.mem_filterMap.mp hp
    simp only [Option.ite_none_left_eq_some, Option.some.injEq] at hq
    rw [← hq.2]; exact hq.1

/-- A canonical map is determined by what its keys read as. -/
theorem SMap.mem_of_set [DecidableEq α] {m : SMap α} {k : Nat} {v : α} {p : Nat × α} (h : p ∈ SMap.set d m k v) : p = (k, v) ∨ p ∈ m := by
  unfold SMap.set at h
  split at h
  · exact .inr ((List.mem_filter.mp h).1)
  · rcases SMap.mem_ins h with h | h
    · exact .inl h
    · exact .inr ((List.mem_filter.mp h).1)

end Sys2Proof.Machine
end

