-- ==== Sys2Proof/Laws/Regs.lean ====
section
/-! SUPPORT. The laws of registers and fields: what a register or field reads after a write of it or of another. -/

namespace Sys2Proof.Machine

/-- A field as a register map can have it: its bits lie in the word. -/
abbrev Fld.Ok (f : Fld) : Prop := f.lo ≤ f.hi ∧ f.hi < 32

theorem Fld.testBit_get (f : Fld) (w : Word) (i : Nat) :
    (f.get w).testBit i = (decide (i < f.hi + 1 - f.lo) && w.getLsbD (f.lo + i)) := by
  simp [Fld.get, Nat.testBit_mod_two_pow, Nat.testBit_div_two_pow, BitVec.getLsbD, Nat.add_comm]

theorem Fld.getLsbD_put (f : Fld) (hf : f.Ok) (w : Word) (v j : Nat) :
    (f.put w v).getLsbD j = (decide (j < 32) && if f.lo ≤ j ∧ j ≤ f.hi then v.testBit (j - f.lo) else w.getLsbD j) := by
  have hp : 2 ^ (f.hi + 1) = 2 ^ f.lo * 2 ^ (f.hi + 1 - f.lo) := by
    rw [← Nat.pow_add]; congr 1; omega
  have e : w.toNat % 2 ^ f.lo + v % 2 ^ (f.hi + 1 - f.lo) * 2 ^ f.lo + w.toNat / 2 ^ (f.hi + 1) * 2 ^ (f.hi + 1)
      = 2 ^ f.lo * (2 ^ (f.hi + 1 - f.lo) * (w.toNat / 2 ^ (f.hi + 1)) + v % 2 ^ (f.hi + 1 - f.lo)) + w.toNat % 2 ^ f.lo := by
    rw [hp]; ring
  unfold Fld.put
  rw [e, BitVec.getLsbD_ofNat, Nat.testBit_two_pow_mul_add _ (Nat.mod_lt _ (by positivity)),
    Nat.testBit_two_pow_mul_add _ (Nat.mod_lt _ (by positivity))]
  congr 1
  by_cases h1 : j < f.lo
  · have : ¬(f.lo ≤ j ∧ j ≤ f.hi) := by omega
    simp [h1, this, Nat.testBit_mod_two_pow, BitVec.getLsbD]
  · by_cases h2 : j ≤ f.hi
    · have h3 : j - f.lo < f.hi + 1 - f.lo := by omega
      have h4 : f.lo ≤ j := by omega
      simp [h1, h2, h3, h4, Nat.testBit_mod_two_pow]
    · have h3 : ¬(j - f.lo < f.hi + 1 - f.lo) := by omega
      have h4 : j - f.lo - (f.hi + 1 - f.lo) + (f.hi + 1) = j := by omega
      simp [h1, h2, h3, Nat.testBit_div_two_pow, h4, BitVec.getLsbD]

/-- A field reads what was put into it, cut to its width. -/
theorem Fld.get_put_same (f : Fld) (hf : f.Ok) (w : Word) (v : Nat) : f.get (f.put w v) = v % 2 ^ (f.hi + 1 - f.lo) := by
  apply Nat.eq_of_testBit_eq
  intro i
  rw [Fld.testBit_get, Fld.getLsbD_put f hf, Nat.testBit_mod_two_pow]
  by_cases h : i < f.hi + 1 - f.lo
  · have : f.lo + i < 32 ∧ f.lo + i ≤ f.hi := by have := hf.1; have := hf.2; omega
    simp [h, this]
  · simp [h]

/-- Putting a value into a field leaves every field that shares no bit with it. -/
theorem Fld.get_put_other (f g : Fld) (hf : f.Ok) (hg : g.hi < 32) (h : f.hi < g.lo ∨ g.hi < f.lo) (w : Word) (v : Nat) :
    g.get (f.put w v) = g.get w := by
  apply Nat.eq_of_testBit_eq
  intro i
  rw [Fld.testBit_get, Fld.testBit_get, Fld.getLsbD_put f hf]
  by_cases hi : i < g.hi + 1 - g.lo
  · have : ¬(f.lo ≤ g.lo + i ∧ g.lo + i ≤ f.hi) := by have := hf.1; omega
    have h32 : g.lo + i < 32 := by omega
    simp [hi, this, h32]
  · simp [hi]

/-! ### Registers of a state -/

@[simp] theorem State.reg_setReg_same (s : State) (a : Nat) (w : Word) : (s.setReg a w).reg a = w := SMap.get_set_same _ _ _

theorem State.reg_setReg_ne (s : State) {a b : Nat} (w : Word) (h : b ≠ a) : (s.setReg a w).reg b = s.reg b :=
  SMap.get_set_ne _ _ h

/-- What a register reads after a write of any. -/
theorem State.reg_setReg (s : State) (a b : Nat) (w : Word) : (s.setReg a w).reg b = if b = a then w else s.reg b :=
  SMap.get_set _ _ _ _

/-- A field reads what was set, cut to its width. -/
theorem State.fld_setFld_same (s : State) (f : Fld) (hf : f.Ok) (v : Nat) : (s.setFld f v).fld f = v % 2 ^ (f.hi + 1 - f.lo) := by
  simp [State.fld, State.setFld, Fld.get_put_same f hf]

/-- Setting a field leaves a field of another register. -/
theorem State.fld_setFld_ne (s : State) (f g : Fld) (h : g.addr ≠ f.addr) (v : Nat) : (s.setFld f v).fld g = s.fld g := by
  simp [State.fld, State.setFld, State.reg_setReg_ne _ _ h]

/-- Setting a field leaves the other fields of its register. -/
theorem State.fld_setFld_other (s : State) (f g : Fld) (hf : f.Ok) (hg : g.hi < 32) (h : f.hi < g.lo ∨ g.hi < f.lo) (v : Nat) :
    (s.setFld f v).fld g = s.fld g := by
  by_cases ha : g.addr = f.addr
  · simp [State.fld, State.setFld, ha, Fld.get_put_other f g hf hg h]
  · exact State.fld_setFld_ne s f g ha v

/-- Writing a register leaves the fields of another. -/
theorem State.fld_setReg_ne (s : State) (a : Nat) (w : Word) (g : Fld) (h : g.addr ≠ a) : (s.setReg a w).fld g = s.fld g := by
  simp [State.fld, State.reg_setReg_ne _ _ h]

theorem State.fld_setReg_same (s : State) (g : Fld) (w : Word) : (s.setReg g.addr w).fld g = g.get w := by
  simp [State.fld]

/-- A flag that is set reads set. -/
theorem State.flag_setFld_one (s : State) (f : Fld) (hf : f.Ok) : (s.setFld f 1).flag f = true := by
  have h : 1 < 2 ^ (f.hi + 1 - f.lo) := Nat.one_lt_two_pow (by have := hf.1; omega)
  simp [State.flag, State.fld_setFld_same s f hf, Nat.mod_eq_of_lt h]

/-- A flag that is raised reads set. -/
theorem State.flag_raiseFlag (s : State) (f : Fld) (hf : f.Ok) (irq : Nat) (hp : f.addr ≠ R.RNG_INT_PEND (irq / 32)) :
    (s.raiseFlag f irq).flag f = true := by
  unfold State.raiseFlag
  split
  · assumption
  · have h := State.flag_setFld_one s f hf
    simp only [State.flag, State.pend, State.fld_setReg_ne _ _ _ f hp] at h ⊢
    exact h

end Sys2Proof.Machine
end

