-- ==== Sys2Proof/Laws/State.lean ====
section
/-! SUPPORT. What each update of the state leaves as it was: one lemma for each field, by computation. -/

namespace Sys2Proof.Machine

variable (s : State)

/-! ### setReg -/
@[simp] theorem State.setReg_mem (a : Nat) (w : Word) : (s.setReg a w).mem = s.mem := rfl
@[simp] theorem State.setReg_part (a : Nat) (w : Word) : (s.setReg a w).part = s.part := rfl
@[simp] theorem State.setReg_pending (a : Nat) (w : Word) : (s.setReg a w).pending = s.pending := rfl
@[simp] theorem State.setReg_rdata (a : Nat) (w : Word) : (s.setReg a w).rdata = s.rdata := rfl
@[simp] theorem State.setReg_freeSeq (a : Nat) (w : Word) : (s.setReg a w).freeSeq = s.freeSeq := rfl
@[simp] theorem State.setReg_now (a : Nat) (w : Word) : (s.setReg a w).now = s.now := rfl
@[simp] theorem State.setReg_rings (a : Nat) (w : Word) : (s.setReg a w).rings = s.rings := rfl
@[simp] theorem State.setReg_routes (a : Nat) (w : Word) : (s.setReg a w).routes = s.routes := rfl
@[simp] theorem State.setReg_tableJobs (a : Nat) (w : Word) : (s.setReg a w).tableJobs = s.tableJobs := rfl
@[simp] theorem State.setReg_entries (a : Nat) (w : Word) : (s.setReg a w).entries = s.entries := rfl
@[simp] theorem State.setReg_rein (a : Nat) (w : Word) : (s.setReg a w).rein = s.rein := rfl
@[simp] theorem State.setReg_evr (a : Nat) (w : Word) : (s.setReg a w).evr = s.evr := rfl
@[simp] theorem State.setReg_outBufs (a : Nat) (w : Word) : (s.setReg a w).outBufs = s.outBufs := rfl
@[simp] theorem State.setReg_tim (a : Nat) (w : Word) : (s.setReg a w).tim = s.tim := rfl
@[simp] theorem State.setReg_upd (a : Nat) (w : Word) : (s.setReg a w).upd = s.upd := rfl
@[simp] theorem State.setReg_afe (a : Nat) (w : Word) : (s.setReg a w).afe = s.afe := rfl
@[simp] theorem State.setReg_wve (a : Nat) (w : Word) : (s.setReg a w).wve = s.wve := rfl
@[simp] theorem State.setReg_gns (a : Nat) (w : Word) : (s.setReg a w).gns = s.gns := rfl
@[simp] theorem State.setReg_str (a : Nat) (w : Word) : (s.setReg a w).str = s.str := rfl
@[simp] theorem State.setReg_dio (a : Nat) (w : Word) : (s.setReg a w).dio = s.dio := rfl
@[simp] theorem State.setReg_lsw (a : Nat) (w : Word) : (s.setReg a w).lsw = s.lsw := rfl
@[simp] theorem State.setReg_sol (a : Nat) (w : Word) : (s.setReg a w).sol = s.sol := rfl
@[simp] theorem State.setReg_ept (a : Nat) (w : Word) : (s.setReg a w).ept = s.ept := rfl
@[simp] theorem State.setReg_slt (a : Nat) (w : Word) : (s.setReg a w).slt = s.slt := rfl
@[simp] theorem State.setReg_cov (a : Nat) (w : Word) : (s.setReg a w).cov = s.cov := rfl
@[simp] theorem State.setReg_brd (a : Nat) (w : Word) : (s.setReg a w).brd = s.brd := rfl
@[simp] theorem State.setReg_yld (a : Nat) (w : Word) : (s.setReg a w).yld = s.yld := rfl
@[simp] theorem State.setReg_img (a : Nat) (w : Word) : (s.setReg a w).img = s.img := rfl
@[simp] theorem State.setReg_dsp (a : Nat) (w : Word) : (s.setReg a w).dsp = s.dsp := rfl
@[simp] theorem State.setReg_net (a : Nat) (w : Word) : (s.setReg a w).net = s.net := rfl
@[simp] theorem State.setReg_tdm (a : Nat) (w : Word) : (s.setReg a w).tdm = s.tdm := rfl
@[simp] theorem State.setReg_pwr (a : Nat) (w : Word) : (s.setReg a w).pwr = s.pwr := rfl

/-! ### setFld -/
@[simp] theorem State.setFld_mem (f : Fld) (v : Nat) : (s.setFld f v).mem = s.mem := rfl
@[simp] theorem State.setFld_part (f : Fld) (v : Nat) : (s.setFld f v).part = s.part := rfl
@[simp] theorem State.setFld_pending (f : Fld) (v : Nat) : (s.setFld f v).pending = s.pending := rfl
@[simp] theorem State.setFld_rdata (f : Fld) (v : Nat) : (s.setFld f v).rdata = s.rdata := rfl
@[simp] theorem State.setFld_freeSeq (f : Fld) (v : Nat) : (s.setFld f v).freeSeq = s.freeSeq := rfl
@[simp] theorem State.setFld_now (f : Fld) (v : Nat) : (s.setFld f v).now = s.now := rfl
@[simp] theorem State.setFld_rings (f : Fld) (v : Nat) : (s.setFld f v).rings = s.rings := rfl
@[simp] theorem State.setFld_routes (f : Fld) (v : Nat) : (s.setFld f v).routes = s.routes := rfl
@[simp] theorem State.setFld_tableJobs (f : Fld) (v : Nat) : (s.setFld f v).tableJobs = s.tableJobs := rfl
@[simp] theorem State.setFld_entries (f : Fld) (v : Nat) : (s.setFld f v).entries = s.entries := rfl
@[simp] theorem State.setFld_rein (f : Fld) (v : Nat) : (s.setFld f v).rein = s.rein := rfl
@[simp] theorem State.setFld_evr (f : Fld) (v : Nat) : (s.setFld f v).evr = s.evr := rfl
@[simp] theorem State.setFld_outBufs (f : Fld) (v : Nat) : (s.setFld f v).outBufs = s.outBufs := rfl
@[simp] theorem State.setFld_tim (f : Fld) (v : Nat) : (s.setFld f v).tim = s.tim := rfl
@[simp] theorem State.setFld_upd (f : Fld) (v : Nat) : (s.setFld f v).upd = s.upd := rfl
@[simp] theorem State.setFld_afe (f : Fld) (v : Nat) : (s.setFld f v).afe = s.afe := rfl
@[simp] theorem State.setFld_wve (f : Fld) (v : Nat) : (s.setFld f v).wve = s.wve := rfl
@[simp] theorem State.setFld_gns (f : Fld) (v : Nat) : (s.setFld f v).gns = s.gns := rfl
@[simp] theorem State.setFld_str (f : Fld) (v : Nat) : (s.setFld f v).str = s.str := rfl
@[simp] theorem State.setFld_dio (f : Fld) (v : Nat) : (s.setFld f v).dio = s.dio := rfl
@[simp] theorem State.setFld_lsw (f : Fld) (v : Nat) : (s.setFld f v).lsw = s.lsw := rfl
@[simp] theorem State.setFld_sol (f : Fld) (v : Nat) : (s.setFld f v).sol = s.sol := rfl
@[simp] theorem State.setFld_ept (f : Fld) (v : Nat) : (s.setFld f v).ept = s.ept := rfl
@[simp] theorem State.setFld_slt (f : Fld) (v : Nat) : (s.setFld f v).slt = s.slt := rfl
@[simp] theorem State.setFld_cov (f : Fld) (v : Nat) : (s.setFld f v).cov = s.cov := rfl
@[simp] theorem State.setFld_brd (f : Fld) (v : Nat) : (s.setFld f v).brd = s.brd := rfl
@[simp] theorem State.setFld_yld (f : Fld) (v : Nat) : (s.setFld f v).yld = s.yld := rfl
@[simp] theorem State.setFld_img (f : Fld) (v : Nat) : (s.setFld f v).img = s.img := rfl
@[simp] theorem State.setFld_dsp (f : Fld) (v : Nat) : (s.setFld f v).dsp = s.dsp := rfl
@[simp] theorem State.setFld_net (f : Fld) (v : Nat) : (s.setFld f v).net = s.net := rfl
@[simp] theorem State.setFld_tdm (f : Fld) (v : Nat) : (s.setFld f v).tdm = s.tdm := rfl
@[simp] theorem State.setFld_pwr (f : Fld) (v : Nat) : (s.setFld f v).pwr = s.pwr := rfl

/-! ### setInt -/
@[simp] theorem State.setInt_mem (f : Fld) (v : Int) : (s.setInt f v).mem = s.mem := rfl
@[simp] theorem State.setInt_part (f : Fld) (v : Int) : (s.setInt f v).part = s.part := rfl
@[simp] theorem State.setInt_pending (f : Fld) (v : Int) : (s.setInt f v).pending = s.pending := rfl
@[simp] theorem State.setInt_rdata (f : Fld) (v : Int) : (s.setInt f v).rdata = s.rdata := rfl
@[simp] theorem State.setInt_freeSeq (f : Fld) (v : Int) : (s.setInt f v).freeSeq = s.freeSeq := rfl
@[simp] theorem State.setInt_now (f : Fld) (v : Int) : (s.setInt f v).now = s.now := rfl
@[simp] theorem State.setInt_rings (f : Fld) (v : Int) : (s.setInt f v).rings = s.rings := rfl
@[simp] theorem State.setInt_routes (f : Fld) (v : Int) : (s.setInt f v).routes = s.routes := rfl
@[simp] theorem State.setInt_tableJobs (f : Fld) (v : Int) : (s.setInt f v).tableJobs = s.tableJobs := rfl
@[simp] theorem State.setInt_entries (f : Fld) (v : Int) : (s.setInt f v).entries = s.entries := rfl
@[simp] theorem State.setInt_rein (f : Fld) (v : Int) : (s.setInt f v).rein = s.rein := rfl
@[simp] theorem State.setInt_evr (f : Fld) (v : Int) : (s.setInt f v).evr = s.evr := rfl
@[simp] theorem State.setInt_outBufs (f : Fld) (v : Int) : (s.setInt f v).outBufs = s.outBufs := rfl
@[simp] theorem State.setInt_tim (f : Fld) (v : Int) : (s.setInt f v).tim = s.tim := rfl
@[simp] theorem State.setInt_upd (f : Fld) (v : Int) : (s.setInt f v).upd = s.upd := rfl
@[simp] theorem State.setInt_afe (f : Fld) (v : Int) : (s.setInt f v).afe = s.afe := rfl
@[simp] theorem State.setInt_wve (f : Fld) (v : Int) : (s.setInt f v).wve = s.wve := rfl
@[simp] theorem State.setInt_gns (f : Fld) (v : Int) : (s.setInt f v).gns = s.gns := rfl
@[simp] theorem State.setInt_str (f : Fld) (v : Int) : (s.setInt f v).str = s.str := rfl
@[simp] theorem State.setInt_dio (f : Fld) (v : Int) : (s.setInt f v).dio = s.dio := rfl
@[simp] theorem State.setInt_lsw (f : Fld) (v : Int) : (s.setInt f v).lsw = s.lsw := rfl
@[simp] theorem State.setInt_sol (f : Fld) (v : Int) : (s.setInt f v).sol = s.sol := rfl
@[simp] theorem State.setInt_ept (f : Fld) (v : Int) : (s.setInt f v).ept = s.ept := rfl
@[simp] theorem State.setInt_slt (f : Fld) (v : Int) : (s.setInt f v).slt = s.slt := rfl
@[simp] theorem State.setInt_cov (f : Fld) (v : Int) : (s.setInt f v).cov = s.cov := rfl
@[simp] theorem State.setInt_brd (f : Fld) (v : Int) : (s.setInt f v).brd = s.brd := rfl
@[simp] theorem State.setInt_yld (f : Fld) (v : Int) : (s.setInt f v).yld = s.yld := rfl
@[simp] theorem State.setInt_img (f : Fld) (v : Int) : (s.setInt f v).img = s.img := rfl
@[simp] theorem State.setInt_dsp (f : Fld) (v : Int) : (s.setInt f v).dsp = s.dsp := rfl
@[simp] theorem State.setInt_net (f : Fld) (v : Int) : (s.setInt f v).net = s.net := rfl
@[simp] theorem State.setInt_tdm (f : Fld) (v : Int) : (s.setInt f v).tdm = s.tdm := rfl
@[simp] theorem State.setInt_pwr (f : Fld) (v : Int) : (s.setInt f v).pwr = s.pwr := rfl

/-! ### setBit -/
@[simp] theorem State.setBit_mem (f : Fld) (b : Bool) : (s.setBit f b).mem = s.mem := rfl
@[simp] theorem State.setBit_part (f : Fld) (b : Bool) : (s.setBit f b).part = s.part := rfl
@[simp] theorem State.setBit_pending (f : Fld) (b : Bool) : (s.setBit f b).pending = s.pending := rfl
@[simp] theorem State.setBit_rdata (f : Fld) (b : Bool) : (s.setBit f b).rdata = s.rdata := rfl
@[simp] theorem State.setBit_freeSeq (f : Fld) (b : Bool) : (s.setBit f b).freeSeq = s.freeSeq := rfl
@[simp] theorem State.setBit_now (f : Fld) (b : Bool) : (s.setBit f b).now = s.now := rfl
@[simp] theorem State.setBit_rings (f : Fld) (b : Bool) : (s.setBit f b).rings = s.rings := rfl
@[simp] theorem State.setBit_routes (f : Fld) (b : Bool) : (s.setBit f b).routes = s.routes := rfl
@[simp] theorem State.setBit_tableJobs (f : Fld) (b : Bool) : (s.setBit f b).tableJobs = s.tableJobs := rfl
@[simp] theorem State.setBit_entries (f : Fld) (b : Bool) : (s.setBit f b).entries = s.entries := rfl
@[simp] theorem State.setBit_rein (f : Fld) (b : Bool) : (s.setBit f b).rein = s.rein := rfl
@[simp] theorem State.setBit_evr (f : Fld) (b : Bool) : (s.setBit f b).evr = s.evr := rfl
@[simp] theorem State.setBit_outBufs (f : Fld) (b : Bool) : (s.setBit f b).outBufs = s.outBufs := rfl
@[simp] theorem State.setBit_tim (f : Fld) (b : Bool) : (s.setBit f b).tim = s.tim := rfl
@[simp] theorem State.setBit_upd (f : Fld) (b : Bool) : (s.setBit f b).upd = s.upd := rfl
@[simp] theorem State.setBit_afe (f : Fld) (b : Bool) : (s.setBit f b).afe = s.afe := rfl
@[simp] theorem State.setBit_wve (f : Fld) (b : Bool) : (s.setBit f b).wve = s.wve := rfl
@[simp] theorem State.setBit_gns (f : Fld) (b : Bool) : (s.setBit f b).gns = s.gns := rfl
@[simp] theorem State.setBit_str (f : Fld) (b : Bool) : (s.setBit f b).str = s.str := rfl
@[simp] theorem State.setBit_dio (f : Fld) (b : Bool) : (s.setBit f b).dio = s.dio := rfl
@[simp] theorem State.setBit_lsw (f : Fld) (b : Bool) : (s.setBit f b).lsw = s.lsw := rfl
@[simp] theorem State.setBit_sol (f : Fld) (b : Bool) : (s.setBit f b).sol = s.sol := rfl
@[simp] theorem State.setBit_ept (f : Fld) (b : Bool) : (s.setBit f b).ept = s.ept := rfl
@[simp] theorem State.setBit_slt (f : Fld) (b : Bool) : (s.setBit f b).slt = s.slt := rfl
@[simp] theorem State.setBit_cov (f : Fld) (b : Bool) : (s.setBit f b).cov = s.cov := rfl
@[simp] theorem State.setBit_brd (f : Fld) (b : Bool) : (s.setBit f b).brd = s.brd := rfl
@[simp] theorem State.setBit_yld (f : Fld) (b : Bool) : (s.setBit f b).yld = s.yld := rfl
@[simp] theorem State.setBit_img (f : Fld) (b : Bool) : (s.setBit f b).img = s.img := rfl
@[simp] theorem State.setBit_dsp (f : Fld) (b : Bool) : (s.setBit f b).dsp = s.dsp := rfl
@[simp] theorem State.setBit_net (f : Fld) (b : Bool) : (s.setBit f b).net = s.net := rfl
@[simp] theorem State.setBit_tdm (f : Fld) (b : Bool) : (s.setBit f b).tdm = s.tdm := rfl
@[simp] theorem State.setBit_pwr (f : Fld) (b : Bool) : (s.setBit f b).pwr = s.pwr := rfl

/-! ### setReg64 -/
@[simp] theorem State.setReg64_mem (a b v : Nat) : (s.setReg64 a b v).mem = s.mem := rfl
@[simp] theorem State.setReg64_part (a b v : Nat) : (s.setReg64 a b v).part = s.part := rfl
@[simp] theorem State.setReg64_pending (a b v : Nat) : (s.setReg64 a b v).pending = s.pending := rfl
@[simp] theorem State.setReg64_rdata (a b v : Nat) : (s.setReg64 a b v).rdata = s.rdata := rfl
@[simp] theorem State.setReg64_freeSeq (a b v : Nat) : (s.setReg64 a b v).freeSeq = s.freeSeq := rfl
@[simp] theorem State.setReg64_now (a b v : Nat) : (s.setReg64 a b v).now = s.now := rfl
@[simp] theorem State.setReg64_rings (a b v : Nat) : (s.setReg64 a b v).rings = s.rings := rfl
@[simp] theorem State.setReg64_routes (a b v : Nat) : (s.setReg64 a b v).routes = s.routes := rfl
@[simp] theorem State.setReg64_tableJobs (a b v : Nat) : (s.setReg64 a b v).tableJobs = s.tableJobs := rfl
@[simp] theorem State.setReg64_entries (a b v : Nat) : (s.setReg64 a b v).entries = s.entries := rfl
@[simp] theorem State.setReg64_rein (a b v : Nat) : (s.setReg64 a b v).rein = s.rein := rfl
@[simp] theorem State.setReg64_evr (a b v : Nat) : (s.setReg64 a b v).evr = s.evr := rfl
@[simp] theorem State.setReg64_outBufs (a b v : Nat) : (s.setReg64 a b v).outBufs = s.outBufs := rfl
@[simp] theorem State.setReg64_tim (a b v : Nat) : (s.setReg64 a b v).tim = s.tim := rfl
@[simp] theorem State.setReg64_upd (a b v : Nat) : (s.setReg64 a b v).upd = s.upd := rfl
@[simp] theorem State.setReg64_afe (a b v : Nat) : (s.setReg64 a b v).afe = s.afe := rfl
@[simp] theorem State.setReg64_wve (a b v : Nat) : (s.setReg64 a b v).wve = s.wve := rfl
@[simp] theorem State.setReg64_gns (a b v : Nat) : (s.setReg64 a b v).gns = s.gns := rfl
@[simp] theorem State.setReg64_str (a b v : Nat) : (s.setReg64 a b v).str = s.str := rfl
@[simp] theorem State.setReg64_dio (a b v : Nat) : (s.setReg64 a b v).dio = s.dio := rfl
@[simp] theorem State.setReg64_lsw (a b v : Nat) : (s.setReg64 a b v).lsw = s.lsw := rfl
@[simp] theorem State.setReg64_sol (a b v : Nat) : (s.setReg64 a b v).sol = s.sol := rfl
@[simp] theorem State.setReg64_ept (a b v : Nat) : (s.setReg64 a b v).ept = s.ept := rfl
@[simp] theorem State.setReg64_slt (a b v : Nat) : (s.setReg64 a b v).slt = s.slt := rfl
@[simp] theorem State.setReg64_cov (a b v : Nat) : (s.setReg64 a b v).cov = s.cov := rfl
@[simp] theorem State.setReg64_brd (a b v : Nat) : (s.setReg64 a b v).brd = s.brd := rfl
@[simp] theorem State.setReg64_yld (a b v : Nat) : (s.setReg64 a b v).yld = s.yld := rfl
@[simp] theorem State.setReg64_img (a b v : Nat) : (s.setReg64 a b v).img = s.img := rfl
@[simp] theorem State.setReg64_dsp (a b v : Nat) : (s.setReg64 a b v).dsp = s.dsp := rfl
@[simp] theorem State.setReg64_net (a b v : Nat) : (s.setReg64 a b v).net = s.net := rfl
@[simp] theorem State.setReg64_tdm (a b v : Nat) : (s.setReg64 a b v).tdm = s.tdm := rfl
@[simp] theorem State.setReg64_pwr (a b v : Nat) : (s.setReg64 a b v).pwr = s.pwr := rfl

/-! ### pend -/
@[simp] theorem State.pend_mem (n : Nat) : (s.pend n).mem = s.mem := rfl
@[simp] theorem State.pend_part (n : Nat) : (s.pend n).part = s.part := rfl
@[simp] theorem State.pend_pending (n : Nat) : (s.pend n).pending = s.pending := rfl
@[simp] theorem State.pend_rdata (n : Nat) : (s.pend n).rdata = s.rdata := rfl
@[simp] theorem State.pend_freeSeq (n : Nat) : (s.pend n).freeSeq = s.freeSeq := rfl
@[simp] theorem State.pend_now (n : Nat) : (s.pend n).now = s.now := rfl
@[simp] theorem State.pend_rings (n : Nat) : (s.pend n).rings = s.rings := rfl
@[simp] theorem State.pend_routes (n : Nat) : (s.pend n).routes = s.routes := rfl
@[simp] theorem State.pend_tableJobs (n : Nat) : (s.pend n).tableJobs = s.tableJobs := rfl
@[simp] theorem State.pend_entries (n : Nat) : (s.pend n).entries = s.entries := rfl
@[simp] theorem State.pend_rein (n : Nat) : (s.pend n).rein = s.rein := rfl
@[simp] theorem State.pend_evr (n : Nat) : (s.pend n).evr = s.evr := rfl
@[simp] theorem State.pend_outBufs (n : Nat) : (s.pend n).outBufs = s.outBufs := rfl
@[simp] theorem State.pend_tim (n : Nat) : (s.pend n).tim = s.tim := rfl
@[simp] theorem State.pend_upd (n : Nat) : (s.pend n).upd = s.upd := rfl
@[simp] theorem State.pend_afe (n : Nat) : (s.pend n).afe = s.afe := rfl
@[simp] theorem State.pend_wve (n : Nat) : (s.pend n).wve = s.wve := rfl
@[simp] theorem State.pend_gns (n : Nat) : (s.pend n).gns = s.gns := rfl
@[simp] theorem State.pend_str (n : Nat) : (s.pend n).str = s.str := rfl
@[simp] theorem State.pend_dio (n : Nat) : (s.pend n).dio = s.dio := rfl
@[simp] theorem State.pend_lsw (n : Nat) : (s.pend n).lsw = s.lsw := rfl
@[simp] theorem State.pend_sol (n : Nat) : (s.pend n).sol = s.sol := rfl
@[simp] theorem State.pend_ept (n : Nat) : (s.pend n).ept = s.ept := rfl
@[simp] theorem State.pend_slt (n : Nat) : (s.pend n).slt = s.slt := rfl
@[simp] theorem State.pend_cov (n : Nat) : (s.pend n).cov = s.cov := rfl
@[simp] theorem State.pend_brd (n : Nat) : (s.pend n).brd = s.brd := rfl
@[simp] theorem State.pend_yld (n : Nat) : (s.pend n).yld = s.yld := rfl
@[simp] theorem State.pend_img (n : Nat) : (s.pend n).img = s.img := rfl
@[simp] theorem State.pend_dsp (n : Nat) : (s.pend n).dsp = s.dsp := rfl
@[simp] theorem State.pend_net (n : Nat) : (s.pend n).net = s.net := rfl
@[simp] theorem State.pend_tdm (n : Nat) : (s.pend n).tdm = s.tdm := rfl
@[simp] theorem State.pend_pwr (n : Nat) : (s.pend n).pwr = s.pwr := rfl

/-! ### bump -/
@[simp] theorem State.bump_mem (f : Fld) (n : Nat) : (s.bump f n).mem = s.mem := rfl
@[simp] theorem State.bump_part (f : Fld) (n : Nat) : (s.bump f n).part = s.part := rfl
@[simp] theorem State.bump_pending (f : Fld) (n : Nat) : (s.bump f n).pending = s.pending := rfl
@[simp] theorem State.bump_rdata (f : Fld) (n : Nat) : (s.bump f n).rdata = s.rdata := rfl
@[simp] theorem State.bump_freeSeq (f : Fld) (n : Nat) : (s.bump f n).freeSeq = s.freeSeq := rfl
@[simp] theorem State.bump_now (f : Fld) (n : Nat) : (s.bump f n).now = s.now := rfl
@[simp] theorem State.bump_rings (f : Fld) (n : Nat) : (s.bump f n).rings = s.rings := rfl
@[simp] theorem State.bump_routes (f : Fld) (n : Nat) : (s.bump f n).routes = s.routes := rfl
@[simp] theorem State.bump_tableJobs (f : Fld) (n : Nat) : (s.bump f n).tableJobs = s.tableJobs := rfl
@[simp] theorem State.bump_entries (f : Fld) (n : Nat) : (s.bump f n).entries = s.entries := rfl
@[simp] theorem State.bump_rein (f : Fld) (n : Nat) : (s.bump f n).rein = s.rein := rfl
@[simp] theorem State.bump_evr (f : Fld) (n : Nat) : (s.bump f n).evr = s.evr := rfl
@[simp] theorem State.bump_outBufs (f : Fld) (n : Nat) : (s.bump f n).outBufs = s.outBufs := rfl
@[simp] theorem State.bump_tim (f : Fld) (n : Nat) : (s.bump f n).tim = s.tim := rfl
@[simp] theorem State.bump_upd (f : Fld) (n : Nat) : (s.bump f n).upd = s.upd := rfl
@[simp] theorem State.bump_afe (f : Fld) (n : Nat) : (s.bump f n).afe = s.afe := rfl
@[simp] theorem State.bump_wve (f : Fld) (n : Nat) : (s.bump f n).wve = s.wve := rfl
@[simp] theorem State.bump_gns (f : Fld) (n : Nat) : (s.bump f n).gns = s.gns := rfl
@[simp] theorem State.bump_str (f : Fld) (n : Nat) : (s.bump f n).str = s.str := rfl
@[simp] theorem State.bump_dio (f : Fld) (n : Nat) : (s.bump f n).dio = s.dio := rfl
@[simp] theorem State.bump_lsw (f : Fld) (n : Nat) : (s.bump f n).lsw = s.lsw := rfl
@[simp] theorem State.bump_sol (f : Fld) (n : Nat) : (s.bump f n).sol = s.sol := rfl
@[simp] theorem State.bump_ept (f : Fld) (n : Nat) : (s.bump f n).ept = s.ept := rfl
@[simp] theorem State.bump_slt (f : Fld) (n : Nat) : (s.bump f n).slt = s.slt := rfl
@[simp] theorem State.bump_cov (f : Fld) (n : Nat) : (s.bump f n).cov = s.cov := rfl
@[simp] theorem State.bump_brd (f : Fld) (n : Nat) : (s.bump f n).brd = s.brd := rfl
@[simp] theorem State.bump_yld (f : Fld) (n : Nat) : (s.bump f n).yld = s.yld := rfl
@[simp] theorem State.bump_img (f : Fld) (n : Nat) : (s.bump f n).img = s.img := rfl
@[simp] theorem State.bump_dsp (f : Fld) (n : Nat) : (s.bump f n).dsp = s.dsp := rfl
@[simp] theorem State.bump_net (f : Fld) (n : Nat) : (s.bump f n).net = s.net := rfl
@[simp] theorem State.bump_tdm (f : Fld) (n : Nat) : (s.bump f n).tdm = s.tdm := rfl
@[simp] theorem State.bump_pwr (f : Fld) (n : Nat) : (s.bump f n).pwr = s.pwr := rfl

/-! ### writePlain -/
@[simp] theorem State.writePlain_mem (a : Nat) (w : Word) : (s.writePlain a w).mem = s.mem := rfl
@[simp] theorem State.writePlain_part (a : Nat) (w : Word) : (s.writePlain a w).part = s.part := rfl
@[simp] theorem State.writePlain_pending (a : Nat) (w : Word) : (s.writePlain a w).pending = s.pending := rfl
@[simp] theorem State.writePlain_rdata (a : Nat) (w : Word) : (s.writePlain a w).rdata = s.rdata := rfl
@[simp] theorem State.writePlain_freeSeq (a : Nat) (w : Word) : (s.writePlain a w).freeSeq = s.freeSeq := rfl
@[simp] theorem State.writePlain_now (a : Nat) (w : Word) : (s.writePlain a w).now = s.now := rfl
@[simp] theorem State.writePlain_rings (a : Nat) (w : Word) : (s.writePlain a w).rings = s.rings := rfl
@[simp] theorem State.writePlain_routes (a : Nat) (w : Word) : (s.writePlain a w).routes = s.routes := rfl
@[simp] theorem State.writePlain_tableJobs (a : Nat) (w : Word) : (s.writePlain a w).tableJobs = s.tableJobs := rfl
@[simp] theorem State.writePlain_entries (a : Nat) (w : Word) : (s.writePlain a w).entries = s.entries := rfl
@[simp] theorem State.writePlain_rein (a : Nat) (w : Word) : (s.writePlain a w).rein = s.rein := rfl
@[simp] theorem State.writePlain_evr (a : Nat) (w : Word) : (s.writePlain a w).evr = s.evr := rfl
@[simp] theorem State.writePlain_outBufs (a : Nat) (w : Word) : (s.writePlain a w).outBufs = s.outBufs := rfl
@[simp] theorem State.writePlain_tim (a : Nat) (w : Word) : (s.writePlain a w).tim = s.tim := rfl
@[simp] theorem State.writePlain_upd (a : Nat) (w : Word) : (s.writePlain a w).upd = s.upd := rfl
@[simp] theorem State.writePlain_afe (a : Nat) (w : Word) : (s.writePlain a w).afe = s.afe := rfl
@[simp] theorem State.writePlain_wve (a : Nat) (w : Word) : (s.writePlain a w).wve = s.wve := rfl
@[simp] theorem State.writePlain_gns (a : Nat) (w : Word) : (s.writePlain a w).gns = s.gns := rfl
@[simp] theorem State.writePlain_str (a : Nat) (w : Word) : (s.writePlain a w).str = s.str := rfl
@[simp] theorem State.writePlain_dio (a : Nat) (w : Word) : (s.writePlain a w).dio = s.dio := rfl
@[simp] theorem State.writePlain_lsw (a : Nat) (w : Word) : (s.writePlain a w).lsw = s.lsw := rfl
@[simp] theorem State.writePlain_sol (a : Nat) (w : Word) : (s.writePlain a w).sol = s.sol := rfl
@[simp] theorem State.writePlain_ept (a : Nat) (w : Word) : (s.writePlain a w).ept = s.ept := rfl
@[simp] theorem State.writePlain_slt (a : Nat) (w : Word) : (s.writePlain a w).slt = s.slt := rfl
@[simp] theorem State.writePlain_cov (a : Nat) (w : Word) : (s.writePlain a w).cov = s.cov := rfl
@[simp] theorem State.writePlain_brd (a : Nat) (w : Word) : (s.writePlain a w).brd = s.brd := rfl
@[simp] theorem State.writePlain_yld (a : Nat) (w : Word) : (s.writePlain a w).yld = s.yld := rfl
@[simp] theorem State.writePlain_img (a : Nat) (w : Word) : (s.writePlain a w).img = s.img := rfl
@[simp] theorem State.writePlain_dsp (a : Nat) (w : Word) : (s.writePlain a w).dsp = s.dsp := rfl
@[simp] theorem State.writePlain_net (a : Nat) (w : Word) : (s.writePlain a w).net = s.net := rfl
@[simp] theorem State.writePlain_tdm (a : Nat) (w : Word) : (s.writePlain a w).tdm = s.tdm := rfl
@[simp] theorem State.writePlain_pwr (a : Nat) (w : Word) : (s.writePlain a w).pwr = s.pwr := rfl

/-! ### raiseFlag -/
@[simp] theorem State.raiseFlag_mem (f : Fld) (n : Nat) : (s.raiseFlag f n).mem = s.mem := by
  unfold State.raiseFlag; split <;> rfl
@[simp] theorem State.raiseFlag_part (f : Fld) (n : Nat) : (s.raiseFlag f n).part = s.part := by
  unfold State.raiseFlag; split <;> rfl
@[simp] theorem State.raiseFlag_pending (f : Fld) (n : Nat) : (s.raiseFlag f n).pending = s.pending := by
  unfold State.raiseFlag; split <;> rfl
@[simp] theorem State.raiseFlag_rdata (f : Fld) (n : Nat) : (s.raiseFlag f n).rdata = s.rdata := by
  unfold State.raiseFlag; split <;> rfl
@[simp] theorem State.raiseFlag_freeSeq (f : Fld) (n : Nat) : (s.raiseFlag f n).freeSeq = s.freeSeq := by
  unfold State.raiseFlag; split <;> rfl
@[simp] theorem State.raiseFlag_now (f : Fld) (n : Nat) : (s.raiseFlag f n).now = s.now := by
  unfold State.raiseFlag; split <;> rfl
@[simp] theorem State.raiseFlag_rings (f : Fld) (n : Nat) : (s.raiseFlag f n).rings = s.rings := by
  unfold State.raiseFlag; split <;> rfl
@[simp] theorem State.raiseFlag_routes (f : Fld) (n : Nat) : (s.raiseFlag f n).routes = s.routes := by
  unfold State.raiseFlag; split <;> rfl
@[simp] theorem State.raiseFlag_tableJobs (f : Fld) (n : Nat) : (s.raiseFlag f n).tableJobs = s.tableJobs := by
  unfold State.raiseFlag; split <;> rfl
@[simp] theorem State.raiseFlag_entries (f : Fld) (n : Nat) : (s.raiseFlag f n).entries = s.entries := by
  unfold State.raiseFlag; split <;> rfl
@[simp] theorem State.raiseFlag_rein (f : Fld) (n : Nat) : (s.raiseFlag f n).rein = s.rein := by
  unfold State.raiseFlag; split <;> rfl
@[simp] theorem State.raiseFlag_evr (f : Fld) (n : Nat) : (s.raiseFlag f n).evr = s.evr := by
  unfold State.raiseFlag; split <;> rfl
@[simp] theorem State.raiseFlag_outBufs (f : Fld) (n : Nat) : (s.raiseFlag f n).outBufs = s.outBufs := by
  unfold State.raiseFlag; split <;> rfl
@[simp] theorem State.raiseFlag_tim (f : Fld) (n : Nat) : (s.raiseFlag f n).tim = s.tim := by
  unfold State.raiseFlag; split <;> rfl
@[simp] theorem State.raiseFlag_upd (f : Fld) (n : Nat) : (s.raiseFlag f n).upd = s.upd := by
  unfold State.raiseFlag; split <;> rfl
@[simp] theorem State.raiseFlag_afe (f : Fld) (n : Nat) : (s.raiseFlag f n).afe = s.afe := by
  unfold State.raiseFlag; split <;> rfl
@[simp] theorem State.raiseFlag_wve (f : Fld) (n : Nat) : (s.raiseFlag f n).wve = s.wve := by
  unfold State.raiseFlag; split <;> rfl
@[simp] theorem State.raiseFlag_gns (f : Fld) (n : Nat) : (s.raiseFlag f n).gns = s.gns := by
  unfold State.raiseFlag; split <;> rfl
@[simp] theorem State.raiseFlag_str (f : Fld) (n : Nat) : (s.raiseFlag f n).str = s.str := by
  unfold State.raiseFlag; split <;> rfl
@[simp] theorem State.raiseFlag_dio (f : Fld) (n : Nat) : (s.raiseFlag f n).dio = s.dio := by
  unfold State.raiseFlag; split <;> rfl
@[simp] theorem State.raiseFlag_lsw (f : Fld) (n : Nat) : (s.raiseFlag f n).lsw = s.lsw := by
  unfold State.raiseFlag; split <;> rfl
@[simp] theorem State.raiseFlag_sol (f : Fld) (n : Nat) : (s.raiseFlag f n).sol = s.sol := by
  unfold State.raiseFlag; split <;> rfl
@[simp] theorem State.raiseFlag_ept (f : Fld) (n : Nat) : (s.raiseFlag f n).ept = s.ept := by
  unfold State.raiseFlag; split <;> rfl
@[simp] theorem State.raiseFlag_slt (f : Fld) (n : Nat) : (s.raiseFlag f n).slt = s.slt := by
  unfold State.raiseFlag; split <;> rfl
@[simp] theorem State.raiseFlag_cov (f : Fld) (n : Nat) : (s.raiseFlag f n).cov = s.cov := by
  unfold State.raiseFlag; split <;> rfl
@[simp] theorem State.raiseFlag_brd (f : Fld) (n : Nat) : (s.raiseFlag f n).brd = s.brd := by
  unfold State.raiseFlag; split <;> rfl
@[simp] theorem State.raiseFlag_yld (f : Fld) (n : Nat) : (s.raiseFlag f n).yld = s.yld := by
  unfold State.raiseFlag; split <;> rfl
@[simp] theorem State.raiseFlag_img (f : Fld) (n : Nat) : (s.raiseFlag f n).img = s.img := by
  unfold State.raiseFlag; split <;> rfl
@[simp] theorem State.raiseFlag_dsp (f : Fld) (n : Nat) : (s.raiseFlag f n).dsp = s.dsp := by
  unfold State.raiseFlag; split <;> rfl
@[simp] theorem State.raiseFlag_net (f : Fld) (n : Nat) : (s.raiseFlag f n).net = s.net := by
  unfold State.raiseFlag; split <;> rfl
@[simp] theorem State.raiseFlag_tdm (f : Fld) (n : Nat) : (s.raiseFlag f n).tdm = s.tdm := by
  unfold State.raiseFlag; split <;> rfl
@[simp] theorem State.raiseFlag_pwr (f : Fld) (n : Nat) : (s.raiseFlag f n).pwr = s.pwr := by
  unfold State.raiseFlag; split <;> rfl

/-! ### The records of the units -/
@[simp] theorem State.clearRegs_mem (sel : Nat → FieldRow → Bool) : (s.clearRegs sel).mem = s.mem := rfl
@[simp] theorem State.clearRegs_part (sel : Nat → FieldRow → Bool) : (s.clearRegs sel).part = s.part := rfl
@[simp] theorem State.clearRegs_pending (sel : Nat → FieldRow → Bool) : (s.clearRegs sel).pending = s.pending := rfl
@[simp] theorem State.clearRegs_now (sel : Nat → FieldRow → Bool) : (s.clearRegs sel).now = s.now := rfl
@[simp] theorem State.clearRegs_rings (sel : Nat → FieldRow → Bool) : (s.clearRegs sel).rings = s.rings := rfl
@[simp] theorem State.clearRegs_entries (sel : Nat → FieldRow → Bool) : (s.clearRegs sel).entries = s.entries := rfl
@[simp] theorem State.setRing_regs (n : Nat) (r : Ring) : (s.setRing n r).regs = s.regs := rfl
@[simp] theorem State.setRing_mem (n : Nat) (r : Ring) : (s.setRing n r).mem = s.mem := rfl
@[simp] theorem State.setRing_part (n : Nat) (r : Ring) : (s.setRing n r).part = s.part := rfl
@[simp] theorem State.setRing_pending (n : Nat) (r : Ring) : (s.setRing n r).pending = s.pending := rfl
@[simp] theorem State.setRing_now (n : Nat) (r : Ring) : (s.setRing n r).now = s.now := rfl
@[simp] theorem State.setRing_entries (n : Nat) (r : Ring) : (s.setRing n r).entries = s.entries := rfl
@[simp] theorem State.setEntry_regs (t i : Nat) (bs : List Byte) : (s.setEntry t i bs).regs = s.regs := rfl
@[simp] theorem State.setEntry_mem (t i : Nat) (bs : List Byte) : (s.setEntry t i bs).mem = s.mem := rfl
@[simp] theorem State.setEntry_part (t i : Nat) (bs : List Byte) : (s.setEntry t i bs).part = s.part := rfl
@[simp] theorem State.setEntry_pending (t i : Nat) (bs : List Byte) : (s.setEntry t i bs).pending = s.pending := rfl
@[simp] theorem State.setEntry_now (t i : Nat) (bs : List Byte) : (s.setEntry t i bs).now = s.now := rfl
@[simp] theorem State.setEntry_rings (t i : Nat) (bs : List Byte) : (s.setEntry t i bs).rings = s.rings := rfl
@[simp] theorem State.setLoop_regs (n : Nat) (x : BLoop) : (s.setLoop n x).regs = s.regs := rfl
@[simp] theorem State.setLoop_mem (n : Nat) (x : BLoop) : (s.setLoop n x).mem = s.mem := rfl
@[simp] theorem State.setLoop_part (n : Nat) (x : BLoop) : (s.setLoop n x).part = s.part := rfl
@[simp] theorem State.setLoop_pending (n : Nat) (x : BLoop) : (s.setLoop n x).pending = s.pending := rfl
@[simp] theorem State.setLoop_now (n : Nat) (x : BLoop) : (s.setLoop n x).now = s.now := rfl
@[simp] theorem State.setLoop_rings (n : Nat) (x : BLoop) : (s.setLoop n x).rings = s.rings := rfl
@[simp] theorem State.setLoop_entries (n : Nat) (x : BLoop) : (s.setLoop n x).entries = s.entries := rfl
@[simp] theorem State.setOutBuf_regs (n : Nat) (b : Option OutBuf) : (s.setOutBuf n b).regs = s.regs := rfl
@[simp] theorem State.setOutBuf_mem (n : Nat) (b : Option OutBuf) : (s.setOutBuf n b).mem = s.mem := rfl
@[simp] theorem State.setOutBuf_part (n : Nat) (b : Option OutBuf) : (s.setOutBuf n b).part = s.part := rfl
@[simp] theorem State.setOutBuf_pending (n : Nat) (b : Option OutBuf) : (s.setOutBuf n b).pending = s.pending := rfl
@[simp] theorem State.setOutBuf_now (n : Nat) (b : Option OutBuf) : (s.setOutBuf n b).now = s.now := rfl
@[simp] theorem State.setOutBuf_rings (n : Nat) (b : Option OutBuf) : (s.setOutBuf n b).rings = s.rings := rfl
@[simp] theorem State.setOutBuf_entries (n : Nat) (b : Option OutBuf) : (s.setOutBuf n b).entries = s.entries := rfl
@[simp] theorem State.tick_regs : (s.tick).regs = s.regs := rfl
@[simp] theorem State.tick_mem : (s.tick).mem = s.mem := rfl
@[simp] theorem State.tick_part : (s.tick).part = s.part := rfl
@[simp] theorem State.tick_pending : (s.tick).pending = s.pending := rfl
@[simp] theorem State.tick_rings : (s.tick).rings = s.rings := rfl
@[simp] theorem State.tick_entries : (s.tick).entries = s.entries := rfl
@[simp] theorem State.setAin_regs (i : Nat) (x : Ain) : (s.setAin i x).regs = s.regs := rfl
@[simp] theorem State.setAin_mem (i : Nat) (x : Ain) : (s.setAin i x).mem = s.mem := rfl
@[simp] theorem State.setAin_part (i : Nat) (x : Ain) : (s.setAin i x).part = s.part := rfl
@[simp] theorem State.setAin_pending (i : Nat) (x : Ain) : (s.setAin i x).pending = s.pending := rfl
@[simp] theorem State.setAin_now (i : Nat) (x : Ain) : (s.setAin i x).now = s.now := rfl
@[simp] theorem State.setAin_rings (i : Nat) (x : Ain) : (s.setAin i x).rings = s.rings := rfl
@[simp] theorem State.setAin_entries (i : Nat) (x : Ain) : (s.setAin i x).entries = s.entries := rfl
@[simp] theorem State.setPin_regs (n : Nat) (x : Pin) : (s.setPin n x).regs = s.regs := rfl
@[simp] theorem State.setPin_mem (n : Nat) (x : Pin) : (s.setPin n x).mem = s.mem := rfl
@[simp] theorem State.setPin_part (n : Nat) (x : Pin) : (s.setPin n x).part = s.part := rfl
@[simp] theorem State.setPin_pending (n : Nat) (x : Pin) : (s.setPin n x).pending = s.pending := rfl
@[simp] theorem State.setPin_now (n : Nat) (x : Pin) : (s.setPin n x).now = s.now := rfl
@[simp] theorem State.setPin_rings (n : Nat) (x : Pin) : (s.setPin n x).rings = s.rings := rfl
@[simp] theorem State.setPin_entries (n : Nat) (x : Pin) : (s.setPin n x).entries = s.entries := rfl
@[simp] theorem State.setZx_regs (z : Nat) (x : Zx) : (s.setZx z x).regs = s.regs := rfl
@[simp] theorem State.setZx_mem (z : Nat) (x : Zx) : (s.setZx z x).mem = s.mem := rfl
@[simp] theorem State.setZx_part (z : Nat) (x : Zx) : (s.setZx z x).part = s.part := rfl
@[simp] theorem State.setZx_pending (z : Nat) (x : Zx) : (s.setZx z x).pending = s.pending := rfl
@[simp] theorem State.setZx_now (z : Nat) (x : Zx) : (s.setZx z x).now = s.now := rfl
@[simp] theorem State.setZx_rings (z : Nat) (x : Zx) : (s.setZx z x).rings = s.rings := rfl
@[simp] theorem State.setZx_entries (z : Nat) (x : Zx) : (s.setZx z x).entries = s.entries := rfl
@[simp] theorem State.setSrc_regs (x : Nat) (r : WSrc) : (s.setSrc x r).regs = s.regs := rfl
@[simp] theorem State.setSrc_mem (x : Nat) (r : WSrc) : (s.setSrc x r).mem = s.mem := rfl
@[simp] theorem State.setSrc_part (x : Nat) (r : WSrc) : (s.setSrc x r).part = s.part := rfl
@[simp] theorem State.setSrc_pending (x : Nat) (r : WSrc) : (s.setSrc x r).pending = s.pending := rfl
@[simp] theorem State.setSrc_now (x : Nat) (r : WSrc) : (s.setSrc x r).now = s.now := rfl
@[simp] theorem State.setSrc_rings (x : Nat) (r : WSrc) : (s.setSrc x r).rings = s.rings := rfl
@[simp] theorem State.setSrc_entries (x : Nat) (r : WSrc) : (s.setSrc x r).entries = s.entries := rfl
@[simp] theorem State.setTrk_regs (x : Nat) (r : Option Trk) : (s.setTrk x r).regs = s.regs := rfl
@[simp] theorem State.setTrk_mem (x : Nat) (r : Option Trk) : (s.setTrk x r).mem = s.mem := rfl
@[simp] theorem State.setTrk_part (x : Nat) (r : Option Trk) : (s.setTrk x r).part = s.part := rfl
@[simp] theorem State.setTrk_pending (x : Nat) (r : Option Trk) : (s.setTrk x r).pending = s.pending := rfl
@[simp] theorem State.setTrk_now (x : Nat) (r : Option Trk) : (s.setTrk x r).now = s.now := rfl
@[simp] theorem State.setTrk_rings (x : Nat) (r : Option Trk) : (s.setTrk x r).rings = s.rings := rfl
@[simp] theorem State.setTrk_entries (x : Nat) (r : Option Trk) : (s.setTrk x r).entries = s.entries := rfl
@[simp] theorem State.setChan_regs (c : Nat) (x : Option Chan) : (s.setChan c x).regs = s.regs := rfl
@[simp] theorem State.setChan_mem (c : Nat) (x : Option Chan) : (s.setChan c x).mem = s.mem := rfl
@[simp] theorem State.setChan_part (c : Nat) (x : Option Chan) : (s.setChan c x).part = s.part := rfl
@[simp] theorem State.setChan_pending (c : Nat) (x : Option Chan) : (s.setChan c x).pending = s.pending := rfl
@[simp] theorem State.setChan_now (c : Nat) (x : Option Chan) : (s.setChan c x).now = s.now := rfl
@[simp] theorem State.setChan_rings (c : Nat) (x : Option Chan) : (s.setChan c x).rings = s.rings := rfl
@[simp] theorem State.setChan_entries (c : Nat) (x : Option Chan) : (s.setChan c x).entries = s.entries := rfl
@[simp] theorem State.setAxis_regs (a : Nat) (x : Axis) : (s.setAxis a x).regs = s.regs := rfl
@[simp] theorem State.setAxis_mem (a : Nat) (x : Axis) : (s.setAxis a x).mem = s.mem := rfl
@[simp] theorem State.setAxis_part (a : Nat) (x : Axis) : (s.setAxis a x).part = s.part := rfl
@[simp] theorem State.setAxis_pending (a : Nat) (x : Axis) : (s.setAxis a x).pending = s.pending := rfl
@[simp] theorem State.setAxis_now (a : Nat) (x : Axis) : (s.setAxis a x).now = s.now := rfl
@[simp] theorem State.setAxis_rings (a : Nat) (x : Axis) : (s.setAxis a x).rings = s.rings := rfl
@[simp] theorem State.setAxis_entries (a : Nat) (x : Axis) : (s.setAxis a x).entries = s.entries := rfl
@[simp] theorem State.setTrg_regs (n : Nat) (x : Option Cross) : (s.setTrg n x).regs = s.regs := rfl
@[simp] theorem State.setTrg_mem (n : Nat) (x : Option Cross) : (s.setTrg n x).mem = s.mem := rfl
@[simp] theorem State.setTrg_part (n : Nat) (x : Option Cross) : (s.setTrg n x).part = s.part := rfl
@[simp] theorem State.setTrg_pending (n : Nat) (x : Option Cross) : (s.setTrg n x).pending = s.pending := rfl
@[simp] theorem State.setTrg_now (n : Nat) (x : Option Cross) : (s.setTrg n x).now = s.now := rfl
@[simp] theorem State.setTrg_rings (n : Nat) (x : Option Cross) : (s.setTrg n x).rings = s.rings := rfl
@[simp] theorem State.setTrg_entries (n : Nat) (x : Option Cross) : (s.setTrg n x).entries = s.entries := rfl
@[simp] theorem State.setDpt_regs (n : Nat) (x : DPt) : (s.setDpt n x).regs = s.regs := rfl
@[simp] theorem State.setDpt_mem (n : Nat) (x : DPt) : (s.setDpt n x).mem = s.mem := rfl
@[simp] theorem State.setDpt_part (n : Nat) (x : DPt) : (s.setDpt n x).part = s.part := rfl
@[simp] theorem State.setDpt_pending (n : Nat) (x : DPt) : (s.setDpt n x).pending = s.pending := rfl
@[simp] theorem State.setDpt_now (n : Nat) (x : DPt) : (s.setDpt n x).now = s.now := rfl
@[simp] theorem State.setDpt_rings (n : Nat) (x : DPt) : (s.setDpt n x).rings = s.rings := rfl
@[simp] theorem State.setDpt_entries (n : Nat) (x : DPt) : (s.setDpt n x).entries = s.entries := rfl
@[simp] theorem State.setLch_regs (n : Nat) (x : LCh) : (s.setLch n x).regs = s.regs := rfl
@[simp] theorem State.setLch_mem (n : Nat) (x : LCh) : (s.setLch n x).mem = s.mem := rfl
@[simp] theorem State.setLch_part (n : Nat) (x : LCh) : (s.setLch n x).part = s.part := rfl
@[simp] theorem State.setLch_pending (n : Nat) (x : LCh) : (s.setLch n x).pending = s.pending := rfl
@[simp] theorem State.setLch_now (n : Nat) (x : LCh) : (s.setLch n x).now = s.now := rfl
@[simp] theorem State.setLch_rings (n : Nat) (x : LCh) : (s.setLch n x).rings = s.rings := rfl
@[simp] theorem State.setLch_entries (n : Nat) (x : LCh) : (s.setLch n x).entries = s.entries := rfl
@[simp] theorem State.setOvl_regs (d t : Nat) (x : Option Nat) : (s.setOvl d t x).regs = s.regs := rfl
@[simp] theorem State.setOvl_mem (d t : Nat) (x : Option Nat) : (s.setOvl d t x).mem = s.mem := rfl
@[simp] theorem State.setOvl_part (d t : Nat) (x : Option Nat) : (s.setOvl d t x).part = s.part := rfl
@[simp] theorem State.setOvl_pending (d t : Nat) (x : Option Nat) : (s.setOvl d t x).pending = s.pending := rfl
@[simp] theorem State.setOvl_now (d t : Nat) (x : Option Nat) : (s.setOvl d t x).now = s.now := rfl
@[simp] theorem State.setOvl_rings (d t : Nat) (x : Option Nat) : (s.setOvl d t x).rings = s.rings := rfl
@[simp] theorem State.setOvl_entries (d t : Nat) (x : Option Nat) : (s.setOvl d t x).entries = s.entries := rfl
@[simp] theorem State.setSch_regs (n : Nat) (x : SCh) : (s.setSch n x).regs = s.regs := rfl
@[simp] theorem State.setSch_mem (n : Nat) (x : SCh) : (s.setSch n x).mem = s.mem := rfl
@[simp] theorem State.setSch_part (n : Nat) (x : SCh) : (s.setSch n x).part = s.part := rfl
@[simp] theorem State.setSch_pending (n : Nat) (x : SCh) : (s.setSch n x).pending = s.pending := rfl
@[simp] theorem State.setSch_now (n : Nat) (x : SCh) : (s.setSch n x).now = s.now := rfl
@[simp] theorem State.setSch_rings (n : Nat) (x : SCh) : (s.setSch n x).rings = s.rings := rfl
@[simp] theorem State.setSch_entries (n : Nat) (x : SCh) : (s.setSch n x).entries = s.entries := rfl
@[simp] theorem State.setStopped_regs (b : Nat) (p : Bool) : (s.setStopped b p).regs = s.regs := rfl
@[simp] theorem State.setStopped_mem (b : Nat) (p : Bool) : (s.setStopped b p).mem = s.mem := rfl
@[simp] theorem State.setStopped_part (b : Nat) (p : Bool) : (s.setStopped b p).part = s.part := rfl
@[simp] theorem State.setStopped_pending (b : Nat) (p : Bool) : (s.setStopped b p).pending = s.pending := rfl
@[simp] theorem State.setStopped_now (b : Nat) (p : Bool) : (s.setStopped b p).now = s.now := rfl
@[simp] theorem State.setStopped_rings (b : Nat) (p : Bool) : (s.setStopped b p).rings = s.rings := rfl
@[simp] theorem State.setStopped_entries (b : Nat) (p : Bool) : (s.setStopped b p).entries = s.entries := rfl
@[simp] theorem State.setShedList_regs (d : Nat) (l : List Nat) : (s.setShedList d l).regs = s.regs := rfl
@[simp] theorem State.setShedList_mem (d : Nat) (l : List Nat) : (s.setShedList d l).mem = s.mem := rfl
@[simp] theorem State.setShedList_part (d : Nat) (l : List Nat) : (s.setShedList d l).part = s.part := rfl
@[simp] theorem State.setShedList_pending (d : Nat) (l : List Nat) : (s.setShedList d l).pending = s.pending := rfl
@[simp] theorem State.setShedList_now (d : Nat) (l : List Nat) : (s.setShedList d l).now = s.now := rfl
@[simp] theorem State.setShedList_rings (d : Nat) (l : List Nat) : (s.setShedList d l).rings = s.rings := rfl
@[simp] theorem State.setShedList_entries (d : Nat) (l : List Nat) : (s.setShedList d l).entries = s.entries := rfl
@[simp] theorem State.setEp_regs (e : Nat) (x : Ep) : (s.setEp e x).regs = s.regs := rfl
@[simp] theorem State.setEp_mem (e : Nat) (x : Ep) : (s.setEp e x).mem = s.mem := rfl
@[simp] theorem State.setEp_part (e : Nat) (x : Ep) : (s.setEp e x).part = s.part := rfl
@[simp] theorem State.setEp_pending (e : Nat) (x : Ep) : (s.setEp e x).pending = s.pending := rfl
@[simp] theorem State.setEp_now (e : Nat) (x : Ep) : (s.setEp e x).now = s.now := rfl
@[simp] theorem State.setEp_rings (e : Nat) (x : Ep) : (s.setEp e x).rings = s.rings := rfl
@[simp] theorem State.setEp_entries (e : Nat) (x : Ep) : (s.setEp e x).entries = s.entries := rfl
@[simp] theorem State.setNode_regs (b n : Nat) (x : Node) : (s.setNode b n x).regs = s.regs := rfl
@[simp] theorem State.setNode_mem (b n : Nat) (x : Node) : (s.setNode b n x).mem = s.mem := rfl
@[simp] theorem State.setNode_part (b n : Nat) (x : Node) : (s.setNode b n x).part = s.part := rfl
@[simp] theorem State.setNode_pending (b n : Nat) (x : Node) : (s.setNode b n x).pending = s.pending := rfl
@[simp] theorem State.setNode_now (b n : Nat) (x : Node) : (s.setNode b n x).now = s.now := rfl
@[simp] theorem State.setNode_rings (b n : Nat) (x : Node) : (s.setNode b n x).rings = s.rings := rfl
@[simp] theorem State.setNode_entries (b n : Nat) (x : Node) : (s.setNode b n x).entries = s.entries := rfl
@[simp] theorem State.setRun_regs (c n : Nat) (r : SRun) : (s.setRun c n r).regs = s.regs := rfl
@[simp] theorem State.setRun_mem (c n : Nat) (r : SRun) : (s.setRun c n r).mem = s.mem := rfl
@[simp] theorem State.setRun_part (c n : Nat) (r : SRun) : (s.setRun c n r).part = s.part := rfl
@[simp] theorem State.setRun_pending (c n : Nat) (r : SRun) : (s.setRun c n r).pending = s.pending := rfl
@[simp] theorem State.setRun_now (c n : Nat) (r : SRun) : (s.setRun c n r).now = s.now := rfl
@[simp] theorem State.setRun_rings (c n : Nat) (r : SRun) : (s.setRun c n r).rings = s.rings := rfl
@[simp] theorem State.setRun_entries (c n : Nat) (r : SRun) : (s.setRun c n r).entries = s.entries := rfl
@[simp] theorem State.arm1_regs (e : Nat) (g : Edge) (t : Nat) : (s.arm1 e g t).regs = s.regs := rfl
@[simp] theorem State.arm1_mem (e : Nat) (g : Edge) (t : Nat) : (s.arm1 e g t).mem = s.mem := rfl
@[simp] theorem State.arm1_part (e : Nat) (g : Edge) (t : Nat) : (s.arm1 e g t).part = s.part := rfl
@[simp] theorem State.arm1_pending (e : Nat) (g : Edge) (t : Nat) : (s.arm1 e g t).pending = s.pending := rfl
@[simp] theorem State.arm1_now (e : Nat) (g : Edge) (t : Nat) : (s.arm1 e g t).now = s.now := rfl
@[simp] theorem State.arm1_rings (e : Nat) (g : Edge) (t : Nat) : (s.arm1 e g t).rings = s.rings := rfl
@[simp] theorem State.arm1_entries (e : Nat) (g : Edge) (t : Nat) : (s.arm1 e g t).entries = s.entries := rfl
@[simp] theorem State.disarm_regs (p : Armed → Bool) : (s.disarm p).regs = s.regs := rfl
@[simp] theorem State.disarm_mem (p : Armed → Bool) : (s.disarm p).mem = s.mem := rfl
@[simp] theorem State.disarm_part (p : Armed → Bool) : (s.disarm p).part = s.part := rfl
@[simp] theorem State.disarm_pending (p : Armed → Bool) : (s.disarm p).pending = s.pending := rfl
@[simp] theorem State.disarm_now (p : Armed → Bool) : (s.disarm p).now = s.now := rfl
@[simp] theorem State.disarm_rings (p : Armed → Bool) : (s.disarm p).rings = s.rings := rfl
@[simp] theorem State.disarm_entries (p : Armed → Bool) : (s.disarm p).entries = s.entries := rfl
@[simp] theorem State.dropCond_regs (p : Armed → Bool) : (s.dropCond p).regs = s.regs := rfl
@[simp] theorem State.dropCond_mem (p : Armed → Bool) : (s.dropCond p).mem = s.mem := rfl
@[simp] theorem State.dropCond_part (p : Armed → Bool) : (s.dropCond p).part = s.part := rfl
@[simp] theorem State.dropCond_pending (p : Armed → Bool) : (s.dropCond p).pending = s.pending := rfl
@[simp] theorem State.dropCond_now (p : Armed → Bool) : (s.dropCond p).now = s.now := rfl
@[simp] theorem State.dropCond_rings (p : Armed → Bool) : (s.dropCond p).rings = s.rings := rfl
@[simp] theorem State.dropCond_entries (p : Armed → Bool) : (s.dropCond p).entries = s.entries := rfl
@[simp] theorem State.trimIssue_regs : (s.trimIssue).regs = s.regs := rfl
@[simp] theorem State.trimIssue_mem : (s.trimIssue).mem = s.mem := rfl
@[simp] theorem State.trimIssue_part : (s.trimIssue).part = s.part := rfl
@[simp] theorem State.trimIssue_pending : (s.trimIssue).pending = s.pending := rfl
@[simp] theorem State.trimIssue_now : (s.trimIssue).now = s.now := rfl
@[simp] theorem State.trimIssue_rings : (s.trimIssue).rings = s.rings := rfl
@[simp] theorem State.trimIssue_entries : (s.trimIssue).entries = s.entries := rfl
@[simp] theorem State.noteCounts_regs : (s.noteCounts).regs = s.regs := rfl
@[simp] theorem State.noteCounts_mem : (s.noteCounts).mem = s.mem := rfl
@[simp] theorem State.noteCounts_part : (s.noteCounts).part = s.part := rfl
@[simp] theorem State.noteCounts_pending : (s.noteCounts).pending = s.pending := rfl
@[simp] theorem State.noteCounts_now : (s.noteCounts).now = s.now := rfl
@[simp] theorem State.noteCounts_rings : (s.noteCounts).rings = s.rings := rfl
@[simp] theorem State.noteCounts_entries : (s.noteCounts).entries = s.entries := rfl
@[simp] theorem State.yieldIssue_regs : (s.yieldIssue).regs = s.regs := rfl
@[simp] theorem State.yieldIssue_mem : (s.yieldIssue).mem = s.mem := rfl
@[simp] theorem State.yieldIssue_part : (s.yieldIssue).part = s.part := rfl
@[simp] theorem State.yieldIssue_pending : (s.yieldIssue).pending = s.pending := rfl
@[simp] theorem State.yieldIssue_now : (s.yieldIssue).now = s.now := rfl
@[simp] theorem State.yieldIssue_rings : (s.yieldIssue).rings = s.rings := rfl
@[simp] theorem State.yieldIssue_entries : (s.yieldIssue).entries = s.entries := rfl
@[simp] theorem State.setCam_regs (c : Nat) (x : Cam) : (s.setCam c x).regs = s.regs := rfl
@[simp] theorem State.setCam_mem (c : Nat) (x : Cam) : (s.setCam c x).mem = s.mem := rfl
@[simp] theorem State.setCam_part (c : Nat) (x : Cam) : (s.setCam c x).part = s.part := rfl
@[simp] theorem State.setCam_pending (c : Nat) (x : Cam) : (s.setCam c x).pending = s.pending := rfl
@[simp] theorem State.setCam_now (c : Nat) (x : Cam) : (s.setCam c x).now = s.now := rfl
@[simp] theorem State.setCam_rings (c : Nat) (x : Cam) : (s.setCam c x).rings = s.rings := rfl
@[simp] theorem State.setCam_entries (c : Nat) (x : Cam) : (s.setCam c x).entries = s.entries := rfl
@[simp] theorem State.setCtx_regs (x : Nat) (v : Ctx) : (s.setCtx x v).regs = s.regs := rfl
@[simp] theorem State.setCtx_mem (x : Nat) (v : Ctx) : (s.setCtx x v).mem = s.mem := rfl
@[simp] theorem State.setCtx_part (x : Nat) (v : Ctx) : (s.setCtx x v).part = s.part := rfl
@[simp] theorem State.setCtx_pending (x : Nat) (v : Ctx) : (s.setCtx x v).pending = s.pending := rfl
@[simp] theorem State.setCtx_now (x : Nat) (v : Ctx) : (s.setCtx x v).now = s.now := rfl
@[simp] theorem State.setCtx_rings (x : Nat) (v : Ctx) : (s.setCtx x v).rings = s.rings := rfl
@[simp] theorem State.setCtx_entries (x : Nat) (v : Ctx) : (s.setCtx x v).entries = s.entries := rfl
@[simp] theorem State.setEnc_regs (k : Nat) (v : Enc) : (s.setEnc k v).regs = s.regs := rfl
@[simp] theorem State.setEnc_mem (k : Nat) (v : Enc) : (s.setEnc k v).mem = s.mem := rfl
@[simp] theorem State.setEnc_part (k : Nat) (v : Enc) : (s.setEnc k v).part = s.part := rfl
@[simp] theorem State.setEnc_pending (k : Nat) (v : Enc) : (s.setEnc k v).pending = s.pending := rfl
@[simp] theorem State.setEnc_now (k : Nat) (v : Enc) : (s.setEnc k v).now = s.now := rfl
@[simp] theorem State.setEnc_rings (k : Nat) (v : Enc) : (s.setEnc k v).rings = s.rings := rfl
@[simp] theorem State.setEnc_entries (k : Nat) (v : Enc) : (s.setEnc k v).entries = s.entries := rfl
@[simp] theorem State.setPipe_regs (p : Nat) (v : Pipe) : (s.setPipe p v).regs = s.regs := rfl
@[simp] theorem State.setPipe_mem (p : Nat) (v : Pipe) : (s.setPipe p v).mem = s.mem := rfl
@[simp] theorem State.setPipe_part (p : Nat) (v : Pipe) : (s.setPipe p v).part = s.part := rfl
@[simp] theorem State.setPipe_pending (p : Nat) (v : Pipe) : (s.setPipe p v).pending = s.pending := rfl
@[simp] theorem State.setPipe_now (p : Nat) (v : Pipe) : (s.setPipe p v).now = s.now := rfl
@[simp] theorem State.setPipe_rings (p : Nat) (v : Pipe) : (s.setPipe p v).rings = s.rings := rfl
@[simp] theorem State.setPipe_entries (p : Nat) (v : Pipe) : (s.setPipe p v).entries = s.entries := rfl
@[simp] theorem State.setPanel_regs (p : Nat) (x : Panel) : (s.setPanel p x).regs = s.regs := rfl
@[simp] theorem State.setPanel_mem (p : Nat) (x : Panel) : (s.setPanel p x).mem = s.mem := rfl
@[simp] theorem State.setPanel_part (p : Nat) (x : Panel) : (s.setPanel p x).part = s.part := rfl
@[simp] theorem State.setPanel_pending (p : Nat) (x : Panel) : (s.setPanel p x).pending = s.pending := rfl
@[simp] theorem State.setPanel_now (p : Nat) (x : Panel) : (s.setPanel p x).now = s.now := rfl
@[simp] theorem State.setPanel_rings (p : Nat) (x : Panel) : (s.setPanel p x).rings = s.rings := rfl
@[simp] theorem State.setPanel_entries (p : Nat) (x : Panel) : (s.setPanel p x).entries = s.entries := rfl
@[simp] theorem State.setCan_regs (n : Nat) (x : CanU) : (s.setCan n x).regs = s.regs := rfl
@[simp] theorem State.setCan_mem (n : Nat) (x : CanU) : (s.setCan n x).mem = s.mem := rfl
@[simp] theorem State.setCan_part (n : Nat) (x : CanU) : (s.setCan n x).part = s.part := rfl
@[simp] theorem State.setCan_pending (n : Nat) (x : CanU) : (s.setCan n x).pending = s.pending := rfl
@[simp] theorem State.setCan_now (n : Nat) (x : CanU) : (s.setCan n x).now = s.now := rfl
@[simp] theorem State.setCan_rings (n : Nat) (x : CanU) : (s.setCan n x).rings = s.rings := rfl
@[simp] theorem State.setCan_entries (n : Nat) (x : CanU) : (s.setCan n x).entries = s.entries := rfl
@[simp] theorem State.slotDrop_regs (l : List OutRec) : (s.slotDrop l).regs = s.regs := rfl
@[simp] theorem State.slotDrop_mem (l : List OutRec) : (s.slotDrop l).mem = s.mem := rfl
@[simp] theorem State.slotDrop_part (l : List OutRec) : (s.slotDrop l).part = s.part := rfl
@[simp] theorem State.slotDrop_pending (l : List OutRec) : (s.slotDrop l).pending = s.pending := rfl
@[simp] theorem State.slotDrop_now (l : List OutRec) : (s.slotDrop l).now = s.now := rfl
@[simp] theorem State.slotDrop_rings (l : List OutRec) : (s.slotDrop l).rings = s.rings := rfl
@[simp] theorem State.slotDrop_entries (l : List OutRec) : (s.slotDrop l).entries = s.entries := rfl
@[simp] theorem State.setEth_regs (x : Eth) : (s.setEth x).regs = s.regs := rfl
@[simp] theorem State.setEth_mem (x : Eth) : (s.setEth x).mem = s.mem := rfl
@[simp] theorem State.setEth_part (x : Eth) : (s.setEth x).part = s.part := rfl
@[simp] theorem State.setEth_pending (x : Eth) : (s.setEth x).pending = s.pending := rfl
@[simp] theorem State.setEth_now (x : Eth) : (s.setEth x).now = s.now := rfl
@[simp] theorem State.setEth_rings (x : Eth) : (s.setEth x).rings = s.rings := rfl
@[simp] theorem State.setEth_entries (x : Eth) : (s.setEth x).entries = s.entries := rfl
@[simp] theorem State.updTdm_regs (f : Tdm → Tdm) : (s.updTdm f).regs = s.regs := rfl
@[simp] theorem State.updTdm_mem (f : Tdm → Tdm) : (s.updTdm f).mem = s.mem := rfl
@[simp] theorem State.updTdm_part (f : Tdm → Tdm) : (s.updTdm f).part = s.part := rfl
@[simp] theorem State.updTdm_pending (f : Tdm → Tdm) : (s.updTdm f).pending = s.pending := rfl
@[simp] theorem State.updTdm_now (f : Tdm → Tdm) : (s.updTdm f).now = s.now := rfl
@[simp] theorem State.updTdm_rings (f : Tdm → Tdm) : (s.updTdm f).rings = s.rings := rfl
@[simp] theorem State.updTdm_entries (f : Tdm → Tdm) : (s.updTdm f).entries = s.entries := rfl
@[simp] theorem State.pmuLatch_regs (n : Nat) : (s.pmuLatch n).regs = s.regs := rfl
@[simp] theorem State.pmuLatch_mem (n : Nat) : (s.pmuLatch n).mem = s.mem := rfl
@[simp] theorem State.pmuLatch_part (n : Nat) : (s.pmuLatch n).part = s.part := rfl
@[simp] theorem State.pmuLatch_pending (n : Nat) : (s.pmuLatch n).pending = s.pending := rfl
@[simp] theorem State.pmuLatch_now (n : Nat) : (s.pmuLatch n).now = s.now := rfl
@[simp] theorem State.pmuLatch_rings (n : Nat) : (s.pmuLatch n).rings = s.rings := rfl
@[simp] theorem State.pmuLatch_entries (n : Nat) : (s.pmuLatch n).entries = s.entries := rfl
@[simp] theorem State.setSlot_regs (p b : Nat) (x : Slot) : (s.setSlot p b x).regs = s.regs := rfl
@[simp] theorem State.setSlot_mem (p b : Nat) (x : Slot) : (s.setSlot p b x).mem = s.mem := rfl
@[simp] theorem State.setSlot_part (p b : Nat) (x : Slot) : (s.setSlot p b x).part = s.part := rfl
@[simp] theorem State.setSlot_pending (p b : Nat) (x : Slot) : (s.setSlot p b x).pending = s.pending := rfl
@[simp] theorem State.setSlot_now (p b : Nat) (x : Slot) : (s.setSlot p b x).now = s.now := rfl
@[simp] theorem State.setSlot_rings (p b : Nat) (x : Slot) : (s.setSlot p b x).rings = s.rings := rfl
@[simp] theorem State.setSlot_entries (p b : Nat) (x : Slot) : (s.setSlot p b x).entries = s.entries := rfl
@[simp] theorem State.updPwr_regs (f : Pwr → Pwr) : (s.updPwr f).regs = s.regs := rfl
@[simp] theorem State.updPwr_mem (f : Pwr → Pwr) : (s.updPwr f).mem = s.mem := rfl
@[simp] theorem State.updPwr_part (f : Pwr → Pwr) : (s.updPwr f).part = s.part := rfl
@[simp] theorem State.updPwr_pending (f : Pwr → Pwr) : (s.updPwr f).pending = s.pending := rfl
@[simp] theorem State.updPwr_now (f : Pwr → Pwr) : (s.updPwr f).now = s.now := rfl
@[simp] theorem State.updPwr_rings (f : Pwr → Pwr) : (s.updPwr f).rings = s.rings := rfl
@[simp] theorem State.updPwr_entries (f : Pwr → Pwr) : (s.updPwr f).entries = s.entries := rfl
@[simp] theorem State.loseTable_regs (t : Nat) : (s.loseTable t).regs = s.regs := rfl
@[simp] theorem State.loseTable_mem (t : Nat) : (s.loseTable t).mem = s.mem := rfl
@[simp] theorem State.loseTable_part (t : Nat) : (s.loseTable t).part = s.part := rfl
@[simp] theorem State.loseTable_pending (t : Nat) : (s.loseTable t).pending = s.pending := rfl
@[simp] theorem State.loseTable_now (t : Nat) : (s.loseTable t).now = s.now := rfl
@[simp] theorem State.loseTable_rings (t : Nat) : (s.loseTable t).rings = s.rings := rfl
@[simp] theorem State.initImg_regs (links : Bool) : (s.initImg links).regs = s.regs := rfl
@[simp] theorem State.initImg_mem (links : Bool) : (s.initImg links).mem = s.mem := rfl
@[simp] theorem State.initImg_part (links : Bool) : (s.initImg links).part = s.part := rfl
@[simp] theorem State.initImg_pending (links : Bool) : (s.initImg links).pending = s.pending := rfl
@[simp] theorem State.initImg_now (links : Bool) : (s.initImg links).now = s.now := rfl
@[simp] theorem State.initImg_rings (links : Bool) : (s.initImg links).rings = s.rings := rfl
@[simp] theorem State.initImg_entries (links : Bool) : (s.initImg links).entries = s.entries := rfl

end Sys2Proof.Machine
end

