-- ==== Sys2Proof/WellFormed.lean ====
section
/-! DEFINITION. When the operands of a command fit together. The widths of the operands are in their types; the lists that a command
carries have bounds of their own. A command that is ill-formed cannot reach the hardware; NAV_RECORD, whose record layout has no
form for one, stops on it, and the others run. -/

namespace Sys2Proof

/-- No two entries of a list are equal. -/
def distinct {α : Type} [DecidableEq α] : List α → Bool
  | [] => true
  | a :: l => !l.contains a && distinct l

/-- The lists a command carries: a navigation frame of 1 to 40 words (R322), one new request a master (R50), one measurement a coil,
channel and pin group (R216, R240), a CAN frame of at most 64 bytes and none with RTR (R421), an Ethernet frame with both addresses
and a type (R437), one position an axis (R454, R458), a BLOCK frame of at least one byte (R466). -/
def Instr.wf : Instr → Bool
  | .navRecord _ _ words => decide (1 ≤ words.length ∧ words.length ≤ 40)
  | .reinArbitrate _ _ arrivals => distinct (arrivals.map (·.1))
  | .reinStarvation _ span => distinct (span.2.map (·.1))
  | .bandEval _ temps currents volts => distinct (temps.map (·.1)) && distinct (currents.map (·.1)) && distinct (volts.map (·.1))
  | .clusterThermSample _ _ currents volts => distinct (currents.map (·.1)) && distinct (volts.map (·.1))
  | .canFrameRx _ _ _ rtr _ _ data _ _ _ _ => decide (data.length ≤ 64) && (!rtr || data.isEmpty)
  | .ethFrameRx _ frame _ _ => decide (14 ≤ frame.length)
  | .tdmTakeover pos => distinct (pos.map (·.1))
  | .mirrorStart pos => distinct (pos.map (·.1))
  | .blockFrame _ data => !data.isEmpty
  | _ => true

end Sys2Proof
end

