-- ==== Sys2Proof/Tests/Slice0.lean ====
section
/-! SUPPORT. Tests: the checks of WellFormed, values the manual works out, and for every clause of every statement of
Certificates/Slice0/Obligations.lean a state and operands that meet its hypotheses together. -/

namespace Sys2Proof.Tests

set_option linter.unusedVariables false
set_option maxRecDepth 100000
set_option Elab.async false

open Sys2Proof Sys2Proof.Machine

/-! ### Small states -/

/-- The state that the small states start from. -/
abbrev z : State := State.reset
/-- APP core 8 of the access tables, privileged and secure. -/
def A8 : Acc := ⟨8, true, true⟩
/-- Set fields of registers. -/
def W (s : State) (l : List (Fld × Nat)) : State := l.foldl (fun s p => s.setFld p.1 p.2) s
/-- A descriptor's bytes. -/
def descB (op len addr a0 a1 a2 a3 : Nat) : List Byte :=
  leBytes 4 op ++ leBytes 4 len ++ leBytes 8 addr ++ leBytes 4 a0 ++ leBytes 4 a1 ++ leBytes 4 a2 ++ leBytes 4 a3
/-- Ring 2 on a queue with one descriptor at 0x20000000, completions to ring 1 at 0x20001000. -/
def ringQ (s : State) (q op len addr a0 a1 a2 a3 : Nat) : State :=
  let s := W s [(F.RNG_CFG_SIZE 1, 4), (F.RNG_CFG_QUEUE 1, 0), (F.RNG_BASE_LO_ADDR 1, 0x20001000 / 64), (F.RNG_BASE_HI_ADDR 1, 0),
    (F.RNG_HW_IDX 1, 0), (F.RNG_DB_IDX 1, 0),
    (F.RNG_CFG_SIZE 2, 4), (F.RNG_CFG_QUEUE 2, q), (F.RNG_CFG_CRING 2, 1), (F.RNG_BASE_LO_ADDR 2, 0x20000000 / 64), (F.RNG_BASE_HI_ADDR 2, 0),
    (F.RNG_HW_IDX 2, 0), (F.RNG_DB_IDX 2, 1)]
  let s := s.setRing 2 { Ring.init with queue := q, cring := 1, masters := [(1, A8)] }
  s.setBytes 0x20000000 (descB op len addr a0 a1 a2 a3)
/-- The descriptor ring 2 starts next. -/
def nd (s : State) : Desc := (s.nextDesc 2).getD ⟨0, 0, false, false, 0, 0, 0, 0, 0, 0, 0⟩
/-- n bytes, those of a list given, the others 0. -/
def bts (n : Nat) (l : List (Nat × Nat)) : List Byte := (List.range n).map (fun i => BitVec.ofNat 8 ((l.find? (fun p => p.1 = i)).map (·.2) |>.getD 0))
/-- One endpoint. -/
def withEp (s : State) (e : Nat) (x : Ep) : State := { s with ept := { s.ept with eps := [(e, { x with used := true })] } }
/-- A coverage field loaded: layer 0 an APPLIED layer of one tile, directory at 0x20004000. -/
def fieldD : List Byte := bts 128 [(0, 1), (126, 1), (16, 1), (17, 1), (18, 1), (20, 1), (24, 0x40), (26, 0x20)]
def fieldS (s : State) : State := { W s [(F.COV_CTL_EN, 1), (F.COV_FSTAT_LOADED, 1), (F.COV_CBASE_ADDR, 0x21)] with cov := { Cov.init with desc := fieldD } }
/-- A valid SOL entry: hold 100, maximum 500, OPENCHK, REG_TOL 5, REG_T 5. -/
def solE : List Byte := bts 64 [(0, 1), (2, 8), (4, 100), (6, 244), (7, 1), (10, 5), (12, 5)]
/-- A valid LSW entry: OLMODE 1, OLOFF, limit 100, inrush 200 for 10 ms, two retries. -/
def lswE : List Byte := bts 32 [(0, 1), (2, 0x50), (3, 2), (4, 0x10), (5, 0x27), (8, 100), (10, 200), (12, 100), (14, 50), (16, 20)]
/-- Valid DIO entries: an input with IRQR and IRQF, an output with HLEN and OLCHK. -/
def dinE : List Byte := bts 16 [(0, 1), (2, 0xC2), (4, 100)]
def doutE : List Byte := bts 16 [(0, 1), (2, 0x31), (8, 5)]
/-- A valid AFE entry: CURRENT, DEC 1,024. -/
def ainE : List Byte := bts 32 [(0, 1), (2, 2), (5, 4)]
/-- A valid PLS entry of a mode: both edges, THR 5.0 V, OPENCHK. -/
def plsE (mode : Nat) : List Byte := bts 32 [(0, 1), (2, mode + 12 + 64), (4, 0xF4), (5, 1), (6, 10), (8, 5), (10, 100), (12, 50), (14, 10), (16, 200), (18, 50)]

/-! ### WellFormed: a term that each check refuses -/

theorem test_wf_nav_words : (Instr.navRecord 0 0 []).wf = false ∧ (Instr.navRecord 0 0 (List.replicate 41 0)).wf = false ∧
    (Instr.navRecord 0 0 (List.replicate 40 0)).wf = true := by decide
theorem test_wf_one_request_a_master : (Instr.reinArbitrate 1 0 [(2, 0, 0), (2, 1, 1)]).wf = false ∧ (Instr.reinArbitrate 1 0 [(2, 0, 0), (3, 0, 0)]).wf = true := by
  decide
theorem test_wf_one_measurement_a_coil : (Instr.bandEval 0 [(1, 0), (1, 5)] [] []).wf = false ∧ (Instr.bandEval 0 [] [(31, 0), (31, 1)] []).wf = false ∧
    (Instr.bandEval 0 [] [] [(0, 9), (0, 9)]).wf = false := by decide
theorem test_wf_one_measurement_a_channel : (Instr.clusterThermSample 0 0 [(7, 0), (7, 1)] []).wf = false ∧
    (Instr.clusterThermSample 0 0 [] [(3, 0), (3, 1)]).wf = false := by decide
theorem test_wf_can_data : (Instr.canFrameRx 0 0 true false false 15 (List.replicate 65 0) 0 0 false []).wf = false ∧
    (Instr.canFrameRx 0 0 false true false 8 [1] 0 0 false []).wf = false := by decide
theorem test_wf_ethernet_frame : (Instr.ethFrameRx 0 (List.replicate 13 0) 0 []).wf = false := by decide
theorem test_wf_one_position_an_axis : (Instr.tdmTakeover [(1, 0), (1, 0)]).wf = false ∧ (Instr.mirrorStart [(1, 0), (1, 0)]).wf = false := by decide
theorem test_wf_block_frame : (Instr.blockFrame 0 []).wf = false := by decide

/-- The one meaning that stops, and only on an ill-formed command (R322). -/
theorem test_nav_record_stops : exec (.navRecord 0 0 []) State.reset = .fault (.illFormed "NAV_RECORD") := rfl

/-! ### Worked values of the manual -/

/-- The check value of CRC-32 (IEEE 802.3) over "123456789" (R486). -/
theorem test_crc32 : crc32 [0x31, 0x32, 0x33, 0x34, 0x35, 0x36, 0x37, 0x38, 0x39] = 0xCBF43926 := by decide +kernel

/-- The entry of EP0000, word by word (Table 4-9). -/
def ep0000 : List Byte := ([0x03010001, 0x00010000, 0x00FFFA56, 0x000045D3, 0x000000FA, 0x0000EA60, 0x00009C40, 0x010A0F89, 0x00028000, 0x271007D0,
  0, 0x00C80032, 0, 0, 0, 0x00010000] : List Nat).flatMap (leBytes 4)

theorem test_entry_place : eKind ep0000 = 1 ∧ eTrans ep0000 = 3 ∧ eNode ep0000 = 1 ∧ eIndex ep0000 = 0 ∧ eX ep0000 = -1450 ∧ eY ep0000 = 17875 ∧
    eWidth ep0000 = 250 ∧ eTon ep0000 = 60000 ∧ eToff ep0000 = 40000 := by decide +kernel
theorem test_entry_rules : ePlayer ep0000 = 1 ∧ ePlEn ep0000 ∧ eCovl ep0000 = 0 ∧ eClEn ep0000 ∧ eCurve ep0000 ∧ eStillOff ep0000 ∧ eRevOff ep0000 ∧
    eLostSafe ep0000 ∧ eAutoRet ep0000 = false ∧ eOvl ep0000 = 10 ∧ eHead ep0000 = 1 ∧ eRateK ep0000 = 0x28000 ∧ eRateMin ep0000 = 2000 ∧
    eRateMax ep0000 = 10000 ∧ eLead ep0000 = 50 ∧ eCtol ep0000 = 200 := by decide +kernel

/-- Record A of Table 22-4: channel 9, cause 1: LEN 7, 28 bytes. -/
theorem test_record_bytes : (EvRec.bytes ⟨0x0701, false, false, 0, 0, 0, [9, 1], 0⟩).length = 28 ∧
    (EvRec.bytes ⟨0x0701, false, false, 0, 0, 0, [9, 1], 0⟩).take 4 = [7, 0, 1, 7] := by decide +kernel

/-- At cycle 32 of Table 2-10 the lock has ended: master 2 at rank 14 beats COV at rank 12. -/
theorem test_rein_table_2_10 :
    (match exec (.reinArbitrate 1 0 [])
        (W { State.reset with rein := [(1, ⟨some 24, false, 0, [⟨13, 28, true, 1⟩, ⟨2, 22, false, 1⟩], 24⟩)] }
          [(F.REIN_RANK_RANK 24, 2), (F.REIN_RANK_RANK 13, 12), (F.REIN_RANK_RANK 2, 14)]) with
      | .next t => (t.arb 1).holder
      | _ => none) = some 2 := by decide +kernel

/-- The calendar stamp of 1 s and 5 ns (R338). -/
theorem test_stamp : calOf 1000000005 = 2 ^ 30 + 5 := by decide

/-- A producer index behind the previous one sets DB_ERR and is not taken (R35). -/
theorem test_doorbell_behind :
    (match exec (.ringDoorbell A8 2 0) (ringQ State.reset 9 1 8 0x20002000 0 0 0 0) with
      | .next t => (t.ringDb 2, t.flag (F.RNG_STAT_DB_ERR 2))
      | _ => (0, false)) = (1, true) := by decide +kernel

/-- At 2^48 a counter wraps to 0 (R521). -/
theorem test_pmu_wrap :
    (match exec (.pmuOverflow 0 1 0 0 0) (W State.reset [(F.PMU_STAT_MODE, 0), (F.PMU_CTL_EN, 1), (F.PMU_CFG_EN 0, 1), (F.PMU_CFG_EVENT 0, 1),
        (F.PMU_CNT_LO_COUNT 0, 0xFFFFFFFF), (F.PMU_CNT_HI_COUNT 0, 0xFFFF)]) with
      | .next t => (t.pmc 0, t.fld (pmuOvf 0))
      | _ => (1, 0)) = (0, 1) := by decide +kernel

/-- Whether an outcome is a next state. -/
def nextOk (o : Out) : Bool := match o with | .next _ => true | _ => false

/-- An outcome of which nextOk holds answers a next state. -/
theorem next_of_nextOk (o : Out) (h : nextOk o = true) : ∃ t, o = .next t := by
  cases o with
  | next t => exact ⟨t, rfl⟩
  | fault _ => cases h
  | refused _ => cases h

/-! ### Witnesses: for every clause of every statement, a state and operands that meet its hypotheses -/

theorem witness_StepRunsTheFrontCommand :
    ({ State.reset with pending := [.tsync] } : State).pending = .tsync :: [] := rfl
theorem witness_IdleStepMovesTimeOn : State.reset.pending = [] := rfl
theorem witness_StepKeepsTheCanonicalForm : Registers.wf State.reset.regs ∧ Memory.wf State.reset.mem ∧ nextOk (step State.reset) = true := by
  decide +kernel
theorem witness_CommandsLeaveTheQueueAndThePart : nextOk (exec (.ringDoorbell A8 2 0) (ringQ State.reset 9 1 8 0x20002000 0 0 0 0)) = true := by decide +kernel
theorem witness_NoCommandMovesModuleTime : nextOk (exec (.resetBor 0 0 10) State.reset) = true := by decide +kernel
theorem witness_OnlyEraseShortensTheJournal : (∀ n, Instr.journalWrite ≠ .evrErase n) ∧ nextOk (exec .journalWrite State.reset) = true :=
  ⟨nofun, by decide +kernel⟩
theorem witness_EveryCommandKeepsToItsUnits : nextOk (exec (.registerWrite A8 0x40050000 0 []) State.reset) = true ∧
    StatePart.part ∉ touches (.registerWrite A8 0x40050000 0 []) := by decide +kernel

/-- There are states of an open journal that holds n bytes. -/
theorem witness_journal (n : Nat) :
    ∃ (s : State) (r : EvRec) (rest : List EvRec), s.evr.staged = r :: rest ∧ s.journalOpen = true ∧ n - 64 < s.evr.journal.length + r.size := by
  refine ⟨{ W z [(F.EVR_CTL_EN, 1)] with evr := { Evr.init with staged := [⟨0x1302, false, false, 0, 0, 0, [], 0⟩], journal := List.replicate n 0 } },
    ⟨0x1302, false, false, 0, 0, 0, [], 0⟩, [], rfl, ?_, ?_⟩
  · show (W z [(F.EVR_CTL_EN, 1)]).journalOpen = true
    decide +kernel
  · show n - 64 < (List.replicate n (0 : Byte)).length + EvRec.size ⟨0x1302, false, false, 0, 0, 0, [], 0⟩
    rw [List.length_replicate]
    simp only [EvRec.size]
    omega

/-- The clause of EventRecorderCommandsComplete on a journal without room for the next record. -/
theorem witness_JournalFull : ∃ (s : State) (r : EvRec) (rest : List EvRec), s.evr.staged = r :: rest ∧ s.journalOpen = true ∧
    268435456 - 64 < s.evr.journal.length + r.size := witness_journal 268435456

/-- Every clause of AccessCommandsComplete has a state and operands that meet its hypotheses. -/
theorem witness_AccessCommandsComplete :
   (let s : State := z; let acc : Acc := A8; let k : Fin 16 := 15; let v : Word := 0xFFFFFFFF; let fails : BootFails := [];
    (s.takesWrite acc (R.RNG_INT_EN k))) ∧
   (let s : State := z; let acc : Acc := A8; let a : BitVec 38 := BitVec.ofNat 38 (0x22FFFFFC / 4); let v : Word := 0x12345678; let fails : BootFails := [];
    (isMemory (4 * a.toNat)) ∧ ((s.firstDenied acc .write (4 * a.toNat) 4).isNone)) ∧
   (let s : State := z.setReg 0x40110020 7; let acc : Acc := A8;
    (s.takesRead acc 0x40110020)) ∧
   (let s : State := z; let acc : Acc := A8; let u : Fin 57 := 56;
    (s.takesWrite acc (unitLock u).addr)) ∧
   (let s : State := z; let acc : Acc := A8; let n : Fin 18 := 17;
    (s.takesWrite acc (R.ACC_T_CTL n))) ∧
   (let s : State := { z with part := { z.part with code := .d } }; let kind : AccKind := .read; let a : BitVec 40 := 0x40A00000;
    ((s.part.absentWindow a.toNat).isSome)) ∧
   (let s : State := W z [(F.ACC_T_FINFO_COUNT 17, 255), (F.ACC_TE_CTL_SIZE 17 0, 0)]; let acc : Acc := ⟨40, true, true⟩; let n : Fin 18 := 17; let kind : AccKind := .read; let a : BitVec 40 := 0x40000000;
    ((n = 17 → s.part.absentWindow a.toNat = none)) ∧ (s.permits n acc kind a.toNat = false)) ∧
   (let s : State := z; let acc : Acc := A8; let kind : AccKind := .exec; let a : BitVec 40 := 0xFFFFFFFFFF;
    (targetOf a.toNat = none)) :=
  by and_intros <;> decide +kernel

/-- Every clause of RingCommandsComplete has a state and operands that meet its hypotheses. -/
theorem witness_RingCommandsComplete :
   (let s : State := z; let acc : Acc := A8; let n : Fin 64 := 2; let v : Word := 0x00010504;
    (s.takesWrite acc (R.RNG_CFG n)) ∧ (s.flag F.RNG_LOCK_LOCK = false) ∧ (s.ringHw n = s.ringDb n) ∧ (4 ≤ (F.RNG_CFG_SIZE n).get v) ∧ ((F.RNG_CFG_SIZE n).get v ≤ 16) ∧ (validQueue ((F.RNG_CFG_QUEUE n).get v)) ∧ (s.part.absentQueue ((F.RNG_CFG_QUEUE n).get v) = none) ∧ (((F.RNG_CFG_QUEUE n).get v ≠ 0 → s.queueTaken n ((F.RNG_CFG_QUEUE n).get v) = false ∧ (F.RNG_CFG_CRING n).get v ≠ n.val ∧ s.fld (F.RNG_CFG_QUEUE ((F.RNG_CFG_CRING n).get v)) = 0))) ∧
   (let s : State := ringQ z 5 0 0 0 0 0 0 0; let acc : Acc := A8; let n : Fin 64 := 2; let v : Word := 0xFFFFFFFF;
    (s.takesWrite acc (R.RNG_CFG n))) ∧
   (let s : State := ringQ z 5 0 0 0 0 0 0 0; let acc : Acc := A8; let n : Fin 64 := 2; let v : Word := 16;
    (s.takesWrite acc (R.RNG_DB n)) ∧ (s.fld (F.RNG_CFG_QUEUE n) ≠ 0) ∧ (0 < sdiff32 v.toNat (s.ringDb n)) ∧ (sdiff32 v.toNat (s.ringHw n) ≤ s.ringSize n)) ∧
   (let s : State := W (ringQ z 5 0 0 0 0 0 0 0) [(F.RNG_HW_IDX 1, 9), (F.RNG_DB_IDX 1, 3)]; let acc : Acc := A8; let n : Fin 64 := 1; let v : Word := 9;
    (s.takesWrite acc (R.RNG_DB n)) ∧ (s.fld (F.RNG_CFG_QUEUE n) = 0) ∧ (0 ≤ sdiff32 v.toNat (s.ringDb n)) ∧ (0 ≤ sdiff32 (s.ringHw n) v.toNat)) ∧
   (let s : State := ringQ z 5 0 0 0 0 0 0 0; let n : Fin 64 := 2; let d : Desc := nd s;
    (s.nextDesc n = some d) ∧ (d.op = 0)) ∧
   (let s : State := (ringQ z 5 0 0 0 0 0 0 0).setRing 2 { Ring.init with cring := 1, inflight := [⟨nd (ringQ z 5 0 0 0 0 0 0 0), some (0, 7), 9, 1, 5, true⟩] }; let n : Fin 64 := 2; let e : Inflight := ⟨nd (ringQ z 5 0 0 0 0 0 0 0), some (0, 7), 9, 1, 5, true⟩; let rest : List Inflight := []; let st : Nat := 0; let res : Nat := 7;
    ((s.ring n).inflight = e :: rest) ∧ (e.res = some (st, res)) ∧ (e.cring < 64) ∧ (s.ringAccepts e.cring) ∧ (e.cring ≠ n.val)) ∧
   (let s : State := (W { z with now := 1000 } [(F.RNG_COAL_TIME 2, 1)]).setRing 2 { Ring.init with irqSince := some 0, irqCount := 3 }; let n : Fin 64 := 2; let t0 : Nat := 0;
    ((s.ring n).irqSince = some t0) ∧ (s.fld (F.RNG_COAL_TIME n) ≠ 0) ∧ (t0 + 1000 * s.fld (F.RNG_COAL_TIME n) ≤ s.now)) ∧
   (let s : State := W (ringQ z 5 0 0 0 0 0 0 0) [(F.RNG_BASE_LO_ADDR 2, 0x1000)]; let n : Fin 64 := 2; let b : Nat := 0x40000;
    (s.ringReady n) ∧ (s.fetchDenied n = some b)) ∧
   (let s : State := z; let acc : Acc := A8; let v : Word := F.RNG_TDB_TABLE.put (F.RNG_TDB_COUNT.put (F.RNG_TDB_FIRST.put 0 63) 1) 1;
    (s.takesWrite acc R.RNG_TDB) ∧ (s.mirrorOnly = false) ∧ (F.RNG_TDB_TABLE.get v ≠ 7) ∧ (F.RNG_TDB_COUNT.get v ≠ 0) ∧ ((s.tableJobs.tail.filter (fun j => !j.full)).length < 16) ∧ (F.RNG_TDB_FIRST.get v + F.RNG_TDB_COUNT.get v ≤ (tableSize (F.RNG_TDB_TABLE.get v)).1)) ∧
   (let s : State := { z with tableJobs := [⟨1, 0, 2, false⟩] }; let j : TableJob := ⟨1, 0, 2, false⟩; let rest : List TableJob := [];
    (s.tableJobs = j :: rest)) :=
  by and_intros <;> decide +kernel

/-- Every clause of DoorbellTakesIndicesInOrder has a state and operands that meet its hypotheses. -/
theorem witness_DoorbellTakesIndicesInOrder :
   (let s : State := ringQ z 5 0 0 0 0 0 0 0; let acc : Acc := A8; let n : Fin 64 := 2; let v : Word := 1;
    (s.takesWrite acc (R.RNG_DB n)) ∧ (s.fld (F.RNG_CFG_QUEUE n) ≠ 0) ∧ (sdiff32 v.toNat (s.ringDb n) = 0)) ∧
   (let s : State := ringQ z 5 0 0 0 0 0 0 0; let acc : Acc := A8; let n : Fin 64 := 2; let v : Word := 16;
    (s.takesWrite acc (R.RNG_DB n)) ∧ (s.fld (F.RNG_CFG_QUEUE n) ≠ 0) ∧ (0 < sdiff32 v.toNat (s.ringDb n)) ∧ (sdiff32 v.toNat (s.ringHw n) ≤ s.ringSize n)) ∧
   (let s : State := ringQ z 5 0 0 0 0 0 0 0; let acc : Acc := A8; let n : Fin 64 := 2; let v : Word := 17;
    (s.takesWrite acc (R.RNG_DB n)) ∧ (s.fld (F.RNG_CFG_QUEUE n) ≠ 0) ∧ (sdiff32 v.toNat (s.ringDb n) < 0 ∨ (sdiff32 v.toNat (s.ringDb n) ≠ 0 ∧ (s.ringSize n : Int) < sdiff32 v.toNat (s.ringHw n)))) ∧
   (let s : State := W (ringQ z 5 0 0 0 0 0 0 0) [(F.RNG_HW_IDX 1, 9), (F.RNG_DB_IDX 1, 3)]; let acc : Acc := A8; let n : Fin 64 := 1; let v : Word := 9;
    (s.takesWrite acc (R.RNG_DB n)) ∧ (s.fld (F.RNG_CFG_QUEUE n) = 0) ∧ (0 ≤ sdiff32 v.toNat (s.ringDb n)) ∧ (0 ≤ sdiff32 (s.ringHw n) v.toNat)) ∧
   (let s : State := W (ringQ z 5 0 0 0 0 0 0 0) [(F.RNG_HW_IDX 1, 9), (F.RNG_DB_IDX 1, 3)]; let acc : Acc := A8; let n : Fin 64 := 1; let v : Word := 10;
    (s.takesWrite acc (R.RNG_DB n)) ∧ (s.fld (F.RNG_CFG_QUEUE n) = 0) ∧ (sdiff32 v.toNat (s.ringDb n) < 0 ∨ (sdiff32 v.toNat (s.ringDb n) ≠ 0 ∧ sdiff32 (s.ringHw n) v.toNat < 0))) :=
  by and_intros <;> decide +kernel

/-- Every clause of CompletionNeverOverwritten has a state and operands that meet its hypotheses. -/
theorem witness_CompletionNeverOverwritten :
   (let s : State := (W (ringQ z 5 0 0 0 0 0 0 0) [(F.RNG_HW_IDX 1, 16)]).setRing 2 { Ring.init with cring := 1, inflight := [⟨nd (ringQ z 5 0 0 0 0 0 0 0), some (0, 7), 9, 1, 5, true⟩] }; let n : Fin 64 := 2; let e : Inflight := ⟨nd (ringQ z 5 0 0 0 0 0 0 0), some (0, 7), 9, 1, 5, true⟩;
    ((s.ring n).inflight.head? = some e)) ∧
   (let s : State := (W (ringQ z 5 0 0 0 0 0 0 0) [(F.RNG_HW_IDX 1, 16)]).setRing 2 { Ring.init with cring := 1, inflight := [⟨nd (ringQ z 5 0 0 0 0 0 0 0), some (0, 7), 9, 1, 5, true⟩] }; let n : Fin 64 := 2; let e : Inflight := ⟨nd (ringQ z 5 0 0 0 0 0 0 0), some (0, 7), 9, 1, 5, true⟩;
    ((s.ring n).inflight.head? = some e) ∧ ((s.ringHw e.cring + (2 ^ 32 - s.ringDb e.cring)) % 2 ^ 32 = s.ringSize e.cring)) :=
  by and_intros <;> decide +kernel

/-- Every clause of ArbitrationGrantsTheHighestRank has a state and operands that meet its hypotheses. -/
theorem witness_ArbitrationGrantsTheHighestRank :
   (let s : State := z; let t : Fin 17 := 0; let c : BitVec 16 := 5; let l : List (Fin 48 × Fin 65 × BitVec 16) := [(9, 0, 1), (30, 2, 0), (8, 0, 3)];
    ((s.arb t).lockLeft = 0) ∧ ((s.arb t).waiting.map (·.master) ++ l.map (fun p => p.1.val) ≠ []) ∧ ((∀ x ∈ (s.arb t).waiting, x.master < 48))) :=
  by decide +kernel

/-- Every clause of ReinCommandsComplete has a state and operands that meet its hypotheses. -/
theorem witness_ReinCommandsComplete :
   (let s : State := z.setArb 3 { Rein.init with holder := some 8, lockLeft := 2 }; let t : Fin 17 := 3; let c : BitVec 16 := 5; let l : List (Fin 48 × Fin 65 × BitVec 16) := [(9, 0, 2)];
    (0 < (s.arb t).lockLeft)) ∧
   (let s : State := z.setArb 16 { Rein.init with holder := some 8, lockLeft := 2 }; let t : Fin 17 := 16; let idle : BitVec 16 := 1024;
    (0 < (s.arb t).lockLeft) ∧ (1024 ≤ idle.toNat)) ∧
   (let s : State := (W z [(F.REIN_RANK_LIMIT 8, 5)]).setArb 0 { Rein.init with waiting := [⟨8, 10, false, 0⟩] }; let t : Fin 17 := 0; let c : BitVec 16 := 6000; let l : List (Fin 48 × Fin 65 × BitVec 16) := [(9, 0, 2)]; let x : ReinWait := ⟨8, 10, false, 0⟩;
    (x ∈ (s.arb t).waiting) ∧ (x.starved = false) ∧ (x.master < 32) ∧ (s.reinLimit x.master ≠ 0) ∧ (s.reinLimit x.master < min (x.wait + c.toNat) 65535)) ∧
   (let s : State := z; let acc : Acc := A8; let m : Fin 39 := 38; let v : Word := 0xFFFFFFFF;
    (s.takesWrite acc (R.REIN_RANK m))) :=
  by and_intros <;> decide +kernel

/-- Every clause of AxisCommandsComplete has a state and operands that meet its hypotheses. -/
theorem witness_AxisCommandsComplete :
   (let s : State := { z with now := 50000 };
    ((s.str.tickAt / 50000 + 1) * 50000 ≤ s.now)) ∧
   (let s : State := W z [(F.STR_AXCFG_SRC 0, 0x50), (F.STR_AXCFG_KIND 0, 2), (F.STR_AXCFG_DIR 0, 0), (F.STR_AXCFG_EN 0, 0), (F.STR_AXFB_FB1 0, 0), (F.STR_AXFB_FB2 0, 0)]; let acc : Acc := A8; let a : Fin 8 := 0; let v : Word := s.reg (R.STR_AXCFG 0);
    (s.takesWrite acc (R.STR_AXCFG a)) ∧ (s.flag (F.STR_AXCFG_EN a) = false) ∧ ((s.setReg (R.STR_AXCFG a) (writtenWord (R.STR_AXCFG a) (s.locked (R.STR_AXCFG a)) (s.reg (R.STR_AXCFG a)) (v ||| 1))).axisOk a)) ∧
   (let s : State := W z [(F.STR_AXCFG_EN 7, 1)]; let acc : Acc := A8; let a : Fin 8 := 7; let v : Word := s.reg (R.STR_AXCFG 7);
    (s.takesWrite acc (R.STR_AXCFG a)) ∧ (s.flag (F.STR_AXCFG_EN a)) ∧ ((s.reg (R.STR_AXCFG a) ||| 0x301) = (writtenWord (R.STR_AXCFG a) (s.locked (R.STR_AXCFG a)) (s.reg (R.STR_AXCFG a)) (v &&& 0xFFFFFFFE) ||| 0x301))) ∧
   (let s : State := z; let acc : Acc := A8; let a : Fin 8 := 7; let k : Fin 12 := 7; let v : Word := 0xFFFFFFFF;
    (k.val = 5 ∨ k.val = 6 ∨ k.val = 7) ∧ (s.takesWrite acc (R.STR_AXCFG a + 4 * k))) ∧
   (let s : State := { W { z with now := 1000000 * 70000 } [(F.STR_AXSTAT_STATE 0, axRUN), (F.STR_AXSTAT_ACTIVE 0, 0), (F.STR_AXSTILL_RATE 0, 5), (F.STR_AXSTAT_STILL 0, 0)] with str := { Str.init with axes := [(0, { Axis.init with slowAt := some 0, pos := 5, rate := 3 })], tickAt := 1000000 * 70000 } }; let a : Fin 8 := 0; let t0 : Nat := 0;
    ((s.axis a).slowAt = some t0) ∧ (s.axState a = axRUN ∨ s.axState a = axBLEND) ∧ (s.flag (F.STR_AXSTAT_STILL a) = false) ∧ (t0 + 1000000 * s.axF a 5 F.STR_AXSTILL_DWELL ≤ s.now) ∧ (s.now = s.str.tickAt) ∧ (s.axActive a < 3) ∧ ((s.slotRate a (s.axActive a) s.now * 1000000).natAbs < s.axF a 5 F.STR_AXSTILL_RATE * 2 ^ 32)) ∧
   (let s : State := { W { z with now := 10^12 } [(F.STR_AXSTAT_STATE 0, axRUN), (F.STR_AXCFG_SRC 0, 0x10)] with str := { Str.init with axes := [(0, { Axis.init with slots := [(0, { ASrc.init with ok := true, lost := true })] })] } }; let a : Fin 8 := 0; let k : Fin 3 := 0;
    (s.axState a ≠ axDISABLED) ∧ (s.axCode a k ≠ 0) ∧ (((s.axis a).slot k).ok) ∧ (s.slotBad a k)) ∧
   (let s : State := { W { z with now := 10^9 } [(F.STR_AXSTAT_STATE 0, axRUN), (F.STR_AXCFG_SRC 0, 0x60), (F.STR_AXREST_RESTORE 0, 0)] with str := { Str.init with axes := [(0, { Axis.init with slots := [(0, { ASrc.init with ok := false })] })] } }; let a : Fin 8 := 0; let k : Fin 3 := 0;
    (s.axState a ≠ axDISABLED) ∧ (s.axCode a k ≠ 0) ∧ (((s.axis a).slot k).ok = false) ∧ (((((s.axis a).slot k).goodAt = none ∧ s.axF a 8 F.STR_AXREST_RESTORE = 0) ∨ ∃ u, ((s.axis a).slot k).goodAt = some u ∧ u + 1000000 * s.axF a 8 F.STR_AXREST_RESTORE ≤ s.now)) ∧ (s.slotGood a k)) ∧
   (let s : State := { W { z with now := 10^12 } [(F.STR_AXSTAT_STATE 0, axRUN), (F.STR_AXCFG_XEN 0, 1), (F.STR_AXSTAT_ACTIVE 0, 0), (F.STR_AXCFG_SRC 0, 0x60), (F.STR_AXFB_FB1 0, 0x40), (F.STR_AXXCHK_TOL 0, 5), (F.STR_AXSTILL_RATE 0, 1)] with str := { Str.init with axes := [(0, { Axis.init with xAt := some 0, slots := [(0, { ASrc.init with ok := true }), (1, { ASrc.init with ok := true, rate := 77 })] })] } }; let a : Fin 8 := 0; let u : Nat := 0;
    ((s.axis a).xAt = some u) ∧ (s.xFails a s.now) ∧ (u + 1000000 * s.axF a 7 F.STR_AXXCHK_XDWELL ≤ s.now)) ∧
   (let s : State := { W { z with now := 10^12 } [(F.STR_AXSTAT_STATE 0, axCOAST)] with str := { Str.init with axes := [(0, { Axis.init with coastAt := 0 })], tickAt := 10^12 } }; let a : Fin 8 := 0;
    (s.axState a = axCOAST) ∧ ((s.axis a).coastAt + 1000000 * s.axF a 6 F.STR_AXLOSS_COAST ≤ s.now) ∧ (s.axBest a = none) ∧ (s.now = s.str.tickAt)) ∧
   (let s : State := z; let acc : Acc := A8; let a : Fin 8 := 7;
    (s.takesRead acc (R.STR_AXPOS_LO a))) :=
  by and_intros <;> decide +kernel

/-- Every clause of TriggerCommandsComplete has a state and operands that meet its hypotheses. -/
theorem witness_TriggerCommandsComplete :
   (let s : State := z; let acc : Acc := A8; let n : Fin 32 := 31; let v : Word := (F.STR_TRGCFG_DIRN 31).put ((F.STR_TRGCFG_ACTION 31).put 0 2) 1;
    (s.takesWrite acc (R.STR_TRGCFG n)) ∧ ((F.STR_TRGCFG_ACTION n).get v < 3) ∧ ((F.STR_TRGCFG_DIRN n).get v ≠ 0)) ∧
   (let s : State := z; let acc : Acc := A8; let n : Fin 32 := 31; let v : Word := (F.STR_TRGCFG_DIRN 31).put ((F.STR_TRGCFG_ACTION 31).put 0 3) 0;
    (s.takesWrite acc (R.STR_TRGCFG n)) ∧ (3 ≤ (F.STR_TRGCFG_ACTION n).get v ∨ (F.STR_TRGCFG_DIRN n).get v = 0)) ∧
   (let s : State := { W { z with now := 1000 } [(F.STR_TRGCFG_EN 0, 1), (F.STR_TRGCFG_DIRN 0, 3), (F.STR_AXSTAT_STATE 0, axRUN)] with str := { Str.init with trgs := [(0, some ⟨0, false, true, some 1000, 1⟩)] }, slt := Slt.init }; let n : Fin 32 := 0; let u : Nat := 1000;
    (s.trgDue n = some u)) ∧
   (let s : State := { z with str := Str.init }; let acc : Acc := A8;
    (s.takesWrite acc R.STR_SNAP_DB) ∧ (s.str.snapUs.1 ≠ s.now / 1000 + 1) ∧ ((∀ a < 8, (s.axis a).at_ ≤ s.now))) ∧
   (let s : State := { z with str := { Str.init with snapUs := (z.now / 1000 + 1, false, true) } }; let acc : Acc := A8;
    (s.takesWrite acc R.STR_SNAP_DB) ∧ (s.str.snapUs = (s.now / 1000 + 1, false, true))) :=
  by and_intros <;> decide +kernel

/-- Every clause of InvalidAxisConfigurationRefused has a state and operands that meet its hypotheses. -/
theorem witness_InvalidAxisConfigurationRefused :
   (let s : State := W z [(F.STR_AXCFG_SRC 0, 0)]; let acc : Acc := A8; let a : Fin 8 := 0; let v : Word := (F.STR_AXFB_FB1 0).put (s.reg (R.STR_AXCFG 0)) 1; let u : State := s.setReg (R.STR_AXCFG a) (writtenWord (R.STR_AXCFG a) (s.locked (R.STR_AXCFG a)) (s.reg (R.STR_AXCFG a)) (v ||| 1));
    (s.takesWrite acc (R.STR_AXCFG a)) ∧ (s.flag (F.STR_AXCFG_EN a) = false) ∧ (s.axState a = axDISABLED) ∧ (u = s.setReg (R.STR_AXCFG a) (writtenWord (R.STR_AXCFG a) (s.locked (R.STR_AXCFG a)) (s.reg (R.STR_AXCFG a)) (v ||| 1))) ∧ ((∃ k < 3, let c := u.axCode a k ; (c = 0 → k = 0) ∧ ¬ ((c < 0x28 ∧ 0x10 ≤ c ∧ u.fld (F.STR_AXCFG_KIND a) < 2) ∨ (c < 0x3C ∧ 0x30 ≤ c ∧ u.fld (F.STR_AXCFG_KIND a) < 2) ∨ (c = 0x40 ∧ u.fld (F.STR_AXCFG_KIND a) = 0) ∨ ((c = 0x50 ∨ c = 0x51) ∧ u.fld (F.STR_AXCFG_KIND a) = 2) ∨ (c = 0x60 ∧ u.fld (F.STR_AXCFG_KIND a) = 3) ∨ (0x70 ≤ c ∧ c < 0x78 ∧ s.part.hasTDM))) ∨ (∃ j < 3, ∃ k < 3, j ≠ k ∧ u.axCode a k ≠ 0 ∧ u.axCode a j = u.axCode a k))) :=
  by decide +kernel

/-- Every clause of EndpointCommandsComplete has a state and operands that meet its hypotheses. -/
theorem witness_EndpointCommandsComplete :
   (let s : State := withEp (W { z with now := 250000 } [(F.EPT_CTL_EN, 1), (F.EPT_COUNT_N, 16)]) 3 { Ep.init with state := 1 }; let work : List (Fin 4096) × List (Fin 128) := ([], []);
    ((s.ept.tickAt / 250000 + 1) * 250000 ≤ s.now)) ∧
   (let s : State := withEp { z with now := 10^12 } 4095 { Ep.init with state := epREJOIN, readyAt := some 0 }; let e : Fin 4096 := 4095; let t0 : Nat := 0;
    ((s.ep e).readyAt = some t0) ∧ ((s.ep e).state = epREJOIN) ∧ (t0 + 1000000 * s.fld F.EPT_REJOIN_CWAIT ≤ s.now)) ∧
   (let s : State := W (ringQ z 1 1 0 0 5 6 0 0) [(F.TDM_STATE_PSTATE, 0)]; let n : Fin 64 := 2; let d : Desc := nd s;
    (s.nextDesc n = some d) ∧ (s.fld (F.RNG_CFG_QUEUE n) = 1) ∧ (s.mirrorOnly = false) ∧ (d.op = 1)) ∧
   (let s : State := W (ringQ z 1 2 0 0 5 6 0 0) [(F.TDM_STATE_PSTATE, 0)]; let n : Fin 64 := 2; let d : Desc := nd s;
    (s.nextDesc n = some d) ∧ (s.fld (F.RNG_CFG_QUEUE n) = 1) ∧ (s.mirrorOnly = false) ∧ (d.op = 2)) ∧
   (let s : State := W (ringQ z 1 3 64 0x20002000 4094 2 0 0) [(F.TDM_STATE_PSTATE, 0)]; let n : Fin 64 := 2; let d : Desc := nd s;
    (s.nextDesc n = some d) ∧ (s.fld (F.RNG_CFG_QUEUE n) = 1) ∧ (s.mirrorOnly = false) ∧ (d.op = 3) ∧ (d.len ≠ 0) ∧ (d.len = 32 * d.arg1)) ∧
   (let s : State := W z [(F.EPT_CTL_LOCK, 0)]; let acc : Acc := A8; let v : Word := 4096;
    (s.takesWrite acc R.EPT_COUNT) ∧ (s.flag F.EPT_CTL_LOCK = false)) ∧
   (let s : State := z; let acc : Acc := A8; let v : Word := 1;
    (s.takesWrite acc R.EPT_CTL)) :=
  by and_intros <;> decide +kernel

/-- Every clause of RateCommandFollowsTheFormula has a state and operands that meet its hypotheses. -/
theorem witness_RateCommandFollowsTheFormula :
   (let s : State := withEp (W z [(F.STR_AXCFG_KIND 2, 0)]) 3 { Ep.init with state := 2, cfg := bts 64 [(2, kRATE), (18, 2), (16, 200), (28, 8), (32, 9), (38, 255), (39,1)], rate := 2^32, rx := 300 }; let e : Nat := 3; let c : List Byte := (s.ep e).cfg; let v : Int := (s.ep e).perS; let D : Nat := 10 ^ 7;
    (c = (s.ep e).cfg) ∧ (eKind c = kRATE) ∧ ((s.fld (F.STR_AXCFG_KIND (eAxis c)) = 0 → v = (s.ep e).perS ∧ D = 10 ^ 7)) ∧ ((s.fld (F.STR_AXCFG_KIND (eAxis c)) ≠ 0 → v = s.axPerS (eAxis c) ∧ D = 10 ^ 9))) :=
  by decide +kernel

/-- Every clause of SlotCommandsComplete has a state and operands that meet its hypotheses. -/
theorem witness_SlotCommandsComplete :
   (let s : State := W z [(F.TDM_STATE_PSTATE, 0), (F.SLT_CLSTAT_PAGE 255, 1)]; let acc : Acc := A8; let c : Fin 256 := 255; let p : Fin 2 := 0; let n : Fin 64 := 63; let k : Fin 4 := 3; let v : Word := 0xFFFFFFFF;
    (s.takesWrite acc (R.SLT_PAGE c p n k)) ∧ (s.mirrorOnly = false) ∧ (p.val ≠ s.page c) ∧ (s.hasCommit c = false)) ∧
   (let s : State := (W (ringQ z 2 1 32 0x20002000 77 (1 + 64) 0 0) [(F.TDM_STATE_PSTATE, 0)]).setBytes 0x20002000 (bts 32 [(31, 0x80)]); let n : Fin 64 := 2; let d : Desc := nd s;
    (s.nextDesc n = some d) ∧ (s.fld (F.RNG_CFG_QUEUE n) = 2) ∧ (s.mirrorOnly = false) ∧ (d.op = 1) ∧ (d.len = 32) ∧ ((s.firstDenied (engine 10) .read d.addr 32).isNone) ∧ (d.arg1 % 4 = 1 ∨ d.arg1 % 4 = 2) ∧ (d.arg1 / 64 % 4 ≠ 0) ∧ ((∀ c ∈ maskClusters (s.bytes d.addr 32), s.hasCommit c = false))) ∧
   (let s : State := { (W (ringQ z 2 2 32 0x20002000 0 0 0 0) [(F.TDM_STATE_PSTATE, 0)]).setBytes 0x20002000 (bts 32 [(31, 0x80)]) with slt := { Slt.init with commits := [⟨[255, 3], 7, 1, 0, 1, ⟨0, true, false, none, 0⟩⟩] } }; let n : Fin 64 := 2; let d : Desc := nd s;
    (s.nextDesc n = some d) ∧ (s.fld (F.RNG_CFG_QUEUE n) = 2) ∧ (s.mirrorOnly = false) ∧ (d.op = 2) ∧ (d.len = 32) ∧ ((s.firstDenied (engine 10) .read d.addr 32).isNone)) ∧
   (let s : State := ((W (ringQ z 2 3 32 0x20002000 0 0 0 0) [(F.TDM_STATE_PSTATE, 0)]).setBytes 0x20002000 (bts 32 [(0, 1), (31, 0x80)])).setReg (R.SLT_PAGE 255 0 63 3) 77; let n : Fin 64 := 2; let d : Desc := nd s;
    (s.nextDesc n = some d) ∧ (s.fld (F.RNG_CFG_QUEUE n) = 2) ∧ (s.mirrorOnly = false) ∧ (d.op = 3) ∧ (d.len = 32) ∧ ((s.firstDenied (engine 10) .read d.addr 32).isNone) ∧ ((∀ c ∈ maskClusters (s.bytes d.addr 32), s.hasCommit c = false))) ∧
   (let s : State := { W { z with now := 10^9 } [(F.SLT_CTL_EN, 1)] with slt := { Slt.init with commits := [⟨[255, 3], 1000, 2, 0, 1, ⟨0, false, false, some 1000, -1⟩⟩, ⟨[3], 1000, 2, 0, 1, ⟨0, false, true, some 2000, -1⟩⟩] }, str := { Str.init with tickAt := 10^9 } }; let u : Nat := 1000; let m : Commit := ⟨[255, 3], 1000, 2, 0, 1, ⟨0, false, false, some 1000, -1⟩⟩;
    (s.swapDue = some u) ∧ (m ∈ s.slt.commits) ∧ (s.commitAt m s.lineEnd = some u)) ∧
   (let s : State := { W { z with now := 10^9 } [(F.SLT_CTL_EN, 1)] with slt := { Slt.init with commits := [⟨[255, 3], 1000, 2, 0, 1, ⟨0, false, true, some 1000, -1⟩⟩] }, str := { Str.init with tickAt := 10^9 } }; let u : Nat := 1000; let m : Commit := ⟨[255, 3], 1000, 2, 0, 1, ⟨0, false, true, some 1000, -1⟩⟩;
    (s.swapDue = some u) ∧ (s.slt.commits = [m]) ∧ (m.cls.Nodup) ∧ ((∀ c ∈ m.cls, c < 256))) ∧
   (let s : State := { withEp { z with now := 1000 } 3 { Ep.init with state := 2, cfg := bts 64 [(2, kPULSE), (3, 1), (52, 9)], out := true, level := true } with slt := { Slt.init with armed := [⟨3, ⟨.align, true, 2, 0, false, false⟩, 500⟩, ⟨3, ⟨.pend 0 0, false, 2, 0, false, false⟩, 500⟩] } }; let u : Nat := 500;
    (s.nextEmit = some u) ∧ (u ≤ s.now) ∧ (u ≤ s.str.tickAt + 50000) ∧ (u ≤ s.ept.tickAt + 250000) ∧ ((∀ v, s.nextSwap = some v → u ≤ v))) :=
  by and_intros <;> decide +kernel

/-- Every clause of NodeAndTimeFrameCommandsComplete has a state and operands that meet its hypotheses. -/
theorem witness_NodeAndTimeFrameCommandsComplete :
   (let s : State := W { z with now := 10^9 } [(F.SLT_CTL_EN, 1), (F.TDM_STATE_PSTATE, 0), (F.SLT_TFRM_PERIOD, 100), (F.SLT_TMASK_CAN, 0xFFF), (F.SLT_TMASK_T1S, 3)];
    (s.flag F.SLT_CTL_EN) ∧ (s.tdmMasked = false) ∧ (0 < s.fld F.SLT_TFRM_PERIOD) ∧ (s.slt.tsyncAt + 1000000 * s.fld F.SLT_TFRM_PERIOD ≤ s.now)) ∧
   (let s : State := { W z [(F.TDM_STATE_PSTATE, 0), (F.ETH_PLCASTAT_ACTIVE 1, 1)] with slt := { Slt.init with follow := [(2, 7), (13, 65535)] } }; let b : Fin 14 := 13; let mtb : BitVec 64 := 5; let q : Nat := 65535;
    (s.slt.follow.find? (fun p => p.1 = b.val) = some (b.val, q))) ∧
   (let s : State := W z [(F.CAN_ESTAT_STATE 11, 1)]; let b : Fin 14 := 11; let n : BitVec 8 := 255; let tseq : BitVec 16 := 5; let seq : BitVec 16 := 9; let timeOk : Bool := true; let fault : Bool := false;
    (s.busUp b)) ∧
   (let s : State := { W { z with now := 10^12 } [(F.SLT_NTO_NTO, 1)] with slt := { Slt.init with nodes := [(256 * 13 + 255, { Node.init with healthy := true, seen := true, okAt := some 7 })] } }; let b : Fin 14 := 13; let n : BitVec 8 := 255;
    ((s.node b n.toNat).healthy) ∧ (s.fld F.SLT_NTO_NTO ≠ 0) ∧ ((∀ u, (s.node b n.toNat).okAt = some u → u + 1000000 * s.fld F.SLT_NTO_NTO ≤ s.now))) ∧
   (let s : State := withEp (W z [(F.ETH_PLCASTAT_ACTIVE 1, 1)]) 9 { Ep.init with state := 2, cfg := bts 64 [(2, kSENSE), (3, 3), (4, 0xFF), (5, 0x0F), (6, 254), (7, 0x10)] }; let b : Fin 14 := 13; let n : BitVec 8 := 254; let k : BitVec 12 := 4095; let v : Word := 0xFFFFFFFF; let e : Nat := 9;
    (s.busUp b) ∧ (e ∈ SMap.keys s.ept.eps) ∧ ((s.ep e).state ≠ epOUT) ∧ (eKind (s.ep e).cfg = kSENSE) ∧ (eRemote (s.ep e).cfg) ∧ (eBus (s.ep e).cfg = b.val) ∧ (eNode (s.ep e).cfg = n.toNat) ∧ (eIndex (s.ep e).cfg = k.toNat)) :=
  by and_intros <;> decide +kernel

/-- Every clause of ActivePageIsReadOnly has a state and operands that meet its hypotheses. -/
theorem witness_ActivePageIsReadOnly :
   (let s : State := W z [(F.TDM_STATE_PSTATE, 0)]; let acc : Acc := A8; let c : Fin 256 := 255; let p : Fin 2 := if s.page 255 = 0 then 0 else 1; let n : Fin 64 := 63; let k : Fin 4 := 3; let v : Word := 5;
    (s.takesWrite acc (R.SLT_PAGE c p n k)) ∧ (s.mirrorOnly = false) ∧ (p.val = s.page c ∨ s.hasCommit c)) :=
  by decide +kernel

/-- Every clause of CoverageCommandsComplete has a state and operands that meet its hypotheses. -/
theorem witness_CoverageCommandsComplete :
   (let s : State := { (fieldS z).setBytes 0x20004000 (leBytes 8 (0x08000000 + 2^32)) with cov := { (fieldS z).cov with marks := [(0, 0, 5)] } }; let l : Fin 8 := 0; let idx : BitVec 24 := 0; let ecc : Bool := false; let a : Nat := 0x0800000000; let f : Nat := 0;
    (s.flag F.COV_CTL_EN) ∧ (s.covLoaded) ∧ (within 1 3 (layKind s.cov.desc l)) ∧ (idx.toNat < layNtx s.cov.desc l * layNty s.cov.desc l) ∧ ((s.tileNear l idx.toNat ∨ ∃ m ∈ s.cov.marks, m.1 = l.val ∧ m.2.1 = idx.toNat)) ∧ (s.frameOf l idx.toNat = none) ∧ (s.dirEntry l idx.toNat = .present a) ∧ (s.freeFrame = some f) ∧ ((∀ x, s.frame f = some x → x.dirty = false)) ∧ ((s.firstDenied (engine 13) .read a (tileBytes s.cov.desc l)).isNone) ∧ ((s.firstDenied (engine 13) .write (s.frameAddr f) (tileBytes s.cov.desc l)).isNone)) ∧
   (let s : State := { W (fieldS { z with now := 10^12 }) [(F.COV_WB_PERIOD, 1)] with cov := { (fieldS z).cov with frames := [(0, some ⟨0, 0, 0x0800000000, true, 0⟩)] } }; let ecc : List (Fin 128) := [1];
    (s.flag F.COV_CTL_EN) ∧ (s.covLoaded) ∧ (0 < s.fld F.COV_WB_PERIOD) ∧ (s.due s.cov.wbAt (1000000 * s.fld F.COV_WB_PERIOD))) ∧
   (let s : State := withEp { z with now := 10^12 } 4095 { Ep.init with state := 2, missAt := some 0, front := some 5 }; let e : Fin 4096 := 4095; let t0 : Nat := 0;
    ((s.ep e).missAt = some t0) ∧ ((s.ep e).state ≠ epOUT) ∧ (t0 + 1000000 * s.fld F.COV_MISS_MISSTO ≤ s.now)) ∧
   (let s : State := z; let acc : Acc := A8; let v : Word := 0xFFFFFFFF;
    (s.takesWrite acc R.COV_POOLTAIL)) ∧
   (let s : State := W (ringQ z 3 1 128 0x20002000 0 0 0 0) [(F.TDM_STATE_PSTATE, 0)]; let n : Fin 64 := 2; let d : Desc := nd s;
    (s.starts n d 3 1) ∧ (s.mirrorOnly = false) ∧ (d.len = 128)) ∧
   (let s : State := W { fieldS (ringQ z 3 2 0 0 0 0 0 0) with cov := { (fieldS z).cov with frames := [(127, some ⟨0, 0, 0x0800000000, true, 0⟩)], marks := [(0, 5, 1)], denied := [(1, 3)] } } [(F.TDM_STATE_PSTATE, 0)]; let n : Fin 64 := 2; let d : Desc := nd s; let ecc : List (Fin 128) := [];
    (s.starts n d 3 2) ∧ (s.mirrorOnly = false) ∧ (s.covLoaded)) ∧
   (let s : State := W { fieldS (ringQ z 3 3 0 0 0 0 0 0) with cov := { (fieldS z).cov with frames := [(127, some ⟨0, 0, 0x0800000000, true, 0⟩)], marks := [(0, 5, 1)], denied := [(1, 3)] } } [(F.TDM_STATE_PSTATE, 0)]; let n : Fin 64 := 2; let d : Desc := nd s; let ecc : List (Fin 128) := [];
    (s.starts n d 3 3) ∧ (s.mirrorOnly = false) ∧ (s.covLoaded)) ∧
   (let s : State := W { fieldS (ringQ z 3 4 0 0 1 0 1 0) with cov := { (fieldS z).cov with frames := [(3, some ⟨1, 1, 0x0800000000, true, 0⟩), (127, some ⟨1, 0, 0x0800000000, true, 0⟩)], marks := [(1, 5, 1)] } } [(F.TDM_STATE_PSTATE, 0)]; let n : Fin 64 := 2; let d : Desc := nd s;
    (s.starts n d 3 4) ∧ (s.mirrorOnly = false) ∧ (s.covLoaded) ∧ (layKind s.cov.desc (d.arg0 % 8) ≠ lkAPPLIED)) :=
  by and_intros <;> decide +kernel

/-- Every clause of BridleCommandsComplete has a state and operands that meet its hypotheses. -/
theorem witness_BridleCommandsComplete :
   (let s : State := { (W { z with now := 100000 } [(F.BRD_CTL_EN, 1)]).setEntry 6 63 (bts 128 [(0, 1), (2, 1), (4, 100), (8, 0), (9, 5)]) with str := { Str.init with tickAt := 100000 }, slt := Slt.init, brd := { Brd.init with loops := [(63, { BLoop.init with on := true, nextAt := 100000 })], sw := [(0, some (0, true))] } }; let n : Fin 64 := 63; let j : LJob := ⟨100000, 0, false, false⟩;
    (bGen (s.entry 6 n) = false ∨ s.alone n) ∧ (s.loopLate n = false) ∧ (s.loopDue n = some j) ∧ (j.enter = false)) ∧
   (let s : State := { (W { z with now := 100000 } [(F.BRD_CTL_EN, 1), (F.STR_AXSTAT_STATE 0, axLOST)]).setEntry 6 63 (bts 128 [(0, 1), (2, 2), (4, 100), (8, 0), (9, 5)]) with str := { Str.init with tickAt := 100000 }, slt := Slt.init, brd := { Brd.init with loops := [(63, { BLoop.init with on := true, nextAt := 100000, last := 7 })] } }; let n : Fin 64 := 63; let j : LJob := ⟨0, 0, false, true⟩;
    (bGen (s.entry 6 n) = false ∨ s.alone n) ∧ (s.loopLate n = false) ∧ (s.loopDue n = some j) ∧ (j.enter)) ∧
   (let s : State := { (W { z with now := 300000 } [(F.BRD_CTL_EN, 1)]).setEntry 6 63 (bts 128 [(0, 1), (2, 1), (4, 100), (8, 0), (9, 5)]) with str := { Str.init with tickAt := 100000 }, slt := Slt.init, brd := { Brd.init with loops := [(63, { BLoop.init with on := true, nextAt := 100000, last := 7 })] } }; let n : Fin 64 := 63;
    (bGen (s.entry 6 n) = false ∨ s.alone n) ∧ (s.loopLate n)) ∧
   (let s : State := { ((W { z with now := 100000 } [(F.BRD_CTL_EN, 1)]).setEntry 6 63 (bts 128 [(0, 1), (2, 1), (3, 0x1F), (4, 100), (8, 0), (9, 5)])).setEntry 6 2 (bts 128 [(0, 1), (2, 1), (3, 0x1F), (4, 100), (8, 1), (9, 5)]) with str := { Str.init with tickAt := 100000 }, slt := Slt.init, brd := { Brd.init with loops := [(2, { BLoop.init with on := true, nextAt := 100000 }), (63, { BLoop.init with on := true, nextAt := 100000 })], sw := [(0, some (0, true))] } }; let g : Fin 16 := 15; let m : Nat := 2; let l : List Nat := [63]; let j : LJob := ⟨100000, 0, false, false⟩;
    (s.gmembers g = m :: l) ∧ (s.loopLate m = false) ∧ (s.loopDue m = some j) ∧ (j.enter = false)) ∧
   (let s : State := W z [(F.TDM_STATE_PSTATE, 0)]; let acc : Acc := A8; let hi : Bool := true; let v : Word := 0x80000001;
    (s.takesWrite acc (if hi then R.BRD_APPLY_HI else R.BRD_APPLY_LO)) ∧ (s.mirrorOnly = false)) ∧
   (let s : State := { W z [(F.BRD_LSTAT_OSC 63, 1), (F.BRD_LOSC_COUNT 63, 4)] with brd := { Brd.init with loops := [(63, { BLoop.init with on := true, revs := [3, 2], cnt := 5, wide := true })] } }; let acc : Acc := A8; let n : Fin 64 := 63;
    (s.takesWrite acc (R.BRD_LSTAT n))) ∧
   (let s : State := W z [(F.TDM_STATE_PSTATE, 0)]; let acc : Acc := A8; let k : Fin 16 := 15; let v : Word := 0x7F800000;
    (s.takesWrite acc (R.BRD_SWVAL k)) ∧ (s.mirrorOnly = false)) ∧
   (let s : State := { W { z with now := 10^12 } [(F.BRD_SWTO_TO, 5)] with brd := { Brd.init with sw := [(15, some (0, true))] } }; let k : Fin 16 := 15; let t0 : Nat := 0;
    (SMap.get (fun _ => none) s.brd.sw k.val = some (t0, true)) ∧ (s.fld F.BRD_SWTO_TO ≠ 0) ∧ (t0 + 1000000 * s.fld F.BRD_SWTO_TO ≤ s.now)) ∧
   (let s : State := (W (ringQ z 4 1 8 0x20002000 0x3F800000 0 0 0) [(F.TDM_STATE_PSTATE, 0)]).setBytes 0x20002000 (leBytes 8 (2^63 + 1)); let n : Fin 64 := 2; let d : Desc := nd s;
    (s.starts n d 4 1) ∧ (s.mirrorOnly = false) ∧ (d.len = 8) ∧ ((s.firstDenied (engine 14) .read d.addr 8).isNone) ∧ (fNan d.arg0 = false)) ∧
   (let s : State := (W (ringQ z 4 2 8 0x20002000 0 0 0 0) [(F.TDM_STATE_PSTATE, 0)]).setBytes 0x20002000 (leBytes 8 (2^63 + 1)); let n : Fin 64 := 2; let d : Desc := nd s;
    (s.starts n d 4 2) ∧ (s.mirrorOnly = false) ∧ (d.len = 8) ∧ ((s.firstDenied (engine 14) .read d.addr 8).isNone)) :=
  by and_intros <;> decide +kernel

/-- The further clauses of BridleCommandsComplete. -/
theorem witness_BridleCommandsComplete_2 :
   (let s : State := (W (ringQ z 4 3 8 0x20002000 0x3F800000 0 0 0) [(F.TDM_STATE_PSTATE, 0)]).setBytes 0x20002000 (leBytes 8 (2^63 + 1)); let n : Fin 64 := 2; let d : Desc := nd s;
    (s.starts n d 4 3) ∧ (s.mirrorOnly = false) ∧ (d.len = 8) ∧ ((s.firstDenied (engine 14) .read d.addr 8).isNone)) :=
  by decide +kernel

/-- Every clause of SolenoidWaveformCommandsComplete has a state and operands that meet its hypotheses. -/
theorem witness_SolenoidWaveformCommandsComplete :
   (let s : State := W (z.setEntry 1 63 solE) [(F.TDM_STATE_PSTATE, 0), (solF F.SOL_CHSTAT_DEST 63, 0), (F.SOL_CTL_EN 1, 1), (solF F.SOL_CHSTAT_PHASE 63, 0)]; let acc : Acc := A8; let n : Fin 64 := 63; let v : Word := 0x80000100;
    (s.takesWrite acc (R.SOL_CMD (n / 32) (n % 32))) ∧ (s.tdmMasked = false) ∧ ((s.sch n).holder = none) ∧ (s.flag (solF F.SOL_CHSTAT_DEST n) = false) ∧ (s.solSlave n = false)) ∧
   (let s : State := W ((z.setEntry 1 63 solE).setEntry 1 32 solE) [(F.SOL_CTL_EN 1, 1), (solF F.SOL_CHSTAT_PHASE 63, 5)]; let acc : Acc := A8; let d : Fin 2 := 1; let v : Word := 0;
    (s.takesWrite acc (R.SOL_CTL d))) ∧
   (let s : State := (W z [(solF F.SOL_CHSTAT_PHASE 60, 0), (solF F.SOL_CHSTAT_PHASE 61, 1), (solF F.SOL_CHSTAT_PHASE 62, 0), (solF F.SOL_CHSTAT_PHASE 63, 1), (F.SOL_BSTCFG_EN 1 1, 1), (F.SOL_BSTCFG_SETPT 1 1, 48)]).setSch 63 { SCh.init with te := 5, wave := { SCh.init.wave with bsten := true, tpeak := 4 } }; let u : State := s.boostVolt 3 0xFFFF; let k : Fin 16 := 15; let v : BitVec 16 := 0xFFFF; let n : Nat := (u.bankNext 15).getD 99;
    (s.part.hasSol (4 * k)) ∧ (u = s.boostVolt (k / 4) v.toNat) ∧ (u.bankHolder k = none) ∧ (u.bankNext k = some n)) ∧
   (let s : State := W (({ z with now := 10^9 }).setSch 63 { SCh.init with te := 5 }) [(solF F.SOL_CHSTAT_PHASE 63, 1)]; let n : Fin 64 := 63;
    (s.solPhase n = phWAIT) ∧ (s.solSlave n = false) ∧ ((s.sch n).te + 1000 * s.fld (bankF F.SOL_BANKCFG_DEFER (n / 4)) ≤ s.now)) ∧
   (let s : State := W (({ z with now := 10^9 }).setSch 0 { SCh.init with te := 5 }) [(solF F.SOL_CHSTAT_PHASE 0, 2)]; let n : Fin 64 := 0;
    (s.solPhase n = phBOOST) ∧ (s.solSlave n = false)) ∧
   (let s : State := W (({ z with now := 10^9 }).setSch 63 { SCh.init with te := 5, phaseAt := 5 }) [(solF F.SOL_CHSTAT_PHASE 63, 2)]; let n : Fin 64 := 63;
    (s.solPhase n = phBOOST) ∧ (s.solSlave n = false) ∧ ((s.sch n).phaseAt + 1000 * (s.sch n).wave.tbmax ≤ s.now)) ∧
   (let s : State := W (({ z with now := 10^9 }).setSch 63 { SCh.init with te := 5, phaseAt := 5 }) [(solF F.SOL_CHSTAT_PHASE 63, 3)]; let n : Fin 64 := 63;
    (s.solPhase n = phPEAK) ∧ (s.solSlave n = false) ∧ ((s.sch n).phaseAt + 1000 * (s.sch n).wave.tpeak ≤ s.now)) ∧
   (let s : State := W (({ z with now := 10^9 }).setSch 63 { SCh.init with te := 5, phaseAt := 5 }) [(solF F.SOL_CHSTAT_PHASE 63, 4)]; let n : Fin 64 := 63;
    (s.solPhase n = phPKDEC) ∧ (s.solSlave n = false)) ∧
   (let s : State := W (({ z with now := 10^9 }).setSch 63 { SCh.init with te := 5, phaseAt := 5 }) [(solF F.SOL_CHSTAT_PHASE 63, 6)]; let n : Fin 64 := 63;
    (s.solPhase n = phDECAY) ∧ (s.solSlave n = false)) ∧
   (let s : State := ({ z with now := 10^9 }).setEntry 1 63 solE; let d : Fin 2 := 1; let temps : List (Fin 8 × BitVec 16) := [(7, 400)]; let currents : List (Fin 32 × BitVec 16) := [(31, 300)]; let volts : List (Fin 2 × BitVec 16) := [(1, 5000)];
    (s.part.hasSol (32 * d)) ∧ (s.due (SMap.get (fun _ => 0) s.sol.bandAt d) 10000000)) :=
  by and_intros <;> decide +kernel

/-- The further clauses of SolenoidWaveformCommandsComplete. -/
theorem witness_SolenoidWaveformCommandsComplete_2 :
   (let s : State := W z []; let acc : Acc := A8; let b : Fin 4 := 3; let v : Word := 48 + 256 * 48 + 65536 * 48 + 2^24 * 48; let w : Word := writtenWord (R.SOL_BSTCFG (b / 2) (b % 2)) (s.locked (R.SOL_BSTCFG (b / 2) (b % 2))) (s.reg (R.SOL_BSTCFG (b / 2) (b % 2))) (v ||| 1);
    (s.takesWrite acc (R.SOL_BSTCFG (b / 2) (b % 2))) ∧ (w = writtenWord (R.SOL_BSTCFG (b / 2) (b % 2)) (s.locked (R.SOL_BSTCFG (b / 2) (b % 2))) (s.reg (R.SOL_BSTCFG (b / 2) (b % 2))) (v ||| 1)) ∧ (within 48 120 ((bstF F.SOL_BSTCFG_SETPT b).get w))) :=
  by decide +kernel

/-- Every clause of SolenoidFaultCommandsComplete has a state and operands that meet its hypotheses. -/
theorem witness_SolenoidFaultCommandsComplete :
   (let s : State := W (z.setEntry 1 63 solE) [(solF F.SOL_CHSTAT_PHASE 63, 5), (solF F.SOL_CHCMD_CMD 63, 450)]; let half : Fin 64 := 63; let n : Nat := s.solUnit 63; let cause : Fin 3 := 2; let us : BitVec 32 := 2000;
    (n = s.solUnit half) ∧ (s.part.hasSol n) ∧ (s.solPhase n ≠ phFAULT) ∧ (s.cut (n / 32) ≠ 2) ∧ ((cause.val = 2 → s.solValid n)) ∧ ((cause.val = 2 → (s.solPhase n = phHOLD ∧ 400 ≤ s.fld (solF F.SOL_CHCMD_CMD n) ∧ 2000 ≤ us.toNat) ∨ (s.solPhase n = phOFF ∧ vOpenchk (s.entry 1 n) ∧ 10000 ≤ us.toNat ∧ s.offTest 0 n)))) ∧
   (let s : State := W z [(solF F.SOL_CHSTAT_PHASE 63, 5)]; let k : Fin 16 := 15;
    ((∃ n ∈ s.bankMembers k, s.solActive n)) ∧ (s.cut (k / 8) ≠ 2)) ∧
   (let s : State := W (z.setEntry 1 63 solE) [(solF F.SOL_CHSTAT_PHASE 63, 5)]; let n : Fin 64 := 63; let err : BitVec 16 := 6; let ms : BitVec 16 := 5;
    (s.solValid n) ∧ (s.solPhase n = phHOLD) ∧ (vRegTol (s.entry 1 n) ≠ 0) ∧ (vRegTol (s.entry 1 n) < err.toNat) ∧ (vRegT (s.entry 1 n) ≤ ms.toNat)) ∧
   (let s : State := W z [(solF F.SOL_CHSTAT_PHASE 63, 7), (solF F.SOL_CHSTAT_FCAUSE 63, 3), (solF F.SOL_CHSTAT_BANK 63, 1), (solF F.SOL_CHSTAT_FCAUSE 62, 1), (solF F.SOL_CHSTAT_FCAUSE 61, 1), (solF F.SOL_CHSTAT_FCAUSE 60, 1)]; let acc : Acc := A8; let n : Fin 64 := 63;
    (s.takesWrite acc (R.SOL_CHSTAT (n / 32) (n % 32))) ∧ (s.solSlave n = false) ∧ ((s.fld (solF F.SOL_CHSTAT_FCAUSE n) = 1 ∨ s.fld (solF F.SOL_CHSTAT_FCAUSE n) = 2 ∨ s.fld (solF F.SOL_CHSTAT_FCAUSE n) = 4 ∨ (s.fld (solF F.SOL_CHSTAT_FCAUSE n) = 3 ∧ ∀ m ∈ s.bankMembers (n / 4), m ≠ n.val → ¬ (s.fld (solF F.SOL_CHSTAT_FCAUSE m) = 3 ∧ s.flag (solF F.SOL_CHSTAT_BANK m)))))) ∧
   (let s : State := (W z [(bstF F.SOL_BSTCFG_EN 3, 1), (bstF F.SOL_BSTCFG_SETPT 3, 48)]).setStopped 3 true; let b : Fin 4 := 3; let v : BitVec 16 := 100; let ms : BitVec 16 := 10;
    (s.part.hasSol (16 * b)) ∧ (s.flag (bstF F.SOL_BSTCFG_EN b)) ∧ (v.toNat < 40 * s.fld (bstF F.SOL_BSTCFG_SETPT b)) ∧ (10 ≤ ms.toNat)) ∧
   (let s : State := W z [(bstF F.SOL_BSTCFG_EN 3, 0), (bstF F.SOL_BSTCFG_SETPT 3, 48)]; let b : Fin 4 := 3; let v : BitVec 16 := 3200;
    (s.part.hasSol (16 * b)) ∧ (s.boostStopped b = false) ∧ (min (50 * s.fld (bstF F.SOL_BSTCFG_SETPT b) + 800) 6300 ≤ v.toNat)) :=
  by and_intros <;> decide +kernel

/-- Every clause of LoadSwitchCommandsComplete has a state and operands that meet its hypotheses. -/
theorem witness_LoadSwitchCommandsComplete :
   (let s : State := W (z.setEntry 2 95 lswE) [(F.TDM_STATE_PSTATE, 0), (lswF F.LSW_CHSTAT_DEST 95, 0), (F.LSW_CTL_EN 1, 1), (lswF F.LSW_CHSTAT_STATE 95, 0)]; let acc : Acc := A8; let n : Fin 96 := 95; let v : Word := 0x80002710; let w : Word := writtenWord (R.LSW_CMD (n / 48) (n % 48)) (s.locked (R.LSW_CMD (n / 48) (n % 48))) (s.reg (R.LSW_CMD (n / 48) (n % 48))) v;
    (s.takesWrite acc (R.LSW_CMD (n / 48) (n % 48))) ∧ (s.tdmMasked = false) ∧ ((s.lch n).holder = none) ∧ (s.flag (lswF F.LSW_CHSTAT_DEST n) = false) ∧ (w = writtenWord (R.LSW_CMD (n / 48) (n % 48)) (s.locked (R.LSW_CMD (n / 48) (n % 48))) (s.reg (R.LSW_CMD (n / 48) (n % 48))) v) ∧ ((lswF F.LSW_CMD_DUTY n).get w ≤ 10000)) ∧
   (let s : State := W (z.setEntry 2 95 lswE) [(F.LSW_CTL_EN 1, 0), (lswF F.LSW_CHSTAT_STATE 95, 0), (lswF F.LSW_CHSTAT_LEVEL 95, 1), (F.TDM_STATE_PSTATE, 0)]; let acc : Acc := A8; let d : Fin 2 := 1; let v : Word := 1;
    (s.takesWrite acc (R.LSW_CTL d))) ∧
   (let s : State := W (({ z with now := 10^10 }).setLch 95 { LCh.init with tInr := 100, retry := 2 }) [(lswF F.LSW_CHSTAT_STATE 95, 1)]; let n : Fin 96 := 95; let limiting : Bool := true;
    (s.lswState n = lsINRUSH) ∧ ((s.lch n).startAt + 100000 * (s.lch n).tInr ≤ s.now)) ∧
   (let s : State := W (({ z with now := 10^10 }).setLch 95 { LCh.init with tInr := 100, retry := 2 }) [(lswF F.LSW_CHSTAT_STATE 95, 2)]; let n : Fin 96 := 95; let cause : Fin 3 := 1; let us : BitVec 32 := 2000;
    (s.lswOn n) ∧ (s.cut (n / 48) ≠ 2) ∧ ((cause.val = 1 → s.lswState n = lsON ∧ 2000 ≤ us.toNat))) ∧
   (let s : State := W ((({ z with now := 10^10 }).setLch 95 { LCh.init with tInr := 100, retry := 2, rspace := 20, latchAt := 5 }).setEntry 2 95 lswE) [(lswF F.LSW_CHSTAT_STATE 95, 3), (lswF F.LSW_CHSTAT_LEVEL 95, 1)]; let n : Fin 96 := 95;
    (s.lswState n = lsRETRY) ∧ ((s.lch n).latchAt + 1000000 * (s.lch n).rspace ≤ s.now) ∧ (s.flag (lswF F.LSW_CHSTAT_LEVEL n))) ∧
   (let s : State := W ((({ z with now := 10^10 }).setLch 95 { LCh.init with tInr := 100, retry := 2, rspace := 20, latchAt := 5 }).setEntry 2 95 lswE) [(lswF F.LSW_CHSTAT_STATE 95, 2)]; let n : Fin 96 := 95;
    (s.lswOn n) ∧ (max (s.lch n).startAt (s.lch n).latchAt + 1000000000 ≤ s.now)) ∧
   (let s : State := W z [(lswF F.LSW_CHSTAT_STATE 95, 4), (lswF F.LSW_CHSTAT_FCAUSE 95, 3)]; let acc : Acc := A8; let n : Fin 96 := 95;
    (s.takesWrite acc (R.LSW_CHSTAT (n / 48) (n % 48))) ∧ (within 1 3 (s.fld (lswF F.LSW_CHSTAT_FCAUSE n)))) ∧
   (let s : State := W (z.setEntry 2 95 lswE) [(lswF F.LSW_CHSTAT_STATE 95, 2), (lswF F.LSW_CHDUTY_DUTY 95, 10000)]; let n : Fin 96 := 95; let ms : BitVec 16 := 10;
    (s.lswValid n) ∧ (10 ≤ ms.toNat) ∧ (s.cut (n / 48) ≠ 2) ∧ ((s.lswOn n ∧ hOlmode (s.lswEntry n) ≠ 0 ∧ 50000 ≤ s.lswOnPhase n) ∨ (s.lswState n = lsOFF ∧ hOloff (s.lswEntry n) ∧ s.offTest 1 n))) ∧
   (let s : State := (W z [(lswF F.LSW_CHSTAT_STATE 95, 5)]).setShedList 1 [47]; let acc : Acc := A8; let ch : Fin 160 := 95;
    (ch.val < 96) ∧ (s.takesWrite acc (R.LSW_CHSTAT (ch.val / 48) (ch.val % 48))) ∧ (s.lswState ch = lsSHED)) ∧
   (let s : State := ((W z []).setSch 63 { SCh.init with shed := true }).setShedList 1 [95]; let acc : Acc := A8; let ch : Fin 160 := 159;
    (96 ≤ ch.val) ∧ (s.takesWrite acc (R.SOL_CHSTAT ((ch.val - 96) / 32) ((ch.val - 96) % 32))) ∧ (s.solSlave (ch.val - 96) = false) ∧ ((s.sch (ch.val - 96)).shed)) :=
  by and_intros <;> decide +kernel

/-- Every clause of LoadGroupCommandsComplete has a state and operands that meet its hypotheses. -/
theorem witness_LoadGroupCommandsComplete :
   (let s : State := W ({ z with now := 10^10 }) [(F.LSW_CLSTAT_STAGE 1 5, 0), (lswF F.LSW_CHSTAT_STATE 95, 1)]; let c : Fin 12 := 11; let temp : BitVec 16 := 1501; let currents : List (Fin 8 × BitVec 16) := [(7, 500)]; let volts : List (Fin 4 × BitVec 16) := [(3, 2400)];
    (s.part.hasHs (8 * c)) ∧ (s.due (s.therm c).at_ 250000) ∧ (s.cut (c / 6) ≠ 2)) ∧
   (let s : State := W z [(F.LSW_GRPCFG_GLIM 1 3, 100), (lswF F.LSW_CHSTAT_STATE 95, 2)]; let d : Fin 2 := 1; let g : Fin 5 := 3; let inst : BitVec 16 := 401; let mean : BitVec 16 := 101; let us : BitVec 16 := 50;
    (s.part.hasHs (48 * d)) ∧ (s.ovl d g = none) ∧ (s.cut d ≠ 2) ∧ (s.lswLimit d g < mean.toNat ∨ (g.val < 4 ∧ 400 < inst.toNat ∧ 50 ≤ us.toNat))) ∧
   (let s : State := (W ({ z with now := 10^10 }) [(lswF F.LSW_CHSTAT_STATE 95, 2)]).setOvl 1 4 (some 5); let d : Fin 2 := 1; let g : Fin 5 := 4; let inst : BitVec 16 := 801; let t0 : Nat := 5;
    (s.ovl d g = some t0) ∧ (t0 + 1000000 ≤ s.now) ∧ (s.cut d ≠ 2)) ∧
   (let s : State := (W ({ z with now := 10^12 }) [(F.LSW_GRPCFG_AUTO 1 3, 1), (F.LSW_GRPCFG_RST_PCT 1 3, 80), (F.LSW_GRPCFG_GLIM 1 3, 100), (F.LSW_GRPCFG_RST_T 1 3, 200), (lswF F.LSW_CHSTAT_STATE 95, 5)]).setShedList 1 [47]; let d : Fin 2 := 1; let g : Fin 4 := 3; let inst : BitVec 16 := 80; let ms : BitVec 16 := 300; let x : Nat := 47;
    (s.part.hasHs (48 * d)) ∧ (s.cut d ≠ 2) ∧ (s.flag (F.LSW_GRPCFG_AUTO d g)) ∧ (100 * inst.toNat ≤ s.fld (F.LSW_GRPCFG_RST_PCT d g) * s.fld (F.LSW_GRPCFG_GLIM d g)) ∧ (s.fld (F.LSW_GRPCFG_RST_T d g) ≤ ms.toNat) ∧ (SMap.get (fun _ => 0) s.lsw.back (4 * d + g) + 1000000 * s.fld (F.LSW_GRPCFG_RST_T d g) ≤ s.now) ∧ ((s.shedList d).find? (fun y => (groupsOf y).contains g.val) = some x) ∧ (x < 64 ∨ (s.sch (32 * d + (x - 64))).shed)) ∧
   (let s : State := W z [(lswF F.LSW_CHSTAT_STATE 95, 2)]; let d : Fin 2 := 1; let kind : Fin 3 := 1; let ms : BitVec 16 := 10;
    (s.part.hasHs (48 * d)) ∧ (s.cuts d / 2 ^ kind.val % 2 = 0)) ∧
   (let s : State := W ((z.setCut 1 4 true).setCut 1 1 true) [(lswF F.LSW_CHSTAT_STATE 95, 2)]; let d : Fin 2 := 1; let kind : Fin 3 := 2; let ms : BitVec 16 := 10;
    (s.part.hasHs (48 * d)) ∧ (s.cuts d / 2 ^ kind.val % 2 = 1) ∧ ((kind.val = 2 → 10 ≤ ms.toNat))) :=
  by and_intros <;> decide +kernel

/-- Every clause of DigitalPointCommandsComplete has a state and operands that meet its hypotheses. -/
theorem witness_DigitalPointCommandsComplete :
   (let s : State := W (z.setEntry 3 63 dinE) [(F.DIO_INLVL_LEVEL 1, 0)]; let n : Fin 64 := 63; let level : Bool := true; let us : BitVec 32 := 100;
    (s.dioIsIn n) ∧ ((s.fld (F.DIO_INLVL_LEVEL (n / 32)) / 2 ^ (n.val % 32) % 2 = 1 : Bool) ≠ level) ∧ (dDebounce (s.entry 3 n) ≤ us.toNat)) ∧
   (let s : State := W (z.setEntry 3 63 doutE) [(F.DIO_CTL_EN 1, 1), (F.DIO_PTSTAT_FCAUSE 1 31, 0), (F.DIO_CLSTAT_SUPPLY 1 3, 0), (F.DIO_STAT_HOLDING 1, 0), (F.TDM_STATE_PSTATE, 0)]; let acc : Acc := A8; let n : Fin 64 := 63; let on : Bool := true;
    (s.takesWrite acc (R.DIO_CMD (n / 32) (n % 32))) ∧ (s.tdmMasked = false) ∧ ((s.dpt n).holder = none)) ∧
   (let s : State := W (z.setEntry 3 63 doutE) [(F.DIO_CTL_EN 1, 1), (F.DIO_PTSTAT_FCAUSE 1 31, 0), (F.DIO_CLSTAT_SUPPLY 1 3, 0), (F.DIO_STAT_HOLDING 1, 0), (F.TDM_STATE_PSTATE, 0), (F.DIO_PTSTAT_LEVEL 1 31, 1)]; let n : Fin 64 := 63; let ot : Bool := false; let us : BitVec 32 := 5000;
    (s.dioIsOut n) ∧ (s.fld (F.DIO_PTSTAT_FCAUSE (n / 32) (n % 32)) = 0) ∧ (s.cut (n / 32) ≠ 2) ∧ ((ot = false → s.dioDrives n ∧ 5000 ≤ us.toNat))) ∧
   (let s : State := W (z.setEntry 3 63 doutE) [(F.DIO_CTL_EN 1, 1), (F.DIO_PTSTAT_FCAUSE 1 31, 0), (F.DIO_CLSTAT_SUPPLY 1 3, 0), (F.DIO_STAT_HOLDING 1, 0), (F.TDM_STATE_PSTATE, 0), (F.DIO_PTSTAT_LEVEL 1 31, 1)]; let n : Fin 64 := 63; let extv : Bool := false; let ms : BitVec 16 := 10;
    (s.dioIsOut n) ∧ (10 ≤ ms.toNat) ∧ (s.cut (n / 32) ≠ 2) ∧ ((if extv then s.dioDrives n = false else s.dioDrives n ∧ dOlchk (s.entry 3 n)))) ∧
   (let s : State := W (z.setEntry 3 63 doutE) [(F.DIO_CTL_EN 1, 1), (F.DIO_PTSTAT_FCAUSE 1 31, 2), (F.DIO_CLSTAT_SUPPLY 1 3, 0), (F.DIO_STAT_HOLDING 1, 0), (F.TDM_STATE_PSTATE, 0)]; let acc : Acc := A8; let n : Fin 64 := 63;
    (s.takesWrite acc (R.DIO_PTSTAT (n / 32) (n % 32))) ∧ (within 1 2 (s.fld (F.DIO_PTSTAT_FCAUSE (n / 32) (n % 32))))) ∧
   (let s : State := W z [(F.DIO_CTL_EN 1, 1), (F.DIO_PTSTAT_FCAUSE 1 31, 0), (F.DIO_CLSTAT_SUPPLY 1 3, 0), (F.DIO_STAT_HOLDING 1, 0), (F.TDM_STATE_PSTATE, 0)]; let c : Fin 8 := 7; let ma : BitVec 13 := 0; let ms : BitVec 16 := 1;
    (s.part.hasDio (8 * c)) ∧ (s.flag (F.DIO_CTL_EN (c / 4))) ∧ (s.flag (F.DIO_CLSTAT_SUPPLY (c / 4) (c % 4)) = false) ∧ (1 ≤ ms.toNat) ∧ (s.cut (c / 4) ≠ 2)) ∧
   (let s : State := W z [(F.DIO_CTL_EN 1, 1), (F.DIO_PTSTAT_FCAUSE 1 31, 0), (F.DIO_CLSTAT_SUPPLY 1 3, 0), (F.DIO_STAT_HOLDING 1, 0), (F.TDM_STATE_PSTATE, 0), (F.DIO_CLSTAT_SUPPLY 1 3, 1)]; let acc : Acc := A8; let c : Fin 8 := 7;
    (s.takesWrite acc (R.DIO_CLSTAT (c / 4) (c % 4))) ∧ (s.flag (F.DIO_CLSTAT_SUPPLY (c / 4) (c % 4)))) ∧
   (let s : State := W ({ z with now := 10^10 }.setEntry 3 63 doutE) [(F.DIO_CTL_EN 1, 1), (F.DIO_PTSTAT_FCAUSE 1 31, 0), (F.DIO_CLSTAT_SUPPLY 1 3, 0), (F.DIO_STAT_HOLDING 1, 1), (F.TDM_STATE_PSTATE, 0)]; let n : Fin 64 := 63;
    (s.dioIsOut n) ∧ (s.holding (n / 32)) ∧ (dHlen (s.entry 3 n)) ∧ ((s.dpt n).ended = false) ∧ (SMap.get (fun _ => 0) s.dio.holdAt (n / 32) + 1000000 * dHoldLim (s.entry 3 n) ≤ s.now)) ∧
   (let s : State := { W ((z.setEntry 3 63 doutE).setDpt 63 { DPt.init with off := true, ended := true }) [(F.DIO_CTL_EN 1, 1), (F.DIO_PTSTAT_FCAUSE 1 31, 0), (F.DIO_CLSTAT_SUPPLY 1 3, 0), (F.DIO_STAT_HOLDING 1, 1), (F.TDM_STATE_PSTATE, 0)] with pwr := { Pwr.init with hb := true } }; let acc : Acc := A8; let d : Fin 2 := 1; let v : Word := 1;
    (s.takesWrite acc (R.DIO_CTL d)) ∧ (s.pwr.hb) ∧ (s.holding d)) :=
  by and_intros <;> decide +kernel

/-- Every clause of AnalogueCommandsComplete has a state and operands that meet its hypotheses. -/
theorem witness_AnalogueCommandsComplete :
   (let s : State := W ({ z with now := 10^10 }.setEntry 4 47 ainE) [(F.AFE_CTL_EN, 1), (F.AFE_CHSTAT_TRIP 47, 0)]; let i : Fin 48 := 47; let x : BitVec 40 := 12500000; let vexc : BitVec 24 := 0; let err : BitVec 7 := 64;
    (s.flag F.AFE_CTL_EN) ∧ (s.ainValid i) ∧ (s.ainDue i)) ∧
   (let s : State := W (z.setEntry 4 47 ainE) [(F.AFE_CTL_EN, 1), (F.AFE_CHSTAT_TRIP 47, 0), (F.AFE_CTL_EN, 0)]; let i : Fin 48 := 47; let x : BitVec 40 := 12500000; let vexc : BitVec 24 := 0; let err : BitVec 7 := 64;
    (s.flag F.AFE_CTL_EN = false ∨ s.ainValid i = false ∨ s.ainDue i = false)) ∧
   (let s : State := W (z.setEntry 4 47 ainE) [(F.AFE_CTL_EN, 1), (F.AFE_CHSTAT_TRIP 47, 0)]; let i : Fin 48 := 47; let p : BitVec 40 := 3599999; let n : BitVec 40 := 0; let vexc : BitVec 24 := 0;
    (s.flag F.AFE_CTL_EN) ∧ (s.ainValid i) ∧ (s.flag (F.AFE_CHSTAT_TRIP i) = false) ∧ (ainTrips (s.entry 4 i) p.toInt n.toInt vexc.toNat)) ∧
   (let s : State := W (z.setEntry 4 47 ainE) [(F.AFE_CTL_EN, 1), (F.AFE_CHSTAT_TRIP 47, 1)]; let i : Fin 48 := 47; let p : BitVec 40 := 3600000; let n : BitVec 40 := 0; let vexc : BitVec 24 := 0;
    (s.flag (F.AFE_CHSTAT_TRIP i)) ∧ ((s.ainValid i → ainTrips (s.entry 4 i) p.toInt n.toInt vexc.toNat = false))) ∧
   (let s : State := W z [(F.AFE_EXCCFG_EN 11, 1), (F.AFE_EXCSTAT_EXCF 11, 0)]; let n : Fin 12 := 11; let us : BitVec 32 := 1000;
    (s.excOn n) ∧ (1000 ≤ us.toNat)) ∧
   (let s : State := W { z with now := 0 } [(F.AFE_EXCSTAT_EXCF 11, 1)]; let acc : Acc := A8; let n : Fin 12 := 11;
    (s.takesWrite acc (R.AFE_EXCSTAT n)) ∧ (s.flag (F.AFE_EXCSTAT_EXCF n))) ∧
   (let s : State := W { z with now := 0 } []; let acc : Acc := A8; let n : Fin 12 := 11; let v : Word := 0xFFFFFFFF; let w : Word := writtenWord (R.AFE_EXCCFG n) (s.locked (R.AFE_EXCCFG n)) (s.reg (R.AFE_EXCCFG n)) v;
    (s.takesWrite acc (R.AFE_EXCCFG n)) ∧ (w = writtenWord (R.AFE_EXCCFG n) (s.locked (R.AFE_EXCCFG n)) (s.reg (R.AFE_EXCCFG n)) v)) ∧
   (let s : State := W (z.setEntry 4 47 (bts 32 [(0, 1), (2, 2), (3, 24), (5, 4)])) [(F.AFE_CTL_LOCK, 0)]; let acc : Acc := A8; let f : Fin 3 := 2; let tap : Option (Fin 32) := some 31; let v : Word := 0x1FFFF; let a : Nat := R.AFE_FIR 2 31;
    (a = (match tap with | none => R.AFE_FIRLEN f | some k => R.AFE_FIR f k)) ∧ (s.takesWrite acc a) ∧ (s.locked a = false)) ∧
   (let s : State := W (z.setEntry 4 47 ainE) []; let acc : Acc := A8; let v : Word := 1;
    (s.takesWrite acc R.AFE_CTL)) ∧
   (let s : State := z.setAin 47 { Ain.init with ts := 99 }; let acc : Acc := A8; let i : Fin 48 := 47;
    (s.takesRead acc (R.AFE_RES i))) :=
  by and_intros <;> decide +kernel

/-- Every clause of PulseAndInertialCommandsComplete has a state and operands that meet its hypotheses. -/
theorem witness_PulseAndInertialCommandsComplete :
   (let s : State := W (({ z with now := 10^10 }).setEntry 5 23 (plsE 0)) [(F.PLS_CTL_EN, 1), (F.PLS_CHSTAT_LEVEL 23, 0), (F.PLS_CHSTAT_OPEN_NOW 23, 0)]; let n : Fin 24 := 23; let level : Bool := true; let both : Bool := false; let ts : Word := 0; let u : Nat := s.fromShort ts.toNat / 10 * 10;
    (u = s.fromShort ts.toNat / 10 * 10) ∧ (s.pinOn n) ∧ (u + 10 * pFilt (s.entry 5 n) ≤ s.now) ∧ (s.flag (F.PLS_CHSTAT_LEVEL n) ≠ level) ∧ (pMode (s.entry 5 n) = 0)) ∧
   (let s : State := W ((({ z with now := 10^10 }).setEntry 5 23 (plsE 1)).setEntry 5 22 (plsE 1)) [(F.PLS_CTL_EN, 1), (F.PLS_CHSTAT_LEVEL 23, 0), (F.PLS_CHSTAT_OPEN_NOW 23, 0)]; let n : Fin 24 := 23; let level : Bool := true; let both : Bool := false; let ts : Word := 0; let u : Nat := s.fromShort ts.toNat / 10 * 10;
    (u = s.fromShort ts.toNat / 10 * 10) ∧ (s.pinOn n) ∧ (u + 10 * pFilt (s.entry 5 n) ≤ s.now) ∧ (s.flag (F.PLS_CHSTAT_LEVEL n) ≠ level) ∧ (pMode (s.entry 5 n) = 1) ∧ (s.pinOn (n.val ^^^ 1)) ∧ (both = false)) ∧
   (let s : State := W ((({ z with now := 10^10 }).setEntry 5 23 (plsE 1)).setEntry 5 22 (plsE 1)) [(F.PLS_CTL_EN, 1), (F.PLS_CHSTAT_LEVEL 23, 0), (F.PLS_CHSTAT_OPEN_NOW 23, 0)]; let n : Fin 24 := 23; let level : Bool := true; let both : Bool := true; let ts : Word := 0; let u : Nat := s.fromShort ts.toNat / 10 * 10;
    (u = s.fromShort ts.toNat / 10 * 10) ∧ (s.pinOn n) ∧ (u + 10 * pFilt (s.entry 5 n) ≤ s.now) ∧ (s.flag (F.PLS_CHSTAT_LEVEL n) ≠ level) ∧ (pMode (s.entry 5 n) = 1) ∧ (s.pinOn (n.val ^^^ 1)) ∧ (both)) ∧
   (let s : State := W (({ z with now := 10^10 }).setEntry 5 23 (plsE 0)) [(F.PLS_CTL_EN, 1), (F.PLS_CHSTAT_LEVEL 23, 0), (F.PLS_CHSTAT_OPEN_NOW 23, 0), (F.PLS_CTL_EN, 0)]; let n : Fin 24 := 23; let level : Bool := true; let both : Bool := false; let ts : Word := 0;
    (s.pinOn n = false ∨ s.now < s.fromShort ts.toNat / 10 * 10 + 10 * pFilt (s.entry 5 n))) ∧
   (let s : State := W (({ z with now := 10^10 }).setZx 1 { Zx.init with last := some 5 }) [(F.PLS_ZXCFG_EN 1, 1)]; let z : Fin 2 := 1; let ts : Word := 0;
    (s.flag (F.PLS_ZXCFG_EN z))) ∧
   (let s : State := W (({ z with now := 10^10 }).setEntry 5 23 (plsE 0)) [(F.PLS_CTL_EN, 1), (F.PLS_CHSTAT_LEVEL 23, 0), (F.PLS_CHSTAT_OPEN_NOW 23, 0)];
    (s.due s.afe.rateAt 1000000)) ∧
   (let s : State := W (({ z with now := 10^10 }).setEntry 5 23 (plsE 2)) [(F.PLS_CTL_EN, 1), (F.PLS_CHSTAT_LEVEL 23, 0), (F.PLS_CHSTAT_OPEN_NOW 23, 0)]; let n : Fin 24 := 23; let peak : BitVec 10 := 201; let ts : Word := 0;
    (s.pinOn n) ∧ (pMode (s.entry 5 n) = 2) ∧ (field (s.entry 5 n) 14 2 < peak.toNat) ∧ ((s.pin n).dead ≤ s.fromShort ts.toNat)) ∧
   (let s : State := W (({ z with now := 10^10 }).setEntry 5 23 (plsE 0)) [(F.PLS_CTL_EN, 1), (F.PLS_CHSTAT_LEVEL 23, 0), (F.PLS_CHSTAT_OPEN_NOW 23, 0)]; let n : Fin 24 := 23; let ms : BitVec 16 := 50;
    (s.pinOn n) ∧ (pOpenChk (s.entry 5 n)) ∧ (pOpenT (s.entry 5 n) ≤ ms.toNat) ∧ (s.flag (F.PLS_CHSTAT_OPEN_NOW n) = false)) ∧
   (let s : State := W (({ z with now := 10^10 }).setEntry 5 23 (plsE 0)) [(F.PLS_CTL_EN, 1), (F.PLS_CHSTAT_LEVEL 23, 0), (F.PLS_CHSTAT_OPEN_NOW 23, 0)]; let n : Fin 24 := 23; let ms : BitVec 16 := 50;
    (s.pinOn n = false ∨ pOpenChk (s.entry 5 n) = false ∨ pOpenT (s.entry 5 n) ≤ ms.toNat)) ∧
   (let s : State := W (({ z with now := 10^10 }).setZx 1 { Zx.init with last := some 5 }) [(F.PLS_ZXCFG_EN 1, 0)]; let z : Fin 2 := 1;
    (s.flag (F.PLS_ZXCFG_EN z) = false ∨ (∀ l, (s.zx z).last = some l → l + 50000000 ≤ s.now))) :=
  by and_intros <;> decide +kernel

/-- The further clauses of PulseAndInertialCommandsComplete. -/
theorem witness_PulseAndInertialCommandsComplete_2 :
   (let s : State := W z [(F.IMU_CTL_EN, 1)]; let ax : BitVec 16 := 0x8000; let ay : BitVec 16 := 1; let az : BitVec 16 := 2; let gx : BitVec 16 := 3; let gy : BitVec 16 := 4; let gz : BitVec 16 := 0xFFFF; let temp : BitVec 16 := 25; let ts : Word := 9;
    (s.flag F.IMU_CTL_EN)) ∧
   (let s : State := W z [(F.IMU_CTL_ST, 0)]; let acc : Acc := A8;
    (s.takesWrite acc R.IMU_CTL) ∧ (s.flag F.IMU_CTL_ST = false)) ∧
   (let s : State := { W ({ z with now := 10^10 }) [] with afe := { Afe.init with selfTest := some 5 } }; let pass : Bool := false; let u : Nat := 5;
    (s.afe.selfTest = some u) ∧ (u + 50000000 ≤ s.now)) ∧
   (let s : State := { z with afe := { Afe.init with imu := [1, 2, 3, 4, 5, 6, 7, 8] } }; let acc : Acc := A8;
    (s.takesRead acc R.IMU_AXY)) :=
  by and_intros <;> decide +kernel

/-- Every clause of WeaveCommandsComplete has a state and operands that meet its hypotheses. -/
theorem witness_WeaveCommandsComplete :
   (let s : State := (ringQ z 5 1 64 0x20002000 0 0 0 0).setBytes 0x20002000 (bts 64 [(0, 3)]); let n : Fin 64 := 2; let d : Desc := nd s;
    (s.starts n d 5 1) ∧ (d.len ≠ 0) ∧ ((s.firstDenied (engine 15) .read d.addr d.len).isNone)) ∧
   (let s : State := (ringQ z 5 2 64 0x20002000 31 1 0 0).setBytes 0x20002000 (bts 64 [(0, 3), (62, 3)]); let n : Fin 64 := 2; let d : Desc := nd s;
    (s.starts n d 5 2) ∧ (0 < d.arg1) ∧ (d.arg0 + d.arg1 ≤ 32) ∧ (d.len = 64 * d.arg1) ∧ ((s.firstDenied (engine 15) .read d.addr d.len).isNone)) ∧
   (let s : State := ringQ z 5 3 1280 0x20002000 0 0 0 0; let n : Fin 64 := 2; let d : Desc := nd s;
    (s.starts n d 5 3) ∧ (d.len = 1280) ∧ ((s.firstDenied (engine 15) .read d.addr 1280).isNone) ∧ ((∀ o ∈ geomFloats, f32Special (field (s.bytes d.addr 1280) o 4) = false))) ∧
   (let s : State := ringQ z 5 4 32 0x20002000 0 0 0 0; let n : Fin 64 := 2; let d : Desc := nd s;
    (s.starts n d 5 4) ∧ (d.len = 32) ∧ ((s.firstDenied (engine 15) .read d.addr 32).isNone)) ∧
   (let s : State := { W ({ z with now := 10^10 }) [(F.WVE_CTL_EN, 1)] with wve := { z.wve with fieldNext := [(2, 0, bts 32 [])], geomNext := some (bts 1280 []), inbox := [⟨0, 5, [], 0⟩] } }; let t0 : Nat := s.nextEpoch.getD 0;
    (s.flag F.WVE_CTL_EN) ∧ (s.nextEpoch = some t0)) ∧
   (let s : State := { W { z with now := 10^13 } [] with wve := { z.wve with tracks := [(255, some { kind := 0, state := 2, rev := 0, inst := 0, hits := 0, e := 0, n := 0, dir := 0, len := 0, width := 0, ve := 0, vn := 0, mask := 0, window := [], misses := 0, hitAt := 5, born := 0 })] } }; let x : Fin 256 := 255; let k : Trk := (s.trk 255).getD { kind := 0, state := 2, rev := 0, inst := 0, hits := 0, e := 0, n := 0, dir := 0, len := 0, width := 0, ve := 0, vn := 0, mask := 0, window := [], misses := 0, hitAt := 5, born := 0 };
    (s.trk x = some k) ∧ (k.state = 2) ∧ (k.hitAt + 1000000 * s.fld F.WVE_TRKCOAST_T ≤ s.now)) ∧
   (let s : State := { (W { z with now := 10^10 } [(F.RNG_CFG_QUEUE 2, 0x23), (F.RNG_CFG_SIZE 2, 4), (F.RNG_CFG_CRING 2, 1)]).setRing 2 { Ring.init with queue := 0x23, cring := 1, inflight := [⟨⟨0, 1, false, false, 0, 64, 0x20002000, 0, 0, 0, 0⟩, none, 0, 1, 0x23, false⟩] } with outBufs := [(2, some ⟨0, 0x20002000, 64, 32, 5⟩)] }; let n : Fin 64 := 2; let b : OutBuf := ⟨0, 0x20002000, 64, 32, 5⟩; let ns : Nat := (s.flushNs (s.fld (F.RNG_CFG_QUEUE 2))).getD 0;
    (s.outBuf n = some b) ∧ (s.flushNs (s.fld (F.RNG_CFG_QUEUE n)) = some ns) ∧ (b.used ≠ 0) ∧ (b.since + ns ≤ s.now)) :=
  by and_intros <;> decide +kernel

/-- Every clause of GnssReceiverCommandsComplete has a state and operands that meet its hypotheses. -/
theorem witness_GnssReceiverCommandsComplete :
   (let s : State := W { z with now := 10^10 } [(F.GNS_CTL_EN, 1), (F.GNS_CTL_RATE, 5), (F.GRF_ANTSTAT_STATE 0, 2)]; let obs : List GObs := []; let time : GTime := ⟨5, 6, true, 7, 8⟩; let sol : Option GSol := none; let hdg : Option GHdg := none; let per : Nat := 50000000;
    (s.flag F.GNS_CTL_EN) ∧ (s.gnsPeriod = some per) ∧ (s.due s.gns.epochAt per)) ∧
   (let s : State := { z with gns := { Gns.init with chans := [(255, some { state := 2, ant := 1, sig := 14, svid := 255, cn0 := 0, lockAt := 0, slip := false, elev := 0 })] } }; let acc : Acc := A8;
    (s.takesWrite acc R.GNS_ACQCMD)) ∧
   (let s : State := z; let acc : Acc := A8;
    (s.takesWrite acc R.GNS_ACQCMD)) ∧
   (let s : State := z; let acc : Acc := A8;
    (s.takesWrite acc R.GNS_ACQCMD)) ∧
   (let s : State := { (W { z with now := 10^10 } [(F.GNS_CTL_EN, 1), (F.GRF_CTL_EN, 1), (F.GRF_ANTSTAT_STATE 0, 2)]) with gns := { Gns.init with sigen := 0x7FFF } }; let ant : Fin 2 := 0; let sig : Fin 15 := 14; let svid : BitVec 8 := 255;
    (s.flag F.GNS_CTL_EN) ∧ ((s.needClass ant sig).isSome) ∧ (s.antOk ant)) ∧
   (let s : State := { { z with now := 10^10 } with gns := { Gns.init with chans := [(255, some { state := 2, ant := 1, sig := 14, svid := 255, cn0 := 0, lockAt := 0, slip := false, elev := 0 })] } }; let c : Fin 256 := 255; let x : Chan := { state := 2, ant := 1, sig := 14, svid := 255, cn0 := 0, lockAt := 0, slip := false, elev := 0 };
    (s.chan c = some x) ∧ (2 ≤ x.state)) ∧
   (let s : State := z; let sig : Fin 15 := 14; let svid : BitVec 8 := 1; let l : List Word := [];
    (l.length = 0 ∨ 40 < l.length)) ∧
   (let s : State := { W { z with now := 10^10 } [(F.GNS_CTL_EN, 1), (F.RNG_CFG_QUEUE 2, 0x0B), (F.RNG_CFG_SIZE 2, 4)] with outBufs := [(2, some ⟨0, 0x20002000, 64, 0, 5⟩)] }; let sig : Fin 15 := 14; let svid : BitVec 8 := 255; let l : List Word := [1, 2];
    (1 ≤ l.length) ∧ (l.length ≤ 40) ∧ (s.flag F.GNS_CTL_EN)) ∧
   (let s : State := { (W z [(F.GNS_INJCFG_MODE, 1), (F.GNS_INJ_EPOCH_EPOCH, 77)]) with gns := { Gns.init with epochs := [(77, 1, 2, 3)], injEpoch := some 76 } }; let acc : Acc := A8; let v : Word := 0x40000; let e : Nat × Int × Int × Int := (77, 1, 2, 3); let u : State := s.writePlain R.GNS_INJ_CTL (v ||| 0x80000000);
    (s.takesWrite acc R.GNS_INJ_CTL) ∧ (s.fld F.GNS_INJCFG_MODE = 1) ∧ (u = s.writePlain R.GNS_INJ_CTL (v ||| 0x80000000)) ∧ (s.gns.epochs.find? (fun e => e.1 % 2 ^ 32 = s.fld F.GNS_INJ_EPOCH_EPOCH) = some e) ∧ ((∀ last, s.gns.injEpoch = some last → last < e.1)) ∧ (u.fld F.GNS_INJ_CTL_QUAL = 3 ∨ u.fld F.GNS_INJ_CTL_QUAL = 4)) ∧
   (let s : State := W z [(F.GNS_INJCFG_MODE, 1)]; let acc : Acc := A8; let v : Word := 4; let u : State := s.writePlain R.GNS_INJ_CTL (v ||| 0x80000000);
    (s.takesWrite acc R.GNS_INJ_CTL) ∧ (s.fld F.GNS_INJCFG_MODE = 1) ∧ (u = s.writePlain R.GNS_INJ_CTL (v ||| 0x80000000)) ∧ (s.gns.epochs.find? (fun e => e.1 % 2 ^ 32 = s.fld F.GNS_INJ_EPOCH_EPOCH) = none)) :=
  by and_intros <;> decide +kernel

/-- The further clauses of GnssReceiverCommandsComplete. -/
theorem witness_GnssReceiverCommandsComplete_2 :
   (let s : State := W { z with now := 10^10 } [(F.GNS_CTL_EN, 1), (F.GNS_INJCFG_MODE, 1), (F.GNS_INJCFG_TO, 50)];
    (s.flag F.GNS_CTL_EN) ∧ (s.fld F.GNS_INJCFG_MODE = 1) ∧ (s.gns.stale = false) ∧ (s.fld F.GNS_INJCFG_TO ≠ 0) ∧ (s.gns.injAt + 1000000 * s.fld F.GNS_INJCFG_TO ≤ s.now)) :=
  by decide +kernel

/-- Every clause of GnssFrontEndCommandsComplete has a state and operands that meet its hypotheses. -/
theorem witness_GnssFrontEndCommandsComplete :
   (let s : State := W z [(F.GRF_NOTCH_AUTO 1 2 3, 1), (F.GRF_NOTCH_EN 1 2 3, 1), (F.GRF_CTL_EN, 1)]; let a : Fin 2 := 1; let b : Fin 3 := 2; let f : Fin 4 := 3; let tone : BitVec 16 := 0xFFFF;
    (s.flag (F.GRF_NOTCH_AUTO a b f)) ∧ (s.flag (F.GRF_NOTCH_EN a b f)) ∧ (s.flag F.GRF_CTL_EN)) ∧
   (let s : State := { (W { z with now := 10^10 } [(F.GRF_NOTCH_AUTO 1 2 3, 0)]) with gns := { Gns.init with notchNext := [(23, 5)] } }; let a : Fin 2 := 1; let b : Fin 3 := 2; let f : Fin 4 := 3; let tone : BitVec 16 := 9; let p : Nat × Nat := (23, 5);
    (s.flag (F.GRF_NOTCH_AUTO a b f) = false) ∧ (s.gns.notchNext.find? (fun p => p.1 = 12 * a.val + 4 * b.val + f.val) = some p) ∧ ((p.2 / 1000000 + 1) * 1000000 ≤ s.now)) ∧
   (let s : State := { (W { z with now := 10^10 } [(F.GRF_CTL_EN, 1), (F.GRF_JAM_JTH 1 2, 10)]) with gns := { Gns.init with jam := [(5, some (5, false))] } }; let a : Fin 2 := 1; let b : Fin 3 := 2; let power : BitVec 16 := 300; let agc : BitVec 8 := 255;
    (s.flag F.GRF_CTL_EN)) ∧
   (let s : State := W z [(F.GRF_ANTCFG_EN 1, 1), (F.GRF_ANTSTAT_STATE 1, 2), (F.GRF_ANTCFG_ILIM 1, 2)]; let a : Fin 2 := 1; let cur : BitVec 12 := 19; let ms : BitVec 16 := 100;
    (s.flag (F.GRF_ANTCFG_EN a)) ∧ (s.fld (F.GRF_ANTSTAT_STATE a) ≠ 3) ∧ (cur.toNat < 20) ∧ (100 ≤ ms.toNat)) ∧
   (let s : State := W z [(F.GRF_ANTCFG_EN 1, 1), (F.GRF_ANTSTAT_STATE 1, 2), (F.GRF_ANTCFG_ILIM 1, 2)]; let a : Fin 2 := 1; let cur : BitVec 12 := 1500; let ms : BitVec 16 := 1;
    (s.flag (F.GRF_ANTCFG_EN a)) ∧ (s.fld (F.GRF_ANTSTAT_STATE a) ≠ 3) ∧ (20 ≤ cur.toNat) ∧ (ilim (s.fld (F.GRF_ANTCFG_ILIM a)) ≤ cur.toNat) ∧ (1 ≤ ms.toNat)) ∧
   (let s : State := W z [(F.GRF_ANTCFG_EN 1, 1), (F.GRF_ANTSTAT_STATE 1, 2), (F.GRF_ANTCFG_ILIM 1, 2)]; let a : Fin 2 := 1; let cur : BitVec 12 := 1499; let ms : BitVec 16 := 1;
    (s.flag (F.GRF_ANTCFG_EN a)) ∧ (s.fld (F.GRF_ANTSTAT_STATE a) ≠ 3) ∧ (20 ≤ cur.toNat) ∧ (cur.toNat < ilim (s.fld (F.GRF_ANTCFG_ILIM a)))) ∧
   (let s : State := { (W { z with now := 10^10 } [(F.GRF_ANTCFG_EN 1, 1), (F.GRF_ANTSTAT_STATE 1, 2), (F.GRF_ANTCFG_ILIM 1, 2)]) with gns := { Gns.init with shorts := [(1, some 5)] } }; let a : Fin 2 := 1; let cur : BitVec 12 := 1499; let t0 : Nat := 5;
    (SMap.get (fun _ => none) s.gns.shorts a.val = some t0) ∧ (s.flag (F.GRF_ANTCFG_EN a)) ∧ (t0 + 1000000000 ≤ s.now)) :=
  by and_intros <;> decide +kernel

/-- Every clause of TimeCommandsComplete has a state and operands that meet its hypotheses. -/
theorem witness_TimeCommandsComplete :
   (let s : State := { W { z with now := 10^10 } [(F.TIM_CTL_EN, 1), (F.TIM_STATE_STATE, 0), (F.TIM_SRCCFG_PART, 3)] with tim := { Tim.init with partnerValid := true } }; let u : State := s.timInputs; let src : Fin 4 := 3; let link : BitVec 64 := 10^9; let d : Int := 10^9; let t0 : Nat := s.now;
    (u = s.timInputs) ∧ (u.tim.src = src.val) ∧ (src.val ≠ 0) ∧ (s.flag F.TIM_CTL_EN) ∧ (u.timOffset src link.toInt = some (d, t0)) ∧ (u.tim.step = none) ∧ (u.timeFree)) ∧
   (let s : State := { W { z with now := 10^10 } [(F.TIM_CTL_EN, 1), (F.TIM_STATE_STATE, 1), (F.TIM_SRCCFG_PART, 3), (F.TIM_CTL_STEPEN, 1), (F.TIM_STEPTH_STEPTH, 1)] with tim := { Tim.init with partnerValid := true, src := 3, first := true } }; let u : State := s.timInputs; let src : Fin 4 := 3; let link : BitVec 64 := 10^9; let d : Int := 10^9; let t0 : Nat := s.now;
    (u = s.timInputs) ∧ (u.tim.src = src.val) ∧ (src.val ≠ 0) ∧ (s.flag F.TIM_CTL_EN) ∧ (u.timOffset src link.toInt = some (d, t0)) ∧ (u.tim.step = none) ∧ (u.timeFree = false) ∧ (u.tim.stepAt ≤ t0) ∧ (u.tim.first)) ∧
   (let s : State := { W { z with now := 10^10 } [(F.TIM_CTL_EN, 1), (F.TIM_STATE_STATE, 1), (F.TIM_SRCCFG_PART, 3), (F.TIM_SERVO_LOCKTH, 100)] with tim := { Tim.init with partnerValid := true, src := 3, first := false, inLock := 9 } }; let u : State := s.timInputs; let src : Fin 4 := 3; let link : BitVec 64 := 100; let d : Int := 100; let t0 : Nat := s.now;
    (u = s.timInputs) ∧ (u.tim.src = src.val) ∧ (src.val ≠ 0) ∧ (s.flag F.TIM_CTL_EN) ∧ (u.timOffset src link.toInt = some (d, t0)) ∧ (u.tim.step = none) ∧ (u.timeFree = false) ∧ (u.tim.stepAt ≤ t0) ∧ (u.tim.first = false)) ∧
   (let s : State := { z with now := 10^10 }; let acc : Acc := A8; let v : Word := w32 (s.short - 5);
    (s.takesWrite acc R.TIM_PTPINST) ∧ (0 ≤ sdiff32 s.short v.toNat) ∧ (sdiff32 s.short v.toNat ≤ 2000000000)) ∧
   (let s : State := { z with now := 10^10 }; let acc : Acc := A8; let v : Word := w32 (s.short + 5);
    (s.takesWrite acc R.TIM_PTPINST) ∧ (sdiff32 s.short v.toNat < 0 ∨ 2000000000 < sdiff32 s.short v.toNat)) ∧
   (let s : State := { W { z with now := 10^12 } [] with tim := { Tim.init with ptpAt := some 0 } }; let t0 : Nat := 0;
    (s.tim.ptpAt = some t0) ∧ (t0 + 1000000 * s.fld F.TIM_PTPCFG_PTPTO < s.now)) ∧
   (let s : State := { W { z with now := 10^10 } [(F.TIM_STATE_STATE, 2)] with tim := { Tim.init with step := some (-5, 1) } }; let d : Int := -5; let sec : Nat := 1;
    (s.tim.step = some (d, sec)) ∧ (s.timeFree = false) ∧ (sec * 1000000000 ≤ s.rt)) ∧
   (let s : State := { W { z with now := 10^10 } [(F.TIM_STATE_STATE, 3), (F.TIM_HOLD_HOLD_LIM, 1)] with tim := { Tim.init with holdAt := 0 } };
    (s.fld F.TIM_STATE_STATE = 3) ∧ (s.errLim < s.timErr ∨ s.tim.holdAt + 1000000000 * s.fld F.TIM_HOLD_HOLD_LIM ≤ s.now)) ∧
   (let s : State := W z [(F.TIM_STATE_STATE, 0), (F.TIM_SET_SEC_LO_SEC, 5)]; let acc : Acc := A8; let v : Word := 1; let u : State := s.writePlain R.TIM_SET_SEC_HI (v ||| 0x80000000);
    (s.takesWrite acc R.TIM_SET_SEC_HI) ∧ (u = s.writePlain R.TIM_SET_SEC_HI (v ||| 0x80000000)) ∧ (s.timeFree)) ∧
   (let s : State := W z [(F.TIM_STATE_STATE, 2)]; let acc : Acc := A8; let v : Word := 1; let u : State := s.writePlain R.TIM_SET_SEC_HI (v ||| 0x80000000);
    (s.takesWrite acc R.TIM_SET_SEC_HI) ∧ (u = s.writePlain R.TIM_SET_SEC_HI (v ||| 0x80000000)) ∧ (s.timeFree = false)) :=
  by and_intros <;> decide +kernel

/-- The further clauses of TimeCommandsComplete. -/
theorem witness_TimeCommandsComplete_2 :
   (let s : State := W { z with now := 10^10 } [(F.TIM_STATE_STATE, 2), (F.TIM_UTCAT_AT, 1)];
    (s.fld F.TIM_UTCAT_AT ≠ 0) ∧ (s.timeFree = false) ∧ (s.fld F.TIM_UTCAT_AT * 1000000000 ≤ s.rt)) ∧
   (let s : State := { W { z with now := 10^10 } [(F.TIM_STATE_STATE, 2), (F.TIM_TPCFG_EN 1, 1), (F.TIM_TPPER_PERIOD 1, 100), (F.TIM_TPWID_WIDTH 1, 80), (F.TIM_TPDLY_DELAY 1, 0)] with tim := { Tim.init with pulse1 := { Pulse.init with pending := some 0 } } }; let p : Fin 2 := 1; let sec : Nat := 0; let x : Pulse := { s.pulse p with en := s.flag (F.TIM_TPCFG_EN p), pol := s.flag (F.TIM_TPCFG_POL p), untrstop := s.flag (F.TIM_TPCFG_UNTRSTOP p), wrRec := s.flag (F.TIM_TPCFG_REC p), irq := s.flag (F.TIM_TPCFG_IRQ p), per := s.fld (F.TIM_TPPER_PERIOD p), wid := s.fld (F.TIM_TPWID_WIDTH p), dly := s.fldInt (F.TIM_TPDLY_DELAY p), pending := none, lastEdge := max (s.pulse p).lastEdge ((sec + 1) * 1000000000 - 1) };
    ((s.pulse p).pending = some sec) ∧ (s.timeFree = false) ∧ (sec < s.rt / 1000000000) ∧ (x = { s.pulse p with en := s.flag (F.TIM_TPCFG_EN p), pol := s.flag (F.TIM_TPCFG_POL p), untrstop := s.flag (F.TIM_TPCFG_UNTRSTOP p), wrRec := s.flag (F.TIM_TPCFG_REC p), irq := s.flag (F.TIM_TPCFG_IRQ p), per := s.fld (F.TIM_TPPER_PERIOD p), wid := s.fld (F.TIM_TPWID_WIDTH p), dly := s.fldInt (F.TIM_TPDLY_DELAY p), pending := none, lastEdge := max (s.pulse p).lastEdge ((sec + 1) * 1000000000 - 1) })) ∧
   (let s : State := { W { z with now := 10^10 } [(F.TIM_STATE_STATE, 2)] with tim := { Tim.init with pulse1 := { Pulse.init with en := true, per := 1000000000, wid := 20, start := 5, lastEdge := 5, inPulse := true, irq := true } } }; let p : Fin 2 := 1;
    (s.timeFree = false) ∧ (s.stepDue = none) ∧ ((s.pulse p).en) ∧ ((s.pulse p).per ≠ 0) ∧ ((s.pulse p).inPulse) ∧ ((((s.pulse p).start + (s.pulse p).wid : Nat) : Int) ≤ (s.rt : Int) + (s.pulse p).dly / 16)) ∧
   (let s : State := { W { z with now := 10^10 } [(F.TIM_STATE_STATE, 2)] with tim := { Tim.init with pulse1 := { Pulse.init with en := true, per := 1000000000, wid := 20, start := 5, lastEdge := 5, inPulse := false, irq := true } } }; let p : Fin 2 := 1;
    (s.timeFree = false) ∧ (s.stepDue = none) ∧ ((s.pulse p).en) ∧ ((s.pulse p).per ≠ 0) ∧ ((s.pulse p).inPulse = false) ∧ (¬ (s.fld F.TIM_STATE_STATE = 4 ∧ (s.pulse p).untrstop)) ∧ ((s.pulse p).holdUntil ≤ s.rt / 1000000000) ∧ (((((s.pulse p).lastEdge / (s.pulse p).per + 1) * (s.pulse p).per : Nat) : Int) ≤ (s.rt : Int) + (s.pulse p).dly / 16)) ∧
   (let s : State := { z with now := 10^10 }; let acc : Acc := A8;
    (s.takesRead acc R.TIM_MTB_LO)) ∧
   (let s : State := W z []; let acc : Acc := A8; let en : Bool := true;
    (s.takesWrite acc R.TIM_CTL)) :=
  by and_intros <;> decide +kernel

/-- Every clause of HarvestCommandsComplete has a state and operands that meet its hypotheses. -/
theorem witness_HarvestCommandsComplete :
   (let s : State := (W { z with now := 10^10 } [(F.YLD_LOSSCFG_EN 3, 1), (F.YLD_LOSSCFG_NORM 3, 0), (F.YLD_LOSSCFG_TF 3, 0), (F.YLD_LOSSMASK_MASK 3, 0x800000), (F.PLS_CHSTAT_OPEN_NOW 23, 0)]).setEntry 5 23 (plsE 2);
    (s.due s.yld.lossAt 10000000)) ∧
   (let s : State := { W { z with now := 10^10 } [(F.YLD_CTL_EN, 1), (F.YLD_CFG_SPER, 1000)] with yld := { Yld.init with empty := false } };
    (s.flag F.YLD_CTL_EN) ∧ (s.due s.yld.traceAt 10000000)) ∧
   (let s : State := { W { z with now := 10^10 } [(F.YLD_CTL_EN, 1), (F.YLD_CFG_SPER, 1000)] with yld := { Yld.init with empty := false } };
    (s.flag F.YLD_CTL_EN) ∧ (0 < s.fld F.YLD_CFG_SPER) ∧ (s.due s.yld.perAt (1000000 * s.fld F.YLD_CFG_SPER))) ∧
   (let s : State := { W { z with now := 10^10 } [(F.YLD_CTL_EN, 1), (F.YLD_CFG_SPER, 1000)] with yld := { Yld.init with closed := [{ YPer.init with tend := 10^9 }], cut := some (10^12) } }; let p : YPer := { YPer.init with tend := 10^9 }; let l : List YPer := []; let d : Nat := s.yldDelay (s.yldQc p.tend); let c1 : Int := (p.tend : Int) - 1000000 * d; let c0 : Int := s.yld.cut.getD (c1 - 1000000 * s.fld F.YLD_CFG_SPER);
    (s.yld.closed = p :: l) ∧ (p.tend + 10000000 ≤ s.now) ∧ (d = s.yldDelay (s.yldQc p.tend)) ∧ (c1 = (p.tend : Int) - 1000000 * d) ∧ (c0 = s.yld.cut.getD (c1 - 1000000 * s.fld F.YLD_CFG_SPER))) ∧
   (let s : State := { W { z with now := 10^10 } [(F.YLD_CTL_EN, 0), (F.YLD_CFG_SPER, 1000), (F.YLD_DELAY1_DMIN, 6000), (F.YLD_DELAY1_DMAX, 20000), (F.YLD_DELAY2_DSLEW, 0), (F.YLD_DELAY2_QLAG, 0), (F.YLD_CUT01_EN0, 0), (F.YLD_CUT01_EN1, 0), (F.YLD_CUT23_EN2, 0), (F.YLD_CUT23_EN3, 0), (⟨R.YLD_QREF, 31, 0⟩, 0x3F800000), (⟨R.YLD_KF, 31, 0⟩, 0), (⟨R.YLD_KM, 31, 0⟩, 0), (⟨R.YLD_M0, 31, 0⟩, 0), (⟨R.YLD_CFEKQ 0, 31, 0⟩, 0), (⟨R.YLD_CFEKQ 1, 31, 0⟩, 0)] with yld := { Yld.init with closed := [YPer.init] } }; let acc : Acc := A8; let v : Word := 1; let u : State := s.writePlain R.YLD_CTL v;
    (s.takesWrite acc R.YLD_CTL) ∧ (u = s.writePlain R.YLD_CTL v) ∧ (s.flag F.YLD_CTL_EN = false) ∧ (u.flag F.YLD_CTL_EN) ∧ (u.yldOk)) ∧
   (let s : State := { W { z with now := 10^10 } [(F.YLD_CTL_EN, 0), (F.YLD_CFG_SPER, 1000), (F.YLD_DELAY1_DMIN, 6000), (F.YLD_DELAY1_DMAX, 20000), (F.YLD_DELAY2_DSLEW, 0), (F.YLD_DELAY2_QLAG, 0), (F.YLD_CUT01_EN0, 0), (F.YLD_CUT01_EN1, 0), (F.YLD_CUT23_EN2, 0), (F.YLD_CUT23_EN3, 0), (⟨R.YLD_QREF, 31, 0⟩, 0x3F800000), (⟨R.YLD_KF, 31, 0⟩, 0), (⟨R.YLD_KM, 31, 0⟩, 0), (⟨R.YLD_M0, 31, 0⟩, 0), (⟨R.YLD_CFEKQ 0, 31, 0⟩, 0), (⟨R.YLD_CFEKQ 1, 31, 0⟩, 0), (F.YLD_DELAY1_DMIN, 5999)] with yld := { Yld.init with closed := [YPer.init] } }; let acc : Acc := A8; let v : Word := 1; let u : State := s.writePlain R.YLD_CTL v;
    (s.takesWrite acc R.YLD_CTL) ∧ (u = s.writePlain R.YLD_CTL v) ∧ (s.flag F.YLD_CTL_EN = false) ∧ (u.flag F.YLD_CTL_EN) ∧ (u.yldOk = false)) ∧
   (let s : State := { W { z with now := 10^10 } [(F.YLD_CTL_EN, 1), (F.YLD_CFG_SPER, 1000)] with yld := { Yld.init with closed := [YPer.init] } }; let acc : Acc := A8; let v : Word := 0; let u : State := s.writePlain R.YLD_CTL v;
    (s.takesWrite acc R.YLD_CTL) ∧ (u = s.writePlain R.YLD_CTL v) ∧ (s.flag F.YLD_CTL_EN ∨ u.flag F.YLD_CTL_EN = false)) ∧
   (let s : State := { W { z with now := 10^10 } [(F.YLD_CTL_EN, 0), (F.YLD_CFG_SPER, 1000)] with yld := { Yld.init with closed := [YPer.init] } }; let acc : Acc := A8; let v : Word := 0xFFFFFFFF;
    (s.takesWrite acc R.YLD_SREF) ∧ (s.flag F.YLD_CTL_EN = false)) ∧
   (let s : State := { W { z with now := 10^10 } [(F.YLD_CTL_EN, 1), (F.YLD_CFG_SPER, 1000)] with yld := { Yld.init with closed := [YPer.init] } }; let acc : Acc := A8; let v : Word := 0xFFFFFFFF;
    (s.takesWrite acc R.YLD_SREF) ∧ (s.flag F.YLD_CTL_EN)) ∧
   (let s : State := W z [(F.YLD_POOLHEAD_IDX, 4)]; let acc : Acc := A8; let v : Word := 5;
    (s.takesWrite acc R.YLD_POOLTAIL)) :=
  by and_intros <;> decide +kernel

/-- Every clause of CameraCommandsComplete has a state and operands that meet its hypotheses. -/
theorem witness_CameraCommandsComplete :
   (let s : State := W z [(F.IMG_CTL_EN, 1), (F.IMG_CAMCFG_EN 7, 1), (F.IMG_CAMSTAT_LINK_UP 7, 1), (F.IMG_CAMSIZE_W 7, 4), (F.IMG_CAMSIZE_H 7, 3), (F.IMG_CAMCFG_DT 7, 0), (F.IMG_CAMCFG_GEAR 7, 1), (F.IMG_CAMCFG_MODE 7, 1), (F.IMG_RAWCFG_RAWN 7, 2), (F.IMG_CAMSTAT_LINK_UP 7, 0)]; let c : Fin 8 := 7; let cut : FrameCut := ⟨0, true, false⟩;
    (s.flag (F.IMG_CAMSTAT_LINK_UP c) = false) ∧ (s.camOn c) ∧ (s.fld (F.IMG_CAMCFG_GEAR c) ≠ 3)) ∧
   (let s : State := ({ W { z with now := 10^10 } [(F.IMG_CTL_EN, 1), (F.IMG_CAMCFG_EN 7, 1), (F.IMG_CAMSTAT_LINK_UP 7, 1), (F.IMG_CAMSIZE_W 7, 4), (F.IMG_CAMSIZE_H 7, 3), (F.IMG_CAMCFG_DT 7, 0), (F.IMG_CAMCFG_GEAR 7, 1), (F.IMG_CAMCFG_MODE 7, 1), (F.IMG_RAWCFG_RAWN 7, 2)] with img := Img.init }).setCam 7 { Cam.init with opened := some { fnum := 9, fsAt := 5, feAt := 6, expo := ⟨3, 4, 5, 6⟩, gain := ⟨2, 4, 5, 6⟩, ptag := 0, lines := 10, flags := 0, stripes := 0, pipe := none } }; let c : Fin 8 := 7; let cut : FrameCut := ⟨1, true, false⟩;
    (s.flag (F.IMG_CAMSTAT_LINK_UP c))) ∧
   (let s : State := ({ W { z with now := 10^10 } [(F.IMG_CTL_EN, 1), (F.IMG_CAMCFG_EN 7, 1), (F.IMG_CAMSTAT_LINK_UP 7, 1), (F.IMG_CAMSIZE_W 7, 4), (F.IMG_CAMSIZE_H 7, 3), (F.IMG_CAMCFG_DT 7, 0), (F.IMG_CAMCFG_GEAR 7, 1), (F.IMG_CAMCFG_MODE 7, 1), (F.IMG_RAWCFG_RAWN 7, 2)] with img := Img.init }).setCam 7 { Cam.init with raw := [{ fnum := 9, fsAt := 5, feAt := 6, expo := ⟨3, 4, 5, 6⟩, gain := ⟨2, 4, 5, 6⟩, ptag := 0, lines := 10, flags := 0, stripes := 0, pipe := none }] }; let c : Fin 8 := 7; let cut : FrameCut := ⟨1, true, false⟩; let u : State := (s.frameClose 7 cut false false).groupEnds 7; let x : Cam := (u.cam 7).ledgerFs s.now (s.fld (F.IMG_PRF0_EDLY 7)) (s.fld (F.IMG_PRF0_GDLY 7)); let n : Nat := ((u.ageDrops 7).cam 7).raw.length;
    (s.camCaptures c) ∧ (u = (s.frameClose c cut false false).groupEnds c) ∧ (x = (u.cam c).ledgerFs s.now (s.fld (F.IMG_PRF0_EDLY c)) (s.fld (F.IMG_PRF0_GDLY c))) ∧ (n = ((u.ageDrops c).cam c).raw.length) ∧ (s.camByCtx c = false ∨ n < s.fld (F.IMG_RAWCFG_RAWN c))) ∧
   (let s : State := ({ W { z with now := 10^10 } [(F.IMG_CTL_EN, 1), (F.IMG_CAMCFG_EN 7, 1), (F.IMG_CAMSTAT_LINK_UP 7, 1), (F.IMG_CAMSIZE_W 7, 4), (F.IMG_CAMSIZE_H 7, 3), (F.IMG_CAMCFG_DT 7, 0), (F.IMG_CAMCFG_GEAR 7, 1), (F.IMG_CAMCFG_MODE 7, 1), (F.IMG_RAWCFG_RAWN 7, 2), (F.IMG_SCHED_MAXAGE, 0)] with img := Img.init }).setCam 7 { Cam.init with opened := some { fnum := 9, fsAt := 5, feAt := 6, expo := ⟨3, 4, 5, 6⟩, gain := ⟨2, 4, 5, 6⟩, ptag := 0, lines := 10, flags := 0, stripes := 0, pipe := none }, raw := [{ fnum := 9, fsAt := 5, feAt := 6, expo := ⟨3, 4, 5, 6⟩, gain := ⟨2, 4, 5, 6⟩, ptag := 0, lines := 10, flags := 0, stripes := 0, pipe := none }] }; let c : Fin 8 := 7; let cut : FrameCut := ⟨1, true, false⟩; let u : State := (s.frameClose 7 cut false false).groupEnds 7; let x : Cam := (u.cam 7).ledgerFs s.now (s.fld (F.IMG_PRF0_EDLY 7)) (s.fld (F.IMG_PRF0_GDLY 7)); let n : Nat := ((u.ageDrops 7).cam 7).raw.length;
    (s.camCaptures c) ∧ (u = (s.frameClose c cut false false).groupEnds c) ∧ (x = (u.cam c).ledgerFs s.now (s.fld (F.IMG_PRF0_EDLY c)) (s.fld (F.IMG_PRF0_GDLY c))) ∧ (n = ((u.ageDrops c).cam c).raw.length) ∧ (s.camByCtx c) ∧ (s.fld (F.IMG_RAWCFG_RAWN c) ≤ n)) ∧
   (let s : State := ({ W { z with now := 10^10 } [(F.IMG_CTL_EN, 1), (F.IMG_CAMCFG_EN 7, 1), (F.IMG_CAMSTAT_LINK_UP 7, 1), (F.IMG_CAMSIZE_W 7, 4), (F.IMG_CAMSIZE_H 7, 3), (F.IMG_CAMCFG_DT 7, 0), (F.IMG_CAMCFG_GEAR 7, 1), (F.IMG_CAMCFG_MODE 7, 1), (F.IMG_RAWCFG_RAWN 7, 2)] with img := Img.init }).setCam 7 { Cam.init with opened := some { fnum := 9, fsAt := 5, feAt := 6, expo := ⟨3, 4, 5, 6⟩, gain := ⟨2, 4, 5, 6⟩, ptag := 0, lines := 10, flags := 0, stripes := 0, pipe := none }, raw := [{ fnum := 9, fsAt := 5, feAt := 6, expo := ⟨3, 4, 5, 6⟩, gain := ⟨2, 4, 5, 6⟩, ptag := 0, lines := 10, flags := 0, stripes := 0, pipe := none }] }; let c : Fin 8 := 7; let cut : FrameCut := ⟨2, true, false⟩; let f : CamFrm := { fnum := 9, fsAt := 5, feAt := 6, expo := ⟨3, 4, 5, 6⟩, gain := ⟨2, 4, 5, 6⟩, ptag := 0, lines := 10, flags := 0, stripes := 0, pipe := none };
    ((s.cam c).opened = some f)) ∧
   (let s : State := ({ W { z with now := 10^10 } [(F.IMG_CTL_EN, 1), (F.IMG_CAMCFG_EN 7, 1), (F.IMG_CAMSTAT_LINK_UP 7, 1), (F.IMG_CAMSIZE_W 7, 4), (F.IMG_CAMSIZE_H 7, 3), (F.IMG_CAMCFG_DT 7, 0), (F.IMG_CAMCFG_GEAR 7, 1), (F.IMG_CAMCFG_MODE 7, 1), (F.IMG_RAWCFG_RAWN 7, 2)] with img := Img.init }).setCam 7 { Cam.init with cci := false }; let acc : Acc := A8; let c : Fin 8 := 7; let v : Word := 0x7FFFFFFF; let ack : Bool := true; let b : BitVec 8 := 0;
    (s.takesWrite acc (R.IMG_CCICMD c)) ∧ (v.toNat < 2 ^ 31)) ∧
   (let s : State := ({ W { z with now := 10^10 } [(F.IMG_CTL_EN, 1), (F.IMG_CAMCFG_EN 7, 1), (F.IMG_CAMSTAT_LINK_UP 7, 1), (F.IMG_CAMSIZE_W 7, 4), (F.IMG_CAMSIZE_H 7, 3), (F.IMG_CAMCFG_DT 7, 0), (F.IMG_CAMCFG_GEAR 7, 1), (F.IMG_CAMCFG_MODE 7, 1), (F.IMG_RAWCFG_RAWN 7, 2), (F.IMG_CCICMD_BUSY 7, 0)] with img := Img.init }).setCam 7 { Cam.init with cci := false }; let acc : Acc := A8; let c : Fin 8 := 7; let v : Word := 0xFFFFFFFF; let ack : Bool := true; let b : BitVec 8 := 0;
    (s.takesWrite acc (R.IMG_CCICMD c)) ∧ (2 ^ 31 ≤ v.toNat) ∧ (s.flag (F.IMG_CCICMD_BUSY c) = false)) ∧
   (let s : State := ({ W { z with now := 10^10 } [(F.IMG_CTL_EN, 1), (F.IMG_CAMCFG_EN 7, 1), (F.IMG_CAMSTAT_LINK_UP 7, 1), (F.IMG_CAMSIZE_W 7, 4), (F.IMG_CAMSIZE_H 7, 3), (F.IMG_CAMCFG_DT 7, 0), (F.IMG_CAMCFG_GEAR 7, 1), (F.IMG_CAMCFG_MODE 7, 1), (F.IMG_RAWCFG_RAWN 7, 2), (F.IMG_CCICMD_BUSY 7, 1)] with img := Img.init }).setCam 7 { Cam.init with cci := true }; let acc : Acc := A8; let c : Fin 8 := 7; let v : Word := 0xFFFFFFFF; let ack : Bool := true; let b : BitVec 8 := 0;
    (s.takesWrite acc (R.IMG_CCICMD c)) ∧ (2 ^ 31 ≤ v.toNat) ∧ (s.flag (F.IMG_CCICMD_BUSY c))) ∧
   (let s : State := ({ W { z with now := 10^10 } [(F.IMG_CTL_EN, 1), (F.IMG_CAMCFG_EN 7, 1), (F.IMG_CAMSTAT_LINK_UP 7, 1), (F.IMG_CAMSIZE_W 7, 4), (F.IMG_CAMSIZE_H 7, 3), (F.IMG_CAMCFG_DT 7, 0), (F.IMG_CAMCFG_GEAR 7, 1), (F.IMG_CAMCFG_MODE 7, 1), (F.IMG_RAWCFG_RAWN 7, 2), (F.IMG_CCICMD_BUSY 7, 1)] with img := Img.init }).setCam 7 { Cam.init with cci := true }; let acc : Acc := A8; let c : Fin 8 := 7; let ack : Bool := false; let b : BitVec 8 := 0xFF;
    ((s.cam c).cci) ∧ (((s.groupEnds c).cam c).group = none)) ∧
   (let s : State := ({ W { z with now := 10^10 } [(F.IMG_CTL_EN, 1), (F.IMG_CAMCFG_EN 7, 1), (F.IMG_CAMSTAT_LINK_UP 7, 1), (F.IMG_CAMSIZE_W 7, 4), (F.IMG_CAMSIZE_H 7, 3), (F.IMG_CAMCFG_DT 7, 0), (F.IMG_CAMCFG_GEAR 7, 1), (F.IMG_CAMCFG_MODE 7, 1), (F.IMG_RAWCFG_RAWN 7, 2), (F.IMG_PSET0_TAG 7, 5)] with img := Img.init }).setCam 7 { Cam.init with submitted := some ⟨1, 2, 3, 4⟩, fs := [10^10, 9 * 10^9] }; let acc : Acc := A8; let c : Fin 8 := 7; let v : Word := 1; let u : State := s.groupEnds 7; let p : ParamSet := ⟨s.fld (F.IMG_PSET0_TAG 7), s.fld (F.IMG_PSET1_EXP 7), s.fld (F.IMG_PSET0_AGAIN 7), s.fld (F.IMG_PSET1_DGAIN 7)⟩;
    (s.takesWrite acc (R.IMG_PSETGO c)) ∧ (v.toNat % 2 = 1) ∧ (u = s.groupEnds c) ∧ (p = ⟨s.fld (F.IMG_PSET0_TAG c), s.fld (F.IMG_PSET1_EXP c), s.fld (F.IMG_PSET0_AGAIN c), s.fld (F.IMG_PSET1_DGAIN c)⟩)) :=
  by and_intros <;> first | with_reducible rfl | decide +kernel | rfl

/-- The further clauses of CameraCommandsComplete. -/
theorem witness_CameraCommandsComplete_2 :
   (let s : State := ({ W { z with now := 10^10 } [(F.IMG_CTL_EN, 1), (F.IMG_CAMCFG_EN 7, 1), (F.IMG_CAMSTAT_LINK_UP 7, 1), (F.IMG_CAMSIZE_W 7, 4), (F.IMG_CAMSIZE_H 7, 3), (F.IMG_CAMCFG_DT 7, 0), (F.IMG_CAMCFG_GEAR 7, 1), (F.IMG_CAMCFG_MODE 7, 1), (F.IMG_RAWCFG_RAWN 7, 2)] with img := Img.init }).setCam 7 { Cam.init with group := some (⟨1, 2, 3, 4⟩, 5) }; let c : Fin 8 := 7; let p : ParamSet := ⟨1, 2, 3, 4⟩; let t0 : Nat := 5;
    ((s.cam c).group = some (p, t0)) ∧ (t0 ≤ s.now)) :=
  by and_intros <;> first | with_reducible rfl | decide +kernel

/-- Every clause of PipelineCommandsComplete has a state and operands that meet its hypotheses. -/
theorem witness_PipelineCommandsComplete :
   (let s : State := ({ W { z with now := 10^10 } [(F.IMG_CTL_EN, 1), (F.IMG_CAMCFG_EN 7, 1), (F.IMG_CAMSTAT_LINK_UP 7, 1), (F.IMG_CAMSIZE_W 7, 4), (F.IMG_CAMSIZE_H 7, 3), (F.IMG_CAMCFG_DT 7, 0), (F.IMG_CAMCFG_GEAR 7, 1), (F.IMG_CAMCFG_MODE 7, 1), (F.IMG_RAWCFG_RAWN 7, 2), (F.IMG_SCHED_MAXAGE, 0), (F.IMG_CAMCFG_EN 0, 0), (F.IMG_CAMCFG_EN 1, 0), (F.IMG_CAMCFG_EN 2, 0), (F.IMG_CAMCFG_EN 3, 0), (F.IMG_CAMCFG_EN 4, 0), (F.IMG_CAMCFG_EN 5, 0), (F.IMG_CAMCFG_EN 6, 0)] with img := Img.init }).setCam 7 { Cam.init with raw := [{ fnum := 9, fsAt := 5, feAt := 6, expo := ⟨3, 4, 5, 6⟩, gain := ⟨2, 4, 5, 6⟩, ptag := 0, lines := 10, flags := 0, stripes := 0, pipe := none }] }; let p : Fin 4 := 3; let c : Nat := 7; let f : CamFrm := { fnum := 9, fsAt := 5, feAt := 6, expo := ⟨3, 4, 5, 6⟩, gain := ⟨2, 4, 5, 6⟩, ptag := 0, lines := 10, flags := 0, stripes := 0, pipe := none }; let u : State := s.setDown 3;
    (s.flag F.IMG_CTL_EN) ∧ (s.streamCam p = none) ∧ (u = s.setDown p) ∧ ((u.pipe p).cam = none) ∧ (u.served = some (c, f))) ∧
   (let s : State := ({ W { z with now := 10^10 } [(F.IMG_CTL_EN, 1), (F.IMG_CAMCFG_EN 7, 1), (F.IMG_CAMSTAT_LINK_UP 7, 1), (F.IMG_CAMSIZE_W 7, 4), (F.IMG_CAMSIZE_H 7, 3), (F.IMG_CAMCFG_DT 7, 0), (F.IMG_CAMCFG_GEAR 7, 1), (F.IMG_CAMCFG_MODE 7, 1), (F.IMG_RAWCFG_RAWN 7, 2), (F.IMG_SCHED_MAXAGE, 1)] with img := Img.init }).setCam 7 { Cam.init with raw := [{ fnum := 9, fsAt := 5, feAt := 6, expo := ⟨3, 4, 5, 6⟩, gain := ⟨2, 4, 5, 6⟩, ptag := 0, lines := 10, flags := 0, stripes := 0, pipe := none }] }; let c : Fin 8 := 7; let f : CamFrm := { fnum := 9, fsAt := 5, feAt := 6, expo := ⟨3, 4, 5, 6⟩, gain := ⟨2, 4, 5, 6⟩, ptag := 0, lines := 10, flags := 0, stripes := 0, pipe := none };
    (s.camByCtx c) ∧ ((s.cam c).raw.find? s.rawOld = some f)) ∧
   (let s : State := ({ W { z with now := 10^10 } [(F.IMG_CTL_EN, 1), (F.IMG_CAMCFG_EN 7, 1), (F.IMG_CAMSTAT_LINK_UP 7, 1), (F.IMG_CAMSIZE_W 7, 4), (F.IMG_CAMSIZE_H 7, 3), (F.IMG_CAMCFG_DT 7, 0), (F.IMG_CAMCFG_GEAR 7, 1), (F.IMG_CAMCFG_MODE 7, 1), (F.IMG_RAWCFG_RAWN 7, 2)] with img := Img.init }).setCam 7 { Cam.init with raw := [] }; let acc : Acc := A8; let x : Fin 16 := 15; let v : Word := 0x80000005;
    (s.takesWrite acc (R.IMG_CTXAPPLY x))) ∧
   (let s : State := (({ W { z with now := 10^10 } [(F.IMG_CTL_EN, 1), (F.IMG_CAMCFG_EN 7, 1), (F.IMG_CAMSTAT_LINK_UP 7, 1), (F.IMG_CAMSIZE_W 7, 4), (F.IMG_CAMSIZE_H 7, 3), (F.IMG_CAMCFG_DT 7, 0), (F.IMG_CAMCFG_GEAR 7, 1), (F.IMG_CAMCFG_MODE 7, 1), (F.IMG_RAWCFG_RAWN 7, 2), (F.IMG_CAMCFG_EN 0, 0), (F.IMG_CAMCFG_EN 1, 0), (F.IMG_CAMCFG_EN 2, 0), (F.IMG_CAMCFG_EN 3, 0), (F.IMG_CAMCFG_EN 4, 0), (F.IMG_CAMCFG_EN 5, 0), (F.IMG_CAMCFG_EN 6, 0), (F.IMG_CAMCFG_CTX 7, 15), (F.IMG_CTXCFG_OUT 15, 0), (F.IMG_CTXCFG_STRIPE 15, 0)] with img := Img.init }).setCam 7 { Cam.init with raw := [{ fnum := 9, fsAt := 5, feAt := 6, expo := ⟨3, 4, 5, 6⟩, gain := ⟨2, 4, 5, 6⟩, ptag := 0, lines := 10, flags := 0, stripes := 1, pipe := some 3 }] }).setPipe 3 ⟨some 7, some 15, 5⟩; let p : Fin 4 := 3; let raw : List (BitVec 12) := []; let px : List Rgb12 := []; let wb : List Rgb12 := []; let c : Nat := 7; let f : CamFrm := { fnum := 9, fsAt := 5, feAt := 6, expo := ⟨3, 4, 5, 6⟩, gain := ⟨2, 4, 5, 6⟩, ptag := 0, lines := 10, flags := 0, stripes := 1, pipe := some 3 };
    (s.finishing p = some (c, f))) ∧
   (let s : State := (W { z with now := 10^10 } []).setEnc 3 { Enc.init with queue := [(5, 6, 7, 8)], seen := [10, 5] }; let k : Fin 4 := 3; let size : BitVec 24 := 8; let t0 : Nat := 5; let inst : Nat := 6; let etag : Nat := 7; let ptag : Nat := 8; let rest : List (Nat × Nat × Nat × Nat) := []; let late : Bool := true;
    ((s.enc k).part = none) ∧ ((s.enc k).queue = (t0, inst, etag, ptag) :: rest) ∧ (late = (match (s.enc k).seen with | a :: b :: _ => decide (t0 + (a - b) < s.now) | _ => false)) ∧ (late)) ∧
   (let s : State := (W { z with now := 10^10 } []).setEnc 3 { Enc.init with queue := [(5, 6, 7, 8)], seen := [] }; let k : Fin 4 := 3; let size : BitVec 24 := 8; let t0 : Nat := 5; let inst : Nat := 6; let etag : Nat := 7; let ptag : Nat := 8; let rest : List (Nat × Nat × Nat × Nat) := []; let late : Bool := false;
    ((s.enc k).part = none) ∧ ((s.enc k).queue = (t0, inst, etag, ptag) :: rest) ∧ (late = (match (s.enc k).seen with | a :: b :: _ => decide (t0 + (a - b) < s.now) | _ => false)) ∧ (late = false)) ∧
   (let s : State := (W { z with now := 10^10 } []).setEnc 3 { Enc.init with idr := false }; let acc : Acc := A8; let k : Fin 4 := 3; let v : Word := 1;
    (s.takesWrite acc (R.IMG_ENCIDR k)) ∧ (v.toNat % 2 = 1)) :=
  by and_intros <;> decide +kernel

/-- Every clause of PanelCommandsComplete has a state and operands that meet its hypotheses. -/
theorem witness_PanelCommandsComplete :
   (let s : State := (W { z with now := 10^10 } [(F.DSP_CTL_EN, 1), (F.DSP_PCFG_PWR 1, 0), (F.DSP_PSTAT_STATE 1, 4)]).setPanel 1 { Panel.init with k := 1 }; let acc : Acc := A8; let p : Fin 2 := 1; let v : Word := 0; let w : Word := (F.DSP_PCFG_PWR 1).put v 1; let u : State := s.writePlain (R.DSP_PCFG 1) w;
    (s.takesWrite acc (R.DSP_PCFG p)) ∧ (w = (F.DSP_PCFG_PWR p).put v 1) ∧ (u = s.writePlain (R.DSP_PCFG p) w) ∧ (s.panelState p ≠ 5) ∧ (s.panelState p ≠ 6) ∧ (s.flag (F.DSP_PCFG_PWR p) ∨ s.flag F.DSP_CTL_EN = false ∨ s.panelState p ≠ 0)) ∧
   (let s : State := (W { z with now := 10^10 } [(F.DSP_CTL_EN, 1), (F.DSP_PCFG_PWR 1, 0), (F.DSP_PSTAT_STATE 1, 0), (F.DSP_HTIM_HTOT 1, 800), (F.DSP_HTIM_HACT 1, 640), (F.DSP_VTIM_VTOT 1, 525), (F.DSP_VTIM_VACT 1, 480), (F.DSP_SYNC_HSW 1, 96), (F.DSP_PORCH_HBP 1, 48), (F.DSP_SYNC_VSW 1, 2), (F.DSP_PORCH_VBP 1, 33), (F.DSP_PCLK_PCLK 1, 25000), (F.DSP_SEQT1_NBLACK 1, 1), (F.DSP_RAIL_AVDD 1, 100), (F.DSP_RAIL_VGH 1, 100), (F.DSP_RAIL1_VGL 1, 100), (F.DSP_VCOM_VCOM 1 0, 100)]).setPanel 1 { Panel.init with k := 1 }; let acc : Acc := A8; let p : Fin 2 := 1; let v : Word := 0; let w : Word := (F.DSP_PCFG_PWR 1).put v 1; let u : State := s.writePlain (R.DSP_PCFG 1) w;
    (s.takesWrite acc (R.DSP_PCFG p)) ∧ (w = (F.DSP_PCFG_PWR p).put v 1) ∧ (u = s.writePlain (R.DSP_PCFG p) w) ∧ (s.flag (F.DSP_PCFG_PWR p) = false) ∧ (s.flag F.DSP_CTL_EN) ∧ (s.panelState p = 0) ∧ (u.panelOk p)) ∧
   (let s : State := (W { z with now := 10^10 } [(F.DSP_CTL_EN, 1), (F.DSP_PCFG_PWR 1, 0), (F.DSP_PSTAT_STATE 1, 0), (F.DSP_HTIM_HTOT 1, 800), (F.DSP_HTIM_HACT 1, 640), (F.DSP_VTIM_VTOT 1, 525), (F.DSP_VTIM_VACT 1, 480), (F.DSP_SYNC_HSW 1, 96), (F.DSP_PORCH_HBP 1, 48), (F.DSP_SYNC_VSW 1, 2), (F.DSP_PORCH_VBP 1, 33), (F.DSP_PCLK_PCLK 1, 25000), (F.DSP_SEQT1_NBLACK 1, 1), (F.DSP_RAIL_AVDD 1, 100), (F.DSP_RAIL_VGH 1, 100), (F.DSP_RAIL1_VGL 1, 100), (F.DSP_VCOM_VCOM 1 0, 100), (F.DSP_PCLK_PCLK 1, 24999)]).setPanel 1 { Panel.init with k := 1 }; let acc : Acc := A8; let p : Fin 2 := 1; let v : Word := 0; let w : Word := (F.DSP_PCFG_PWR 1).put v 1; let u : State := s.writePlain (R.DSP_PCFG 1) w;
    (s.takesWrite acc (R.DSP_PCFG p)) ∧ (w = (F.DSP_PCFG_PWR p).put v 1) ∧ (u = s.writePlain (R.DSP_PCFG p) w) ∧ (s.flag (F.DSP_PCFG_PWR p) = false) ∧ (s.flag F.DSP_CTL_EN) ∧ (s.panelState p = 0) ∧ (u.panelOk p = false)) ∧
   (let s : State := (W { z with now := 10^10 } [(F.DSP_CTL_EN, 1), (F.DSP_PCFG_PWR 1, 0), (F.DSP_PSTAT_STATE 1, 5)]).setPanel 1 { Panel.init with k := 1 }; let acc : Acc := A8; let p : Fin 2 := 1; let v : Word := 0; let w : Word := (F.DSP_PCFG_PWR 1).put v 1; let u : State := s.writePlain (R.DSP_PCFG 1) w;
    (s.takesWrite acc (R.DSP_PCFG p)) ∧ (w = (F.DSP_PCFG_PWR p).put v 1) ∧ (u = s.writePlain (R.DSP_PCFG p) w) ∧ (s.panelState p = 5)) ∧
   (let s : State := (W { z with now := 10^10 } [(F.DSP_CTL_EN, 1), (F.DSP_PCFG_PWR 1, 0), (F.DSP_PSTAT_STATE 1, 6)]).setPanel 1 { Panel.init with k := 1 }; let acc : Acc := A8; let p : Fin 2 := 1; let v : Word := 0; let w : Word := (F.DSP_PCFG_PWR 1).put v 1; let u : State := s.writePlain (R.DSP_PCFG 1) w;
    (s.takesWrite acc (R.DSP_PCFG p)) ∧ (w = (F.DSP_PCFG_PWR p).put v 1) ∧ (u = s.writePlain (R.DSP_PCFG p) w) ∧ (s.panelState p = 6)) ∧
   (let s : State := (W { z with now := 10^10 } [(F.DSP_CTL_EN, 1), (F.DSP_PCFG_PWR 1, 1), (F.DSP_PSTAT_STATE 1, 0)]).setPanel 1 { Panel.init with k := 1 }; let acc : Acc := A8; let p : Fin 2 := 1; let v : Word := 0; let w : Word := (F.DSP_PCFG_PWR 1).put v 0;
    (s.takesWrite acc (R.DSP_PCFG p)) ∧ (w = (F.DSP_PCFG_PWR p).put v 0) ∧ (s.panelState p = 0)) ∧
   (let s : State := (W { z with now := 10^10 } [(F.DSP_CTL_EN, 1), (F.DSP_PCFG_PWR 1, 0), (F.DSP_PSTAT_STATE 1, 4)]).setPanel 1 { Panel.init with rails := 4 }; let acc : Acc := A8; let p : Fin 2 := 1; let v : Word := 0; let w : Word := (F.DSP_PCFG_PWR 1).put v 0;
    (s.takesWrite acc (R.DSP_PCFG p)) ∧ (w = (F.DSP_PCFG_PWR p).put v 0) ∧ (s.flag (F.DSP_PCFG_PWR p) = false ∨ s.flag F.DSP_CTL_EN = false) ∧ (s.panelState p ≤ 4)) ∧
   (let s : State := (W { z with now := 10^10 } [(F.DSP_CTL_EN, 1), (F.DSP_PCFG_PWR 1, 1), (F.DSP_PSTAT_STATE 1, 2)]).setPanel 1 { Panel.init with rails := 4 }; let acc : Acc := A8; let p : Fin 2 := 1; let v : Word := 0; let w : Word := (F.DSP_PCFG_PWR 1).put v 0;
    (s.takesWrite acc (R.DSP_PCFG p)) ∧ (w = (F.DSP_PCFG_PWR p).put v 0) ∧ (s.flag (F.DSP_PCFG_PWR p)) ∧ (s.flag F.DSP_CTL_EN) ∧ (s.panelState p = 1 ∨ s.panelState p = 2)) ∧
   (let s : State := (W { z with now := 10^10 } [(F.DSP_CTL_EN, 1), (F.DSP_PCFG_PWR 1, 1), (F.DSP_PSTAT_STATE 1, 4)]).setPanel 1 { Panel.init with rails := 4, cur := some ⟨3, 0, 0, 64⟩ }; let acc : Acc := A8; let p : Fin 2 := 1; let v : Word := 0; let w : Word := (F.DSP_PCFG_PWR 1).put v 0;
    (s.takesWrite acc (R.DSP_PCFG p)) ∧ (w = (F.DSP_PCFG_PWR p).put v 0) ∧ (s.flag (F.DSP_PCFG_PWR p)) ∧ (s.flag F.DSP_CTL_EN) ∧ (s.panelState p = 3 ∨ s.panelState p = 4)) ∧
   (let s : State := (W { z with now := 10^10 } [(F.DSP_CTL_EN, 1), (F.DSP_PCFG_PWR 1, 1), (F.DSP_PSTAT_STATE 1, 5)]).setPanel 1 { Panel.init with again := true }; let acc : Acc := A8; let p : Fin 2 := 1; let v : Word := 0; let w : Word := (F.DSP_PCFG_PWR 1).put v 0;
    (s.takesWrite acc (R.DSP_PCFG p)) ∧ (w = (F.DSP_PCFG_PWR p).put v 0) ∧ (s.panelState p = 5)) :=
  by and_intros <;> decide +kernel

/-- The further clauses of PanelCommandsComplete. -/
theorem witness_PanelCommandsComplete_2 :
   (let s : State := (W { z with now := 10^10 } [(F.DSP_CTL_EN, 1), (F.DSP_PCFG_PWR 1, 1), (F.DSP_PSTAT_STATE 1, 6)]).setPanel 1 { Panel.init with k := 1 }; let acc : Acc := A8; let p : Fin 2 := 1; let v : Word := 0; let w : Word := (F.DSP_PCFG_PWR 1).put v 0;
    (s.takesWrite acc (R.DSP_PCFG p)) ∧ (w = (F.DSP_PCFG_PWR p).put v 0) ∧ (s.panelState p = 6)) ∧
   (let s : State := (W { z with now := 10^10 } [(F.DSP_CTL_EN, 1), (F.DSP_PCFG_PWR 1, 1), (F.DSP_PSTAT_STATE 1, 1)]).setPanel 1 { Panel.init with rails := 2, swAt := 10^10 - 20000000 }; let p : Fin 2 := 1; let x : Panel := s.panel 1;
    (x = s.panel p) ∧ (s.panelState p = 1) ∧ (x.settled = none) ∧ (s.now ≤ x.swAt + 20000000)) ∧
   (let s : State := (W { z with now := 10^10 } [(F.DSP_CTL_EN, 1), (F.DSP_PCFG_PWR 1, 1), (F.DSP_PSTAT_STATE 1, 1)]).setPanel 1 { Panel.init with rails := 4, settled := some 5 }; let p : Fin 2 := 1; let x : Panel := s.panel 1; let rail : Bool := false; let t0 : Nat := 5;
    (x = s.panel p) ∧ (s.panelState p = 1) ∧ (x.settled = some t0) ∧ (t0 + x.delay x.rails ≤ s.now)) ∧
   (let s : State := (W { z with now := 10^10 } [(F.DSP_CTL_EN, 1), (F.DSP_PCFG_PWR 1, 1), (F.DSP_PSTAT_STATE 1, 3)]).setPanel 1 { Panel.init with t0 := 5 }; let p : Fin 2 := 1; let x : Panel := s.panel 1; let rail : Bool := false;
    (x = s.panel p) ∧ (s.panelState p = 3) ∧ (x.t0 + x.cf 8 19 16 * x.period + 1000000 * x.cf 8 7 0 ≤ s.now)) ∧
   (let s : State := (W { z with now := 10^10 } [(F.DSP_CTL_EN, 1), (F.DSP_PCFG_PWR 1, 1), (F.DSP_PSTAT_STATE 1, 5)]).setPanel 1 { Panel.init with black := some 5, rails := 4 }; let p : Fin 2 := 1; let x : Panel := s.panel 1; let rail : Bool := false; let t0 : Nat := 5;
    (x = s.panel p) ∧ (s.panelState p = 5) ∧ (x.black = some t0) ∧ (t0 + x.period ≤ s.now)) ∧
   (let s : State := (W { z with now := 10^10 } [(F.DSP_CTL_EN, 1), (F.DSP_PCFG_PWR 1, 1), (F.DSP_PSTAT_STATE 1, 5)]).setPanel 1 { Panel.init with rails := 3, swAt := 5 }; let p : Fin 2 := 1; let x : Panel := s.panel 1; let rail : Bool := false;
    (x = s.panel p) ∧ (s.panelState p = 5) ∧ (x.black = none) ∧ (x.settled = none) ∧ (rail ∨ x.swAt + 50000000 ≤ s.now)) ∧
   (let s : State := (W { z with now := 10^10 } [(F.DSP_CTL_EN, 1), (F.DSP_PCFG_PWR 1, 1), (F.DSP_PSTAT_STATE 1, 5)]).setPanel 1 { Panel.init with rails := 0, settled := some 5 }; let p : Fin 2 := 1; let x : Panel := s.panel 1; let rail : Bool := false; let t0 : Nat := 5;
    (x = s.panel p) ∧ (s.panelState p = 5) ∧ (x.black = none) ∧ (x.settled = some t0) ∧ (t0 + x.delay (x.rails + 1) ≤ s.now)) ∧
   (let s : State := (W { z with now := 10^10 } [(F.DSP_CTL_EN, 1), (F.DSP_PCFG_PWR 1, 1), (F.DSP_PSTAT_STATE 1, 2)]).setPanel 1 { Panel.init with rails := 4 }; let p : Fin 2 := 1;
    (s.panelState p = 2)) ∧
   (let s : State := (W { z with now := 10^10 } [(F.DSP_CTL_EN, 1), (F.DSP_PCFG_PWR 1, 1), (F.DSP_PSTAT_STATE 1, 2)]).setPanel 1 { Panel.init with rails := 4 }; let p : Fin 2 := 1;
    (s.panelState p = 2)) ∧
   (let s : State := (W { z with now := 10^10 } [(F.DSP_CTL_EN, 1), (F.DSP_PCFG_PWR 1, 1), (F.DSP_PSTAT_STATE 1, 4)]).setPanel 1 { Panel.init with rails := 4, cur := some ⟨3, 0, 0, 64⟩ }; let p : Fin 2 := 1;
    (s.panelState p = 4)) :=
  by and_intros <;> decide +kernel

/-- The further clauses of PanelCommandsComplete. -/
theorem witness_PanelCommandsComplete_3 :
   (let s : State := (W { z with now := 10^10 } [(F.DSP_CTL_EN, 1), (F.DSP_PCFG_PWR 1, 1), (F.DSP_PSTAT_STATE 1, 1)]).setPanel 1 { Panel.init with rails := 4, swAt := 5 }; let p : Fin 2 := 1; let x : Panel := s.panel 1; let rail : Fin 4 := 3; let us : BitVec 16 := 0;
    (x = s.panel p) ∧ (s.panelState p ≠ 0) ∧ (s.panelState p ≠ 6) ∧ (rail.val < x.rails) ∧ (x.rst = false) ∧ ((if s.panelState p = 1 ∧ rail.val + 1 = x.rails ∧ x.settled = none then x.swAt + 20000000 ≤ s.now else 100 ≤ us.toNat))) ∧
   (let s : State := (W { z with now := 10^10 } [(F.DSP_CTL_EN, 1), (F.DSP_PCFG_PWR 1, 1), (F.DSP_PSTAT_STATE 1, 6)]).setPanel 1 { Panel.init with rails := 0 }; let acc : Acc := A8; let p : Fin 2 := 1; let v : Word := 0;
    (s.takesWrite acc (R.DSP_PSTAT p)) ∧ (s.panelState p = 6) ∧ ((s.panel p).noted = false)) ∧
   (let s : State := (W { z with now := 10^10 } [(F.DSP_CTL_EN, 1), (F.DSP_PCFG_PWR 1, 1), (F.DSP_PSTAT_STATE 1, 4)]).setPanel 1 { Panel.init with rails := 4, t0 := 5 }; let p : Fin 2 := 1;
    (s.panelState p = 4) ∧ ((s.panel p).k < (s.now - (s.panel p).t0) / (s.panel p).period)) ∧
   (let s : State := (W { z with now := 10^10 } [(F.DSP_CTL_EN, 1), (F.DSP_PCFG_PWR 1, 1), (F.DSP_PSTAT_STATE 1, 4)]).setPanel 1 { Panel.init with rails := 4, cur := some ⟨3, 0, 0, 64⟩, out := [1, 2, 3, 4, 5, 6] }; let p : Fin 2 := 1; let pix : BitVec 22 := 1;
    (s.panelState p = 4) ∧ ((s.panel p).cur.isSome)) :=
  by and_intros <;> decide +kernel

/-- Every clause of CanControllerCommandsComplete has a state and operands that meet its hypotheses. -/
theorem witness_CanControllerCommandsComplete :
   (let s : State := W { z with now := 10^10 } [(F.CAN_CTL_EN 3, 0), (F.CAN_NBT_BRP 3, 1), (F.CAN_NBT_TSEG1 3, 31), (F.CAN_NBT_TSEG2 3, 8), (F.CAN_NBT_SJW 3, 8), (F.CAN_DBT_TSEG1 3, 0), (F.CAN_DBT_TSEG2 3, 0), (F.CAN_CTL_FDEN 3, 0), (F.CAN_ACCFG_EN 3, 1)]; let acc : Acc := A8; let n : Fin 12 := 3; let v : Word := 0; let w : Word := (F.CAN_CTL_EN n).put v 1; let u : State := s.writePlain (R.CAN_CTL n) w;
    (s.takesWrite acc (R.CAN_CTL n)) ∧ (w = (F.CAN_CTL_EN n).put v 1) ∧ (u = s.writePlain (R.CAN_CTL n) w) ∧ (s.flag (F.CAN_CTL_EN n) = false) ∧ (u.canOk n)) ∧
   (let s : State := W { z with now := 10^10 } [(F.CAN_CTL_EN 3, 0), (F.CAN_NBT_BRP 3, 1), (F.CAN_NBT_TSEG1 3, 31), (F.CAN_NBT_TSEG2 3, 8), (F.CAN_NBT_SJW 3, 8), (F.CAN_DBT_TSEG1 3, 0), (F.CAN_DBT_TSEG2 3, 0), (F.CAN_CTL_FDEN 3, 0), (F.CAN_NBT_BRP 3, 255)]; let acc : Acc := A8; let n : Fin 12 := 3; let v : Word := 0; let w : Word := (F.CAN_CTL_EN n).put v 1; let u : State := s.writePlain (R.CAN_CTL n) w;
    (s.takesWrite acc (R.CAN_CTL n)) ∧ (w = (F.CAN_CTL_EN n).put v 1) ∧ (u = s.writePlain (R.CAN_CTL n) w) ∧ (s.flag (F.CAN_CTL_EN n) = false) ∧ (u.canOk n = false)) ∧
   (let s : State := W { z with now := 10^10 } [(F.CAN_CTL_EN 3, 1)]; let acc : Acc := A8; let n : Fin 12 := 3; let v : Word := 0; let w : Word := (F.CAN_CTL_EN n).put v 1; let u : State := s.writePlain (R.CAN_CTL n) w;
    (s.takesWrite acc (R.CAN_CTL n)) ∧ (w = (F.CAN_CTL_EN n).put v 1) ∧ (u = s.writePlain (R.CAN_CTL n) w) ∧ (s.flag (F.CAN_CTL_EN n)) ∧ ((F.CAN_CTL_RECOVER n).get v = 0)) ∧
   (let s : State := W { z with now := 10^10 } [(F.CAN_CTL_EN 11, 1), (F.CAN_ESTAT_STATE 11, 0)]; let n : Fin 12 := 11;
    (s.flag (F.CAN_CTL_EN n)) ∧ (s.canState n = 0)) ∧
   (let s : State := ({ W { z with now := 10^10 } [(F.CAN_ESTAT_STATE 11, 2), (F.CAN_ESTAT_TEC 11, 248), (F.CAN_TXB_CTL_STATE 11 2, 2)] with net := Net.init }).setCan 11 { CanU.init with bus := some (2, ⟨5, 2, [1, 2], false⟩, []) }; let n : Fin 12 := 11; let lec : Fin 8 := 3;
    (canSends (s.canState n)) ∧ (255 < s.fld (F.CAN_ESTAT_TEC n) + 8)) ∧
   (let s : State := W { z with now := 10^10 } [(F.CAN_CTL_EN 11, 1), (F.CAN_ESTAT_STATE 11, 3)]; let acc : Acc := A8; let n : Fin 12 := 11; let v : Word := 1;
    (s.takesWrite acc (R.CAN_CTL n)) ∧ ((F.CAN_CTL_EN n).get v = s.fld (F.CAN_CTL_EN n))) ∧
   (let s : State := W { z with now := 10^10 } [(F.CAN_ESTAT_STATE 11, 4), (F.CAN_RJCFG_N 11, 5)]; let n : Fin 12 := 11;
    (s.canState n = 4)) ∧
   (let s : State := ({ W { z with now := 10^10 } [(F.CAN_ESTAT_STATE 3, 5), (F.CAN_RJCFG_N 3, 5), (F.CAN_ACCFG_EN 3, 1)] with net := Net.init }).setCan 3 { CanU.init with good := 5 }; let n : Fin 12 := 3;
    (s.canState n = 5) ∧ (s.fld (F.CAN_RJCFG_N n) ≤ (s.can n).good ∨ (s.fld (F.CAN_RJCFG_LTO n) ≠ 0 ∧ (s.can n).idleAt + 1000000 * s.fld (F.CAN_RJCFG_LTO n) ≤ s.now))) ∧
   (let s : State := ({ W { z with now := 10^10 } [(F.CAN_ESTAT_STATE 3, 1)] with net := Net.init }).setCan 3 { CanU.init with claimDue := some 5 }; let n : Fin 4 := 3; let t0 : Nat := 5;
    ((s.can n).claimDue = some t0) ∧ (t0 ≤ s.now) ∧ (canSends (s.canState n))) ∧
   (let s : State := ({ W { z with now := 10^10 } [(F.CAN_ACSTAT_STATE 3, 1)] with net := Net.init }).setCan 3 { CanU.init with claimAt := some 5 }; let n : Fin 4 := 3; let t0 : Nat := 5;
    ((s.can n).claimAt = some t0) ∧ (s.fld (F.CAN_ACSTAT_STATE n) = 1) ∧ (t0 + 250000000 ≤ s.now)) :=
  by and_intros <;> decide +kernel

/-- The further clauses of CanControllerCommandsComplete. -/
theorem witness_CanControllerCommandsComplete_2 :
   (let s : State := ({ W { z with now := 10^10 } [(F.CAN_ACSTAT_STATE 3, 2)] with net := Net.init }).setCan 3 { CanU.init with tps := [{ src := 77, etp := false, bam := false, pgn := 0x1234, prio := 6, size := 20, next := 1, last := 3, off := some 0, data := [], ring := 2, didx := 0, addr := 0x20002000, due := 5 }] }; let n : Fin 4 := 3; let x : TpS := { src := 77, etp := false, bam := false, pgn := 0x1234, prio := 6, size := 20, next := 1, last := 3, off := some 0, data := [], ring := 2, didx := 0, addr := 0x20002000, due := 5 };
    ((s.can n).tps.find? (fun y => y.due ≤ s.now) = some x)) :=
  by decide +kernel

/-- Every clause of CanFrameCommandsComplete has a state and operands that meet its hypotheses. -/
theorem witness_CanFrameCommandsComplete :
   (let s : State := W z [(F.CAN_TXB_CTL_STATE 11 2, 0), (F.CAN_ESTAT_STATE 11, 1)]; let acc : Acc := A8; let n : Fin 12 := 11; let b : Fin 3 := 2; let v : Word := 0x10F;
    (s.takesWrite acc (R.CAN_TXB_CTL n b)) ∧ (s.fld (F.CAN_TXB_CTL_STATE n b) = 0) ∧ (s.canState n < 3) ∧ (s.claimBars n (s.fld (F.CAN_TXB_ID_ID n b)) = false)) ∧
   (let s : State := W z [(F.CAN_TXB_CTL_STATE 11 2, 0), (F.CAN_ESTAT_STATE 11, 3)]; let acc : Acc := A8; let n : Fin 12 := 11; let b : Fin 3 := 2; let v : Word := 0x10F;
    (s.takesWrite acc (R.CAN_TXB_CTL n b)) ∧ (s.fld (F.CAN_TXB_CTL_STATE n b) = 0) ∧ (3 ≤ s.canState n)) ∧
   (let s : State := W z [(F.CAN_TXB_CTL_STATE 11 2, 2), (F.CAN_ESTAT_STATE 11, 1)]; let acc : Acc := A8; let n : Fin 12 := 11; let b : Fin 3 := 2; let v : Word := 0x10F;
    (s.takesWrite acc (R.CAN_TXB_CTL n b)) ∧ (s.fld (F.CAN_TXB_CTL_STATE n b) ≠ 0) ∧ ((F.CAN_TXB_CTL_ABORT n b).get v = 0)) ∧
   (let s : State := W z [(F.CAN_TXB_CTL_STATE 11 2, 1)]; let acc : Acc := A8; let n : Fin 12 := 11; let b : Fin 3 := 2; let v : Word := 0;
    (s.takesWrite acc (R.CAN_TXB_CTL n b)) ∧ (s.fld (F.CAN_TXB_CTL_STATE n b) = 1)) ∧
   (let s : State := W z [(F.CAN_TXB_CTL_STATE 11 2, 2)]; let acc : Acc := A8; let n : Fin 12 := 11; let b : Fin 3 := 2; let v : Word := 0;
    (s.takesWrite acc (R.CAN_TXB_CTL n b)) ∧ (2 ≤ s.fld (F.CAN_TXB_CTL_STATE n b))) ∧
   (let s : State := ({ W { z with now := 10^10 } [(F.CAN_ESTAT_STATE 3, 1), (F.CAN_CTL_LISTEN 3, 0), (F.CAN_TXB_CTL_STATE 3 2, 1), (F.CAN_ACCFG_EN 3, 0)] with net := Net.init }).setCan 3 { CanU.init with own := [⟨5, 2, [1, 2], false⟩] }; let n : Fin 12 := 3; let u : State := s.claimPurge 3; let src : Nat := ((u.txNext 3).getD (0, ⟨5, 2, [1, 2], false⟩, [], 0)).1; let f : CanF := ((u.txNext 3).getD (0, ⟨5, 2, [1, 2], false⟩, [], 0)).2.1; let l : List OutRec := ((u.txNext 3).getD (0, ⟨5, 2, [1, 2], false⟩, [], 0)).2.2.1; let m : Nat := ((u.txNext 3).getD (0, ⟨5, 2, [1, 2], false⟩, [], 0)).2.2.2;
    (u = s.claimPurge n) ∧ (canSends (u.canState n)) ∧ (u.flag (F.CAN_CTL_LISTEN n) = false) ∧ ((u.can n).bus = none) ∧ (u.txNext n = some (src, f, l, m)) ∧ (src ≠ 4 ∨ u.permits 15 (engine 10) .write ((0x10 + n) * 4096))) ∧
   (let s : State := (fun x : State => { x with slt := { x.slt with out := [⟨3, 7, 1, [1, 2, 3, 4], false⟩] } }) (({ W { z with now := 10^10 } [(F.CAN_ESTAT_STATE 3, 1), (F.CAN_CTL_LISTEN 3, 0), (F.ACC_TE_CTL_W 15 0, 0), (F.CAN_ACCFG_EN 3, 0)] with net := Net.init }).setCan 3 { CanU.init with own := [] }); let n : Fin 12 := 3; let u : State := s.claimPurge 3; let src : Nat := ((u.txNext 3).getD (0, ⟨5, 2, [1, 2], false⟩, [], 0)).1; let f : CanF := ((u.txNext 3).getD (0, ⟨5, 2, [1, 2], false⟩, [], 0)).2.1; let l : List OutRec := ((u.txNext 3).getD (0, ⟨5, 2, [1, 2], false⟩, [], 0)).2.2.1; let m : Nat := ((u.txNext 3).getD (0, ⟨5, 2, [1, 2], false⟩, [], 0)).2.2.2;
    (u = s.claimPurge n) ∧ (canSends (u.canState n)) ∧ (u.flag (F.CAN_CTL_LISTEN n) = false) ∧ ((u.can n).bus = none) ∧ (u.txNext n = some (src, f, l, m)) ∧ (src = 4) ∧ (u.permits 15 (engine 10) .write ((0x10 + n) * 4096) = false)) ∧
   (let s : State := ({ W { z with now := 10^10 } [(F.CAN_ESTAT_STATE 11, 1), (F.CAN_TXB_CTL_STATE 11 2, 2), (F.CAN_ESTAT_TEC 11, 5)] with net := Net.init }).setCan 11 { CanU.init with bus := some (2, ⟨5, 2, [1, 2], false⟩, []) }; let n : Fin 12 := 11; let src : Nat := 2; let f : CanF := ⟨5, 2, [1, 2], false⟩; let l : List OutRec := []; let ts : Word := 99;
    ((s.can n).bus = some (src, f, l))) ∧
   (let s : State := ({ W { z with now := 10^10 } [(F.CAN_ESTAT_STATE 11, 1), (F.CAN_TXB_CTL_STATE 11 2, 2)] with net := Net.init }).setCan 11 { CanU.init with bus := some (2, ⟨5, 2, [1, 2], true⟩, []) }; let n : Fin 12 := 11; let src : Nat := 2; let f : CanF := ⟨5, 2, [1, 2], true⟩; let l : List OutRec := [];
    ((s.can n).bus = some (src, f, l))) ∧
   (let s : State := ({ W { z with now := 10^10 } [(F.CAN_ESTAT_STATE 11, 1), (F.CAN_TXB_CTL_STATE 11 2, 2), (F.CAN_ESTAT_TEC 11, 247)] with net := Net.init }).setCan 11 { CanU.init with bus := some (2, ⟨5, 2, [1, 2], false⟩, []) }; let n : Fin 12 := 11; let lec : Fin 8 := 7; let x : Nat × CanF × List OutRec := (2, ⟨5, 2, [1, 2], false⟩, []);
    ((s.can n).bus = some x) ∧ (s.fld (F.CAN_ESTAT_TEC n) + 8 ≤ 255)) :=
  by and_intros <;> decide +kernel

/-- The further clauses of CanFrameCommandsComplete. -/
theorem witness_CanFrameCommandsComplete_2 :
   (let s : State := W (ringQ { z with now := 10^10 } 27 1 0 0x20002000 5 1 0 0) [(F.TDM_STATE_PSTATE, 0), (F.CAN_ESTAT_STATE 11, 1)]; let n : Fin 64 := 2; let d : Desc := nd s; let q : Nat := 27; let c : Nat := 11;
    (s.starts n d q 1) ∧ (s.canFree q) ∧ (c = q - 0x10) ∧ (d.len = 0)) ∧
   (let s : State := W (ringQ { z with now := 10^10 } 27 1 9 0x20002000 5 1 0 0) [(F.TDM_STATE_PSTATE, 0), (F.CAN_ESTAT_STATE 11, 1)]; let n : Fin 64 := 2; let d : Desc := nd s; let q : Nat := 27; let c : Nat := 11;
    (s.starts n d q 1) ∧ (s.canFree q) ∧ (c = q - 0x10) ∧ (d.len ≠ 0) ∧ (dlcOf (idFd d.arg0) d.len = none)) ∧
   (let s : State := W (ringQ { z with now := 10^10 } 27 1 8 0x20002000 5 1 0 0) [(F.TDM_STATE_PSTATE, 0), (F.CAN_ESTAT_STATE 11, 3)]; let n : Fin 64 := 2; let d : Desc := nd s; let q : Nat := 27; let c : Nat := 11; let dlc : Nat := 8;
    (s.starts n d q 1) ∧ (s.canFree q) ∧ (c = q - 0x10) ∧ (d.len ≠ 0) ∧ (dlcOf (idFd d.arg0) d.len = some dlc) ∧ ((s.firstDenied (engine 29) .read d.addr d.len).isNone) ∧ (3 ≤ s.canState c)) ∧
   (let s : State := W (ringQ { z with now := 10^10 } 27 1 64 0x20002000 0x40000005 1 0 0) [(F.TDM_STATE_PSTATE, 0), (F.CAN_ESTAT_STATE 11, 2)]; let n : Fin 64 := 2; let d : Desc := nd s; let q : Nat := 27; let c : Nat := 11; let dlc : Nat := 15;
    (s.starts n d q 1) ∧ (s.canFree q) ∧ (c = q - 0x10) ∧ (d.len ≠ 0) ∧ (dlcOf (idFd d.arg0) d.len = some dlc) ∧ ((s.firstDenied (engine 29) .read d.addr d.len).isNone) ∧ (s.canState c < 3) ∧ (s.permits 15 (s.descMaster n d.didx) .write ((0x10 + c) * 4096)) ∧ (s.claimBars c d.arg0 = false)) ∧
   (let s : State := W (ringQ { z with now := 10^10 } 27 2 1 0x20002000 5 1 0 0) [(F.TDM_STATE_PSTATE, 0), (F.CAN_ESTAT_STATE 11, 1)]; let n : Fin 64 := 2; let d : Desc := nd s; let q : Nat := 27; let c : Nat := 11;
    (s.starts n d q 2) ∧ (s.canFree q) ∧ (c = q - 0x10) ∧ (d.len ≠ 0)) ∧
   (let s : State := W (ringQ { z with now := 10^10 } 27 2 0 0x20002000 5 1 0 0) [(F.TDM_STATE_PSTATE, 0), (F.CAN_ESTAT_STATE 11, 1)]; let n : Fin 64 := 2; let d : Desc := nd s; let q : Nat := 27; let c : Nat := 11;
    (s.starts n d q 2) ∧ (s.canFree q) ∧ (c = q - 0x10) ∧ (d.len = 0) ∧ (s.canState c < 3) ∧ (s.permits 15 (s.descMaster n d.didx) .write ((0x10 + c) * 4096)) ∧ (s.claimBars c d.arg0 = false)) ∧
   (let s : State := W { z with now := 10^10 } [(F.CAN_ESTAT_STATE 11, 5), (F.TDM_STATE_PSTATE, 0), (F.CAN_ESTAT_REC 11, 10)]; let n : Fin 12 := 11; let idw : BitVec 31 := 5; let brs : Bool := false; let rtr : Bool := false; let esi : Bool := false; let dlc : Fin 16 := 15; let data : List Byte := [1, 2, 3]; let bs : List Byte := padTo (dlcLen (idFd idw.toNat) dlc) data; let ts : Word := 77; let err : Fin 8 := 3; let heavy : Bool := true; let fails : BootFails := [];
    (s.canState n = 1 ∨ s.canState n = 2 ∨ s.canState n = 5) ∧ (s.pairState ≠ psFENCED) ∧ (bs = padTo (dlcLen (idFd idw.toNat) dlc) data) ∧ ((s.leads = false ∨ field bs 0 1 ≠ 0x10)) ∧ (err ≠ 0)) ∧
   (let s : State := W { z with now := 10^10 } [(F.CAN_ESTAT_STATE 11, 1), (F.TDM_STATE_PSTATE, 0), (F.CAN_ESTAT_REC 11, 10), (F.CAN_CTL_FDEN 11, 1), (F.CAN_FMASK_MASK 11 0, 0), (F.CAN_FMASK_IDEM 11 0, 0), (F.CAN_FACT_ACT 11 0, 2), (F.CAN_FACT_MB 11 0, 15), (F.CAN_MB_CTL_LOCKED 11 15, 0)]; let n : Fin 12 := 11; let idw : BitVec 31 := 0x60000005; let brs : Bool := true; let rtr : Bool := false; let esi : Bool := false; let dlc : Fin 16 := 15; let data : List Byte := [1, 2, 3]; let bs : List Byte := padTo (dlcLen (idFd idw.toNat) dlc) data; let ts : Word := 77; let err : Fin 8 := 0; let heavy : Bool := true; let fails : BootFails := []; let k : Nat := 0;
    (s.canState n = 1 ∨ s.canState n = 2 ∨ s.canState n = 5) ∧ (s.pairState ≠ psFENCED) ∧ (bs = padTo (dlcLen (idFd idw.toNat) dlc) data) ∧ ((s.leads = false ∨ field bs 0 1 ≠ 0x10)) ∧ (err = 0) ∧ (idFd idw.toNat = false ∨ s.flag (F.CAN_CTL_FDEN n)) ∧ (rtr = false) ∧ (s.canFilter n (idw.toNat + if brs then 2 ^ 31 else 0) = some k) ∧ (s.fld (F.CAN_FACT_ACT n k) = 2)) ∧
   (let s : State := W z [(F.CAN_MB_CTL_LOCKED 11 15, 0)]; let acc : Acc := A8; let n : Fin 12 := 11; let m : Fin 16 := 15;
    (s.takesRead acc (R.CAN_MB_ID n m))) ∧
   (let s : State := ({ W { z with now := 10^10 } [(F.CAN_MB_CTL_LOCKED 11 15, 1), (F.CAN_MB_CTL_NEW 11 15, 0)] with net := Net.init }).setCan 11 { CanU.init with shadows := [(15, some ⟨5, 6, [1], 7⟩)] }; let acc : Acc := A8; let n : Fin 12 := 11; let m : Fin 16 := 15;
    (s.takesRead acc (R.CAN_MB_TS n m)) ∧ (s.flag (F.CAN_MB_CTL_LOCKED n m))) :=
  by and_intros <;> decide +kernel

/-- The further clauses of CanFrameCommandsComplete. -/
theorem witness_CanFrameCommandsComplete_3 :
   (let s : State := W z [(F.CAN_MB_CTL_LOCKED 11 15, 1)]; let acc : Acc := A8; let n : Fin 12 := 11; let m : Fin 16 := 15; let v : Word := 0x8000;
    (s.takesWrite acc (R.CAN_MBCTL n)) ∧ (v.getLsbD m)) :=
  by decide +kernel

/-- Every clause of EthernetCommandsComplete has a state and operands that meet its hypotheses. -/
theorem witness_EthernetCommandsComplete :
   (let s : State := W (ringQ { z with now := 10^10 } 58 1 0 0x20002000 0x102 0 0 0) [(F.ETH_CTL_EN, 1), (F.ETH_PCFG_EN 10, 1), (F.ETH_PSTAT_LINK 10, 1), (F.TDM_STATE_PSTATE, 0)]; let n : Fin 64 := 2; let ts : Word := 88; let d : Desc := nd s; let q : Nat := 58; let p : Nat := ethPortOf 58;
    (s.starts n d q 1) ∧ (s.ethMay q) ∧ (p = ethPortOf q) ∧ (d.len = 0)) ∧
   (let s : State := W (ringQ { z with now := 10^10 } 58 1 1519 0x20002000 0x102 0 0 0) [(F.ETH_CTL_EN, 1), (F.ETH_PCFG_EN 10, 1), (F.ETH_PSTAT_LINK 10, 1), (F.TDM_STATE_PSTATE, 0)]; let n : Fin 64 := 2; let ts : Word := 88; let d : Desc := nd s; let q : Nat := 58; let p : Nat := ethPortOf 58;
    (s.starts n d q 1) ∧ (s.ethMay q) ∧ (p = ethPortOf q) ∧ (d.len ≠ 0) ∧ (d.len < 14 ∨ 1518 < d.len)) ∧
   (let s : State := W (ringQ { z with now := 10^10 } 58 1 1515 0x20002000 0x102 0 0 0) [(F.ETH_CTL_EN, 1), (F.ETH_PCFG_EN 10, 1), (F.ETH_PSTAT_LINK 10, 1), (F.TDM_STATE_PSTATE, 0)]; let n : Fin 64 := 2; let ts : Word := 88; let d : Desc := nd s; let q : Nat := 58; let p : Nat := ethPortOf 58; let bs : List Byte := s.bytes d.addr d.len; let f : List Byte := padTo (max 60 bs.length) bs;
    (s.starts n d q 1) ∧ (s.ethMay q) ∧ (p = ethPortOf q) ∧ (bs = s.bytes d.addr d.len) ∧ (f = padTo (max 60 bs.length) bs) ∧ (14 ≤ d.len) ∧ (d.len ≤ 1518) ∧ ((s.firstDenied (engine 30) .read d.addr d.len).isNone) ∧ (1514 < d.len) ∧ (ethTagged bs = false)) ∧
   (let s : State := W (ringQ { z with now := 10^10 } 57 1 14 0x20002000 0x102 0 0 0) [(F.ETH_CTL_EN, 1), (F.ETH_PCFG_EN 9, 1), (F.ETH_PSTAT_LINK 9, 1), (F.TDM_STATE_PSTATE, 0)]; let n : Fin 64 := 2; let ts : Word := 88; let d : Desc := nd s; let q : Nat := 57; let p : Nat := ethPortOf 57; let bs : List Byte := s.bytes d.addr d.len; let f : List Byte := padTo (max 60 bs.length) bs;
    (s.starts n d q 1) ∧ (s.ethMay q) ∧ (p = ethPortOf q) ∧ (bs = s.bytes d.addr d.len) ∧ (f = padTo (max 60 bs.length) bs) ∧ (14 ≤ d.len) ∧ (d.len ≤ 1518) ∧ ((s.firstDenied (engine 30) .read d.addr d.len).isNone) ∧ (d.len ≤ 1514 ∨ ethTagged bs) ∧ (s.permits 14 (s.descMaster n d.didx) .write (q * 4096)) ∧ (p = 8 ∨ p = 9)) ∧
   (let s : State := W (ringQ { z with now := 10^10 } 58 1 1514 0x20002000 0x102 0 0 0) [(F.ETH_CTL_EN, 1), (F.ETH_PCFG_EN 10, 1), (F.ETH_PSTAT_LINK 10, 1), (F.TDM_STATE_PSTATE, 0)]; let n : Fin 64 := 2; let ts : Word := 88; let d : Desc := nd s; let q : Nat := 58; let p : Nat := ethPortOf 58; let bs : List Byte := s.bytes d.addr d.len; let f : List Byte := padTo (max 60 bs.length) bs;
    (s.starts n d q 1) ∧ (s.ethMay q) ∧ (p = ethPortOf q) ∧ (bs = s.bytes d.addr d.len) ∧ (f = padTo (max 60 bs.length) bs) ∧ (14 ≤ d.len) ∧ (d.len ≤ 1518) ∧ ((s.firstDenied (engine 30) .read d.addr d.len).isNone) ∧ (d.len ≤ 1514 ∨ ethTagged bs) ∧ (s.permits 14 (s.descMaster n d.didx) .write (q * 4096)) ∧ (p ≠ 8) ∧ (p ≠ 9)) ∧
   (let s : State := W { z with now := 10^10 } [(F.ETH_CTL_EN, 1), (F.ETH_PCFG_EN 10, 1), (F.ETH_PSTAT_LINK 10, 1), (F.TDM_STATE_PSTATE, 0), (F.ETH_VLAN_EN 63, 1), (F.ETH_VLAN_VID 63, 5), (F.ETH_PCFG_PVID 10, 5)]; let p : Fin 11 := 10; let frame : List Byte := [1, 2, 3, 4, 5, 6, 2, 0, 0, 0, 0, 9, 8, 0, 1, 2, 3]; let ts : BitVec 64 := 9; let fails : BootFails := [];
    (s.portUp p) ∧ (s.pairState ≠ psFENCED) ∧ (14 ≤ frame.length) ∧ (frame.length ≤ 1518) ∧ (ethType frame ≠ 0x88B5 ∨ s.leads = false)) ∧
   (let s : State := W { z with now := 10^10 } [(F.ETH_CTL_EN, 1), (F.ETH_PCFG_EN 10, 1), (F.ETH_PSTAT_LINK 10, 1), (F.TDM_STATE_PSTATE, 0), (F.ETH_PSTAT_LINK 10, 0)]; let p : Fin 11 := 10; let up : Bool := true; let speed : Fin 3 := 2;
    (s.flag (F.ETH_PSTAT_LINK p) = !up) ∧ (up = false ∨ (s.flag F.ETH_CTL_EN ∧ s.flag (F.ETH_PCFG_EN p)))) ∧
   (let s : State := W z [(F.ETH_PLCASTAT_ACTIVE 1, 1)]; let k : Fin 2 := 1;
    (s.flag (F.ETH_PLCASTAT_ACTIVE k))) ∧
   (let s : State := (W { z with now := 10^10 } [(F.ETH_PLCASTAT_ACTIVE 1, 1), (F.ETH_PLCA_BURST 1, 0)]).setEthQueue 9 [⟨1, [1], none⟩, ⟨5, [2], none⟩, ⟨5, [3], none⟩]; let k : Fin 2 := 1; let ts : Word := 4; let x : EthQ := ⟨5, [2], none⟩;
    (s.flag (F.ETH_PLCASTAT_ACTIVE k)) ∧ (s.fld (F.ETH_PLCA_BURST k) = 0) ∧ (s.slotT1s k = none) ∧ (bestOf (s.ethQueue (8 + k)) = some x)) ∧
   (let s : State := { W { z with now := 10^10 } [(F.ETH_AGE_AGE, 1)] with net := { Net.init with eth := ⟨[(1, 2, 3, 0), (4, 5, 6, 9500000000)], [], []⟩ } };
    (s.fld F.ETH_AGE_AGE ≠ 0)) :=
  by and_intros <;> decide +kernel

/-- Every clause of TandemLinkCommandsComplete has a state and operands that meet its hypotheses. -/
theorem witness_TandemLinkCommandsComplete :
   (let s : State := { W { z with now := 10^10 } [(F.TDM_CTL_EN, 1), (F.TDM_LINK_UP, 0), (F.TDM_STATE_PSTATE, 0), (F.TDM_WIRE_SOL_BANKS, 0), (F.TDM_WIRE_HS_CHANNELS 0, 0), (F.TDM_WIRE_HS_CHANNELS 1, 0), (F.TDM_WIRE_HS_CHANNELS 2, 0), (F.TDM_WIRE_DIO_POINTS 0, 0), (F.TDM_WIRE_DIO_POINTS 1, 0)] with tdm := { Tdm.init with formed := false } }; let lanes : BitVec 4 := 0xF; let p : TdmPeer := ⟨.f, 0, 0, 0, 0, 9⟩; let fails : BootFails := [];
    (s.flag F.TDM_CTL_EN) ∧ (lanes ≠ 0) ∧ (s.flag F.TDM_LINK_UP = false) ∧ (s.pairState ≠ psFENCED) ∧ (p.code = s.part.code) ∧ (s.part.code ≠ .d) ∧ (s.sameWiring p) ∧ (s.pairState = psOFF)) ∧
   (let s : State := { W { z with now := 10^10 } [(F.TDM_CTL_EN, 1), (F.TDM_LINK_UP, 0), (F.TDM_STATE_PSTATE, 0), (F.TDM_WIRE_SOL_BANKS, 0), (F.TDM_WIRE_HS_CHANNELS 0, 0), (F.TDM_WIRE_HS_CHANNELS 1, 0), (F.TDM_WIRE_HS_CHANNELS 2, 0), (F.TDM_WIRE_DIO_POINTS 0, 0), (F.TDM_WIRE_DIO_POINTS 1, 0)] with tdm := { Tdm.init with formed := true } }; let lanes : BitVec 4 := 0xF; let p : TdmPeer := ⟨.f, 1, 0, 0, 0, 9⟩; let fails : BootFails := [];
    (s.flag F.TDM_CTL_EN) ∧ (lanes ≠ 0) ∧ (s.flag F.TDM_LINK_UP = false) ∧ (s.pairState ≠ psFENCED) ∧ (¬ (p.code = s.part.code ∧ s.part.code ≠ .d ∧ s.sameWiring p))) ∧
   (let s : State := { W { z with now := 10^10 } [(F.TDM_CTL_EN, 1), (F.TDM_LINK_UP, 1), (F.TDM_STATE_PSTATE, 2)] with tdm := { Tdm.init with formed := true, sends := [(2, 0)] } }; let fails : BootFails := [];
    (s.flag F.TDM_LINK_UP)) ∧
   (let s : State := { W { z with now := 10^10 } [(F.TDM_CTL_EN, 1), (F.TDM_LINK_UP, 1), (F.TDM_LINK_LANEMASK, 0xF)] with tdm := { Tdm.init with formed := true } }; let l : Fin 4 := 3; let errors : Word := 156; let m : Nat := 15;
    (s.flag F.TDM_LINK_UP) ∧ (m = s.fld F.TDM_LINK_LANEMASK) ∧ (m / 2 ^ l.val % 2 = 1) ∧ (errors.toNat ≤ 156)) ∧
   (let s : State := { W { z with now := 10^10 } [(F.TDM_CTL_EN, 1), (F.TDM_LINK_UP, 1), (F.TDM_LINK_LANEMASK, 8)] with tdm := { Tdm.init with formed := true } }; let l : Fin 4 := 3; let errors : Word := 157; let m : Nat := 8;
    (s.flag F.TDM_LINK_UP) ∧ (m = s.fld F.TDM_LINK_LANEMASK) ∧ (m / 2 ^ l.val % 2 = 1) ∧ (156 < errors.toNat)) ∧
   (let s : State := { W { z with now := 10^10 } [(F.TDM_CTL_EN, 1), (F.TDM_LINK_UP, 0), (F.TDM_STATE_PSTATE, 0), (F.TDM_WIRE_SOL_BANKS, 0), (F.TDM_WIRE_HS_CHANNELS 0, 0), (F.TDM_WIRE_HS_CHANNELS 1, 0), (F.TDM_WIRE_HS_CHANNELS 2, 0), (F.TDM_WIRE_DIO_POINTS 0, 0), (F.TDM_WIRE_DIO_POINTS 1, 0)] with tdm := { Tdm.init with formed := false } }; let lanes : BitVec 4 := 0; let p : TdmPeer := ⟨.f, 0, 0, 0, 0, 9⟩; let fails : BootFails := [];
    (s.flag F.TDM_CTL_EN) ∧ (s.flag F.TDM_LINK_UP = false) ∧ (s.elapsed s.tdm.retryAt 100000000) ∧ (s.leads = false) ∧ (s.pairState ≠ psFENCED)) ∧
   (let s : State := { W { z with now := 10^10 } [(F.TDM_STATE_PSTATE, 3)] with tdm := { Tdm.init with formed := true } }; let ofs : BitVec 64 := 0xFFFFFFFFFFFFFFFF; let rate : BitVec 32 := 5; let pofs : BitVec 64 := 6; let locked : Bool := true;
    (s.tdm.formed) ∧ (s.due s.tdm.measAt 1000000)) ∧
   (let s : State := { W { z with now := 10^10 } [(F.TDM_STATE_PSTATE, 5)] with tdm := { Tdm.init with formed := true } };
    (s.due s.tdm.hbAt 1000000)) ∧
   (let s : State := { W { z with now := 10^10 } [(F.TDM_STATE_PSTATE, 1)] with tdm := { Tdm.init with formed := true } }; let q : Fin 7 := 3; let term : BitVec 16 := 9; let ready : Bool := true;
    (s.tdm.formed)) ∧
   (let s : State := { W { z with now := 10^10 } [(F.TDM_STATE_PSTATE, 3)] with tdm := { Tdm.init with formed := true } }; let v : BitVec 16 := 0xFFFF;
    (s.tdm.formed)) :=
  by and_intros <;> decide +kernel

/-- The further clauses of TandemLinkCommandsComplete. -/
theorem witness_TandemLinkCommandsComplete_2 :
   (let s : State := { W { z with now := 10^10 } [(F.TDM_STATE_PSTATE, 3)] with tdm := { Tdm.init with formed := true } }; let e : Fin 4096 := 4095; let v : BitVec 64 := 0xFFFFFFFFFFFFFFFF;
    (s.tdm.formed)) ∧
   (let s : State := { W { z with now := 10^10 } [(F.TDM_STATE_PSTATE, 3)] with tdm := { Tdm.init with formed := true } };
    (s.tdm.formed)) ∧
   (let s : State := { W { z with now := 10^10 } [(F.TDM_STATE_PSTATE, 3)] with tdm := { Tdm.init with formed := true } }; let a : BitVec 40 := 0x20002000; let bs : List Byte := [1, 2, 3];
    (s.tdm.formed) ∧ ((s.firstDenied (engine 31) .write a.toNat bs.length).isNone)) ∧
   (let s : State := { { W (ringQ { z with now := 10^10 } 0x5C 1 64 0x20002000 0 0 0 0) [] with tdm := { Tdm.init with formed := true } } with part := { Part.reset with code := .d } }; let n : Fin 64 := 2; let d : Desc := nd s;
    (s.starts n d 0x5C 1) ∧ (s.part.hasTDM = false)) ∧
   (let s : State := { W (ringQ { z with now := 10^10 } 0x5C 1 0 0x20002000 0 0 0 0) [] with tdm := { Tdm.init with formed := true } }; let n : Fin 64 := 2; let d : Desc := nd s;
    (s.starts n d 0x5C 1) ∧ (s.part.hasTDM) ∧ (d.len = 0)) ∧
   (let s : State := { W (ringQ { z with now := 10^10 } 0x5C 1 (64 * 2 ^ 20 + 1) 0x20002000 0 0 0 0) [] with tdm := { Tdm.init with formed := true } }; let n : Fin 64 := 2; let d : Desc := nd s;
    (s.starts n d 0x5C 1) ∧ (s.part.hasTDM) ∧ (64 * 2 ^ 20 < d.len)) ∧
   (let s : State := { W (ringQ { z with now := 10^10 } 0x5C 1 (64 * 2 ^ 20) 0x20002000 0 0 0 0) [] with tdm := { Tdm.init with formed := false } }; let n : Fin 64 := 2; let d : Desc := nd s;
    (s.starts n d 0x5C 1) ∧ (s.part.hasTDM) ∧ (d.len ≠ 0) ∧ (d.len ≤ 64 * 2 ^ 20) ∧ (s.tdm.formed = false)) ∧
   (let s : State := { W (ringQ { z with now := 10^10 } 0x5C 1 64 0x20002000 0 0 0 0) [] with tdm := { Tdm.init with formed := true } }; let n : Fin 64 := 2; let d : Desc := nd s;
    (s.starts n d 0x5C 1) ∧ (s.part.hasTDM) ∧ (d.len ≠ 0) ∧ (d.len ≤ 64 * 2 ^ 20) ∧ (s.tdm.formed) ∧ ((s.firstDenied (engine 31) .read d.addr d.len).isNone) ∧ (s.permits 16 (s.descMaster n d.didx) .write 0x5C000)) ∧
   (let s : State := ({ W (ringQ { z with now := 10^10 } 0x5C 1 64 0x20002000 0 0 0 0) [] with tdm := { Tdm.init with formed := true, sends := [(2, 7)] } } : State).setRing 2 { Ring.init with queue := 0x5C, cring := 1, masters := [(8, A8)], inflight := [⟨⟨7, 1, false, false, 0, 64, 0, 0, 0, 0, 0⟩, none, 0, 1, 0x5C, false⟩] }; let n : Fin 64 := 2; let ok : Bool := false; let d : Desc := ⟨7, 1, false, false, 0, 64, 0, 0, 0, 0, 0⟩; let e : Inflight := ⟨d, none, 0, 1, 0x5C, false⟩;
    (s.tdm.sends.find? (fun p => p.1 = n.val) = some (n.val, d.didx)) ∧ ((s.ring n).inflight = [e]) ∧ (e.desc = d) ∧ (e.res = none)) ∧
   (let s : State := { W { z with now := 10^10 } [(F.TDM_CTL_EN, 1), (F.TDM_LINK_UP, 1), (F.TDM_STATE_PSTATE, 0), (F.TDM_WIRE_SOL_BANKS, 0), (F.TDM_WIRE_HS_CHANNELS 0, 0), (F.TDM_WIRE_HS_CHANNELS 1, 0), (F.TDM_WIRE_HS_CHANNELS 2, 0), (F.TDM_WIRE_DIO_POINTS 0, 0), (F.TDM_WIRE_DIO_POINTS 1, 0)] with tdm := { Tdm.init with formed := false } }; let p : TdmPeer := ⟨.f, 0, 0, 0, 5, 9⟩; let fails : BootFails := [];
    (s.flag F.TDM_LINK_UP) ∧ (s.pairState = psOFF) ∧ (p.code = s.part.code) ∧ (s.part.code ≠ .d) ∧ (s.sameWiring p) ∧ (p.pstate.val = psSOLO ∨ p.pstate.val = psACTIVE)) :=
  by and_intros <;> decide +kernel

/-- The further clauses of TandemLinkCommandsComplete. -/
theorem witness_TandemLinkCommandsComplete_3 :
   (let s : State := { W { z with now := 10^10 } [(F.TDM_STATE_PSTATE, 1)] with tdm := { Tdm.init with formed := true } }; let fails : BootFails := [];
    (s.pairState = psSOLO)) ∧
   (let s : State := { W { z with now := 10^10 } [(F.TDM_STATE_PSTATE, 3), (F.TDM_STATE_READY, 1)] with tdm := { Tdm.init with formed := true } }; let fails : BootFails := [];
    (s.pairState = psSTANDBY) ∧ (s.flag F.TDM_STATE_READY)) ∧
   (let s : State := { W { z with now := 10^10 } [(F.TDM_WIRE_SOL_BANKS, 0), (F.TDM_WIRE_HS_CHANNELS 0, 0), (F.TDM_WIRE_HS_CHANNELS 1, 0), (F.TDM_WIRE_HS_CHANNELS 2, 0), (F.TDM_WIRE_DIO_POINTS 0, 0), (F.TDM_WIRE_DIO_POINTS 1, 0), (F.TDM_WIRE_DIO_POINTS 1, 0x80000000)] with tdm := { Tdm.init with formed := true } }; let ch : Fin 96 := 63; let cls : Fin 3 := 2; let ep : Bool := true; let on : Bool := true; let cmd : BitVec 16 := 0; let fails : BootFails := [];
    (s.isSplit cls ch = false)) ∧
   (let s : State := { W { z with now := 10^10 } [(F.TDM_WIRE_SOL_BANKS, 0), (F.TDM_WIRE_HS_CHANNELS 0, 0), (F.TDM_WIRE_HS_CHANNELS 1, 0), (F.TDM_WIRE_HS_CHANNELS 2, 0), (F.TDM_WIRE_DIO_POINTS 0, 0), (F.TDM_WIRE_DIO_POINTS 1, 0)] with tdm := { Tdm.init with formed := true } }; let ch : Fin 96 := 63; let cls : Fin 3 := 2; let ep : Bool := true; let on : Bool := true; let cmd : BitVec 16 := 0; let fails : BootFails := [];
    (s.isSplit 2 ch)) :=
  by and_intros <;> decide +kernel

/-- Every clause of TandemRoleCommandsComplete has a state and operands that meet its hypotheses. -/
theorem witness_TandemRoleCommandsComplete :
   (let s : State := { W { z with now := 10^10 } [(F.TDM_CTL_EN, 0)] with tdm := { Tdm.init with heard := true } }; let acc : Acc := A8; let v : Word := 0;
    (s.takesWrite acc R.TDM_CTL) ∧ (F.TDM_CTL_JOIN.get v = 0) ∧ (F.TDM_CTL_HANDOVER.get v = 0)) ∧
   (let s : State := { W { z with now := 10^10 } [(F.TDM_CTL_EN, 1), (F.TDM_STATE_PSTATE, 0)] with tdm := { Tdm.init with enAt := 5 } };
    (s.flag F.TDM_CTL_EN) ∧ (s.pairState = psOFF) ∧ (s.tdm.heard = false) ∧ (s.elapsed s.tdm.enAt 100000000)) ∧
   (let s : State := { W { z with now := 10^10 } [(F.TDM_CTL_EN, 1), (F.TDM_CTL_TKEN, 1), (F.TDM_STATE_READY, 1), (F.TDM_STATE_PSTATE, 3)] with tdm := { Tdm.init with heard := true } };
    (s.flag F.TDM_CTL_EN) ∧ (s.tdm.heard) ∧ (s.tdm.lost = false) ∧ (s.pairState ≠ psOFF) ∧ (s.hbOver)) ∧
   (let s : State := { W { z with now := 10^10 } [(F.TDM_TKWAIT_TKWAIT, 1), (F.TDM_STATE_PSTATE, 3)] with tdm := { Tdm.init with tk := some (5, 0, true) } }; let pos : List (Fin 8 × BitVec 64) := []; let t0 : Nat := 5; let p0 : Int := 0; let hand : Bool := true;
    (s.tdm.tk = some (t0, p0, hand)) ∧ (s.tkPoint t0 p0) ∧ (s.pairState = psACTIVE ∨ s.pairState = psSTANDBY ∨ (s.pairState = psPENDING ∧ s.flag F.TDM_STATE_READY ∧ s.flag F.TDM_CTL_TKEN))) ∧
   (let s : State := { W { z with now := 10^10 } [(F.TDM_TKWAIT_TKWAIT, 1), (F.TDM_STATE_PSTATE, 4), (F.TDM_STATE_READY, 0)] with tdm := { Tdm.init with tk := some (5, 0, false) } }; let pos : List (Fin 8 × BitVec 64) := []; let t0 : Nat := 5; let p0 : Int := 0; let hand : Bool := false;
    (s.tdm.tk = some (t0, p0, hand)) ∧ (s.tkPoint t0 p0) ∧ (s.pairState = psPENDING) ∧ (s.flag F.TDM_STATE_READY = false ∨ s.flag F.TDM_CTL_TKEN = false)) ∧
   (let s : State := { W { z with now := 10^10 } [(F.TDM_TKWAIT_TKWAIT, 1), (F.TDM_STATE_PSTATE, 2)] with tdm := { Tdm.init with tk := some (5, 0, false) } }; let pos : List (Fin 8 × BitVec 64) := []; let t0 : Nat := 5; let p0 : Int := 0; let hand : Bool := false;
    (s.tdm.tk = some (t0, p0, hand)) ∧ (s.tkPoint t0 p0) ∧ (s.pairState = psOFF ∨ s.pairState = psSOLO ∨ s.pairState = psJOINING)) ∧
   (let s : State := { W { z with now := 10^10 } [(F.TDM_STATE_TERM, 5), (F.TDM_STATE_PSTATE, 5)] with tdm := { Tdm.init with formed := true } }; let term : BitVec 16 := 5; let fails : BootFails := [];
    (s.leads) ∧ (0 < termDiff s.term term.toNat ∨ (termDiff s.term term.toNat = 0 ∧ s.part.sideB = false))) ∧
   (let s : State := {  W { z with now := 10^10 } [(F.TDM_STATE_TERM, 5), (F.TDM_STATE_PSTATE, 1)] with tdm := { Tdm.init with formed := true } , pwr := { Pwr.init with seq := none } }; let term : BitVec 16 := 6; let fails : BootFails := [];
    (s.leads) ∧ (s.pwr.seq = none) ∧ (termDiff s.term term.toNat < 0 ∨ (termDiff s.term term.toNat = 0 ∧ s.part.sideB))) ∧
   (let s : State := { W { z with now := 10^10 } [(F.TDM_CTL_EN, 1), (F.TDM_STATE_PSTATE, 5)] with tdm := { Tdm.init with formed := true, pReady := true } }; let acc : Acc := A8; let v : Word := 1;
    (s.takesWrite acc R.TDM_CTL) ∧ (F.TDM_CTL_EN.get v = s.fld F.TDM_CTL_EN) ∧ (F.TDM_CTL_JOIN.get v = 0) ∧ (s.pairState = psACTIVE)) ∧
   (let s : State := { W { z with now := 10^10 } [(F.TDM_CTL_EN, 1), (F.TDM_STATE_PSTATE, 2)] with tdm := { Tdm.init with formed := true } }; let acc : Acc := A8; let v : Word := 1;
    (s.takesWrite acc R.TDM_CTL) ∧ (F.TDM_CTL_EN.get v = s.fld F.TDM_CTL_EN) ∧ (F.TDM_CTL_HANDOVER.get v = 0)) :=
  by and_intros <;> decide +kernel

/-- The further clauses of TandemRoleCommandsComplete. -/
theorem witness_TandemRoleCommandsComplete_2 :
   (let s : State := (fun x : State => { x with str := { x.str with tickAt := x.now } }) ({ W { z with now := 10^10 } [(F.TDM_STATE_PSTATE, 2)] with tdm := { Tdm.init with formed := true, joinDue := true, pTerm := 77 } }); let pos : List (Fin 8 × BitVec 64) := [(7, 5)];
    (s.tdm.joinDue) ∧ (s.pairState = psJOINING) ∧ (s.tdm.formed) ∧ (s.tdm.lost = false) ∧ (s.tdm.joinAt < s.now) ∧ (s.now = s.str.tickAt)) ∧
   (let s : State := { W { z with now := 10^10 } [(F.TDM_STATE_PSTATE, 3), (F.TDM_AXDIV_DIV 0, 0), (F.TDM_AXDIV_DIV 1, 0), (F.TDM_AXDIV_DIV 2, 0), (F.TDM_AXDIV_DIV 3, 0), (F.TDM_AXDIV_DIV 4, 0), (F.TDM_AXDIV_DIV 5, 0), (F.TDM_AXDIV_DIV 6, 0), (F.TDM_AXDIV_DIV 7, 0)] with tdm := { Tdm.init with formed := true, mirror := true, cleanAt := 5 } };
    (s.pairState = psSTANDBY) ∧ (s.tdm.mirror) ∧ (s.tdm.formed) ∧ (s.elapsed s.tdm.cleanAt 2000000000) ∧ ((∀ a < 8, (s.fldInt (F.TDM_AXDIV_DIV a)).natAbs ≤ s.fld F.TDM_AXTOL_TOL)) ∧ ((∀ p ∈ s.ept.eps, p.2.state ≠ epREJOIN))) ∧
   (let s : State := { W { z with now := 10^10 } [(F.TDM_STATE_PSTATE, 3), (F.TDM_WIRE_SOL_BANKS, 0), (F.TDM_WIRE_HS_CHANNELS 0, 0), (F.TDM_WIRE_HS_CHANNELS 1, 0), (F.TDM_WIRE_HS_CHANNELS 2, 0), (F.TDM_WIRE_DIO_POINTS 0, 0), (F.TDM_WIRE_DIO_POINTS 1, 0), (⟨R.TDM_PTOFS_LO, 31, 0⟩, 0), (⟨R.TDM_PTOFS_HI, 31, 0⟩, 0)] with tdm := { Tdm.init with formed := true } }; let g : TdmEdge := ⟨2, 63, true, none, 5⟩; let te : Int := g.te.toInt - s.pairOfs s.now;
    (s.pairState = psSTANDBY ∨ s.pairState = psPENDING) ∧ (s.tdm.formed) ∧ (s.isSplit g.cls g.ch) ∧ (te = g.te.toInt - s.pairOfs s.now) ∧ (te < s.now)) ∧
   (let s : State := { W { z with now := 10^10 } [(F.TDM_STATE_PSTATE, 3), (F.TDM_WIRE_SOL_BANKS, 0), (F.TDM_WIRE_HS_CHANNELS 0, 0), (F.TDM_WIRE_HS_CHANNELS 1, 0), (F.TDM_WIRE_HS_CHANNELS 2, 0), (F.TDM_WIRE_DIO_POINTS 0, 0), (F.TDM_WIRE_DIO_POINTS 1, 0), (⟨R.TDM_PTOFS_LO, 31, 0⟩, 0), (⟨R.TDM_PTOFS_HI, 31, 0⟩, 0)] with tdm := { Tdm.init with formed := true } }; let g : TdmEdge := ⟨2, 63, true, none, 10000000001⟩; let te : Int := g.te.toInt - s.pairOfs s.now;
    (s.pairState = psSTANDBY ∨ s.pairState = psPENDING) ∧ (s.tdm.formed) ∧ (s.isSplit g.cls g.ch) ∧ (te = g.te.toInt - s.pairOfs s.now) ∧ ((s.now : Int) < te) ∧ ((∀ p ∈ s.tdm.splits, s.now < p.2.2.2.2))) ∧
   (let s : State := { W { z with now := 10^10 } [(F.TDM_STATE_PSTATE, 3), (F.TDM_WIRE_SOL_BANKS, 0), (F.TDM_WIRE_HS_CHANNELS 0, 0), (F.TDM_WIRE_HS_CHANNELS 1, 0), (F.TDM_WIRE_HS_CHANNELS 2, 0), (F.TDM_WIRE_DIO_POINTS 0, 0), (F.TDM_WIRE_DIO_POINTS 1, 0)] with tdm := { Tdm.init with formed := true, splits := [(2, 63, true, none, 5), (2, 62, true, none, 10000000001)] } };
    (s.pairState = psSTANDBY ∨ s.pairState = psPENDING)) :=
  by and_intros <;> decide +kernel

/-- Every clause of UpdateCommandsComplete has a state and operands that meet its hypotheses. -/
theorem witness_UpdateCommandsComplete :
   (let s : State := (W (ringQ { z with now := 10^10 } 9 1 256 0x20002000 5 0 0 0) [(F.UPD_BUSY_PARTS, 32), (F.UPD_BUSY_NBUSY, 1)]).setBytes 0x20002000 (bts 256 [(0, 0x44), (1, 0x47), (2, 0x4E), (3, 0x44), (4, 1), (6, 5), (8, 0x80), (9, 0x08), (10, 0xA1), (11, 0x57), (12, 15), (13, 0), (32, 16)]); let n : Fin 64 := 2; let d : Desc := nd s; let p : Nat := d.arg0 % 8; let h : List Byte := s.bytes d.addr 256;
    (s.starts n d 9 1) ∧ (p = d.arg0 % 8) ∧ (d.len = 256) ∧ (h = s.bytes d.addr 256) ∧ (s.inProgress p)) ∧
   (let s : State := (W (ringQ { z with now := 10^10 } 9 1 256 0x20002000 5 0 0 0) [(F.UPD_BUSY_PARTS, 15), (F.UPD_BUSY_NBUSY, 4)]).setBytes 0x20002000 (bts 256 [(0, 0x44), (1, 0x47), (2, 0x4E), (3, 0x44), (4, 1), (6, 5), (8, 0x80), (9, 0x08), (10, 0xA1), (11, 0x57), (12, 15), (13, 0), (32, 16)]); let n : Fin 64 := 2; let d : Desc := nd s; let p : Nat := d.arg0 % 8; let h : List Byte := s.bytes d.addr 256;
    (s.starts n d 9 1) ∧ (p = d.arg0 % 8) ∧ (d.len = 256) ∧ (h = s.bytes d.addr 256) ∧ (s.inProgress p = false) ∧ (4 ≤ s.fld F.UPD_BUSY_NBUSY)) :=
  by and_intros <;> decide +kernel

/-- The further clauses of UpdateCommandsComplete. -/
theorem witness_UpdateCommandsComplete_2 :
   (let s : State := (W (ringQ { z with now := 10^10 } 9 1 256 0x20002000 7 0 0 0) [(F.UPD_BUSY_PARTS, 0), (F.UPD_BUSY_NBUSY, 0)]).setBytes 0x20002000 (bts 256 [(0, 0x44), (1, 0x47), (2, 0x4E), (3, 0x44), (4, 1), (6, 7), (8, 0x80), (9, 0x08), (10, 0xA1), (11, 0x57), (12, 15), (13, 0), (32, 16)]); let n : Fin 64 := 2; let d : Desc := nd s; let p : Nat := d.arg0 % 8; let h : List Byte := s.bytes d.addr 256;
    (s.starts n d 9 1) ∧ (p = d.arg0 % 8) ∧ (d.len = 256) ∧ (h = s.bytes d.addr 256) ∧ (s.inProgress p = false) ∧ (s.fld F.UPD_BUSY_NBUSY < 4) ∧ ((s.firstDenied (engine 19) .read d.addr 256).isNone) ∧ (6 ≤ p)) ∧
   (let s : State := (W (ringQ { z with now := 10^10 } 9 1 256 0x20002000 5 0 0 0) [(F.UPD_BUSY_PARTS, 0), (F.UPD_BUSY_NBUSY, 0)]).setBytes 0x20002000 (bts 256 [(0, 0x44), (1, 0x47), (2, 0x4E), (3, 0x44), (4, 1), (6, 4), (8, 0x80), (9, 0x08), (10, 0xA1), (11, 0x57), (12, 15), (13, 0), (32, 16)]); let n : Fin 64 := 2; let d : Desc := nd s; let p : Nat := d.arg0 % 8; let h : List Byte := s.bytes d.addr 256;
    (s.starts n d 9 1) ∧ (p = d.arg0 % 8) ∧ (d.len = 256) ∧ (h = s.bytes d.addr 256) ∧ (s.inProgress p = false) ∧ (s.fld F.UPD_BUSY_NBUSY < 4) ∧ ((s.firstDenied (engine 19) .read d.addr 256).isNone) ∧ (p < 6) ∧ (s.headerReason p h ≠ 0)) :=
  by and_intros <;> decide +kernel

/-- The further clauses of UpdateCommandsComplete. -/
theorem witness_UpdateCommandsComplete_3 :
   (let s : State := (W (ringQ { z with now := 10^10 } 9 1 256 0x20002000 5 0 0 0) [(F.UPD_BUSY_PARTS, 0), (F.UPD_BUSY_NBUSY, 0), (F.UPD_RBCNT_COUNT 5, 0), (F.UPD_KEYREV_REVOKED, 0), (F.UPD_PSTAT_STATE 5, 0), (F.UPD_PSTAT_ACTIVE 5, 0)]).setBytes 0x20002000 (bts 256 [(0, 0x44), (1, 0x47), (2, 0x4E), (3, 0x44), (4, 1), (6, 5), (8, 0x80), (9, 0x08), (10, 0xA1), (11, 0x57), (12, 15), (13, 0), (32, 16)]); let n : Fin 64 := 2; let d : Desc := nd s; let p : Nat := d.arg0 % 8; let h : List Byte := s.bytes d.addr 256;
    (s.starts n d 9 1) ∧ (p = d.arg0 % 8) ∧ (d.len = 256) ∧ (h = s.bytes d.addr 256) ∧ (s.inProgress p = false) ∧ (s.fld F.UPD_BUSY_NBUSY < 4) ∧ ((s.firstDenied (engine 19) .read d.addr 256).isNone) ∧ (p < 6) ∧ (s.headerReason p h = 0)) ∧
   (let s : State := ((W (ringQ { z with now := 10^10 } 9 2 16 0x20002000 5 1 0 0) [(F.UPD_PSTAT_STATE 5, 1), (F.UPD_PSTAT_ACTIVE 5, 0)]).setSlot 5 1 (.written (bts 256 [(0, 0x44), (1, 0x47), (2, 0x4E), (3, 0x44), (4, 1), (6, 5), (8, 0x80), (9, 0x08), (10, 0xA1), (11, 0x57), (12, 15), (13, 0), (32, 16)]))); let n : Fin 64 := 2; let d : Desc := nd s; let p : Nat := d.arg0 % 8; let bs : List Byte := (bts 256 [(0, 0x44), (1, 0x47), (2, 0x4E), (3, 0x44), (4, 1), (6, 5), (8, 0x80), (9, 0x08), (10, 0xA1), (11, 0x57), (12, 15), (13, 0), (32, 16)]);
    (p = d.arg0 % 8) ∧ (p < 6) ∧ (s.writing p) ∧ (s.slot p (s.inactSlot p) = .written bs) ∧ (s.starts n d 9 2) ∧ (d.len ≠ 0) ∧ (d.len ≤ 2 ^ 24) ∧ (256 + d.arg1 + d.len ≤ 368 + hPLEN bs) ∧ (d.arg1 ≠ bs.length - 256)) :=
  by and_intros <;> decide +kernel

/-- The further clauses of UpdateCommandsComplete. -/
theorem witness_UpdateCommandsComplete_4 :
   (let s : State := ((W (ringQ { z with now := 10^10 } 9 2 16 0x20002000 5 0 0 0) [(F.UPD_PSTAT_STATE 5, 1), (F.UPD_PSTAT_ACTIVE 5, 0)]).setSlot 5 1 (.written (bts 256 [(0, 0x44), (1, 0x47), (2, 0x4E), (3, 0x44), (4, 1), (6, 5), (8, 0x80), (9, 0x08), (10, 0xA1), (11, 0x57), (12, 15), (13, 0), (32, 16)]))); let n : Fin 64 := 2; let d : Desc := nd s; let p : Nat := d.arg0 % 8; let bs : List Byte := (bts 256 [(0, 0x44), (1, 0x47), (2, 0x4E), (3, 0x44), (4, 1), (6, 5), (8, 0x80), (9, 0x08), (10, 0xA1), (11, 0x57), (12, 15), (13, 0), (32, 16)]);
    (p = d.arg0 % 8) ∧ (p < 6) ∧ (s.writing p) ∧ (s.slot p (s.inactSlot p) = .written bs) ∧ (s.starts n d 9 2) ∧ (d.len ≠ 0) ∧ (d.len ≤ 2 ^ 24) ∧ (256 + d.arg1 + d.len ≤ 368 + hPLEN bs) ∧ (d.arg1 = bs.length - 256) ∧ ((s.firstDenied (engine 19) .read d.addr d.len).isNone)) ∧
   (let s : State := ((W (ringQ { z with now := 10^10 } 9 3 0 0x20002000 5 0 0 0) [(F.UPD_PSTAT_STATE 5, 1), (F.UPD_PSTAT_ACTIVE 5, 0)]).setSlot 5 1 (.written (bts 256 [(0, 0x44), (1, 0x47), (2, 0x4E), (3, 0x44), (4, 1), (6, 5), (8, 0x80), (9, 0x08), (10, 0xA1), (11, 0x57), (12, 15), (13, 0), (32, 16)]))); let n : Fin 64 := 2; let d : Desc := nd s; let p : Nat := d.arg0 % 8; let bs : List Byte := (bts 256 [(0, 0x44), (1, 0x47), (2, 0x4E), (3, 0x44), (4, 1), (6, 5), (8, 0x80), (9, 0x08), (10, 0xA1), (11, 0x57), (12, 15), (13, 0), (32, 16)]);
    (p = d.arg0 % 8) ∧ (p < 6) ∧ (s.writing p) ∧ (s.slot p (s.inactSlot p) = .written bs) ∧ (s.starts n d 9 3) ∧ (bs.length < 368 + hPLEN bs)) :=
  by and_intros <;> decide +kernel

/-- The further clauses of UpdateCommandsComplete. -/
theorem witness_UpdateCommandsComplete_5 :
   (let s : State := ((W (ringQ { z with now := 10^10 } 9 3 0 0x20002000 5 0 0 0) [(F.UPD_PSTAT_STATE 5, 1), (F.UPD_PSTAT_ACTIVE 5, 0)]).setSlot 5 1 (.written (bts 256 [(0, 0x44), (1, 0x47), (2, 0x4E), (3, 0x44), (4, 1), (6, 5), (8, 0x80), (9, 0x08), (10, 0xA1), (11, 0x57), (12, 15), (13, 0), (32, 16)] ++ List.replicate 128 0))); let n : Fin 64 := 2; let d : Desc := nd s; let p : Nat := d.arg0 % 8; let bs : List Byte := (bts 256 [(0, 0x44), (1, 0x47), (2, 0x4E), (3, 0x44), (4, 1), (6, 5), (8, 0x80), (9, 0x08), (10, 0xA1), (11, 0x57), (12, 15), (13, 0), (32, 16)] ++ List.replicate 128 0);
    (p = d.arg0 % 8) ∧ (p < 6) ∧ (s.writing p) ∧ (s.slot p (s.inactSlot p) = .written bs) ∧ (s.starts n d 9 3) ∧ (368 + hPLEN bs ≤ bs.length)) ∧
   (let s : State := ((W (ringQ { z with now := 10^10 } 9 4 0 0x20002000 5 0 0 0) [(F.UPD_PSTAT_STATE 5, 2), (F.UPD_PSTAT_ACTIVE 5, 0)]).setSlot 5 1 (.written (bts 256 [(0, 0x44), (1, 0x47), (2, 0x4E), (3, 0x44), (4, 1), (6, 5), (8, 0x80), (9, 0x08), (10, 0xA1), (11, 0x57), (12, 15), (13, 0), (32, 16)] ++ List.replicate 128 0))); let n : Fin 64 := 2; let d : Desc := nd s; let p : Nat := d.arg0 % 8;
    (s.starts n d 9 4) ∧ (p = d.arg0 % 8) ∧ (p < 6) ∧ (s.writing p ∨ s.pstate p = 2)) :=
  by and_intros <;> decide +kernel

/-- The further clauses of UpdateCommandsComplete. -/
theorem witness_UpdateCommandsComplete_6 :
   (let s : State := ((W (ringQ { z with now := 10^10 } 9 5 0 0x20002000 5 0 0 0) [(F.UPD_PSTAT_STATE 5, 2), (F.UPD_PSTAT_ACTIVE 5, 0)]).setSlot 5 1 (.written (bts 256 [(0, 0x44), (1, 0x47), (2, 0x4E), (3, 0x44), (4, 1), (6, 5), (8, 0x80), (9, 0x08), (10, 0xA1), (11, 0x57), (12, 15), (13, 0), (32, 16)] ++ List.replicate 128 0))); let n : Fin 64 := 2; let fails : BootFails := []; let d : Desc := nd s; let p : Nat := d.arg0 % 8;
    (s.starts n d 9 5) ∧ (p = d.arg0 % 8) ∧ (¬ ((p = 3 ∨ p = 4) ∧ s.pstate p = 2))) ∧
   (let s : State := ((W (ringQ { z with now := 10^10 } 9 5 0 0x20002000 3 0 0 0) [(F.UPD_PSTAT_STATE 3, 2), (F.UPD_PSTAT_ACTIVE 3, 0), (F.UPD_RBCNT_COUNT 3, 0), (F.UPD_KEYREV_REVOKED, 0)]).setSlot 3 1 (.written (bts 256 [(0, 0x44), (1, 0x47), (2, 0x4E), (3, 0x44), (4, 1), (6, 3), (8, 0x80), (9, 0x08), (10, 0xA1), (11, 0x57), (12, 15), (13, 0), (32, 16)] ++ List.replicate 128 0))); let n : Fin 64 := 2; let fails : BootFails := []; let d : Desc := nd s; let p : Nat := d.arg0 % 8;
    (s.starts n d 9 5) ∧ (p = d.arg0 % 8) ∧ (p = 3 ∨ p = 4) ∧ ((s.ring n).queue = 9) ∧ (s.pstate p = 2) ∧ (s.bootCheck fails p (s.inactSlot p) = 0)) :=
  by and_intros <;> decide +kernel

/-- The further clauses of UpdateCommandsComplete. -/
theorem witness_UpdateCommandsComplete_7 :
   (let s : State := ((W (ringQ { z with now := 10^10 } 9 6 0 0x20002000 5 0 0 0) [(F.UPD_PSTAT_STATE 5, 2), (F.UPD_PSTAT_ACTIVE 5, 0)]).setSlot 5 1 (.written (bts 256 [(0, 0x44), (1, 0x47), (2, 0x4E), (3, 0x44), (4, 1), (6, 5), (8, 0x80), (9, 0x08), (10, 0xA1), (11, 0x57), (12, 15), (13, 0), (32, 16)] ++ List.replicate 128 0))); let n : Fin 64 := 2; let d : Desc := nd s; let p : Nat := d.arg0 % 8;
    (s.starts n d 9 6) ∧ (p = d.arg0 % 8) ∧ (p < 6) ∧ (s.pstate p ≠ 3)) ∧
   (let s : State := ((W (ringQ { z with now := 10^10 } 9 6 0 0x20002000 5 0 0 0) [(F.UPD_PSTAT_STATE 5, 3), (F.UPD_PSTAT_ACTIVE 5, 0), (F.UPD_PSTAT_LINKED 5, 1)]).setSlot 5 1 (.written (bts 256 [(0, 0x44), (1, 0x47), (2, 0x4E), (3, 0x44), (4, 1), (6, 5), (8, 0x80), (9, 0x08), (10, 0xA1), (11, 0x57), (12, 15), (13, 0), (32, 16)] ++ List.replicate 128 0))); let n : Fin 64 := 2; let d : Desc := nd s; let p : Nat := d.arg0 % 8;
    (s.starts n d 9 6) ∧ (p = d.arg0 % 8) ∧ (p < 6) ∧ (s.pstate p = 3) ∧ (p = 5) ∧ (s.flag (F.UPD_PSTAT_LINKED 5))) :=
  by and_intros <;> decide +kernel

/-- The further clauses of UpdateCommandsComplete. -/
theorem witness_UpdateCommandsComplete_8 :
   (let s : State := ((W (ringQ { z with now := 10^10 } 9 6 0 0x20002000 2 0 0 0) [(F.UPD_PSTAT_STATE 2, 3), (F.UPD_PSTAT_ACTIVE 2, 0), (F.UPD_PSTAT_STATE 5, 3), (F.UPD_PSTAT_ACTIVE 5, 0), (F.UPD_PSTAT_LINKED 5, 1)]).setSlot 2 1 (.written (bts 256 [(0, 0x44), (1, 0x47), (2, 0x4E), (3, 0x44), (4, 1), (6, 5), (8, 0x80), (9, 0x08), (10, 0xA1), (11, 0x57), (12, 15), (13, 0), (32, 16)] ++ List.replicate 128 0))); let n : Fin 64 := 2; let d : Desc := nd s; let p : Nat := d.arg0 % 8;
    (s.starts n d 9 6) ∧ (p = d.arg0 % 8) ∧ (p < 6) ∧ (s.pstate p = 3) ∧ (p ≠ 5 ∨ s.flag (F.UPD_PSTAT_LINKED 5) = false)) ∧
   (let s : State := { { z with now := 10^10 } with pwr := { Pwr.init with seq := none } }; let acc : Acc := A8; let fails : BootFails := [];
    (s.takesWrite acc R.UPD_RESTART) ∧ (s.pwr.seq = none)) :=
  by and_intros <;> decide +kernel

/-- The further clauses of UpdateCommandsComplete. -/
theorem witness_UpdateCommandsComplete_9 :
   (let s : State := { { z with now := 10^10 } with pwr := { Pwr.init with seq := none } }; let acc : Acc := A8; let fails : BootFails := [];
    (s.takesWrite acc R.UPD_RESTART) ∧ (s.pwr.seq = none)) ∧
   (let s : State := z; let acc : Acc := A8; let k : BitVec 4 := 0xF;
    (s.takesWrite acc R.UPD_KEYREV)) :=
  by and_intros <;> decide +kernel

/-- Every clause of EventRecorderCommandsComplete has a state and operands that meet its hypotheses. -/
theorem witness_EventRecorderCommandsComplete :
   (let s : State := { W { z with now := 10^10 } [(F.EVR_CTL_EN, 0)] with evr := { Evr.init with intake := [⟨0x1302, [1, 2], 9999999999, false, 9999999999, false⟩] } }; let e : Event := ⟨0x1302, [1, 2], 9999999999, false, 9999999999, false⟩; let rest : List Event := [];
    (s.evr.intake = e :: rest) ∧ (s.flag F.EVR_CTL_EN = false ∨ s.flag F.EVR_STAT_FULL)) ∧
   (let s : State := { W { z with now := 10^10 } [(F.EVR_CTL_EN, 1), (F.EVR_STAT_FULL, 0), (F.EVR_RECCFG_FLUSHT, 1000)] with evr := { Evr.init with intake := [⟨0x1302, [1, 2], 9999999999, false, 9999999999, false⟩], open_ := some ⟨0x1302, false, false, 3, 0, 12345, [1, 2], 9999999990⟩ } }; let e : Event := ⟨0x1302, [1, 2], 9999999999, false, 9999999999, false⟩; let rest : List Event := []; let r : EvRec := ⟨0x1302, false, false, 3, 0, 12345, [1, 2], 9999999990⟩;
    (s.evr.intake = e :: rest) ∧ (s.flag F.EVR_CTL_EN) ∧ (s.flag F.EVR_STAT_FULL = false) ∧ (s.evr.lost = 0) ∧ (s.evr.open_ = some r) ∧ (s.folds e) ∧ (r.rep + 1 < 65535)) ∧
   (let s : State := { W { z with now := 10^10 } [(F.EVR_CTL_EN, 1), (F.EVR_STAT_FULL, 0), (F.EVR_RECCFG_FLUSHT, 1000)] with evr := { Evr.init with intake := [⟨0x1302, [1, 2], 9999999999, false, 9999999999, false⟩] } }; let e : Event := ⟨0x1302, [1, 2], 9999999999, false, 9999999999, false⟩; let rest : List Event := [];
    (s.evr.intake = e :: rest) ∧ (s.flag F.EVR_CTL_EN) ∧ (s.flag F.EVR_STAT_FULL = false) ∧ (s.evr.lost = 0) ∧ (s.folds e = false) ∧ (s.evr.used + e.toRec.size ≤ 262144) ∧ (s.fld F.EVR_RECCFG_FLUSHT ≠ 0)) ∧
   (let s : State := { W { z with now := 10^10 } [(F.EVR_CTL_EN, 1), (F.EVR_STAT_FULL, 0), (F.EVR_RECCFG_FLUSHT, 1000)] with evr := { Evr.init with open_ := some ⟨0x1302, false, false, 3, 0, 12345, [1, 2], 5⟩ } }; let r : EvRec := ⟨0x1302, false, false, 3, 0, 12345, [1, 2], 5⟩;
    (s.evr.open_ = some r) ∧ (s.elapsed r.mtb (1000000 * s.fld F.EVR_RECCFG_FLUSHT))) ∧
   (let s : State := { W { z with now := 10^10 } [(F.EVR_CTL_EN, 1), (F.EVR_STAT_FULL, 0), (F.EVR_RECCFG_FLUSHT, 1000)] with evr := { Evr.init with open_ := some ⟨0x1302, false, false, 3, 0, 12345, [1, 2], 9999999999⟩ } }; let r : EvRec := ⟨0x1302, false, false, 3, 0, 12345, [1, 2], 9999999999⟩;
    (s.evr.open_ = some r) ∧ (s.elapsed r.mtb (1000000 * s.fld F.EVR_RECCFG_FLUSHT) = false)) ∧
   (let s : State := { W { z with now := 10^10 } [(F.EVR_CTL_EN, 1), (F.EVR_STAT_FULL, 0), (F.EVR_CTL_FREEZE, 0)] with evr := { Evr.init with staged := [⟨0x1302, false, false, 3, 0, 12345, [1, 2], 5⟩] } }; let r : EvRec := ⟨0x1302, false, false, 3, 0, 12345, [1, 2], 5⟩; let rest : List EvRec := [];
    (s.evr.staged = r :: rest) ∧ (s.journalOpen) ∧ (s.evr.journal.length + r.size ≤ 268435456 - 64)) ∧
   (let s : State := { W { z with now := 10^10 } [(F.EVR_STAT_FULL, 1)] with evr := { Evr.init with staged := [⟨0x1302, false, false, 3, 0, 12345, [1, 2], 5⟩] } }; let r : EvRec := ⟨0x1302, false, false, 3, 0, 12345, [1, 2], 5⟩; let rest : List EvRec := [];
    (s.evr.staged = r :: rest) ∧ (s.journalOpen = false)) ∧
   (let s : State := { W (ringQ { z with now := 10^10 } 8 1 8 0x20002000 4 0 0 0) [] with evr := { Evr.init with journal := [1,2,3,4,5,6,7,8,9,10,11,12,13] } }; let n : Fin 64 := 2; let d : Desc := nd s; let bs : List Byte := (s.evr.journal.drop d.arg0).take d.len;
    (s.starts n d 8 1) ∧ (d.len ≠ 0) ∧ (d.len % 4 = 0) ∧ (d.len ≤ 2 ^ 24) ∧ (d.arg0 % 4 = 0) ∧ (bs = (s.evr.journal.drop d.arg0).take d.len) ∧ ((s.firstDenied (engine 18) .write d.addr bs.length).isNone)) ∧
   (let s : State := { W (ringQ { z with now := 10^10 } 8 2 32 0x20002000 0 0 0 0) [] with evr := { Evr.init with staged := [⟨0x1302, false, false, 3, 0, 12345, [1, 2], 5⟩], open_ := some ⟨0x1302, false, false, 3, 0, 12345, [1, 2], 9⟩ } }; let n : Fin 64 := 2; let d : Desc := nd s; let bs : List Byte := wholeRecs d.len (s.evr.staged ++ s.evr.open_.toList);
    (s.starts n d 8 2) ∧ (d.len ≠ 0) ∧ (d.len % 4 = 0) ∧ (bs = wholeRecs d.len (s.evr.staged ++ s.evr.open_.toList)) ∧ ((s.firstDenied (engine 18) .write d.addr bs.length).isNone)) ∧
   (let s : State := { W ((ringQ { z with now := 10^10 } 8 3 40 0x20002000 0 0 0 0).setBytes 0x20002000 (bts 24 [(0, 11)])) [(F.EVR_CTL_EN, 1), (F.EVR_STAT_FULL, 0)] with evr := { Evr.init with  } }; let n : Fin 64 := 2; let d : Desc := nd s; let bs : List Byte := s.bytes d.addr d.len; let len : Nat := field bs 0 2 % 512;
    (s.starts n d 8 3) ∧ (d.len ≠ 0) ∧ (d.len % 4 = 0) ∧ ((s.firstDenied (engine 18) .read d.addr d.len).isNone) ∧ (bs = s.bytes d.addr d.len) ∧ (len = field bs 0 2 % 512) ∧ (field bs 2 2 < 0xF000 ∨ len < 5 ∨ 257 < len ∨ d.len ≠ 4 * len - 4)) :=
  by and_intros <;> decide +kernel

/-- The further clauses of EventRecorderCommandsComplete. -/
theorem witness_EventRecorderCommandsComplete_2 :
   (let s : State := { W ((ringQ { z with now := 10^10 } 8 3 40 0x20002000 0 0 0 0).setBytes 0x20002000 ((bts 24 [(0, 11), (2, 0x34), (3, 0xF2), (16, 1), (20, 2)] ++ List.replicate 16 0))) [(F.EVR_CTL_EN, 1), (F.EVR_STAT_FULL, 0), (F.EVR_RECCFG_FLUSHT, 1000)] with evr := { Evr.init with  } }; let n : Fin 64 := 2; let d : Desc := nd s; let bs : List Byte := s.bytes d.addr d.len; let len : Nat := field bs 0 2 % 512;
    (s.starts n d 8 3) ∧ (d.len ≠ 0) ∧ (d.len % 4 = 0) ∧ ((s.firstDenied (engine 18) .read d.addr d.len).isNone) ∧ (bs = s.bytes d.addr d.len) ∧ (len = field bs 0 2 % 512) ∧ (0xF000 ≤ field bs 2 2) ∧ (5 ≤ len) ∧ (len ≤ 257) ∧ (d.len = 4 * len - 4) ∧ (s.flag F.EVR_CTL_EN) ∧ (s.flag F.EVR_STAT_FULL = false) ∧ (s.evr.intake = []) ∧ (s.evr.lost = 0) ∧ (s.evr.open_ = none) ∧ (s.evr.used + 4 * len ≤ 262144) ∧ (s.fld F.EVR_RECCFG_FLUSHT ≠ 0)) ∧
   (let s : State := { W (ringQ { z with now := 10^10 } 8 4 4 0 0 0 0 0) [(F.EVR_CTL_FREEZE, 1)] with evr := { Evr.init with  } }; let n : Fin 64 := 2; let d : Desc := nd s;
    (s.starts n d 8 4) ∧ (d.len ≠ 0) ∧ (d.len % 4 = 0) ∧ (s.flag F.EVR_CTL_FREEZE)) ∧
   (let s : State := { W (ringQ { z with now := 10^10 } 8 4 4 0 0 0 0 0) [(F.EVR_CTL_FREEZE, 0), (F.EVR_STAT_FULL, 1)] with evr := { Evr.init with  } }; let n : Fin 64 := 2; let d : Desc := nd s;
    (s.starts n d 8 4) ∧ (d.len ≠ 0) ∧ (d.len % 4 = 0) ∧ (s.flag F.EVR_CTL_FREEZE = false) ∧ (s.flag F.EVR_STAT_FULL)) ∧
   (let s : State := { W (ringQ { z with now := 10^10 } 8 4 4 0 0 0 0 0) [(F.EVR_CTL_FREEZE, 0), (F.EVR_STAT_FULL, 0)] with evr := { Evr.init with open_ := some ⟨0x1302, false, false, 3, 0, 12345, [1, 2], 9⟩ } }; let n : Fin 64 := 2; let d : Desc := nd s;
    (s.starts n d 8 4) ∧ (d.len ≠ 0) ∧ (d.len % 4 = 0) ∧ (s.flag F.EVR_CTL_FREEZE = false) ∧ (s.flag F.EVR_STAT_FULL = false)) ∧
   (let s : State := { W (ringQ { z with now := 10^10 } 8 5 4 0 0 0 0 0) [(F.EVR_CTL_FREEZE, 1)] with evr := { Evr.init with  } }; let n : Fin 64 := 2; let d : Desc := nd s;
    (s.starts n d 8 5) ∧ (d.len ≠ 0) ∧ (d.len % 4 = 0) ∧ (s.flag F.EVR_CTL_FREEZE)) ∧
   (let s : State := { W (ringQ { z with now := 10^10 } 8 5 4 0 0 0 0 0) [(F.EVR_CTL_FREEZE, 0), (F.EVR_STAT_FULL, 1)] with evr := { Evr.init with journal := [1, 2] } }; let n : Fin 64 := 2; let d : Desc := nd s;
    (s.starts n d 8 5) ∧ (d.len ≠ 0) ∧ (d.len % 4 = 0) ∧ (s.flag F.EVR_CTL_FREEZE = false)) ∧
   (let s : State := z; let acc : Acc := A8;
    (s.takesWrite acc R.EVR_CTL)) ∧
   (let s : State := W z [(F.EVR_CTL_FREEZE, 1)]; let acc : Acc := A8;
    (s.takesWrite acc R.EVR_CTL)) ∧
   (let s : State := { W { z with now := 10^10 } [(F.EVR_CTL_FREEZE, 1), (F.EVR_RECCFG_FRZTO, 1)] with evr := { Evr.init with freezeAt := some 5 } }; let t0 : Nat := 5;
    (s.evr.freezeAt = some t0) ∧ (s.flag F.EVR_CTL_FREEZE) ∧ (s.fld F.EVR_RECCFG_FRZTO ≠ 0) ∧ (s.elapsed t0 (1000000000 * s.fld F.EVR_RECCFG_FRZTO))) ∧
   (let s : State := { W { z with now := 10^10 } [(F.EVR_CTL_FREEZE, 1), (F.EVR_RECCFG_FRZTO, 1)] with evr := { Evr.init with freezeAt := some (10^10 - 1) } }; let t0 : Nat := 10^10 - 1;
    (s.evr.freezeAt = some t0) ∧ (s.flag F.EVR_CTL_FREEZE) ∧ (s.fld F.EVR_RECCFG_FRZTO ≠ 0) ∧ (s.elapsed t0 (1000000000 * s.fld F.EVR_RECCFG_FRZTO) = false)) :=
  by and_intros <;> decide +kernel

/-- Every clause of ResetCommandsComplete has a state and operands that meet its hypotheses. -/
theorem witness_ResetCommandsComplete :
   (let s : State := { W { z with now := 10^10 } [] with pwr := { Pwr.init with seq := none } };
    (s.pwr.seq ≠ some .por)) ∧
   (let s : State := { W { z with now := 10^10 } [] with pwr := { Pwr.init with seq := some .por } };
    (s.pwr.seq = some .por)) ∧
   (let s : State := { W { z with now := 10^10 } [] with pwr := { Pwr.init with seq := some .mod } }; let kl30 : BitVec 16 := 4699; let ign : BitVec 16 := 0; let ms : BitVec 16 := 10;
    (max kl30.toNat ign.toNat < 4700) ∧ (10 ≤ ms.toNat) ∧ (s.pwr.seq ≠ some .por) ∧ (s.pwr.seq ≠ some .bor)) ∧
   (let s : State := { W { z with now := 10^10 } [] with pwr := { Pwr.init with seq := none } }; let kl30 : BitVec 16 := 4700; let ign : BitVec 16 := 0; let ms : BitVec 16 := 65535;
    (4700 ≤ max kl30.toNat ign.toNat ∨ ms.toNat < 10)) ∧
   (let s : State := { W { z with now := 10^10 } [] with pwr := { Pwr.init with seq := none } }; let ns : BitVec 32 := 10000;
    (10000 ≤ ns.toNat) ∧ (s.pwr.seq = none)) ∧
   (let s : State := { W { z with now := 10^10 } [] with pwr := { Pwr.init with seq := none } }; let ns : BitVec 32 := 9999;
    (1000 ≤ ns.toNat) ∧ (ns.toNat < 10000) ∧ (s.pwr.seq = none)) ∧
   (let s : State := { W { z with now := 10^10 } [] with pwr := { Pwr.init with seq := none } }; let ns : BitVec 32 := 999;
    (ns.toNat < 1000)) ∧
   (let s : State := { W { z with now := 10^10 } [(F.PWRM_DOMSTAT_ON, 0x3FFF)] with pwr := { Pwr.init with seq := none } };
    (s.pwr.seq = none) ∧ (s.domOn .rtx)) ∧
   (let s : State := { W { z with now := 10^10 } [] with pwr := { Pwr.init with seq := none } }; let temp : BitVec 16 := 131; let ms : BitVec 16 := 1;
    (130 < temp.toInt) ∧ (1 ≤ ms.toNat) ∧ (s.pwr.seq = none)) ∧
   (let s : State := { W { z with now := 10^10 } [] with pwr := { Pwr.init with seq := some .bor } }; let temp : BitVec 16 := 131; let ms : BitVec 16 := 1; let q : ResetKind := .bor;
    (130 < temp.toInt) ∧ (1 ≤ ms.toNat) ∧ (s.pwr.seq = some q) ∧ (2 ≤ q.strength)) :=
  by and_intros <;> decide +kernel

/-- The further clauses of ResetCommandsComplete. -/
theorem witness_ResetCommandsComplete_2 :
   (let s : State := { W { z with now := 10^10 } [] with pwr := { Pwr.init with seq := none } }; let temp : BitVec 16 := 130; let ms : BitVec 16 := 1;
    (temp.toInt ≤ 130 ∨ ms.toNat = 0)) ∧
   (let s : State := { W { z with now := 10^10 } [(F.PWRM_DOMSTAT_ON, 0x3FFF)] with pwr := { Pwr.init with seq := none } }; let upd : Bool := true; let cause : Fin 3 := 0; let fails : BootFails := [];
    (s.pwr.seq = none)) ∧
   (let s : State := { W { z with now := 10^10 } [(F.PWRM_DOMSTAT_ON, 0x3FFF)] with pwr := { Pwr.init with seq := none } }; let upd : Bool := true; let cause : Fin 3 := 2; let fails : BootFails := [];
    (s.pwr.seq = none)) ∧
   (let s : State := { W { z with now := 10^10 } [] with pwr := { Pwr.init with seq := none } }; let acc : Acc := A8; let key : BitVec 16 := 0x5253; let fails : BootFails := [];
    (s.takesWrite acc R.RST_CMD) ∧ (key.toNat = 0x5253) ∧ (s.pwr.seq = none)) ∧
   (let s : State := { W { z with now := 10^10 } [(F.PWRM_DOMSTAT_ON, 0x3FFF)] with pwr := { Pwr.init with seq := none } }; let acc : Acc := A8; let key : BitVec 16 := 0x5253; let fails : BootFails := [];
    (s.takesWrite acc R.RST_CMD) ∧ (key.toNat = 0x5253) ∧ (s.pwr.seq = none)) ∧
   (let s : State := { W { z with now := 10^10 } [(F.PWRM_DOMSTAT_ON, 0x3FFF)] with pwr := { Pwr.init with seq := none } }; let acc : Acc := A8; let key : BitVec 16 := 0x5253; let fails : BootFails := [];
    (s.takesWrite acc R.RST_CMD) ∧ (key.toNat = 0x5253) ∧ (s.pwr.seq = none)) ∧
   (let s : State := { W { z with now := 10^10 } [] with pwr := { Pwr.init with seq := none } }; let acc : Acc := A8; let key : BitVec 16 := 0x5252; let fails : BootFails := [];
    (s.takesWrite acc R.RST_CMD) ∧ (key.toNat ≠ 0x5253)) ∧
   (let s : State := { W { z with now := 10^10 } [] with pwr := { Pwr.init with seq := none } }; let acc : Acc := A8; let key : BitVec 16 := 0x5252; let fails : BootFails := [];
    (s.takesWrite acc R.RST_CMD) ∧ (key.toNat ≠ 0x5253)) ∧
   (let s : State := { W { z with now := 10^10 } [] with pwr := { Pwr.init with seq := none } }; let acc : Acc := A8; let key : BitVec 16 := 0x5252; let fails : BootFails := [];
    (s.takesWrite acc R.RST_CMD) ∧ (key.toNat ≠ 0x5253)) ∧
   (let s : State := { W { z with now := 10^10 } [] with pwr := { Pwr.init with seq := none } }; let kl30 : BitVec 16 := 65535; let ms : BitVec 16 := 65535; let fails : BootFails := [];
    (s.pwr.seq = none ∨ kl30.toNat < 6000 ∨ ms.toNat < 10)) :=
  by and_intros <;> decide +kernel

/-- The further clauses of ResetCommandsComplete. -/
theorem witness_ResetCommandsComplete_3 :
   (let s : State := { W { z with now := 10^10 } [] with pwr := { Pwr.init with seq := some .por } }; let kl30 : BitVec 16 := 6000; let ms : BitVec 16 := 10; let fails : BootFails := [];
    (s.pwr.seq.isSome) ∧ (6000 ≤ kl30.toNat) ∧ (10 ≤ ms.toNat) ∧ (s.pwr.wake = false) ∧ (s.pstate 0 = 0) ∧ (s.bootCheck fails 0 (s.actSlot 0) = 0)) ∧
   (let s : State := { W { z with now := 10^10 } [(F.PWRM_DOMSTAT_ON, 0x3FFF)] with pwr := { Pwr.init with hb := false, hbAt := 5 } }; let d : Fin 2 := 1;
    (s.domOn (dieDom d)) ∧ (s.pwr.hb ∨ s.elapsed s.pwr.hbAt 30000)) ∧
   (let s : State := { W { z with now := 10^10 } [] with pwr := { Pwr.init with seq := none } }; let acc : Acc := A8; let w : Fin 2 := 1; let v : Word := 0x00010010;
    (s.takesWrite acc (R.RST_WDCFG w))) ∧
   (let s : State := { W { z with now := 10^10 } [(F.RST_WDCFG_EN 1, 0)] with pwr := { Pwr.init with seq := none } }; let acc : Acc := A8; let w : Fin 2 := 1; let v : Word := 0; let fails : BootFails := [];
    (s.takesWrite acc (R.RST_WDKICK w)) ∧ (s.wdCounts w = false)) ∧
   (let s : State := { W { z with now := 10^10 } [(F.PWRM_DOMSTAT_ON, 0x3FFF), (F.RST_WDCFG_EN 1, 1)] with pwr := { Pwr.init with seq := none } }; let acc : Acc := A8; let w : Fin 2 := 1; let v : Word := 0x0000A5A5; let fails : BootFails := [];
    (s.takesWrite acc (R.RST_WDKICK w)) ∧ (s.wdCounts w) ∧ (v = 0x0000A5A5)) ∧
   (let s : State := { W { z with now := 10^10 } [(F.PWRM_DOMSTAT_ON, 0x3FFF), (F.RST_WDCFG_EN 1, 1)] with pwr := { Pwr.init with seq := none } }; let acc : Acc := A8; let w : Fin 2 := 1; let v : Word := 0; let fails : BootFails := [];
    (s.takesWrite acc (R.RST_WDKICK w)) ∧ (s.wdCounts w) ∧ (v ≠ 0x0000A5A5)) ∧
   (let s : State := { W { z with now := 10^10 } [(F.PWRM_DOMSTAT_ON, 0x3FFF), (F.RST_WDCFG_EN 1, 1), (F.RST_WDCFG_TO 1, 100), (F.RST_WDCFG_WARN 1, 50)] with pwr := { Pwr.init with seq := none } }; let w : Fin 2 := 1;
    (s.wdCounts w) ∧ (s.fld (F.RST_WDCFG_WARN w) ≠ 0) ∧ ((s.wd w).warned = false) ∧ (s.fld (F.RST_WDCFG_TO w) * 1000000 * s.fld (F.RST_WDCFG_WARN w) ≤ (s.now - (s.wd w).since) * 100)) ∧
   (let s : State := { W { z with now := 10^10 } [(F.PWRM_DOMSTAT_ON, 0x3FFF), (F.RST_WDCFG_EN 0, 1), (F.RST_WDCFG_TO 0, 100)] with pwr := { Pwr.init with seq := none } }; let w : Fin 2 := 0; let fails : BootFails := [];
    (s.wdCounts w) ∧ (s.elapsed (s.wd w).since (s.fld (F.RST_WDCFG_TO w) * 1000000))) ∧
   (let s : State := { W { z with now := 10^10 } [(F.PWRM_DOMSTAT_ON, 0x3FFF), (F.RST_WDCFG_EN 0, 1), (F.RST_WDCFG_TO 0, 60000)] with pwr := { Pwr.init with seq := none } }; let w : Fin 2 := 0; let fails : BootFails := [];
    (s.wdCounts w) ∧ (s.elapsed (s.wd w).since (s.fld (F.RST_WDCFG_TO w) * 1000000) = false)) :=
  by and_intros <;> decide +kernel

/-- Every clause of PowerCommandsComplete has a state and operands that meet its hypotheses. -/
theorem witness_PowerCommandsComplete :
   (let s : State := { W { z with now := 10^10 } [(F.PWRM_DOMSTAT_ON, 0x3FFF), (F.PWRM_STATE_CUR, 0), (F.PWRM_STATE_BUSY, 0), (F.PWRM_STATE_TRIMSUP, 0)] with pwr := { Pwr.init with seq := none } }; let kl30 : BitVec 16 := 9200; let us : BitVec 16 := 1000;
    (kl30.toNat ≤ 9200) ∧ (1000 ≤ us.toNat) ∧ (s.flag F.PWRM_STATE_TRIMSUP = false) ∧ (s.powerState ≤ 2)) ∧
   (let s : State := { W { z with now := 10^10 } [(F.PWRM_DOMSTAT_ON, 0x3FFF), (F.PWRM_STATE_CUR, 0), (F.PWRM_STATE_BUSY, 0)] with pwr := { Pwr.init with seq := none } }; let kl30 : BitVec 16 := 9201; let us : BitVec 16 := 1000;
    (9200 < kl30.toNat ∨ us.toNat < 1000)) ∧
   (let s : State := { W { z with now := 10^10 } [(F.PWRM_DOMSTAT_ON, 0x3FFF), (F.PWRM_STATE_CUR, 1), (F.PWRM_STATE_BUSY, 0), (F.PWRM_STATE_TRIMSUP, 1), (F.PWRM_WSCTL_EN, 0)] with pwr := { Pwr.init with seq := none } }; let kl30 : BitVec 16 := 9300; let ms : BitVec 16 := 100;
    (9300 ≤ kl30.toNat) ∧ (100 ≤ ms.toNat) ∧ (s.flag F.PWRM_STATE_TRIMSUP) ∧ (s.flag F.PWRM_WSCTL_EN = false)) ∧
   (let s : State := { W { z with now := 10^10 } [(F.PWRM_DOMSTAT_ON, 0x3FFF), (F.PWRM_STATE_CUR, 1), (F.PWRM_STATE_BUSY, 0), (F.PWRM_STATE_TRIMSUP, 1)] with pwr := { Pwr.init with seq := none } }; let kl30 : BitVec 16 := 9299; let ms : BitVec 16 := 100;
    (kl30.toNat < 9300 ∨ ms.toNat < 100)) ∧
   (let s : State := { W { z with now := 10^10 } [(F.PWRM_DOMSTAT_ON, 0x3FFF), (F.PWRM_STATE_CUR, 0), (F.PWRM_STATE_BUSY, 0)] with pwr := { Pwr.init with seq := none } }; let kl30 : BitVec 16 := 6000; let us : BitVec 16 := 50;
    (kl30.toNat ≤ 6000) ∧ (50 ≤ us.toNat) ∧ (s.pwr.seq = none) ∧ (s.fld F.PWRM_DOMSTAT_ON ≠ 1)) ∧
   (let s : State := { W { z with now := 10^10 } [(F.PWRM_DOMSTAT_ON, 0x3FFF), (F.PWRM_STATE_CUR, 0), (F.PWRM_STATE_BUSY, 0)] with pwr := { Pwr.init with seq := none } }; let kl30 : BitVec 16 := 6001; let us : BitVec 16 := 50;
    (6000 < kl30.toNat ∨ us.toNat < 50)) ∧
   (let s : State := { W z [(F.PWRM_DOMSTAT_ON, 0x3FFF), (F.PWRM_STATE_CUR, 0), (F.PWRM_STATE_BUSY, 0), (F.PWRM_STATE_TRIMSUP, 0)] with pwr := { Pwr.init with seq := none } }; let d : Fin 2 := 1; let kl30 : BitVec 16 := 4999; let ms : BitVec 16 := 0;
    (s.domOn (dieDom d)) ∧ (s.cut d = 0) ∧ (kl30.toNat < 5000)) ∧
   (let s : State := ({ W z [(F.PWRM_DOMSTAT_ON, 0x3FFF), (F.PWRM_STATE_CUR, 0), (F.PWRM_STATE_BUSY, 0)] with pwr := { Pwr.init with seq := none } } : State).dieLow 1; let d : Fin 2 := 1; let kl30 : BitVec 16 := 6001; let ms : BitVec 16 := 10;
    (s.domOn (dieDom d)) ∧ (s.cut d = 3) ∧ (6000 < kl30.toNat) ∧ (10 ≤ ms.toNat)) ∧
   (let s : State := { W { z with now := 10^10 } [(F.PWRM_DOMSTAT_ON, 0x3FFF), (F.PWRM_STATE_CUR, 0), (F.PWRM_STATE_BUSY, 0)] with pwr := { Pwr.init with seq := none } }; let d : Fin 2 := 1; let kl30 : BitVec 16 := 5000; let ms : BitVec 16 := 0;
    (s.domOn (dieDom d)) ∧ (5000 ≤ kl30.toNat)) ∧
   (let s : State := { W { z with now := 10^10 } [(F.PWRM_DOMSTAT_ON, 0x3FFF), (F.PWRM_STATE_CUR, 2), (F.PWRM_STATE_BUSY, 0), (F.PWRM_STAT_IGNLVL, 0), (F.PWRM_WAKECFG_IGNDB, 20), (F.PWRM_WAKECFG_IGN, 1)] with pwr := { Pwr.init with seq := none } }; let level : Bool := true; let mv : BitVec 16 := 6500; let ms : BitVec 16 := 20;
    (s.flag F.PWRM_STAT_IGNLVL ≠ level) ∧ ((if level then 6500 ≤ mv.toNat else mv.toNat ≤ 4500)) ∧ (s.fld F.PWRM_WAKECFG_IGNDB ≤ ms.toNat)) :=
  by and_intros <;> decide +kernel

/-- The further clauses of PowerCommandsComplete. -/
theorem witness_PowerCommandsComplete_2 :
   (let s : State := { W { z with now := 10^10 } [(F.PWRM_DOMSTAT_ON, 0x3FFF), (F.PWRM_STATE_CUR, 2), (F.PWRM_STATE_BUSY, 0), (F.PWRM_STAT_IGNLVL, 1)] with pwr := { Pwr.init with seq := none } }; let level : Bool := true; let mv : BitVec 16 := 6500; let ms : BitVec 16 := 20;
    (s.flag F.PWRM_STAT_IGNLVL = level ∨ ms.toNat < s.fld F.PWRM_WAKECFG_IGNDB)) ∧
   (let s : State := { W { z with now := 10^10 } [(F.PWRM_DOMSTAT_ON, 0x3FFF), (F.PWRM_STATE_CUR, 0), (F.PWRM_STATE_BUSY, 0)] with pwr := { Pwr.init with seq := none } }; let acc : Acc := A8; let key : BitVec 16 := 0x5056; let fails : BootFails := [];
    (s.takesWrite acc R.PWRM_REQ) ∧ (s.mayRequest acc (reqWord key 0) = false)) ∧
   (let s : State := { W { z with now := 10^10 } [(F.PWRM_DOMSTAT_ON, 0x3FFF), (F.PWRM_STATE_CUR, 0), (F.PWRM_STATE_BUSY, 0)] with pwr := { Pwr.init with seq := none } }; let acc : Acc := A8; let key : BitVec 16 := 0x5056; let fails : BootFails := [];
    (s.takesWrite acc R.PWRM_REQ) ∧ (s.mayRequest acc (reqWord key 1) = false)) ∧
   (let s : State := { W { z with now := 10^10 } [(F.PWRM_DOMSTAT_ON, 0x3FFF), (F.PWRM_STATE_CUR, 0), (F.PWRM_STATE_BUSY, 0)] with pwr := { Pwr.init with seq := none } }; let acc : Acc := A8; let key : BitVec 16 := 0x5056; let fails : BootFails := [];
    (s.takesWrite acc R.PWRM_REQ) ∧ (s.mayRequest acc (reqWord key 2) = false)) ∧
   (let s : State := { W { z with now := 10^10 } [(F.PWRM_DOMSTAT_ON, 0x3FFF), (F.PWRM_STATE_CUR, 0), (F.PWRM_STATE_BUSY, 0)] with pwr := { Pwr.init with seq := none } }; let acc : Acc := A8; let key : BitVec 16 := 0x5056; let fails : BootFails := [];
    (s.takesWrite acc R.PWRM_REQ) ∧ (s.mayRequest acc (reqWord key 3) = false)) ∧
   (let s : State := { W { z with now := 10^10 } [(F.PWRM_DOMSTAT_ON, 0x3FFF), (F.PWRM_STATE_CUR, 0), (F.PWRM_STATE_BUSY, 0)] with pwr := { Pwr.init with seq := none } }; let acc : Acc := A8; let key : BitVec 16 := 0x5056; let fails : BootFails := [];
    (s.takesWrite acc R.PWRM_REQ) ∧ (s.mayRequest acc (reqWord key 4) = false)) ∧
   (let s : State := { W { z with now := 10^10 } [(F.PWRM_DOMSTAT_ON, 0x3FFF), (F.PWRM_STATE_CUR, 2), (F.PWRM_STATE_BUSY, 0), (F.PWRM_WSCTL_EN, 0), (F.PWRM_STATE_TRIMSUP, 0)] with pwr := { Pwr.init with seq := none } }; let acc : Acc := A8; let key : BitVec 16 := 0x5057; let fails : BootFails := [];
    (s.takesWrite acc R.PWRM_REQ) ∧ (s.mayRequest acc (reqWord key 0)) ∧ (s.flag F.PWRM_WSCTL_EN = false)) ∧
   (let s : State := { W { z with now := 10^10 } [(F.PWRM_DOMSTAT_ON, 0x3FFF), (F.PWRM_STATE_CUR, 0), (F.PWRM_STATE_BUSY, 0)] with pwr := { Pwr.init with seq := none } }; let acc : Acc := A8; let key : BitVec 16 := 0x5057; let fails : BootFails := [];
    (s.takesWrite acc R.PWRM_REQ) ∧ (s.mayRequest acc (reqWord key 1))) ∧
   (let s : State := { W { z with now := 10^10 } [(F.PWRM_DOMSTAT_ON, 0x3FFF), (F.PWRM_STATE_CUR, 1), (F.PWRM_STATE_BUSY, 0), (F.DSP_PSTAT_STATE 0, 0), (F.DSP_PSTAT_STATE 1, 0)] with pwr := { Pwr.init with seq := none } }; let acc : Acc := A8; let key : BitVec 16 := 0x5057; let fails : BootFails := [];
    (s.takesWrite acc R.PWRM_REQ) ∧ (s.mayRequest acc (reqWord key 2)) ∧ (s.panelsLive = false)) ∧
   (let s : State := { W { z with now := 10^10 } [(F.PWRM_DOMSTAT_ON, 0x3FFF), (F.PWRM_STATE_CUR, 1), (F.PWRM_STATE_BUSY, 0), (F.DSP_PSTAT_STATE 0, 3), (F.DSP_PSTAT_STATE 1, 0)] with pwr := { Pwr.init with seq := none } }; let acc : Acc := A8; let key : BitVec 16 := 0x5057; let fails : BootFails := [];
    (s.takesWrite acc R.PWRM_REQ) ∧ (s.mayRequest acc (reqWord key 2)) ∧ (s.panelsLive)) :=
  by and_intros <;> decide +kernel

/-- The further clauses of PowerCommandsComplete. -/
theorem witness_PowerCommandsComplete_3 :
   (let s : State := { W { z with now := 10^10 } [(F.PWRM_DOMSTAT_ON, 0x3FFF), (F.PWRM_STATE_CUR, 1), (F.PWRM_STATE_BUSY, 0), (F.DSP_PSTAT_STATE 0, 0), (F.DSP_PSTAT_STATE 1, 0)] with pwr := { Pwr.init with seq := none } }; let acc : Acc := A8; let key : BitVec 16 := 0x5057; let fails : BootFails := [];
    (s.takesWrite acc R.PWRM_REQ) ∧ (s.mayRequest acc (reqWord key 3)) ∧ (s.panelsLive = false)) ∧
   (let s : State := { W { z with now := 10^10 } [(F.PWRM_DOMSTAT_ON, 0x3FFF), (F.PWRM_STATE_CUR, 1), (F.PWRM_STATE_BUSY, 0), (F.DSP_PSTAT_STATE 0, 3), (F.DSP_PSTAT_STATE 1, 0)] with pwr := { Pwr.init with seq := none } }; let acc : Acc := A8; let key : BitVec 16 := 0x5057; let fails : BootFails := [];
    (s.takesWrite acc R.PWRM_REQ) ∧ (s.mayRequest acc (reqWord key 3)) ∧ (s.panelsLive)) ∧
   (let s : State := { W { z with now := 10^10 } [(F.PWRM_DOMSTAT_ON, 0x3FFF), (F.PWRM_STATE_CUR, 1), (F.PWRM_STATE_BUSY, 0), (F.DSP_PSTAT_STATE 0, 0), (F.DSP_PSTAT_STATE 1, 0)] with pwr := { Pwr.init with seq := none } }; let acc : Acc := A8; let key : BitVec 16 := 0x5057; let fails : BootFails := [];
    (s.takesWrite acc R.PWRM_REQ) ∧ (s.mayRequest acc (reqWord key 4)) ∧ (s.panelsLive = false)) ∧
   (let s : State := { W { z with now := 10^10 } [(F.PWRM_DOMSTAT_ON, 0x3FFF), (F.PWRM_STATE_CUR, 1), (F.PWRM_STATE_BUSY, 0), (F.DSP_PSTAT_STATE 0, 3), (F.DSP_PSTAT_STATE 1, 0)] with pwr := { Pwr.init with seq := none } }; let acc : Acc := A8; let key : BitVec 16 := 0x5057; let fails : BootFails := [];
    (s.takesWrite acc R.PWRM_REQ) ∧ (s.mayRequest acc (reqWord key 4)) ∧ (s.panelsLive)) ∧
   (let s : State := { W { z with now := 10^10 } [(F.PWRM_DOMSTAT_ON, 0x3FFF), (F.PWRM_STATE_CUR, 1), (F.PWRM_STATE_BUSY, 0), (F.PWRM_WAKECFG_PIN, 1)] with pwr := { Pwr.init with seq := none, entry := some 2 } }; let k : Fin 3 := 1; let ms : BitVec 16 := 1; let fails : BootFails := [];
    (s.pwr.seq = none) ∧ (s.wakeActive k ms.toNat) ∧ (s.pwr.entry.isSome)) ∧
   (let s : State := { W { z with now := 10^10 } [(F.PWRM_DOMSTAT_ON, 0x3FFF), (F.PWRM_STATE_CUR, 2), (F.PWRM_STATE_BUSY, 0), (F.PWRM_WSCTL_EN, 0), (F.PWRM_WAKECFG_PIN, 1)] with pwr := { Pwr.init with seq := none } }; let k : Fin 3 := 1; let ms : BitVec 16 := 1; let fails : BootFails := [];
    (s.pwr.seq = none) ∧ (s.wakeActive k ms.toNat) ∧ (s.pwr.entry = none) ∧ (s.powerState = 2) ∧ (s.flag F.PWRM_WSCTL_EN = false) ∧ ((s.pwr.held / 8 % 2 = 0 ∨ k ≠ 0 ∨ s.elapsed s.pwr.offAt 1000000))) ∧
   (let s : State := { W { z with now := 10^10 } [(F.PWRM_DOMSTAT_ON, 0x3FFF), (F.PWRM_STATE_CUR, 3), (F.PWRM_STATE_BUSY, 0), (F.PWRM_WAKECFG_PIN, 1)] with pwr := { Pwr.init with seq := none } }; let k : Fin 3 := 1; let ms : BitVec 16 := 1; let fails : BootFails := [];
    (s.pwr.seq = none) ∧ (s.wakeActive k ms.toNat) ∧ (s.pwr.entry = none) ∧ (s.powerState = 3 ∨ s.powerState = 4) ∧ ((s.pwr.held / 8 % 2 = 0 ∨ k ≠ 0 ∨ s.elapsed s.pwr.offAt 1000000))) ∧
   (let s : State := { W { z with now := 10^10 } [(F.PWRM_DOMSTAT_ON, 0x3FFF), (F.PWRM_STATE_CUR, 1), (F.PWRM_STATE_BUSY, 0), (F.PWRM_WAKECFG_PIN, 1)] with pwr := { Pwr.init with seq := none } }; let k : Fin 3 := 1; let ms : BitVec 16 := 1; let fails : BootFails := [];
    (s.pwr.seq = none) ∧ (s.wakeActive k ms.toNat) ∧ (s.pwr.entry = none) ∧ (s.powerState < 2)) ∧
   (let s : State := { W { z with now := 10^10 } [(F.PWRM_DOMSTAT_ON, 0x3FFF), (F.PWRM_STATE_CUR, 2), (F.PWRM_STATE_BUSY, 0), (F.PWRM_WSCTL_EN, 0)] with pwr := { Pwr.init with seq := none } }; let acc : Acc := A8; let v : Word := 5;
    (s.takesWrite acc R.PWRM_DOMEN) ∧ (s.powerState < 3) ∧ (s.pwr.seq = none) ∧ (s.flag F.PWRM_WSCTL_EN = false)) ∧
   (let s : State := { W { z with now := 10^10 } [(F.PWRM_DOMSTAT_ON, 0x3FFF), (F.PWRM_STATE_CUR, 3), (F.PWRM_STATE_BUSY, 0), (F.PWRM_WSCTL_EN, 0)] with pwr := { Pwr.init with seq := none } }; let acc : Acc := A8; let v : Word := 5;
    (s.takesWrite acc R.PWRM_DOMEN) ∧ (3 ≤ s.powerState ∨ s.pwr.seq.isSome)) :=
  by and_intros <;> decide +kernel

/-- Every clause of CounterCommandsComplete has a state and operands that meet its hypotheses. -/
theorem witness_CounterCommandsComplete :
   (let s : State := z; let acc : Acc := A8; let v : Word := 0xFFFFFFFE;
    (s.takesWrite acc R.PMU_SNAP_DB) ∧ (v.toNat % 2 = 0)) ∧
   (let s : State := { { z with now := 10^10 } with pwr := { Pwr.init with snap := none } }; let acc : Acc := A8; let v : Word := 1;
    (s.takesWrite acc R.PMU_SNAP_DB) ∧ (v.toNat % 2 = 1) ∧ (s.pwr.snap.map (fun x => (x.1, x.2.1)) ≠ some (s.now / 1000, false))) ∧
   (let s : State := W z [(F.PMU_STAT_MODE, 0)]; let n : Fin 56 := 55; let inc : BitVec 48 := 5; let pc : BitVec 64 := 0; let btgt : BitVec 64 := 0; let run : BitVec 16 := 0;
    (s.pmcCounts n = false)) ∧
   (let s : State := W z [(F.PMU_STAT_MODE, 0), (F.PMU_CTL_EN, 1), (F.PMU_CFG_EN 0, 1), (F.PMU_CFG_EVENT 0, 1), (F.PMU_CFG_SRC 0, 3), (F.PMU_CFG_OVIE 0, 1), (F.PMU_CFG_SAMPLE 0, 1), (F.PMU_CNT_LO_COUNT 0, 0xFFFFFFFF), (F.PMU_CNT_HI_COUNT 0, 0xFFFF)]; let n : Fin 56 := 0; let inc : BitVec 48 := 1; let pc : BitVec 64 := 0; let btgt : BitVec 64 := 0; let run : BitVec 16 := 0;
    (s.pmcCounts n)) ∧
   (let s : State := { W { z with now := 10^10 } [(F.PMU_STAT_MODE, 1), (F.PMU_BWCFG_WIN, 1000)] with pwr := { Pwr.init with bwAt := 5 } };
    (s.fld F.PMU_BWCFG_WIN ≠ 0) ∧ (s.pmuBw) ∧ (s.elapsed s.pwr.bwAt (1000 * s.fld F.PMU_BWCFG_WIN))) ∧
   (let s : State := { W { z with now := 10^10 } [(F.PMU_STAT_MODE, 1), (F.PMU_BWCFG_WIN, 1000)] with pwr := { Pwr.init with bwAt := 10^10 - 5 } };
    (s.fld F.PMU_BWCFG_WIN ≠ 0) ∧ (s.pmuBw) ∧ (s.elapsed s.pwr.bwAt (1000 * s.fld F.PMU_BWCFG_WIN) = false)) ∧
   (let s : State := z; let acc : Acc := A8; let n : Fin 56 := 55;
    (s.takesRead acc (R.PMU_CNT_LO n))) ∧
   (let s : State := z; let acc : Acc := A8; let n : Fin 56 := 0;
    (s.takesRead acc (R.PMU_CNT_HI n))) :=
  by and_intros <;> decide +kernel

/-- Every clause of RingSizesAndDisabledRings has a state and operands that meet its hypotheses. -/
theorem witness_RingSizesAndDisabledRings :
   (let s : State := { W z [(F.RNG_HW_IDX 5, 7), (F.RNG_DB_IDX 5, 7), (F.RNG_CFG_QUEUE 3, 0), (F.RNG_LOCK_LOCK, 0)] with rings := [] }; let acc : Acc := A8; let n : Fin 64 := 5; let v : Word := 0x03000910; let new : Word := writtenWord (R.RNG_CFG n) (s.locked (R.RNG_CFG n)) (s.reg (R.RNG_CFG n)) v;
    (s.takesWrite acc (R.RNG_CFG n)) ∧ (s.ringHw n = s.ringDb n) ∧ (new = writtenWord (R.RNG_CFG n) (s.locked (R.RNG_CFG n)) (s.reg (R.RNG_CFG n)) v) ∧ (4 ≤ (F.RNG_CFG_SIZE n).get v) ∧ ((F.RNG_CFG_SIZE n).get v ≤ 16) ∧ (validQueue ((F.RNG_CFG_QUEUE n).get new)) ∧ (s.part.absentQueue ((F.RNG_CFG_QUEUE n).get new) = none) ∧ (((F.RNG_CFG_QUEUE n).get new ≠ 0 → s.queueTaken n ((F.RNG_CFG_QUEUE n).get new) = false ∧ (F.RNG_CFG_CRING n).get new ≠ n.val ∧ s.fld (F.RNG_CFG_QUEUE ((F.RNG_CFG_CRING n).get new)) = 0))) ∧
   (let s : State := { W z [(F.RNG_HW_IDX 5, 7), (F.RNG_DB_IDX 5, 7), (F.RNG_CFG_QUEUE 3, 0), (F.RNG_LOCK_LOCK, 0)] with rings := [] }; let acc : Acc := A8; let n : Fin 64 := 5; let v : Word := 0x03000000; let new : Word := writtenWord (R.RNG_CFG n) (s.locked (R.RNG_CFG n)) (s.reg (R.RNG_CFG n)) v;
    (s.takesWrite acc (R.RNG_CFG n)) ∧ (s.ringHw n = s.ringDb n) ∧ (new = writtenWord (R.RNG_CFG n) (s.locked (R.RNG_CFG n)) (s.reg (R.RNG_CFG n)) v) ∧ ((F.RNG_CFG_SIZE n).get v = 0)) ∧
   (let s : State := { W z [(F.RNG_HW_IDX 5, 7), (F.RNG_DB_IDX 5, 7), (F.RNG_CFG_QUEUE 3, 0), (F.RNG_LOCK_LOCK, 0)] with rings := [] }; let acc : Acc := A8; let n : Fin 64 := 5; let v : Word := 0x03000911; let new : Word := writtenWord (R.RNG_CFG n) (s.locked (R.RNG_CFG n)) (s.reg (R.RNG_CFG n)) v;
    (s.takesWrite acc (R.RNG_CFG n)) ∧ (s.ringHw n = s.ringDb n) ∧ (new = writtenWord (R.RNG_CFG n) (s.locked (R.RNG_CFG n)) (s.reg (R.RNG_CFG n)) v) ∧ (1 ≤ (F.RNG_CFG_SIZE n).get v) ∧ ((F.RNG_CFG_SIZE n).get v ≤ 3 ∨ 17 ≤ (F.RNG_CFG_SIZE n).get v)) :=
  by and_intros <;> decide +kernel

/-- Every clause of RingOfAnAbsentUnitStaysDisabled has a state and operands that meet its hypotheses. -/
theorem witness_RingOfAnAbsentUnitStaysDisabled :
   (let s : State := { W z [(F.RNG_HW_IDX 5, 7), (F.RNG_DB_IDX 5, 7), (F.RNG_CFG_QUEUE 3, 0), (F.RNG_LOCK_LOCK, 0)] with rings := [], part := { Part.reset with code := .d } }; let acc : Acc := A8; let n : Fin 64 := 5; let v : Word := 0x03005C04; let new : Word := writtenWord (R.RNG_CFG n) (s.locked (R.RNG_CFG n)) (s.reg (R.RNG_CFG n)) v; let base : Nat := 0x40A00000;
    (s.takesWrite acc (R.RNG_CFG n)) ∧ (s.ringHw n = s.ringDb n) ∧ (new = writtenWord (R.RNG_CFG n) (s.locked (R.RNG_CFG n)) (s.reg (R.RNG_CFG n)) v) ∧ (4 ≤ (F.RNG_CFG_SIZE n).get v) ∧ ((F.RNG_CFG_SIZE n).get v ≤ 16) ∧ (s.part.absentQueue ((F.RNG_CFG_QUEUE n).get new) = some base)) :=
  by decide +kernel

/-- Every clause of RingWritesWhileWorkIsPending has a state and operands that meet its hypotheses. -/
theorem witness_RingWritesWhileWorkIsPending :
   (let s : State := ringQ z 9 1 8 0x20002000 5 0 0 0; let acc : Acc := A8; let n : Fin 64 := 2; let v : Word := 0; let new : Word := writtenWord (R.RNG_CFG n) (s.locked (R.RNG_CFG n)) (s.reg (R.RNG_CFG n)) v;
    (s.takesWrite acc (R.RNG_CFG n)) ∧ (new = writtenWord (R.RNG_CFG n) (s.locked (R.RNG_CFG n)) (s.reg (R.RNG_CFG n)) v) ∧ ((F.RNG_CFG_SIZE n).get v = 0) ∧ (s.fld (F.RNG_CFG_SIZE n) ≠ 0) ∧ ((s.ring n).queue ≠ 0) ∧ ((∀ k < (s.ringDb n + (2 ^ 32 - s.ringHw n)) % 2 ^ 32, s.firstDenied (engine 17) .read (s.descAddr n (s.fld (F.RNG_CFG_SIZE n)) ((s.ringHw n + k) % 2 ^ 32)) 32 = none))) ∧
   (let s : State := ringQ z 9 1 8 0x20002000 5 0 0 0; let acc : Acc := A8; let n : Fin 64 := 2; let v : Word := 0x03000500; let new : Word := writtenWord (R.RNG_CFG n) (s.locked (R.RNG_CFG n)) (s.reg (R.RNG_CFG n)) v;
    (s.takesWrite acc (R.RNG_CFG n)) ∧ (new = writtenWord (R.RNG_CFG n) (s.locked (R.RNG_CFG n)) (s.reg (R.RNG_CFG n)) v) ∧ ((F.RNG_CFG_SIZE n).get v = 0)) ∧
   (let s : State := ringQ z 9 1 8 0x20002000 5 0 0 0; let acc : Acc := A8; let n : Fin 64 := 2; let v : Word := 0x03000504; let new : Word := writtenWord (R.RNG_CFG n) (s.locked (R.RNG_CFG n)) (s.reg (R.RNG_CFG n)) v;
    (s.takesWrite acc (R.RNG_CFG n)) ∧ (new = writtenWord (R.RNG_CFG n) (s.locked (R.RNG_CFG n)) (s.reg (R.RNG_CFG n)) v) ∧ ((F.RNG_CFG_SIZE n).get v ≠ 0) ∧ (s.ringHw n ≠ s.ringDb n)) ∧
   (let s : State := { W z [(F.RNG_HW_IDX 5, 7), (F.RNG_DB_IDX 5, 7), (F.RNG_CFG_QUEUE 3, 0), (F.RNG_LOCK_LOCK, 0)] with rings := [] }; let acc : Acc := A8; let n : Fin 64 := 5; let v : Word := 0x03000004; let new : Word := writtenWord (R.RNG_CFG n) (s.locked (R.RNG_CFG n)) (s.reg (R.RNG_CFG n)) v;
    (s.takesWrite acc (R.RNG_CFG n)) ∧ (new = writtenWord (R.RNG_CFG n) (s.locked (R.RNG_CFG n)) (s.reg (R.RNG_CFG n)) v) ∧ ((F.RNG_CFG_SIZE n).get v ≠ 0) ∧ (s.ringHw n = s.ringDb n)) :=
  by and_intros <;> decide +kernel

/-- Every clause of OutputAndSensorEventsChangeOnlyTheirRegisters has a state and operands with which the command answers a next state. -/
theorem witness_OutputAndSensorEventsChangeOnlyTheirRegisters :
   (let s : State := { W { z with now := 10^9 } [(F.STR_AXSTAT_STATE 0, axRUN), (F.STR_AXCFG_SRC 0, 0x60), (F.STR_AXREST_RESTORE 0, 0)] with str := { Str.init with axes := [(0, { Axis.init with slots := [(0, { ASrc.init with ok := false })] })] } }; let a : Fin 8 := 0; let k : Fin 3 := 0; let a_ : Fin 8 := a; let j_ : Fin 3 := k; let a := a_; let j := j_;
    nextOk (exec (.sourceRestore a j) s) = true) ∧
   (let s : State := { W { z with now := 10^12 } [(F.STR_AXSTAT_STATE 0, axRUN), (F.STR_AXCFG_SRC 0, 0x10)] with str := { Str.init with axes := [(0, { Axis.init with slots := [(0, { ASrc.init with ok := true, lost := true })] })] } }; let a : Fin 8 := 0; let k : Fin 3 := 0; let a_ : Fin 8 := a; let j_ : Fin 3 := k; let a := a_; let j := j_;
    nextOk (exec (.sourceTimeout a j) s) = true) ∧
   (let s : State := { W { z with now := 1000000 * 70000 } [(F.STR_AXSTAT_STATE 0, axRUN), (F.STR_AXSTAT_ACTIVE 0, 0), (F.STR_AXSTILL_RATE 0, 5), (F.STR_AXSTAT_STILL 0, 0)] with str := { Str.init with axes := [(0, { Axis.init with slowAt := some 0, pos := 5, rate := 3 })], tickAt := 1000000 * 70000 } }; let a : Fin 8 := 0; let t0 : Nat := 0; let a_ : Fin 8 := a; let a := a_;
    nextOk (exec (.standstillEntry a) s) = true) ∧
   (let s : State := { W { z with now := 10^12 } [(F.STR_AXSTAT_STATE 0, axRUN), (F.STR_AXCFG_XEN 0, 1), (F.STR_AXSTAT_ACTIVE 0, 0), (F.STR_AXCFG_SRC 0, 0x60), (F.STR_AXFB_FB1 0, 0x40), (F.STR_AXXCHK_TOL 0, 5), (F.STR_AXSTILL_RATE 0, 1)] with str := { Str.init with axes := [(0, { Axis.init with xAt := some 0, slots := [(0, { ASrc.init with ok := true }), (1, { ASrc.init with ok := true, rate := 77 })] })] } }; let a : Fin 8 := 0; let u : Nat := 0; let a_ : Fin 8 := a; let a := a_;
    nextOk (exec (.axisXchk a) s) = true) ∧
   (let s : State := { W { z with now := 10^12 } [(F.STR_AXSTAT_STATE 0, axCOAST)] with str := { Str.init with axes := [(0, { Axis.init with coastAt := 0 })], tickAt := 10^12 } }; let a : Fin 8 := 0; let a_ : Fin 8 := a; let a := a_;
    nextOk (exec (.axisLost a) s) = true) ∧
   (let s : State := W (z.setEntry 3 63 dinE) [(F.DIO_INLVL_LEVEL 1, 0)]; let n : Fin 64 := 63; let level : Bool := true; let us : BitVec 32 := 100; let n_ : Fin 64 := n; let level_ : Bool := level; let us_ : BitVec 32 := us; let n := n_; let level := level_; let us := us_;
    nextOk (exec (.debouncedEdge n level us) s) = true) ∧
   (let s : State := W (z.setEntry 3 63 doutE) [(F.DIO_CTL_EN 1, 1), (F.DIO_PTSTAT_FCAUSE 1 31, 0), (F.DIO_CLSTAT_SUPPLY 1 3, 0), (F.DIO_STAT_HOLDING 1, 0), (F.TDM_STATE_PSTATE, 0), (F.DIO_PTSTAT_LEVEL 1 31, 1)]; let n : Fin 64 := 63; let extv : Bool := false; let ms : BitVec 16 := 10; let n_ : Fin 64 := n; let extv_ : Bool := extv; let ms_ : BitVec 16 := ms; let n := n_; let extv := extv_; let ms := ms_;
    nextOk (exec (.dioDiagFlag n extv ms) s) = true) ∧
   (let s : State := W (z.setEntry 2 95 lswE) [(lswF F.LSW_CHSTAT_STATE 95, 2), (lswF F.LSW_CHDUTY_DUTY 95, 10000)]; let n : Fin 96 := 95; let ms : BitVec 16 := 10; let n_ : Fin 96 := n; let ms_ : BitVec 16 := ms; let n := n_; let ms := ms_;
    nextOk (exec (.lswOpenLoad n ms) s) = true) ∧
   (let s : State := W ((({ z with now := 10^10 }).setLch 95 { LCh.init with tInr := 100, retry := 2, rspace := 20, latchAt := 5 }).setEntry 2 95 lswE) [(lswF F.LSW_CHSTAT_STATE 95, 2)]; let n : Fin 96 := 95; let n_ : Fin 96 := n; let n := n_;
    nextOk (exec (.retryCountClear n) s) = true) ∧
   (let s : State := W (z.setEntry 4 47 ainE) [(F.AFE_CTL_EN, 1), (F.AFE_CHSTAT_TRIP 47, 1)]; let i : Fin 48 := 47; let p : BitVec 40 := 3600000; let n : BitVec 40 := 0; let vexc : BitVec 24 := 0; let j_ : Fin 48 × BitVec 40 × BitVec 40 × BitVec 24 := (i, p, n, vexc); let j := j_;
    nextOk (exec (.comparatorClear j) s) = true) := by
  and_intros <;> decide +kernel

/-- The further clauses of OutputAndSensorEventsChangeOnlyTheirRegisters. -/
theorem witness_OutputAndSensorEventsChangeOnlyTheirRegisters_2 :
   (let s : State := W (z.setEntry 4 47 ainE) [(F.AFE_CTL_EN, 1), (F.AFE_CHSTAT_TRIP 47, 0)]; let i : Fin 48 := 47; let p : BitVec 40 := 3599999; let n : BitVec 40 := 0; let vexc : BitVec 24 := 0; let j_ : Fin 48 × BitVec 40 × BitVec 40 × BitVec 24 := (i, p, n, vexc); let j := j_;
    nextOk (exec (.afeOpen j) s) = true) ∧
   (let s : State := W (({ z with now := 10^10 }).setEntry 5 23 (plsE 0)) [(F.PLS_CTL_EN, 1), (F.PLS_CHSTAT_LEVEL 23, 0), (F.PLS_CHSTAT_OPEN_NOW 23, 0)]; let n : Fin 24 := 23; let ms : BitVec 16 := 50; let n_ : Fin 24 := n; let ms_ : BitVec 16 := ms; let n := n_; let ms := ms_;
    nextOk (exec (.plsOpenClear n ms) s) = true) ∧
   (let s : State := W (({ z with now := 10^10 }).setEntry 5 23 (plsE 2)) [(F.PLS_CTL_EN, 1), (F.PLS_CHSTAT_LEVEL 23, 0), (F.PLS_CHSTAT_OPEN_NOW 23, 0)]; let n : Fin 24 := 23; let peak : BitVec 10 := 201; let ts : Word := 0; let n_ : Fin 24 := n; let peak_ : BitVec 10 := peak; let ts_ : Word := ts; let n := n_; let peak := peak_; let ts := ts_;
    nextOk (exec (.plsImpact n peak ts) s) = true) ∧
   (let s : State := W (({ z with now := 10^10 }).setEntry 5 23 (plsE 0)) [(F.PLS_CTL_EN, 1), (F.PLS_CHSTAT_LEVEL 23, 0), (F.PLS_CHSTAT_OPEN_NOW 23, 0)]; let n : Fin 24 := 23; let ms : BitVec 16 := 50; let n_ : Fin 24 := n; let ms_ : BitVec 16 := ms; let n := n_; let ms := ms_;
    nextOk (exec (.plsOpen n ms) s) = true) ∧
   (let s : State := { W ({ z with now := 10^10 }) [] with afe := { Afe.init with selfTest := some 5 } }; let pass : Bool := false; let u : Nat := 5; let pass_ : Bool := pass; let pass := pass_;
    nextOk (exec (.selfTestEnd pass) s) = true) := by
  and_intros <;> decide +kernel

/-- Every clause of SystemEventsChangeOnlyTheirRegisters has a state and operands with which the command answers a next state. -/
theorem witness_SystemEventsChangeOnlyTheirRegisters :
   (let s : State := W z [(F.GRF_NOTCH_AUTO 1 2 3, 1), (F.GRF_NOTCH_EN 1 2 3, 1), (F.GRF_CTL_EN, 1)]; let a : Fin 2 := 1; let b : Fin 3 := 2; let f : Fin 4 := 3; let tone : BitVec 16 := 0xFFFF; let a_ : Fin 2 := a; let b_ : Fin 3 := b; let f_ : Fin 4 := f; let tone_ : BitVec 16 := tone; let a := a_; let b := b_; let f := f_; let tone := tone_;
    nextOk (exec (.notchMove a b f tone) s) = true) ∧
   (let s : State := { (W { z with now := 10^10 } [(F.GRF_CTL_EN, 1), (F.GRF_JAM_JTH 1 2, 10)]) with gns := { Gns.init with jam := [(5, some (5, false))] } }; let a : Fin 2 := 1; let b : Fin 3 := 2; let power : BitVec 16 := 300; let agc : BitVec 8 := 255; let a_ : Fin 2 := a; let b_ : Fin 3 := b; let power_ : BitVec 16 := power; let agc_ : BitVec 8 := agc; let a := a_; let b := b_; let power := power_; let agc := agc_;
    nextOk (exec (.gnsJam a b power agc) s) = true) ∧
   (let s : State := { (W { z with now := 10^10 } [(F.GRF_ANTCFG_EN 1, 1), (F.GRF_ANTSTAT_STATE 1, 2), (F.GRF_ANTCFG_ILIM 1, 2)]) with gns := { Gns.init with shorts := [(1, some 5)] } }; let a : Fin 2 := 1; let cur : BitVec 12 := 1499; let t0 : Nat := 5; let a_ : Fin 2 := a; let current_ : BitVec 12 := cur; let a := a_; let current := current_;
    nextOk (exec (.antRetry a current) s) = true) ∧
   (let s : State := W { z with now := 10^10 } [(F.GNS_CTL_EN, 1), (F.GNS_INJCFG_MODE, 1), (F.GNS_INJCFG_TO, 50)];
    nextOk (exec .gnsInjStale s) = true) ∧
   (let s : State := W { z with now := 10^10 } [(F.TIM_STATE_STATE, 2), (F.TIM_UTCAT_AT, 1)];
    nextOk (exec .utcChange s) = true) ∧
   (let s : State := (W { z with now := 10^10 } [(F.DSP_CTL_EN, 1), (F.DSP_PCFG_PWR 1, 1), (F.DSP_PSTAT_STATE 1, 2)]).setPanel 1 { Panel.init with rails := 4 }; let p : Fin 2 := 1; let p_ : Fin 2 := p; let p := p_;
    nextOk (exec (.linkTrained p) s) = true) ∧
   (let s : State := (W { z with now := 10^10 } [(F.DSP_CTL_EN, 1), (F.DSP_PCFG_PWR 1, 1), (F.DSP_PSTAT_STATE 1, 4)]).setPanel 1 { Panel.init with rails := 4, cur := some ⟨3, 0, 0, 64⟩ }; let p : Fin 2 := 1; let p_ : Fin 2 := p; let p := p_;
    nextOk (exec (.hpdLoss p) s) = true) ∧
   (let s : State := (W { z with now := 10^10 } [(F.DSP_CTL_EN, 1), (F.DSP_PCFG_PWR 1, 1), (F.DSP_PSTAT_STATE 1, 4)]).setPanel 1 { Panel.init with rails := 4, cur := some ⟨3, 0, 0, 64⟩, out := [1, 2, 3, 4, 5, 6] }; let p : Fin 2 := 1; let pix : BitVec 22 := 1; let p_ : Fin 2 := p; let pix_ : BitVec 22 := pix; let p := p_; let pix := pix_;
    nextOk (exec (.dspUnderrun p pix) s) = true) ∧
   (let s : State := (W { z with now := 10^10 } [(F.DSP_CTL_EN, 1), (F.DSP_PCFG_PWR 1, 1), (F.DSP_PSTAT_STATE 1, 2)]).setPanel 1 { Panel.init with rails := 4 }; let p : Fin 2 := 1; let p_ : Fin 2 := p; let p := p_;
    nextOk (exec (.dspLink p) s) = true) ∧
   (let s : State := ({ W { z with now := 10^10 } [(F.IMG_CTL_EN, 1), (F.IMG_CAMCFG_EN 7, 1), (F.IMG_CAMSTAT_LINK_UP 7, 1), (F.IMG_CAMSIZE_W 7, 4), (F.IMG_CAMSIZE_H 7, 3), (F.IMG_CAMCFG_DT 7, 0), (F.IMG_CAMCFG_GEAR 7, 1), (F.IMG_CAMCFG_MODE 7, 1), (F.IMG_RAWCFG_RAWN 7, 2), (F.IMG_SCHED_MAXAGE, 1)] with img := Img.init }).setCam 7 { Cam.init with raw := [{ fnum := 9, fsAt := 5, feAt := 6, expo := ⟨3, 4, 5, 6⟩, gain := ⟨2, 4, 5, 6⟩, ptag := 0, lines := 10, flags := 0, stripes := 0, pipe := none }] }; let c : Fin 8 := 7; let f : CamFrm := { fnum := 9, fsAt := 5, feAt := 6, expo := ⟨3, 4, 5, 6⟩, gain := ⟨2, 4, 5, 6⟩, ptag := 0, lines := 10, flags := 0, stripes := 0, pipe := none }; let c_ : Fin 8 := c; let c := c_;
    nextOk (exec (.rawFrameAgeDrop c) s) = true) := by
  and_intros <;> decide +kernel

/-- The further clauses of SystemEventsChangeOnlyTheirRegisters. -/
theorem witness_SystemEventsChangeOnlyTheirRegisters_2 :
   (let s : State := ({ W { z with now := 10^10 } [(F.CAN_ACSTAT_STATE 3, 1)] with net := Net.init }).setCan 3 { CanU.init with claimAt := some 5 }; let n : Fin 4 := 3; let t0 : Nat := 5; let n_ : Fin 4 := n; let n := n_;
    nextOk (exec (.addressClaimed n) s) = true) ∧
   (let s : State := ({ W { z with now := 10^10 } [(F.CAN_ACSTAT_STATE 3, 2)] with net := Net.init }).setCan 3 { CanU.init with tps := [{ src := 77, etp := false, bam := false, pgn := 0x1234, prio := 6, size := 20, next := 1, last := 3, off := some 0, data := [], ring := 2, didx := 0, addr := 0x20002000, due := 5 }] }; let n : Fin 4 := 3; let x : TpS := { src := 77, etp := false, bam := false, pgn := 0x1234, prio := 6, size := 20, next := 1, last := 3, off := some 0, data := [], ring := 2, didx := 0, addr := 0x20002000, due := 5 }; let n_ : Fin 4 := n; let n := n_;
    nextOk (exec (.canTpAbort n) s) = true) ∧
   (let s : State := W z [(F.ETH_PLCASTAT_ACTIVE 1, 1)]; let k : Fin 2 := 1; let k_ : Fin 2 := k; let k := k_;
    nextOk (exec (.ethPlca k) s) = true) ∧
   (let s : State := { W { z with now := 10^10 } [(F.TDM_STATE_PSTATE, 3), (F.TDM_AXDIV_DIV 0, 0), (F.TDM_AXDIV_DIV 1, 0), (F.TDM_AXDIV_DIV 2, 0), (F.TDM_AXDIV_DIV 3, 0), (F.TDM_AXDIV_DIV 4, 0), (F.TDM_AXDIV_DIV 5, 0), (F.TDM_AXDIV_DIV 6, 0), (F.TDM_AXDIV_DIV 7, 0)] with tdm := { Tdm.init with formed := true, mirror := true, cleanAt := 5 } };
    nextOk (exec .readySet s) = true) ∧
   (let s : State := { W { z with now := 10^10 } [(F.EVR_CTL_EN, 1), (F.EVR_STAT_FULL, 0), (F.EVR_RECCFG_FLUSHT, 1000)] with evr := { Evr.init with open_ := some ⟨0x1302, false, false, 3, 0, 12345, [1, 2], 5⟩ } }; let r : EvRec := ⟨0x1302, false, false, 3, 0, 12345, [1, 2], 5⟩;
    nextOk (exec .recordClose s) = true) ∧
   (let s : State := { W { z with now := 10^10 } [(F.EVR_CTL_FREEZE, 1), (F.EVR_RECCFG_FRZTO, 1)] with evr := { Evr.init with freezeAt := some 5 } }; let t0 : Nat := 5;
    nextOk (exec .freezeTimeout s) = true) ∧
   (let s : State := { W { z with now := 10^10 } [(F.PWRM_DOMSTAT_ON, 0x3FFF), (F.PWRM_STATE_CUR, 2), (F.PWRM_STATE_BUSY, 0), (F.PWRM_STAT_IGNLVL, 0), (F.PWRM_WAKECFG_IGNDB, 20), (F.PWRM_WAKECFG_IGN, 1)] with pwr := { Pwr.init with seq := none } }; let level : Bool := true; let mv : BitVec 16 := 6500; let ms : BitVec 16 := 20; let level_ : Bool := level; let mv_ : BitVec 16 := mv; let ms_ : BitVec 16 := ms; let level := level_; let mv := mv_; let ms := ms_;
    nextOk (exec (.ignChange level mv ms) s) = true) ∧
   (let s : State := { W { z with now := 10^10 } [(F.PWRM_DOMSTAT_ON, 0x3FFF), (F.RST_WDCFG_EN 1, 1), (F.RST_WDCFG_TO 1, 100), (F.RST_WDCFG_WARN 1, 50)] with pwr := { Pwr.init with seq := none } }; let w : Fin 2 := 1; let w_ : Fin 2 := w; let w := w_;
    nextOk (exec (.wdWarn w) s) = true) ∧
   (let s : State := ringQ z 5 0 0 0 0 0 0 0; let n : Fin 64 := 2; let d : Desc := nd s; let n_ : Fin 64 := n; let n := n_;
    nextOk (exec (.nop n) s) = true) ∧
   (let s : State := (W { z with now := 1000 } [(F.RNG_COAL_TIME 2, 1)]).setRing 2 { Ring.init with irqSince := some 0, irqCount := 3 }; let n : Fin 64 := 2; let t0 : Nat := 0; let n_ : Fin 64 := n; let n := n_;
    nextOk (exec (.coalesceTimeout n) s) = true) := by
  and_intros <;> decide +kernel

end Sys2Proof.Tests
end

section
/-! The law of a register write by access codes (R11, R12): each bit of the written word, from the fields that hold it. -/

namespace Sys2Proof.Machine

/-- Whether a bit of the word lies in a field. -/
abbrev FieldRow.has (f : FieldRow) (i : Nat) : Prop := f.lo ≤ i ∧ i ≤ f.hi

/-- Two fields share no bit. -/
abbrev FieldRow.Apart (f g : FieldRow) : Prop := f.hi < g.lo ∨ g.hi < f.lo

/-- What one bit holds after a write, from its old value and the bit written (Table 0-6). -/
def Access.bit (c : Access) (locked old w : Bool) : Bool :=
  match c with
  | .rw => w
  | .rwl => if locked then old else w
  | .w1c => old && !w
  | .w1s => old || w
  | .ro | .rc => old
  | .wo | .cmd => false

/-- A bit of what a field holds after a write: the field's access code on the old bit and the bit written (R11). -/
theorem FieldRow.testBit_written (f : FieldRow) (locked : Bool) (old w : Word) (j : Nat) :
    (f.written locked old w).testBit j = (decide (j < f.hi + 1 - f.lo) &&
      f.access.bit locked (old.getLsbD (f.lo + j)) (w.getLsbD (f.lo + j))) := by
  unfold FieldRow.written Access.bit
  cases f.access
  case rw | ro | rc | w1s => simp [Fld.testBit_get]
  case wo | cmd => simp
  case rwl => cases locked <;> simp [Fld.testBit_get]
  case w1c =>
    by_cases h : f.lo + j < 32
    · simp [Fld.testBit_get, h]
    · simp [Fld.testBit_get, h, BitVec.getLsbD_of_ge old (f.lo + j) (by omega)]

/-- A field's share of the written word lies in the field's own bits. -/
theorem FieldRow.testBit_written_mul (f : FieldRow) (locked : Bool) (old w : Word) (i : Nat) :
    (f.written locked old w * 2 ^ f.lo).testBit i =
      (decide (f.has i) && f.access.bit locked (old.getLsbD i) (w.getLsbD i)) := by
  rw [Nat.testBit_mul_two_pow, FieldRow.testBit_written]
  by_cases h : f.lo ≤ i
  · have hi : i - f.lo < f.hi + 1 - f.lo ↔ i ≤ f.hi := by omega
    simp [h, hi, Nat.add_sub_cancel' h]
  · simp [h]

/-- A sum of numbers that lie in fields sharing no bit has each number's bits. -/
theorem getLsbD_foldl_add (x : FieldRow → Nat) (l : List FieldRow) (hl : l.Pairwise FieldRow.Apart)
    (hx : ∀ f ∈ l, ∀ i, (x f).testBit i = true → f.has i) (n : Nat)
    (hn : ∀ f ∈ l, ∀ i, f.has i → (BitVec.ofNat 32 n).getLsbD i = false) (i : Nat) :
    (BitVec.ofNat 32 (l.foldl (fun n f => n + x f) n)).getLsbD i =
      ((BitVec.ofNat 32 n).getLsbD i || (decide (i < 32) && l.any (fun f => (x f).testBit i))) := by
  induction l generalizing n with
  | nil => simp
  | cons f l ih =>
    obtain ⟨hf, hl⟩ := List.pairwise_cons.mp hl
    have hdisj : BitVec.ofNat 32 n &&& BitVec.ofNat 32 (x f) = 0 := by
      apply BitVec.eq_of_getLsbD_eq
      intro j _
      cases hj : (x f).testBit j with
      | false => simp [BitVec.getLsbD_ofNat, hj]
      | true => simp [hn f List.mem_cons_self j (hx f List.mem_cons_self j hj)]
    have hadd : BitVec.ofNat 32 (n + x f) = BitVec.ofNat 32 n ||| BitVec.ofNat 32 (x f) := by
      rw [BitVec.ofNat_add, BitVec.add_eq_or_of_and_eq_zero _ _ hdisj]
    have hrest : ∀ g ∈ l, ∀ j, g.has j → (BitVec.ofNat 32 (n + x f)).getLsbD j = false := by
      intro g hg j hj
      have hfj : (x f).testBit j = false := by
        by_contra h
        have := hx f List.mem_cons_self j (by simpa using h)
        have := hf g hg
        omega
      rw [hadd, BitVec.getLsbD_or, hn g (List.mem_cons_of_mem _ hg) j hj, BitVec.getLsbD_ofNat, hfj]
      simp
    rw [List.foldl_cons, ih hl (fun g hg => hx g (List.mem_cons_of_mem _ hg)) (n + x f) hrest, hadd,
      BitVec.getLsbD_or, BitVec.getLsbD_ofNat (x := x f), List.any_cons, Bool.and_or_distrib_left, Bool.or_assoc]

/-- The registers of every window have fields that share no bit: each register map is a finite list. -/
theorem fields_apart_of_mem_rowsAt (a : Nat) : ∀ r ∈ rowsAt a, r.fields.Pairwise FieldRow.Apart := by
  simp only [rowsAt]
  repeat' split
  all_goals decide +kernel

/-- The fields of a register share no bit. -/
theorem fieldsAt_apart (a : Nat) : (fieldsAt a).Pairwise FieldRow.Apart := by
  unfold fieldsAt
  split
  next r hr => exact fields_apart_of_mem_rowsAt a r (List.mem_of_find?_eq_some hr)
  next => exact List.Pairwise.nil

/-- A bit of the word after a write: the access code of the field that holds it decides, and a bit of no field is 0 (R11, R12). -/
theorem getLsbD_writtenWord (a : Nat) (locked : Bool) (old w : Word) (i : Nat) :
    (writtenWord a locked old w).getLsbD i = (fieldsAt a).any (fun f =>
      decide (f.has i) && f.access.bit locked (old.getLsbD i) (w.getLsbD i)) := by
  have hbits := FieldRow.testBit_written_mul (locked := locked) (old := old) (w := w)
  unfold writtenWord
  rw [getLsbD_foldl_add (fun f => f.written locked old w * 2 ^ f.lo) _ (fieldsAt_apart a)
    (fun f _ j hj => of_decide_eq_true (Bool.and_eq_true_iff.mp (hbits f j ▸ hj)).1) 0 (by simp)]
  simp only [hbits, BitVec.getLsbD_zero, Bool.false_or]
  by_cases hi : i < 32
  · simp [hi]
  · have hb : ∀ c : Access, c.bit locked false false = false := by
      intro c; cases c <;> simp [Access.bit]
    simp [hi, BitVec.getLsbD_of_ge old i (by omega), BitVec.getLsbD_of_ge w i (by omega), hb]

/-- Two words that agree in every field bit leave the same word (R12). -/
theorem writtenWord_congr (a : Nat) (locked : Bool) (old v w : Word)
    (h : ∀ f ∈ fieldsAt a, ∀ i, f.lo ≤ i → i ≤ f.hi → v.getLsbD i = w.getLsbD i) :
    writtenWord a locked old v = writtenWord a locked old w := by
  apply BitVec.eq_of_getLsbD_eq
  intro i _
  rw [getLsbD_writtenWord, getLsbD_writtenWord]
  have hbit : ∀ f ∈ fieldsAt a, (decide (f.has i) && f.access.bit locked (old.getLsbD i) (v.getLsbD i)) =
      (decide (f.has i) && f.access.bit locked (old.getLsbD i) (w.getLsbD i)) := by
    intro f hf
    by_cases hi : f.has i
    · rw [h f hf i hi.1 hi.2]
    · simp [hi]
  rw [Bool.eq_iff_iff, List.any_eq_true, List.any_eq_true]
  exact exists_congr fun f => and_congr_right fun hf => by rw [hbit f hf]

/-- A field of the word after a write holds what its access code gives it (R11). -/
theorem Fld.get_writtenWord (a b : Nat) (f : FieldRow) (hf : f ∈ fieldsAt a) (locked : Bool) (old w : Word) :
    (⟨b, f.hi, f.lo⟩ : Fld).get (writtenWord a locked old w) = f.written locked old w := by
  apply Nat.eq_of_testBit_eq
  intro j
  rw [Fld.testBit_get, FieldRow.testBit_written, getLsbD_writtenWord]
  by_cases hj : j < f.hi + 1 - f.lo
  · have hhas : f.has (f.lo + j) := by omega
    have honly : ∀ g ∈ fieldsAt a, g.has (f.lo + j) → g = f := by
      intro g hg hgj
      by_contra hne
      have : Std.Symm FieldRow.Apart := ⟨fun _ _ => Or.symm⟩
      have := (fieldsAt_apart a).forall hg hf hne
      omega
    simp only [hj, decide_true, Bool.true_and]
    rw [Bool.eq_iff_iff, List.any_eq_true]
    constructor
    · rintro ⟨g, hg, hbit⟩
      simp only [Bool.and_eq_true, decide_eq_true_eq] at hbit
      exact honly g hg hbit.1 ▸ hbit.2
    · intro hbit
      exact ⟨f, hf, by simp [hhas, hbit]⟩
  · simp [hj]

/-- Settles O55: a bit of the written word depends on no bit but its own, and on that only in a field. -/
theorem reservedBitsAreIgnored : Obligations.ReservedBitsAreIgnored := by
  refine ⟨fun s a v w h => ?_, fun s a v i h => ?_⟩
  · rw [State.writePlain, State.writePlain, writtenWord_congr a _ _ v w h]
  · rw [State.writePlain, State.reg_setReg_same, getLsbD_writtenWord, List.any_eq_false]
    intro f hf
    have hout : ¬ f.has i := by have := h f hf; omega
    simp [hout]

end Sys2Proof.Machine
end

section
/-! The rules of the shared operations that binding a ring uses: what a flag, the derived ring flags and an event leave. -/

namespace Sys2Proof.Machine

theorem State.reg_setFld_ne (s : State) (f : Fld) (v a : Nat) (h : a ≠ f.addr) : (s.setFld f v).reg a = s.reg a :=
  State.reg_setReg_ne _ _ h

theorem State.reg_bump_ne (s : State) (f : Fld) (k a : Nat) (h : a ≠ f.addr) : (s.bump f k).reg a = s.reg a :=
  State.reg_setFld_ne s f _ a h

/-- Raising a flag changes its own register and the pending word of its interrupt. -/
theorem State.reg_raiseFlag_ne (s : State) (f : Fld) (irq a : Nat) (hf : a ≠ f.addr) (hp : a ≠ R.RNG_INT_PEND (irq / 32)) :
    (s.raiseFlag f irq).reg a = s.reg a := by
  unfold State.raiseFlag
  split
  · rfl
  · rw [State.pend, State.reg_setReg_ne _ _ hp, State.reg_setFld_ne _ _ _ _ hf]

theorem State.reg_ringFlag_ne (s : State) (f : Fld) (n : Nat) (on : Bool) (a : Nat) (hf : a ≠ f.addr)
    (hp : a ≠ R.RNG_INT_PEND ((64 + n) / 32)) : (s.ringFlag f n on).reg a = s.reg a := by
  cases on
  · exact State.reg_setFld_ne _ _ _ _ hf
  · exact State.reg_raiseFlag_ne s f _ a hf hp

@[simp] theorem State.ringFlag_evr (s : State) (f : Fld) (n : Nat) (on : Bool) : (s.ringFlag f n on).evr = s.evr := by
  cases on
  · rfl
  · exact State.raiseFlag_evr s f _

/-- What setting ring flags one ring after another keeps, when setting one does. -/
theorem State.foldl_ringFlag_keeps {α : Type} (p : State → α) (f : Nat → Fld) (on : State → Nat → Bool)
    (hp : ∀ (s : State) (m : Nat) (b : Bool), p (s.ringFlag (f m) m b) = p s) (l : List Nat) (s : State) :
    p (l.foldl (fun s m => s.ringFlag (f m) m (on s m)) s) = p s := by
  induction l generalizing s with
  | nil => rfl
  | cons m l ih => rw [List.foldl_cons, ih, hp]

/-- Bringing the derived ring flags up to date changes only status registers of rings and pending words. -/
theorem State.reg_refreshRings_ne (s : State) (n a : Nat) (hs : ∀ m, a ≠ R.RNG_STAT m) (hp : ∀ k, a ≠ R.RNG_INT_PEND k) :
    (s.refreshRings n).reg a = s.reg a := by
  unfold State.refreshRings
  rw [State.foldl_ringFlag_keeps (fun s => s.reg a) _ _ (fun s m b => State.reg_ringFlag_ne s _ m b a (hs m) (hp _)),
    State.reg_ringFlag_ne _ _ _ _ _ (hs n) (hp _)]

@[simp] theorem State.refreshRings_evr (s : State) (n : Nat) : (s.refreshRings n).evr = s.evr := by
  unfold State.refreshRings
  rw [State.foldl_ringFlag_keeps State.evr _ _ (fun s m b => State.ringFlag_evr s _ m b), State.ringFlag_evr]

/-- A register does not read the recorder's record. -/
theorem State.reg_withEvr (s : State) (e : Evr) (a : Nat) : ({ s with evr := e } : State).reg a = s.reg a := rfl

/-- A lost event changes only the registers that count it (R490). -/
theorem State.loseEvent_onlyRegs (s : State) (stamp : Nat) (notime : Bool) : s.onlyRegs (s.loseEvent stamp notime) eventRegs := by
  intro a ha
  simp only [eventRegs, List.mem_cons, List.not_mem_nil, or_false, not_or] at ha
  obtain ⟨hcount, hstat, hpend⟩ := ha
  calc (s.loseEvent stamp notime).reg a
    _ = ((s.bump F.EVR_LOSTCNT_COUNT).raiseFlag F.EVR_STAT_LOST 222).reg a := State.reg_withEvr _ _ a
    _ = (s.bump F.EVR_LOSTCNT_COUNT).reg a := State.reg_raiseFlag_ne _ _ _ _ hstat hpend
    _ = s.reg a := State.reg_bump_ne _ _ _ _ hcount

/-- Recording an event changes no register but those of the count of events lost (R490). -/
theorem State.event_onlyRegs (s : State) (code : Nat) (args : List Word) : s.onlyRegs (s.event code args) eventRegs := by
  intro a ha
  unfold State.event
  split
  · exact State.reg_withEvr _ _ a
  · exact s.loseEvent_onlyRegs _ _ a ha

/-- An event that finds room is the last of the intake (R489). -/
theorem State.event_intake (s : State) (code : Nat) (args : List Word) (h : s.evr.intake.length < 64) :
    (s.event code args).evr.intake = s.evr.intake ++ [⟨code, args, s.stamp, s.noTime, s.now, false⟩] := by
  simp only [State.event, h, if_true]

/-- A write that reaches its register has the register's effect. -/
theorem State.guardWrite_of_takesWrite (s : State) (acc : Acc) (a : Nat) (k : State → State) (h : s.takesWrite acc a) :
    s.guardWrite acc a k = k s := by
  simp only [State.takesWrite, Bool.and_eq_true, Option.isNone_iff_eq_none] at h
  obtain ⟨hpresent, hpermits⟩ := h
  simp [State.guardWrite, hpresent, hpermits]

end Sys2Proof.Machine
end

section
/-! A ring named for the queue of an absent unit (R6). -/

namespace Sys2Proof.Machine

theorem exec_ringConfigure (acc : Acc) (n : Fin 64) (v : Word) (s : State) :
    exec (.ringConfigure acc n v) s = execRingConfigure acc n v s := by rfl

/-- A RING_CONFIGURE that reaches RNG_CFGn is the write of it. -/
theorem exec_ringConfigure_of_takesWrite (s : State) (acc : Acc) (n : Fin 64) (v : Word) (h : s.takesWrite acc (R.RNG_CFG n)) :
    exec (.ringConfigure acc n v) s = .next (s.writeRngCfg n v) := by
  rw [exec_ringConfigure, execRingConfigure, State.guardWrite_of_takesWrite s acc _ _ h]

theorem RNG_CFG_SIZE_ok (n : Nat) : (F.RNG_CFG_SIZE n).Ok := by simp [F.RNG_CFG_SIZE, Fld.Ok]

/-- SIZE of RNG_CFGn takes the bits written, whether or not the lock is set (R59). -/
theorem RNG_CFG_SIZE_get_writtenWord (n : Fin 64) (locked : Bool) (old w : Word) :
    (F.RNG_CFG_SIZE n).get (writtenWord (R.RNG_CFG n) locked old w) = (F.RNG_CFG_SIZE n).get w := by
  have hmem : ∀ n : Fin 64, (⟨4, 0, .rw, 0, .rtx, .rtx⟩ : FieldRow) ∈ fieldsAt (R.RNG_CFG n) := by decide +kernel
  exact Fld.get_writtenWord (R.RNG_CFG n) _ _ (hmem n) locked old w

/-- The queues of units that a part may lack are queues of Table 2-1. -/
theorem validQueue_of_absentQueue (p : Part) (q base : Nat) (h : p.absentQueue q = some base) : validQueue q = true := by
  have hq : q = 0x0B ∨ (0x50 ≤ q ∧ q ≤ 0x59) ∨ q = 0x5C := by
    by_contra hne
    have hnone : p.absentQueue q = none := by
      unfold Part.absentQueue
      rw [if_neg (by omega), if_neg (by omega), if_neg (by omega), if_neg (by omega), if_neg (by omega)]
    simp [hnone] at h
  simp only [validQueue, Bool.or_eq_true, Bool.and_eq_true, decide_eq_true_eq]
  omega

/-- The state a refused binding leaves: SIZE and ACTIVE at 0, the derived flags up to date. -/
def State.unboundRing (s : State) (n : Nat) : State :=
  ((s.setFld (F.RNG_CFG_SIZE n) 0).setFld (F.RNG_STAT_ACTIVE n) 0).refreshRings n

/-- Binding a ring to the queue of an absent unit is refused and recorded (R6). -/
theorem State.bindRing_absentQueue (s : State) (n base : Nat) (hlo : 4 ≤ s.fld (F.RNG_CFG_SIZE n))
    (hhi : s.fld (F.RNG_CFG_SIZE n) ≤ 16) (hq : s.part.absentQueue (s.fld (F.RNG_CFG_QUEUE n)) = some base) :
    s.bindRing n = (s.unboundRing n).absentAccess base := by
  have hvalid := validQueue_of_absentQueue _ _ _ hq
  have hsize : ¬ (s.fld (F.RNG_CFG_SIZE n) < 4 ∨ 16 < s.fld (F.RNG_CFG_SIZE n) ∨ (!validQueue (s.fld (F.RNG_CFG_QUEUE n))) = true) := by
    simp only [hvalid, Bool.not_true, Bool.false_eq_true, or_false]
    omega
  simp only [State.bindRing, if_neg hsize, hq]
  rfl

@[simp] theorem State.unboundRing_evr (s : State) (n : Nat) : (s.unboundRing n).evr = s.evr := by
  simp [State.unboundRing]

/-- The configuration of a ring is no pending word. -/
theorem RNG_CFG_ne_RNG_INT_PEND (n : Fin 64) (k : Nat) : R.RNG_CFG n ≠ R.RNG_INT_PEND k := by
  simp only [R.RNG_CFG, R.RNG_INT_PEND]; omega

/-- SIZE reads 0 after a refused binding: no flag that is brought up to date lies in RNG_CFGn. -/
theorem State.unboundRing_size (s : State) (n : Fin 64) : (s.unboundRing n).fld (F.RNG_CFG_SIZE n) = 0 := by
  have hstat : ∀ m, R.RNG_CFG n ≠ R.RNG_STAT m := by
    intro m; simp only [R.RNG_CFG, R.RNG_STAT]; omega
  have hreg : (s.unboundRing n).reg (R.RNG_CFG n) = (s.setFld (F.RNG_CFG_SIZE n) 0).reg (R.RNG_CFG n) := by
    rw [State.unboundRing, State.reg_refreshRings_ne _ _ _ hstat (RNG_CFG_ne_RNG_INT_PEND n),
      State.reg_setFld_ne _ _ _ _ (hstat n)]
  calc (s.unboundRing n).fld (F.RNG_CFG_SIZE n)
    _ = (s.setFld (F.RNG_CFG_SIZE n) 0).fld (F.RNG_CFG_SIZE n) := congrArg (F.RNG_CFG_SIZE n).get hreg
    _ = 0 := by rw [State.fld_setFld_same _ _ (RNG_CFG_SIZE_ok n), Nat.zero_mod]

/-- Recording the access to an absent unit leaves RNG_CFGn. -/
theorem State.absentAccess_size (s : State) (base : Nat) (n : Fin 64) :
    (s.absentAccess base).fld (F.RNG_CFG_SIZE n) = s.fld (F.RNG_CFG_SIZE n) := by
  have hmem : R.RNG_CFG n ∉ eventRegs := by
    simp only [eventRegs, List.mem_cons, List.not_mem_nil, or_false, not_or]
    refine ⟨?_, ?_, RNG_CFG_ne_RNG_INT_PEND n 6⟩
    · simp only [R.RNG_CFG, R.EVR_LOSTCNT]; omega
    · simp only [R.RNG_CFG, R.EVR_STAT]; omega
  exact congrArg (F.RNG_CFG_SIZE n).get (s.event_onlyRegs 0x0101 [w32 base] _ hmem)

/-- A write of RNG_CFGn that names the queue of an absent unit, while RNG_HWn equals RNG_DBn, refuses the binding and records
the access (R6, R38). -/
theorem State.writeRngCfg_absentQueue (s : State) (n : Fin 64) (v : Word) (base : Nat) (hidle : s.ringHw n = s.ringDb n)
    (hlo : 4 ≤ (F.RNG_CFG_SIZE n).get v) (hhi : (F.RNG_CFG_SIZE n).get v ≤ 16)
    (hq : s.part.absentQueue ((F.RNG_CFG_QUEUE n).get (writtenWord (R.RNG_CFG n) (s.locked (R.RNG_CFG n)) (s.reg (R.RNG_CFG n)) v)) =
      some base) :
    s.writeRngCfg n v = ((s.writePlain (R.RNG_CFG n) v).unboundRing n).absentAccess base := by
  have hsize : (s.writePlain (R.RNG_CFG n) v).fld (F.RNG_CFG_SIZE n) = (F.RNG_CFG_SIZE n).get v :=
    (State.fld_setReg_same s (F.RNG_CFG_SIZE n) _).trans (RNG_CFG_SIZE_get_writtenWord n _ _ v)
  have hqueue : (s.writePlain (R.RNG_CFG n) v).fld (F.RNG_CFG_QUEUE n) = _ := State.fld_setReg_same s (F.RNG_CFG_QUEUE n) _
  have hwrite : s.writeRngCfg n v = (s.writePlain (R.RNG_CFG n) v).bindRing n := by
    simp only [State.writeRngCfg, State.writePlain]
    rw [if_neg (by omega), if_neg (by simp [hidle])]
  rw [hwrite, State.bindRing_absentQueue _ n base (by rw [hsize]; exact hlo) (by rw [hsize]; exact hhi)
    (by rw [hqueue, State.writePlain_part]; exact hq)]

/-- Settles O53: the write is a refused binding, after which only the event is recorded. -/
theorem ringOfAnAbsentUnitStaysDisabled : Obligations.RingOfAnAbsentUnitStaysDisabled := by
  intro s acc n v new base htakes hidle hnew hlo hhi hq
  refine ⟨_, exec_ringConfigure_of_takesWrite s acc n v htakes, ?_⟩
  rw [State.writeRngCfg_absentQueue s n v base hidle hlo hhi (hnew ▸ hq)]
  have hevr : ((s.writePlain (R.RNG_CFG n) v).unboundRing n).evr = s.evr := by simp
  constructor
  · rw [State.absentAccess_size, State.unboundRing_size]
  · intro hroom
    rw [State.absentAccess, State.event_intake _ _ _ (by rwa [hevr]), hevr]
    simp

end Sys2Proof.Machine
end

section
/-! What a change of registers leaves: the calculus of "only these registers", and the readings of the state that a recorded
access, an event or a brought-up ring flag does not enter. -/

namespace Sys2Proof.Machine

/-! ### Only these registers -/

/-- The registers in which two states differ lie within a list. -/
structure Within (l : List Nat) (s t : State) : Prop where
  onlyRegs : s.onlyRegs t l

section Within
variable {l : List Nat} {s t : State}

theorem Within.refl (l : List Nat) (s : State) : Within l s s := ⟨fun _ _ => rfl⟩

theorem Within.mono {l' : List Nat} (h : Within l' s t) (hl : l' ⊆ l) : Within l s t :=
  ⟨fun a ha => h.onlyRegs a fun hm => ha (hl hm)⟩

theorem Within.trans {u : State} (h : Within l s t) (h' : Within l t u) : Within l s u :=
  ⟨fun a ha => (h'.onlyRegs a ha).trans (h.onlyRegs a ha)⟩

/-- A change beside the register file. -/
theorem Within.beside {u : State} (h : Within l s t) (hu : u.regs = t.regs := by rfl) : Within l s u :=
  ⟨fun a ha => (congrArg (fun m => SMap.get resetOf m a) hu).trans (h.onlyRegs a ha)⟩

theorem Within.withGns (h : Within l s t) {g : Gns} : Within l s { t with gns := g } := h.beside

theorem Within.setReg (h : Within l s t) {b : Nat} {w : Word} (hb : b ∈ l) : Within l s (t.setReg b w) :=
  ⟨fun a ha => (State.reg_setReg_ne t w fun hab : a = b => ha (hab ▸ hb)).trans (h.onlyRegs a ha)⟩

theorem Within.setFld (h : Within l s t) {f : Fld} {v : Nat} (hf : f.addr ∈ l) : Within l s (t.setFld f v) := h.setReg hf

theorem Within.pend (h : Within l s t) {irq : Nat} (hp : R.RNG_INT_PEND (irq / 32) ∈ l) : Within l s (t.pend irq) := h.setReg hp

theorem Within.raiseFlag (h : Within l s t) {f : Fld} {irq : Nat} (hf : f.addr ∈ l) (hp : R.RNG_INT_PEND (irq / 32) ∈ l) :
    Within l s (t.raiseFlag f irq) := by
  unfold State.raiseFlag
  split
  · exact h
  · exact (h.setFld hf).pend hp

theorem Within.raiseBoth (h : Within l s t) {f g : Fld} {irq : Nat} (hf : f.addr ∈ l) (hg : g.addr ∈ l)
    (hp : R.RNG_INT_PEND (irq / 32) ∈ l) : Within l s (t.raiseBoth f g irq) :=
  (h.setFld hf).raiseFlag hg hp

theorem Within.event (h : Within l s t) {code : Nat} {args : List Word} (hl : eventRegs ⊆ l) : Within l s (t.event code args) :=
  h.trans (.mono ⟨t.event_onlyRegs code args⟩ hl)

theorem Within.ite {u : State} {c : Prop} [Decidable c] (ht : Within l s t) (hu : Within l s u) : Within l s (if c then t else u) := by
  split
  · exact ht
  · exact hu

end Within

/-! ### Fields and pending interrupts -/

theorem State.fld_lt (s : State) (f : Fld) : s.fld f < 2 ^ (f.hi + 1 - f.lo) := Nat.mod_lt _ (by positivity)

theorem State.fld_congr {s t : State} {f : Fld} (h : t.reg f.addr = s.reg f.addr) : t.fld f = s.fld f := congrArg f.get h

theorem State.flag_congr {s t : State} {f : Fld} (h : t.fld f = s.fld f) : t.flag f = s.flag f := by
  rw [State.flag, State.flag, h]

theorem State.flag_setFld_zero (s : State) (f : Fld) (hf : f.Ok) : (s.setFld f 0).flag f = false := by
  simp [State.flag, State.fld_setFld_same s f hf]

theorem State.isPending_eq (s : State) (src : Nat) :
    s.isPending src = (s.reg (R.RNG_INT_PEND (src / 32))).getLsbD (src % 32) := by
  rw [State.isPending, BitVec.getLsbD, Nat.testBit_eq_decide_div_mod_eq]

theorem getLsbD_or_two_pow_same (w : Word) {i : Nat} (hi : i < 32) : (w ||| BitVec.ofNat 32 (2 ^ i)).getLsbD i = true := by
  rw [BitVec.getLsbD_or, BitVec.getLsbD_ofNat, Nat.testBit_two_pow, decide_eq_true hi, decide_eq_true rfl, Bool.and_self,
    Bool.or_true]

theorem State.isPending_pend (s : State) (src : Nat) : (s.pend src).isPending src = true := by
  rw [State.isPending_eq, State.pend, State.reg_setReg_same, getLsbD_or_two_pow_same _ (Nat.mod_lt _ (by decide))]

/-! ### Readings that the record of an access does not enter -/

/-- A reading of the state that registers from the first pending word up, and the recorder's record, do not enter: the record of
an access or a denial leaves it. -/
structure Unrecorded {α : Type} (p : State → α) : Prop where
  setReg : ∀ (s : State) (b : Nat) (w : Word), R.RNG_INT_PEND 0 ≤ b → p (s.setReg b w) = p s
  withEvr : ∀ (s : State) (e : Evr), p { s with evr := e } = p s

theorem unrecorded_reg {a : Nat} (ha : a < R.RNG_INT_PEND 0) : Unrecorded (fun s => s.reg a) :=
  ⟨fun s _ w hb => State.reg_setReg_ne s w (Nat.ne_of_lt (Nat.lt_of_lt_of_le ha hb)), fun _ _ => rfl⟩

theorem unrecorded_mem : Unrecorded State.mem := ⟨fun _ _ _ _ => rfl, fun _ _ => rfl⟩

theorem unrecorded_rings : Unrecorded State.rings := ⟨fun _ _ _ _ => rfl, fun _ _ => rfl⟩

theorem unrecorded_now : Unrecorded State.now := ⟨fun _ _ _ _ => rfl, fun _ _ => rfl⟩

theorem RNG_INT_PEND_le (k : Nat) : R.RNG_INT_PEND 0 ≤ R.RNG_INT_PEND k := by
  simp only [R.RNG_INT_PEND]; omega

section Unrecorded
variable {α : Type} {p : State → α} (hp : Unrecorded p)
include hp

theorem Unrecorded.setFld (s : State) (f : Fld) (v : Nat) (hf : R.RNG_INT_PEND 0 ≤ f.addr) : p (s.setFld f v) = p s :=
  hp.setReg s _ _ hf

theorem Unrecorded.pend (s : State) (irq : Nat) : p (s.pend irq) = p s := hp.setReg s _ _ (RNG_INT_PEND_le _)

theorem Unrecorded.raiseFlag (s : State) (f : Fld) (irq : Nat) (hf : R.RNG_INT_PEND 0 ≤ f.addr) : p (s.raiseFlag f irq) = p s := by
  unfold State.raiseFlag
  split
  · rfl
  · rw [hp.pend, hp.setFld _ _ _ hf]

theorem Unrecorded.event (s : State) (code : Nat) (args : List Word) : p (s.event code args) = p s := by
  unfold State.event
  split
  · exact hp.withEvr s _
  · rw [State.loseEvent, hp.withEvr, hp.raiseFlag _ _ _ (by decide), State.bump, hp.setFld _ _ _ (by decide)]

theorem Unrecorded.denyAt (s : State) (t : Nat) (acc : Acc) (k : AccKind) (a : Nat) : p (s.denyAt t acc k a) = p s := by
  have hlo : R.RNG_INT_PEND 0 ≤ R.ACC_T_FADDR_LO t := by simp only [R.RNG_INT_PEND, R.ACC_T_FADDR_LO]; omega
  have hhi : R.RNG_INT_PEND 0 ≤ R.ACC_T_FADDR_HI t := by simp only [R.RNG_INT_PEND, R.ACC_T_FADDR_HI]; omega
  have hinfo : R.RNG_INT_PEND 0 ≤ R.ACC_T_FINFO t := by simp only [R.RNG_INT_PEND, R.ACC_T_FINFO]; omega
  simp only [State.denyAt]
  rw [apply_ite p, State.bump, hp.setFld _ _ _ hinfo, hp.pend, hp.setReg _ _ _ hinfo, hp.setReg _ _ _ hhi, hp.setReg _ _ _ hlo,
    ite_self, State.accessEvent, hp.event]

theorem Unrecorded.deny (s : State) (acc : Acc) (k : AccKind) (a : Nat) : p (s.deny acc k a) = p s := by
  unfold State.deny
  split
  · exact hp.denyAt s _ acc k a
  · exact hp.event s _ _

theorem Unrecorded.noteAbsent (s : State) (a n : Nat) (stop : Option Nat) : p (s.noteAbsent a n stop) = p s := by
  refine List.foldlRecOn (motive := fun u => p u = p s) _ _ rfl fun u hu b _ => ?_
  split
  · rw [State.absentAccess, hp.event, hu]
  · exact hu

end Unrecorded

end Sys2Proof.Machine
end

section
/-! Events of GNSS, time, panels, buses, Tandem, recorder, power and rings: the registers that each may change (R42, R326, R328,
R338, R412, R434, R440, R454, R488, R493, R499, R513). -/

namespace Sys2Proof.Machine

/-! ### GNSS and time -/

/-- A choice between two outcomes gives one of them. -/
theorem next_of_ite {c : Prop} [Decidable c] {x y : Out} {t : State} (h : (if c then x else y) = .next t) :
    x = .next t ∨ y = .next t := by
  split at h
  · exact .inl h
  · exact .inr h

theorem State.notchApply_regs (s : State) (key : Nat) : (s.notchApply key).regs = s.regs := by
  simp only [State.notchApply]
  split <;> rfl

theorem execNotchMove_within {s t : State} {a : Fin 2} {b : Fin 3} {f : Fin 4} {tone : BitVec 16}
    (h : execNotchMove a b f tone s = .next t) : Within [R.GRF_NOTCH a b f] s t := by
  have hoff : Within [R.GRF_NOTCH a b f] s (s.setFld (F.GRF_NOTCH_FOFF a b f) tone.toNat) :=
    .setFld (.refl _ s) (by simp [F.GRF_NOTCH_FOFF])
  simp only [execNotchMove] at h
  split at h
  · split at h <;> cases h
    · exact hoff.beside (State.notchApply_regs _ _)
    · exact hoff.beside
  · split at h
    · split at h <;> cases h
      · exact .beside (.refl _ s) (State.notchApply_regs _ _)
      · exact .refl _ s
    · cases h
      exact .refl _ s

theorem execGnsJam_within {s t : State} {a : Fin 2} {b : Fin 3} {power : BitVec 16} {agc : BitVec 8}
    (h : execGnsJam a b power agc s = .next t) : Within ([R.GRF_JAM a b, R.GRF_STAT] ++ eventRegs) s t := by
  rw [execGnsJam] at h
  split at h
  · extract_lets ji u jth key put at h
    have hmeas : Within ([R.GRF_JAM a b, R.GRF_STAT] ++ eventRegs) s u :=
      .setFld (.setFld (.refl _ s) (by simp [F.GRF_JAM_JI])) (by simp [F.GRF_JAM_AGC])
    clear_value u
    split at h
    · cases h
      exact hmeas.beside
    · split at h
      · cases h
        exact hmeas.beside
      · split at h <;> cases h
        · exact .event (.raiseBoth (hmeas.beside) (by simp [F.GRF_JAM_JAM]) (by simp [F.GRF_STAT_JAM])
            (by simp [eventRegs])) (by simp)
        · exact hmeas
  · cases h
    exact .refl _ s

theorem State.loseLock_within (s : State) (c : Nat) : Within [R.GNS_ACQSTAT] s (s.loseLock c) := by
  unfold State.loseLock
  split
  next x hx =>
    split
    · refine .beside (t := (s.setChan c (some { x with state := 1, slip := true })).setFld F.GNS_ACQSTAT_QUEUED _) ?_
      exact .setFld (.beside (.refl _ s)) (by simp [F.GNS_ACQSTAT_QUEUED])
    · exact .refl _ s
  next => exact .refl _ s

theorem State.gnsSync_within (s : State) : Within [R.GNS_CHINFO, R.GNS_CHUSE] s s.gnsSync := by
  have hcount : ∀ v w, Within [R.GNS_CHINFO, R.GNS_CHUSE] s ((s.setFld F.GNS_CHUSE_ANT0 v).setFld F.GNS_CHUSE_ANT1 w) :=
    fun v w => .setFld (.setFld (.refl _ s) (by simp [F.GNS_CHUSE_ANT0])) (by simp [F.GNS_CHUSE_ANT1])
  simp only [State.gnsSync]
  split <;> exact .setReg (hcount _ _) (by simp)

/-- The channels of an antenna that is lost go back to pull-in (R328). -/
theorem State.antLost_within (s : State) (a : Nat) : Within [R.GNS_ACQSTAT, R.GNS_CHINFO, R.GNS_CHUSE] s (s.antLost a) := by
  have hsync := fun u : State => u.gnsSync_within.mono (l := [R.GNS_ACQSTAT, R.GNS_CHINFO, R.GNS_CHUSE]) (by simp)
  unfold State.antLost
  refine .trans (List.foldlRecOn _ _ (.refl _ s) fun u hu c _ => ?_) (hsync _)
  split
  · split
    · exact hu.trans ((u.loseLock_within c).mono (by simp))
    · exact hu
  · exact hu

theorem State.antShort_within (s : State) (a : Nat) :
    Within ([R.GRF_ANTSTAT a, R.GRF_STAT, R.GNS_ACQSTAT, R.GNS_CHINFO, R.GNS_CHUSE] ++ eventRegs) s (s.antShort a) := by
  have hlost := fun u : State => (u.antLost_within a).mono
    (l := [R.GRF_ANTSTAT a, R.GRF_STAT, R.GNS_ACQSTAT, R.GNS_CHINFO, R.GNS_CHUSE] ++ eventRegs) (by simp)
  have hflag : Within ([R.GRF_ANTSTAT a, R.GRF_STAT, R.GNS_ACQSTAT, R.GNS_CHINFO, R.GNS_CHUSE] ++ eventRegs) s
      ((((s.setFld (F.GRF_ANTSTAT_STATE a) 3).setFld (F.GRF_ANTSTAT_IMEAS a) 0).raiseBoth (F.GRF_ANTSTAT_SHORT a)
        F.GRF_STAT_SHORT 199).event 0x0B04 []) :=
    .event (.raiseBoth (.setFld (.setFld (.refl _ s) (by simp [F.GRF_ANTSTAT_STATE])) (by simp [F.GRF_ANTSTAT_IMEAS]))
      (by simp [F.GRF_ANTSTAT_SHORT]) (by simp [F.GRF_STAT_SHORT]) (by simp [eventRegs])) (List.subset_append_right _ _)
  unfold State.antShort
  exact (hflag.trans (hlost _)).withGns

theorem execAntRetry_within {s t : State} {a : Fin 2} {current : BitVec 12} (h : execAntRetry a current s = .next t) :
    Within ([R.GRF_ANTSTAT a, R.GRF_STAT, R.GNS_ACQSTAT, R.GNS_CHINFO, R.GNS_CHUSE] ++ eventRegs) s t := by
  unfold execAntRetry at h
  split at h
  · split at h
    · split at h <;> injection h with h <;> subst h
      · exact s.antShort_within a
      · exact .setFld (.setFld (.beside (.refl _ s)) (by simp [F.GRF_ANTSTAT_STATE])) (by simp [F.GRF_ANTSTAT_IMEAS])
    · cases h
      exact .refl _ s
  · cases h
    exact .refl _ s

theorem execGnsInjStale_within {s t : State} (h : execGnsInjStale s = .next t) :
    Within ([R.GNS_SOL, R.GNS_STAT] ++ eventRegs) s t := by
  simp only [execGnsInjStale] at h
  split at h <;> cases h
  · exact .event (.raiseFlag (.setFld (.beside (.refl _ s)) (by simp [F.GNS_SOL_INJ])) (by simp [F.GNS_STAT_INJ_STALE])
      (by simp [eventRegs])) (by simp)
  · exact .refl _ s

theorem State.utcCheck_within (s : State) : Within [R.TIM_UTC, R.TIM_UTCAT] s s.utcCheck := by
  simp only [State.utcCheck]
  split
  · exact .setFld (.setFld (.refl _ s) (by simp [F.TIM_UTC_OFF])) (by simp [F.TIM_UTCAT_AT])
  · exact .refl _ s

/-! ### Panels and cameras -/

theorem State.panelTo_within {l : List Nat} {s t : State} (h : Within l s t) {p st : Nat} (hp : R.DSP_PSTAT p ∈ l) :
    Within l s (t.panelTo p st) :=
  .setFld h (by simpa [F.DSP_PSTAT_STATE])

theorem execLinkTrained_within {s t : State} {p : Fin 2} (h : execLinkTrained p s = .next t) : Within [R.DSP_PSTAT p] s t := by
  simp only [execLinkTrained] at h
  split at h <;> cases h
  · exact State.panelTo_within (.setFld (.beside (.refl _ s)) (by simp [F.DSP_PSTAT_HPD])) (by simp)
  · exact .refl _ s

theorem execHpdLoss_within {s t : State} {p : Fin 2} (h : execHpdLoss p s = .next t) : Within [R.DSP_PSTAT p] s t := by
  simp only [execHpdLoss] at h
  split at h <;> cases h
  · exact State.panelTo_within (.setFld (.beside (.refl _ s)) (by simp [F.DSP_PSTAT_HPD])) (by simp)
  · exact .refl _ s

theorem State.panelFlag_within {l : List Nat} {s t : State} (h : Within l s t) {f g : Fld} (hf : f.addr ∈ l) (hg : g.addr ∈ l)
    (hp : R.RNG_INT_PEND 6 ∈ l) : Within l s (t.panelFlag f g) :=
  h.raiseBoth hf hg hp

theorem execDspUnderrun_within {s t : State} {p : Fin 2} {pix : BitVec 22} (h : execDspUnderrun p pix s = .next t) :
    Within [R.DSP_PSTAT p, R.DSP_STAT, R.RNG_INT_PEND 6] s t := by
  simp only [execDspUnderrun] at h
  split at h <;> cases h
  · exact State.panelFlag_within (.beside (.refl _ s)) (by simp [F.DSP_PSTAT_UNDERRUN]) (by simp [F.DSP_STAT_UNDERRUN]) (by simp)
  · exact .refl _ s

theorem State.panelDown_within (s : State) (p : Nat) : Within [R.DSP_PSTAT p] s (s.panelDown p) := by
  simp only [State.panelDown]
  split <;> exact State.panelTo_within (.beside (.refl _ s)) (by simp)

theorem execDspLink_within {s t : State} {p : Fin 2} (h : execDspLink p s = .next t) :
    Within ([R.DSP_PSTAT p, R.DSP_STAT] ++ eventRegs) s t := by
  have hdown := fun u : State => (u.panelDown_within p).mono (l := [R.DSP_PSTAT p, R.DSP_STAT] ++ eventRegs) (by simp)
  simp only [execDspLink] at h
  split at h <;> cases h
  · refine .trans (.event (State.panelFlag_within (.refl _ s) ?_ ?_ ?_) ?_) (hdown _)
    · simp [F.DSP_PSTAT_LINK_FAIL]
    · simp [F.DSP_STAT_LINK_FAIL]
    · simp [eventRegs]
    · simp
  · exact .refl _ s

theorem State.imgDrop_within {s t : State} (h : Within [R.IMG_DROPCNT, R.IMG_STAT, R.RNG_INT_PEND 6] s t) :
    Within [R.IMG_DROPCNT, R.IMG_STAT, R.RNG_INT_PEND 6] s t.imgDrop :=
  .setFld (.raiseFlag h (by simp [F.IMG_STAT_DROP]) (by simp)) (by simp [F.IMG_DROPCNT_COUNT])

theorem State.ageDrop_within (s : State) (c : Nat) : Within [R.IMG_DROPCNT, R.IMG_STAT, R.RNG_INT_PEND 6] s (s.ageDrop c) := by
  simp only [State.ageDrop]
  generalize (if s.camByCtx c then (s.cam c).raw.find? s.rawOld else none) = old
  cases old with
  | none => exact .refl _ s
  | some f => exact State.imgDrop_within (.beside (.refl _ s))

/-! ### Buses and Tandem -/

theorem execAddressClaimed_within {s t : State} {n : Fin 4} (h : execAddressClaimed n s = .next t) : Within [R.CAN_ACSTAT n] s t := by
  unfold execAddressClaimed at h
  split at h
  · split at h <;> cases h
    · exact .setFld (.refl _ s) (by simp [F.CAN_ACSTAT_STATE])
    · exact .refl _ s
  · cases h
    exact .refl _ s

theorem State.setTps_within (s : State) (n : Nat) (l : List TpS) : Within [R.CAN_TPSTAT n] s (s.setTps n l) :=
  .setFld (.beside (.refl _ s)) (by simp [F.CAN_TPSTAT_SESSIONS])

theorem State.tpAbort_within (s : State) (n : Fin 4) (x : TpS) (reason : Nat) :
    Within ([R.CAN_STAT n, R.CAN_TPSTAT n] ++ eventRegs) s (s.tpAbort n x reason) := by
  have hirq : (206 + n.val) / 32 = 6 := by omega
  have hsessions := fun l => (s.setTps_within n l).mono (l := [R.CAN_STAT n, R.CAN_TPSTAT n] ++ eventRegs) (by simp)
  have hflag : ∀ u : State, Within ([R.CAN_STAT n, R.CAN_TPSTAT n] ++ eventRegs) s u →
      Within ([R.CAN_STAT n, R.CAN_TPSTAT n] ++ eventRegs) s ((u.canFlag n F.CAN_STAT_TP_ABORT).event 0x1004 []) := fun u hu =>
    .event (.raiseFlag hu (by simp [F.CAN_STAT_TP_ABORT]) (by simp [hirq, eventRegs])) (by simp)
  have hdone := hflag ((s.setTps n ((s.can n).tps.filter (fun y => !y.same x.src x.etp x.bam))).complete x.ring x.didx stOK 0)
    (hsessions _).beside
  simp only [State.tpAbort]
  split
  · exact hdone
  · exact hdone.beside

theorem execCanTpAbort_within {s t : State} {n : Fin 4} (h : execCanTpAbort n s = .next t) :
    Within ([R.CAN_STAT n, R.CAN_TPSTAT n] ++ eventRegs) s t := by
  unfold execCanTpAbort at h
  split at h <;> cases h
  · exact s.tpAbort_within n _ 3
  · exact .refl _ s

theorem execEthPlca_within {s t : State} {k : Fin 2} (h : execEthPlca k s = .next t) :
    Within ([R.ETH_PLCASTAT k, R.ETH_STAT] ++ eventRegs) s t := by
  unfold execEthPlca at h
  split at h <;> cases h
  · exact .event (.raiseFlag (.setFld (.refl _ s) (by simp [F.ETH_PLCASTAT_ERR])) (by simp [F.ETH_STAT_PLCA_ERR])
      (by simp [eventRegs])) (by simp)
  · exact .refl _ s

theorem execReadySet_within {s t : State} (h : execReadySet s = .next t) : Within [R.TDM_STATE] s t := by
  simp only [execReadySet] at h
  split at h <;> cases h
  · exact .setFld (.refl _ s) (by simp [F.TDM_STATE_READY])
  · exact .refl _ s

/-! ### Recorder, power and watchdogs -/

theorem State.evrSync_within {s t : State} (h : Within [R.EVR_OPEN, R.EVR_STGUSED] s t) :
    Within [R.EVR_OPEN, R.EVR_STGUSED] s t.evrSync := by
  have hused : Within [R.EVR_OPEN, R.EVR_STGUSED] s (t.setFld F.EVR_STGUSED_BYTES t.evr.used) :=
    .setFld h (by simp [F.EVR_STGUSED_BYTES])
  simp only [State.evrSync]
  split <;> exact .setFld (.setFld hused (by simp [F.EVR_OPEN_REPEAT])) (by simp [F.EVR_OPEN_CODE])

theorem State.closeRec_within (s : State) : Within [R.EVR_OPEN, R.EVR_STGUSED] s s.closeRec := by
  unfold State.closeRec
  split
  · exact State.evrSync_within (.beside (.refl _ s))
  · exact .refl _ s

theorem execRecordClose_within {s t : State} (h : execRecordClose s = .next t) : Within [R.EVR_OPEN, R.EVR_STGUSED] s t := by
  unfold execRecordClose at h
  split at h
  · split at h <;> cases h
    · exact s.closeRec_within
    · exact .refl _ s
  · cases h
    exact .refl _ s

theorem execFreezeTimeout_within {s t : State} (h : execFreezeTimeout s = .next t) :
    Within [R.EVR_CTL, R.EVR_STAT, R.RNG_INT_PEND 6] s t := by
  unfold execFreezeTimeout at h
  split at h
  · split at h <;> cases h
    · exact .raiseFlag (.setFld (.beside (.refl _ s)) (by simp [F.EVR_CTL_FREEZE])) (by simp [F.EVR_STAT_UNFROZEN]) (by simp)
    · exact .refl _ s
  · cases h
    exact .refl _ s

/-- The level of IGN taken, with the flag of its direction (R499). -/
theorem State.ignTaken_within (s : State) (v : Nat) (level : Bool) :
    Within [R.PWRM_STAT, R.PWRM_SUP, R.RNG_INT_PEND 6] s
      (((s.setFld F.PWRM_SUP_IGN v).setBit F.PWRM_STAT_IGNLVL level).pwrFlag
        (if level then F.PWRM_STAT_IGNON else F.PWRM_STAT_IGNOFF)) := by
  have hlevel : Within [R.PWRM_STAT, R.PWRM_SUP, R.RNG_INT_PEND 6] s ((s.setFld F.PWRM_SUP_IGN v).setBit F.PWRM_STAT_IGNLVL level) :=
    .setFld (.setFld (.refl _ s) (by simp [F.PWRM_SUP_IGN])) (by simp [F.PWRM_STAT_IGNLVL])
  cases level with
  | true => exact .raiseFlag hlevel (by simp [F.PWRM_STAT_IGNON]) (by simp)
  | false => exact .raiseFlag hlevel (by simp [F.PWRM_STAT_IGNOFF]) (by simp)

theorem State.holdWake_regs (s : State) (src : Nat) : (s.holdWake src).regs = s.regs := rfl

theorem execIgnChange_within {s t : State} {level : Bool} {mv ms : BitVec 16} (h : execIgnChange level mv ms s = .next t) :
    Within [R.PWRM_STAT, R.PWRM_SUP, R.RNG_INT_PEND 6] s t := by
  have htaken := s.ignTaken_within (mv.toNat / 10) level
  rw [execIgnChange] at h
  obtain h | h := next_of_ite h <;> injection h with h <;> subst h
  · exact .refl _ s
  · exact .ite (htaken.beside (State.holdWake_regs _ _)) htaken

theorem execWdWarn_within {s t : State} {w : Fin 2} (h : execWdWarn w s = .next t) :
    Within ([R.RST_STAT, R.RNG_INT_PEND 7] ++ eventRegs) s t := by
  have hflag : (if w.val = 0 then F.RST_STAT_WDWARN0 else F.RST_STAT_WDWARN1).addr ∈ [R.RST_STAT, R.RNG_INT_PEND 7] ++ eventRegs := by
    split
    · simp [F.RST_STAT_WDWARN0]
    · simp [F.RST_STAT_WDWARN1]
  simp only [execWdWarn] at h
  split at h <;> cases h
  · exact .event (.raiseFlag (.beside (.refl _ s)) hflag (by simp)) (by simp)
  · exact .refl _ s

/-! ### Rings -/

/-- The accesses noted as going to absent units change only the recorder's registers (R5). -/
theorem State.noteAbsent_within (s : State) (a n : Nat) (stop : Option Nat) : Within eventRegs s (s.noteAbsent a n stop) := by
  refine List.foldlRecOn _ _ (.refl _ s) fun u hu b _ => ?_
  split
  · exact hu.event (List.Subset.refl _)
  · exact hu

theorem State.startDesc_within (s : State) (n : Nat) (d : Desc) : Within ([R.RNG_HW n] ++ eventRegs) s (s.startDesc n d) :=
  .beside (.setFld (f := F.RNG_HW_IDX n) ((State.noteAbsent_within s _ 32 none).mono (by simp)) (by simp [F.RNG_HW_IDX]))
    (State.setRing_regs _ n _)

theorem execNop_within {s t : State} {n : Fin 64} (h : execNop n s = .next t) : Within ([R.RNG_HW n] ++ eventRegs) s t := by
  unfold execNop at h
  split at h
  · split at h <;> cases h
    · exact (s.startDesc_within n _).beside
    · exact .refl _ s
  · cases h
    exact .refl _ s

theorem execCoalesceTimeout_within {s t : State} {n : Fin 64} (h : execCoalesceTimeout n s = .next t) :
    Within [R.RNG_INT_PEND (n / 32)] s t := by
  unfold execCoalesceTimeout at h
  split at h
  · split at h <;> cases h
    · exact .pend (.beside (.refl _ s)) (by simp)
    · exact .refl _ s
  · cases h
    exact .refl _ s

/-- Settles O51, command by command. -/
theorem systemEventsChangeOnlyTheirRegisters : Obligations.SystemEventsChangeOnlyTheirRegisters :=
  ⟨fun _ _ _ _ _ _ h => (execNotchMove_within h).onlyRegs, fun _ _ _ _ _ _ h => (execGnsJam_within h).onlyRegs,
    fun _ _ _ _ h => (execAntRetry_within h).onlyRegs, fun _ _ h => (execGnsInjStale_within h).onlyRegs,
    fun s _ h => by cases h; exact s.utcCheck_within.onlyRegs,
    fun _ _ _ h => (execLinkTrained_within h).onlyRegs, fun _ _ _ h => (execHpdLoss_within h).onlyRegs,
    fun _ _ _ _ h => (execDspUnderrun_within h).onlyRegs, fun _ _ _ h => (execDspLink_within h).onlyRegs,
    fun s _ c h => by cases h; exact (s.ageDrop_within c).onlyRegs,
    fun _ _ _ h => (execAddressClaimed_within h).onlyRegs, fun _ _ _ h => (execCanTpAbort_within h).onlyRegs,
    fun _ _ _ h => (execEthPlca_within h).onlyRegs, fun _ _ h => (execReadySet_within h).onlyRegs,
    fun _ _ h => (execRecordClose_within h).onlyRegs, fun _ _ h => (execFreezeTimeout_within h).onlyRegs,
    fun _ _ _ _ _ h => (execIgnChange_within h).onlyRegs, fun _ _ _ h => (execWdWarn_within h).onlyRegs,
    fun _ _ _ h => (execNop_within h).onlyRegs, fun _ _ _ h => (execCoalesceTimeout_within h).onlyRegs⟩

end Sys2Proof.Machine
end

section
/-! Rein: what the updates of an arbiter leave, the request that wins an arbitration, and the commands of R50 to R54. -/

namespace Sys2Proof.Machine

/-! ### The arbiter of a target and its status register -/

/-- What setting fields of its status register leaves, replacing the arbiter of a target leaves (Table 2-13). -/
theorem State.setArb_keeps {α : Type} {p : State → α} {t : Nat}
    (hp : ∀ (u : State) (f : Fld) (v : Nat), f.addr = R.REIN_TSTAT t → p (u.setFld f v) = p u) (s : State) (r : Rein) :
    p (s.setArb t r) = p { s with rein := SMap.set (fun _ => Rein.init) s.rein t r } := by
  have hbit : ∀ (u : State) (f : Fld) (b : Bool), f.addr = R.REIN_TSTAT t → p (u.setBit f b) = p u := fun u f b => hp u f _
  simp only [State.setArb]
  split
  · rw [hp _ _ _ rfl, apply_ite p, hp _ _ _ rfl, ite_self, hbit _ _ _ rfl, hp _ _ _ rfl]
  · rw [apply_ite p, hp _ _ _ rfl, ite_self, hbit _ _ _ rfl, hp _ _ _ rfl]

@[simp] theorem State.setArb_rein (s : State) (t : Nat) (r : Rein) :
    (s.setArb t r).rein = SMap.set (fun _ => Rein.init) s.rein t r :=
  State.setArb_keeps (p := State.rein) (fun _ _ _ _ => rfl) s r

@[simp] theorem State.setArb_mem (s : State) (t : Nat) (r : Rein) : (s.setArb t r).mem = s.mem :=
  State.setArb_keeps (p := State.mem) (fun _ _ _ _ => rfl) s r

@[simp] theorem State.arb_setArb_same (s : State) (t : Nat) (r : Rein) : (s.setArb t r).arb t = r := by
  rw [State.arb, State.setArb_rein, SMap.get_set_same]

@[simp] theorem State.arb_setFld (s : State) (f : Fld) (v t : Nat) : (s.setFld f v).arb t = s.arb t := rfl

/-- An arbiter shows only in its own status register (Table 2-13). -/
theorem State.setArb_within (s : State) (t : Nat) (r : Rein) : Within [R.REIN_TSTAT t] s (s.setArb t r) :=
  ⟨fun a ha => State.setArb_keeps (p := fun u => u.reg a)
    (fun u f v hf => State.reg_setFld_ne u f v a (hf ▸ fun h => ha (List.mem_singleton.mpr h))) s r⟩

/-- HOLDER shows the master that holds the grant (Table 2-13). -/
theorem State.setArb_holder (s : State) (t m : Nat) (r : Rein) (hr : r.holder = some m) (hm : m < 64) :
    (s.setArb t r).fld (F.REIN_TSTAT_HOLDER t) = m := by
  simp only [State.setArb, hr]
  rw [State.fld_setFld_same _ _ (by simp [F.REIN_TSTAT_HOLDER, Fld.Ok])]
  exact Nat.mod_eq_of_lt hm

/-- An arbiter out of a lock shows LOCKED clear. -/
theorem State.setArb_unlocked (s : State) (t : Nat) (r : Rein) (hr : r.locked = false) (hh : r.holder = none) :
    (s.setArb t r).flag (F.REIN_TSTAT_LOCKED t) = false := by
  simp only [State.setArb, hr, hh, Bool.not_false, if_true]
  rw [State.flag_congr (State.fld_setFld_other _ _ _ (by simp [F.REIN_TSTAT_RANK_DEFERRED, Fld.Ok])
    (by simp [F.REIN_TSTAT_LOCKED]) (by simp [F.REIN_TSTAT_RANK_DEFERRED, F.REIN_TSTAT_LOCKED]) _)]
  exact State.flag_setFld_zero _ _ (by simp [F.REIN_TSTAT_LOCKED, Fld.Ok])

/-! ### Ranks and limits -/

/-- The registers of ranks and limits are below those that the arbiters write. -/
theorem Within.rank {l : List Nat} {s t : State} (h : Within l s t) (hl : ∀ m < 39, R.REIN_RANK m ∉ l) (m : Nat) :
    t.rank m = s.rank m := by
  unfold State.rank
  split
  next hm => exact State.fld_congr (h.onlyRegs _ (hl m hm))
  next => rfl

theorem Within.reinLimit {l : List Nat} {s t : State} (h : Within l s t) (hl : ∀ m < 39, R.REIN_RANK m ∉ l) (m : Nat) :
    t.reinLimit m = s.reinLimit m := by
  unfold State.reinLimit
  split
  next hm => exact State.fld_congr (h.onlyRegs _ (hl m hm))
  next => rfl

theorem State.rank_lt (s : State) (m : Nat) : s.rank m < 16 := by
  unfold State.rank
  split
  · exact s.fld_lt (F.REIN_RANK_RANK m)
  · decide

/-! ### Waiting and starvation (R53) -/

theorem State.waitSpan_within (s : State) (t cycles : Nat) (l : List (Fin 48 × Fin 65 × BitVec 16)) :
    Within [R.REIN_TSTAT t] s (s.waitSpan t cycles l) :=
  s.setArb_within t _

@[simp] theorem State.waitSpan_mem (s : State) (t cycles : Nat) (l : List (Fin 48 × Fin 65 × BitVec 16)) :
    (s.waitSpan t cycles l).mem = s.mem :=
  s.setArb_mem t _

/-- The requests that wait at an arbiter. -/
def State.waiters (s : State) (t : Nat) : List Nat := (s.arb t).waiting.map (·.master)

/-- The arbiters of two states differ at most in the requests that wait. -/
def Rein.sameGrant (r r' : Rein) : Prop :=
  r'.holder = r.holder ∧ r'.locked = r.locked ∧ r'.lockLeft = r.lockLeft ∧ r'.last = r.last

theorem State.waitSpan_grant (s : State) (t cycles : Nat) (l : List (Fin 48 × Fin 65 × BitVec 16)) :
    (s.arb t).sameGrant ((s.waitSpan t cycles l).arb t) := by
  simp [State.waitSpan, Rein.sameGrant]

theorem State.waitSpan_waiters (s : State) (t cycles : Nat) (l : List (Fin 48 × Fin 65 × BitVec 16)) :
    (s.waitSpan t cycles l).waiters t = s.waiters t ++ l.map (fun p => p.1.val) := by
  simp [State.waitSpan, State.waiters, countWait, Function.comp_def]

/-- The starvation bit of a late request, and the interrupt of its target. -/
def State.noteStarved (t : Nat) (s : State) (x : ReinWait) : State :=
  let a := if x.master < 32 then R.REIN_STARV_LO t else R.REIN_STARV_HI t
  (s.setReg a (s.reg a ||| BitVec.ofNat 32 (2 ^ (x.master % 32)))).pend (154 + t)

/-- The requests of an arbiter that exceed their limit and have not been noted. -/
def State.late (s : State) (t : Nat) : List ReinWait :=
  (s.arb t).waiting.filter (fun x => !x.starved && s.reinLimit x.master ≠ 0 && s.reinLimit x.master < x.wait)

/-- A request that exceeds its master's limit is marked. -/
def State.markStarved (s : State) (x : ReinWait) : ReinWait :=
  if s.reinLimit x.master ≠ 0 && s.reinLimit x.master < x.wait then { x with starved := true } else x

theorem State.starve_eq (s : State) (t : Nat) :
    s.starve t = ((s.late t).foldl (State.noteStarved t) s).setArb t { s.arb t with
      waiting := (s.arb t).waiting.map ((s.late t).foldl (State.noteStarved t) s).markStarved } := rfl

theorem State.starve_within (s : State) (t : Nat) :
    Within [R.REIN_STARV_LO t, R.REIN_STARV_HI t, R.RNG_INT_PEND ((154 + t) / 32), R.REIN_TSTAT t] s (s.starve t) := by
  rw [State.starve_eq]
  refine .trans (List.foldlRecOn _ _ (.refl _ s) fun u hu x _ => ?_) ((State.setArb_within _ t _).mono (by simp))
  exact .pend (.setReg hu (by split <;> simp)) (by simp)

@[simp] theorem State.starve_mem (s : State) (t : Nat) : (s.starve t).mem = s.mem := by
  rw [State.starve_eq, State.setArb_mem]
  exact List.foldlRecOn (motive := fun u : State => u.mem = s.mem) _ _ rfl fun _ hu _ _ => hu

theorem State.starve_grant (s : State) (t : Nat) : (s.arb t).sameGrant ((s.starve t).arb t) := by
  simp [State.starve_eq, Rein.sameGrant]

theorem State.starve_waiters (s : State) (t : Nat) : (s.starve t).waiters t = s.waiters t := by
  have hmark : ∀ (u : State) (x : ReinWait), (u.markStarved x).master = x.master := by
    intro u x
    unfold State.markStarved
    split <;> rfl
  simp [State.starve_eq, State.waiters, Function.comp_def, hmark]

theorem State.reg_noteStarved_lo (u : State) (t : Fin 17) (y : ReinWait) :
    (u.noteStarved t y).reg (R.REIN_STARV_LO t) =
      if y.master < 32 then u.reg (R.REIN_STARV_LO t) ||| BitVec.ofNat 32 (2 ^ (y.master % 32)) else u.reg (R.REIN_STARV_LO t) := by
  have hpend : R.REIN_STARV_LO t ≠ R.RNG_INT_PEND ((154 + t) / 32) := by simp only [R.REIN_STARV_LO, R.RNG_INT_PEND]; omega
  have hhi : R.REIN_STARV_LO t ≠ R.REIN_STARV_HI t := by simp only [R.REIN_STARV_LO, R.REIN_STARV_HI]; omega
  rw [State.noteStarved, State.pend, State.reg_setReg_ne _ _ hpend]
  split
  · exact State.reg_setReg_same _ _ _
  · exact State.reg_setReg_ne _ _ hhi

/-- The starvation bit of a master below 32 is set and the interrupt of the target pending. -/
def State.showsStarved (t : Fin 17) (m : Nat) (u : State) : Prop :=
  (u.reg (R.REIN_STARV_LO t)).getLsbD m = true ∧ u.isPending (154 + t) = true

theorem State.showsStarved_noteStarved (u : State) (t : Fin 17) (m : Nat) (y : ReinWait) (hm : m < 32)
    (h : u.showsStarved t m ∨ y.master = m) : (u.noteStarved t y).showsStarved t m := by
  refine ⟨?_, State.isPending_pend _ _⟩
  rw [State.reg_noteStarved_lo]
  rcases h with ⟨hbit, -⟩ | rfl
  · split
    · rw [BitVec.getLsbD_or, hbit, Bool.true_or]
    · exact hbit
  · rw [if_pos hm, Nat.mod_eq_of_lt hm, getLsbD_or_two_pow_same _ hm]

/-- A late request of a master below 32 leaves its starvation bit set and the interrupt of the target pending (R53). -/
theorem State.starve_of_late (s : State) (t : Fin 17) (x : ReinWait) (hx : x ∈ s.late t) (hm : x.master < 32) :
    (s.starve t).showsStarved t x.master := by
  obtain ⟨before, after, hlate⟩ := List.append_of_mem hx
  have hnoted : ((s.late t).foldl (State.noteStarved t) s).showsStarved t x.master := by
    rw [hlate, List.foldl_append, List.foldl_cons]
    exact List.foldlRecOn _ _ (State.showsStarved_noteStarved _ t _ x hm (.inr rfl)) fun u hu y _ =>
      u.showsStarved_noteStarved t _ y hm (.inl hu)
  obtain ⟨hbit, hpending⟩ := hnoted
  have hlo : R.REIN_STARV_LO t ∉ [R.REIN_TSTAT t] := by simp only [R.REIN_STARV_LO, R.REIN_TSTAT, List.mem_singleton]; omega
  have hpend : R.RNG_INT_PEND ((154 + t) / 32) ∉ [R.REIN_TSTAT t] := by
    simp only [R.RNG_INT_PEND, R.REIN_TSTAT, List.mem_singleton]; omega
  rw [State.starve_eq]
  constructor
  · rw [(State.setArb_within _ t _).onlyRegs _ hlo, hbit]
  · rw [State.isPending_eq, (State.setArb_within _ t _).onlyRegs _ hpend, ← State.isPending_eq, hpending]

/-! ### The request that wins (R50) -/

/-- A request that an arbiter prefers to another, or holds its equal. -/
def State.outranks (s : State) (last : Nat) (x y : ReinWait) : Prop :=
  s.rank y.master ≤ s.rank x.master ∧
    (s.rank y.master = s.rank x.master → robin last x.master ≤ robin last y.master)

theorem State.outranks_refl (s : State) (last : Nat) (x : ReinWait) : s.outranks last x x := ⟨Nat.le_refl _, fun _ => Nat.le_refl _⟩

theorem State.outranks_trans {s : State} {last : Nat} {x y z : ReinWait} (hxy : s.outranks last x y) (hyz : s.outranks last y z) :
    s.outranks last x z := by
  obtain ⟨hrxy, hbxy⟩ := hxy
  obtain ⟨hryz, hbyz⟩ := hyz
  refine ⟨Nat.le_trans hryz hrxy, fun h => ?_⟩
  exact Nat.le_trans (hbxy (by omega)) (hbyz (by omega))

/-- The better of two requests is one of them, and outranks both. -/
theorem State.better_spec (s : State) (last : Nat) (x y : ReinWait) :
    (s.better last x y = x ∨ s.better last x y = y) ∧ s.outranks last (s.better last x y) x ∧ s.outranks last (s.better last x y) y := by
  unfold State.better State.outranks
  split_ifs <;> simp <;> omega

theorem State.foldl_better_spec (s : State) (last : Nat) (l : List ReinWait) (x : ReinWait) :
    l.foldl (fun b y => s.better last b y) x ∈ x :: l ∧
      ∀ y ∈ x :: l, s.outranks last (l.foldl (fun b y => s.better last b y) x) y := by
  induction l generalizing x with
  | nil => simpa using s.outranks_refl last x
  | cons y l ih =>
    obtain ⟨hone, hx, hy⟩ := s.better_spec last x y
    obtain ⟨hmem, hbest⟩ := ih (s.better last x y)
    rw [List.foldl_cons]
    constructor
    · rcases List.mem_cons.mp hmem with h | h
      · rw [h]
        rcases hone with h | h <;> rw [h] <;> simp
      · simp [h]
    · have hwin := hbest _ List.mem_cons_self
      intro z hz
      rcases List.mem_cons.mp hz with rfl | hz
      · exact State.outranks_trans hwin hx
      · rcases List.mem_cons.mp hz with rfl | hz
        · exact State.outranks_trans hwin hy
        · exact hbest z (List.mem_cons_of_mem _ hz)

/-- Where a request waits, the arbiter grants one that outranks every other. -/
theorem State.winner_spec (s : State) (last : Nat) (l : List ReinWait) (hl : l ≠ []) :
    ∃ x ∈ l, s.winner last l = some x ∧ ∀ y ∈ l, s.outranks last x y := by
  cases l with
  | nil => exact absurd rfl hl
  | cons x l => exact ⟨_, (s.foldl_better_spec last l x).1, rfl, (s.foldl_better_spec last l x).2⟩

/-! ### The commands -/

theorem exec_reinArbitrate (s : State) (t : Fin 17) (c : BitVec 16) (l : List (Fin 48 × Fin 65 × BitVec 16)) :
    exec (.reinArbitrate t c l) s = execReinArbitrate t c l s := by rfl

/-- What an arbitration starts from: the cycles of waiting counted, the late requests noted. -/
def State.atBurst (s : State) (t cycles : Nat) (l : List (Fin 48 × Fin 65 × BitVec 16)) : State := (s.waitSpan t cycles l).starve t

theorem State.atBurst_eq (s : State) (t c : Nat) (l : List (Fin 48 × Fin 65 × BitVec 16)) :
    (s.waitSpan t c l).starve t = s.atBurst t c l := rfl

theorem State.atBurst_grant (s : State) (t c : Nat) (l : List (Fin 48 × Fin 65 × BitVec 16)) :
    (s.arb t).sameGrant ((s.atBurst t c l).arb t) := by
  obtain ⟨hh, hk, hl, hlast⟩ := s.waitSpan_grant t c l
  obtain ⟨hh', hk', hl', hlast'⟩ := (s.waitSpan t c l).starve_grant t
  exact ⟨hh'.trans hh, hk'.trans hk, hl'.trans hl, hlast'.trans hlast⟩

theorem State.atBurst_waiters (s : State) (t c : Nat) (l : List (Fin 48 × Fin 65 × BitVec 16)) :
    (s.atBurst t c l).waiters t = s.waiters t ++ l.map (fun p => p.1.val) := by
  rw [State.atBurst, State.starve_waiters, State.waitSpan_waiters]

@[simp] theorem State.atBurst_mem (s : State) (t c : Nat) (l : List (Fin 48 × Fin 65 × BitVec 16)) :
    (s.atBurst t c l).mem = s.mem := by
  rw [State.atBurst, State.starve_mem, State.waitSpan_mem]

theorem State.atBurst_rank (s : State) (t : Fin 17) (c : Nat) (l : List (Fin 48 × Fin 65 × BitVec 16)) (m : Nat) :
    (s.atBurst t c l).rank m = s.rank m := by
  have hout : ∀ m < 39, R.REIN_RANK m ∉
      [R.REIN_STARV_LO t, R.REIN_STARV_HI t, R.RNG_INT_PEND ((154 + t) / 32), R.REIN_TSTAT t] := by
    intro m hm
    simp only [R.REIN_RANK, R.REIN_STARV_LO, R.REIN_STARV_HI, R.RNG_INT_PEND, R.REIN_TSTAT, List.mem_cons, List.not_mem_nil, or_false]
    omega
  exact (((s.waitSpan_within t c l).mono (by simp)).trans ((s.waitSpan t c l).starve_within t)).rank hout m

/-- Inside a lock a burst goes to the holder (R52). -/
theorem execReinArbitrate_locked (s : State) (t : Fin 17) (c : BitVec 16) (l : List (Fin 48 × Fin 65 × BitVec 16))
    (h : 0 < (s.arb t).lockLeft) :
    exec (.reinArbitrate t c l) s = .next ((s.atBurst t c.toNat l).setArb t
      { (s.atBurst t c.toNat l).arb t with lockLeft := (s.arb t).lockLeft - 1 }) := by
  obtain ⟨-, -, hleft, -⟩ := s.atBurst_grant t c.toNat l
  simp only [exec_reinArbitrate, execReinArbitrate, State.atBurst_eq, hleft]
  rw [if_pos h]

/-- Out of a lock the grant goes to the winner (R50). -/
theorem execReinArbitrate_winner (s : State) (t : Fin 17) (c : BitVec 16) (l : List (Fin 48 × Fin 65 × BitVec 16)) (x : ReinWait)
    (h : (s.arb t).lockLeft = 0)
    (hx : (s.atBurst t c.toNat l).winner (s.arb t).last ((s.atBurst t c.toNat l).arb t).waiting = some x) :
    exec (.reinArbitrate t c l) s = .next ((s.atBurst t c.toNat l).setArb t { (s.atBurst t c.toNat l).arb t with
      holder := some x.master, last := x.master, locked := decide (0 < x.lockLen), lockLeft := x.lockLen - 1,
      waiting := ((s.atBurst t c.toNat l).arb t).waiting.erase x }) := by
  obtain ⟨-, -, hleft, hlast⟩ := s.atBurst_grant t c.toNat l
  simp only [exec_reinArbitrate, execReinArbitrate, State.atBurst_eq, hleft, hlast, h, hx, Nat.lt_irrefl, if_false]

/-- Settles O7: the winner of the requests that wait at the burst boundary. -/
theorem arbitrationGrantsTheHighestRank : Obligations.ArbitrationGrantsTheHighestRank := by
  intro s t c l hfree hsome hmasters
  have hwaiters : ((s.atBurst t c.toNat l).arb t).waiting.map (·.master) =
      (s.arb t).waiting.map (·.master) ++ l.map (fun p => p.1.val) := s.atBurst_waiters t c.toNat l
  have hne : ((s.atBurst t c.toNat l).arb t).waiting ≠ [] := by
    intro h
    rw [← hwaiters, h] at hsome
    exact hsome rfl
  obtain ⟨x, hx, hwin, hbest⟩ := (s.atBurst t c.toNat l).winner_spec (s.arb t).last _ hne
  have hmem : x.master ∈ (s.arb t).waiting.map (·.master) ++ l.map (fun p => p.1.val) := hwaiters ▸ List.mem_map_of_mem hx
  have hlt : x.master < 64 := by
    rcases List.mem_append.mp hmem with h | h
    · obtain ⟨y, hy, hyx⟩ := List.mem_map.mp h
      have := hmasters y hy
      omega
    · obtain ⟨p, -, hpx⟩ := List.mem_map.mp h
      have := p.1.isLt
      omega
  refine ⟨_, execReinArbitrate_winner s t c l x hfree hwin, x.master, ?_, ?_, ?_, hmem, ?_⟩
  · rw [State.arb_setArb_same]
  · exact State.setArb_holder _ _ _ _ rfl hlt
  · rw [State.arb_setArb_same]
  · intro k hk
    rw [← hwaiters] at hk
    obtain ⟨y, hy, rfl⟩ := List.mem_map.mp hk
    obtain ⟨hrank, hrobin⟩ := hbest y hy
    rw [State.atBurst_rank, State.atBurst_rank] at hrank hrobin
    exact ⟨s.rank_lt _, hrank, hrobin⟩

theorem exec_reinStarvation (s : State) (t : Fin 17) (c : BitVec 16) (l : List (Fin 48 × Fin 65 × BitVec 16)) :
    exec (.reinStarvation t (c, l)) s = .next (s.atBurst t c.toNat l) := by rfl

theorem exec_reinLockTimeout (s : State) (t : Fin 17) (idle : BitVec 16) :
    exec (.reinLockTimeout t idle) s = execReinLockTimeout t idle s := by rfl

/-- The state after a lock has timed out, before the event (R52). -/
def State.lockTimedOut (s : State) (t : Nat) : State :=
  (s.setArb t { s.arb t with locked := false, lockLeft := 0, holder := none }).setFld (F.REIN_TSTAT_LOCK_TIMEOUT t) 1

theorem exec_reinLockTimeout_of_locked (s : State) (t : Fin 17) (idle : BitVec 16) (h : 0 < (s.arb t).lockLeft)
    (hidle : 1024 ≤ idle.toNat) : exec (.reinLockTimeout t idle) s = .next ((s.lockTimedOut t).event 0x0105 []) := by
  rw [exec_reinLockTimeout, execReinLockTimeout]
  exact if_pos ⟨h, hidle⟩

theorem State.lockTimedOut_timeout (s : State) (t : Nat) : (s.lockTimedOut t).flag (F.REIN_TSTAT_LOCK_TIMEOUT t) = true :=
  State.flag_setFld_one _ _ (by simp [F.REIN_TSTAT_LOCK_TIMEOUT, Fld.Ok])

theorem State.lockTimedOut_locked (s : State) (t : Nat) : (s.lockTimedOut t).flag (F.REIN_TSTAT_LOCKED t) = false := by
  rw [State.lockTimedOut, State.flag_congr (State.fld_setFld_other _ _ _ (by simp [F.REIN_TSTAT_LOCK_TIMEOUT, Fld.Ok])
    (by simp [F.REIN_TSTAT_LOCKED]) (by simp [F.REIN_TSTAT_LOCK_TIMEOUT, F.REIN_TSTAT_LOCKED]) _)]
  exact State.setArb_unlocked _ _ _ rfl rfl

theorem State.lockTimedOut_arb (s : State) (t : Nat) :
    (s.lockTimedOut t).arb t = { s.arb t with locked := false, lockLeft := 0, holder := none } := by
  rw [State.lockTimedOut, State.arb_setFld, State.arb_setArb_same]

theorem unrecorded_arb (t : Nat) : Unrecorded (fun s => s.arb t) := ⟨fun _ _ _ _ => rfl, fun _ _ => rfl⟩

/-- The event leaves the status of an arbiter. -/
theorem State.event_reinFlag (s : State) (code : Nat) (args : List Word) (t : Fin 17) (f : Fld) (hf : f.addr = R.REIN_TSTAT t) :
    (s.event code args).flag f = s.flag f := by
  have hout : f.addr ∉ eventRegs := by
    simp only [hf, eventRegs, R.REIN_TSTAT, R.EVR_LOSTCNT, R.EVR_STAT, R.RNG_INT_PEND, List.mem_cons, List.not_mem_nil, or_false]
    omega
  exact State.flag_congr (State.fld_congr (s.event_onlyRegs code args _ hout))

theorem exec_reinRankWrite (s : State) (acc : Acc) (m : Fin 39) (v : Word) :
    exec (.reinRankWrite acc m v) s = execReinRankWrite acc m v s := by rfl

/-- A rank that is written shows as deferred at arbiters in a lock of its master, and nothing else changes (R54). -/
theorem State.writeRank_keeps {α : Type} (p : State → α) (hp : ∀ (s : State) (t : Nat), t < 17 →
    p (s.setFld (F.REIN_TSTAT_RANK_DEFERRED t) 1) = p s) (s : State) (m : Nat) (w : Word) :
    p (s.writeRank m w) = p (s.writePlain (R.REIN_RANK m) w) := by
  refine List.foldlRecOn (motive := fun u => p u = p (s.writePlain (R.REIN_RANK m) w)) _ _ rfl fun u hu t ht => ?_
  split
  · rw [hp u t (List.mem_range.mp ht), hu]
  · exact hu

theorem State.writeRank_reg (s : State) (m : Fin 39) (w : Word) :
    (s.writeRank m w).reg (R.REIN_RANK m) =
      writtenWord (R.REIN_RANK m) (s.locked (R.REIN_RANK m)) (s.reg (R.REIN_RANK m)) w := by
  rw [State.writeRank_keeps (fun s => s.reg (R.REIN_RANK m)), State.writePlain, State.reg_setReg_same]
  intro s t _
  refine State.reg_setFld_ne s _ _ _ ?_
  simp only [R.REIN_RANK, F.REIN_TSTAT_RANK_DEFERRED, R.REIN_TSTAT]
  omega

/-- RANK and LIMIT take the bits written. -/
theorem REIN_RANK_get_writtenWord (m : Fin 39) (locked : Bool) (old w : Word) :
    (F.REIN_RANK_RANK m).get (writtenWord (R.REIN_RANK m) locked old w) = (F.REIN_RANK_RANK m).get w ∧
      (F.REIN_RANK_LIMIT m).get (writtenWord (R.REIN_RANK m) locked old w) = (F.REIN_RANK_LIMIT m).get w := by
  have hmem : ∀ m : Fin 39, (⟨3, 0, .rw, 8, .smon, .mod⟩ : FieldRow) ∈ fieldsAt (R.REIN_RANK m) ∧
      (⟨31, 16, .rw, 0x1000, .smon, .mod⟩ : FieldRow) ∈ fieldsAt (R.REIN_RANK m) := by decide +kernel
  exact ⟨Fld.get_writtenWord _ _ _ (hmem m).1 locked old w, Fld.get_writtenWord _ _ _ (hmem m).2 locked old w⟩

/-- A request that exceeds its limit once the cycles are counted is late (R53). -/
theorem State.mem_late_waitSpan (s : State) (t : Fin 17) (c : Nat) (l : List (Fin 48 × Fin 65 × BitVec 16)) (x : ReinWait)
    (hx : x ∈ (s.arb t).waiting) (hstarved : x.starved = false) (hlimit : s.reinLimit x.master ≠ 0)
    (hlate : s.reinLimit x.master < min (x.wait + c) 65535) :
    { x with wait := min (x.wait + c) 65535 } ∈ (s.waitSpan t c l).late t := by
  have hout : ∀ m < 39, R.REIN_RANK m ∉ [R.REIN_TSTAT t] := by
    intro m hm
    simp only [R.REIN_RANK, R.REIN_TSTAT, List.mem_singleton]
    omega
  have hsame := (s.waitSpan_within t c l).reinLimit hout x.master
  refine List.mem_filter.mpr ⟨?_, by simp [hstarved, hsame, hlimit, hlate]⟩
  simp only [State.waitSpan, State.arb_setArb_same, countWait]
  exact List.mem_append_left _ (List.mem_map.mpr ⟨x, hx, rfl⟩)

theorem reinArbitrate_inLock (s : State) (t : Fin 17) (c : BitVec 16) (l : List (Fin 48 × Fin 65 × BitVec 16))
    (h : 0 < (s.arb t).lockLeft) :
    Gives (exec (.reinArbitrate t c l) s) (fun u => (u.arb t).holder = (s.arb t).holder ∧ (u.arb t).locked = (s.arb t).locked ∧
      (u.arb t).lockLeft = (s.arb t).lockLeft - 1 ∧ u.mem = s.mem) := by
  obtain ⟨hholder, hlocked, -, -⟩ := s.atBurst_grant t c.toNat l
  refine ⟨_, execReinArbitrate_locked s t c l h, ?_, ?_, ?_, ?_⟩
  · rw [State.arb_setArb_same, hholder]
  · rw [State.arb_setArb_same, hlocked]
  · rw [State.arb_setArb_same]
  · rw [State.setArb_mem, State.atBurst_mem]

theorem reinLockTimeout_endsLock (s : State) (t : Fin 17) (idle : BitVec 16) (h : 0 < (s.arb t).lockLeft)
    (hidle : 1024 ≤ idle.toNat) :
    Gives (exec (.reinLockTimeout t idle) s) (fun u => u.flag (F.REIN_TSTAT_LOCK_TIMEOUT t) ∧
      u.flag (F.REIN_TSTAT_LOCKED t) = false ∧ (u.arb t).lockLeft = 0 ∧ u.mem = s.mem) := by
  have harb : ((s.lockTimedOut t).event 0x0105 []).arb t = _ :=
    ((unrecorded_arb t).event (s.lockTimedOut t) 0x0105 []).trans (s.lockTimedOut_arb t)
  refine ⟨_, exec_reinLockTimeout_of_locked s t idle h hidle, ?_, ?_, ?_, ?_⟩
  · rw [State.event_reinFlag _ _ _ t _ rfl, State.lockTimedOut_timeout]
  · rw [State.event_reinFlag _ _ _ t _ rfl, State.lockTimedOut_locked]
  · rw [harb]
  · rw [unrecorded_mem.event, State.lockTimedOut, State.setFld_mem, State.setArb_mem]

theorem reinStarvation_notes (s : State) (t : Fin 17) (c : BitVec 16) (l : List (Fin 48 × Fin 65 × BitVec 16)) (x : ReinWait)
    (hx : x ∈ (s.arb t).waiting) (hstarved : x.starved = false) (hm : x.master < 32) (hlimit : s.reinLimit x.master ≠ 0)
    (hlate : s.reinLimit x.master < min (x.wait + c.toNat) 65535) :
    Gives (exec (.reinStarvation t (c, l)) s) (fun u =>
      (u.reg (R.REIN_STARV_LO t)).getLsbD x.master ∧ u.isPending (154 + t) ∧ u.mem = s.mem) := by
  have hlate := s.mem_late_waitSpan t c.toNat l x hx hstarved hlimit hlate
  obtain ⟨hbit, hpending⟩ := State.starve_of_late _ t _ hlate hm
  exact ⟨_, exec_reinStarvation s t c l, hbit, hpending, s.atBurst_mem t c.toNat l⟩

theorem reinRankWrite_writes (s : State) (acc : Acc) (m : Fin 39) (v : Word) (htakes : s.takesWrite acc (R.REIN_RANK m)) :
    Gives (exec (.reinRankWrite acc m v) s) (fun u => u.fld (F.REIN_RANK_RANK m) = (F.REIN_RANK_RANK m).get v ∧
      u.fld (F.REIN_RANK_LIMIT m) = (F.REIN_RANK_LIMIT m).get v ∧ u.rein = s.rein ∧ u.mem = s.mem) := by
  obtain ⟨hrank, hlimit⟩ := REIN_RANK_get_writtenWord m (s.locked (R.REIN_RANK m)) (s.reg (R.REIN_RANK m)) v
  refine ⟨s.writeRank m v, ?_, ?_, ?_, ?_, ?_⟩
  · rw [exec_reinRankWrite, execReinRankWrite, State.guardWrite_of_takesWrite s acc _ _ htakes]
  · exact (congrArg (F.REIN_RANK_RANK m).get (s.writeRank_reg m v)).trans hrank
  · exact (congrArg (F.REIN_RANK_LIMIT m).get (s.writeRank_reg m v)).trans hlimit
  · exact (State.writeRank_keeps State.rein (fun u _ _ => u.setFld_rein _ _) s m v).trans (State.writePlain_rein s _ v)
  · exact (State.writeRank_keeps State.mem (fun u _ _ => u.setFld_mem _ _) s m v).trans (State.writePlain_mem s _ v)

/-- Settles O8, command by command. -/
theorem reinCommandsComplete : Obligations.ReinCommandsComplete :=
  ⟨reinArbitrate_inLock, reinLockTimeout_endsLock, reinStarvation_notes, reinRankWrite_writes⟩

end Sys2Proof.Machine
end

section
/-! The state of a ring: what the derived ring flags, the record of an access and a memory write leave, and the ring indices. -/

namespace Sys2Proof.Machine

/-! ### Ring records -/

@[simp] theorem State.ring_setRing_same (s : State) (n : Nat) (r : Ring) : (s.setRing n r).ring n = r := SMap.get_set_same _ _ _

@[simp] theorem State.ring_setFld (s : State) (f : Fld) (v n : Nat) : (s.setFld f v).ring n = s.ring n := rfl

@[simp] theorem State.reg_setRing (s : State) (n : Nat) (r : Ring) (a : Nat) : (s.setRing n r).reg a = s.reg a := rfl

@[simp] theorem State.fld_setRing (s : State) (n : Nat) (r : Ring) (f : Fld) : (s.setRing n r).fld f = s.fld f := rfl

@[simp] theorem State.flag_setRing (s : State) (n : Nat) (r : Ring) (f : Fld) : (s.setRing n r).flag f = s.flag f := rfl

/-! ### Indices -/

theorem Fld.put_whole (f : Fld) (hhi : f.hi = 31) (hlo : f.lo = 0) (w : Word) (v : Nat) : f.put w v = BitVec.ofNat 32 v := by
  apply BitVec.eq_of_getLsbD_eq
  intro i hi
  rw [Fld.getLsbD_put f ⟨by omega, by omega⟩, BitVec.getLsbD_ofNat, if_pos ⟨by omega, by omega⟩, hlo, Nat.sub_zero]

theorem Fld.get_whole (f : Fld) (hhi : f.hi = 31) (hlo : f.lo = 0) (w : Word) : f.get w = w.toNat := by
  rw [Fld.get, hhi, hlo, Nat.pow_zero, Nat.div_one]
  exact Nat.mod_eq_of_lt w.isLt

theorem State.ringHw_lt (s : State) (n : Nat) : s.ringHw n < 2 ^ 32 := s.fld_lt (F.RNG_HW_IDX n)

theorem State.ringDb_lt (s : State) (n : Nat) : s.ringDb n < 2 ^ 32 := s.fld_lt (F.RNG_DB_IDX n)

theorem State.reg_RNG_DB (s : State) (n : Nat) : s.reg (R.RNG_DB n) = BitVec.ofNat 32 (s.ringDb n) := by
  rw [State.ringDb, State.fld, Fld.get_whole _ rfl rfl, BitVec.ofNat_toNat, BitVec.setWidth_eq]
  rfl

theorem State.ringDb_setFld_same (s : State) (n v : Nat) (hv : v < 2 ^ 32) : (s.setFld (F.RNG_DB_IDX n) v).ringDb n = v :=
  (State.fld_setFld_same s _ (by simp [F.RNG_DB_IDX, Fld.Ok]) v).trans (Nat.mod_eq_of_lt hv)

theorem State.ringHw_setFld_same (s : State) (n v : Nat) (hv : v < 2 ^ 32) : (s.setFld (F.RNG_HW_IDX n) v).ringHw n = v :=
  (State.fld_setFld_same s _ (by simp [F.RNG_HW_IDX, Fld.Ok]) v).trans (Nat.mod_eq_of_lt hv)

theorem next32_lt (x : Nat) : next32 x < 2 ^ 32 := Nat.mod_lt _ (by decide)

/-- Indices whose signed difference is 0 are the same (R35). -/
theorem eq_of_sdiff32_eq_zero {x y : Nat} (hx : x < 2 ^ 32) (hy : y < 2 ^ 32) (h : sdiff32 x y = 0) : x = y := by
  unfold sdiff32 sext at h
  split at h <;> omega

/-! ### Ring flags -/

/-- A reading that neither the record of an access nor bringing CFULL and CROFF up to date enters. -/
structure Unflagged {α : Type} (p : State → α) : Prop extends Unrecorded p where
  derived : ∀ (s : State) (f : Fld) (m v : Nat), f = F.RNG_STAT_CFULL m ∨ f = F.RNG_STAT_CROFF m → p (s.setFld f v) = p s

/-- A reading that no status register of a ring enters either. -/
structure Unreported {α : Type} (p : State → α) : Prop extends Unrecorded p where
  status : ∀ (s : State) (f : Fld) (m v : Nat), f.addr = R.RNG_STAT m → p (s.setFld f v) = p s

theorem Unreported.unflagged {α : Type} {p : State → α} (hp : Unreported p) : Unflagged p :=
  ⟨hp.toUnrecorded, fun s f m v h => hp.status s f m v (by rcases h with rfl | rfl <;> rfl)⟩

theorem unreported_mem : Unreported State.mem := ⟨unrecorded_mem, fun s f _ v _ => s.setFld_mem f v⟩

theorem unreported_rings : Unreported State.rings := ⟨unrecorded_rings, fun s f _ v _ => s.setFld_rings f v⟩

theorem unreported_ring (n : Nat) : Unreported (fun s => s.ring n) :=
  ⟨⟨fun _ _ _ _ => rfl, fun _ _ => rfl⟩, fun _ _ _ _ _ => rfl⟩

theorem unreported_reg {a : Nat} (ha : a < R.RNG_INT_PEND 0) (hs : ∀ m, a ≠ R.RNG_STAT m) : Unreported (fun s => s.reg a) :=
  ⟨unrecorded_reg ha, fun s f m v hf => State.reg_setFld_ne s f v a (hf ▸ hs m)⟩

theorem unreported_fld {f : Fld} (ha : f.addr < R.RNG_INT_PEND 0) (hs : ∀ m, f.addr ≠ R.RNG_STAT m) : Unreported (fun s => s.fld f) :=
  ⟨⟨fun s b w hb => State.fld_congr ((unrecorded_reg ha).setReg s b w hb), fun _ _ => rfl⟩,
    fun s f' m v hf => State.fld_congr ((unreported_reg ha hs).status s f' m v hf)⟩

/-- A flag of a ring other than CFULL and CROFF. -/
theorem unflagged_flag {f : Fld} (n : Fin 64) (ha : f.addr = R.RNG_STAT n) (hf : f.hi < 32)
    (hbits : (3 < f.lo ∨ f.hi < 3) ∧ (6 < f.lo ∨ f.hi < 6)) : Unflagged (fun s => s.flag f) := by
  have hlow : f.addr < R.RNG_INT_PEND 0 := by rw [ha]; simp only [R.RNG_STAT, R.RNG_INT_PEND]; omega
  refine ⟨⟨fun s b w hb => State.flag_congr (State.fld_congr ((unrecorded_reg hlow).setReg s b w hb)), fun _ _ => rfl⟩, ?_⟩
  rintro s _ m v (rfl | rfl)
  · exact State.flag_congr (State.fld_setFld_other s _ _ (by simp [F.RNG_STAT_CFULL, Fld.Ok]) hf hbits.1 v)
  · exact State.flag_congr (State.fld_setFld_other s _ _ (by simp [F.RNG_STAT_CROFF, Fld.Ok]) hf hbits.2 v)

theorem Unrecorded.ringFlag {α : Type} {p : State → α} (hp : Unrecorded p) (s : State) (f : Fld) (n : Nat) (on : Bool)
    (hf : ∀ (u : State) (v : Nat), p (u.setFld f v) = p u) : p (s.ringFlag f n on) = p s := by
  cases on with
  | false => exact hf s 0
  | true =>
    rw [State.ringFlag, if_pos rfl, State.raiseFlag, apply_ite p, hp.pend, hf, ite_self]

theorem Unflagged.refreshRings {α : Type} {p : State → α} (hp : Unflagged p) (s : State) (n : Nat) : p (s.refreshRings n) = p s := by
  unfold State.refreshRings
  rw [State.foldl_ringFlag_keeps p _ _ fun u m b => hp.ringFlag u _ m b fun u v => hp.derived u _ m v (.inr rfl),
    hp.ringFlag _ _ _ _ fun u v => hp.derived u _ n v (.inl rfl)]

@[simp] theorem State.refreshRings_mem (s : State) (n : Nat) : (s.refreshRings n).mem = s.mem :=
  unreported_mem.unflagged.refreshRings s n

@[simp] theorem State.refreshRings_rings (s : State) (n : Nat) : (s.refreshRings n).rings = s.rings :=
  unreported_rings.unflagged.refreshRings s n

@[simp] theorem State.ringFlag_mem (s : State) (f : Fld) (n : Nat) (on : Bool) : (s.ringFlag f n on).mem = s.mem :=
  unrecorded_mem.ringFlag s f n on fun u v => u.setFld_mem f v

@[simp] theorem State.ringFlag_rings (s : State) (f : Fld) (n : Nat) (on : Bool) : (s.ringFlag f n on).rings = s.rings :=
  unrecorded_rings.ringFlag s f n on fun u v => u.setFld_rings f v

theorem RNG_STAT_ne_RNG_INT_PEND (n : Fin 64) (k : Nat) : R.RNG_STAT n ≠ R.RNG_INT_PEND k := by
  simp only [R.RNG_STAT, R.RNG_INT_PEND]; omega

/-- A ring flag that is raised reads set. -/
theorem State.flag_ringFlag (s : State) (f : Fld) (n : Fin 64) (hf : f.Ok) (ha : f.addr = R.RNG_STAT n) :
    (s.ringFlag f n true).flag f = true := by
  rw [State.ringFlag, if_pos rfl]
  exact State.flag_raiseFlag s f hf _ (ha ▸ RNG_STAT_ne_RNG_INT_PEND n _)

/-! ### The registers of a ring -/

/-- A register of a ring other than its status. -/
def isRingReg (a : Nat) : Prop := R.RNG_BASE_LO 0 ≤ a ∧ a < R.RNG_BASE_LO 64 ∧ a % 0x40 ≠ R.RNG_STAT 0 % 0x40

theorem unreported_reg_of_isRingReg {a : Nat} (ha : isRingReg a) : Unreported (fun s => s.reg a) := by
  obtain ⟨-, hhi, hmod⟩ := ha
  simp only [R.RNG_BASE_LO, R.RNG_STAT] at hhi hmod
  refine unreported_reg ?_ fun m => ?_
  · simp only [R.RNG_INT_PEND]; omega
  · simp only [R.RNG_STAT]; omega

theorem unreported_fld_of_isRingReg {f : Fld} (ha : isRingReg f.addr) : Unreported (fun s => s.fld f) := by
  have h := unreported_reg_of_isRingReg ha
  exact ⟨⟨fun s b w hb => State.fld_congr (h.setReg s b w hb), fun _ _ => rfl⟩, fun s f' m v hf => State.fld_congr (h.status s f' m v hf)⟩

theorem isRingReg_CFG (n : Fin 64) : isRingReg (R.RNG_CFG n) := by
  simp only [isRingReg, R.RNG_BASE_LO, R.RNG_CFG, R.RNG_STAT]; omega

theorem isRingReg_DB (n : Fin 64) : isRingReg (R.RNG_DB n) := by
  simp only [isRingReg, R.RNG_BASE_LO, R.RNG_DB, R.RNG_STAT]; omega

theorem isRingReg_HW (n : Fin 64) : isRingReg (R.RNG_HW n) := by
  simp only [isRingReg, R.RNG_BASE_LO, R.RNG_HW, R.RNG_STAT]; omega

theorem unreported_ringDb (n : Fin 64) : Unreported (fun s => s.ringDb n) :=
  unreported_fld_of_isRingReg (f := F.RNG_DB_IDX n) (isRingReg_DB n)

theorem unreported_ringHw (n : Fin 64) : Unreported (fun s => s.ringHw n) :=
  unreported_fld_of_isRingReg (f := F.RNG_HW_IDX n) (isRingReg_HW n)

/-! ### Memory -/

theorem State.setBytes_keeps {α : Type} {p : State → α} (hp : ∀ (s : State) (m : List (Nat × Byte)), p { s with mem := m } = p s)
    (s : State) (a : Nat) (bs : List Byte) : p (s.setBytes a bs) = p s := by
  induction bs generalizing s a with
  | nil => rfl
  | cons b bs ih =>
    rw [State.setBytes, ih, State.setByte, apply_ite p, hp, ite_self]

theorem State.byte_congr {s t : State} (h : t.mem = s.mem) (a : Nat) : t.byte a = s.byte a := by
  rw [State.byte, State.byte, h]

theorem State.bytes_congr {s t : State} (h : t.mem = s.mem) (a n : Nat) : t.bytes a n = s.bytes a n := by
  simp only [State.bytes, State.byte_congr h]

/-- A store leaves every other byte. -/
theorem State.byte_setByte_ne (s : State) {a x : Nat} (b : Byte) (h : x ≠ a) : (s.setByte a b).byte x = s.byte x := by
  unfold State.setByte
  split
  · exact SMap.get_set_ne _ _ h
  · rfl

theorem State.byte_setBytes_ne (s : State) (a x : Nat) (bs : List Byte) (h : x < a ∨ a + bs.length ≤ x) :
    (s.setBytes a bs).byte x = s.byte x := by
  induction bs generalizing s a with
  | nil => rfl
  | cons b bs ih =>
    rw [List.length_cons] at h
    rw [State.setBytes, ih _ _ (by omega), State.byte_setByte_ne _ _ (by omega)]

/-- A range that shares no byte with a store reads as before. -/
theorem State.bytes_setBytes_disjoint (s : State) (a x n : Nat) (bs : List Byte) (h : x + n ≤ a ∨ a + bs.length ≤ x) :
    (s.setBytes a bs).bytes x n = s.bytes x n := by
  refine List.map_congr_left fun i hi => ?_
  have := List.mem_range.mp hi
  exact State.byte_setBytes_ne s _ _ _ (by omega)

/-- What a store leaves depends on memory alone. -/
theorem State.setBytes_mem_congr {s t : State} (h : t.mem = s.mem) (a : Nat) (bs : List Byte) :
    (t.setBytes a bs).mem = (s.setBytes a bs).mem := by
  induction bs generalizing s t a with
  | nil => exact h
  | cons b bs ih =>
    refine ih ?_ _
    unfold State.setByte
    split
    · exact congrArg (fun m => SMap.set memDefault m a b) h
    · exact h

theorem Unrecorded.unitWrite {α : Type} {p : State → α} (hp : Unrecorded p)
    (hmem : ∀ (s : State) (m : List (Nat × Byte)), p { s with mem := m } = p s) (s : State) (acc : Acc) (a : Nat) (bs : List Byte) :
    p (s.unitWrite acc a bs).2 = p s := by
  unfold State.unitWrite
  split
  · rw [hp.deny, hp.noteAbsent]
  · rw [State.setBytes_keeps hmem, hp.noteAbsent]

/-- The memory after a permitted write of a unit is that of the store. -/
theorem State.unitWrite_mem_of_permitted (s : State) (acc : Acc) (a : Nat) (bs : List Byte)
    (h : s.firstDenied acc .write a bs.length = none) : (s.unitWrite acc a bs).2.mem = (s.setBytes a bs).mem := by
  simp only [State.unitWrite, h]
  exact State.setBytes_mem_congr (unrecorded_mem.noteAbsent s a bs.length none) a bs

/-- A write of a unit, permitted or not, leaves every range that shares no byte with it. -/
theorem State.unitWrite_bytes_disjoint (s : State) (acc : Acc) (a x n : Nat) (bs : List Byte) (h : x + n ≤ a ∨ a + bs.length ≤ x) :
    (s.unitWrite acc a bs).2.bytes x n = s.bytes x n := by
  cases hd : s.firstDenied acc .write a bs.length with
  | none => rw [State.bytes_congr (s.unitWrite_mem_of_permitted acc a bs hd), State.bytes_setBytes_disjoint s a x n bs h]
  | some b =>
    simp only [State.unitWrite, hd]
    exact State.bytes_congr ((unrecorded_mem.deny _ _ _ _).trans (unrecorded_mem.noteAbsent s _ _ _)) x n

end Sys2Proof.Machine
end

section
/-! Doorbells (R35): what a write of RNG_DBn does, by the order of the index written. -/

namespace Sys2Proof.Machine

theorem exec_ringDoorbell_of_takesWrite (s : State) (acc : Acc) (n : Fin 64) (v : Word) (h : s.takesWrite acc (R.RNG_DB n)) :
    exec (.ringDoorbell acc n v) s = .next (s.writeRngDb acc n v.toNat) := by
  have hexec : exec (.ringDoorbell acc n v) s = execRingDoorbell acc n v s := by rfl
  rw [hexec, execRingDoorbell, State.guardWrite_of_takesWrite s acc _ _ h]

theorem exec_completionDoorbell_of_takesWrite (s : State) (acc : Acc) (n : Fin 64) (v : Word) (h : s.takesWrite acc (R.RNG_DB n)) :
    exec (.completionDoorbell acc n v) s = .next (s.writeRngDb acc n v.toNat) := by
  have hexec : exec (.completionDoorbell acc n v) s = execCompletionDoorbell acc n v s := by rfl
  rw [hexec, execCompletionDoorbell, State.guardWrite_of_takesWrite s acc _ _ h]

theorem State.writeRngDb_same (s : State) (acc : Acc) (n v : Nat) (h : sdiff32 v (s.ringDb n) = 0) : s.writeRngDb acc n v = s := by
  rw [State.writeRngDb, if_pos h]

/-- The state after a producer index is taken: the doorbell's master is noted for the entries it made available (R55). -/
def State.rungWork (s : State) (acc : Acc) (n v : Nat) : State :=
  (s.setFld (F.RNG_DB_IDX n) v).setRing n { s.ring n with
    masters := (s.ring n).masters.filter (fun p => 0 < sdiff32 p.1 (s.ringHw n)) ++ [(v, acc)] }

theorem State.writeRngDb_work (s : State) (acc : Acc) (n v : Nat) (hq : s.fld (F.RNG_CFG_QUEUE n) ≠ 0)
    (hd : 0 < sdiff32 v (s.ringDb n)) (hsize : sdiff32 v (s.ringHw n) ≤ s.ringSize n) :
    s.writeRngDb acc n v = s.rungWork acc n v := by
  rw [State.writeRngDb, if_neg (by omega), if_neg hq, if_neg (by omega), State.rungWork]

theorem State.writeRngDb_completion (s : State) (acc : Acc) (n v : Nat) (hq : s.fld (F.RNG_CFG_QUEUE n) = 0)
    (hd : 0 < sdiff32 v (s.ringDb n)) (hhw : 0 ≤ sdiff32 (s.ringHw n) v) :
    s.writeRngDb acc n v = (s.setFld (F.RNG_DB_IDX n) v).refreshRings n := by
  rw [State.writeRngDb, if_neg (by omega), if_pos hq, if_neg (by omega)]

/-- An index out of order is refused with DB_ERR, on either kind of ring. -/
theorem State.writeRngDb_refused (s : State) (acc : Acc) (n v : Nat) (hd : sdiff32 v (s.ringDb n) ≠ 0)
    (h : sdiff32 v (s.ringDb n) < 0 ∨
      if s.fld (F.RNG_CFG_QUEUE n) = 0 then sdiff32 (s.ringHw n) v < 0 else (s.ringSize n : Int) < sdiff32 v (s.ringHw n)) :
    s.writeRngDb acc n v = s.ringFlag (F.RNG_STAT_DB_ERR n) n true := by
  rw [State.writeRngDb, if_neg hd]
  by_cases hq : s.fld (F.RNG_CFG_QUEUE n) = 0
  · rw [if_pos hq] at h
    rw [if_pos hq, if_pos h]
  · rw [if_neg hq] at h
    rw [if_neg hq, if_pos h]

theorem State.rungWork_ringDb (s : State) (acc : Acc) (n : Nat) (v : Word) : (s.rungWork acc n v.toNat).ringDb n = v.toNat := by

  rw [State.rungWork, State.ringDb, State.fld_setRing]
  exact s.ringDb_setFld_same n _ v.isLt

theorem State.rungWork_reg_ne (s : State) (acc : Acc) (n v a : Nat) (h : a ≠ R.RNG_DB n) : (s.rungWork acc n v).reg a = s.reg a := by
  rw [State.rungWork, State.reg_setRing]
  exact State.reg_setFld_ne s _ _ _ h

theorem State.rungWork_ring (s : State) (acc : Acc) (n v : Nat) : (s.rungWork acc n v).ring n = { s.ring n with
    masters := (s.ring n).masters.filter (fun p => 0 < sdiff32 p.1 (s.ringHw n)) ++ [(v, acc)] } := by
  rw [State.rungWork, State.ring_setRing_same]

theorem State.rungWork_mem (s : State) (acc : Acc) (n v : Nat) : (s.rungWork acc n v).mem = s.mem := by
  rw [State.rungWork, State.setRing_mem, State.setFld_mem]

theorem RNG_HW_ne_RNG_DB (m n : Nat) : R.RNG_HW m ≠ R.RNG_DB n := by simp only [R.RNG_HW, R.RNG_DB]; omega

/-- A completion ring takes a consumer index in order: the index moves, the module's index, the records and memory stay. -/
theorem State.writeRngDb_completion_spec (s : State) (acc : Acc) (n : Fin 64) (v : Word) (hq : s.fld (F.RNG_CFG_QUEUE n) = 0)
    (hd : 0 ≤ sdiff32 v.toNat (s.ringDb n)) (hhw : 0 ≤ sdiff32 (s.ringHw n) v.toNat) :
    (s.writeRngDb acc n v.toNat).ringDb n = v.toNat ∧
      (∀ m < 64, (s.writeRngDb acc n v.toNat).reg (R.RNG_HW m) = s.reg (R.RNG_HW m)) ∧
      (s.writeRngDb acc n v.toNat).rings = s.rings ∧ (s.writeRngDb acc n v.toNat).mem = s.mem := by
  rcases hd.eq_or_lt with hd | hd
  · rw [State.writeRngDb_same s acc n _ hd.symm]
    exact ⟨(eq_of_sdiff32_eq_zero v.isLt (s.ringDb_lt n) hd.symm).symm, fun _ _ => rfl, rfl, rfl⟩
  · rw [State.writeRngDb_completion s acc n _ hq hd hhw]
    refine ⟨?_, fun m hm => ?_, ?_, ?_⟩
    · exact ((unreported_ringDb n).unflagged.refreshRings _ n).trans
        (s.ringDb_setFld_same n _ v.isLt)
    · exact ((unreported_reg_of_isRingReg (isRingReg_HW ⟨m, hm⟩)).unflagged.refreshRings _ n).trans
        (State.reg_setFld_ne s _ _ _ (RNG_HW_ne_RNG_DB m n))
    · rw [State.refreshRings_rings, State.setFld_rings]
    · rw [State.refreshRings_mem, State.setFld_mem]

/-- An index that is refused leaves both indices, the records and memory, and DB_ERR set. -/
theorem State.ringFlag_dbErr_spec (s : State) (n : Fin 64) :
    (s.ringFlag (F.RNG_STAT_DB_ERR n) n true).ringDb n = s.ringDb n ∧ (s.ringFlag (F.RNG_STAT_DB_ERR n) n true).ringHw n = s.ringHw n ∧
      (s.ringFlag (F.RNG_STAT_DB_ERR n) n true).flag (F.RNG_STAT_DB_ERR n) ∧
      (s.ringFlag (F.RNG_STAT_DB_ERR n) n true).rings = s.rings ∧ (s.ringFlag (F.RNG_STAT_DB_ERR n) n true).mem = s.mem := by
  have hdb := unreported_ringDb n
  have hhw := unreported_ringHw n
  refine ⟨?_, ?_, ?_, ?_, ?_⟩
  · exact hdb.ringFlag s _ _ _ fun u v => hdb.status u _ n v rfl
  · exact hhw.ringFlag s _ _ _ fun u v => hhw.status u _ n v rfl
  · exact State.flag_ringFlag s _ n (by simp [F.RNG_STAT_DB_ERR, Fld.Ok]) rfl
  · rw [State.ringFlag_rings]
  · rw [State.ringFlag_mem]

/-- Settles O5, by the order of the index written. -/
theorem doorbellTakesIndicesInOrder : Obligations.DoorbellTakesIndicesInOrder := by
  intro s acc n v htakes
  have hwork := exec_ringDoorbell_of_takesWrite s acc n v htakes
  have hcompletion := exec_completionDoorbell_of_takesWrite s acc n v htakes
  refine ⟨fun hq => ⟨fun hd => ?_, fun hd hsize => ?_, fun hd => ?_⟩, fun hq => ⟨fun hd hhw => ?_, fun hd => ?_⟩⟩
  · rw [hwork, State.writeRngDb_same s acc n _ hd]
  · refine ⟨_, hwork, ?_⟩
    rw [State.writeRngDb_work s acc n _ hq hd hsize]
    exact ⟨s.rungWork_ringDb acc n v, State.fld_congr (s.rungWork_reg_ne acc n _ _ (RNG_HW_ne_RNG_DB n n)),
      by rw [s.rungWork_ring acc n _], s.rungWork_mem acc n _⟩
  · refine ⟨_, hwork, ?_⟩
    rw [State.writeRngDb_refused s acc n _ (by omega) (by rw [if_neg hq]; omega)]
    exact s.ringFlag_dbErr_spec n
  · obtain ⟨hdb, hreg, hrings, hmem⟩ := s.writeRngDb_completion_spec acc n v hq hd hhw
    exact ⟨_, hcompletion, hdb, State.fld_congr (hreg n n.isLt), hrings, hmem⟩
  · refine ⟨_, hcompletion, ?_⟩
    rw [State.writeRngDb_refused s acc n _ (by omega) (by rw [if_pos hq]; omega)]
    exact s.ringFlag_dbErr_spec n

end Sys2Proof.Machine
end

section
/-! A write of RNG_CFGn: stopping a ring (R38), binding and enabling one (R31, R32, R39). -/

namespace Sys2Proof.Machine

theorem RNG_STAT_ne_RNG_CFG (m n : Nat) : R.RNG_STAT m ≠ R.RNG_CFG n := by simp only [R.RNG_STAT, R.RNG_CFG]; omega

theorem unreported_reg_CFG (n : Fin 64) : Unreported (fun s => s.reg (R.RNG_CFG n)) :=
  unreported_reg_of_isRingReg (isRingReg_CFG n)

/-! ### The ring taken out of service -/

/-- SIZE and ACTIVE of ring n at 0. -/
def State.ringOff (s : State) (n : Nat) : State := (s.setFld (F.RNG_CFG_SIZE n) 0).setFld (F.RNG_STAT_ACTIVE n) 0

theorem State.unboundRing_eq (s : State) (n : Nat) : s.unboundRing n = (s.ringOff n).refreshRings n := by
  rw [State.unboundRing, State.ringOff]

theorem State.ringOff_reg_ne (s : State) (n : Nat) {a : Nat} (hcfg : a ≠ R.RNG_CFG n) (hstat : a ≠ R.RNG_STAT n) :
    (s.ringOff n).reg a = s.reg a := by
  rw [State.ringOff, State.reg_setFld_ne _ _ _ _ hstat, State.reg_setFld_ne _ _ _ _ hcfg]

theorem State.ringOff_fld_ne (s : State) (n : Nat) {f : Fld} (hcfg : f.addr ≠ R.RNG_CFG n) (hstat : f.addr ≠ R.RNG_STAT n) :
    (s.ringOff n).fld f = s.fld f :=
  State.fld_congr (s.ringOff_reg_ne n hcfg hstat)

theorem State.ringOff_reg_CFG (s : State) (n : Nat) : (s.ringOff n).reg (R.RNG_CFG n) = (s.setFld (F.RNG_CFG_SIZE n) 0).reg (R.RNG_CFG n) :=
  State.reg_setFld_ne _ _ _ _ (RNG_STAT_ne_RNG_CFG n n).symm

theorem State.ringOff_size (s : State) (n : Nat) : (s.ringOff n).fld (F.RNG_CFG_SIZE n) = 0 :=
  (State.fld_congr (s.ringOff_reg_CFG n)).trans ((State.fld_setFld_same s _ (RNG_CFG_SIZE_ok n) 0).trans (Nat.zero_mod _))

/-- The fields of RNG_CFGn beside SIZE stay. -/
theorem State.ringOff_fld_CFG (s : State) {n : Nat} {f : Fld} (ha : f.addr = R.RNG_CFG n) (hlo : 4 < f.lo) (hhi : f.hi < 32) :
    (s.ringOff n).fld f = s.fld f := by
  have hreg : (s.ringOff n).reg f.addr = (s.setFld (F.RNG_CFG_SIZE n) 0).reg f.addr := ha ▸ s.ringOff_reg_CFG n
  exact (State.fld_congr hreg).trans (State.fld_setFld_other s _ _ (RNG_CFG_SIZE_ok n) hhi (.inl hlo) 0)

theorem State.ringOff_active (s : State) (n : Nat) : (s.ringOff n).flag (F.RNG_STAT_ACTIVE n) = false :=
  State.flag_setFld_zero _ _ (by simp [F.RNG_STAT_ACTIVE, Fld.Ok])

@[simp] theorem State.ringOff_mem (s : State) (n : Nat) : (s.ringOff n).mem = s.mem := by
  rw [State.ringOff, State.setFld_mem, State.setFld_mem]

@[simp] theorem State.ringOff_part (s : State) (n : Nat) : (s.ringOff n).part = s.part := by
  rw [State.ringOff, State.setFld_part, State.setFld_part]

@[simp] theorem State.ringOff_now (s : State) (n : Nat) : (s.ringOff n).now = s.now := by
  rw [State.ringOff, State.setFld_now, State.setFld_now]

@[simp] theorem State.ringOff_ring (s : State) (n m : Nat) : (s.ringOff n).ring m = s.ring m := by
  rw [State.ringOff, State.ring_setFld, State.ring_setFld]

/-! ### The descriptors that a stop completes -/

/-- Entry i of ring n, completed ABORTED. -/
def State.abortedDesc (s : State) (n lg i : Nat) : Inflight :=
  ⟨decodeDesc i (s.bytes (s.descAddr n lg i) 32), some (stABORTED, 0), s.short, (s.ring n).cring, (s.ring n).queue, false⟩

/-- The entry in front, where its fetch is permitted, comes before the rest. The denial is named first: the kernel would otherwise
compute it, at an address it can only count up to. -/
theorem State.abortList_cons (s : State) (n lg i cnt k : Nat) (hcnt : cnt = k + 1)
    (h : s.firstDenied (engine 17) .read (s.descAddr n lg i) 32 = none) :
    s.abortList n lg cnt i = (s.abortedDesc n lg i :: (s.abortList n lg k (next32 i)).1, (s.abortList n lg k (next32 i)).2) := by
  obtain ⟨fetch, hfetch⟩ : ∃ f, f = s.firstDenied (engine 17) .read := ⟨_, rfl⟩
  rw [State.abortedDesc]
  delta State.abortList State.abortList._f
  rw [← hfetch] at h ⊢
  subst hcnt
  simp only [h]

/-- Where every fetch is permitted, a stop completes every entry from an index on, in order. -/
theorem State.abortList_of_permitted (s : State) (n lg cnt i : Nat) (hi : i < 2 ^ 32)
    (h : ∀ k < cnt, s.firstDenied (engine 17) .read (s.descAddr n lg ((i + k) % 2 ^ 32)) 32 = none) :
    s.abortList n lg cnt i = ((List.range cnt).map (fun k => s.abortedDesc n lg ((i + k) % 2 ^ 32)), none) := by
  induction cnt generalizing i with
  | zero => rfl
  | succ cnt ih =>
    have hshift : ∀ k, (next32 i + k) % 2 ^ 32 = (i + (k + 1)) % 2 ^ 32 := fun k => by unfold next32; omega
    have hfirst : (i + 0) % 2 ^ 32 = i := Nat.mod_eq_of_lt hi
    have hfetch := h 0 (Nat.succ_pos _)
    rw [hfirst] at hfetch
    rw [State.abortList_cons s n lg i _ cnt rfl hfetch,
      ih (next32 i) (next32_lt i) fun k hk => by rw [hshift]; exact h _ (Nat.succ_lt_succ hk),
      List.range_succ_eq_map, List.map_cons, List.map_map, hfirst]
    simp only [hshift, Function.comp_def, Nat.succ_eq_add_one]

/-- The access tables decide by the registers of their window. -/
theorem State.permits_congr {s t : State} (hreg : ∀ a, R.ACC_TE_BASE 0 0 ≤ a → t.reg a = s.reg a) (x : Nat) (acc : Acc)
    (k : AccKind) (a : Nat) : t.permits x acc k a = s.permits x acc k a := by
  have hctl : ∀ (f : Fld) (e : Nat), f.addr = R.ACC_TE_CTL x e → t.fld f = s.fld f := fun f e hf =>
    State.fld_congr (hreg _ (by rw [hf]; simp only [R.ACC_TE_CTL, R.ACC_TE_BASE]; omega))
  have hbase : ∀ e, t.fld (F.ACC_TE_BASE_ADDR x e) = s.fld (F.ACC_TE_BASE_ADDR x e) := fun e =>
    State.fld_congr (hreg _ (by simp only [F.ACC_TE_BASE_ADDR, R.ACC_TE_BASE]; omega))
  have hmatch : ∀ e, t.accMatches x e acc.master a = s.accMatches x e acc.master a := fun e => by
    rw [State.accMatches, State.accMatches, hctl _ e rfl, hctl _ e rfl, hbase]
  have hflag : ∀ (f : Fld) (e : Nat), f.addr = R.ACC_TE_CTL x e → t.flag f = s.flag f := fun f e hf => State.flag_congr (hctl f e hf)
  unfold State.permits
  simp only [hmatch]
  split
  · rfl
  next e _ =>
    rw [hflag (F.ACC_TE_CTL_R x e) e rfl, hflag (F.ACC_TE_CTL_W x e) e rfl, hflag (F.ACC_TE_CTL_X x e) e rfl,
      hflag (F.ACC_TE_CTL_PRIV x e) e rfl, hflag (F.ACC_TE_CTL_SEC x e) e rfl]

theorem State.firstDenied_congr {s t : State} (hpart : t.part = s.part) (hreg : ∀ a, R.ACC_TE_BASE 0 0 ≤ a → t.reg a = s.reg a)
    (acc : Acc) (k : AccKind) (a n : Nat) : t.firstDenied acc k a n = s.firstDenied acc k a n := by
  simp only [State.firstDenied, State.allowed, hpart, State.permits_congr hreg]

/-! ### The stop -/

/-- Where a fetch of the descriptors not started is denied, the denial recorded and FETCH_ERR set (R544). -/
def State.fetchFailed (s : State) (n : Nat) : Option Nat → State
  | some b => (s.deny (engine 17) .read b).ringFlag (F.RNG_STAT_FETCH_ERR n) n true
  | none => s

/-- The completions left to write of a stopped ring: RNG_HWn at RNG_DBn, ABORT_DONE where none is left. -/
def State.leaveStop (s : State) (n : Nat) (r : Ring) (left : List Inflight) : State :=
  let t := (s.setFld (F.RNG_HW_IDX n) (s.ringDb n)).setRing n { r with inflight := left }
  if left.isEmpty then t.setFld (F.RNG_STAT_ABORT_DONE n) 1 else t

/-- The entries that ring n has available and not started. -/
def State.unstarted (s : State) (n : Nat) : Nat := (s.ringDb n + (2 ^ 32 - s.ringHw n)) % 2 ^ 32

theorem State.stopRing_idle (s : State) (n lg : Nat) (h : lg = 0 ∨ (s.ring n).queue = 0) :
    s.stopRing n lg = (s.ringOff n).refreshRings n := by
  have h' : lg = 0 ∨ ((s.ringOff n).ring n).queue = 0 := by rwa [State.ringOff_ring]
  rw [State.ringOff] at h' ⊢
  rw [State.stopRing]
  simp only [if_pos h']

theorem State.stopRing_busy (s : State) (n lg : Nat) (h : ¬ (lg = 0 ∨ (s.ring n).queue = 0)) (l : List Inflight) (dn : Option Nat)
    (hl : (s.ringOff n).abortList n lg ((s.ringOff n).unstarted n) ((s.ringOff n).ringHw n) = (l, dn)) :
    s.stopRing n lg = (((s.ringOff n).fetchFailed n dn).leaveStop n (s.ring n) (markLast ((s.ring n).inflight ++ l))).refreshRings n := by
  have h' : ¬ (lg = 0 ∨ ((s.ringOff n).ring n).queue = 0) := by rwa [State.ringOff_ring]
  rw [← State.ringOff_ring s n n]
  rw [State.ringOff, State.unstarted] at *
  rw [State.stopRing]
  simp only [if_neg h', hl]
  rfl

/-- A reading that the fields of a stop, RNG_HWn, ABORT_DONE and FETCH_ERR, and the record of ring n do not enter. -/
structure Unstopped {α : Type} (n : Nat) (p : State → α) : Prop extends Unflagged p where
  setFld : ∀ (s : State) (f : Fld) (v : Nat), f = F.RNG_HW_IDX n ∨ f = F.RNG_STAT_ABORT_DONE n ∨ f = F.RNG_STAT_FETCH_ERR n →
    p (s.setFld f v) = p s
  setRing : ∀ (s : State) (r : Ring), p (s.setRing n r) = p s

theorem unstopped_mem (n : Nat) : Unstopped n State.mem := ⟨unreported_mem.unflagged, fun s f v _ => s.setFld_mem f v, fun s r => s.setRing_mem n r⟩

theorem unstopped_reg_CFG (n : Fin 64) : Unstopped n (fun s => s.reg (R.RNG_CFG n)) := by
  refine ⟨(unreported_reg_CFG n).unflagged, fun s f v hf => State.reg_setFld_ne s f v _ ?_, fun _ _ => rfl⟩
  rcases hf with rfl | rfl | rfl
  · simp only [F.RNG_HW_IDX, R.RNG_CFG, R.RNG_HW]; omega
  · exact (RNG_STAT_ne_RNG_CFG n n).symm
  · exact (RNG_STAT_ne_RNG_CFG n n).symm

theorem unstopped_flag_ACTIVE (n : Fin 64) : Unstopped n (fun s => s.flag (F.RNG_STAT_ACTIVE n)) := by
  have hhw : R.RNG_STAT n ≠ R.RNG_HW n := by simp only [R.RNG_STAT, R.RNG_HW]; omega
  refine ⟨unflagged_flag n rfl (by simp [F.RNG_STAT_ACTIVE]) (by simp [F.RNG_STAT_ACTIVE]), fun s f v hf => ?_, fun _ _ => rfl⟩
  rcases hf with rfl | rfl | rfl
  · exact State.flag_congr (State.fld_setFld_ne s _ _ hhw v)
  · exact State.flag_congr (State.fld_setFld_other s _ _ (by simp [F.RNG_STAT_ABORT_DONE, Fld.Ok]) (by simp [F.RNG_STAT_ACTIVE])
      (by simp [F.RNG_STAT_ABORT_DONE, F.RNG_STAT_ACTIVE]) v)
  · exact State.flag_congr (State.fld_setFld_other s _ _ (by simp [F.RNG_STAT_FETCH_ERR, Fld.Ok]) (by simp [F.RNG_STAT_ACTIVE])
      (by simp [F.RNG_STAT_FETCH_ERR, F.RNG_STAT_ACTIVE]) v)

theorem Unstopped.fetchFailed {α : Type} {n : Nat} {p : State → α} (hp : Unstopped n p) (s : State) (dn : Option Nat) :
    p (s.fetchFailed n dn) = p s := by
  cases dn with
  | none => rfl
  | some b =>
    rw [State.fetchFailed, hp.ringFlag _ _ _ _ fun u v => hp.setFld u _ v (.inr (.inr rfl)), hp.deny]

theorem Unstopped.leaveStop {α : Type} {n : Nat} {p : State → α} (hp : Unstopped n p) (s : State) (r : Ring) (left : List Inflight) :
    p (s.leaveStop n r left) = p s := by
  rw [State.leaveStop, apply_ite p, hp.setFld _ (F.RNG_STAT_ABORT_DONE n) 1 (.inr (.inl rfl)), ite_self, hp.setRing,
    hp.setFld _ _ _ (.inl rfl)]

/-- A stop leaves what its fields do not enter as the ring taken out of service does. -/
theorem Unstopped.stopRing {α : Type} {n : Nat} {p : State → α} (hp : Unstopped n p) (s : State) (lg : Nat) :
    p (s.stopRing n lg) = p (s.ringOff n) := by
  by_cases h : lg = 0 ∨ (s.ring n).queue = 0
  · rw [State.stopRing_idle s n lg h, hp.refreshRings]
  · rw [State.stopRing_busy s n lg h _ _ rfl, hp.refreshRings, hp.leaveStop, hp.fetchFailed]

theorem State.leaveStop_ring (s : State) (n : Nat) (r : Ring) (left : List Inflight) :
    (s.leaveStop n r left).ring n = { r with inflight := left } := by
  simp only [State.leaveStop]
  split
  · rw [State.ring_setFld, State.ring_setRing_same]
  · rw [State.ring_setRing_same]

section
variable (s : State) (n : Fin 64)

theorem State.ringOff_ringHw : (s.ringOff n).ringHw n = s.ringHw n :=
  s.ringOff_fld_ne n (by simp only [F.RNG_HW_IDX, R.RNG_HW, R.RNG_CFG]; omega) (by simp only [F.RNG_HW_IDX, R.RNG_HW, R.RNG_STAT]; omega)

theorem State.ringOff_ringDb : (s.ringOff n).ringDb n = s.ringDb n :=
  s.ringOff_fld_ne n (by simp only [F.RNG_DB_IDX, R.RNG_DB, R.RNG_CFG]; omega) (by simp only [F.RNG_DB_IDX, R.RNG_DB, R.RNG_STAT]; omega)

theorem State.ringOff_unstarted : (s.ringOff n).unstarted n = s.unstarted n := by
  rw [State.unstarted, s.ringOff_ringHw, s.ringOff_ringDb, State.unstarted]

theorem State.ringOff_descAddr (lg i : Nat) : (s.ringOff n).descAddr n lg i = s.descAddr n lg i := by
  have hlo : (s.ringOff n).fld (F.RNG_BASE_LO_ADDR n) = s.fld (F.RNG_BASE_LO_ADDR n) := s.ringOff_fld_ne n
    (by simp only [F.RNG_BASE_LO_ADDR, R.RNG_BASE_LO, R.RNG_CFG]; omega) (by simp only [F.RNG_BASE_LO_ADDR, R.RNG_BASE_LO, R.RNG_STAT]; omega)
  have hhi : (s.ringOff n).fld (F.RNG_BASE_HI_ADDR n) = s.fld (F.RNG_BASE_HI_ADDR n) := s.ringOff_fld_ne n
    (by simp only [F.RNG_BASE_HI_ADDR, R.RNG_BASE_HI, R.RNG_CFG]; omega) (by simp only [F.RNG_BASE_HI_ADDR, R.RNG_BASE_HI, R.RNG_STAT]; omega)
  rw [State.descAddr, State.descAddr, State.ringBase, State.ringBase, hlo, hhi]

theorem State.ringOff_firstDenied (acc : Acc) (k : AccKind) (a len : Nat) :
    (s.ringOff n).firstDenied acc k a len = s.firstDenied acc k a len :=
  State.firstDenied_congr (s.ringOff_part n) (fun b hb => s.ringOff_reg_ne n
    (by simp only [R.ACC_TE_BASE, R.RNG_CFG] at *; omega) (by simp only [R.ACC_TE_BASE, R.RNG_STAT] at *; omega)) acc k a len

theorem State.ringOff_abortedDesc (lg i : Nat) : (s.ringOff n).abortedDesc n lg i = s.abortedDesc n lg i := by
  rw [State.abortedDesc, State.abortedDesc, s.ringOff_descAddr, State.bytes_congr (s.ringOff_mem n), State.short, s.ringOff_now,
    s.ringOff_ring, State.short]

/-- After a stop whose fetches are all permitted, the started descriptors and then the others, ABORTED, wait to be written. -/
theorem State.stopRing_inflight (lg : Nat) (hlg : lg ≠ 0) (hq : (s.ring n).queue ≠ 0)
    (h : ∀ k < s.unstarted n, s.firstDenied (engine 17) .read (s.descAddr n lg ((s.ringHw n + k) % 2 ^ 32)) 32 = none) :
    ((s.stopRing n lg).ring n).inflight = markLast ((s.ring n).inflight ++
      (List.range (s.unstarted n)).map (fun k => s.abortedDesc n lg ((s.ringHw n + k) % 2 ^ 32))) := by
  have hlist : (s.ringOff n).abortList n lg ((s.ringOff n).unstarted n) ((s.ringOff n).ringHw n) =
      ((List.range (s.unstarted n)).map (fun k => s.abortedDesc n lg ((s.ringHw n + k) % 2 ^ 32)), none) := by
    rw [s.ringOff_unstarted, s.ringOff_ringHw, State.abortList_of_permitted _ _ _ _ _ (s.ringHw_lt n)
      fun k hk => by rw [s.ringOff_firstDenied, s.ringOff_descAddr]; exact h k hk]
    simp only [s.ringOff_abortedDesc]
  rw [State.stopRing_busy s n lg (not_or.mpr ⟨hlg, hq⟩) _ _ hlist]
  exact congrArg Ring.inflight (((unreported_ring n).unflagged.refreshRings _ n).trans (State.leaveStop_ring _ n _ _))

end

/-! ### The write of RNG_CFGn -/

/-- The word that a write of RNG_CFGn leaves where it is taken. -/
def State.cfgWritten (s : State) (n : Nat) (v : Word) : Word := writtenWord (R.RNG_CFG n) (s.locked (R.RNG_CFG n)) (s.reg (R.RNG_CFG n)) v

/-- A write of RNG_CFGn changes QUEUE or CRING. -/
def State.cfgChanges (s : State) (n : Nat) (v : Word) : Prop :=
  (F.RNG_CFG_QUEUE n).get (s.cfgWritten n v) ≠ s.fld (F.RNG_CFG_QUEUE n) ∨ (F.RNG_CFG_CRING n).get (s.cfgWritten n v) ≠ s.fld (F.RNG_CFG_CRING n)

section
variable (s : State) (n : Nat) (v : Word)

/-- SIZE 0 with another QUEUE or CRING, while work is pending: only SIZE is taken (R38). -/
theorem State.writeRngCfg_stop_busy (hsize : (F.RNG_CFG_SIZE n).get v = 0) (hchange : s.cfgChanges n v) (hwork : s.ringHw n ≠ s.ringDb n) :
    s.writeRngCfg n v = (s.stopRing n (s.fld (F.RNG_CFG_SIZE n))).setFld (F.RNG_STAT_CFG_BUSY n) 1 := by
  rw [State.cfgChanges, State.cfgWritten] at hchange
  simp only [State.writeRngCfg]
  rw [if_pos hsize, if_pos (by simpa [hwork] using hchange)]

/-- SIZE 0 otherwise: the ring stops and the word is taken (R38). -/
theorem State.writeRngCfg_stop (hsize : (F.RNG_CFG_SIZE n).get v = 0) (h : ¬ (s.cfgChanges n v ∧ s.ringHw n ≠ s.ringDb n)) :
    s.writeRngCfg n v = (s.stopRing n (s.fld (F.RNG_CFG_SIZE n))).setReg (R.RNG_CFG n) ((F.RNG_CFG_SIZE n).put (s.cfgWritten n v) 0) := by
  rw [State.cfgChanges, State.cfgWritten] at h
  simp only [State.writeRngCfg, State.cfgWritten]
  rw [if_pos hsize, if_neg (by simpa using h)]

/-- A write that names a size while work is pending is ignored (R38). -/
theorem State.writeRngCfg_busy (hsize : (F.RNG_CFG_SIZE n).get v ≠ 0) (hwork : s.ringHw n ≠ s.ringDb n) :
    s.writeRngCfg n v = s.setFld (F.RNG_STAT_CFG_BUSY n) 1 := by
  simp only [State.writeRngCfg]
  rw [if_neg hsize, if_pos hwork]

/-- A write that names a size, with no work pending, binds the ring (R38). -/
theorem State.writeRngCfg_bind (hsize : (F.RNG_CFG_SIZE n).get v ≠ 0) (hidle : s.ringHw n = s.ringDb n) :
    s.writeRngCfg n v = (s.setReg (R.RNG_CFG n) (s.cfgWritten n v)).bindRing n := by
  simp only [State.writeRngCfg, State.cfgWritten]
  rw [if_neg hsize, if_neg (by simp [hidle])]

end

section
variable (s : State) (n : Fin 64) (lg : Nat)

theorem State.stopRing_size : (s.stopRing n lg).fld (F.RNG_CFG_SIZE n) = 0 :=
  (State.fld_congr ((unstopped_reg_CFG n).stopRing s lg)).trans (s.ringOff_size n)

theorem State.stopRing_fld_CFG {f : Fld} (ha : f.addr = R.RNG_CFG n) (hlo : 4 < f.lo) (hhi : f.hi < 32) :
    (s.stopRing n lg).fld f = s.fld f := by
  have hreg : (s.stopRing n lg).reg f.addr = (s.ringOff n).reg f.addr := ha ▸ (unstopped_reg_CFG n).stopRing s lg
  exact (State.fld_congr hreg).trans (s.ringOff_fld_CFG ha hlo hhi)

theorem State.stopRing_active : (s.stopRing n lg).flag (F.RNG_STAT_ACTIVE n) = false :=
  ((unstopped_flag_ACTIVE n).stopRing s lg).trans (s.ringOff_active n)

theorem State.stopRing_mem : (s.stopRing n lg).mem = s.mem :=
  ((unstopped_mem n).stopRing s lg).trans (s.ringOff_mem n)

end

theorem RNG_CFG_get_put_size (n : Nat) (w : Word) {f : Fld} (hlo : 4 < f.lo) (hhi : f.hi < 32) :
    f.get ((F.RNG_CFG_SIZE n).put w 0) = f.get w :=
  Fld.get_put_other _ _ (RNG_CFG_SIZE_ok n) hhi (.inl hlo) w 0

theorem RNG_CFG_SIZE_get_put_zero (n : Nat) (w : Word) : (F.RNG_CFG_SIZE n).get ((F.RNG_CFG_SIZE n).put w 0) = 0 :=
  (Fld.get_put_same _ (RNG_CFG_SIZE_ok n) w 0).trans (Nat.zero_mod _)

/-! ### Binding -/

/-- The state after ring n is enabled with the QUEUE and CRING of RNG_CFGn. -/
def State.boundRing (s : State) (n : Nat) : State :=
  ((s.setRing n { s.ring n with start := s.ringHw n, queue := s.fld (F.RNG_CFG_QUEUE n), cring := s.fld (F.RNG_CFG_CRING n), masters := [] }).setFld
    (F.RNG_STAT_ACTIVE n) 1).refreshRings n

/-- A ring can be enabled with its RNG_CFGn: a size of 16 to 65,536 entries, and a queue of a present unit that no other ring has, with a
completion ring bound to queue 0 (R31, R32, R39). -/
structure State.Bindable (s : State) (n : Nat) : Prop where
  lo : 4 ≤ s.fld (F.RNG_CFG_SIZE n)
  hi : s.fld (F.RNG_CFG_SIZE n) ≤ 16
  valid : validQueue (s.fld (F.RNG_CFG_QUEUE n))
  present : s.part.absentQueue (s.fld (F.RNG_CFG_QUEUE n)) = none
  free : s.fld (F.RNG_CFG_QUEUE n) ≠ 0 → s.queueTaken n (s.fld (F.RNG_CFG_QUEUE n)) = false
  cring : s.fld (F.RNG_CFG_QUEUE n) ≠ 0 → s.fld (F.RNG_CFG_QUEUE (s.fld (F.RNG_CFG_CRING n))) = 0

theorem State.bindRing_bound (s : State) (n : Nat) (h : s.Bindable n) : s.bindRing n = s.boundRing n := by
  obtain ⟨hlo, hhi, hvalid, hpresent, hfree, hcring⟩ := h
  have hsize : ¬ (s.fld (F.RNG_CFG_SIZE n) < 4 ∨ 16 < s.fld (F.RNG_CFG_SIZE n) ∨ (!validQueue (s.fld (F.RNG_CFG_QUEUE n))) = true) := by
    simp only [hvalid, Bool.not_true, Bool.false_eq_true, or_false]
    omega
  have hfree' : ¬ (s.fld (F.RNG_CFG_QUEUE n) ≠ 0 ∧ s.queueTaken n (s.fld (F.RNG_CFG_QUEUE n)) = true) := fun ⟨hq, ht⟩ => by
    simp [hfree hq] at ht
  have hcring' : ¬ (s.fld (F.RNG_CFG_QUEUE n) ≠ 0 ∧ s.fld (F.RNG_CFG_QUEUE (s.fld (F.RNG_CFG_CRING n))) ≠ 0) := fun ⟨hq, hc⟩ => hc (hcring hq)
  simp only [State.bindRing, if_neg hsize, hpresent, if_neg hfree', if_neg hcring']
  rfl

theorem State.bindRing_badSize (s : State) (n : Nat) (h : s.fld (F.RNG_CFG_SIZE n) < 4 ∨ 16 < s.fld (F.RNG_CFG_SIZE n)) :
    s.bindRing n = (s.unboundRing n).ringFlag (F.RNG_STAT_CFG_ERR n) n true := by
  simp only [State.bindRing]
  rw [if_pos (h.imp_right .inl), State.unboundRing]

/-- Binding, taken or refused, leaves what RNG_STATn, SIZE and the record of the ring do not enter. -/
theorem Unreported.bindRing {α : Type} {p : State → α} (hp : Unreported p) (s : State) (n : Nat)
    (hsize : ∀ (u : State) (v : Nat), p (u.setFld (F.RNG_CFG_SIZE n) v) = p u) (hring : ∀ (u : State) (r : Ring), p (u.setRing n r) = p u) :
    p (s.bindRing n) = p s := by
  have hstat : ∀ (u : State) (f : Fld) (v : Nat), f.addr = R.RNG_STAT n → p (u.setFld f v) = p u := fun u f v hf => hp.status u f n v hf
  have hflag : ∀ (u : State) (f : Fld), f.addr = R.RNG_STAT n → p (u.ringFlag f n true) = p u := fun u f hf =>
    hp.ringFlag u f n true fun u v => hstat u f v hf
  have hoff : ∀ u : State, p (((u.setFld (F.RNG_CFG_SIZE n) 0).setFld (F.RNG_STAT_ACTIVE n) 0).refreshRings n) = p u := fun u => by
    rw [hp.unflagged.refreshRings, hstat _ _ _ rfl, hsize]
  simp only [State.bindRing]
  split
  · rw [hflag _ _ rfl, hoff]
  · split
    · rw [State.absentAccess, hp.event, hoff]
    · split
      · rw [hflag _ _ rfl, hoff]
      · split
        · rw [hflag _ _ rfl, hoff]
        · rw [hp.unflagged.refreshRings, hstat _ _ _ rfl, hring]

section
variable (s : State) (n : Fin 64)

theorem unreported_fld_CFG {f : Fld} (ha : f.addr = R.RNG_CFG n) : Unreported (fun s => s.fld f) :=
  unreported_fld_of_isRingReg (ha ▸ isRingReg_CFG n)

theorem State.bindRing_fld_CFG {f : Fld} (ha : f.addr = R.RNG_CFG n) (hlo : 4 < f.lo) (hhi : f.hi < 32) :
    (s.bindRing n).fld f = s.fld f :=
  (unreported_fld_CFG n ha).bindRing s n (fun u v => State.fld_setFld_other u _ _ (RNG_CFG_SIZE_ok n) hhi (.inl hlo) v) (fun _ _ => rfl)

theorem State.boundRing_fld_CFG {f : Fld} (ha : f.addr = R.RNG_CFG n) : (s.boundRing n).fld f = s.fld f := by
  have hp := unreported_fld_CFG n ha
  rw [State.boundRing, hp.unflagged.refreshRings, hp.status _ _ n _ rfl, State.fld_setRing]

theorem State.boundRing_mem : (s.boundRing n).mem = s.mem := by
  rw [State.boundRing, State.refreshRings_mem, State.setFld_mem, State.setRing_mem]

theorem State.boundRing_active : (s.boundRing n).flag (F.RNG_STAT_ACTIVE n) = true := by
  have hp := unflagged_flag (f := F.RNG_STAT_ACTIVE n) n rfl (by simp [F.RNG_STAT_ACTIVE]) (by simp [F.RNG_STAT_ACTIVE])
  rw [State.boundRing, hp.refreshRings, State.flag_setFld_one _ _ (by simp [F.RNG_STAT_ACTIVE, Fld.Ok])]

/-- A refused binding leaves the flags of the ring beside ACTIVE, CFULL and CROFF. -/
theorem State.unboundRing_cfgErr : (s.unboundRing n).flag (F.RNG_STAT_CFG_ERR n) = s.flag (F.RNG_STAT_CFG_ERR n) := by
  have hp := unflagged_flag (f := F.RNG_STAT_CFG_ERR n) n rfl (by simp [F.RNG_STAT_CFG_ERR]) (by simp [F.RNG_STAT_CFG_ERR])
  rw [State.unboundRing_eq, hp.refreshRings, State.ringOff]
  refine State.flag_congr ((State.fld_setFld_other _ _ _ ?_ ?_ ?_ 0).trans (State.fld_setFld_ne s _ _ (RNG_STAT_ne_RNG_CFG n n) 0))
  · simp [F.RNG_STAT_ACTIVE, Fld.Ok]
  · simp [F.RNG_STAT_CFG_ERR]
  · simp [F.RNG_STAT_ACTIVE, F.RNG_STAT_CFG_ERR]

/-- A ring flag that sets is raised, with source 64 + n. -/
theorem State.raised_ringFlag {s u : State} (f : Fld) (hf : f.Ok) (ha : f.addr = R.RNG_STAT n) (hu : u.flag f = s.flag f) :
    s.raised (u.ringFlag f n true) f (64 + n) := by
  refine ⟨State.flag_ringFlag u f n hf ha, fun hs => ?_⟩
  rw [State.ringFlag, if_pos rfl, State.raiseFlag, hu, hs, if_neg Bool.false_ne_true, State.isPending_pend]

theorem State.ringFlag_size (f : Fld) (ha : f.addr = R.RNG_STAT n) :
    (s.ringFlag f n true).fld (F.RNG_CFG_SIZE n) = s.fld (F.RNG_CFG_SIZE n) :=
  (unreported_fld_CFG n rfl).ringFlag s f n true fun u v => (unreported_fld_CFG n rfl).status u f n v ha

end

end Sys2Proof.Machine
end

section
/-! The sizes of a ring (R32) and the writes of RNG_CFGn while work is pending (R38). -/

namespace Sys2Proof.Machine

theorem State.ring_setReg (s : State) (a : Nat) (w : Word) (n : Nat) : (s.setReg a w).ring n = s.ring n := rfl

/-- RNG_CFGn as a write gives it, before the ring is bound. -/
def State.cfgTaken (s : State) (n : Nat) (v : Word) : State := s.setReg (R.RNG_CFG n) (s.cfgWritten n v)

theorem State.cfgTaken_fld_CFG (s : State) (n : Nat) (v : Word) {f : Fld} (ha : f.addr = R.RNG_CFG n) :
    (s.cfgTaken n v).fld f = f.get (s.cfgWritten n v) := by
  rw [State.cfgTaken, ← ha, State.fld_setReg_same]

theorem State.cfgTaken_fld_ne (s : State) (n : Nat) (v : Word) {f : Fld} (ha : f.addr ≠ R.RNG_CFG n) :
    (s.cfgTaken n v).fld f = s.fld f :=
  State.fld_setReg_ne s _ _ f ha

theorem State.cfgTaken_size (s : State) (n : Fin 64) (v : Word) : (s.cfgTaken n v).fld (F.RNG_CFG_SIZE n) = (F.RNG_CFG_SIZE n).get v :=
  (s.cfgTaken_fld_CFG n v rfl).trans (RNG_CFG_SIZE_get_writtenWord n _ _ v)

theorem RNG_CFG_injective {m n : Nat} (h : R.RNG_CFG m = R.RNG_CFG n) : m = n := by
  simp only [R.RNG_CFG] at h; omega

/-- Which ring has a queue does not depend on the word written for another. -/
theorem State.cfgTaken_queueTaken (s : State) (n : Nat) (v : Word) (q : Nat) : (s.cfgTaken n v).queueTaken n q = s.queueTaken n q := by
  refine congrArg (List.any (List.range 64)) (funext fun m => ?_)
  by_cases hm : m = n
  · simp [hm]
  · rw [s.cfgTaken_fld_ne n v fun h => hm (RNG_CFG_injective h), State.cfgTaken, State.ring_setReg]

theorem State.bindable_cfgTaken (s : State) (n : Fin 64) (v : Word) (hlo : 4 ≤ (F.RNG_CFG_SIZE n).get v)
    (hhi : (F.RNG_CFG_SIZE n).get v ≤ 16) (hvalid : validQueue ((F.RNG_CFG_QUEUE n).get (s.cfgWritten n v)))
    (hpresent : s.part.absentQueue ((F.RNG_CFG_QUEUE n).get (s.cfgWritten n v)) = none)
    (hwork : (F.RNG_CFG_QUEUE n).get (s.cfgWritten n v) ≠ 0 →
      s.queueTaken n ((F.RNG_CFG_QUEUE n).get (s.cfgWritten n v)) = false ∧ (F.RNG_CFG_CRING n).get (s.cfgWritten n v) ≠ n.val ∧
        s.fld (F.RNG_CFG_QUEUE ((F.RNG_CFG_CRING n).get (s.cfgWritten n v))) = 0) :
    (s.cfgTaken n v).Bindable n := by
  have hsize := s.cfgTaken_size n v
  have hqueue : (s.cfgTaken n v).fld (F.RNG_CFG_QUEUE n) = _ := s.cfgTaken_fld_CFG n v rfl
  have hcring : (s.cfgTaken n v).fld (F.RNG_CFG_CRING n) = _ := s.cfgTaken_fld_CFG n v rfl
  have hpart : (s.cfgTaken n v).part = s.part := s.setReg_part _ _
  refine ⟨?_, ?_, ?_, ?_, fun hq => ?_, fun hq => ?_⟩
  · rwa [hsize]
  · rwa [hsize]
  · rwa [hqueue]
  · rwa [hqueue, hpart]
  · rw [hqueue] at hq ⊢
    rw [s.cfgTaken_queueTaken]
    exact (hwork hq).1
  · rw [hqueue] at hq
    obtain ⟨-, hne, hfree⟩ := hwork hq
    rw [hcring, s.cfgTaken_fld_ne n v (fun h => hne (RNG_CFG_injective h))]
    exact hfree

/-! ### The ring stopped by a write of SIZE 0 -/

section
variable (s : State) (n : Fin 64) (v : Word) (hsize : (F.RNG_CFG_SIZE n).get v = 0)
include hsize

theorem State.writeRngCfg_stop_cases :
    s.writeRngCfg n v = (s.stopRing n (s.fld (F.RNG_CFG_SIZE n))).setFld (F.RNG_STAT_CFG_BUSY n) 1 ∨
      s.writeRngCfg n v = (s.stopRing n (s.fld (F.RNG_CFG_SIZE n))).setReg (R.RNG_CFG n) ((F.RNG_CFG_SIZE n).put (s.cfgWritten n v) 0) := by
  by_cases h : s.cfgChanges n v ∧ s.ringHw n ≠ s.ringDb n
  · exact .inl (s.writeRngCfg_stop_busy n v hsize h.1 h.2)
  · exact .inr (s.writeRngCfg_stop n v hsize h)

theorem State.writeRngCfg_stop_size : (s.writeRngCfg n v).fld (F.RNG_CFG_SIZE n) = 0 := by
  rcases s.writeRngCfg_stop_cases n v hsize with h | h <;> rw [h]
  · rw [State.fld_setFld_ne _ _ _ (RNG_STAT_ne_RNG_CFG n n).symm, State.stopRing_size]
  · exact (State.fld_setReg_same _ (F.RNG_CFG_SIZE n) _).trans (RNG_CFG_SIZE_get_put_zero n _)

theorem State.writeRngCfg_stop_ring : (s.writeRngCfg n v).ring n = (s.stopRing n (s.fld (F.RNG_CFG_SIZE n))).ring n := by
  rcases s.writeRngCfg_stop_cases n v hsize with h | h <;> rw [h]
  · rw [State.ring_setFld]
  · rw [State.ring_setReg]

theorem State.writeRngCfg_stop_mem : (s.writeRngCfg n v).mem = s.mem := by
  rcases s.writeRngCfg_stop_cases n v hsize with h | h <;> rw [h]
  · rw [State.setFld_mem, State.stopRing_mem]
  · rw [State.setReg_mem, State.stopRing_mem]

theorem State.writeRngCfg_stop_active : (s.writeRngCfg n v).flag (F.RNG_STAT_ACTIVE n) = false := by
  rcases s.writeRngCfg_stop_cases n v hsize with h | h <;> rw [h]
  · have hother := State.fld_setFld_other (s.stopRing n (s.fld (F.RNG_CFG_SIZE n))) (F.RNG_STAT_CFG_BUSY n) (F.RNG_STAT_ACTIVE n)
      (by simp [F.RNG_STAT_CFG_BUSY, Fld.Ok]) (by simp [F.RNG_STAT_ACTIVE]) (by simp [F.RNG_STAT_CFG_BUSY, F.RNG_STAT_ACTIVE]) 1
    rw [State.flag_congr hother, State.stopRing_active]
  · rw [State.flag_congr (State.fld_setReg_ne _ _ _ (F.RNG_STAT_ACTIVE n) (RNG_STAT_ne_RNG_CFG n n)), State.stopRing_active]

end

/-! ### Sizes -/

/-- A write of RNG_CFGn with a size and a queue that the ring may have enables it. -/
theorem State.writeRngCfg_bound (s : State) (n : Fin 64) (v : Word) (hidle : s.ringHw n = s.ringDb n) (h : (s.cfgTaken n v).Bindable n) :
    s.writeRngCfg n v = (s.cfgTaken n v).boundRing n := by
  have hlo := s.cfgTaken_size n v ▸ h.lo
  rw [s.writeRngCfg_bind n v (by omega) hidle, ← State.cfgTaken, State.bindRing_bound _ _ h]

theorem State.ringBase_mod (s : State) (n : Nat) : s.ringBase n % 64 = 0 := by
  unfold State.ringBase
  omega

/-- Settles O52, by the size written. -/
theorem ringSizesAndDisabledRings : Obligations.RingSizesAndDisabledRings := by
  refine ⟨State.ringBase_mod, fun s acc n v new htakes hidle hnew => ?_⟩
  subst hnew
  have hexec := exec_ringConfigure_of_takesWrite s acc n v htakes
  have hsize := s.cfgTaken_size n v
  refine ⟨fun hlo hhi hvalid hpresent hwork => ⟨_, hexec, ?_⟩, fun hzero => ⟨_, hexec, ?_⟩, fun hlo hbad => ⟨_, hexec, ?_⟩⟩
  · have hbind := s.bindable_cfgTaken n v hlo hhi hvalid hpresent hwork
    have hleft : (s.writeRngCfg n v).fld (F.RNG_CFG_SIZE n) = (F.RNG_CFG_SIZE n).get v := by
      rw [s.writeRngCfg_bound n v hidle hbind, State.boundRing_fld_CFG _ n rfl, hsize]
    exact ⟨hleft, by rw [State.ringSize, hleft, if_neg (by omega)]⟩
  · exact s.writeRngCfg_stop_size n v hzero
  · have hrefused : s.writeRngCfg n v = ((s.cfgTaken n v).unboundRing n).ringFlag (F.RNG_STAT_CFG_ERR n) n true := by
      rw [s.writeRngCfg_bind n v (by omega) hidle, ← State.cfgTaken, State.bindRing_badSize _ _ (by rw [hsize]; omega)]
    rw [hrefused]
    refine ⟨?_, ?_⟩
    · rw [State.ringFlag_size _ n _ rfl, State.unboundRing_size]
    · refine State.raised_ringFlag n _ (by simp [F.RNG_STAT_CFG_ERR, Fld.Ok]) rfl ?_
      rw [State.unboundRing_cfgErr]
      exact State.flag_congr (s.cfgTaken_fld_ne n v (RNG_STAT_ne_RNG_CFG n n))

/-- Settles O54, by the size written and by whether work is pending. -/
theorem ringWritesWhileWorkIsPending : Obligations.RingWritesWhileWorkIsPending := by
  intro s acc n v new htakes hnew
  subst hnew
  have hexec := exec_ringConfigure_of_takesWrite s acc n v htakes
  have hqueue : (F.RNG_CFG_QUEUE n).addr = R.RNG_CFG n ∧ 4 < (F.RNG_CFG_QUEUE n).lo ∧ (F.RNG_CFG_QUEUE n).hi < 32 := by
    simp [F.RNG_CFG_QUEUE]
  have hcring : (F.RNG_CFG_CRING n).addr = R.RNG_CFG n ∧ 4 < (F.RNG_CFG_CRING n).lo ∧ (F.RNG_CFG_CRING n).hi < 32 := by
    simp [F.RNG_CFG_CRING]
  refine ⟨fun hzero hon hq hfetch => ⟨_, hexec, ?_⟩, fun hzero => ⟨_, hexec, s.writeRngCfg_stop_size n v hzero, ?_, ?_⟩,
    fun hsize hwork => ⟨_, hexec, s.writeRngCfg_busy n v hsize hwork⟩, fun hsize hidle => ⟨_, hexec, ?_⟩⟩
  · refine ⟨s.writeRngCfg_stop_size n v hzero, ?_⟩
    rw [s.writeRngCfg_stop_ring n v hzero]
    exact s.stopRing_inflight n _ hon hq hfetch
  · intro hchange hwork
    rw [s.writeRngCfg_stop_busy n v hzero hchange hwork]
    have hkeep : ∀ f : Fld, f.addr = R.RNG_CFG n ∧ 4 < f.lo ∧ f.hi < 32 →
        ((s.stopRing n (s.fld (F.RNG_CFG_SIZE n))).setFld (F.RNG_STAT_CFG_BUSY n) 1).fld f = s.fld f := fun f ⟨ha, hlo, hhi⟩ => by
      rw [State.fld_setFld_ne _ _ _ (ha ▸ (RNG_STAT_ne_RNG_CFG n n).symm), State.stopRing_fld_CFG _ _ _ ha hlo hhi]
    exact ⟨hkeep _ hqueue, hkeep _ hcring, State.flag_setFld_one _ _ (by simp [F.RNG_STAT_CFG_BUSY, Fld.Ok])⟩
  · intro hidle
    rw [s.writeRngCfg_stop n v hzero fun h => h.2 hidle]
    have htaken : ∀ f : Fld, f.addr = R.RNG_CFG n ∧ 4 < f.lo ∧ f.hi < 32 →
        ((s.stopRing n (s.fld (F.RNG_CFG_SIZE n))).setReg (R.RNG_CFG n) ((F.RNG_CFG_SIZE n).put (s.cfgWritten n v) 0)).fld f =
          f.get (s.cfgWritten n v) := fun f ⟨ha, hlo, hhi⟩ => by
      rw [← ha, State.fld_setReg_same, RNG_CFG_get_put_size n _ hlo hhi]
    exact ⟨htaken _ hqueue, htaken _ hcring⟩
  · rw [s.writeRngCfg_bind n v hsize hidle, ← State.cfgTaken]
    have htaken : ∀ f : Fld, f.addr = R.RNG_CFG n ∧ 4 < f.lo ∧ f.hi < 32 →
        ((s.cfgTaken n v).bindRing n).fld f = f.get (s.cfgWritten n v) := fun f ⟨ha, hlo, hhi⟩ => by
      rw [State.bindRing_fld_CFG _ _ ha hlo hhi, s.cfgTaken_fld_CFG n v ha]
    exact ⟨htaken _ hqueue, htaken _ hcring⟩

end Sys2Proof.Machine
end

section
/-! Completions: what COMPLETION_WRITE leaves, and that it overwrites none that firmware has not consumed (R34, R37). -/

namespace Sys2Proof.Machine

/-! ### The entry -/

@[simp] theorem length_leBytes (n x : Nat) : (leBytes n x).length = n := by
  induction n generalizing x with
  | zero => rfl
  | succ n ih => rw [leBytes, List.length_cons, ih]

@[simp] theorem length_completionBytes (d : Desc) (status n phase result stamp : Nat) :
    (completionBytes d status n phase result stamp).length = 16 := by
  simp only [completionBytes, List.length_append, length_leBytes]

/-- The address of an entry of completion ring c. -/
def State.slotAddr (s : State) (c i : Nat) : Nat := s.ringBase c + 16 * (i % s.ringSize c)

/-- The rest of the write of a completion: the producer index moves on, the completion leaves ring n, ABORT_DONE, the interrupt count. -/
def State.entryPassed (s : State) (n : Nat) (r : Ring) (e : Inflight) (rest : List Inflight) : State :=
  let s := (s.setFld (F.RNG_HW_IDX e.cring) (next32 (s.ringHw e.cring))).setRing n { r with inflight := rest }
  let s := if e.last then s.setFld (F.RNG_STAT_ABORT_DONE n) 1 else s
  let s := if e.desc.irq then s.countIrq n else s
  s.refreshRings e.cring

theorem State.writeCompletion_eq (s : State) (n : Nat) (e : Inflight) (rest : List Inflight) (status result : Nat) :
    s.writeCompletion n e rest status result = (s.unitWrite (engine 17) (s.slotAddr e.cring (s.ringHw e.cring))
      (completionBytes e.desc status n (s.phase e.cring) result e.stamp)).2.entryPassed n (s.ring n) e rest := by
  rw [State.writeCompletion, State.entryPassed, State.slotAddr]

/-! ### What the count of interrupts and the passing on of an entry leave -/

theorem Unrecorded.countIrq {α : Type} {p : State → α} (hp : Unrecorded p) (s : State) (n : Nat)
    (hring : ∀ (u : State) (r : Ring), p (u.setRing n r) = p u) : p (s.countIrq n) = p s := by
  simp only [State.countIrq]
  split
  · rw [hp.pend, hring]
  · rw [hring]

theorem State.ringHw_setRing (s : State) (n c : Nat) (r : Ring) : (s.setRing n r).ringHw c = s.ringHw c := rfl

theorem State.ring_pend (s : State) (irq n : Nat) : (s.pend irq).ring n = s.ring n := rfl

theorem State.countIrq_inflight (s : State) (n : Nat) : ((s.countIrq n).ring n).inflight = (s.ring n).inflight := by
  simp only [State.countIrq]
  split
  · rw [State.ring_pend, State.ring_setRing_same]
  · rw [State.ring_setRing_same]

/-- The index moved on and the completion taken off ring n. -/
def State.entryTaken (s : State) (n : Nat) (r : Ring) (e : Inflight) (rest : List Inflight) : State :=
  (s.setFld (F.RNG_HW_IDX e.cring) (next32 (s.ringHw e.cring))).setRing n { r with inflight := rest }

/-- ABORT_DONE, the interrupt count and the derived flags leave what they do not enter. -/
theorem Unflagged.entryPassed {α : Type} {p : State → α} (hp : Unflagged p) (s : State) (n : Nat) (r : Ring) (e : Inflight)
    (rest : List Inflight) (habort : ∀ u : State, p (u.setFld (F.RNG_STAT_ABORT_DONE n) 1) = p u)
    (hirq : ∀ u : State, p (u.countIrq n) = p u) : p (s.entryPassed n r e rest) = p (s.entryTaken n r e rest) := by
  simp only [State.entryPassed]
  rw [hp.refreshRings, apply_ite p, hirq, ite_self, apply_ite p, habort, ite_self, State.entryTaken]

theorem State.entryPassed_mem (s : State) (n : Nat) (r : Ring) (e : Inflight) (rest : List Inflight) :
    (s.entryPassed n r e rest).mem = s.mem := by
  rw [unreported_mem.unflagged.entryPassed s n r e rest (fun u => u.setFld_mem _ _)
    (fun u => unrecorded_mem.countIrq u n fun u r => u.setRing_mem n r), State.entryTaken, State.setRing_mem, State.setFld_mem]

theorem State.entryPassed_inflight (s : State) (n : Nat) (r : Ring) (e : Inflight) (rest : List Inflight) :
    ((s.entryPassed n r e rest).ring n).inflight = rest := by
  have hp : Unflagged (fun s : State => (s.ring n).inflight) :=
    ⟨⟨fun _ _ _ _ => rfl, fun _ _ => rfl⟩, fun _ _ _ _ _ => rfl⟩
  rw [hp.entryPassed s n r e rest (fun _ => rfl) fun u => u.countIrq_inflight n, State.entryTaken, State.ring_setRing_same]

theorem State.entryPassed_ringHw (s : State) (n : Nat) (r : Ring) (e : Inflight) (rest : List Inflight) (c : Fin 64) (hc : e.cring = c) :
    (s.entryPassed n r e rest).ringHw c = next32 (s.ringHw c) := by
  have hp := unreported_ringHw c
  rw [hp.unflagged.entryPassed s n r e rest (fun u => hp.status u _ n 1 rfl) fun u => hp.countIrq u n fun _ _ => rfl,
    State.entryTaken, hc, State.ringHw_setRing, s.ringHw_setFld_same c _ (next32_lt _)]

/-- The last completion of a stop sets ABORT_DONE. -/
theorem State.entryPassed_abortDone (s : State) (n : Fin 64) (r : Ring) (e : Inflight) (rest : List Inflight) (he : e.last = true) :
    (s.entryPassed n r e rest).flag (F.RNG_STAT_ABORT_DONE n) = true := by
  have hp := unflagged_flag (f := F.RNG_STAT_ABORT_DONE n) n rfl (by simp [F.RNG_STAT_ABORT_DONE]) (by simp [F.RNG_STAT_ABORT_DONE])
  simp only [State.entryPassed, if_pos he]
  rw [hp.refreshRings, apply_ite (fun u : State => u.flag (F.RNG_STAT_ABORT_DONE n)), hp.countIrq _ _ fun _ _ => rfl, ite_self,
    State.flag_setFld_one _ _ (by simp [F.RNG_STAT_ABORT_DONE, Fld.Ok])]

/-- What the write of a completion to ring c leaves. -/
theorem State.writeCompletion_spec (s : State) (n : Fin 64) (e : Inflight) (rest : List Inflight) (st res : Nat) (c : Fin 64) (hc : e.cring = c) :
    (s.writeCompletion n e rest st res).ringHw e.cring = next32 (s.ringHw e.cring) ∧
      ((s.writeCompletion n e rest st res).ring n).inflight = rest ∧
      (e.last → (s.writeCompletion n e rest st res).flag (F.RNG_STAT_ABORT_DONE n)) ∧
      ((s.firstDenied (engine 17) .write (s.slotAddr e.cring (s.ringHw e.cring)) 16).isNone →
        (s.writeCompletion n e rest st res).mem = (s.setBytes (s.slotAddr e.cring (s.ringHw e.cring))
          (completionBytes e.desc st n (s.phase e.cring) res e.stamp)).mem) := by
  have hp := unreported_ringHw c
  rw [s.writeCompletion_eq]
  refine ⟨?_, State.entryPassed_inflight _ _ _ _ _, State.entryPassed_abortDone _ _ _ _ _, fun h => ?_⟩
  · rw [hc, State.entryPassed_ringHw _ _ _ _ _ c hc, hp.unitWrite fun _ _ => rfl]
  · rw [State.entryPassed_mem, State.unitWrite_mem_of_permitted _ _ _ _ (by rwa [length_completionBytes, ← Option.isNone_iff_eq_none])]

/-! ### The command -/

theorem exec_completionWrite (n : Fin 64) (s : State) : exec (.completionWrite n) s = execCompletionWrite n s := by rfl

theorem exec_completionWrite_of_accepts (s : State) (n : Fin 64) (e : Inflight) (rest : List Inflight) (st res : Nat)
    (hl : (s.ring n).inflight = e :: rest) (hres : e.res = some (st, res)) (ha : s.ringAccepts e.cring = true) :
    exec (.completionWrite n) s = .next (s.writeCompletion n e rest st res) := by
  simp only [exec_completionWrite, execCompletionWrite, hl, hres, ha, if_true]

theorem exec_completionWrite_of_held (s : State) (n : Fin 64) (e : Inflight) (rest : List Inflight)
    (hl : (s.ring n).inflight = e :: rest) (h : e.res = none ∨ s.ringAccepts e.cring = false) :
    exec (.completionWrite n) s = .next s := by
  simp only [exec_completionWrite, execCompletionWrite, hl]
  cases hres : e.res with
  | none => rfl
  | some p =>
    have ha := h.resolve_left (by simp [hres])
    simp only [ha, Bool.false_eq_true, if_false]

/-! ### The entries that firmware has not consumed -/

/-- The completions of ring c that firmware has not consumed. -/
def State.unconsumed (s : State) (c : Nat) : Nat := (s.ringHw c + (2 ^ 32 - s.ringDb c)) % 2 ^ 32

theorem State.unconsumed_lt_of_accepts (s : State) (c : Nat) (h : s.ringAccepts c = true) : s.unconsumed c < s.ringSize c := by
  simp only [State.ringAccepts, Bool.and_eq_true, decide_eq_true_eq] at h
  exact h.2

theorem State.ringSize_dvd (s : State) (c : Nat) (h : 0 < s.ringSize c) : s.ringSize c ∣ 2 ^ 32 := by
  have hlt := s.fld_lt (F.RNG_CFG_SIZE c)
  unfold State.ringSize at h ⊢
  split at h
  · omega
  next hne =>
    rw [if_neg hne]
    exact Nat.pow_dvd_pow 2 hlt.le

/-- Entry j past the consumer index, one of those not consumed, is not the one at the producer index of a ring that has room. -/
theorem slot_ne {size hw db j : Nat} (hsize : size ∣ 2 ^ 32) (hdb : db < 2 ^ 32)
    (hroom : (hw + (2 ^ 32 - db)) % 2 ^ 32 < size) (hj : j < (hw + (2 ^ 32 - db)) % 2 ^ 32) : (db + j) % size ≠ hw % size := by
  intro heq
  have hmod : (hw + (2 ^ 32 - db)) % 2 ^ 32 ≡ hw + (2 ^ 32 - db) [MOD size] := (Nat.mod_modEq _ _).of_dvd hsize
  have hpast : j ≡ hw + (2 ^ 32 - db) [MOD size] := by
    have hshift : db + j + (2 ^ 32 - db) ≡ hw + (2 ^ 32 - db) [MOD size] := Nat.ModEq.add_right _ heq
    have hwrap : db + j + (2 ^ 32 - db) = j + 2 ^ 32 := by omega
    have hzero : j + 2 ^ 32 ≡ j + 0 [MOD size] := Nat.ModEq.add_left _ ((Nat.modEq_zero_iff_dvd).mpr hsize)
    exact hzero.symm.trans (hwrap ▸ hshift)
  have hsame := Nat.ModEq.eq_of_lt_of_lt (hpast.trans hmod.symm) (by omega) hroom
  omega

theorem State.slotAddr_disjoint (s : State) (c i j : Nat) (h : i % s.ringSize c ≠ j % s.ringSize c) :
    s.slotAddr c i + 16 ≤ s.slotAddr c j ∨ s.slotAddr c j + 16 ≤ s.slotAddr c i := by
  unfold State.slotAddr
  omega

/-- The write of a completion leaves every entry of its ring that firmware has not consumed. -/
theorem State.writeCompletion_unconsumed (s : State) (n : Nat) (e : Inflight) (rest : List Inflight) (st res j : Nat)
    (ha : s.ringAccepts e.cring = true) (hj : j < s.unconsumed e.cring) :
    (s.writeCompletion n e rest st res).bytes (s.slotAddr e.cring (s.ringDb e.cring + j)) 16 =
      s.bytes (s.slotAddr e.cring (s.ringDb e.cring + j)) 16 := by
  have hroom := s.unconsumed_lt_of_accepts _ ha
  have hne := slot_ne (s.ringSize_dvd e.cring (by omega)) (s.ringDb_lt _) hroom hj
  rw [s.writeCompletion_eq, State.bytes_congr (State.entryPassed_mem _ _ _ _ _), State.unitWrite_bytes_disjoint]
  rw [length_completionBytes]
  exact s.slotAddr_disjoint _ _ _ hne

/-- Settles O6: a completion is written at the producer index of a ring that has room, or held. -/
theorem completionNeverOverwritten : Obligations.CompletionNeverOverwritten := by
  intro s n e hhead
  obtain ⟨rest, hl⟩ := List.head?_eq_some_iff.mp hhead
  refine ⟨?_, fun hfull => exec_completionWrite_of_held s n e rest hl (.inr ?_)⟩
  · cases hres : e.res with
    | none => exact ⟨s, exec_completionWrite_of_held s n e rest hl (.inl hres), fun _ _ => rfl⟩
    | some p =>
      cases ha : s.ringAccepts e.cring with
      | false => exact ⟨s, exec_completionWrite_of_held s n e rest hl (.inr ha), fun _ _ => rfl⟩
      | true =>
        exact ⟨_, exec_completionWrite_of_accepts s n e rest p.1 p.2 hl hres ha, fun j hj =>
          s.writeCompletion_unconsumed n e rest p.1 p.2 j ha (lt_min_iff.mp hj).1⟩
  · by_contra ha
    exact (s.unconsumed_lt_of_accepts _ (eq_true_of_ne_false ha)).ne hfull

end Sys2Proof.Machine
end

section
/-! The ring commands complete: configuration, stop, NOP, completion, coalescing, a denied fetch and the table doorbell. -/

namespace Sys2Proof.Machine

/-! ### Configuration -/

theorem State.locked_RNG_CFG (s : State) (n : Fin 64) : s.locked (R.RNG_CFG n) = s.flag F.RNG_LOCK_LOCK := by
  have hlock : ∀ n : Fin 64, lockOf (R.RNG_CFG n) = some F.RNG_LOCK_LOCK := by decide +kernel
  rw [State.locked, hlock]

/-- QUEUE and CRING of RNG_CFGn take the bits written while the unit is not locked (R59). -/
theorem State.cfgWritten_queue (s : State) (n : Fin 64) (v : Word) (h : s.flag F.RNG_LOCK_LOCK = false) :
    (F.RNG_CFG_QUEUE n).get (s.cfgWritten n v) = (F.RNG_CFG_QUEUE n).get v := by
  have hmem : ∀ n : Fin 64, (⟨15, 8, .rwl, 0, .rtx, .rtx⟩ : FieldRow) ∈ fieldsAt (R.RNG_CFG n) := by decide +kernel
  rw [State.cfgWritten, s.locked_RNG_CFG, h]
  exact Fld.get_writtenWord (R.RNG_CFG n) _ _ (hmem n) false _ v

theorem State.cfgWritten_cring (s : State) (n : Fin 64) (v : Word) (h : s.flag F.RNG_LOCK_LOCK = false) :
    (F.RNG_CFG_CRING n).get (s.cfgWritten n v) = (F.RNG_CFG_CRING n).get v := by
  have hmem : ∀ n : Fin 64, (⟨29, 24, .rwl, 0, .rtx, .rtx⟩ : FieldRow) ∈ fieldsAt (R.RNG_CFG n) := by decide +kernel
  rw [State.cfgWritten, s.locked_RNG_CFG, h]
  exact Fld.get_writtenWord (R.RNG_CFG n) _ _ (hmem n) false _ v

/-- While the unit is not locked, a write that the ring may have is taken whole. -/
theorem State.bindable_of_unlocked (s : State) (n : Fin 64) (v : Word) (hlock : s.flag F.RNG_LOCK_LOCK = false)
    (hlo : 4 ≤ (F.RNG_CFG_SIZE n).get v) (hhi : (F.RNG_CFG_SIZE n).get v ≤ 16) (hvalid : validQueue ((F.RNG_CFG_QUEUE n).get v))
    (hpresent : s.part.absentQueue ((F.RNG_CFG_QUEUE n).get v) = none)
    (hwork : (F.RNG_CFG_QUEUE n).get v ≠ 0 → s.queueTaken n ((F.RNG_CFG_QUEUE n).get v) = false ∧ (F.RNG_CFG_CRING n).get v ≠ n.val ∧
      s.fld (F.RNG_CFG_QUEUE ((F.RNG_CFG_CRING n).get v)) = 0) : (s.cfgTaken n v).Bindable n := by
  have hq := s.cfgWritten_queue n v hlock
  have hc := s.cfgWritten_cring n v hlock
  exact s.bindable_cfgTaken n v hlo hhi (by rwa [hq]) (by rwa [hq]) (by rwa [hq, hc])

theorem exec_ringStop_of_takesWrite (s : State) (acc : Acc) (n : Fin 64) (v : Word) (h : s.takesWrite acc (R.RNG_CFG n)) :
    exec (.ringStop acc n v) s = .next (s.writeRngCfg n ((F.RNG_CFG_SIZE n).put v 0)) := by
  have hexec : exec (.ringStop acc n v) s = execRingStop acc n v s := by rfl
  rw [hexec, execRingStop, State.guardWrite_of_takesWrite s acc _ _ h]

/-! ### Doorbells -/

theorem State.rungWork_last_master (s : State) (acc : Acc) (n v : Nat) : ((s.rungWork acc n v).ring n).masters.getLast? = some (v, acc) := by
  rw [State.rungWork_ring, List.getLast?_append, List.getLast?_singleton, Option.some_or]

theorem State.reg_RNG_DB_of_ringDb {s : State} {n : Nat} {v : Word} (h : s.ringDb n = v.toNat) : s.reg (R.RNG_DB n) = v := by
  rw [State.reg_RNG_DB, h, BitVec.ofNat_toNat, BitVec.setWidth_eq]

/-! ### Starting and completing a descriptor -/

section
variable (s : State) (n : Nat) (d : Desc)

theorem State.startDesc_ring : (s.startDesc n d).ring n = { s.ring n with inflight :=
    (s.ring n).inflight ++ [⟨d, none, 0, (s.ring n).cring, (s.ring n).queue, false⟩] } := by
  rw [State.startDesc, State.ring_setRing_same]

theorem State.startDesc_mem : (s.startDesc n d).mem = s.mem := by
  rw [State.startDesc, State.setRing_mem, State.setFld_mem, unrecorded_mem.noteAbsent]

theorem State.startDesc_now : (s.startDesc n d).now = s.now := by
  rw [State.startDesc, State.setRing_now, State.setFld_now, unrecorded_now.noteAbsent]

theorem State.startDesc_ringHw (n : Fin 64) : (s.startDesc n d).ringHw n = next32 (s.ringHw n) := by
  rw [State.startDesc, State.ringHw_setRing, State.ringHw_setFld_same _ _ _ (next32_lt _), (unreported_ringHw n).noteAbsent]

/-- The descriptor just started, completed, is the last in flight. -/
theorem State.complete_startDesc_last (status result : Nat) :
    (((s.startDesc n d).complete n d.didx status result).ring n).inflight.getLast? =
      some ⟨d, some (status, result), s.short, (s.ring n).cring, (s.ring n).queue, false⟩ := by
  rw [State.complete, State.ring_setRing_same, State.startDesc_ring]
  simp [State.short, State.startDesc_now]

end

theorem exec_nop_of_nextDesc (s : State) (n : Fin 64) (d : Desc) (hd : s.nextDesc n = some d) (hop : d.op = 0) :
    exec (.nop n) s = .next ((s.startDesc n d).complete n d.didx stOK 0) := by
  have hexec : exec (.nop n) s = execNop n s := by rfl
  simp only [hexec, execNop, hd, hop, if_true]

/-! ### A denied fetch -/

/-- The ring after a denied fetch: FETCH_ERR set, the index of the module at that of firmware, the ring off. -/
def State.fetchStopped (s : State) (n b : Nat) : State :=
  let u := s.fetchFailed n (some b)
  (u.setFld (F.RNG_HW_IDX n) (u.ringDb n)).ringOff n

theorem exec_descriptorFetchDenied_of_denied (s : State) (n : Fin 64) (b : Nat) (hr : s.ringReady n = true) (hb : s.fetchDenied n = some b) :
    ∃ r, exec (.descriptorFetchDenied n) s = .next (((s.fetchStopped n b).setRing n r).refreshRings n) := by
  have hexec : exec (.descriptorFetchDenied n) s = execDescriptorFetchDenied n s := by rfl
  rw [hexec, execDescriptorFetchDenied, if_pos hr, hb, State.fetchStopped, State.fetchFailed, State.ringOff]
  exact ⟨_, rfl⟩

theorem State.fetchStopped_size (s : State) (n b : Nat) : (s.fetchStopped n b).fld (F.RNG_CFG_SIZE n) = 0 := State.ringOff_size _ n

theorem State.fetchStopped_mem (s : State) (n b : Nat) : (s.fetchStopped n b).mem = s.mem := by
  rw [State.fetchStopped, State.ringOff_mem, State.setFld_mem, (unstopped_mem n).fetchFailed]

/-- The module's index is at the firmware's. -/
theorem State.fetchStopped_ringHw (s : State) (n : Fin 64) (b : Nat) : (s.fetchStopped n b).ringHw n = s.ringDb n := by
  have hp := unreported_ringDb n
  have hdb : (s.fetchFailed n (some b)).ringDb n = s.ringDb n := by
    rw [State.fetchFailed, hp.ringFlag _ _ _ _ fun u v => hp.status u _ n v rfl, hp.deny]
  rw [State.fetchStopped, State.ringOff_ringHw, State.ringHw_setFld_same _ _ _ (State.ringDb_lt _ _), hdb]

theorem State.fetchStopped_fetchErr (s : State) (n : Fin 64) (b : Nat) : (s.fetchStopped n b).flag (F.RNG_STAT_FETCH_ERR n) = true := by
  have hok : (F.RNG_STAT_FETCH_ERR n).Ok := by simp [F.RNG_STAT_FETCH_ERR, Fld.Ok]
  have hcfg : (F.RNG_STAT_FETCH_ERR n).addr ≠ R.RNG_CFG n := RNG_STAT_ne_RNG_CFG n n
  have hhw : (F.RNG_STAT_FETCH_ERR n).addr ≠ R.RNG_HW n := by simp only [F.RNG_STAT_FETCH_ERR, R.RNG_STAT, R.RNG_HW]; omega
  rw [State.fetchStopped, State.ringOff, State.flag_congr (State.fld_setFld_other _ _ _ ?_ ?_ ?_ 0),
    State.flag_congr (State.fld_setFld_ne _ _ _ hcfg 0), State.flag_congr (State.fld_setFld_ne _ _ _ hhw _), State.fetchFailed,
    State.flag_ringFlag _ _ n hok rfl]
  · simp [F.RNG_STAT_ACTIVE, Fld.Ok]
  · simp [F.RNG_STAT_FETCH_ERR]
  · simp [F.RNG_STAT_ACTIVE, F.RNG_STAT_FETCH_ERR]

theorem State.descriptorFetchDenied_spec (s : State) (n : Fin 64) (b : Nat) (hr : s.ringReady n = true) (hb : s.fetchDenied n = some b) :
    Gives (exec (.descriptorFetchDenied n) s) (fun t =>
      t.fld (F.RNG_CFG_SIZE n) = 0 ∧ t.flag (F.RNG_STAT_FETCH_ERR n) ∧ t.ringHw n = s.ringDb n ∧ t.mem = s.mem) := by
  obtain ⟨r, hexec⟩ := exec_descriptorFetchDenied_of_denied s n b hr hb
  have herr := unflagged_flag (f := F.RNG_STAT_FETCH_ERR n) n rfl (by simp [F.RNG_STAT_FETCH_ERR]) (by simp [F.RNG_STAT_FETCH_ERR])
  refine ⟨_, hexec, ?_, ?_, ?_, ?_⟩
  · rw [(unreported_fld_CFG n rfl).unflagged.refreshRings, State.fld_setRing, s.fetchStopped_size]
  · rw [herr.refreshRings, State.flag_setRing, s.fetchStopped_fetchErr]
  · rw [(unreported_ringHw n).unflagged.refreshRings, State.ringHw_setRing, s.fetchStopped_ringHw]
  · rw [State.refreshRings_mem, State.setRing_mem, s.fetchStopped_mem]

/-! ### Coalescing -/

theorem exec_coalesceTimeout_of_elapsed (s : State) (n : Fin 64) (t0 : Nat) (ht : (s.ring n).irqSince = some t0)
    (hon : s.fld (F.RNG_COAL_TIME n) ≠ 0) (hnow : t0 + 1000 * s.fld (F.RNG_COAL_TIME n) ≤ s.now) :
    exec (.coalesceTimeout n) s = .next ((s.setRing n { s.ring n with irqCount := 0, irqSince := none }).pend n) := by
  have hexec : exec (.coalesceTimeout n) s = execCoalesceTimeout n s := by rfl
  have hdue : s.fld (F.RNG_COAL_TIME n) ≠ 0 ∧ s.elapsed t0 (1000 * s.fld (F.RNG_COAL_TIME n)) = true := ⟨hon, by
    simp only [State.elapsed, decide_eq_true_eq]; omega⟩
  simp only [hexec, execCoalesceTimeout, ht, if_pos hdue]

/-! ### The table doorbell -/

theorem State.refreshTables_keeps {α : Type} {p : State → α} (hp : ∀ (s : State) (f : Fld) (v : Nat), p (s.setFld f v) = p s) (s : State) :
    p s.refreshTables = p s := by
  unfold State.refreshTables
  exact List.foldlRecOn (motive := fun u => p u = p s) _ _ rfl fun u hu t _ => (hp u _ _).trans hu

/-- A doorbell of a whole range of a table, with a place among the waiting ones, queues it (R46). -/
theorem State.takeTdb_queued (s : State) (v : Word) (htable : F.RNG_TDB_TABLE.get v ≠ 7) (hcount : F.RNG_TDB_COUNT.get v ≠ 0)
    (hplace : (s.tableJobs.tail.filter (fun j => !j.full)).length < 16)
    (hrange : F.RNG_TDB_FIRST.get v + F.RNG_TDB_COUNT.get v ≤ (tableSize (F.RNG_TDB_TABLE.get v)).1) :
    s.takeTdb v = ({ s with tableJobs := s.tableJobs ++
      [⟨F.RNG_TDB_TABLE.get v, F.RNG_TDB_FIRST.get v, F.RNG_TDB_COUNT.get v, false⟩] } : State).refreshTables := by
  have hmin : min (F.RNG_TDB_COUNT.get v) ((tableSize (F.RNG_TDB_TABLE.get v)).1 - F.RNG_TDB_FIRST.get v) = F.RNG_TDB_COUNT.get v := by omega
  have hnone : ¬ (F.RNG_TDB_COUNT.get v = 0 ∨ F.RNG_TDB_TABLE.get v = 7) := not_or.mpr ⟨hcount, htable⟩
  simp only [State.takeTdb, if_neg hnone, if_neg (Nat.not_le.mpr hplace), if_neg (Nat.not_lt.mpr hrange), hmin, if_neg hcount]

theorem State.writeTdb_own (s : State) (v : Word) (h : s.mirrorOnly = false) : s.writeTdb v = s.takeTdb v := by
  rw [State.writeTdb, State.ifOwn, h, if_neg Bool.false_ne_true, ite_self]

theorem exec_tableDoorbell_of_takesWrite (s : State) (acc : Acc) (v : Word) (h : s.takesWrite acc R.RNG_TDB) :
    exec (.tableDoorbell acc v) s = .next (s.writeTdb v) := by
  have hexec : exec (.tableDoorbell acc v) s = execTableDoorbell acc v s := by rfl
  rw [hexec, execTableDoorbell, State.guardWrite_of_takesWrite s acc _ _ h]

/-- The state after the entry in front is read, accepted or kept, before its job gives it up. -/
def State.frontReloaded (s : State) (j : TableJob) : State :=
  let s := s.reloadEntry j.table j.first
  let s := if j.full && j.table = 0 && s.pwr.imm then s.safeRecord j.first else s
  if j.full && j.table = 0 && decide (j.count ≤ 1) then { s with pwr := { s.pwr with imm := false } } else s

/-- The jobs after the one in front gives up an entry: a job that is through leaves. -/
def jobsAfter (j : TableJob) (rest : List TableJob) : List TableJob :=
  if j.count ≤ 1 then rest else { j with first := j.first + 1, count := j.count - 1 } :: rest

theorem exec_entryReload_of_cons (s : State) (j : TableJob) (rest : List TableJob) (h : s.tableJobs = j :: rest) :
    exec .entryReload s = .next ({ s.frontReloaded j with tableJobs := jobsAfter j rest } : State).refreshTables := by
  have hexec : exec .entryReload s = execEntryReload s := by rfl
  have hjobs : (if decide (j.count ≤ 1) = true then rest else { j with first := j.first + 1, count := j.count - 1 } :: rest) =
      jobsAfter j rest := by
    simp only [jobsAfter, decide_eq_true_eq]
  rw [hexec, execEntryReload, h, ← hjobs, State.frontReloaded]

/-- Settles O4, command by command. -/
theorem ringCommandsComplete : Obligations.RingCommandsComplete := by
  refine ⟨fun s acc n v htakes hlock hidle hlo hhi hvalid hpresent hwork => ⟨_, exec_ringConfigure_of_takesWrite s acc n v htakes, ?_⟩,
    fun s acc n v htakes => ⟨_, exec_ringStop_of_takesWrite s acc n v htakes, ?_⟩,
    fun s acc n v htakes hq hd hsize => ⟨_, exec_ringDoorbell_of_takesWrite s acc n v htakes, ?_⟩,
    fun s acc n v htakes hq hd hhw => ⟨_, exec_completionDoorbell_of_takesWrite s acc n v htakes, ?_⟩,
    fun s n d hd hop => ⟨_, exec_nop_of_nextDesc s n d hd hop, ?_⟩,
    fun s n e rest st res hl hres hc ha hne => ⟨_, exec_completionWrite_of_accepts s n e rest st res hl hres ha, ?_⟩,
    fun s n t0 ht hon hnow => ⟨_, exec_coalesceTimeout_of_elapsed s n t0 ht hon hnow, ?_⟩,
    fun s n b hr hb => ?_,
    fun s acc v htakes hown htable hcount hplace hrange => ⟨_, exec_tableDoorbell_of_takesWrite s acc v htakes, ?_⟩,
    fun s j rest hl => ⟨_, exec_entryReload_of_cons s j rest hl, ?_⟩⟩
  · rw [s.writeRngCfg_bound n v hidle (s.bindable_of_unlocked n v hlock hlo hhi hvalid hpresent hwork)]
    refine ⟨?_, ?_, ?_, State.boundRing_active _ n, ?_⟩
    · rw [State.boundRing_fld_CFG _ n rfl, s.cfgTaken_size]
    · rw [State.boundRing_fld_CFG _ n rfl, s.cfgTaken_fld_CFG n v rfl, s.cfgWritten_queue n v hlock]
    · rw [State.boundRing_fld_CFG _ n rfl, s.cfgTaken_fld_CFG n v rfl, s.cfgWritten_cring n v hlock]
    · rw [State.boundRing_mem, State.cfgTaken, State.setReg_mem]
  · have hzero := RNG_CFG_SIZE_get_put_zero n v
    exact ⟨s.writeRngCfg_stop_size n _ hzero, s.writeRngCfg_stop_active n _ hzero, s.writeRngCfg_stop_mem n _ hzero⟩
  · rw [s.writeRngDb_work acc n _ hq hd hsize]
    exact ⟨State.reg_RNG_DB_of_ringDb (s.rungWork_ringDb acc n v), fun a ha => s.rungWork_reg_ne acc n _ a ha,
      s.rungWork_last_master acc n _, s.rungWork_mem acc n _⟩
  · obtain ⟨hdb, hreg, -, hmem⟩ := s.writeRngDb_completion_spec acc n v hq hd hhw
    exact ⟨State.reg_RNG_DB_of_ringDb hdb, hreg, hmem⟩
  · refine ⟨?_, ?_, _, s.complete_startDesc_last n d stOK 0, rfl, rfl, rfl⟩
    · rw [State.complete, State.ringHw_setRing, State.startDesc_ringHw]
    · rw [State.complete, State.setRing_mem, State.startDesc_mem]
  · exact s.writeCompletion_spec n e rest st res ⟨e.cring, hc⟩ rfl
  · refine ⟨State.isPending_pend _ _, ?_, ?_⟩
    · rw [State.ring_pend, State.ring_setRing_same]
    · rw [State.pend_mem, State.setRing_mem]
  · exact s.descriptorFetchDenied_spec n b hr hb
  · rw [s.writeTdb_own v hown, s.takeTdb_queued v htable hcount hplace hrange]
    exact ⟨State.refreshTables_keeps (fun u f v => u.setFld_mem f v) _, State.refreshTables_keeps (fun u f v => u.setFld_tableJobs f v) _⟩
  · exact State.refreshTables_keeps (fun u f v => u.setFld_tableJobs f v) _

end Sys2Proof.Machine
end

section
/-! Stride: the readings of the state that the records of crossings and the motion of an axis do not enter. -/

namespace Sys2Proof.Machine

theorem State.foldl_keeps {α β : Type} {p : State → α} {f : State → β → State} (hf : ∀ u x, p (f u x) = p u) (l : List β) (s : State) :
    p (l.foldl f s) = p s :=
  List.foldlRecOn (motive := fun u => p u = p s) _ _ rfl fun u hu x _ => (hf u x).trans hu

/-! ### Readings that the records of crossings do not enter -/

/-- A reading of the state that what waits for a position does not enter: armed triggers, accepted commits, loops (R86, R134, R182). -/
structure Uncrossed {α : Type} (p : State → α) : Prop where
  setTrg : ∀ (s : State) (n : Nat) (x : Option Cross), p (s.setTrg n x) = p s
  setLoop : ∀ (s : State) (n : Nat) (x : BLoop), p (s.setLoop n x) = p s
  withCommits : ∀ (s : State) (c : List Commit), p { s with slt := { s.slt with commits := c } } = p s

theorem uncrossed_regs : Uncrossed State.regs := ⟨fun _ _ _ => rfl, fun _ _ _ => rfl, fun _ _ => rfl⟩

theorem uncrossed_mem : Uncrossed State.mem := ⟨fun _ _ _ => rfl, fun _ _ _ => rfl, fun _ _ => rfl⟩

theorem uncrossed_now : Uncrossed State.now := ⟨fun _ _ _ => rfl, fun _ _ _ => rfl, fun _ _ => rfl⟩

theorem uncrossed_tickAt : Uncrossed (fun s => s.str.tickAt) := ⟨fun _ _ _ => rfl, fun _ _ _ => rfl, fun _ _ => rfl⟩

theorem uncrossed_axis (a : Nat) : Uncrossed (fun s => s.axis a) := ⟨fun _ _ _ => rfl, fun _ _ _ => rfl, fun _ _ => rfl⟩

theorem uncrossed_fld (f : Fld) : Uncrossed (fun s => s.fld f) := ⟨fun _ _ _ => rfl, fun _ _ _ => rfl, fun _ _ => rfl⟩

theorem uncrossed_axPos (a t : Nat) : Uncrossed (fun s => s.axPos a t) := ⟨fun _ _ _ => rfl, fun _ _ _ => rfl, fun _ _ => rfl⟩

section Uncrossed
variable {α : Type} {p : State → α} (hp : Uncrossed p)
include hp

theorem Uncrossed.noteCross (s : State) (hi : Nat) : p (s.noteCross hi) = p s := by
  unfold State.noteCross
  rw [hp.withCommits, State.foldl_keeps (p := p), State.foldl_keeps (p := p)]
  · exact fun u n => hp.setLoop u n _
  · intro u n
    split
    · exact hp.setTrg u n _
    · rfl

theorem Uncrossed.crossWait (s : State) (a : Nat) : p (s.crossWait a) = p s := by
  unfold State.crossWait
  split
  · rfl
  · rw [hp.withCommits, State.foldl_keeps (p := p)]
    intro u n
    split
    · rw [apply_ite p, hp.setTrg, ite_self]
    · rfl

theorem Uncrossed.crossTick (s : State) (t : Nat) : p (s.crossTick t) = p s := by
  unfold State.crossTick
  rw [hp.withCommits, State.foldl_keeps (p := p), State.foldl_keeps fun u a => hp.crossWait u a]
  intro u n
  split
  · rw [apply_ite p, State.judgeTrg, hp.setTrg, ite_self]
  · rfl

theorem Uncrossed.loopTick (s : State) (n t : Nat) : p (s.loopTick n t) = p s := by
  simp only [State.loopTick]
  rw [apply_ite p, hp.setLoop, ite_self]

theorem Uncrossed.loopShift (s : State) (a : Nat) (d : Int) : p (s.loopShift a d) = p s := by
  refine State.foldl_keeps (fun u n => ?_) _ s
  rw [apply_ite p, hp.setLoop, ite_self]

end Uncrossed

end Sys2Proof.Machine
end

section
/-! Events of axes, outputs and sensors: the registers that each may change (R81-R84, R237, R244, R253, R257, R273, R276, R281, R490). -/

namespace Sys2Proof.Machine

/-! ### Axes -/

section
variable {l : List Nat} {s t : State}

theorem Within.axFlag (h : Within l s t) {f : Nat → Fld} {a : Fin 8} (hf : (f a).addr ∈ l) (hp : R.RNG_INT_PEND 5 ∈ l) :
    Within l s (t.axFlag f a) := by
  have hirq : (171 + a.val) / 32 = 5 := by omega
  exact h.raiseFlag hf (by rwa [hirq])

theorem Within.axShowOk (h : Within l s t) {a : Nat} (ha : R.STR_AXSTAT a ∈ l) : Within l s (t.axShowOk a) := h.setFld ha

/-- A change of an axis beside its registers. -/
theorem Within.setAxis (h : Within l s t) {a : Nat} {x : Axis} : Within l s (t.setAxis a x) := h.beside

theorem Within.noteCross (h : Within l s t) {hi : Nat} : Within l s (t.noteCross hi) := h.beside (uncrossed_regs.noteCross t hi)

theorem Within.crossWait (h : Within l s t) {a : Nat} : Within l s (t.crossWait a) := h.beside (uncrossed_regs.crossWait t a)

theorem Within.slotFail (h : Within l s t) {a : Fin 8} {i : Nat} (ha : R.STR_AXSTAT a ∈ l) (hp : R.RNG_INT_PEND 5 ∈ l) :
    Within l s (t.slotFail a i) := by
  have hshow := (h.setAxis (a := a) (x := (t.axis a).setSlot i { (t.axis a).slot i with ok := false, goodAt := none, badAt := t.now })).axShowOk ha
  exact .ite (hshow.axFlag ha hp) hshow

theorem Within.axSwitchTo (h : Within l s t) {a : Fin 8} {j : Nat} (ha : R.STR_AXSTAT a ∈ l) (hp : R.RNG_INT_PEND 5 ∈ l)
    (he : eventRegs ⊆ l) : Within l s (t.axSwitchTo a j) :=
  .event (.axFlag (.setFld h ha) ha hp) he

theorem Within.axLose (h : Within l s t) {a : Fin 8} {at_ : Nat} (ha : R.STR_AXSTAT a ∈ l) (hp : R.RNG_INT_PEND 5 ∈ l)
    (he : eventRegs ⊆ l) : Within l s (t.axLose a at_) :=
  .event (.axFlag (.setFld (.ite h.setAxis (h.setAxis.axSwitchTo ha hp he)) ha) ha hp) he

theorem Within.axStill (h : Within l s t) {a at_ : Nat} (ha : R.STR_AXSTAT a ∈ l) : Within l s (t.axStill a at_) :=
  .ite (.setFld (.setFld h.setAxis ha) ha) (.setFld h.setAxis ha)

end

theorem execSourceRestore_within {s t : State} {a : Fin 8} {j : Fin 3} (h : execSourceRestore a j s = .next t) :
    Within [R.STR_AXSTAT a] s t := by
  simp only [execSourceRestore] at h
  obtain h | h := next_of_ite h <;> cases h
  · exact (Within.setAxis (.refl _ s)).axShowOk (by simp)
  · exact .refl _ s

theorem execSourceTimeout_within {s t : State} {a : Fin 8} {j : Fin 3} (h : execSourceTimeout a j s = .next t) :
    Within [R.STR_AXSTAT a, R.RNG_INT_PEND 5] s t := by
  obtain h | h := next_of_ite h <;> cases h
  · exact (Within.refl _ s).slotFail (by simp) (by simp)
  · exact .refl _ s

theorem execStandstillEntry_within {s t : State} {a : Fin 8} (h : execStandstillEntry a s = .next t) :
    Within [R.STR_AXSTAT a] s t := by
  obtain h | h := next_of_ite h <;> cases h
  · exact (Within.refl _ s).axStill (by simp)
  · exact .refl _ s

theorem execAxisXchk_within {s t : State} {a : Fin 8} (h : execAxisXchk a s = .next t) :
    Within ([R.STR_AXSTAT a, R.RNG_INT_PEND 5] ++ eventRegs) s t := by
  simp only [execAxisXchk] at h
  split at h
  · obtain h | h := next_of_ite h <;> cases h
    · refine .event (.slotFail (.axFlag (Within.refl _ s).setAxis ?_ ?_) ?_ ?_) ?_
      · simp [F.STR_AXSTAT_XCHK_FAIL]
      · simp
      · simp
      · simp
      · simp
    · exact .refl _ s
  · cases h
    exact .refl _ s

theorem execAxisLost_within {s t : State} {a : Fin 8} (h : execAxisLost a s = .next t) :
    Within ([R.STR_AXSTAT a, R.RNG_INT_PEND 5] ++ eventRegs) s t := by
  simp only [execAxisLost] at h
  obtain h | h := next_of_ite h <;> cases h
  · exact ((Within.refl _ s).noteCross.axLose (by simp) (by simp) (by simp)).crossWait
  · exact .refl _ s

/-! ### Digital points -/

section
variable {l : List Nat} {s t : State}

theorem Within.setBitAt (h : Within l s t) {b j : Nat} {on : Bool} (hb : b ∈ l) : Within l s (t.setBitAt b j on) := h.setFld hb

/-- A change of a digital point beside its registers. -/
theorem Within.setDpt (h : Within l s t) {n : Nat} {x : DPt} : Within l s (t.setDpt n x) := h.beside

theorem Within.dioFlag (h : Within l s t) {ch : Nat → Nat → Fld} {unit : Nat → Fld} {n : Nat} (hc : (ch (n / 32) (n % 32)).addr ∈ l)
    (hu : (unit (n / 32)).addr ∈ l) (hp : R.RNG_INT_PEND ((191 + n / 32) / 32) ∈ l) : Within l s (t.dioFlag ch unit n) :=
  h.raiseBoth hc hu hp

end

theorem execDebouncedEdge_within {s t : State} {n : Fin 64} {level : Bool} {us : BitVec 32} (h : execDebouncedEdge n level us s = .next t) :
    Within [R.DIO_INLVL (n / 32), R.DIO_INTS (n / 32) (n % 32), R.DIO_PTSTAT (n / 32) (n % 32), R.DIO_RAWLVL (n / 32),
      R.DIO_STAT (n / 32), R.RNG_INT_PEND ((191 + n / 32) / 32)] s t := by
  simp only [execDebouncedEdge] at h
  obtain h | h := next_of_ite h
  · obtain h | h := next_of_ite h <;> cases h
    · refine .ite (.dioFlag ?taken ?_ ?_ ?_) ?taken
      · exact .setDpt (.setFld (.setBitAt (.setBitAt (.refl _ s) (by simp)) (by simp)) (by simp [F.DIO_INTS_TIME]))
      · simp [F.DIO_PTSTAT_EDGE]
      · simp [F.DIO_STAT_EDGE]
      · simp
    · exact .setBitAt (.refl _ s) (by simp)
  · cases h
    exact .refl _ s

theorem execDioDiagFlag_within {s t : State} {n : Fin 64} {extv : Bool} {ms : BitVec 16} (h : execDioDiagFlag n extv ms s = .next t) :
    Within [R.DIO_PTSTAT (n / 32) (n % 32), R.DIO_STAT (n / 32), R.RNG_INT_PEND ((191 + n / 32) / 32)] s t := by
  rw [execDioDiagFlag] at h
  obtain h | h := next_of_ite h
  · obtain h | h := next_of_ite h <;> cases h
    · exact .ite (.refl _ s) (.dioFlag (.refl _ s) (by simp [F.DIO_PTSTAT_EXTV]) (by simp [F.DIO_STAT_EXTV]) (by simp))
    · exact .ite (.dioFlag (.refl _ s) (by simp [F.DIO_PTSTAT_OPEN]) (by simp [F.DIO_STAT_OPEN]) (by simp)) (.refl _ s)
  · cases h
    exact .refl _ s

/-! ### Load switches -/

theorem execLswOpenLoad_within {s t : State} {n : Fin 96} {ms : BitVec 16} (h : execLswOpenLoad n ms s = .next t) :
    Within [R.LSW_CHDUTY (n / 48) (n % 48), R.LSW_CHSTAT (n / 48) (n % 48), R.LSW_STAT (n / 48), R.RNG_INT_PEND 5] s t := by
  have hirq : (189 + n.val / 48) / 32 = 5 := by omega
  simp only [execLswOpenLoad] at h
  obtain h | h := next_of_ite h <;> cases h
  · exact .raiseBoth (.refl _ s) (by simp [lswF, F.LSW_CHSTAT_OPEN]) (by simp [F.LSW_STAT_OPEN]) (by simp [hirq])
  · exact .refl _ s

theorem execRetryCountClear_within {s t : State} {n : Fin 96} (h : execRetryCountClear n s = .next t) :
    Within [R.LSW_CHSTAT (n / 48) (n % 48)] s t := by
  simp only [execRetryCountClear] at h
  obtain h | h := next_of_ite h <;> cases h
  · exact .setFld (.refl _ s) (by simp [lswF, F.LSW_CHSTAT_RETRIES])
  · exact .refl _ s

/-! ### Analogue and pulse inputs, the inertial unit -/

theorem execComparatorClear_within {s t : State} {x : Fin 48 × BitVec 40 × BitVec 40 × BitVec 24}
    (h : execComparatorClear x s = .next t) : Within [R.AFE_CHSTAT x.1] s t := by
  obtain ⟨i, p, n, vexc⟩ := x
  obtain h | h := next_of_ite h <;> cases h
  · exact .beside (.setFld (f := F.AFE_CHSTAT_TRIP i) (v := 0) (.refl _ s) (by simp [F.AFE_CHSTAT_TRIP]))
  · exact .refl _ s

theorem execAfeOpen_within {s t : State} {x : Fin 48 × BitVec 40 × BitVec 40 × BitVec 24} (h : execAfeOpen x s = .next t) :
    Within ([R.AFE_CHSTAT x.1, R.AFE_STAT] ++ eventRegs) s t := by
  obtain ⟨i, p, n, vexc⟩ := x
  have htrip : Within ([R.AFE_CHSTAT i, R.AFE_STAT] ++ eventRegs) s (s.setFld (F.AFE_CHSTAT_TRIP i) 1) :=
    .setFld (.refl _ s) (by simp [F.AFE_CHSTAT_TRIP])
  obtain h | h := next_of_ite h <;> cases h
  · refine .event (.raiseBoth (htrip.beside (State.setAin_regs _ _ _)) ?_ ?_ ?_) ?_
    · simp [F.AFE_CHSTAT_OPEN]
    · simp [F.AFE_STAT_OPEN]
    · simp [eventRegs]
    · simp
  · exact .refl _ s

/-- A change of a pulse input beside its registers. -/
theorem Within.setPin {l : List Nat} {s t : State} (h : Within l s t) {n : Nat} {x : Pin} : Within l s (t.setPin n x) := h.beside

theorem Within.pinOpenClear {l : List Nat} {s t : State} (h : Within l s t) {n : Nat} (hn : R.PLS_CHSTAT n ∈ l) :
    Within l s (t.pinOpenClear n) := h.setFld hn

theorem execPlsOpenClear_within {s t : State} {n : Fin 24} {ms : BitVec 16} (h : execPlsOpenClear n ms s = .next t) :
    Within [R.PLS_CHSTAT n] s t := by
  obtain h | h := next_of_ite h <;> cases h
  · exact (Within.refl _ s).pinOpenClear (by simp)
  · exact .refl _ s

theorem execPlsImpact_within {s t : State} {n : Fin 24} {peak : BitVec 10} {ts : Word} (h : execPlsImpact n peak ts s = .next t) :
    Within [R.PLS_AUX n, R.PLS_CHSTAT n, R.PLS_CNT n, R.PLS_TS n] s t := by
  rw [execPlsImpact] at h
  extract_lets peaked stamped _ dead cleared _ at h
  have hdead : Within [R.PLS_AUX n, R.PLS_CHSTAT n, R.PLS_CNT n, R.PLS_TS n] s dead :=
    .setPin (.setFld (.setFld (.refl _ s) (by simp [F.PLS_CHSTAT_PEAK])) (by simp [F.PLS_TS_TIME]))
  have hcleared : Within [R.PLS_AUX n, R.PLS_CHSTAT n, R.PLS_CNT n, R.PLS_TS n] s cleared := .ite (hdead.pinOpenClear (by simp)) hdead
  clear_value cleared
  obtain h | h := next_of_ite h
  · obtain h | h := next_of_ite h <;> cases h
    · exact .setPin (.setFld hcleared (by simp [F.PLS_CNT_COUNT]))
    · exact .setFld hcleared (by simp [F.PLS_AUX_COUNT])
  · cases h
    exact .refl _ s

theorem execPlsOpen_within {s t : State} {n : Fin 24} {ms : BitVec 16} (h : execPlsOpen n ms s = .next t) :
    Within ([R.PLS_CHSTAT n, R.PLS_STAT] ++ eventRegs) s t := by
  obtain h | h := next_of_ite h <;> cases h
  · refine .event (.raiseBoth (.setFld (.refl _ s) ?_) ?_ ?_ ?_) ?_
    · simp [F.PLS_CHSTAT_OPEN_NOW]
    · simp [F.PLS_CHSTAT_OPEN]
    · simp [F.PLS_STAT_OPEN]
    · simp [eventRegs]
    · simp
  · exact .refl _ s

theorem execSelfTestEnd_within {s t : State} {pass : Bool} (h : execSelfTestEnd pass s = .next t) :
    Within [R.IMU_CTL, R.IMU_STAT, R.RNG_INT_PEND 6] s t := by
  have hflag : (if pass then F.IMU_STAT_ST_PASS else F.IMU_STAT_ST_FAIL).addr ∈ [R.IMU_CTL, R.IMU_STAT, R.RNG_INT_PEND 6] := by
    cases pass <;> simp [F.IMU_STAT_ST_PASS, F.IMU_STAT_ST_FAIL]
  unfold execSelfTestEnd at h
  split at h
  · obtain h | h := next_of_ite h <;> cases h
    · exact .raiseFlag (.setFld (.beside (.refl _ s)) (by simp [F.IMU_CTL_ST])) hflag (by simp)
    · exact .refl _ s
  · cases h
    exact .refl _ s

/-- Settles O50, command by command. -/
theorem outputAndSensorEventsChangeOnlyTheirRegisters : Obligations.OutputAndSensorEventsChangeOnlyTheirRegisters :=
  ⟨fun _ _ _ _ h => (execSourceRestore_within h).onlyRegs, fun _ _ _ _ h => (execSourceTimeout_within h).onlyRegs,
    fun _ _ _ h => (execStandstillEntry_within h).onlyRegs, fun _ _ _ h => (execAxisXchk_within h).onlyRegs,
    fun _ _ _ h => (execAxisLost_within h).onlyRegs, fun _ _ _ _ _ h => (execDebouncedEdge_within h).onlyRegs,
    fun _ _ _ _ _ h => (execDioDiagFlag_within h).onlyRegs, fun _ _ _ _ h => (execLswOpenLoad_within h).onlyRegs,
    fun _ _ _ h => (execRetryCountClear_within h).onlyRegs, fun _ _ _ h => (execComparatorClear_within h).onlyRegs,
    fun _ _ _ h => (execAfeOpen_within h).onlyRegs, fun _ _ _ _ h => (execPlsOpenClear_within h).onlyRegs,
    fun _ _ _ _ _ h => (execPlsImpact_within h).onlyRegs, fun _ _ _ _ h => (execPlsOpen_within h).onlyRegs,
    fun _ _ _ h => (execSelfTestEnd_within h).onlyRegs⟩

end Sys2Proof.Machine
end

section
/-! Stride: the readings that the motion of an axis does not enter, and the fields of an axis's status register. -/

namespace Sys2Proof.Machine

/-! ### Readings that the motion of an axis does not enter -/

/-- A reading of the state that no register, no recorded event and no axis enters. -/
structure Unmoved {α : Type} (p : State → α) : Prop where
  setReg : ∀ (s : State) (b : Nat) (w : Word), p (s.setReg b w) = p s
  withEvr : ∀ (s : State) (e : Evr), p { s with evr := e } = p s
  setAxis : ∀ (s : State) (a : Nat) (x : Axis), p (s.setAxis a x) = p s

theorem unmoved_mem : Unmoved State.mem := ⟨fun _ _ _ => rfl, fun _ _ => rfl, fun _ _ _ => rfl⟩

theorem unmoved_now : Unmoved State.now := ⟨fun _ _ _ => rfl, fun _ _ => rfl, fun _ _ _ => rfl⟩

theorem unmoved_tickAt : Unmoved (fun s => s.str.tickAt) := ⟨fun _ _ _ => rfl, fun _ _ => rfl, fun _ _ _ => rfl⟩

section Unmoved
variable {α : Type} {p : State → α} (hp : Unmoved p)
include hp

theorem Unmoved.setFld (s : State) (f : Fld) (v : Nat) : p (s.setFld f v) = p s := hp.setReg s _ _

theorem Unmoved.axFlag (s : State) (f : Nat → Fld) (a : Nat) : p (s.axFlag f a) = p s := by
  rw [State.axFlag, State.raiseFlag, apply_ite p, State.pend, hp.setReg, hp.setFld, ite_self]

theorem Unmoved.event (s : State) (code : Nat) (args : List Word) : p (s.event code args) = p s := by
  unfold State.event
  split
  · exact hp.withEvr s _
  · rw [State.loseEvent, hp.withEvr, State.raiseFlag, apply_ite p, State.pend, hp.setReg, hp.setFld, ite_self, State.bump, hp.setFld]

theorem Unmoved.axShowOk (s : State) (a : Nat) : p (s.axShowOk a) = p s := hp.setFld s _ _

theorem Unmoved.slotFail (s : State) (a i : Nat) : p (s.slotFail a i) = p s := by
  simp only [State.slotFail]
  rw [apply_ite p, hp.axFlag, ite_self, hp.axShowOk, hp.setAxis]

theorem Unmoved.axSwitchTo (s : State) (a j : Nat) : p (s.axSwitchTo a j) = p s := by
  simp only [State.axSwitchTo]
  rw [hp.event, hp.axFlag, hp.setFld]

theorem Unmoved.axAnchor (s : State) (a i t : Nat) : p (s.axAnchor a i t) = p s := hp.setAxis s a _

theorem Unmoved.axStart (s : State) (a i t : Nat) : p (s.axStart a i t) = p s := (hp.axAnchor _ a i t).trans (hp.setAxis s a _)

theorem Unmoved.axBlend (s : State) (a i t : Nat) : p (s.axBlend a i t) = p s := by
  simp only [State.axBlend]
  rw [hp.setFld, hp.axStart, hp.axSwitchTo, hp.setAxis]

theorem Unmoved.axLose (s : State) (a t : Nat) : p (s.axLose a t) = p s := by
  simp only [State.axLose]
  rw [hp.event, hp.axFlag, hp.setFld, apply_ite p, hp.axSwitchTo, ite_self, hp.setAxis]

theorem Unmoved.axCoast (s : State) (a t : Nat) : p (s.axCoast a t) = p s := by
  rw [State.axCoast, apply_ite p, hp.axLose, hp.setFld, hp.setAxis, ite_self]

theorem Unmoved.axStep (s : State) (a t : Nat) : p (s.axStep a t) = p s := by
  simp only [State.axStep]
  have hblend (j : Nat) := hp.axBlend s a j t
  split
  · split
    · split
      · exact hblend _
      · exact hp.axCoast s a t
    · rw [apply_ite p, apply_ite p, apply_ite p, hblend, hblend, hp.setFld, hp.axAnchor, ite_self, ite_self, ite_self]
  · split
    · split
      · exact hblend _
      · rw [apply_ite p, hp.axLose, ite_self]
    · split
      · split
        · rw [hp.axFlag, hp.axStart, hp.axSwitchTo, hp.setFld]
        · rfl
      · rfl

theorem Unmoved.axReverse (s : State) (a t : Nat) : p (s.axReverse a t) = p s := by
  simp only [State.axReverse, State.setBit]
  rw [apply_ite p, apply_ite p, apply_ite p, hp.setFld, hp.setFld, ite_self, ite_self, ite_self]

theorem Unmoved.axNextRate (s : State) (a t : Nat) : p (s.axNextRate a t) = p s := by
  simp only [State.axNextRate]
  rw [apply_ite p, apply_ite p, apply_ite p, hp.setAxis, hp.setAxis, hp.setAxis, hp.axAnchor, hp.setAxis, ite_self, ite_self, ite_self]

theorem Unmoved.slotNote (s : State) (a i t : Nat) : p (s.slotNote a i t) = p s := by
  simp only [State.slotNote]
  rw [apply_ite p, hp.setAxis, hp.setAxis, hp.setAxis, ite_self]

theorem Unmoved.axStill (s : State) (a t : Nat) : p (s.axStill a t) = p s := by
  simp only [State.axStill]
  rw [apply_ite p, hp.setFld, ite_self, hp.setFld, hp.setAxis]

theorem Unmoved.axGo (s : State) (a t : Nat) : p (s.axGo a t) = p s := by
  simp only [State.axGo]
  rw [apply_ite p, hp.axAnchor, ite_self, hp.setAxis, hp.setFld]

theorem Unmoved.axTimers (s : State) (a t : Nat) : p (s.axTimers a t) = p s := by
  simp only [State.axTimers]
  rw [apply_ite p, apply_ite p, apply_ite p, hp.axStill, hp.axGo, hp.setAxis, hp.setAxis, ite_self, ite_self, ite_self]

theorem Unmoved.axTick (s : State) (a t : Nat) : p (s.axTick a t) = p s := by
  simp only [State.axTick]
  rw [apply_ite p, hp.axNextRate, hp.axReverse, hp.axStep, hp.axTimers, State.foldl_keeps fun u i => hp.slotNote u a i t,
    State.axTake, hp.setAxis, hp.setAxis, ite_self]

end Unmoved

/-! ### An axis beside its registers -/

@[simp] theorem State.axis_setAxis_same (s : State) (a : Nat) (x : Axis) : (s.setAxis a x).axis a = x := SMap.get_set_same _ _ _

@[simp] theorem State.axis_setReg (s : State) (b : Nat) (w : Word) (a : Nat) : (s.setReg b w).axis a = s.axis a := rfl

@[simp] theorem State.axis_setFld (s : State) (f : Fld) (v a : Nat) : (s.setFld f v).axis a = s.axis a := rfl

@[simp] theorem State.reg_setAxis (s : State) (a : Nat) (x : Axis) (b : Nat) : (s.setAxis a x).reg b = s.reg b := rfl

@[simp] theorem State.fld_setAxis (s : State) (a : Nat) (x : Axis) (f : Fld) : (s.setAxis a x).fld f = s.fld f := rfl

@[simp] theorem State.flag_setAxis (s : State) (a : Nat) (x : Axis) (f : Fld) : (s.setAxis a x).flag f = s.flag f := rfl

theorem unrecorded_str : Unrecorded State.str := ⟨fun _ _ _ _ => rfl, fun _ _ => rfl⟩

@[simp] theorem State.event_str (s : State) (code : Nat) (args : List Word) : (s.event code args).str = s.str :=
  unrecorded_str.event s code args

theorem State.axis_congr {s t : State} (h : t.str = s.str) (a : Nat) : t.axis a = s.axis a := by rw [State.axis, State.axis, h]

@[simp] theorem State.axis_event (s : State) (code : Nat) (args : List Word) (a : Nat) : (s.event code args).axis a = s.axis a :=
  State.axis_congr (s.event_str code args) a

@[simp] theorem State.axFlag_str (s : State) (f : Nat → Fld) (a : Nat) : (s.axFlag f a).str = s.str := s.raiseFlag_str (f a) (171 + a)

@[simp] theorem State.axis_axFlag (s : State) (f : Nat → Fld) (a b : Nat) : (s.axFlag f a).axis b = s.axis b :=
  State.axis_congr (s.axFlag_str f a) b

@[simp] theorem State.axSwitchTo_str (s : State) (a j : Nat) : (s.axSwitchTo a j).str = s.str := by
  simp only [State.axSwitchTo, State.event_str, State.axFlag_str, State.setFld_str]

@[simp] theorem State.axis_axSwitchTo (s : State) (a j b : Nat) : (s.axSwitchTo a j).axis b = s.axis b :=
  State.axis_congr (s.axSwitchTo_str a j) b

@[simp] theorem State.axis_axShowOk (s : State) (a b : Nat) : (s.axShowOk a).axis b = s.axis b := rfl

@[simp] theorem State.axis_slotFail (s : State) (a i : Nat) : (s.slotFail a i).axis a =
    (s.axis a).setSlot i { (s.axis a).slot i with ok := false, goodAt := none, badAt := s.now } := by
  simp only [State.slotFail]
  rw [apply_ite (State.axis · a), State.axis_axFlag, ite_self, State.axis_axShowOk, State.axis_setAxis_same]

@[simp] theorem Axis.slot_setSlot_same (x : Axis) (i : Nat) (r : ASrc) : (x.setSlot i r).slot i = r := SMap.get_set_same _ _ _

/-! ### The status register of an axis -/

/-- A field of the status register of axis a. -/
structure AxStat (a : Nat) (f : Fld) : Prop where
  addr : f.addr = R.STR_AXSTAT a
  ok : f.Ok

theorem axStat_STATE (a : Nat) : AxStat a (F.STR_AXSTAT_STATE a) := ⟨rfl, by simp [F.STR_AXSTAT_STATE, Fld.Ok]⟩

theorem axStat_ACTIVE (a : Nat) : AxStat a (F.STR_AXSTAT_ACTIVE a) := ⟨rfl, by simp [F.STR_AXSTAT_ACTIVE, Fld.Ok]⟩

theorem axStat_STILL (a : Nat) : AxStat a (F.STR_AXSTAT_STILL a) := ⟨rfl, by simp [F.STR_AXSTAT_STILL, Fld.Ok]⟩

theorem axStat_SRC_OK (a : Nat) : AxStat a (F.STR_AXSTAT_SRC_OK a) := ⟨rfl, by simp [F.STR_AXSTAT_SRC_OK, Fld.Ok]⟩

theorem axStat_SWITCHED (a : Nat) : AxStat a (F.STR_AXSTAT_SWITCHED a) := ⟨rfl, by simp [F.STR_AXSTAT_SWITCHED, Fld.Ok]⟩

theorem axStat_SRC_LOST (a : Nat) : AxStat a (F.STR_AXSTAT_SRC_LOST a) := ⟨rfl, by simp [F.STR_AXSTAT_SRC_LOST, Fld.Ok]⟩

theorem axStat_XCHK_FAIL (a : Nat) : AxStat a (F.STR_AXSTAT_XCHK_FAIL a) := ⟨rfl, by simp [F.STR_AXSTAT_XCHK_FAIL, Fld.Ok]⟩

theorem axStat_AXIS_LOST (a : Nat) : AxStat a (F.STR_AXSTAT_AXIS_LOST a) := ⟨rfl, by simp [F.STR_AXSTAT_AXIS_LOST, Fld.Ok]⟩

theorem axStat_CFG_ERR (a : Nat) : AxStat a (F.STR_AXSTAT_CFG_ERR a) := ⟨rfl, by simp [F.STR_AXSTAT_CFG_ERR, Fld.Ok]⟩

/-- The registers of Stride lie above the pending words of an axis and those that an event counts in. -/
theorem stride_notMem_eventRegs {b : Nat} (hb : R.STR_AXCFG 0 ≤ b) : b ∉ R.RNG_INT_PEND 5 :: eventRegs := by
  simp only [R.STR_AXCFG] at hb
  simp only [eventRegs, R.RNG_INT_PEND, R.EVR_LOSTCNT, R.EVR_STAT, List.mem_cons, List.not_mem_nil, or_false]
  omega

theorem STR_AXSTAT_ge (a : Nat) : R.STR_AXCFG 0 ≤ R.STR_AXSTAT a := by simp only [R.STR_AXCFG, R.STR_AXSTAT]; omega

theorem State.event_reg_stride (s : State) (code : Nat) (args : List Word) {b : Nat} (hb : R.STR_AXCFG 0 ≤ b) :
    (s.event code args).reg b = s.reg b :=
  s.event_onlyRegs code args b fun h => stride_notMem_eventRegs hb (List.mem_cons_of_mem _ h)

section
variable {a : Fin 8} {f g : Fld}

theorem AxStat.fld_event (hg : AxStat a g) (s : State) (code : Nat) (args : List Word) : (s.event code args).fld g = s.fld g :=
  State.fld_congr (s.event_reg_stride code args (hg.addr ▸ STR_AXSTAT_ge a))

theorem AxStat.fld_setFld (hg : AxStat a g) (hf : AxStat a f) (h : f.hi < g.lo ∨ g.hi < f.lo) (s : State) (v : Nat) :
    (s.setFld f v).fld g = s.fld g :=
  State.fld_setFld_other s f g hf.ok hg.ok.2 h v

theorem axis_irq (a : Fin 8) : (171 + a.val) / 32 = 5 := by omega

theorem AxStat.ne_pend (hg : AxStat a g) : g.addr ≠ R.RNG_INT_PEND ((171 + a.val) / 32) := by
  rw [axis_irq, hg.addr]
  exact fun h => stride_notMem_eventRegs (STR_AXSTAT_ge a) (h ▸ List.mem_cons_self)

theorem AxStat.fld_axFlag {e : Nat → Fld} (hg : AxStat a g) (he : AxStat a (e a)) (h : (e a).hi < g.lo ∨ g.hi < (e a).lo) (s : State) :
    (s.axFlag e a).fld g = s.fld g := by
  rw [State.axFlag, State.raiseFlag]
  split
  · rfl
  · rw [State.pend, State.fld_setReg_ne _ _ _ _ hg.ne_pend, hg.fld_setFld he h]

theorem AxStat.flag_axFlag {e : Nat → Fld} (he : AxStat a (e a)) (s : State) : (s.axFlag e a).flag (e a) = true :=
  State.flag_raiseFlag s (e a) he.ok _ he.ne_pend

end

/-! ### Entering LOST, standstill and health -/

section
variable (s : State) (a : Fin 8)

theorem State.axState_axSwitchTo (j : Nat) : (s.axSwitchTo a j).axState a = s.axState a := by
  have h := axStat_STATE a
  rw [State.axSwitchTo, State.axState, h.fld_event, h.fld_axFlag (axStat_SWITCHED a) (.inr (by simp [F.STR_AXSTAT_STATE, F.STR_AXSTAT_SWITCHED])),
    h.fld_setFld (axStat_ACTIVE a) (.inl (by simp [F.STR_AXSTAT_STATE, F.STR_AXSTAT_ACTIVE])), State.axState]

theorem State.axActive_axSwitchTo {j : Nat} (hj : j < 4) : (s.axSwitchTo a j).axActive a = j := by
  have h := axStat_ACTIVE a
  rw [State.axSwitchTo, State.axActive, h.fld_event, h.fld_axFlag (axStat_SWITCHED a) (.inr (by simp [F.STR_AXSTAT_ACTIVE, F.STR_AXSTAT_SWITCHED])),
    State.fld_setFld_same _ _ h.ok]
  exact Nat.mod_eq_of_lt hj

theorem State.axState_setFld {v : Nat} (hv : v < 8) : (s.setFld (F.STR_AXSTAT_STATE a) v).axState a = v :=
  (State.fld_setFld_same s _ (axStat_STATE a).ok v).trans (Nat.mod_eq_of_lt hv)

theorem State.axActive_setFld_STATE (v : Nat) : (s.setFld (F.STR_AXSTAT_STATE a) v).axActive a = s.axActive a :=
  (axStat_ACTIVE a).fld_setFld (axStat_STATE a) (.inr (by simp [F.STR_AXSTAT_ACTIVE, F.STR_AXSTAT_STATE])) s v

/-- An axis that is switched to no slot, if it is not there. -/
theorem State.axActive_switchedOff : (if s.axActive a = 3 then s else s.axSwitchTo a 3).axActive a = 3 := by
  split
  next h => exact h
  next => exact s.axActive_axSwitchTo a (by decide)

theorem State.axState_axLose (t : Nat) : (s.axLose a t).axState a = axLOST := by
  have h := axStat_STATE a
  simp only [State.axLose]
  rw [State.axState, h.fld_event, h.fld_axFlag (axStat_AXIS_LOST a) (.inr (by simp [F.STR_AXSTAT_STATE, F.STR_AXSTAT_AXIS_LOST]))]
  exact State.axState_setFld _ a (by decide)

theorem State.axActive_axLose (t : Nat) : (s.axLose a t).axActive a = 3 := by
  have h := axStat_ACTIVE a
  simp only [State.axLose]
  rw [State.axActive, h.fld_event, h.fld_axFlag (axStat_AXIS_LOST a) (.inr (by simp [F.STR_AXSTAT_ACTIVE, F.STR_AXSTAT_AXIS_LOST]))]
  exact (State.axActive_setFld_STATE _ a axLOST).trans (State.axActive_switchedOff _ a)

theorem State.flag_AXIS_LOST_axLose (t : Nat) : (s.axLose a t).flag (F.STR_AXSTAT_AXIS_LOST a) = true := by
  have h := axStat_AXIS_LOST a
  simp only [State.axLose]
  rw [State.flag_congr (h.fld_event _ _ _)]
  exact h.flag_axFlag _

@[simp] theorem State.axis_axLose (t : Nat) : (s.axLose a t).axis a = { s.axis a with pos := s.axPos a t, at_ := t, rate := 0 } := by
  simp only [State.axLose, State.axis_event, State.axis_axFlag, State.axis_setFld]
  rw [apply_ite (State.axis · a), State.axis_axSwitchTo, ite_self, State.axis_setAxis_same]

theorem State.axState_axStill (t : Nat) (h : s.axState a = axRUN ∨ s.axState a = axBLEND) : (s.axStill a t).axState a = axRUN := by
  have hkeep (x : Axis) : ((s.setAxis a x).setFld (F.STR_AXSTAT_STILL a) 1).axState a = s.axState a :=
    (axStat_STATE a).fld_setFld (axStat_STILL a) (.inr (by simp [F.STR_AXSTAT_STATE, F.STR_AXSTAT_STILL])) _ 1
  simp only [State.axStill, hkeep]
  rcases h with h | h <;> rw [h]
  · exact (hkeep _).trans h
  · exact State.axState_setFld _ a (by decide)

theorem State.flag_STILL_axStill (t : Nat) : (s.axStill a t).flag (F.STR_AXSTAT_STILL a) = true := by
  have h := axStat_STILL a
  simp only [State.axStill]
  split
  · rw [State.flag_congr (h.fld_setFld (axStat_STATE a) (.inl (by simp [F.STR_AXSTAT_STATE, F.STR_AXSTAT_STILL])) _ _)]
    exact State.flag_setFld_one _ _ h.ok
  · exact State.flag_setFld_one _ _ h.ok

@[simp] theorem State.axis_axStill (t : Nat) : (s.axStill a t).axis a = { s.axis a with pos := s.axPos a t, at_ := t, rate := 0 } := by
  simp only [State.axStill]
  rw [apply_ite (State.axis · a), State.axis_setFld, ite_self, State.axis_setFld, State.axis_setAxis_same]

/-- Whether SRC_OK shows slot k: it has a source and is healthy (R80). -/
theorem State.srcOk_axShowOk (k : Fin 3) :
    ((s.axShowOk a).fld (F.STR_AXSTAT_SRC_OK a)).testBit k = (decide (s.axCode a k ≠ 0) && ((s.axis a).slot k).ok) := by
  rw [State.axShowOk, State.fld_setFld_same _ _ (axStat_SRC_OK a).ok]
  have hbits : ∀ (b0 b1 b2 : Bool) (k : Fin 3),
      (((if b0 then 2 ^ 0 else 0) + (if b1 then 2 ^ 1 else 0) + (if b2 then 2 ^ 2 else 0)) % 2 ^ (12 + 1 - 10)).testBit k =
        [b0, b1, b2].getD k false := by decide
  refine (hbits _ _ _ k).trans ?_
  fin_cases k <;> rfl

theorem State.srcOk_slotFail (k : Fin 3) : ((s.slotFail a k).fld (F.STR_AXSTAT_SRC_OK a)).testBit k = false := by
  have hshow (x : Axis) (hx : (x.slot k).ok = false) : (((s.setAxis a x).axShowOk a).fld (F.STR_AXSTAT_SRC_OK a)).testBit k = false := by
    rw [State.srcOk_axShowOk, State.axis_setAxis_same, hx, Bool.and_false]
  simp only [State.slotFail]
  split
  · rw [(axStat_SRC_OK a).fld_axFlag (axStat_SRC_LOST a) (.inr (by simp [F.STR_AXSTAT_SRC_OK, F.STR_AXSTAT_SRC_LOST]))]
    exact hshow _ (by rw [Axis.slot_setSlot_same])
  · exact hshow _ (by rw [Axis.slot_setSlot_same])

theorem State.flag_XCHK_FAIL_slotFail (i : Nat) : (s.slotFail a i).flag (F.STR_AXSTAT_XCHK_FAIL a) = s.flag (F.STR_AXSTAT_XCHK_FAIL a) := by
  have h := axStat_XCHK_FAIL a
  have hshow (x : Axis) : ((s.setAxis a x).axShowOk a).fld (F.STR_AXSTAT_XCHK_FAIL a) = s.fld (F.STR_AXSTAT_XCHK_FAIL a) :=
    h.fld_setFld (axStat_SRC_OK a) (.inl (by simp [F.STR_AXSTAT_XCHK_FAIL, F.STR_AXSTAT_SRC_OK])) _ _
  refine State.flag_congr ?_
  simp only [State.slotFail]
  split
  · rw [h.fld_axFlag (axStat_SRC_LOST a) (.inl (by simp [F.STR_AXSTAT_XCHK_FAIL, F.STR_AXSTAT_SRC_LOST]))]
    exact hshow _
  · exact hshow _

end

/-! ### Position and rate -/

/-- An axis that does not move: DISABLED, LOST or in standstill (R74, R79, R84). -/
def State.atRest (s : State) (a : Nat) : Prop := s.axState a = axDISABLED ∨ s.axState a = axLOST ∨ s.flag (F.STR_AXSTAT_STILL a) = true

theorem State.axPos_of_atRest {s : State} {a : Nat} (h : s.atRest a) (t : Nat) : s.axPos a t = (s.axis a).pos := if_pos h

theorem State.axRate_of_atRest {s : State} {a : Nat} (h : s.atRest a) : s.axRate a = 0 := if_pos h

theorem State.axPos_of_rate_zero {s : State} {a : Nat} (h : (s.axis a).rate = 0) (t : Nat) : s.axPos a t = (s.axis a).pos := by
  simp only [State.axPos, h, Int.zero_mul, Int.zero_ediv, Int.add_zero, ite_self]

/-- A position depends on the axis and its status register alone. -/
theorem State.axPos_congr {s t : State} {a : Nat} (hx : t.axis a = s.axis a) (hs : t.reg (R.STR_AXSTAT a) = s.reg (R.STR_AXSTAT a)) (u : Nat) :
    t.axPos a u = s.axPos a u := by
  have hstate : t.axState a = s.axState a := State.fld_congr (f := F.STR_AXSTAT_STATE a) hs
  have hstill : t.flag (F.STR_AXSTAT_STILL a) = s.flag (F.STR_AXSTAT_STILL a) := State.flag_congr (State.fld_congr hs)
  rw [State.axPos, State.axPos, hx, hstate, hstill]

theorem State.axCount_congr {s t : State} {a : Nat} (hx : t.axis a = s.axis a) (hs : t.reg (R.STR_AXSTAT a) = s.reg (R.STR_AXSTAT a)) (u : Nat) :
    t.axCount a u = s.axCount a u := by
  rw [State.axCount, State.axCount, State.axPos_congr hx hs]

end Sys2Proof.Machine
end

section
/-! Stride: the tick, enabling and disabling an axis, the health of its slots, its loss and its reading (R62-R84, R90, R93). -/

namespace Sys2Proof.Machine

/-! ### The tick (R74) -/

/-- The tick at an instant begun: the crossings before it noted (R86). -/
def State.tickBegun (s : State) (t : Nat) : State :=
  { s.noteCross (t - 1) with str := { (s.noteCross (t - 1)).str with tickAt := t } }

/-- The axes and what waits for them at a tick (R74, R87, R89). -/
def State.tickRun (s : State) (t : Nat) : State :=
  ((List.range 64).foldl (fun s n => s.loopTick n t) ((List.range 8).foldl (fun s a => s.axTick a t) s)).crossTick t

theorem State.tickRun_keeps {α : Type} {p : State → α} (hp : Unmoved p) (hc : Uncrossed p) (s : State) (t : Nat) :
    p (s.tickRun t) = p s := by
  rw [State.tickRun, hc.crossTick, State.foldl_keeps fun u n => hc.loopTick u n t, State.foldl_keeps fun u a => hp.axTick u a t]

theorem State.tickBegun_now (s : State) (t : Nat) : (s.tickBegun t).now = s.now := by
  simp only [State.tickBegun]
  exact uncrossed_now.noteCross s (t - 1)

theorem State.tickBegun_mem (s : State) (t : Nat) : (s.tickBegun t).mem = s.mem := by
  simp only [State.tickBegun]
  exact uncrossed_mem.noteCross s (t - 1)

theorem exec_strideTick_of_due (s : State) (h : (s.str.tickAt / 50000 + 1) * 50000 ≤ s.now) :
    exec .strideTick s = .next ((s.tickBegun ((s.str.tickAt / 50000 + 1) * 50000)).tickRun ((s.str.tickAt / 50000 + 1) * 50000)) := by
  have hdue : s.due s.str.tickAt 50000 = true := decide_eq_true h
  have hexec : exec .strideTick s = execStrideTick s := by rfl
  rw [hexec, execStrideTick, if_pos hdue]
  rfl

theorem strideTick_takesTick (s : State) (h : (s.str.tickAt / 50000 + 1) * 50000 ≤ s.now) :
    Gives (exec .strideTick s) (fun t => t.str.tickAt = (s.str.tickAt / 50000 + 1) * 50000 ∧ t.now = s.now ∧ t.mem = s.mem) :=
  ⟨_, exec_strideTick_of_due s h, State.tickRun_keeps unmoved_tickAt uncrossed_tickAt _ _,
    (State.tickRun_keeps unmoved_now uncrossed_now _ _).trans (s.tickBegun_now _),
    (State.tickRun_keeps unmoved_mem uncrossed_mem _ _).trans (s.tickBegun_mem _)⟩

/-! ### The enable bit (R65, R90) -/

theorem Fld.get_bit (f : Fld) (h : f.hi = f.lo) (w : Word) : f.get w = (w.getLsbD f.lo).toNat := by
  rw [Fld.get, h, Nat.add_sub_cancel_left, pow_one, BitVec.getLsbD, Nat.toNat_testBit]

theorem STR_AXCFG_EN_get_writtenWord (a : Fin 8) (locked : Bool) (old w : Word) :
    (F.STR_AXCFG_EN a).get (writtenWord (R.STR_AXCFG a) locked old w) = (w.getLsbD 0).toNat := by
  have hmem : ∀ a : Fin 8, (⟨0, 0, .rw, 0, .rtx, .rtx⟩ : FieldRow) ∈ fieldsAt (R.STR_AXCFG a) := by decide +kernel
  exact (Fld.get_writtenWord _ _ _ (hmem a) locked old w).trans (Fld.get_bit ⟨0, 0, 0⟩ rfl w)

/-- The configuration register of axis a after a write of w by its access codes. -/
def State.axCfgWritten (s : State) (a : Nat) (w : Word) : State :=
  s.setReg (R.STR_AXCFG a) (writtenWord (R.STR_AXCFG a) (s.locked (R.STR_AXCFG a)) (s.reg (R.STR_AXCFG a)) w)

theorem State.axCfgWritten_EN (s : State) (a : Fin 8) (w : Word) : (s.axCfgWritten a w).flag (F.STR_AXCFG_EN a) = w.getLsbD 0 := by
  have h := (State.fld_setReg_same s (F.STR_AXCFG_EN a) _).trans
    (STR_AXCFG_EN_get_writtenWord a (s.locked (R.STR_AXCFG a)) (s.reg (R.STR_AXCFG a)) w)
  rw [State.flag, State.axCfgWritten]
  exact (congrArg (fun x => decide (x = 1)) h).trans (by cases w.getLsbD 0 <;> rfl)

theorem State.axCfgWritten_reg_ne (s : State) (a : Nat) (w : Word) {b : Nat} (hb : b ≠ R.STR_AXCFG a) :
    (s.axCfgWritten a w).reg b = s.reg b := State.reg_setReg_ne s _ hb

theorem exec_axisEnable_of_takesWrite (s : State) (acc : Acc) (a : Fin 8) (v : Word) (h : s.takesWrite acc (R.STR_AXCFG a))
    (hoff : s.flag (F.STR_AXCFG_EN a) = false) : exec (.axisEnable acc a v) s = .next ((s.axCfgWritten a (v ||| 1)).axEnable a) := by
  have hexec : exec (.axisEnable acc a v) s = execAxisEnable acc a v s := by rfl
  have hon : (s.axCfgWritten a (v ||| 1)).flag (F.STR_AXCFG_EN a) = true := by rw [State.axCfgWritten_EN]; simp
  rw [hexec, execAxisEnable, State.guardWrite_of_takesWrite s acc _ _ h, State.writeAxCfg]
  simp only [hoff, Bool.false_and, Bool.false_eq_true, if_false]
  rw [← State.axCfgWritten, hon]

theorem exec_axisDisable_of_takesWrite (s : State) (acc : Acc) (a : Fin 8) (v : Word) (h : s.takesWrite acc (R.STR_AXCFG a))
    (hon : s.flag (F.STR_AXCFG_EN a)) (hkeep : (s.reg (R.STR_AXCFG a) ||| 0x301) =
      (writtenWord (R.STR_AXCFG a) (s.locked (R.STR_AXCFG a)) (s.reg (R.STR_AXCFG a)) (v &&& 0xFFFFFFFE) ||| 0x301)) :
    exec (.axisDisable acc a v) s = .next ((s.axCfgWritten a (v &&& 0xFFFFFFFE)).axDisable a) := by
  have hexec : exec (.axisDisable acc a v) s = execAxisDisable acc a v s := by rfl
  have hoff : (s.axCfgWritten a (v &&& 0xFFFFFFFE)).flag (F.STR_AXCFG_EN a) = false := by rw [State.axCfgWritten_EN]; simp
  rw [hexec, execAxisDisable, State.guardWrite_of_takesWrite s acc _ _ h, State.writeAxCfg]
  simp only [hon, hkeep, ne_eq, not_true_eq_false, decide_false, Bool.and_false, Bool.false_eq_true, if_false]
  rw [← State.axCfgWritten, hoff]

/-- The configuration register of an axis is none that its status, its interrupt or an event enters. -/
theorem STR_AXCFG_notMem (a : Fin 8) : R.STR_AXCFG a ∉ [R.STR_AXSTAT a, R.RNG_INT_PEND 5] ++ eventRegs := by
  simp only [eventRegs, R.STR_AXCFG, R.STR_AXSTAT, R.RNG_INT_PEND, R.EVR_LOSTCNT, R.EVR_STAT, List.cons_append, List.nil_append,
    List.mem_cons, List.not_mem_nil, or_false]
  omega

theorem Within.axEN {s t : State} {a : Fin 8} (h : Within ([R.STR_AXSTAT a, R.RNG_INT_PEND 5] ++ eventRegs) s t) :
    t.flag (F.STR_AXCFG_EN a) = s.flag (F.STR_AXCFG_EN a) :=
  State.flag_congr (State.fld_congr (h.onlyRegs _ (STR_AXCFG_notMem a)))

/-! ### Enabling (R66, R82) -/

/-- What slot i holds as an axis is enabled: a partner's as it was, any other afresh (R66). -/
def State.enabledSlot (s : State) (a i : Nat) : ASrc := if isPartner (s.axCode a i) then (s.axis a).slot i else s.freshSlot a i

/-- Axis a with its preset, its registers in force, its slots afresh and judged (R66, R90). -/
def State.axPreset (s : State) (a : Nat) : State :=
  let pre := sext 64 (s.reg64 (R.STR_AXPRESET_LO a) (R.STR_AXPRESET_HI a))
  let u := (s.setAxis a { Axis.init with pos := pre * 2 ^ 16, at_ := s.now, slots := [] }).axTake a
  let u := [0, 1, 2].foldl (fun u i => u.setAxis a ((u.axis a).setSlot i (s.enabledSlot a i))) u
  [0, 1, 2].foldl (fun u i =>
    u.setAxis a ((u.axis a).setSlot i { (u.axis a).slot i with ok := u.axCode a i ≠ 0 && !u.slotBad a i })) u

/-- Axis a before it takes a source: STILL and REVERSE clear, the health of its slots shown, its loops moved with its position. -/
def State.axReady (s : State) (a : Nat) : State :=
  ((((s.axPreset a).setFld (F.STR_AXSTAT_STILL a) 0).setFld (F.STR_AXSTAT_REVERSE a) 0).axShowOk a).loopShift a
    (sext 64 (s.reg64 (R.STR_AXPRESET_LO a) (R.STR_AXPRESET_HI a)) * 2 ^ 16 - (s.axis a).pos)

theorem State.axEnable_refused (s : State) (a : Nat) (h : s.axisOk a = false) :
    s.axEnable a = (s.setFld (F.STR_AXCFG_EN a) 0).axFlag F.STR_AXSTAT_CFG_ERR a := by
  simp only [State.axEnable, h, Bool.not_false, if_true]

theorem State.axPreset_keeps {α : Type} {a : Nat} {p : State → α} (hp : ∀ (u : State) (x : Axis), p (u.setAxis a x) = p u) (s : State) :
    p (s.axPreset a) = p s := by
  simp only [State.axPreset]
  rw [State.foldl_keeps fun u i => hp u _, State.foldl_keeps fun u i => hp u _, State.axTake, hp, hp]

theorem State.axReady_keeps {α : Type} {p : State → α} (hp : Unmoved p) (hc : Uncrossed p) (s : State) (a : Nat) :
    p (s.axReady a) = p s := by
  rw [State.axReady, hc.loopShift, hp.axShowOk, hp.setFld, hp.setFld, State.axPreset_keeps fun u x => hp.setAxis u a x]

theorem State.axEnable_valid (s : State) (a : Nat) (h : s.axisOk a = true) :
    s.axEnable a = ((s.axReady a).axBest a).elim ((s.axReady a).axLose a s.now) fun j =>
      (((s.axReady a).setFld (F.STR_AXSTAT_STATE a) axRUN).axSwitchTo a j).axStart a j s.now := by
  have hnow : (s.axReady a).now = s.now := State.axReady_keeps unmoved_now uncrossed_now s a
  have hunfold : s.axEnable a = ((s.axReady a).axBest a).elim ((s.axReady a).axLose a (s.axReady a).now) fun j =>
      (((s.axReady a).setFld (F.STR_AXSTAT_STATE a) axRUN).axSwitchTo a j).axStart a j (s.axReady a).now := by
    rw [State.axEnable, if_neg (by rw [h]; decide)]
    show (match (s.axReady a).axBest a with
      | some j => (((s.axReady a).setFld (F.STR_AXSTAT_STATE a) axRUN).axSwitchTo a j).axStart a j (s.axReady a).now
      | none => (s.axReady a).axLose a (s.axReady a).now) = _
    cases (s.axReady a).axBest a <;> rfl
  rw [hunfold, hnow]

theorem State.axReady_within (s : State) (a : Nat) : Within [R.STR_AXSTAT a] s (s.axReady a) := by
  have hpreset : Within [R.STR_AXSTAT a] s (s.axPreset a) :=
    .beside (.refl _ s) (State.axPreset_keeps (fun u x => u.setAxis_regs a x) s)
  refine .beside (.axShowOk (.setFld (.setFld hpreset ?_) ?_) ?_) (uncrossed_regs.loopShift _ a _)
  · simp [F.STR_AXSTAT_STILL]
  · simp [F.STR_AXSTAT_REVERSE]
  · simp

/-- What neither the slots nor the registers in force enter, an axis starts with its preset at rate 0. -/
theorem State.axReady_axis {β : Type} {q : Axis → β} (hslots : ∀ x l, q { x with slots := l } = q x)
    (hwords : ∀ x l, q { x with words := l } = q x) (s : State) (a : Nat) : q ((s.axReady a).axis a) =
      q { Axis.init with pos := sext 64 (s.reg64 (R.STR_AXPRESET_LO a) (R.STR_AXPRESET_HI a)) * 2 ^ 16, at_ := s.now } := by
  have hslot (u : State) (i : Nat) (r : ASrc) : q ((u.setAxis a ((u.axis a).setSlot i r)).axis a) = q (u.axis a) := by
    rw [State.axis_setAxis_same, Axis.setSlot, hslots]
  have hloop := (uncrossed_axis a).loopShift
  rw [State.axReady, hloop, State.axis_axShowOk, State.axis_setFld, State.axis_setFld]
  simp only [State.axPreset]
  rw [State.foldl_keeps (p := fun u => q (u.axis a)) fun u i => hslot u i _,
    State.foldl_keeps (p := fun u => q (u.axis a)) fun u i => hslot u i _, State.axTake, State.axis_setAxis_same, hwords,
    State.axis_setAxis_same]
  rfl

theorem State.pos_axReady (s : State) (a : Nat) : ((s.axReady a).axis a).pos =
    sext 64 (s.reg64 (R.STR_AXPRESET_LO a) (R.STR_AXPRESET_HI a)) * 2 ^ 16 :=
  State.axReady_axis (q := Axis.pos) (fun _ _ => rfl) (fun _ _ => rfl) s a

theorem State.rate_axReady (s : State) (a : Nat) : ((s.axReady a).axis a).rate = 0 :=
  State.axReady_axis (q := Axis.rate) (fun _ _ => rfl) (fun _ _ => rfl) s a

@[simp] theorem State.pos_axStart (s : State) (a j t : Nat) : ((s.axStart a j t).axis a).pos = (s.axis a).pos := by
  simp only [State.axStart, State.axAnchor, State.axis_setAxis_same]

@[simp] theorem State.axState_axStart (s : State) (a j t b : Nat) : (s.axStart a j t).axState b = s.axState b := rfl

theorem Within.axStart {l : List Nat} {s t : State} (h : Within l s t) {a j u : Nat} : Within l s (t.axStart a j u) :=
  .setAxis (.setAxis h)

/-- An axis enabled with a valid configuration is at its preset, in RUN on a healthy slot or in LOST (R66, R82). -/
theorem State.axEnable_spec (s : State) (a : Fin 8) (h : s.axisOk a = true) :
    Within ([R.STR_AXSTAT a, R.RNG_INT_PEND 5] ++ eventRegs) s (s.axEnable a) ∧
      ((s.axEnable a).axState a = axRUN ∨ (s.axEnable a).axState a = axLOST) ∧
      ((s.axEnable a).axis a).pos = sext 64 (s.reg64 (R.STR_AXPRESET_LO a) (R.STR_AXPRESET_HI a)) * 2 ^ 16 ∧
      (s.axEnable a).mem = s.mem := by
  have hready : Within ([R.STR_AXSTAT a, R.RNG_INT_PEND 5] ++ eventRegs) s (s.axReady a) := (s.axReady_within a).mono (by simp)
  have hmem : (s.axReady a).mem = s.mem := State.axReady_keeps unmoved_mem uncrossed_mem s a
  rw [State.axEnable_valid s a h]
  cases (s.axReady a).axBest a with
  | none =>
    rw [Option.elim_none]
    refine ⟨hready.axLose (by simp) (by simp) (by simp), .inr (State.axState_axLose _ a _), ?_, ?_⟩
    · rw [State.axis_axLose, State.axPos_of_rate_zero (s.rate_axReady a), State.pos_axReady]
    · rw [unmoved_mem.axLose, hmem]
  | some j =>
    rw [Option.elim_some]
    refine ⟨?_, .inl ?_, ?_, ?_⟩
    · exact .axStart (.axSwitchTo (.setFld hready (by simp [F.STR_AXSTAT_STATE])) (by simp) (by simp) (by simp))
    · rw [State.axState_axStart, State.axState_axSwitchTo, State.axState_setFld _ a (by decide)]
    · rw [State.pos_axStart, State.axis_axSwitchTo, State.axis_setFld, State.pos_axReady]
    · rw [unmoved_mem.axStart, unmoved_mem.axSwitchTo, State.setFld_mem, hmem]

theorem State.reg64_axCfgWritten (s : State) (a : Nat) (w : Word) :
    (s.axCfgWritten a w).reg64 (R.STR_AXPRESET_LO a) (R.STR_AXPRESET_HI a) = s.reg64 (R.STR_AXPRESET_LO a) (R.STR_AXPRESET_HI a) := by
  have hlo : R.STR_AXPRESET_LO a ≠ R.STR_AXCFG a := by simp only [R.STR_AXPRESET_LO, R.STR_AXCFG]; omega
  have hhi : R.STR_AXPRESET_HI a ≠ R.STR_AXCFG a := by simp only [R.STR_AXPRESET_HI, R.STR_AXCFG]; omega
  rw [State.reg64, State.reg64, s.axCfgWritten_reg_ne a w hlo, s.axCfgWritten_reg_ne a w hhi]

theorem axisEnable_valid (s : State) (acc : Acc) (a : Fin 8) (v : Word) (h : s.takesWrite acc (R.STR_AXCFG a))
    (hoff : s.flag (F.STR_AXCFG_EN a) = false) (hok : (s.axCfgWritten a (v ||| 1)).axisOk a = true) :
    Gives (exec (.axisEnable acc a v) s) (fun t => t.flag (F.STR_AXCFG_EN a) ∧ (t.axState a = axRUN ∨ t.axState a = axLOST) ∧
      (t.axis a).pos = sext 64 (s.reg64 (R.STR_AXPRESET_LO a) (R.STR_AXPRESET_HI a)) * 2 ^ 16 ∧ t.mem = s.mem) := by
  obtain ⟨hregs, hstate, hpos, hmem⟩ := (s.axCfgWritten a (v ||| 1)).axEnable_spec a hok
  refine ⟨_, exec_axisEnable_of_takesWrite s acc a v h hoff, ?_, hstate, ?_, hmem⟩
  · rw [hregs.axEN, State.axCfgWritten_EN]; simp
  · rw [hpos, State.reg64_axCfgWritten]

/-! ### Disabling (R82) -/

theorem STR_AXSTAT_ne_STR_AXCFG (a b : Nat) : R.STR_AXSTAT a ≠ R.STR_AXCFG b := by simp only [R.STR_AXSTAT, R.STR_AXCFG]; omega

/-- Axis a with its position frozen at this instant. -/
def State.axFrozen (s : State) (a : Nat) : State := s.setAxis a { s.axis a with pos := s.axPos a s.now, at_ := s.now }

theorem State.axDisable_eq (s : State) (a : Nat) : s.axDisable a =
    ((if ((s.noteCross s.now).axFrozen a).axActive a = 3 then (s.noteCross s.now).axFrozen a
      else ((s.noteCross s.now).axFrozen a).axSwitchTo a 3).setFld (F.STR_AXSTAT_STATE a) axDISABLED).crossWait a := by
  rw [State.axDisable, State.axFrozen, uncrossed_now.noteCross]

/-- An axis that is disabled has no active slot, and its position frozen (Table 3-7). -/
theorem State.axDisable_spec (s : State) (a : Fin 8) :
    Within ([R.STR_AXSTAT a, R.RNG_INT_PEND 5] ++ eventRegs) s (s.axDisable a) ∧ (s.axDisable a).axState a = axDISABLED ∧
      (s.axDisable a).axActive a = 3 ∧ ((s.axDisable a).axis a).pos = s.axPos a s.now ∧ (s.axDisable a).mem = s.mem := by
  have hfrozen : Within ([R.STR_AXSTAT a, R.RNG_INT_PEND 5] ++ eventRegs) s ((s.noteCross s.now).axFrozen a) :=
    (Within.refl _ s).noteCross.setAxis
  rw [State.axDisable_eq]
  refine ⟨?_, ?_, ?_, ?_, ?_⟩
  · exact .crossWait (.setFld (.ite hfrozen (hfrozen.axSwitchTo (by simp) (by simp) (by simp))) (by simp [F.STR_AXSTAT_STATE]))
  · exact ((uncrossed_fld _).crossWait _ a).trans (State.axState_setFld _ a (by decide))
  · exact ((uncrossed_fld _).crossWait _ a).trans ((State.axActive_setFld_STATE _ a _).trans (State.axActive_switchedOff _ a))
  · rw [(uncrossed_axis a).crossWait, State.axis_setFld, apply_ite (State.axis · a), State.axis_axSwitchTo, ite_self, State.axFrozen,
      State.axis_setAxis_same]
    exact (congrArg (State.axPos _ a) (uncrossed_now.noteCross s s.now)).trans ((uncrossed_axPos a s.now).noteCross s s.now)
  · rw [uncrossed_mem.crossWait, State.setFld_mem, apply_ite State.mem, unmoved_mem.axSwitchTo, ite_self, State.axFrozen,
      State.setAxis_mem, uncrossed_mem.noteCross]

theorem axisDisable_completes (s : State) (acc : Acc) (a : Fin 8) (v : Word) (h : s.takesWrite acc (R.STR_AXCFG a))
    (hon : s.flag (F.STR_AXCFG_EN a)) (hkeep : (s.reg (R.STR_AXCFG a) ||| 0x301) =
      (writtenWord (R.STR_AXCFG a) (s.locked (R.STR_AXCFG a)) (s.reg (R.STR_AXCFG a)) (v &&& 0xFFFFFFFE) ||| 0x301)) :
    Gives (exec (.axisDisable acc a v) s) (fun t => t.flag (F.STR_AXCFG_EN a) = false ∧ t.axState a = axDISABLED ∧ t.axActive a = 3 ∧
      (t.axis a).pos = s.axPos a s.now ∧ t.mem = s.mem) := by
  obtain ⟨hregs, hstate, hactive, hpos, hmem⟩ := (s.axCfgWritten a (v &&& 0xFFFFFFFE)).axDisable_spec a
  refine ⟨_, exec_axisDisable_of_takesWrite s acc a v h hon hkeep, ?_, hstate, hactive, ?_, hmem⟩
  · rw [hregs.axEN, State.axCfgWritten_EN]; simp
  · rw [hpos]
    exact State.axPos_congr (s.axis_setReg _ _ a) (s.axCfgWritten_reg_ne a _ (STR_AXSTAT_ne_STR_AXCFG a a)) _

/-! ### A configuration that is not valid (R65) -/

/-- Whether a slot may name a source: one that the kind takes, a partner's only with a Tandem link (R65, R73). -/
def Part.slotTakes (p : Part) (kind c : Nat) : Bool := kindTakes kind c && (!isPartner c || p.hasTDM)

theorem Part.axisOk_iff (p : Part) (kind dir c0 c1 c2 : Nat) : p.axisOk kind dir c0 c1 c2 = true ↔
    dir ≠ 3 ∧ p.slotTakes kind c0 ∧ (c1 = 0 ∨ p.slotTakes kind c1) ∧ (c2 = 0 ∨ p.slotTakes kind c2) ∧
      c0 ≠ c1 ∧ c0 ≠ c2 ∧ (c1 = 0 ∨ c1 ≠ c2) := by
  simp only [Part.axisOk, Part.slotTakes, Bool.and_eq_true, Bool.or_eq_true, decide_eq_true_eq, and_assoc]

/-- In a valid configuration every slot that names a source names one that it may, and no source is named twice (R65). -/
theorem State.source_of_axisOk {s : State} {a : Nat} (h : s.axisOk a = true) {k : Nat} (hk : k < 3) (hc : s.axCode a k = 0 → k = 0) :
    s.part.slotTakes (s.fld (F.STR_AXCFG_KIND a)) (s.axCode a k) = true := by
  obtain ⟨-, h0, h1, h2, -⟩ := (Part.axisOk_iff _ _ _ _ _ _).mp h
  interval_cases k
  · exact h0
  · exact h1.resolve_left fun h => absurd (hc h) (by decide)
  · exact h2.resolve_left fun h => absurd (hc h) (by decide)

theorem State.distinct_of_axisOk {s : State} {a : Nat} (h : s.axisOk a = true) {j k : Nat} (hj : j < 3) (hk : k < 3) (hjk : j ≠ k)
    (hc : s.axCode a k ≠ 0) : s.axCode a j ≠ s.axCode a k := by
  obtain ⟨-, -, -, -, h01, h02, h12⟩ := (Part.axisOk_iff _ _ _ _ _ _).mp h
  interval_cases j <;> interval_cases k <;> omega

theorem isPulse_iff (c : Nat) : isPulse c = true ↔ (c < 0x28 ∧ 0x10 ≤ c) ∨ (c < 0x3C ∧ 0x30 ≤ c) := by
  simp only [isPulse, isSingle, isQuad, within, Bool.or_eq_true, Bool.and_eq_true, decide_eq_true_eq]
  omega

theorem isZx_iff (c : Nat) : isZx c = true ↔ c = 0x50 ∨ c = 0x51 := by
  simp only [isZx, within, Bool.and_eq_true, decide_eq_true_eq]
  omega

theorem isPartner_iff (c : Nat) : isPartner c = true ↔ 0x70 ≤ c ∧ c < 0x78 := by
  simp only [isPartner, within, Bool.and_eq_true, decide_eq_true_eq]
  omega

theorem kindTakes_iff {kind : Nat} (hkind : kind < 4) (c : Nat) : kindTakes kind c = true ↔
    (isPulse c ∧ kind < 2) ∨ (c = 0x40 ∧ kind = 0) ∨ (isZx c ∧ kind = 2) ∨ (c = 0x60 ∧ kind = 3) ∨ isPartner c := by
  interval_cases kind <;> simp [kindTakes, or_assoc]

/-- The sources that a slot may name, by their codes (Tables 3-3 and 3-4). -/
theorem Part.slotTakes_iff (p : Part) {kind : Nat} (hkind : kind < 4) (c : Nat) : p.slotTakes kind c = true ↔
    ((c < 0x28 ∧ 0x10 ≤ c ∧ kind < 2) ∨ (c < 0x3C ∧ 0x30 ≤ c ∧ kind < 2) ∨ (c = 0x40 ∧ kind = 0) ∨
      ((c = 0x50 ∨ c = 0x51) ∧ kind = 2) ∨ (c = 0x60 ∧ kind = 3) ∨ (0x70 ≤ c ∧ c < 0x78 ∧ p.hasTDM)) := by
  have hlink : (!isPartner c || p.hasTDM) = true ↔ (¬ (0x70 ≤ c ∧ c < 0x78) ∨ p.hasTDM = true) := by
    rw [Bool.or_eq_true, Bool.not_eq_true', ← Bool.not_eq_true, isPartner_iff]
  rw [Part.slotTakes, Bool.and_eq_true, kindTakes_iff hkind, hlink, isPulse_iff, isZx_iff, isPartner_iff]
  cases p.hasTDM with
  | true =>
    simp only [or_true, and_true]
    omega
  | false =>
    simp only [Bool.false_eq_true, or_false, and_false]
    omega

theorem axisEnable_refused (s : State) (acc : Acc) (a : Fin 8) (v : Word) (h : s.takesWrite acc (R.STR_AXCFG a))
    (hoff : s.flag (F.STR_AXCFG_EN a) = false) (hstate : s.axState a = axDISABLED) (hbad : (s.axCfgWritten a (v ||| 1)).axisOk a = false) :
    Gives (exec (.axisEnable acc a v) s) (fun t => t.flag (F.STR_AXCFG_EN a) = false ∧ t.flag (F.STR_AXSTAT_CFG_ERR a) ∧
      t.axState a = axDISABLED ∧ t.str = s.str ∧ t.mem = s.mem) := by
  have herr := axStat_CFG_ERR a
  have hne := STR_AXSTAT_ne_STR_AXCFG a a
  refine ⟨_, (exec_axisEnable_of_takesWrite s acc a v h hoff).trans (congrArg _ (State.axEnable_refused _ a hbad)), ?_, ?_, ?_, ?_, ?_⟩
  · have hflag := ((Within.refl ([R.STR_AXSTAT a, R.RNG_INT_PEND 5] ++ eventRegs)
      ((s.axCfgWritten a (v ||| 1)).setFld (F.STR_AXCFG_EN a) 0)).axFlag (f := F.STR_AXSTAT_CFG_ERR) (a := a)
        (by simp [F.STR_AXSTAT_CFG_ERR]) (by simp))
    rw [hflag.axEN]
    exact State.flag_setFld_zero _ _ (by simp [F.STR_AXCFG_EN, Fld.Ok])
  · exact herr.flag_axFlag _
  · calc _
      _ = ((s.axCfgWritten a (v ||| 1)).setFld (F.STR_AXCFG_EN a) 0).axState a :=
        (axStat_STATE a).fld_axFlag herr (.inr (by simp [F.STR_AXSTAT_STATE, F.STR_AXSTAT_CFG_ERR])) _
      _ = (s.axCfgWritten a (v ||| 1)).axState a := State.fld_setFld_ne _ _ _ hne _
      _ = s.axState a := State.fld_congr (s.axCfgWritten_reg_ne a _ hne)
      _ = axDISABLED := hstate
  · exact State.axFlag_str _ _ a
  · rw [unmoved_mem.axFlag, State.setFld_mem, State.axCfgWritten, State.setReg_mem]

/-- Settles O11: a slot that names a source it may not, or one that another names, makes the configuration invalid. -/
theorem invalidAxisConfigurationRefused : Obligations.InvalidAxisConfigurationRefused := by
  intro s acc a v u h hoff hstate hu hbad
  refine axisEnable_refused s acc a v h hoff hstate ?_
  have hu : u = s.axCfgWritten a (v ||| 1) := hu
  rw [← hu, Bool.eq_false_iff]
  intro hok
  rcases hbad with ⟨k, hk, hc, hnot⟩ | ⟨j, hj, k, hk, hjk, hc, hsame⟩
  · have hpart : u.part = s.part := by rw [hu, State.axCfgWritten, State.setReg_part]
    have htakes := (Part.slotTakes_iff u.part (u.fld_lt (F.STR_AXCFG_KIND a)) _).mp (State.source_of_axisOk hok hk hc)
    exact hnot (hpart ▸ htakes)
  · exact State.distinct_of_axisOk hok hj hk hjk hc hsame

end Sys2Proof.Machine
end

section
/-! Stride: the configuration registers that take effect at the next tick, standstill, health, cross-check, loss and the reading of a
position (R79-R84, R90, R93). -/

namespace Sys2Proof.Machine

/-! ### Configuration (R90) -/

/-- A register whose every bit lies in an RW field takes the word written. -/
theorem writtenWord_of_rw (a : Nat) (locked : Bool) (old w : Word) (hrw : ∀ f ∈ fieldsAt a, f.access = .rw)
    (hall : ∀ i < 32, ∃ f ∈ fieldsAt a, f.has i) : writtenWord a locked old w = w := by
  apply BitVec.eq_of_getLsbD_eq
  intro i hi
  rw [getLsbD_writtenWord, Bool.eq_iff_iff, List.any_eq_true]
  constructor
  · rintro ⟨f, hf, hbit⟩
    rw [hrw f hf] at hbit
    exact (Bool.and_eq_true_iff.mp hbit).2
  · intro hbit
    obtain ⟨f, hf, hhas⟩ := hall i hi
    exact ⟨f, hf, by rw [hrw f hf, decide_eq_true hhas]; exact hbit⟩

theorem timedConfig_fields (a : Fin 8) (k : Fin 12) (hk : k.val = 5 ∨ k.val = 6 ∨ k.val = 7) :
    (∀ f ∈ fieldsAt (R.STR_AXCFG a + 4 * k), f.access = .rw) ∧ ∀ i < 32, ∃ f ∈ fieldsAt (R.STR_AXCFG a + 4 * k), f.has i := by
  revert a k
  decide +kernel

/-- BLEND, STILL and LOSS have no effect of their own as they are written. -/
theorem State.writeStr_timedConfig (s : State) (a : Fin 8) (k : Fin 12) (hk : k.val = 5 ∨ k.val = 6 ∨ k.val = 7) (w : Word) :
    s.writeStr (R.STR_AXCFG a + 4 * k) w = s.writePlain (R.STR_AXCFG a + 4 * k) w := by
  have hdb : R.STR_AXCFG a + 4 * k ≠ R.STR_SNAP_DB := by simp only [R.STR_AXCFG, R.STR_SNAP_DB]; omega
  have hblock : R.STR_AXCFG a + 4 * k < R.STR_AXCFG 8 := by simp only [R.STR_AXCFG]; omega
  have hplace : (R.STR_AXCFG a + 4 * k - R.STR_AXCFG 0) % 0x100 = 4 * k := by simp only [R.STR_AXCFG]; omega
  rw [State.writeStr, if_neg hdb, if_pos hblock]
  simp only [hplace]
  rcases hk with hk | hk | hk <;> simp [hk]

theorem axisCfgWrite_timedConfig (s : State) (acc : Acc) (a : Fin 8) (k : Fin 12) (v : Word) (hk : k.val = 5 ∨ k.val = 6 ∨ k.val = 7)
    (h : s.takesWrite acc (R.STR_AXCFG a + 4 * k)) :
    Gives (exec (.axisCfgWrite acc a k v) s) (fun t => t.reg (R.STR_AXCFG a + 4 * k) = v ∧
      (∀ b, b ≠ R.STR_AXCFG a + 4 * k → t.reg b = s.reg b) ∧ t.str = s.str ∧ t.mem = s.mem) := by
  have hexec : exec (.axisCfgWrite acc a k v) s = execAxisCfgWrite acc a k v s := by rfl
  obtain ⟨hrw, hall⟩ := timedConfig_fields a k hk
  refine ⟨s.writePlain (R.STR_AXCFG a + 4 * k) v, ?_, ?_, ?_, ?_, ?_⟩
  · rw [hexec, execAxisCfgWrite, State.guardWrite_of_takesWrite s acc _ _ h, State.writeStr_timedConfig s a k hk]
  · rw [State.writePlain, State.reg_setReg_same, writtenWord_of_rw _ _ _ _ hrw hall]
  · exact fun b hb => State.reg_setReg_ne s _ hb
  · exact s.writePlain_str _ v
  · exact s.writePlain_mem _ v

/-! ### Standstill (R79) -/

theorem standstillEntry_stops (s : State) (a : Fin 8) (t0 : Nat) (hslow : (s.axis a).slowAt = some t0)
    (hstate : s.axState a = axRUN ∨ s.axState a = axBLEND) (hstill : s.flag (F.STR_AXSTAT_STILL a) = false)
    (hdwell : t0 + 1000000 * s.axF a 5 F.STR_AXSTILL_DWELL ≤ s.now) (htick : s.now = s.str.tickAt) (hactive : s.axActive a < 3)
    (hrate : (s.slotRate a (s.axActive a) s.now * 1000000).natAbs < s.axF a 5 F.STR_AXSTILL_RATE * 2 ^ 32) :
    Gives (exec (.standstillEntry a) s) (fun t => t.flag (F.STR_AXSTAT_STILL a) ∧ t.axRate a = 0 ∧ t.axState a = axRUN ∧
      (∀ u, t.axPos a u = s.axPos a s.now) ∧ t.mem = s.mem) := by
  have hexec : exec (.standstillEntry a) s = execStandstillEntry a s := by rfl
  have hdue : s.stillDue a s.now = true := by
    simp only [State.stillDue, hslow, hstill, Bool.not_false, Bool.and_true, Bool.and_eq_true, Bool.or_eq_true, decide_eq_true_eq]
    exact ⟨⟨⟨hstate, hactive⟩, hrate⟩, hdwell⟩
  have hflag := s.flag_STILL_axStill a s.now
  have hrest : (s.axStill a s.now).atRest a := .inr (.inr hflag)
  refine ⟨s.axStill a s.now, ?_, hflag, State.axRate_of_atRest hrest, s.axState_axStill a _ hstate, fun u => ?_, unmoved_mem.axStill s a _⟩
  · rw [hexec, execStandstillEntry, if_pos ⟨htick, hdue⟩]
  · rw [State.axPos_of_atRest hrest, State.axis_axStill]

/-! ### Health (R80, R81) -/

theorem sourceTimeout_fails (s : State) (a : Fin 8) (k : Fin 3) (hstate : s.axState a ≠ axDISABLED) (hcode : s.axCode a k ≠ 0)
    (hok : ((s.axis a).slot k).ok) (hbad : s.slotBad a k) :
    Gives (exec (.sourceTimeout a k) s) (fun t => ((t.axis a).slot k).ok = false ∧
      (t.fld (F.STR_AXSTAT_SRC_OK a)).testBit k = false ∧ t.mem = s.mem) := by
  have hexec : exec (.sourceTimeout a k) s = execSourceTimeout a k s := by rfl
  refine ⟨s.slotFail a k, ?_, ?_, s.srcOk_slotFail a k, unmoved_mem.slotFail s a k⟩
  · rw [hexec, execSourceTimeout, if_pos ⟨hstate, hcode, hok, hbad⟩]
  · rw [State.axis_slotFail, Axis.slot_setSlot_same]

/-- Slot k of axis a healthy again, as SRC_OK shows (R80). -/
def State.slotRestored (s : State) (a k : Nat) : State :=
  (s.setAxis a ((s.axis a).setSlot k { (s.axis a).slot k with ok := true, goodAt := none, refAt := none })).axShowOk a

theorem exec_sourceRestore_of_held (s : State) (a : Fin 8) (k : Fin 3) (hstate : s.axState a ≠ axDISABLED) (hcode : s.axCode a k ≠ 0)
    (hok : ((s.axis a).slot k).ok = false)
    (hheld : (((s.axis a).slot k).goodAt = none ∧ s.axF a 8 F.STR_AXREST_RESTORE = 0) ∨
      ∃ u, ((s.axis a).slot k).goodAt = some u ∧ u + 1000000 * s.axF a 8 F.STR_AXREST_RESTORE ≤ s.now)
    (hgood : s.slotGood a k) : exec (.sourceRestore a k) s = .next (s.slotRestored a k) := by
  have hexec : exec (.sourceRestore a k) s = execSourceRestore a k s := by rfl
  rw [hexec, execSourceRestore]
  refine if_pos ⟨hstate, hcode, by rw [hok]; rfl, ?_, hgood⟩
  rcases hheld with ⟨hnone, hzero⟩ | ⟨u, hsome, hu⟩
  · rw [hnone]
    exact decide_eq_true hzero
  · rw [hsome]
    exact decide_eq_true hu

theorem State.srcOk_slotRestored (s : State) (a : Fin 8) (k : Fin 3) (hcode : s.axCode a k ≠ 0) :
    ((s.slotRestored a k).fld (F.STR_AXSTAT_SRC_OK a)).testBit k = true := by
  have hkeep (x : Axis) : (s.setAxis a x).axCode a k ≠ 0 := hcode
  rw [State.slotRestored, State.srcOk_axShowOk, State.axis_setAxis_same, Axis.slot_setSlot_same, decide_eq_true (hkeep _), Bool.true_and]

theorem sourceRestore_heals (s : State) (a : Fin 8) (k : Fin 3) (hstate : s.axState a ≠ axDISABLED) (hcode : s.axCode a k ≠ 0)
    (hok : ((s.axis a).slot k).ok = false)
    (hheld : (((s.axis a).slot k).goodAt = none ∧ s.axF a 8 F.STR_AXREST_RESTORE = 0) ∨
      ∃ u, ((s.axis a).slot k).goodAt = some u ∧ u + 1000000 * s.axF a 8 F.STR_AXREST_RESTORE ≤ s.now)
    (hgood : s.slotGood a k) :
    Gives (exec (.sourceRestore a k) s) (fun t => ((t.axis a).slot k).ok ∧ (t.fld (F.STR_AXSTAT_SRC_OK a)).testBit k ∧ t.mem = s.mem) := by
  refine ⟨_, exec_sourceRestore_of_held s a k hstate hcode hok hheld hgood, ?_, s.srcOk_slotRestored a k hcode, ?_⟩
  · rw [State.slotRestored, State.axis_axShowOk, State.axis_setAxis_same, Axis.slot_setSlot_same]
  · rw [State.slotRestored, unmoved_mem.axShowOk, State.setAxis_mem]

/-- The cross-check has failed: XCHK_FAIL, and the active slot of axis a unhealthy (R81). -/
def State.xFailed (s : State) (a : Nat) : State :=
  ((s.setAxis a { s.axis a with xAt := none }).axFlag F.STR_AXSTAT_XCHK_FAIL a).slotFail a (s.axActive a)

theorem exec_axisXchk_of_failed (s : State) (a : Fin 8) (u : Nat) (hu : (s.axis a).xAt = some u) (hfails : s.xFails a s.now)
    (hdwell : u + 1000000 * s.axF a 7 F.STR_AXXCHK_XDWELL ≤ s.now) :
    ∃ args, exec (.axisXchk a) s = .next ((s.xFailed a).event 0x0202 args) := by
  have hexec : exec (.axisXchk a) s = execAxisXchk a s := by rfl
  have helapsed : s.elapsed u (1000000 * s.axF a 7 F.STR_AXXCHK_XDWELL) = true := decide_eq_true hdwell
  rw [hexec]
  simp only [execAxisXchk, hu]
  rw [if_pos ⟨hfails, helapsed⟩]
  exact ⟨_, rfl⟩

theorem axisXchk_fails (s : State) (a : Fin 8) (u : Nat) (hu : (s.axis a).xAt = some u) (hfails : s.xFails a s.now)
    (hdwell : u + 1000000 * s.axF a 7 F.STR_AXXCHK_XDWELL ≤ s.now) :
    Gives (exec (.axisXchk a) s) (fun t => t.flag (F.STR_AXSTAT_XCHK_FAIL a) ∧ ((t.axis a).slot (s.axActive a)).ok = false ∧
      t.mem = s.mem) := by
  have hstat := axStat_XCHK_FAIL a
  obtain ⟨args, hexec⟩ := exec_axisXchk_of_failed s a u hu hfails hdwell
  refine ⟨_, hexec, ?_, ?_, ?_⟩
  · rw [State.flag_congr (hstat.fld_event _ _ _), State.xFailed, State.flag_XCHK_FAIL_slotFail]
    exact hstat.flag_axFlag _
  · rw [State.axis_event, State.xFailed, State.axis_slotFail, Axis.slot_setSlot_same]
  · rw [unmoved_mem.event, State.xFailed, unmoved_mem.slotFail, unmoved_mem.axFlag, State.setAxis_mem]

/-! ### Loss (R84) -/

theorem axisLost_stops (s : State) (a : Fin 8) (hstate : s.axState a = axCOAST)
    (hcoast : (s.axis a).coastAt + 1000000 * s.axF a 6 F.STR_AXLOSS_COAST ≤ s.now) (hbest : s.axBest a = none) (htick : s.now = s.str.tickAt) :
    Gives (exec (.axisLost a) s) (fun t => t.axState a = axLOST ∧ t.axActive a = 3 ∧ t.flag (F.STR_AXSTAT_AXIS_LOST a) ∧
      t.axRate a = 0 ∧ (∀ u, t.axPos a u = s.axPos a s.now) ∧ t.mem = s.mem) := by
  have hexec : exec (.axisLost a) s = execAxisLost a s := by rfl
  have hgone : s.elapsed (s.axis a).coastAt (1000000 * s.axF a 6 F.STR_AXLOSS_COAST) = true := decide_eq_true hcoast
  have hlost : (((s.noteCross s.now).axLose a s.now).crossWait a).axState a = axLOST :=
    ((uncrossed_fld _).crossWait _ a).trans (State.axState_axLose _ a _)
  have hrest : (((s.noteCross s.now).axLose a s.now).crossWait a).atRest a := .inr (.inl hlost)
  refine ⟨_, ?_, hlost, ?_, ?_, State.axRate_of_atRest hrest, fun u => ?_, ?_⟩
  · rw [hexec, execAxisLost]
    exact if_pos ⟨htick, .inl ⟨hstate, hgone⟩, by rw [hbest]; rfl⟩
  · exact ((uncrossed_fld _).crossWait _ a).trans (State.axActive_axLose _ a _)
  · rw [State.flag_congr ((uncrossed_fld _).crossWait _ a), State.flag_AXIS_LOST_axLose]
  · rw [State.axPos_of_atRest hrest, (uncrossed_axis a).crossWait, State.axis_axLose, (uncrossed_axPos a s.now).noteCross]
  · rw [uncrossed_mem.crossWait, unmoved_mem.axLose, uncrossed_mem.noteCross]

/-! ### The reading of a position (R93) -/

/-- A read that reaches its register returns the value and has the read's effect. -/
theorem State.guardRead_of_takesRead (s : State) (acc : Acc) (a : Nat) (v : State → Word) (k : State → State) (h : s.takesRead acc a) :
    s.guardRead acc a v k = { k s with rdata := v s } := by
  simp only [State.takesRead, Bool.and_eq_true, Option.isNone_iff_eq_none] at h
  obtain ⟨hpresent, hpermits⟩ := h
  simp [State.guardRead, hpresent, hpermits]

theorem State.reg_setReg64_ne (s : State) {lo hi b : Nat} (v : Nat) (hlo : b ≠ lo) (hhi : b ≠ hi) : (s.setReg64 lo hi v).reg b = s.reg b := by
  rw [State.setReg64, State.reg_setReg_ne _ _ hhi, State.reg_setReg_ne _ _ hlo]

theorem State.reg_setReg64_lo (s : State) {lo hi : Nat} (v : Nat) (h : lo ≠ hi) : (s.setReg64 lo hi v).reg lo = w32 v := by
  rw [State.setReg64, State.reg_setReg_ne _ _ h, State.reg_setReg_same, w32]

theorem State.reg_setReg64_hi (s : State) (lo hi v : Nat) : (s.setReg64 lo hi v).reg hi = w32 (v / 2 ^ 32) := by
  rw [State.setReg64, State.reg_setReg_same, w32]

theorem toBits_lt (n : Nat) (x : Int) : toBits n x < 2 ^ n := by
  have hpos : (0 : Int) < (2 ^ n : Nat) := by exact_mod_cast Nat.two_pow_pos n
  have := Int.emod_lt_of_pos x hpos
  have := Int.emod_nonneg x (ne_of_gt hpos)
  rw [toBits]
  omega

theorem State.reg_POS_HI_axLatch (s : State) (a : Nat) : (s.axLatch a).reg (R.STR_AXPOS_HI a) = w32 (s.axCount a s.now / 2 ^ 32) := by
  simp only [State.axLatch]
  rw [State.reg_setReg64_ne _ _ (by simp [R.STR_AXPOS_HI, R.STR_AXRATE_LO]) (by simp [R.STR_AXPOS_HI, R.STR_AXRATE_HI]),
    State.reg_setFld_ne _ _ _ _ (by simp [R.STR_AXPOS_HI, F.STR_AXFRAC_FRAC, R.STR_AXFRAC]), State.reg_setReg64_hi]

theorem State.fld_FRAC_axLatch (s : State) (a : Nat) : (s.axLatch a).fld (F.STR_AXFRAC_FRAC a) = toBits 16 (s.axPos a s.now) := by
  have hpos : (s.setReg64 (R.STR_AXPOS_LO a) (R.STR_AXPOS_HI a) (s.axCount a s.now)).axPos a s.now = s.axPos a s.now :=
    State.axPos_congr (State.axis_congr (s.setReg64_str _ _ _) a)
      (s.reg_setReg64_ne _ (by simp [R.STR_AXSTAT, R.STR_AXPOS_LO]) (by simp [R.STR_AXSTAT, R.STR_AXPOS_HI])) _
  simp only [State.axLatch, State.setReg64_now, hpos]
  rw [State.fld_congr (State.reg_setReg64_ne _ _ (by simp [F.STR_AXFRAC_FRAC, R.STR_AXFRAC, R.STR_AXRATE_LO])
    (by simp [F.STR_AXFRAC_FRAC, R.STR_AXFRAC, R.STR_AXRATE_HI])), State.fld_setFld_same _ _ (by simp [F.STR_AXFRAC_FRAC, Fld.Ok])]
  exact Nat.mod_eq_of_lt (toBits_lt 16 _)

theorem axisPosRead_latches (s : State) (acc : Acc) (a : Fin 8) (h : s.takesRead acc (R.STR_AXPOS_LO a)) :
    Gives (exec (.axisPosRead acc a) s) (fun t => t.rdata = w32 (s.axCount a s.now) ∧
      t.reg (R.STR_AXPOS_HI a) = w32 (s.axCount a s.now / 2 ^ 32) ∧ t.fld (F.STR_AXFRAC_FRAC a) = toBits 16 (s.axPos a s.now) ∧
      t.str = s.str ∧ t.mem = s.mem) := by
  have hexec : exec (.axisPosRead acc a) s = execAxisPosRead acc a s := by rfl
  refine ⟨{ s.axLatch a with rdata := w32 (s.axCount a s.now) }, ?_, rfl, ?_, ?_, ?_, ?_⟩
  · rw [hexec, execAxisPosRead, State.guardRead_of_takesRead s acc _ _ _ h]
  · exact s.reg_POS_HI_axLatch a
  · exact s.fld_FRAC_axLatch a
  · simp only [State.axLatch, State.setReg64_str, State.setFld_str]
  · simp only [State.axLatch, State.setReg64_mem, State.setFld_mem]

/-- Settles O9, command by command. -/
theorem axisCommandsComplete : Obligations.AxisCommandsComplete :=
  ⟨strideTick_takesTick, axisEnable_valid, axisDisable_completes, axisCfgWrite_timedConfig, standstillEntry_stops, sourceTimeout_fails,
    sourceRestore_heals, axisXchk_fails, axisLost_stops, axisPosRead_latches⟩

end Sys2Proof.Machine
end

section
/-! Stride: arming and firing of triggers, snapshots (R86-R89). -/

namespace Sys2Proof.Machine

/-! ### Arming (R87) -/

@[simp] theorem State.trg_setTrg_same (s : State) (n : Nat) (x : Option Cross) : (s.setTrg n x).trg n = x := SMap.get_set_same _ _ _

@[simp] theorem State.fld_setTrg (s : State) (n : Nat) (x : Option Cross) (f : Fld) : (s.setTrg n x).fld f = s.fld f := rfl

@[simp] theorem State.flag_setTrg (s : State) (n : Nat) (x : Option Cross) (f : Fld) : (s.setTrg n x).flag f = s.flag f := rfl

@[simp] theorem State.trg_setFld (s : State) (f : Fld) (v n : Nat) : (s.setFld f v).trg n = s.trg n := rfl

theorem State.trg_congr {s t : State} (h : t.str = s.str) (n : Nat) : t.trg n = s.trg n := by rw [State.trg, State.trg, h]

/-- A field above bit 0 does not see a 1 written to it. -/
theorem Fld.get_or_one (f : Fld) (h : 0 < f.lo) (w : Word) : f.get (w ||| 1) = f.get w := by
  apply Nat.eq_of_testBit_eq
  intro i
  have hone : (1 : Word).getLsbD (f.lo + i) = false := by
    rw [BitVec.ofNat_eq_ofNat, BitVec.getLsbD_one]
    simp only [Bool.and_eq_false_iff, decide_eq_false_iff_not]
    omega
  rw [Fld.testBit_get, Fld.testBit_get, BitVec.getLsbD_or, hone, Bool.or_false]

/-- The configuration register of trigger n after a write of v with EN 1. -/
def State.trgWritten (s : State) (n : Nat) (v : Word) : State := s.writePlain (R.STR_TRGCFG n) (v ||| 1)

theorem State.trgWritten_EN (s : State) (n : Fin 32) (v : Word) : (s.trgWritten n v).flag (F.STR_TRGCFG_EN n) = true := by
  have hmem : ∀ n : Fin 32, (⟨0, 0, .rw, 0, .rtx, .rtx⟩ : FieldRow) ∈ fieldsAt (R.STR_TRGCFG n) := by decide +kernel
  refine decide_eq_true ?_
  refine ((State.fld_setReg_same s (F.STR_TRGCFG_EN n) _).trans (Fld.get_writtenWord _ _ _ (hmem n) _ _ _)).trans ?_
  refine (Fld.get_bit ⟨0, 0, 0⟩ rfl _).trans ?_
  simp

/-- Fields of the configuration other than EN take the bits written. -/
theorem State.trgWritten_fld (s : State) (n : Fin 32) (v : Word) {hi lo : Nat} (hlo : 0 < lo)
    (hmem : (⟨hi, lo, .rw, 0, .rtx, .rtx⟩ : FieldRow) ∈ fieldsAt (R.STR_TRGCFG n)) :
    (s.trgWritten n v).fld ⟨R.STR_TRGCFG n, hi, lo⟩ = (⟨R.STR_TRGCFG n, hi, lo⟩ : Fld).get v :=
  ((State.fld_setReg_same s ⟨R.STR_TRGCFG n, hi, lo⟩ _).trans (Fld.get_writtenWord _ _ _ hmem _ _ _)).trans
    (Fld.get_or_one ⟨0, hi, lo⟩ hlo v)

theorem STR_TRGCFG_fields (n : Fin 32) : (⟨11, 8, .rw, 0, .rtx, .rtx⟩ : FieldRow) ∈ fieldsAt (R.STR_TRGCFG n) ∧
    (⟨5, 4, .rw, 0, .rtx, .rtx⟩ : FieldRow) ∈ fieldsAt (R.STR_TRGCFG n) ∧
    (⟨3, 1, .rw, 0, .rtx, .rtx⟩ : FieldRow) ∈ fieldsAt (R.STR_TRGCFG n) := by
  revert n
  decide +kernel

theorem State.trgWritten_ACTION (s : State) (n : Fin 32) (v : Word) :
    (s.trgWritten n v).fld (F.STR_TRGCFG_ACTION n) = (F.STR_TRGCFG_ACTION n).get v :=
  s.trgWritten_fld n v (by decide) (STR_TRGCFG_fields n).1

theorem State.trgWritten_DIRN (s : State) (n : Fin 32) (v : Word) :
    (s.trgWritten n v).fld (F.STR_TRGCFG_DIRN n) = (F.STR_TRGCFG_DIRN n).get v :=
  s.trgWritten_fld n v (by decide) (STR_TRGCFG_fields n).2.1

theorem State.trgWritten_AXIS (s : State) (n : Fin 32) (v : Word) :
    (s.trgWritten n v).fld (F.STR_TRGCFG_AXIS n) = (F.STR_TRGCFG_AXIS n).get v :=
  s.trgWritten_fld n v (by decide) (STR_TRGCFG_fields n).2.2

theorem exec_triggerArm_of_takesWrite (s : State) (acc : Acc) (n : Fin 32) (v : Word) (h : s.takesWrite acc (R.STR_TRGCFG n)) :
    exec (.triggerArm acc n v) s = .next ((s.trgWritten n v).arm n) := by
  have hexec : exec (.triggerArm acc n v) s = execTriggerArm acc n v s := by rfl
  rw [hexec, execTriggerArm, State.guardWrite_of_takesWrite s acc _ _ h, State.writeTrgCfg]
  exact congrArg _ (if_pos (s.trgWritten_EN n v))

/-- A trigger with an allowed action and direction is armed: judged, or waiting for its axis to run. -/
theorem State.arm_allowed (s : State) (n : Nat) (haction : s.fld (F.STR_TRGCFG_ACTION n) < 3) (hdirn : s.fld (F.STR_TRGCFG_DIRN n) ≠ 0) :
    ∃ x, s.arm n = s.setTrg n (some x) := by
  rw [State.arm, if_neg (by omega)]
  split
  · exact ⟨_, rfl⟩
  · exact ⟨_, rfl⟩

theorem State.arm_refused (s : State) (n : Nat) (h : 3 ≤ s.fld (F.STR_TRGCFG_ACTION n) ∨ s.fld (F.STR_TRGCFG_DIRN n) = 0) :
    s.arm n = ((s.setFld (F.STR_TRGCFG_EN n) 0).setFld (F.STR_TRGSTAT_CFG_ERR n) 1).setTrg n none := by
  rw [State.arm, if_pos h]

theorem triggerArm_arms (s : State) (acc : Acc) (n : Fin 32) (v : Word) (h : s.takesWrite acc (R.STR_TRGCFG n))
    (haction : (F.STR_TRGCFG_ACTION n).get v < 3) (hdirn : (F.STR_TRGCFG_DIRN n).get v ≠ 0) :
    Gives (exec (.triggerArm acc n v) s) (fun t => t.flag (F.STR_TRGCFG_EN n) ∧ (t.trg n).isSome ∧
      t.fld (F.STR_TRGCFG_AXIS n) = (F.STR_TRGCFG_AXIS n).get v ∧ t.reg (R.STR_TRGPOS n) = s.reg (R.STR_TRGPOS n) ∧ t.mem = s.mem) := by
  have hne : R.STR_TRGPOS n ≠ R.STR_TRGCFG n := by simp [R.STR_TRGPOS, R.STR_TRGCFG]
  obtain ⟨x, harm⟩ := (s.trgWritten n v).arm_allowed n (by rwa [State.trgWritten_ACTION]) (by rwa [State.trgWritten_DIRN])
  refine ⟨_, (exec_triggerArm_of_takesWrite s acc n v h).trans (congrArg _ harm), ?_, ?_, ?_, ?_, ?_⟩
  · rw [State.flag_setTrg, State.trgWritten_EN]
  · rw [State.trg_setTrg_same]; rfl
  · rw [State.fld_setTrg, State.trgWritten_AXIS]
  · exact State.reg_setReg_ne s _ hne
  · rw [State.setTrg_mem, State.trgWritten, State.writePlain_mem]

theorem triggerArm_refuses (s : State) (acc : Acc) (n : Fin 32) (v : Word) (h : s.takesWrite acc (R.STR_TRGCFG n))
    (hbad : 3 ≤ (F.STR_TRGCFG_ACTION n).get v ∨ (F.STR_TRGCFG_DIRN n).get v = 0) :
    Gives (exec (.triggerArm acc n v) s) (fun t => t.flag (F.STR_TRGCFG_EN n) = false ∧ t.flag (F.STR_TRGSTAT_CFG_ERR n) ∧
      t.trg n = none) := by
  have hne : (F.STR_TRGCFG_EN n).addr ≠ (F.STR_TRGSTAT_CFG_ERR n).addr := by
    simp [F.STR_TRGCFG_EN, F.STR_TRGSTAT_CFG_ERR, R.STR_TRGCFG, R.STR_TRGSTAT]
  have harm := (s.trgWritten n v).arm_refused n (by rwa [State.trgWritten_ACTION, State.trgWritten_DIRN])
  refine ⟨_, (exec_triggerArm_of_takesWrite s acc n v h).trans (congrArg _ harm), ?_, ?_, State.trg_setTrg_same _ _ _⟩
  · rw [State.flag_setTrg, State.flag_congr (State.fld_setFld_ne _ _ _ hne _)]
    exact State.flag_setFld_zero _ _ (by simp [F.STR_TRGCFG_EN, Fld.Ok])
  · rw [State.flag_setTrg]
    exact State.flag_setFld_one _ _ (by simp [F.STR_TRGSTAT_CFG_ERR, Fld.Ok])

/-! ### Snapshots (R88) -/

/-- The position, fraction and rate of axis a at an instant in its snapshot registers. -/
def State.snapAxis (t : Nat) (s : State) (a : Nat) : State :=
  let u := max t (s.axis a).at_
  let s := s.setReg64 (R.STR_SNAP_POS_LO a) (R.STR_SNAP_POS_HI a) (s.axCount a u)
  let s := s.setFld (F.STR_SNAP_FRAC_FRAC a) (toBits 16 (s.axPos a u))
  s.setReg64 (R.STR_SNAP_RATE_LO a) (R.STR_SNAP_RATE_HI a) (toBits 64 (s.axShownRate a))

/-- The snapshot registers of the first n axes taken. -/
def State.snapAxes (s : State) (t n : Nat) : State := (List.range n).foldl (State.snapAxis t) s

/-- The instant, SEQ and cause of a snapshot in their registers. -/
def State.snapStat (s : State) (doorbell : Bool) (n t : Nat) : State :=
  let s := s.setReg64 R.STR_SNAP_MTB_LO R.STR_SNAP_MTB_HI t
  let s := s.setFld F.STR_SNAP_STAT_SEQ (s.fld F.STR_SNAP_STAT_SEQ + 1)
  (s.setBit F.STR_SNAP_STAT_DOORBELL doorbell).setFld F.STR_SNAP_STAT_TRG (if doorbell then 0 else n)

/-- The µs of the last snapshot, and what made it. -/
def State.setSnapUs (s : State) (x : Nat × Bool × Bool) : State := { s with str := { s.str with snapUs := x } }

/-- A snapshot of all axes, in no µs of another. -/
def State.snapNew (s : State) (doorbell : Bool) (n t : Nat) : State :=
  (((s.snapAxes t 8).snapStat doorbell n t).setSnapUs (t / 1000 + 1, doorbell, !doorbell)).pend 180

/-- A snapshot that joins one of its µs. -/
def State.snapJoined (s : State) : State :=
  (s.setSnapUs (s.str.snapUs.1, true, true)).setFld F.STR_SNAP_STAT_DOORBELL 1

@[simp] theorem State.reg_setSnapUs (s : State) (x : Nat × Bool × Bool) (b : Nat) : (s.setSnapUs x).reg b = s.reg b := rfl

@[simp] theorem State.setSnapUs_mem (s : State) (x : Nat × Bool × Bool) : (s.setSnapUs x).mem = s.mem := rfl

theorem State.snapshot_eq (s : State) (doorbell : Bool) (n t : Nat) : s.snapshot doorbell n t =
    if decide (s.str.snapUs.1 = t / 1000 + 1) && (if doorbell then s.str.snapUs.2.2 && !s.str.snapUs.2.1 else s.str.snapUs.2.1)
    then s.snapJoined else s.snapNew doorbell n t := by
  rfl

/-! ### What a snapshot shows -/

section
variable (s : State) (doorbell : Bool) (n t : Nat)

theorem State.snapAxis_within (a : Nat) : Within [R.STR_SNAP_POS_LO a, R.STR_SNAP_POS_HI a, R.STR_SNAP_FRAC a, R.STR_SNAP_RATE_LO a,
    R.STR_SNAP_RATE_HI a] s (State.snapAxis t s a) := by
  refine .setReg (.setReg (.setFld (.setReg (.setReg (.refl _ s) ?_) ?_) ?_) ?_) ?_
  · simp
  · simp
  · simp [F.STR_SNAP_FRAC_FRAC]
  · simp
  · simp

@[simp] theorem State.snapAxis_str (a : Nat) : (State.snapAxis t s a).str = s.str := by
  simp only [State.snapAxis, State.setReg64_str, State.setFld_str]

@[simp] theorem State.snapAxis_mem (a : Nat) : (State.snapAxis t s a).mem = s.mem := by
  simp only [State.snapAxis, State.setReg64_mem, State.setFld_mem]

theorem State.reg_POS_LO_snapAxis (a : Nat) : (State.snapAxis t s a).reg (R.STR_SNAP_POS_LO a) = w32 (s.axCount a (max t (s.axis a).at_)) := by
  simp only [State.snapAxis]
  rw [State.reg_setReg64_ne _ _ (by simp [R.STR_SNAP_POS_LO, R.STR_SNAP_RATE_LO]) (by simp [R.STR_SNAP_POS_LO, R.STR_SNAP_RATE_HI]),
    State.reg_setFld_ne _ _ _ _ (by simp [R.STR_SNAP_POS_LO, F.STR_SNAP_FRAC_FRAC, R.STR_SNAP_FRAC]),
    State.reg_setReg64_lo _ _ (by simp [R.STR_SNAP_POS_LO, R.STR_SNAP_POS_HI])]

theorem State.snapAxes_succ : s.snapAxes t (n + 1) = (s.snapAxes t n).snapAxis t n := by
  rw [State.snapAxes, List.range_succ, List.foldl_append]
  rfl

@[simp] theorem State.snapAxes_str : (s.snapAxes t n).str = s.str := State.foldl_keeps (fun u a => u.snapAxis_str t a) _ s

@[simp] theorem State.snapAxes_mem : (s.snapAxes t n).mem = s.mem := State.foldl_keeps (fun u a => u.snapAxis_mem t a) _ s

/-- The snapshot of the axes changes no register below it. -/
theorem State.reg_snapAxes_below {b : Nat} (hb : b < R.STR_SNAP_POS_LO 0) : (s.snapAxes t n).reg b = s.reg b := by
  refine State.foldl_keeps (p := fun u => u.reg b) (fun u a => (u.snapAxis_within t a).onlyRegs b ?_) _ s
  simp only [R.STR_SNAP_POS_LO] at hb
  simp only [R.STR_SNAP_POS_LO, R.STR_SNAP_POS_HI, R.STR_SNAP_FRAC, R.STR_SNAP_RATE_LO, R.STR_SNAP_RATE_HI, List.mem_cons,
    List.not_mem_nil, or_false]
  omega

/-- Every axis is read in its state of one instant (R88). -/
theorem State.reg_POS_LO_snapAxes (hn : n ≤ 8) {a : Nat} (ha : a < n) :
    (s.snapAxes t n).reg (R.STR_SNAP_POS_LO a) = w32 (s.axCount a (max t (s.axis a).at_)) := by
  induction n with
  | zero => omega
  | succ n ih =>
    rw [State.snapAxes_succ]
    rcases Nat.lt_succ_iff_lt_or_eq.mp ha with hlt | rfl
    · rw [((s.snapAxes t n).snapAxis_within t n).onlyRegs, ih (by omega) hlt]
      simp only [R.STR_SNAP_POS_LO, R.STR_SNAP_POS_HI, R.STR_SNAP_FRAC, R.STR_SNAP_RATE_LO, R.STR_SNAP_RATE_HI, List.mem_cons,
        List.not_mem_nil, or_false]
      omega
    · have hstat : R.STR_AXSTAT a < R.STR_SNAP_POS_LO 0 := by simp only [R.STR_AXSTAT, R.STR_SNAP_POS_LO]; omega
      rw [State.reg_POS_LO_snapAxis, State.axis_congr (s.snapAxes_str a t),
        State.axCount_congr (State.axis_congr (s.snapAxes_str a t) a) (s.reg_snapAxes_below a t hstat)]

theorem State.snapStat_within : Within [R.STR_SNAP_MTB_LO, R.STR_SNAP_MTB_HI, R.STR_SNAP_STAT] s (s.snapStat doorbell n t) := by
  refine .setFld (.setFld (.setFld (.setReg (.setReg (.refl _ s) ?_) ?_) ?_) ?_) ?_
  · simp
  · simp
  · simp [F.STR_SNAP_STAT_SEQ]
  · simp [F.STR_SNAP_STAT_DOORBELL]
  · simp [F.STR_SNAP_STAT_TRG]

@[simp] theorem State.snapStat_mem : (s.snapStat doorbell n t).mem = s.mem := by
  simp only [State.snapStat, State.setBit]
  rw [State.setFld_mem, State.setFld_mem, State.setFld_mem, State.setReg64_mem]

theorem State.snapStat_seq :
    (s.snapStat doorbell n t).fld F.STR_SNAP_STAT_SEQ = (s.fld F.STR_SNAP_STAT_SEQ + 1) % 2 ^ 16 := by
  simp only [State.snapStat, State.setBit]
  rw [State.fld_setFld_other _ _ _ (by decide) (by decide) (by decide), State.fld_setFld_other _ _ _ (by decide) (by decide) (by decide),
    State.fld_setFld_same _ _ (by decide), State.fld_congr (State.reg_setReg64_ne _ _ (by decide) (by decide))]
  rfl

theorem State.snapStat_doorbell : (s.snapStat true n t).flag F.STR_SNAP_STAT_DOORBELL = true := by
  simp only [State.snapStat, State.setBit]
  rw [State.flag_congr (State.fld_setFld_other _ _ _ (by decide) (by decide) (by decide) _)]
  exact State.flag_setFld_one _ _ (by decide)

theorem State.snapStat_mtb : (s.snapStat doorbell n t).reg R.STR_SNAP_MTB_LO = w32 t ∧
    (s.snapStat doorbell n t).reg R.STR_SNAP_MTB_HI = w32 (t / 2 ^ 32) := by
  simp only [State.snapStat, State.setBit]
  constructor
  · rw [State.reg_setFld_ne _ _ _ _ (by decide), State.reg_setFld_ne _ _ _ _ (by decide), State.reg_setFld_ne _ _ _ _ (by decide),
      State.reg_setReg64_lo _ _ (by decide)]
  · rw [State.reg_setFld_ne _ _ _ _ (by decide), State.reg_setFld_ne _ _ _ _ (by decide), State.reg_setFld_ne _ _ _ _ (by decide),
      State.reg_setReg64_hi]

/-- A new snapshot shows, in the registers of Stride, its axes, its instant and its cause. -/
theorem State.reg_snapNew {b : Nat} (hb : R.STR_AXCFG 0 ≤ b) :
    (s.snapNew doorbell n t).reg b = ((s.snapAxes t 8).snapStat doorbell n t).reg b := by
  have hpend : b ≠ R.RNG_INT_PEND (180 / 32) := by simp only [R.STR_AXCFG] at hb; simp only [R.RNG_INT_PEND]; omega
  rw [State.snapNew, State.pend, State.reg_setReg_ne _ _ hpend, State.reg_setSnapUs]

theorem State.snapNew_mem : (s.snapNew doorbell n t).mem = s.mem := by
  rw [State.snapNew, State.pend_mem, State.setSnapUs_mem, State.snapStat_mem, State.snapAxes_mem]

end

theorem exec_strideSnapshot_of_takesWrite (s : State) (acc : Acc) (h : s.takesWrite acc R.STR_SNAP_DB) :
    exec (.strideSnapshot acc) s = .next (s.snapshot true 0 s.now) := by
  have hexec : exec (.strideSnapshot acc) s = execStrideSnapshot acc s := by rfl
  have hgo : F.STR_SNAP_DB_GO.get 1 = 1 := by decide
  rw [hexec, execStrideSnapshot, State.guardWrite_of_takesWrite s acc _ _ h, State.writeSnapDb, if_pos hgo]

theorem strideSnapshot_takes (s : State) (acc : Acc) (h : s.takesWrite acc R.STR_SNAP_DB) (hus : s.str.snapUs.1 ≠ s.now / 1000 + 1)
    (hat : ∀ a < 8, (s.axis a).at_ ≤ s.now) :
    Gives (exec (.strideSnapshot acc) s) (fun t => t.fld F.STR_SNAP_STAT_SEQ = (s.fld F.STR_SNAP_STAT_SEQ + 1) % 2 ^ 16 ∧
      t.flag F.STR_SNAP_STAT_DOORBELL ∧ t.reg R.STR_SNAP_MTB_LO = w32 s.now ∧ t.reg R.STR_SNAP_MTB_HI = w32 (s.now / 2 ^ 32) ∧
      (∀ a < 8, t.reg (R.STR_SNAP_POS_LO a) = w32 (s.axCount a s.now)) ∧ t.isPending 180 ∧ t.mem = s.mem) := by
  have hnew : s.snapshot true 0 s.now = s.snapNew true 0 s.now := by rw [State.snapshot_eq, decide_eq_false hus]; rfl
  have hstat {f : Fld} (hf : f.addr = R.STR_SNAP_STAT) :
      (s.snapNew true 0 s.now).fld f = ((s.snapAxes s.now 8).snapStat true 0 s.now).fld f :=
    State.fld_congr (s.reg_snapNew true 0 s.now (hf ▸ by decide))
  obtain ⟨hlo, hhi⟩ := (s.snapAxes s.now 8).snapStat_mtb true 0 s.now
  refine ⟨_, (exec_strideSnapshot_of_takesWrite s acc h).trans (congrArg _ hnew), ?_, ?_, ?_, ?_, fun a ha => ?_, ?_, ?_⟩
  · rw [hstat rfl, State.snapStat_seq, State.fld_congr (s.reg_snapAxes_below 8 s.now (by decide))]
  · rw [State.flag_congr (hstat rfl), State.snapStat_doorbell]
  · rw [State.reg_snapNew _ _ _ _ (by decide), hlo]
  · rw [State.reg_snapNew _ _ _ _ (by decide), hhi]
  · have hout : R.STR_SNAP_POS_LO a ∉ [R.STR_SNAP_MTB_LO, R.STR_SNAP_MTB_HI, R.STR_SNAP_STAT] := by
      simp only [R.STR_SNAP_POS_LO, R.STR_SNAP_MTB_LO, R.STR_SNAP_MTB_HI, R.STR_SNAP_STAT, List.mem_cons, List.not_mem_nil, or_false]
      omega
    rw [State.reg_snapNew _ _ _ _ (by simp only [R.STR_AXCFG, R.STR_SNAP_POS_LO]; omega), (State.snapStat_within _ _ _ _).onlyRegs _ hout,
      State.reg_POS_LO_snapAxes s 8 s.now (Nat.le_refl 8) ha, Nat.max_eq_left (hat a ha)]
  · rw [State.snapNew, State.isPending_pend]
  · exact s.snapNew_mem true 0 s.now

theorem strideSnapshot_joins (s : State) (acc : Acc) (h : s.takesWrite acc R.STR_SNAP_DB) (hus : s.str.snapUs = (s.now / 1000 + 1, false, true)) :
    Gives (exec (.strideSnapshot acc) s) (fun t => t.flag F.STR_SNAP_STAT_DOORBELL ∧ t.fld F.STR_SNAP_STAT_SEQ = s.fld F.STR_SNAP_STAT_SEQ ∧
      t.fld F.STR_SNAP_STAT_TRG = s.fld F.STR_SNAP_STAT_TRG ∧ (∀ a, a ≠ R.STR_SNAP_STAT → t.reg a = s.reg a) ∧ t.mem = s.mem) := by
  have hjoined : s.snapshot true 0 s.now = s.snapJoined := by rw [State.snapshot_eq, hus]; simp
  refine ⟨_, (exec_strideSnapshot_of_takesWrite s acc h).trans (congrArg _ hjoined), ?_, ?_, ?_, fun a ha => ?_, ?_⟩
  · exact State.flag_setFld_one _ _ (by decide)
  · exact State.fld_setFld_other _ _ _ (by decide) (by decide) (by decide) _
  · exact State.fld_setFld_other _ _ _ (by decide) (by decide) (by decide) _
  · exact State.reg_setFld_ne _ _ _ _ ha
  · rw [State.snapJoined, State.setFld_mem, State.setSnapUs_mem]

/-! ### Readings that a snapshot does not enter -/

/-- A reading of the state that no register below those of the triggers, and nothing else that a snapshot of Stride or of the PMU
touches, enters. -/
structure Unsnapped {α : Type} (p : State → α) : Prop where
  setReg : ∀ (s : State) {b : Nat} (w : Word), b < R.STR_TRGCFG 0 → p (s.setReg b w) = p s
  withEvr : ∀ (s : State) (e : Evr), p { s with evr := e } = p s
  withMem : ∀ (s : State) (m : List (Nat × Byte)), p { s with mem := m } = p s
  withPwr : ∀ (s : State) (x : Pwr), p { s with pwr := x } = p s
  setRing : ∀ (s : State) (n : Nat) (r : Ring), p (s.setRing n r) = p s
  setSnapUs : ∀ (s : State) (x : Nat × Bool × Bool), p (s.setSnapUs x) = p s

theorem unsnapped_reg {a : Nat} (ha : R.STR_TRGCFG 0 ≤ a) : Unsnapped (fun s => s.reg a) :=
  ⟨fun s _ w hb => State.reg_setReg_ne s w (Nat.ne_of_gt (Nat.lt_of_lt_of_le hb ha)), fun _ _ => rfl, fun _ _ => rfl, fun _ _ => rfl,
    fun _ _ _ => rfl, fun _ _ => rfl⟩

theorem unsnapped_trg (n : Nat) : Unsnapped (fun s => s.trg n) :=
  ⟨fun _ _ _ _ => rfl, fun _ _ => rfl, fun _ _ => rfl, fun _ _ => rfl, fun _ _ _ => rfl, fun _ _ => rfl⟩

theorem targetOf_lt {a t : Nat} (h : targetOf a = some t) : t < 18 := by
  unfold targetOf at h
  split_ifs at h <;> cases h <;> omega

section Unsnapped
variable {α : Type} {p : State → α} (hp : Unsnapped p)
include hp

/-! #### Accesses and events -/

theorem Unsnapped.setFld (s : State) {f : Fld} (v : Nat) (hf : f.addr < R.STR_TRGCFG 0) : p (s.setFld f v) = p s := hp.setReg s _ hf

theorem Unsnapped.pend (s : State) {irq : Nat} (h : irq < 256) : p (s.pend irq) = p s := by
  refine hp.setReg s _ ?_
  simp only [R.RNG_INT_PEND, R.STR_TRGCFG]
  omega

theorem Unsnapped.raiseFlag (s : State) {f : Fld} {irq : Nat} (hf : f.addr < R.STR_TRGCFG 0) (h : irq < 256) :
    p (s.raiseFlag f irq) = p s := by
  rw [State.raiseFlag, apply_ite p, hp.pend _ h, hp.setFld _ _ hf, ite_self]

theorem Unsnapped.event (s : State) (code : Nat) (args : List Word) : p (s.event code args) = p s := by
  unfold State.event
  split
  · exact hp.withEvr s _
  · rw [State.loseEvent, hp.withEvr, hp.raiseFlag _ (by decide) (by decide), State.bump, hp.setFld _ _ (by decide)]

theorem Unsnapped.denyAt (s : State) {t : Nat} (ht : t < 18) (acc : Acc) (k : AccKind) (a : Nat) : p (s.denyAt t acc k a) = p s := by
  have hlo : R.ACC_T_FADDR_LO t < R.STR_TRGCFG 0 := by simp only [R.STR_TRGCFG, R.ACC_T_FADDR_LO]; omega
  have hhi : R.ACC_T_FADDR_HI t < R.STR_TRGCFG 0 := by simp only [R.STR_TRGCFG, R.ACC_T_FADDR_HI]; omega
  have hinfo : R.ACC_T_FINFO t < R.STR_TRGCFG 0 := by simp only [R.STR_TRGCFG, R.ACC_T_FINFO]; omega
  simp only [State.denyAt]
  rw [apply_ite p, State.bump, hp.setFld _ _ hinfo, hp.pend _ (by omega), hp.setReg _ _ hinfo, hp.setReg _ _ hhi, hp.setReg _ _ hlo,
    ite_self, State.accessEvent, hp.event]

theorem Unsnapped.deny (s : State) (acc : Acc) (k : AccKind) (a : Nat) : p (s.deny acc k a) = p s := by
  unfold State.deny
  split
  · exact hp.denyAt s (targetOf_lt ‹_›) acc k a
  · exact hp.event s _ _

theorem Unsnapped.noteAbsent (s : State) (a n : Nat) (stop : Option Nat) : p (s.noteAbsent a n stop) = p s := by
  refine State.foldl_keeps (fun u b => ?_) _ s
  split
  · exact hp.event u _ _
  · rfl

theorem Unsnapped.unitWrite (s : State) (acc : Acc) (a : Nat) (bs : List Byte) : p (s.unitWrite acc a bs).2 = p s := by
  unfold State.unitWrite
  split
  · rw [hp.deny, hp.noteAbsent]
  · rw [State.setBytes_keeps hp.withMem, hp.noteAbsent]

/-! #### The record of a PMU snapshot on its ring -/

theorem Unsnapped.startDesc (s : State) {n : Nat} (hn : n < 64) (d : Desc) : p (s.startDesc n d) = p s := by
  have hhw : (F.RNG_HW_IDX n).addr < R.STR_TRGCFG 0 := by simp only [F.RNG_HW_IDX, R.RNG_HW, R.STR_TRGCFG]; omega
  simp only [State.startDesc]
  rw [hp.setRing, hp.setFld _ _ hhw, hp.noteAbsent]

theorem Unsnapped.complete (s : State) (n didx status result : Nat) : p (s.complete n didx status result) = p s := hp.setRing s n _

theorem Unsnapped.snapDesc {n : Nat} (hn : n < 64) (fuel : Nat) (s : State) : p (s.snapDesc n fuel).2 = p s := by
  induction fuel generalizing s with
  | zero => rfl
  | succ fuel ih =>
    rw [State.snapDesc]
    split
    · rfl
    · have hstart := hp.startDesc s hn
      split_ifs
      · rw [ih, hp.complete, hstart]
      · rw [ih, hp.complete, hstart]
      · rw [ih, hp.complete, hstart]
      · exact hstart _

theorem Unsnapped.snapDrop (s : State) : p ((s.bump F.PMU_SNAPDROP_COUNT).pmuFlag F.PMU_STAT_SNAPDROP) = p s := by
  rw [State.pmuFlag, hp.raiseFlag _ (by decide) (by decide), State.bump, hp.setFld _ _ (by decide)]

theorem Unsnapped.snapOut (s : State) : p s.snapOut.2 = p s := by
  simp only [State.snapOut]
  split
  · exact hp.snapDrop s
  · next n hring =>
    have hdesc := hp.snapDesc (List.mem_range.mp (List.mem_of_find?_eq_some hring)) (s.ringSize n + 1) s
    split
    · next u hu =>
      rw [hu] at hdesc
      exact (hp.snapDrop u).trans hdesc
    · next d u hu =>
      rw [hu] at hdesc
      have hwrite := (hp.unitWrite u (engine 20) d.addr u.snapRecord).trans hdesc
      split
      · next w hw =>
        rw [hw] at hwrite
        exact (hp.complete w _ _ _ _).trans hwrite
      · next w hw =>
        rw [hw] at hwrite
        exact (hp.snapDrop _).trans ((hp.complete w _ _ _ _).trans hwrite)

/-! #### Snapshots -/

theorem Unsnapped.setReg64 (s : State) {lo hi : Nat} (v : Nat) (hlo : lo < R.STR_TRGCFG 0) (hhi : hi < R.STR_TRGCFG 0) :
    p (s.setReg64 lo hi v) = p s := by
  rw [State.setReg64, hp.setReg _ _ hhi, hp.setReg _ _ hlo]

/-- The counter n of the PMU in its snapshot register. -/
theorem Unsnapped.latchPmc (s : State) {n : Nat} (hn : n < 56) (v w : Nat) :
    p ((s.setFld (F.PMU_SNAP_LO_COUNT n) v).setFld (F.PMU_SNAP_HI_COUNT n) w) = p s := by
  have hlo : (F.PMU_SNAP_LO_COUNT n).addr < R.STR_TRGCFG 0 := by simp only [F.PMU_SNAP_LO_COUNT, R.PMU_SNAP_LO, R.STR_TRGCFG]; omega
  have hhi : (F.PMU_SNAP_HI_COUNT n).addr < R.STR_TRGCFG 0 := by simp only [F.PMU_SNAP_HI_COUNT, R.PMU_SNAP_HI, R.STR_TRGCFG]; omega
  rw [hp.setFld _ _ hhi, hp.setFld _ _ hlo]

theorem Unsnapped.snapTake (s : State) (doorbell : Bool) (trg t : Nat) : p (s.snapTake doorbell trg t) = p s := by
  -- unfolded as a function: applied, the kernel would run `snapOut` to see that the two sides agree
  have hdef : State.snapTake = State.snapTake := rfl
  conv_rhs at hdef => delta State.snapTake
  rw [hdef]
  beta_reduce
  extract_lets latched timed counted caused flagged
  have hlatched : p latched = p s :=
    List.foldlRecOn (motive := fun u => p u = p s) _ _ rfl fun u hu n hn => (hp.latchPmc u (List.mem_range.mp hn) _ _).trans hu
  have htimed : p timed = p latched := hp.setReg64 _ _ (by decide) (by decide)
  have hcounted : p counted = p timed := hp.setFld _ _ (by decide)
  have hcaused : p caused = p counted := (hp.setFld _ _ (by decide)).trans (hp.setFld _ _ (by decide))
  have hflagged : p flagged = p caused := hp.raiseFlag _ (by decide) (by decide)
  clear_value flagged caused counted timed latched
  have hout := hp.snapOut flagged
  split
  next at_ u hu =>
    rw [hu, hflagged, hcaused, hcounted, htimed, hlatched] at hout
    exact (hp.withPwr u _).trans hout

theorem Unsnapped.pmuSnap (s : State) (doorbell : Bool) (trg t : Nat) : p (s.pmuSnap doorbell trg t) = p s := by
  unfold State.pmuSnap
  split
  · split_ifs
    · exact hp.snapTake s doorbell trg t
    · rfl
    · rw [hp.withPwr]
      split
      · rw [hp.unitWrite, hp.setFld _ _ (by decide), hp.setFld _ _ (by decide)]
      · rw [hp.setFld _ _ (by decide), hp.setFld _ _ (by decide)]
  · exact hp.snapTake s doorbell trg t

theorem Unsnapped.snapAxis (s : State) (t : Nat) {a : Nat} (ha : a < 8) : p (State.snapAxis t s a) = p s := by
  simp only [State.snapAxis]
  rw [hp.setReg64, hp.setFld, hp.setReg64]
  all_goals
    simp only [R.STR_SNAP_POS_LO, R.STR_SNAP_POS_HI, F.STR_SNAP_FRAC_FRAC, R.STR_SNAP_FRAC, R.STR_SNAP_RATE_LO, R.STR_SNAP_RATE_HI,
      R.STR_TRGCFG]
    omega

theorem Unsnapped.snapAxes (s : State) (t : Nat) : p (s.snapAxes t 8) = p s :=
  List.foldlRecOn (motive := fun u => p u = p s) _ _ rfl fun u hu _ ha => (hp.snapAxis u t (List.mem_range.mp ha)).trans hu

theorem Unsnapped.snapStat (s : State) (doorbell : Bool) (n t : Nat) : p (s.snapStat doorbell n t) = p s := by
  simp only [State.snapStat, State.setBit]
  rw [hp.setFld _ _ (by decide), hp.setFld _ _ (by decide), hp.setFld _ _ (by decide), hp.setReg64 _ _ (by decide) (by decide)]

theorem Unsnapped.snapshot (s : State) (doorbell : Bool) (n t : Nat) : p (s.snapshot doorbell n t) = p s := by
  have hjoined : p s.snapJoined = p s := by rw [State.snapJoined, hp.setFld _ _ (by decide), hp.setSnapUs]
  have hnew : p (s.snapNew doorbell n t) = p s := by
    rw [State.snapNew, hp.pend _ (by decide), hp.setSnapUs, hp.snapStat, hp.snapAxes]
  rw [State.snapshot_eq, apply_ite p, hjoined, hnew, ite_self]

end Unsnapped

/-! ### Firing (R87, R89) -/

/-- Trigger n fired at an instant, before its action. -/
def State.fired (s : State) (n t : Nat) (late : Bool) : State :=
  let s := ((s.setFld (F.STR_TRGCFG_EN n) 0).setTrg n none).setFld (F.STR_TRGTIME_TIME n) (t % 2 ^ 32)
  (if late then s.setFld (F.STR_TRGSTAT_LATE n) 1 else s).raiseFlag (F.STR_TRGSTAT_FIRED n) 179

theorem State.fire_eq (s : State) (n t : Nat) {x : Cross} (h : s.trg n = some x) : s.fire n t =
    if (s.fired n t x.late).fld (F.STR_TRGCFG_ACTION n) = 1 then (s.fired n t x.late).snapshot false n t else s.fired n t x.late := by
  simp only [State.fire, h, State.fired]
  rfl

/-- The action of a trigger changes none of the triggers. -/
theorem Unsnapped.fire {α : Type} {p : State → α} (hp : Unsnapped p) (s : State) (n t : Nat) {x : Cross} (h : s.trg n = some x) :
    p (s.fire n t) = p (s.fired n t x.late) := by
  rw [s.fire_eq n t h, apply_ite p, hp.snapshot, ite_self]

/-- A trigger that fires was armed. -/
theorem State.trg_of_trgDue {s : State} {n u : Nat} (h : s.trgDue n = some u) : ∃ x, s.trg n = some x := by
  refine Option.ne_none_iff_exists'.mp fun hnone => ?_
  rw [State.trgDue, State.trgAt, hnone] at h
  cases h

theorem exec_triggerFire_of_due (s : State) (n : Fin 32) {u : Nat} (h : s.trgDue n = some u) : exec (.triggerFire n) s =
    .next (if (s.fire n u).fld (F.STR_TRGCFG_ACTION n) = 2 then (s.fire n u).pmuSnap false n u else s.fire n u) := by
  have hexec : exec (.triggerFire n) s = execTriggerFire n s := by rfl
  rw [hexec, execTriggerFire, h]

theorem trigger_registers_apart (n : Fin 32) : R.STR_TRGCFG n ≠ R.STR_TRGSTAT n ∧ R.STR_TRGCFG n ≠ R.STR_TRGTIME n ∧
    R.STR_TRGTIME n ≠ R.STR_TRGSTAT n := by
  simp [R.STR_TRGCFG, R.STR_TRGSTAT, R.STR_TRGTIME]

theorem trigger_register_ne_pend {b : Nat} (hb : R.STR_TRGCFG 0 ≤ b) : b ≠ R.RNG_INT_PEND (179 / 32) := by
  simp only [R.STR_TRGCFG] at hb
  simp only [R.RNG_INT_PEND]
  omega

theorem STR_TRGCFG_ge (n : Nat) : R.STR_TRGCFG 0 ≤ R.STR_TRGCFG n := by simp only [R.STR_TRGCFG]; omega

theorem STR_TRGSTAT_ge (n : Nat) : R.STR_TRGCFG 0 ≤ R.STR_TRGSTAT n := by simp only [R.STR_TRGCFG, R.STR_TRGSTAT]; omega

theorem STR_TRGTIME_ge (n : Nat) : R.STR_TRGCFG 0 ≤ R.STR_TRGTIME n := by simp only [R.STR_TRGCFG, R.STR_TRGTIME]; omega

section
variable (s : State) (n : Fin 32) (t : Nat) (late : Bool)

/-- What the flags of a firing leave of the registers of the triggers. -/
theorem State.reg_fired {b : Nat} (hb : R.STR_TRGCFG 0 ≤ b) (hstat : b ≠ R.STR_TRGSTAT n) : (s.fired n t late).reg b =
    (((s.setFld (F.STR_TRGCFG_EN n) 0).setTrg n none).setFld (F.STR_TRGTIME_TIME n) (t % 2 ^ 32)).reg b := by
  simp only [State.fired]
  rw [State.reg_raiseFlag_ne _ _ _ _ hstat (trigger_register_ne_pend hb)]
  split
  · exact State.reg_setFld_ne _ _ _ _ hstat
  · rfl

theorem State.EN_fired : (s.fired n t late).flag (F.STR_TRGCFG_EN n) = false := by
  obtain ⟨hstat, htime, -⟩ := trigger_registers_apart n
  rw [State.flag_congr (State.fld_congr (s.reg_fired n t late (STR_TRGCFG_ge n) hstat)), State.flag_congr (State.fld_setFld_ne _ _ _ htime _),
    State.flag_setTrg]
  exact State.flag_setFld_zero _ _ (by simp [F.STR_TRGCFG_EN, Fld.Ok])

theorem State.TIME_fired : (s.fired n t late).fld (F.STR_TRGTIME_TIME n) = t % 2 ^ 32 := by
  obtain ⟨-, -, hstat⟩ := trigger_registers_apart n
  rw [State.fld_congr (s.reg_fired n t late (STR_TRGTIME_ge n) hstat), State.fld_setFld_same _ _ (by simp [F.STR_TRGTIME_TIME, Fld.Ok])]
  exact Nat.mod_mod _ _

theorem State.FIRED_fired : (s.fired n t late).flag (F.STR_TRGSTAT_FIRED n) = true :=
  State.flag_raiseFlag _ _ (by simp [F.STR_TRGSTAT_FIRED, Fld.Ok]) _ (trigger_register_ne_pend (STR_TRGSTAT_ge n))

theorem State.LATE_fired : (s.fired n t true).flag (F.STR_TRGSTAT_LATE n) = true := by
  have hpend : (F.STR_TRGSTAT_LATE n).addr ≠ R.RNG_INT_PEND (179 / 32) := trigger_register_ne_pend (STR_TRGSTAT_ge n)
  have hok : (F.STR_TRGSTAT_LATE n).Ok := by simp [F.STR_TRGSTAT_LATE, Fld.Ok]
  simp only [State.fired, if_true, State.raiseFlag]
  split
  · exact State.flag_setFld_one _ _ hok
  · rw [State.pend, State.flag_congr (State.fld_setReg_ne _ _ _ _ hpend), State.flag_congr (State.fld_setFld_other _ _ _ ?_ ?_ ?_ _)]
    · exact State.flag_setFld_one _ _ hok
    · simp [F.STR_TRGSTAT_FIRED, Fld.Ok]
    · simp [F.STR_TRGSTAT_LATE]
    · simp [F.STR_TRGSTAT_FIRED, F.STR_TRGSTAT_LATE]

theorem State.trg_fired : (s.fired n t late).trg n = none := by
  simp only [State.fired]
  rw [State.trg_congr (State.raiseFlag_str _ _ _)]
  split
  · rw [State.trg_setFld, State.trg_setFld, State.trg_setTrg_same]
  · rw [State.trg_setFld, State.trg_setTrg_same]

end

/-- The action of a trigger that fires, whichever snapshot it takes, changes none of the triggers. -/
theorem triggerFire_keeps (s : State) (n : Fin 32) {u : Nat} (h : s.trgDue n = some u) {x : Cross} (hx : s.trg n = some x) :
    ∃ t, exec (.triggerFire n) s = .next t ∧ ∀ {α : Type} {p : State → α}, Unsnapped p → p t = p (s.fired n u x.late) := by
  refine ⟨_, exec_triggerFire_of_due s n h, fun {_ p} hp => ?_⟩
  rw [apply_ite p, hp.pmuSnap, ite_self, hp.fire s n u hx]

theorem triggerFire_fires (s : State) (n : Fin 32) (u : Nat) (h : s.trgDue n = some u) :
    Gives (exec (.triggerFire n) s) (fun t => t.flag (F.STR_TRGCFG_EN n) = false ∧ t.flag (F.STR_TRGSTAT_FIRED n) ∧ t.trg n = none ∧
      t.fld (F.STR_TRGTIME_TIME n) = u % 2 ^ 32 ∧ (∀ x, s.trg n = some x → x.late → t.flag (F.STR_TRGSTAT_LATE n))) := by
  obtain ⟨x, hx⟩ := State.trg_of_trgDue h
  obtain ⟨t, ht, hkeeps⟩ := triggerFire_keeps s n h hx
  refine ⟨t, ht, ?_⟩
  have hstat {f : Fld} (hf : f.addr = R.STR_TRGSTAT n) : t.flag f = (s.fired n u x.late).flag f :=
    State.flag_congr (State.fld_congr (hkeeps (unsnapped_reg (hf ▸ STR_TRGSTAT_ge n))))
  refine ⟨?_, ?_, ?_, ?_, fun y hy hlate => ?_⟩
  · rw [State.flag_congr (State.fld_congr (hkeeps (unsnapped_reg (STR_TRGCFG_ge n)))), State.EN_fired]
  · rw [hstat rfl, State.FIRED_fired]
  · rw [hkeeps (unsnapped_trg n), State.trg_fired]
  · rw [State.fld_congr (hkeeps (unsnapped_reg (STR_TRGTIME_ge n))), State.TIME_fired]
  · obtain rfl : x = y := Option.some.inj (hx.symm.trans hy)
    rw [hstat rfl, hlate, State.LATE_fired]

/-- Settles O10: each clause by its own lemma; no action of a fired trigger, whichever snapshot it takes, changes a trigger. -/
theorem triggerCommandsComplete : Obligations.TriggerCommandsComplete :=
  ⟨triggerArm_arms, triggerArm_refuses, triggerFire_fires, strideSnapshot_takes, strideSnapshot_joins⟩

end Sys2Proof.Machine
end

section
/-! Endpoints: the rate command of a RATE endpoint (R106, R107). -/

namespace Sys2Proof.Machine

theorem State.ep_congr {s t : State} (h : t.ept = s.ept) (e : Nat) : t.ep e = s.ep e := by rw [State.ep, State.ep, h]

@[simp] theorem State.ep_setEp_same (s : State) (e : Nat) (x : Ep) : (s.setEp e x).ep e = x := SMap.get_set_same _ _ _

theorem State.ep_setEp_ne (s : State) {e f : Nat} (x : Ep) (h : f ≠ e) : (s.setEp e x).ep f = s.ep f := SMap.get_set_ne _ _ h

/-- A rounded quotient is that of the nearest multiple, halves up. -/
theorem roundDiv_spec (a : Nat) {b : Nat} (hb : 0 < b) :
    2 * (roundDiv a b * b) ≤ 2 * a + b ∧ 2 * a + b < 2 * ((roundDiv a b + 1) * b) := by
  have hle : roundDiv a b * (2 * b) ≤ 2 * a + b := Nat.div_mul_le_self _ _
  have hlt : 2 * a + b < (roundDiv a b + 1) * (2 * b) :=
    (Nat.lt_mul_div_succ (2 * a + b) (Nat.mul_pos Nat.two_pos hb)).trans_eq (Nat.mul_comm _ _)
  rw [Nat.mul_left_comm] at hle hlt
  exact ⟨hle, hlt⟩

theorem roundDiv_zero (b : Nat) : roundDiv 0 b = 0 := by
  rw [roundDiv, Nat.div_eq_zero_iff]
  omega

/-- The speed a rate command follows: SPEED on a GROUND axis, the counts of the axis on another (R106). -/
def State.rateSpeed (s : State) (e : Nat) : Int :=
  if s.fld (F.STR_AXCFG_KIND (eAxis (s.ep e).cfg)) = 0 then (s.ep e).perS else s.axPerS (eAxis (s.ep e).cfg)

/-- The unit of that speed, as a divisor of the product (R106). -/
def State.rateUnit (s : State) (e : Nat) : Nat := if s.fld (F.STR_AXCFG_KIND (eAxis (s.ep e).cfg)) = 0 then 10 ^ 7 else 10 ^ 9

/-- The rounded product of R106, 0 where the endpoint does not move forward. -/
def State.rateProduct (s : State) (e : Nat) : Nat :=
  let c := (s.ep e).cfg
  if s.rateSpeed e ≤ 0 ∨ s.flag (F.STR_AXSTAT_STILL (eAxis c)) then 0
  else roundDiv ((if ePlEn c then (s.ep e).rx else 0) * eWidth c * (s.rateSpeed e).toNat * eRateK c) (s.rateUnit e * 65536)

/-- A product clamped into RATE_MIN to RATE_MAX, 0 left as it is (R106). -/
def rateClamp (c : List Byte) (m : Nat) : Nat := if m = 0 then 0 else max (eRateMin c) (min (eRateMax c) m)

/-- The command a product gives: clamped, with RDEST 0 cut to the limit of its channel (R107). -/
def State.rateCut (s : State) (c : List Byte) (m : Nat) : Nat :=
  if eRdest c then rateClamp c m else min (rateClamp c m) (s.rateLimit c)

theorem State.rateCut_zero (s : State) (c : List Byte) : s.rateCut c 0 = 0 := by
  simp [State.rateCut, rateClamp]

/-- A RATE endpoint with its command formed, and CLAMPED telling whether the command differs from the product. -/
def State.rateFormed (s : State) (e : Nat) : Ep :=
  let cmd := s.rateCut (s.ep e).cfg (s.rateProduct e)
  { s.ep e with rcmd := cmd, clamped := cmd ≠ s.rateProduct e }

theorem State.epRate_ep (s : State) (e : Nat) (h : eKind (s.ep e).cfg = kRATE) : (s.epRate e).ep e = s.rateFormed e := by
  have hformed : s.epRate e = (if s.rateCut (s.ep e).cfg (s.rateProduct e) ≠ s.rateProduct e then
      (s.setEp e (s.rateFormed e)).raiseFlag F.EPT_STAT_CLAMPED 181 else s.setEp e (s.rateFormed e)) := by
    rw [State.epRate]
    exact if_neg (not_not_intro h)
  rw [hformed, apply_ite (fun t => State.ep t e), State.ep_congr (State.raiseFlag_ept _ _ _), ite_self, State.ep_setEp_same]

theorem State.rateProduct_eq_zero (s : State) (e : Nat)
    (h : ePlEn (s.ep e).cfg = false ∨ s.rateSpeed e ≤ 0 ∨ s.flag (F.STR_AXSTAT_STILL (eAxis (s.ep e).cfg)) = true) :
    s.rateProduct e = 0 := by
  rw [State.rateProduct]
  rcases h with hpl | hstop
  · simp [hpl, roundDiv_zero]
  · exact if_pos hstop

theorem State.rateProduct_moving (s : State) (e : Nat) (hpl : ePlEn (s.ep e).cfg = true) (hv : 0 < s.rateSpeed e)
    (hstill : s.flag (F.STR_AXSTAT_STILL (eAxis (s.ep e).cfg)) = false) : s.rateProduct e =
    roundDiv ((s.ep e).rx * eWidth (s.ep e).cfg * (s.rateSpeed e).toNat * eRateK (s.ep e).cfg) (s.rateUnit e * 65536) := by
  rw [State.rateProduct]
  simp [hpl, hstill, Int.not_le.mpr hv]

theorem State.rateUnit_pos (s : State) (e : Nat) : 0 < s.rateUnit e := by
  rw [State.rateUnit]
  split <;> decide

/-- Settles O13: the product is a rounded quotient, 0 where a factor or the motion is, and the command its clamped and cut value. -/
theorem rateCommandFollowsTheFormula : Obligations.RateCommandFollowsTheFormula := by
  intro s e c v D hc hkind hground hother
  have hunit : v = s.rateSpeed e ∧ D = s.rateUnit e := by
    subst hc
    by_cases hk : s.fld (F.STR_AXCFG_KIND (eAxis (s.ep e).cfg)) = 0
    · simpa [State.rateSpeed, State.rateUnit, hk] using hground hk
    · simpa [State.rateSpeed, State.rateUnit, hk] using hother hk
  obtain ⟨rfl, rfl⟩ := hunit
  subst hc
  rw [s.epRate_ep e hkind]
  constructor
  · intro hstop
    simp only [State.rateFormed, s.rateProduct_eq_zero e hstop, State.rateCut_zero]
  · intro hpl hv hstill
    obtain ⟨hle, hlt⟩ := roundDiv_spec ((s.ep e).rx * eWidth (s.ep e).cfg * (s.rateSpeed e).toNat * eRateK (s.ep e).cfg)
      (b := s.rateUnit e * 65536) (Nat.mul_pos (s.rateUnit_pos e) (by decide))
    rw [← s.rateProduct_moving e hpl hv hstill] at hle hlt
    exact ⟨s.rateProduct e, rateClamp (s.ep e).cfg (s.rateProduct e), hle, hlt, rfl, rfl, rfl⟩

end Sys2Proof.Machine
end

section
/-! Endpoints: the readings of the state that a field load does not enter (R152, R158, R159). -/

namespace Sys2Proof.Machine

/-- A reading of the state that nothing enters which a FIELD_LOAD touches as it takes effect: registers below those of the triggers and
from COV_CTL up, the coverage engine's record, memory, rings and the recorder. -/
structure Unloaded {α : Type} (p : State → α) : Prop extends Unsnapped p where
  setCovReg : ∀ (s : State) {b : Nat} (w : Word), R.COV_CTL ≤ b → p (s.setReg b w) = p s
  withCov : ∀ (s : State) (x : Cov), p { s with cov := x } = p s

theorem unsnapped_ept : Unsnapped State.ept :=
  ⟨fun _ _ _ _ => rfl, fun _ _ => rfl, fun _ _ => rfl, fun _ _ => rfl, fun _ _ _ => rfl, fun _ _ => rfl⟩

theorem unloaded_ept : Unloaded State.ept := ⟨unsnapped_ept, fun _ _ _ _ => rfl, fun _ _ => rfl⟩

theorem unloaded_reg {a : Nat} (hlo : R.STR_TRGCFG 0 ≤ a) (hhi : a < R.COV_CTL) : Unloaded (fun s => s.reg a) :=
  ⟨unsnapped_reg hlo, fun s _ w hb => State.reg_setReg_ne s w (Nat.ne_of_lt (Nat.lt_of_lt_of_le hhi hb)), fun _ _ => rfl⟩

theorem Unsnapped.unitRead {α : Type} {p : State → α} (hp : Unsnapped p) (s : State) (acc : Acc) (a n : Nat) :
    p (s.unitRead acc a n).2 = p s := by
  unfold State.unitRead
  split
  · rw [hp.deny, hp.noteAbsent]
  · rw [hp.noteAbsent]

section Unloaded
variable {α : Type} {p : State → α} (hp : Unloaded p)
include hp

theorem Unloaded.setCovFld (s : State) {f : Fld} (v : Nat) (hf : R.COV_CTL ≤ f.addr) : p (s.setFld f v) = p s := hp.setCovReg s _ hf

theorem Unloaded.covFlag (s : State) {f : Fld} (hf : R.COV_CTL ≤ f.addr) : p (s.covFlag f) = p s := by
  rw [State.covFlag, State.raiseFlag, apply_ite p, hp.pend _ (by decide), hp.setCovFld _ _ hf, ite_self]

theorem Unloaded.setFrame (s : State) (f : Nat) (x : Option Tile) : p (s.setFrame f x) = p s := by
  simp only [State.setFrame]
  rw [hp.setCovFld _ _ (by decide), hp.setCovFld _ _ (by decide), hp.withCov]

theorem Unloaded.writeBackFailed (s : State) (idx : Nat) :
    p ((s.covFlag F.COV_STAT_WB_ERR).event 0x0403 [w32 idx]) = p s := by
  rw [hp.event, hp.covFlag _ (by decide)]

theorem Unloaded.writeBack (s : State) (f : Nat) (ecc : Bool) : p (s.writeBack f ecc).2 = p s := by
  unfold State.writeBack
  split
  · next x _ =>
    have hread := hp.unitRead s (engine 13) (s.frameAddr f) 16384
    split_ifs
    · rfl
    · exact hp.writeBackFailed s _
    · split
      · next u hu => rw [hp.writeBackFailed, ← hread, hu]
      · next bs u hu =>
        rw [hu] at hread
        have hwrite := hp.unitWrite u (engine 13) x.addr bs
        dsimp only
        split_ifs
        · rw [State.bump, hp.setCovFld _ _ (by decide), hp.setFrame, hwrite, hread]
        · rw [hp.writeBackFailed, hwrite, hread]
  · rfl

theorem Unloaded.writeBackAll (s : State) (ecc : List (Fin 128)) : p (s.writeBackAll ecc).2.2 = p s := by
  rw [State.writeBackAll]
  refine List.foldlRecOn (motive := fun (r : Nat × Bool × State) => p r.2.2 = p s) _ _ rfl fun r hr f _ => ?_
  split
  · split_ifs
    · exact (hp.writeBack _ _ _).trans hr
    · exact hr
  · exact hr

theorem Unloaded.unload (s : State) : p s.unload = p s := by
  simp only [State.unload]
  rw [hp.event, hp.covFlag _ (by decide), hp.setCovReg _ _ (by decide), hp.setCovReg _ _ (by decide), hp.setCovReg _ _ (by decide),
    hp.withCov, State.foldl_keeps fun u f => hp.setFrame u f none]

theorem Unloaded.takeLoad (s : State) (j : Nat × Nat × Nat) (ecc : List (Fin 128)) : p (s.takeLoad j ecc) = p s := by
  obtain ⟨n, didx, a⟩ := j
  have hread := hp.unitRead s (engine 13) a 128
  simp only [State.takeLoad]
  split
  · next u hu => rw [hp.complete, ← hread, hu]
  · next bs u hu =>
    have hback := hp.writeBackAll u ecc
    rw [hu] at hread
    split
    · rw [hp.complete, hread]
    · split
      · rw [hp.complete, hback, hread]
      · rw [hp.complete, hp.event, hp.covFlag _ (by decide), hp.setCovFld _ _ (by decide), hp.setCovFld _ _ (by decide),
          hp.setCovReg _ _ (by decide), hp.setCovReg _ _ (by decide), hp.withCov, apply_ite p, hp.unload, ite_self, hback, hread]

end Unloaded

end Sys2Proof.Machine
end

section
/-! Endpoints: the tick, CWAIT, the queue commands and the control registers (R100, R109, R114, R116, R117). -/

namespace Sys2Proof.Machine

/-! ### The tick: what comes before the endpoints (R100) -/

/-- The rate of an axis that is not DISABLED, noted as the newest of its last eight. -/
def State.noteRate (s : State) (a : Nat) : State :=
  if s.axState a = axDISABLED then s else s.setAxis a { s.axis a with rates := (s.axRate a :: (s.axis a).rates).take 8 }

/-- The waiting field loads taken, and NOFIELD shown. -/
def State.loadsTaken (s : State) (ecc : List (Fin 128)) : State :=
  let u := s.cov.loads.foldl (fun u j => u.takeLoad j ecc) { s with cov := { s.cov with loads := [] } }
  u.setBit F.COV_FSTAT_NOFIELD (u.covLoaded && !u.covField)

/-- The tick of an instant taken: field loads, then the rates of the axes. -/
def State.eptTickBegun (s : State) (t : Nat) (ecc : List (Fin 128)) : State :=
  let u := s.loadsTaken ecc
  (List.range 8).foldl State.noteRate { u with ept := { u.ept with tickAt := t } }

theorem exec_endpointTick_of_due (s : State) (work : List (Fin 4096) × List (Fin 128)) {t : Nat}
    (ht : t = (s.ept.tickAt / 250000 + 1) * 250000) (h : t ≤ s.now) :
    exec (.endpointTick work) s = .next (if (s.eptTickBegun t work.2).flag F.EPT_CTL_EN then
      (s.eptTickBegun t work.2).endpointTick t (work.1.map (·.val)) else s.eptTickBegun t work.2) := by
  have hexec : exec (.endpointTick work) s = execEndpointTick work s := by rfl
  subst ht
  rw [hexec, execEndpointTick]
  exact if_pos (decide_eq_true h)

theorem Unloaded.loadsTaken {α : Type} {p : State → α} (hp : Unloaded p) (s : State) (ecc : List (Fin 128)) :
    p (s.loadsTaken ecc) = p s := by
  simp only [State.loadsTaken, State.setBit]
  rw [hp.setCovFld _ _ (by decide), State.foldl_keeps fun u j => hp.takeLoad u j ecc, hp.withCov]

@[simp] theorem State.noteRate_ept (s : State) (a : Nat) : (s.noteRate a).ept = s.ept := by
  unfold State.noteRate
  split <;> rfl

@[simp] theorem State.reg_noteRate (s : State) (a b : Nat) : (s.noteRate a).reg b = s.reg b := by
  unfold State.noteRate
  split <;> rfl

theorem State.eptTickBegun_ept (s : State) (t : Nat) (ecc : List (Fin 128)) : (s.eptTickBegun t ecc).ept = { s.ept with tickAt := t } := by
  simp only [State.eptTickBegun]
  rw [State.foldl_keeps State.noteRate_ept, unloaded_ept.loadsTaken]

theorem State.eptTickBegun_EN (s : State) (t : Nat) (ecc : List (Fin 128)) :
    (s.eptTickBegun t ecc).flag F.EPT_CTL_EN = s.flag F.EPT_CTL_EN := by
  refine State.flag_congr (State.fld_congr ?_)
  have hbegun : (s.eptTickBegun t ecc).reg R.EPT_CTL = (s.loadsTaken ecc).reg R.EPT_CTL :=
    State.foldl_keeps (p := fun u => u.reg R.EPT_CTL) (fun u a => u.reg_noteRate a _) _ _
  exact hbegun.trans ((unloaded_reg (by decide) (by decide)).loadsTaken s ecc)

/-! ### The tick: what closes it (R100, R109) -/

/-- The close of a tick: the totals, the record of every kept endpoint, the waiting STATE_COPY commands, SEQ. -/
def State.eptTickClosed (s : State) (jobs : List (Nat × Nat × Nat × Nat × Nat × Nat)) : State :=
  let u := (SMap.keys s.epTotals.ept.eps).foldl State.epShow s.epTotals
  let u := jobs.foldl State.epCopy u
  u.setFld F.EPT_TICKSEQ_SEQ (next32 (u.fld F.EPT_TICKSEQ_SEQ))

theorem State.endpointTick_closes (s : State) (t : Nat) (late : List Nat) :
    ∃ (u : State) (jobs : List (Nat × Nat × Nat × Nat × Nat × Nat)), s.endpointTick t late = u.eptTickClosed jobs :=
  ⟨_, _, rfl⟩

/-- The number of kept endpoints in a service state. -/
def State.countIn (s : State) (st : Nat) : Nat := (s.ept.eps.filter (fun p => p.2.state = st)).length

@[simp] theorem State.epTotals_ept (s : State) : s.epTotals.ept = s.ept := by
  simp only [State.epTotals]
  rw [State.setFld_ept, State.setFld_ept, State.setFld_ept]

theorem State.epTotals_NIN (s : State) : s.epTotals.fld F.EPT_NIN_NIN = s.countIn epIN % 2 ^ 13 := by
  rw [State.epTotals, State.fld_setFld_same _ _ (by decide)]
  rfl

theorem State.epTotals_NREJOIN (s : State) : s.epTotals.fld F.EPT_NSTATE_NREJOIN = s.countIn epREJOIN % 2 ^ 13 := by
  rw [State.epTotals, State.fld_setFld_ne _ _ _ (by decide), State.fld_setFld_other _ _ _ (by decide) (by decide) (by decide),
    State.fld_setFld_same _ _ (by decide)]
  rfl

@[simp] theorem State.epShow_ept (s : State) (e : Nat) : (s.epShow e).ept = s.ept := by
  simp only [State.epShow, State.setReg_ept, State.setReg64_ept]

/-- Writing the record of an endpoint changes only the words of its record (Table 4-4). -/
theorem State.reg_epShow_ne (s : State) (e : Nat) {b : Nat} (h : ∀ w < 8, b ≠ R.EPT_STATE e w) : (s.epShow e).reg b = s.reg b := by
  simp only [State.epShow]
  rw [State.reg_setReg_ne _ _ (h 7 (by decide)), State.reg_setReg_ne _ _ (h 6 (by decide)), State.reg_setReg_ne _ _ (h 5 (by decide)),
    State.reg_setReg_ne _ _ (h 4 (by decide)), State.reg_setReg_ne _ _ (h 3 (by decide)), State.reg_setReg_ne _ _ (h 2 (by decide)),
    State.reg_setReg64_ne _ _ (h 0 (by decide)) (h 1 (by decide))]

/-- The two low bits of the status word of a record hold the service state (Table 4-4). -/
theorem State.epStatus_mod (s : State) (e : Nat) : s.epStatus e % 4 = (s.ep e).state % 4 := by
  simp only [State.epStatus]
  omega

/-- The record of endpoint e shows its service state. -/
def State.shows (s : State) (e : Nat) : Prop := (s.reg (R.EPT_STATE e 7)).toNat % 4 = (s.ep e).state % 4

theorem State.shows_congr {s t : State} {e : Nat} (hreg : t.reg (R.EPT_STATE e 7) = s.reg (R.EPT_STATE e 7)) (hept : t.ept = s.ept)
    (h : s.shows e) : t.shows e := by
  rwa [State.shows, hreg, State.ep_congr hept]

theorem State.shows_epShow_same (s : State) (e : Nat) : (s.epShow e).shows e := by
  obtain ⟨u, hword, hu⟩ : ∃ u : State, (s.epShow e).reg (R.EPT_STATE e 7) = w32 (u.epStatus e) ∧ u.ept = s.ept := by
    simp only [State.epShow]
    exact ⟨_, State.reg_setReg_same _ _ _, by simp only [State.setReg_ept, State.setReg64_ept]⟩
  rw [State.shows, hword, State.ep_congr (s.epShow_ept e), ← State.ep_congr hu, ← u.epStatus_mod, w32, BitVec.toNat_ofNat,
    Nat.mod_mod_of_dvd _ (by decide)]

theorem State.shows_epShow (s : State) (e f : Nat) (h : s.shows e) : (s.epShow f).shows e := by
  by_cases hf : e = f
  · exact hf ▸ s.shows_epShow_same e
  · refine State.shows_congr (s.reg_epShow_ne f fun w hw => ?_) (s.epShow_ept f) h
    simp only [R.EPT_STATE]
    omega

theorem State.shows_of_mem (s : State) {e : Nat} {l : List Nat} (he : e ∈ l) : (l.foldl State.epShow s).shows e := by
  obtain ⟨before, after, rfl⟩ := List.append_of_mem he
  rw [List.foldl_append, List.foldl_cons]
  exact List.foldlRecOn (motive := fun u : State => u.shows e) _ _ (State.shows_epShow_same _ e) fun u hu f _ => u.shows_epShow e f hu

theorem Unsnapped.epCopy {α : Type} {p : State → α} (hp : Unsnapped p) (s : State) (j : Nat × Nat × Nat × Nat × Nat × Nat) :
    p (s.epCopy j) = p s := by
  obtain ⟨n, didx, op, first, count, addr⟩ := j
  simp only [State.epCopy]
  rw [apply_ite p, apply_ite p, hp.complete, hp.complete, hp.unitWrite, ite_self, ite_self]

section
variable (s : State) (jobs : List (Nat × Nat × Nat × Nat × Nat × Nat))

theorem State.eptTickClosed_ept : (s.eptTickClosed jobs).ept = s.ept := by
  simp only [State.eptTickClosed]
  rw [State.setFld_ept, State.foldl_keeps (p := State.ept) unsnapped_ept.epCopy, State.foldl_keeps (p := State.ept) State.epShow_ept,
    State.epTotals_ept]

/-- The close of a tick leaves the unit's registers below the records as the totals leave them, SEQ apart. -/
theorem State.reg_eptTickClosed {b : Nat} (hlo : R.STR_TRGCFG 0 ≤ b) (hhi : b < R.EPT_STATE 0 0) (hseq : b ≠ R.EPT_TICKSEQ) :
    (s.eptTickClosed jobs).reg b = s.epTotals.reg b := by
  have hshow : ∀ (u : State) (e : Nat), (u.epShow e).reg b = u.reg b := by
    refine fun u e => u.reg_epShow_ne e fun w _ => ?_
    simp only [R.EPT_STATE] at hhi ⊢
    omega
  simp only [State.eptTickClosed]
  rw [State.reg_setFld_ne _ _ _ _ hseq, State.foldl_keeps (p := fun u => u.reg b) (unsnapped_reg hlo).epCopy,
    State.foldl_keeps (p := fun u => u.reg b) hshow]

theorem State.eptTickClosed_shows {e : Nat} (he : e ∈ SMap.keys s.ept.eps) : (s.eptTickClosed jobs).shows e := by
  have hlo : R.STR_TRGCFG 0 ≤ R.EPT_STATE e 7 := by simp only [R.STR_TRGCFG, R.EPT_STATE]; omega
  have hseq : R.EPT_STATE e 7 ≠ R.EPT_TICKSEQ := by simp only [R.EPT_STATE, R.EPT_TICKSEQ]; omega
  simp only [State.eptTickClosed]
  refine State.shows_congr ?_ ?_ (State.shows_of_mem s.epTotals (s.epTotals_ept.symm ▸ he))
  · rw [State.reg_setFld_ne _ _ _ _ hseq, State.foldl_keeps (p := fun u => u.reg (R.EPT_STATE e 7)) (unsnapped_reg hlo).epCopy]
  · rw [State.setFld_ept, State.foldl_keeps (p := State.ept) unsnapped_ept.epCopy]

end

/-- A state whose unit counts the kept endpoints in IN and in REJOIN, and shows the state of each (R100, R109). -/
structure State.Counted (s : State) : Prop where
  nin : s.fld F.EPT_NIN_NIN = s.countIn epIN % 2 ^ 13
  nrejoin : s.fld F.EPT_NSTATE_NREJOIN = s.countIn epREJOIN % 2 ^ 13
  shows : ∀ e ∈ SMap.keys s.ept.eps, s.shows e

theorem State.countIn_congr {s t : State} (h : t.ept = s.ept) (st : Nat) : t.countIn st = s.countIn st := by
  rw [State.countIn, State.countIn, h]

theorem State.eptTickClosed_counted (s : State) (jobs : List (Nat × Nat × Nat × Nat × Nat × Nat)) : (s.eptTickClosed jobs).Counted := by
  have hept := s.eptTickClosed_ept jobs
  refine ⟨?_, ?_, fun e he => s.eptTickClosed_shows jobs (hept ▸ he)⟩
  · rw [State.fld_congr (s.reg_eptTickClosed jobs (by decide) (by decide) (by decide)), State.epTotals_NIN, State.countIn_congr hept]
  · rw [State.fld_congr (s.reg_eptTickClosed jobs (by decide) (by decide) (by decide)), State.epTotals_NREJOIN, State.countIn_congr hept]

theorem State.endpointTick_counted (s : State) (t : Nat) (late : List Nat) : (s.endpointTick t late).Counted := by
  obtain ⟨u, jobs, hclose⟩ := s.endpointTick_closes t late
  exact hclose ▸ u.eptTickClosed_counted jobs

theorem endpointTick_leaves (s : State) (work : List (Fin 4096) × List (Fin 128)) (h : (s.ept.tickAt / 250000 + 1) * 250000 ≤ s.now) :
    Gives (exec (.endpointTick work) s) (fun t =>
      (s.flag F.EPT_CTL_EN = false → t.ept.tickAt = (s.ept.tickAt / 250000 + 1) * 250000 ∧ t.ept.eps = s.ept.eps) ∧
      (s.flag F.EPT_CTL_EN →
        t.fld F.EPT_NIN_NIN = t.countIn epIN % 2 ^ 13 ∧ t.fld F.EPT_NSTATE_NREJOIN = t.countIn epREJOIN % 2 ^ 13 ∧
        ∀ e < 4096, (t.ep e).state < 3 → e ∈ SMap.keys t.ept.eps → (t.reg (R.EPT_STATE e 7)).toNat % 4 = (t.ep e).state)) := by
  refine ⟨_, exec_endpointTick_of_due s work rfl h, ?_⟩
  rw [State.eptTickBegun_EN]
  cases s.flag F.EPT_CTL_EN with
  | false =>
    refine ⟨fun _ => ?_, nofun⟩
    rw [if_neg Bool.false_ne_true, State.eptTickBegun_ept]
    exact ⟨rfl, rfl⟩
  | true =>
    refine ⟨nofun, fun _ => ?_⟩
    rw [if_pos rfl]
    have hcounted := State.endpointTick_counted
    refine ⟨(hcounted _ _ _).nin, (hcounted _ _ _).nrejoin, fun e _ hstate he => ?_⟩
    exact ((hcounted _ _ _).shows e he).trans (Nat.mod_eq_of_lt (by omega))

/-! ### CWAIT (R109) -/

theorem rejoinCwaitExpiry_goes (s : State) (e : Fin 4096) (t0 : Nat) (hready : (s.ep e).readyAt = some t0)
    (hstate : (s.ep e).state = epREJOIN) (hwait : t0 + 1000000 * s.fld F.EPT_REJOIN_CWAIT ≤ s.now) :
    Gives (exec (.rejoinCwaitExpiry e) s) (fun t => (t.ep e).go ∧ (t.ep e).state = epREJOIN ∧ (∀ f, f ≠ e.val → t.ep f = s.ep f) ∧
      t.regs = s.regs ∧ t.mem = s.mem) := by
  have hexec : exec (.rejoinCwaitExpiry e) s = execRejoinCwaitExpiry e s := by rfl
  refine ⟨s.setEp e { s.ep e with go := true }, ?_, ?_, ?_, fun f hf => s.ep_setEp_ne _ hf, s.setEp_regs _ _, s.setEp_mem _ _⟩
  · simp only [hexec, execRejoinCwaitExpiry, hready]
    exact if_pos ⟨hstate, decide_eq_true hwait⟩
  · rw [State.ep_setEp_same]
  · rw [State.ep_setEp_same]
    exact hstate

/-! ### The queue commands (R116) -/

theorem State.mirrorOnly_startDesc (s : State) (n : Fin 64) (d : Desc) : (s.startDesc n d).mirrorOnly = s.mirrorOnly := by
  have hstate : (s.startDesc n d).fld F.TDM_STATE_PSTATE = s.fld F.TDM_STATE_PSTATE :=
    State.fld_congr ((unsnapped_reg (by decide)).startDesc s n.isLt d)
  rw [State.mirrorOnly, State.mirrorOnly, hstate]

/-- A command waits for the next tick. -/
def State.withJob (s : State) (j : Nat × Nat × Nat × Nat × Nat × Nat) : State :=
  { s with ept := { s.ept with jobs := s.ept.jobs ++ [j] } }

theorem State.withJob_ept (s : State) (j : Nat × Nat × Nat × Nat × Nat × Nat) :
    (s.withJob j).ept = { s.ept with jobs := s.ept.jobs ++ [j] } := rfl

@[simp] theorem State.ringHw_withJob (s : State) (j : Nat × Nat × Nat × Nat × Nat × Nat) (n : Nat) :
    (s.withJob j).ringHw n = s.ringHw n := rfl

@[simp] theorem State.withJob_mem (s : State) (j : Nat × Nat × Nat × Nat × Nat × Nat) : (s.withJob j).mem = s.mem := rfl

/-- A descriptor that does not copy, or copies whole records, waits for the next tick. -/
theorem State.runEpt_waits (s : State) (n : Nat) {d : Desc} (hlen : d.op = 3 → d.len ≠ 0 ∧ d.len = 32 * d.arg1) :
    s.runEpt n d = s.withJob (n, d.didx, d.op, d.arg0, d.arg1, d.addr) := by
  rw [State.runEpt, if_neg fun h => (hlen h.1).1 h.2, if_neg fun h => h.2 (hlen h.1).2]
  rfl

theorem State.eptCmd_of_nextDesc {s : State} {n : Fin 64} {d : Desc} (hd : s.nextDesc n = some d)
    (hq : s.fld (F.RNG_CFG_QUEUE n) = 1) (hown : s.mirrorOnly = false) : s.eptCmd n d.op = (s.startDesc n d).runEpt n d := by
  have hmirror : (s.startDesc n d).mirrorOnly = false := (s.mirrorOnly_startDesc n d).trans hown
  simp [State.eptCmd, State.queueCmd, hd, hq, State.ownDesc, hmirror]

theorem eptCommand_waits {s : State} {n : Fin 64} {d : Desc} {op : Nat} (hd : s.nextDesc n = some d)
    (hq : s.fld (F.RNG_CFG_QUEUE n) = 1) (hown : s.mirrorOnly = false) (hop : d.op = op)
    (hlen : op = 3 → d.len ≠ 0 ∧ d.len = 32 * d.arg1) :
    Gives (.next (s.eptCmd n op)) (fun t => t.ept.jobs = s.ept.jobs ++ [(n.val, d.didx, op, d.arg0, d.arg1, d.addr)] ∧
      t.ept.eps = s.ept.eps ∧ t.ringHw n = next32 (s.ringHw n) ∧ t.mem = s.mem) := by
  subst hop
  have hept : (s.startDesc n d).ept = s.ept := unsnapped_ept.startDesc s n.isLt d
  refine ⟨_, rfl, ?_⟩
  rw [State.eptCmd_of_nextDesc hd hq hown, State.runEpt_waits _ n hlen]
  refine ⟨?_, ?_, ?_, ?_⟩
  · rw [State.withJob_ept, hept]
  · rw [State.withJob_ept, hept]
  · rw [State.ringHw_withJob, State.startDesc_ringHw]
  · rw [State.withJob_mem, State.startDesc_mem]

theorem exec_epOut (s : State) (n : Fin 64) : exec (.epOut n) s = .next (s.eptCmd n 1) := by rfl

theorem exec_epReturn (s : State) (n : Fin 64) : exec (.epReturn n) s = .next (s.eptCmd n 2) := by rfl

theorem exec_stateCopy (s : State) (n : Fin 64) : exec (.stateCopy n) s = .next (s.eptCmd n 3) := by rfl

/-! ### The control registers (R114, R117) -/

/-- A plain write leaves every other register, the endpoints and memory. -/
theorem State.writePlain_frame (s : State) (a : Nat) (v : Word) : (∀ b, b ≠ a → (s.writePlain a v).reg b = s.reg b) ∧
    (s.writePlain a v).ept = s.ept ∧ (s.writePlain a v).mem = s.mem :=
  ⟨fun _ hb => State.reg_setReg_ne s _ hb, s.writePlain_ept a v, s.writePlain_mem a v⟩

theorem eptCountWrite_writes (s : State) (acc : Acc) (v : Word) (h : s.takesWrite acc R.EPT_COUNT) (hlock : s.flag F.EPT_CTL_LOCK = false) :
    Gives (exec (.eptCountWrite acc v) s) (fun t => t.fld F.EPT_COUNT_N = F.EPT_COUNT_N.get v ∧
      (∀ a, a ≠ R.EPT_COUNT → t.reg a = s.reg a) ∧ t.ept = s.ept ∧ t.mem = s.mem) := by
  have hexec : exec (.eptCountWrite acc v) s = execEptCountWrite acc v s := by rfl
  have hmem : (⟨12, 0, .rwl, 0, .rtx, .rtx⟩ : FieldRow) ∈ fieldsAt R.EPT_COUNT := by decide +kernel
  have hlocked : s.locked R.EPT_COUNT = false := hlock
  refine ⟨s.writePlain R.EPT_COUNT v, ?_, ?_, s.writePlain_frame _ v⟩
  · rw [hexec, execEptCountWrite, State.guardWrite_of_takesWrite s acc _ _ h]
  · rw [State.writePlain, hlocked]
    exact (State.fld_setReg_same s F.EPT_COUNT_N _).trans (Fld.get_writtenWord R.EPT_COUNT _ _ hmem false _ v)

theorem eptEnable_writes (s : State) (acc : Acc) (v : Word) (h : s.takesWrite acc R.EPT_CTL) :
    Gives (exec (.eptEnable acc v) s) (fun t => t.fld F.EPT_CTL_EN = F.EPT_CTL_EN.get v ∧
      (∀ a, a ≠ R.EPT_CTL → t.reg a = s.reg a) ∧ t.ept = s.ept ∧ t.mem = s.mem) := by
  have hexec : exec (.eptEnable acc v) s = execEptEnable acc v s := by rfl
  have hmem : (⟨0, 0, .rw, 0, .rtx, .rtx⟩ : FieldRow) ∈ fieldsAt R.EPT_CTL := by decide +kernel
  refine ⟨s.writePlain R.EPT_CTL v, ?_, ?_, s.writePlain_frame _ v⟩
  · rw [hexec, execEptEnable, State.guardWrite_of_takesWrite s acc _ _ h]
  · exact (State.fld_setReg_same s F.EPT_CTL_EN _).trans (Fld.get_writtenWord R.EPT_CTL _ _ hmem _ _ v)

/-- Settles O12: each clause by its own lemma; the tick by what closes it, and the three queue commands by the one they share. -/
theorem endpointCommandsComplete : Obligations.EndpointCommandsComplete := by
  refine ⟨endpointTick_leaves, rejoinCwaitExpiry_goes, ?_, ?_, ?_, eptCountWrite_writes, eptEnable_writes⟩
  · intro s n d hd hq hown hop
    rw [exec_epOut]
    exact eptCommand_waits hd hq hown hop nofun
  · intro s n d hd hq hown hop
    rw [exec_epReturn]
    exact eptCommand_waits hd hq hown hop nofun
  · intro s n d hd hq hown hop hpos hlen
    rw [exec_stateCopy]
    exact eptCommand_waits hd hq hown hop fun _ => ⟨hpos, hlen⟩

end Sys2Proof.Machine
end

section
/-! Slot pages: a commit of no cluster, which a page swap does not take off the list (R133, R134, R136). -/

namespace Sys2Proof.Machine

/-- The swap of one commit whose point is crossed at an instant: of each of its clusters (R134-R136). -/
def State.swapCommit (u : Nat) (s : State) (m : Commit) : State :=
  let s := if m.cross.late then s.raiseFlag F.SLT_STAT_CMT_LATE 182 else s
  let s := m.cls.foldl (fun s c => (s.swap c u).commitPoint c) s
  m.cls.foldl (fun s c => s.newPage c u) s

theorem exec_commitSwap_of_due {s : State} {u : Nat} (hdue : s.swapDue = some u) : exec .commitSwap s =
    .next ((s.slt.commits.filter (fun m => decide (s.commitAt m s.lineEnd = some u))).foldl (State.swapCommit u) s) := by
  have hexec : exec .commitSwap s = execCommitSwap s := by rfl
  rw [hexec, execCommitSwap, hdue]
  rfl

/-- A commit that names no cluster swaps nothing, and stays: only the swap of a cluster takes a commit off the list. -/
theorem State.swapCommit_of_noCluster (u : Nat) (s : State) {m : Commit} (hcls : m.cls = []) : (s.swapCommit u m).slt = s.slt := by
  simp only [State.swapCommit, hcls, List.foldl_nil]
  split
  · exact s.raiseFlag_slt _ _
  · rfl

theorem exec_commitSwap_of_single {s : State} {u : Nat} {m : Commit} (hdue : s.swapDue = some u) (hm : s.slt.commits = [m])
    (hat : s.commitAt m s.lineEnd = some u) : exec .commitSwap s = .next (s.swapCommit u m) := by
  have hcrossed : [m].filter (fun m => decide (s.commitAt m s.lineEnd = some u)) = [m] := by simp [hat]
  rw [exec_commitSwap_of_due hdue, hm, hcrossed, List.foldl_cons, List.foldl_nil]

/-! ### A commit of no cluster, as firmware can make it -/

/-- Ring 2 on the SLT queue, at 1 µs, with one COMMIT to start: point 0 of the module time, forward, its mask of 32 bytes all 0. -/
def emptyMaskPosted : State :=
  let s : State := { State.reset with now := 1000 }
  let s := s.setFld F.SLT_CTL_EN 1
  let s := ((s.setFld (F.RNG_CFG_SIZE 2) 4).setFld (F.RNG_CFG_QUEUE 2) 2).setFld (F.RNG_BASE_LO_ADDR 2) (0x20000000 / 64)
  let s := (s.setFld (F.RNG_DB_IDX 2) 1).setRing 2 { Ring.init with queue := 2 }
  s.setBytes 0x20000000 (leBytes 4 1 ++ leBytes 4 32 ++ leBytes 8 0x20002000 ++ leBytes 4 0 ++ leBytes 4 (2 + 64) ++ leBytes 8 0)

/-- The commit that the mask of zeros makes: no cluster, its point behind, crossed in the next µs (R134). -/
def emptyCommit : Commit := ⟨[], 0, 2, 0, 1, ⟨1000, false, true, some 2000, 1⟩⟩

/-- The state after that COMMIT, at 5 µs. -/
def emptyMaskAccepted : State :=
  match exec (.sltCommit 2) emptyMaskPosted with
  | .next t => { t with now := 5000 }
  | _ => emptyMaskPosted

theorem emptyMaskAccepted_commits : emptyMaskAccepted.slt.commits = [emptyCommit] := by decide +kernel

theorem emptyMaskAccepted_commitAt : emptyMaskAccepted.commitAt emptyCommit emptyMaskAccepted.lineEnd = some 2000 := by decide +kernel

theorem emptyMaskAccepted_swapDue : emptyMaskAccepted.swapDue = some 2000 := by decide +kernel

/-- Refutes O14: a COMMIT whose mask names no cluster is accepted and queues a commit of no cluster; its point is crossed and its swap
leaves it queued, where the clause on a single commit says that none is left. -/
theorem not_slotCommandsComplete : ¬ Obligations.SlotCommandsComplete := by
  unfold Obligations.SlotCommandsComplete
  intro ⟨_, _, _, _, _, hswap, _⟩
  obtain ⟨t, ht, hleft, _⟩ := hswap emptyMaskAccepted 2000 emptyCommit emptyMaskAccepted_swapDue emptyMaskAccepted_commits
    List.nodup_nil nofun
  rw [exec_commitSwap_of_single emptyMaskAccepted_swapDue emptyMaskAccepted_commits emptyMaskAccepted_commitAt] at ht
  have hkept : t.slt.commits = [emptyCommit] := by
    rw [← Host.Outcome.next.inj ht, State.swapCommit_of_noCluster 2000 _ rfl, emptyMaskAccepted_commits]
  exact List.cons_ne_nil _ _ (hkept.symm.trans hleft)

end Sys2Proof.Machine
end

section
/-! Records, time frames and node status: the issue list, the payloads for a bus, the field nodes (R131, R140, R143, R144). -/

namespace Sys2Proof.Machine

/-! ### Payloads that leave for their bus (R139, R147) -/

/-- A reading of the state that the payloads which wait for their bus do not enter. -/
structure Unsent {α : Type} (p : State → α) : Prop where
  withOut : ∀ (s : State) (l : List OutRec), p { s with slt := { s.slt with out := l } } = p s

theorem unsent_regs : Unsent State.regs := ⟨fun _ _ => rfl⟩

theorem unsent_mem : Unsent State.mem := ⟨fun _ _ => rfl⟩

theorem unsent_now : Unsent State.now := ⟨fun _ _ => rfl⟩

theorem unsent_issue : Unsent (fun s => s.slt.issue) := ⟨fun _ _ => rfl⟩

theorem Unsent.sendOut {α : Type} {p : State → α} (hp : Unsent p) (s : State) (r : OutRec) : p (s.sendOut r) = p s := by
  unfold State.sendOut
  split
  · rfl
  · exact hp.withOut s _

/-- A payload that is not IMM goes last, where the module drives its bus and the bus takes frames. -/
theorem State.sendOut_out (s : State) (r : OutRec) (himm : r.imm = false) (hdrives : s.tdmMasked = false) (hup : s.busUp r.bus) :
    (s.sendOut r).slt.out = s.slt.out ++ [r] := by
  simp [State.sendOut, himm, hdrives, hup]

/-! ### Repeats (R140) -/

/-- A record that needs no transmission now. -/
def Issue.rested (i : Issue) (now : Nat) : Prop := 0 < i.left → now < i.sentAt + 1000000

/-- The repeat of one record, where it is due. -/
def State.repeated (s : State) (i : Issue) : Issue × State :=
  if 0 < i.left ∧ i.sentAt + 1000000 ≤ s.now then
    ({ i with left := i.left - 1, sentAt := s.now }, s.sendIssue { i with left := i.left - 1, sentAt := s.now })
  else (i, s)

theorem exec_recordRepeat (s : State) : exec .recordRepeat s = .next (s.eachIssue State.repeated).trimIssue := by rfl

theorem Unsent.repeated {α : Type} {p : State → α} (hp : Unsent p) (s : State) (i : Issue) : p (s.repeated i).2 = p s := by
  unfold State.repeated
  split
  · exact hp.sendOut s _
  · rfl

theorem State.repeated_rested (s : State) (i : Issue) : (s.repeated i).1.rested s.now := by
  unfold State.repeated Issue.rested
  split
  · intro _; simp only; omega
  · next hdue => simp only; omega

/-- What holds of the state that a rewrite of the issue list goes through, and of every record it has rewritten. -/
theorem State.eachIssue_spec (f : State → Issue → Issue × State) (P : State → Prop) (Q : Issue → Prop)
    (hlist : ∀ (s : State) (l : List Issue), P s → P { s with slt := { s.slt with issue := l } })
    (hstep : ∀ s i, P s → P (f s i).2 ∧ (f s i).2.slt.issue = s.slt.issue ∧ Q (f s i).1) (s : State) (hs : P s) :
    P (s.eachIssue f) ∧ ∀ i ∈ (s.eachIssue f).slt.issue, Q i := by
  refine List.foldlRecOn (motive := fun u => P u ∧ ∀ i ∈ u.slt.issue, Q i) _ _
    ⟨hlist s [] hs, fun _ hi => (List.not_mem_nil hi).elim⟩ fun u hu i _ => ?_
  obtain ⟨hP, hsame, hQ⟩ := hstep u i hu.1
  refine ⟨hlist _ _ hP, fun j hj => ?_⟩
  rcases List.mem_append.mp hj with hold | hnew
  · exact hu.2 j (hsame ▸ hold)
  · exact List.mem_singleton.mp hnew ▸ hQ

theorem recordRepeat_rests (s : State) : Gives (exec .recordRepeat s) (fun t =>
    (∀ i ∈ t.slt.issue, 0 < i.left → s.now < i.sentAt + 1000000) ∧ t.regs = s.regs ∧ t.mem = s.mem) := by
  have hspec := State.eachIssue_spec State.repeated (fun u => u.now = s.now ∧ u.regs = s.regs ∧ u.mem = s.mem)
    (fun i => i.rested s.now) (fun _ _ h => h) (fun u i ⟨hnow, hregs, hmem⟩ => ⟨⟨?_, ?_, ?_⟩, ?_, ?_⟩) s ⟨rfl, rfl, rfl⟩
  · obtain ⟨⟨_, hregs, hmem⟩, hrest⟩ := hspec
    exact ⟨_, exec_recordRepeat s, fun i hi => hrest i (List.mem_of_mem_filter hi), hregs, hmem⟩
  · exact (unsent_now.repeated u i).trans hnow
  · exact (unsent_regs.repeated u i).trans hregs
  · exact (unsent_mem.repeated u i).trans hmem
  · exact unsent_issue.repeated u i
  · exact hnow ▸ u.repeated_rested i

/-! ### Time frames (R143) -/

/-- A TSYNC on its way to every enabled bus. -/
def State.tsyncSent (s : State) : State :=
  s.timeBuses.foldl (fun u b => u.sendOut ⟨b, 255, 0x10, leBytes 2 s.slt.tseq ++ leBytes 2 (u.fld F.SLT_TFRM_PERIOD), false⟩) s

theorem Unsent.tsyncSent {α : Type} {p : State → α} (hp : Unsent p) (s : State) : p s.tsyncSent = p s :=
  State.foldl_keeps (fun u _ => hp.sendOut u _) _ s

theorem tsync_sends (s : State) (hen : s.flag F.SLT_CTL_EN) (hdrives : s.tdmMasked = false) (hper : 0 < s.fld F.SLT_TFRM_PERIOD)
    (hdue : s.slt.tsyncAt + 1000000 * s.fld F.SLT_TFRM_PERIOD ≤ s.now) :
    Gives (exec .tsync s) (fun t => t.slt.tseq = (s.slt.tseq + 1) % 2 ^ 16 ∧ t.slt.tsyncAt = s.now ∧
      t.slt.follow = s.timeBuses.map (fun b => (b, s.slt.tseq)) ∧ t.regs = s.regs ∧ t.mem = s.mem) := by
  have hexec : exec .tsync s = execTsync s := by rfl
  have hgo : s.flag F.SLT_CTL_EN ∧ !s.tdmMasked ∧ 0 < 1000000 * s.fld F.SLT_TFRM_PERIOD ∧
      s.slt.tsyncAt + 1000000 * s.fld F.SLT_TFRM_PERIOD ≤ s.now := ⟨hen, by rw [hdrives]; rfl, by omega, hdue⟩
  refine ⟨s.sendTsync, by rw [hexec, execTsync, if_pos hgo], rfl, ?_, rfl, ?_, ?_⟩
  · exact unsent_now.tsyncSent s
  · exact unsent_regs.tsyncSent s
  · exact unsent_mem.tsyncSent s

/-- The TFOLLOW of a bus for the TSYNC with a TSEQ, whose timestamp was measured. -/
def State.tfollowRec (s : State) (b : Fin 14) (mtb : BitVec 64) (q : Nat) : OutRec :=
  ⟨b, 255, 0x11, leBytes 2 q ++ [0, 0] ++ leBytes 8 (toBits 64 ((mtb.toNat : Int) + s.pairOfs mtb.toNat)), false⟩

theorem exec_tfollow_of_due (s : State) (b : Fin 14) (mtb : BitVec 64) (q : Nat)
    (h : s.slt.follow.find? (fun p => p.1 = b.val) = some (b.val, q)) : exec (.tfollow b mtb) s =
      .next (let u := s.sendOut (s.tfollowRec b mtb q); { u with slt := { u.slt with follow := u.slt.follow.filter (fun p => p.1 ≠ b.val) } }) := by
  have hexec : exec (.tfollow b mtb) s = execTfollow b mtb s := by rfl
  simp only [hexec, execTfollow, h]
  rfl

theorem tfollow_sends (s : State) (b : Fin 14) (mtb : BitVec 64) (q : Nat)
    (h : s.slt.follow.find? (fun p => p.1 = b.val) = some (b.val, q)) :
    Gives (exec (.tfollow b mtb) s) (fun t => (∀ p ∈ t.slt.follow, p.1 ≠ b.val) ∧ t.regs = s.regs ∧ t.mem = s.mem ∧
      (s.tdmMasked = false → s.busUp b → ∃ r, t.slt.out = s.slt.out ++ [r] ∧ r.bus = b.val ∧ r.type = 0x11)) := by
  refine ⟨_, exec_tfollow_of_due s b mtb q h, fun p hp => ?_, ?_, ?_, fun hdrives hup => ⟨s.tfollowRec b mtb q, ?_, rfl, rfl⟩⟩
  · simpa using List.of_mem_filter hp
  · exact unsent_regs.sendOut s _
  · exact unsent_mem.sendOut s _
  · exact s.sendOut_out _ rfl hdrives hup

/-! ### Node status (R144) -/

@[simp] theorem State.node_setNode_same (s : State) (b n : Nat) (x : Node) : (s.setNode b n x).node b n = x := SMap.get_set_same _ _ _

theorem State.node_congr {s t : State} (h : t.slt = s.slt) (b n : Nat) : t.node b n = s.node b n := by rw [State.node, State.node, h]

theorem State.event_slt (s : State) (code : Nat) (args : List Word) : (s.event code args).slt = s.slt :=
  Unrecorded.event ⟨fun _ _ _ _ => rfl, fun _ _ => rfl⟩ s code args

@[simp] theorem State.event_mem (s : State) (code : Nat) (args : List Word) : (s.event code args).mem = s.mem := unrecorded_mem.event s code args

theorem State.nodeLost_node (s : State) (b n : Nat) : (s.nodeLost b n).node b n = { s.node b n with healthy := false } := by
  rw [State.nodeLost, State.node_congr ((State.event_slt _ _ _).trans (State.raiseFlag_slt _ _ _)), State.node_setNode_same]

theorem State.nodeLost_flag (s : State) (b n : Nat) : (s.nodeLost b n).flag F.SLT_STAT_NODE_LOST = true := by
  rw [State.nodeLost, State.flag_congr (State.fld_congr (State.event_onlyRegs _ _ _ _ (by decide)))]
  exact State.flag_raiseFlag _ _ (by decide) _ (by decide)

theorem State.nodeLost_mem (s : State) (b n : Nat) : (s.nodeLost b n).mem = s.mem := by
  rw [State.nodeLost, State.event_mem, State.raiseFlag_mem, State.setNode_mem]

/-- Whether a node is healthy after an NSTATUS: it reports no fault, and it or one of the last NTO ms the time. -/
def State.statusOk (s : State) (x : Node) (timeOk fault : Bool) : Bool := !fault && (timeOk || (s.fld F.SLT_NTO_NTO ≠ 0 && s.nodeOk x))

/-- A node as an NSTATUS leaves it. -/
def State.nodeHeard (s : State) (b n tseq seq : Nat) (timeOk fault : Bool) : Node :=
  let x := s.node b n
  let ok := s.statusOk x timeOk fault
  { x with seen := true, timeOk := timeOk, fault := fault, lastSeq := seq, lastT := tseq
           okAt := if timeOk then some s.now else x.okAt, healthy := ok, ever := x.ever || ok }

theorem State.nstatus_eq (s : State) (b n tseq seq : Nat) (timeOk fault : Bool) : s.nstatus b n tseq seq timeOk fault =
    if (s.node b n).healthy && !s.statusOk (s.node b n) timeOk fault then
      (s.setNode b n (s.nodeHeard b n tseq seq timeOk fault)).nodeLost b n
    else if !(s.node b n).healthy && s.statusOk (s.node b n) timeOk fault && (s.node b n).ever then
      (s.setNode b n (s.nodeHeard b n tseq seq timeOk fault)).event 0x0305 []
    else s.setNode b n (s.nodeHeard b n tseq seq timeOk fault) := by rfl

theorem State.nstatus_node (s : State) (b n tseq seq : Nat) (timeOk fault : Bool) :
    (s.nstatus b n tseq seq timeOk fault).node b n = s.nodeHeard b n tseq seq timeOk fault := by
  rw [State.nstatus_eq]
  split
  · next hlost =>
    have hok : s.statusOk (s.node b n) timeOk fault = false := by
      simpa using (Bool.and_eq_true_iff.mp hlost).2
    rw [State.nodeLost_node, State.node_setNode_same, State.nodeHeard, hok]
  · split
    · rw [State.node_congr (State.event_slt _ _ _), State.node_setNode_same]
    · rw [State.node_setNode_same]

theorem State.nstatus_mem (s : State) (b n tseq seq : Nat) (timeOk fault : Bool) : (s.nstatus b n tseq seq timeOk fault).mem = s.mem := by
  rw [State.nstatus_eq]
  split
  · rw [State.nodeLost_mem, State.setNode_mem]
  · split
    · rw [State.event_mem, State.setNode_mem]
    · rw [State.setNode_mem]

theorem State.nodeOk_of_lately {s : State} {x : Node} {u : Nat} (hat : x.okAt = some u) (hlate : s.now < u + 1000000 * s.fld F.SLT_NTO_NTO) :
    s.nodeOk x = true := by
  simp only [State.nodeOk, hat, State.elapsed, Bool.not_eq_true', decide_eq_false_iff_not]; omega

theorem State.nodeOk_of_silent {s : State} {x : Node} (h : ∀ u, x.okAt = some u → u + 1000000 * s.fld F.SLT_NTO_NTO ≤ s.now) :
    s.nodeOk x = false := by
  unfold State.nodeOk
  split
  · next u hat => simp only [State.elapsed, decide_eq_true (h u hat), Bool.not_true]
  · rfl

theorem nstatus_shows (s : State) (b : Fin 14) (n : BitVec 8) (tseq seq : BitVec 16) (timeOk fault : Bool) (hup : s.busUp b) :
    Gives (exec (.nstatus b n tseq seq timeOk fault) s) (fun t => (t.node b n.toNat).seen ∧ (t.node b n.toNat).lastSeq = seq.toNat ∧
      (fault = false → timeOk ∨ (s.fld F.SLT_NTO_NTO ≠ 0 ∧ ∃ u, (s.node b n.toNat).okAt = some u ∧ s.now < u + 1000000 * s.fld F.SLT_NTO_NTO) →
        (t.node b n.toNat).healthy) ∧
      (fault ∨ (timeOk = false ∧ (s.node b n.toNat).okAt = none) → (t.node b n.toNat).healthy = false) ∧ t.mem = s.mem) := by
  have hexec : exec (.nstatus b n tseq seq timeOk fault) s = execNstatus b n tseq seq timeOk fault s := by rfl
  refine ⟨s.nstatus b n.toNat tseq.toNat seq.toNat timeOk fault, by rw [hexec, execNstatus, if_pos hup], ?_⟩
  beta_reduce
  rw [State.nstatus_node]
  refine ⟨rfl, rfl, ?_, ?_, s.nstatus_mem _ _ _ _ _ _⟩
  · rintro rfl (htime | ⟨hnto, u, hat, hlate⟩)
    · simp [State.nodeHeard, State.statusOk, htime]
    · simp [State.nodeHeard, State.statusOk, hnto, State.nodeOk_of_lately hat hlate]
  · rintro (hfault | ⟨htime, hnever⟩)
    · simp [State.nodeHeard, State.statusOk, hfault]
    · have hnot : s.nodeOk (s.node b n.toNat) = false := State.nodeOk_of_silent fun u hat => absurd (hnever.symm.trans hat) nofun
      simp [State.nodeHeard, State.statusOk, htime, hnot]

theorem nodeTimeout_loses (s : State) (b : Fin 14) (n : BitVec 8) (hhealthy : (s.node b n.toNat).healthy) (hnto : s.fld F.SLT_NTO_NTO ≠ 0)
    (hsilent : ∀ u, (s.node b n.toNat).okAt = some u → u + 1000000 * s.fld F.SLT_NTO_NTO ≤ s.now) :
    Gives (exec (.nodeTimeout b n) s) (fun t => (t.node b n.toNat).healthy = false ∧ t.flag F.SLT_STAT_NODE_LOST ∧ t.mem = s.mem) := by
  have hexec : exec (.nodeTimeout b n) s = execNodeTimeout b n s := by rfl
  have hlost : (s.node b n.toNat).healthy ∧ s.fld F.SLT_NTO_NTO ≠ 0 ∧ !s.nodeOk (s.node b n.toNat) :=
    ⟨hhealthy, hnto, by rw [State.nodeOk_of_silent hsilent]; rfl⟩
  refine ⟨s.nodeLost b n.toNat, by rw [hexec, execNodeTimeout, if_pos hlost], ?_, s.nodeLost_flag _ _, s.nodeLost_mem _ _⟩
  rw [State.nodeLost_node]

/-! ### Sensor values (R131) -/

/-- A SENSE endpoint in service that names an index of a node. -/
abbrev Ep.names (x : Ep) (b n k : Nat) : Prop :=
  x.state ≠ epOUT ∧ eKind x.cfg = kSENSE ∧ eRemote x.cfg ∧ eBus x.cfg = b ∧ eNode x.cfg = n ∧ eIndex x.cfg = k

/-- A value goes to endpoint e where it names the value's index. -/
def State.sensed (b n : Nat) (v : Nat × Nat) (s : State) (e : Nat) : State :=
  if (s.ep e).names b n v.1 then s.setEp e { s.ep e with val := v.2 } else s

/-- The frame of one value: it goes to endpoint after endpoint. -/
theorem exec_senseData_of_up (s : State) (b : Fin 14) (n : BitVec 8) (k : BitVec 12) (v : Word) (hup : s.busUp b) :
    exec (.senseData b n [(k, v)]) s = .next ((SMap.keys s.ept.eps).foldl (State.sensed b n.toNat (k.toNat, v.toNat)) s) := by
  have hexec : exec (.senseData b n [(k, v)]) s = execSenseData b n [(k, v)] s := by rfl
  rw [hexec, execSenseData, if_pos hup]
  rfl

section
variable (b n : Nat) (v : Nat × Nat) (s : State)

theorem State.sensed_ep_same {e : Nat} (h : (s.ep e).names b n v.1) : (State.sensed b n v s e).ep e = { s.ep e with val := v.2 } := by
  rw [State.sensed, if_pos h, State.ep_setEp_same]

theorem State.sensed_ep_ne {e f : Nat} (h : f ≠ e) : (State.sensed b n v s e).ep f = s.ep f := by
  rw [State.sensed]
  split
  · exact s.ep_setEp_ne _ h
  · rfl

/-- An endpoint stays in its service state, on its entry. -/
theorem State.sensed_keeps (e f : Nat) : (((State.sensed b n v s e).ep f).state, ((State.sensed b n v s e).ep f).cfg) =
    ((s.ep f).state, (s.ep f).cfg) := by
  by_cases hf : f = e
  · subst hf
    rw [State.sensed]
    split
    · rw [State.ep_setEp_same]
    · rfl
  · rw [State.sensed_ep_ne b n v s hf]

theorem State.sensed_regs (e : Nat) : (State.sensed b n v s e).regs = s.regs := by
  rw [State.sensed, apply_ite State.regs, State.setEp_regs, ite_self]

theorem State.sensed_mem (e : Nat) : (State.sensed b n v s e).mem = s.mem := by
  rw [State.sensed, apply_ite State.mem, State.setEp_mem, ite_self]

theorem State.foldl_sensed_keeps (l : List Nat) (e : Nat) : ((l.foldl (State.sensed b n v) s).ep e).state = (s.ep e).state ∧
    ((l.foldl (State.sensed b n v) s).ep e).cfg = (s.ep e).cfg :=
  Prod.mk.inj (State.foldl_keeps (p := fun u => ((u.ep e).state, (u.ep e).cfg)) (fun u f => u.sensed_keeps b n v f e) l s)

/-- The endpoint goes on naming the index, and takes the value when its turn comes. -/
theorem State.foldl_sensed_val {l : List Nat} {e : Nat} (he : e ∈ l) (hnames : (s.ep e).names b n v.1) :
    ((l.foldl (State.sensed b n v) s).ep e).val = v.2 := by
  induction l using List.reverseRecOn with
  | nil => cases he
  | append_singleton l f ih =>
    obtain ⟨hstate, hcfg⟩ := s.foldl_sensed_keeps b n v l e
    have hstill : ((l.foldl (State.sensed b n v) s).ep e).names b n v.1 := by rwa [Ep.names, hstate, hcfg]
    rw [List.foldl_append, List.foldl_cons, List.foldl_nil]
    by_cases hf : e = f
    · subst hf
      rw [State.sensed_ep_same b n v _ hstill]
    · rw [State.sensed_ep_ne b n v _ hf]
      exact ih ((List.mem_append.mp he).resolve_right fun h => hf (List.mem_singleton.mp h))

end

theorem senseData_stores (s : State) (b : Fin 14) (n : BitVec 8) (k : BitVec 12) (v : Word) (e : Nat) (hup : s.busUp b)
    (he : e ∈ SMap.keys s.ept.eps) (hnames : (s.ep e).names b n.toNat k.toNat) :
    Gives (exec (.senseData b n [(k, v)]) s) (fun t => (t.ep e).val = v.toNat ∧ (t.ep e).state = (s.ep e).state ∧ t.regs = s.regs ∧
      t.mem = s.mem) := by
  refine ⟨_, exec_senseData_of_up s b n k v hup, State.foldl_sensed_val _ _ _ s he hnames, ?_, ?_, ?_⟩
  · exact (s.foldl_sensed_keeps _ _ _ _ e).1
  · exact State.foldl_keeps (fun u f => u.sensed_regs _ _ _ f) _ s
  · exact State.foldl_keeps (fun u f => u.sensed_mem _ _ _ f) _ s

/-- Settles O15: each clause by its own lemma. -/
theorem nodeAndTimeFrameCommandsComplete : Obligations.NodeAndTimeFrameCommandsComplete :=
  ⟨recordRepeat_rests, tsync_sends, tfollow_sends, nstatus_shows, nodeTimeout_loses,
    fun s b n k v e hup he hstate hkind hremote hbus hnode hindex =>
      senseData_stores s b n k v e hup he ⟨hstate, hkind, hremote, hbus, hnode, hindex⟩⟩

end Sys2Proof.Machine
end

section
/-! The capture of a denied access at its target, and a refused write of a slot page (R57, R132). -/

namespace Sys2Proof.Machine

/-! ### The capture (R57) -/

section
variable (s : State) (t : Fin 18) (acc : Acc) (k : AccKind) (a : Nat)

theorem ACC_T_FINFO_ne_RNG_INT_PEND : R.ACC_T_FINFO t ≠ R.RNG_INT_PEND ((136 + t.val) / 32) := by
  simp only [R.ACC_T_FINFO, R.RNG_INT_PEND]; omega

theorem ACC_T_FADDR_LO_ne : R.ACC_T_FADDR_LO t ≠ R.ACC_T_FADDR_HI t ∧ R.ACC_T_FADDR_LO t ≠ R.ACC_T_FINFO t ∧
    R.ACC_T_FADDR_LO t ≠ R.RNG_INT_PEND ((136 + t.val) / 32) := by
  simp only [R.ACC_T_FADDR_LO, R.ACC_T_FADDR_HI, R.ACC_T_FINFO, R.RNG_INT_PEND]; omega

theorem ACC_T_FINFO_notMem_eventRegs : R.ACC_T_FINFO t ∉ eventRegs := by
  simp only [eventRegs, R.ACC_T_FINFO, R.EVR_LOSTCNT, R.EVR_STAT, R.RNG_INT_PEND, List.mem_cons, List.not_mem_nil, or_false]; omega

/-- The event of a denied access is not its capture. -/
theorem State.flag_valid_accessEvent : (s.accessEvent t acc k a).flag (F.ACC_T_FINFO_VALID t) = s.flag (F.ACC_T_FINFO_VALID t) :=
  State.flag_congr (State.fld_congr (s.event_onlyRegs _ _ _ (ACC_T_FINFO_notMem_eventRegs t)))

/-- What FINFO holds of a captured access below VALID. -/
def capturedInfo (acc : Acc) (k : AccKind) : Nat :=
  (if acc.sec then 2 ^ 11 else 0) + (if acc.priv then 2 ^ 10 else 0) + (if k = .exec then 2 ^ 9 else 0) +
    (if k = .write then 2 ^ 8 else 0) + acc.master.val

theorem capturedInfo_lt : capturedInfo acc k < 2 ^ 31 := by
  unfold capturedInfo
  split_ifs <;> omega

theorem State.denyAt_of_valid (h : s.flag (F.ACC_T_FINFO_VALID t) = true) :
    s.denyAt t acc k a = (s.accessEvent t acc k a).bump (F.ACC_T_FINFO_COUNT t) :=
  if_pos ((s.flag_valid_accessEvent t acc k a).trans h)

theorem State.denyAt_of_not_valid (h : s.flag (F.ACC_T_FINFO_VALID t) = false) :
    s.denyAt t acc k a = ((((s.accessEvent t acc k a).setReg (R.ACC_T_FADDR_LO t) (w32 a)).setReg (R.ACC_T_FADDR_HI t)
      (w32 (a / 2 ^ 32 % 256))).setReg (R.ACC_T_FINFO t) (w32 (2 ^ 31 + capturedInfo acc k))).pend (136 + t) := by
  have hfree : ¬ (s.accessEvent t acc k a).flag (F.ACC_T_FINFO_VALID t) = true := by
    rw [s.flag_valid_accessEvent t acc k a, h]; decide
  simp only [State.denyAt, if_neg hfree, capturedInfo, Nat.add_assoc]

/-- A denied access leaves a capture at its target: an earlier one, or its own. -/
theorem State.flag_valid_denyAt : (s.denyAt t acc k a).flag (F.ACC_T_FINFO_VALID t) = true := by
  cases h : s.flag (F.ACC_T_FINFO_VALID t)
  case true =>
    have hcount : (F.ACC_T_FINFO_COUNT t).Ok := by simp [F.ACC_T_FINFO_COUNT, Fld.Ok]
    rw [State.denyAt_of_valid _ _ _ _ _ h, State.bump, State.flag_congr (State.fld_setFld_other _ _ _ hcount ?_ ?_ _),
      State.flag_valid_accessEvent, h]
    · simp [F.ACC_T_FINFO_VALID]
    · simp [F.ACC_T_FINFO_VALID, F.ACC_T_FINFO_COUNT]
  case false =>
    have hinfo : (F.ACC_T_FINFO_VALID t).get (w32 (2 ^ 31 + capturedInfo acc k)) = 1 := by
      have := capturedInfo_lt acc k
      simp only [F.ACC_T_FINFO_VALID, Fld.get, w32, BitVec.toNat_ofNat]; omega
    rw [State.denyAt_of_not_valid _ _ _ _ _ h, State.pend,
      State.flag_congr (State.fld_setReg_ne _ _ _ (F.ACC_T_FINFO_VALID t) (ACC_T_FINFO_ne_RNG_INT_PEND t)), State.flag, decide_eq_true_eq]
    exact (State.fld_setReg_same _ (F.ACC_T_FINFO_VALID t) _).trans hinfo

/-- A denied access that finds nothing captured is captured with its address, and raises its target's interrupt. -/
theorem State.denyAt_captures (h : s.flag (F.ACC_T_FINFO_VALID t) = false) :
    (s.denyAt t acc k a).reg (R.ACC_T_FADDR_LO t) = w32 a ∧ (s.denyAt t acc k a).isPending (136 + t) := by
  obtain ⟨hhi, hinfo, hpend⟩ := ACC_T_FADDR_LO_ne t
  rw [State.denyAt_of_not_valid _ _ _ _ _ h]
  constructor
  · rw [State.pend, State.reg_setReg_ne _ _ hpend, State.reg_setReg_ne _ _ hinfo, State.reg_setReg_ne _ _ hhi, State.reg_setReg_same]
  · exact State.isPending_pend _ _

end

/-! ### A refused write of a slot page (R132) -/

theorem unsnapped_slt : Unsnapped State.slt :=
  ⟨fun _ _ _ _ => rfl, fun _ _ => rfl, fun _ _ => rfl, fun _ _ => rfl, fun _ _ _ => rfl, fun _ _ => rfl⟩

section
variable (c : Fin 256) (p : Fin 2) (n : Fin 64) (k : Fin 4)

theorem SLT_PAGE_offset : R.SLT_PAGE c p n k - R.SLT_PAGE 0 0 0 0 = 0x800 * c.val + 0x400 * p.val + 0x10 * n.val + 4 * k.val := by
  simp only [R.SLT_PAGE, Nat.mul_zero, Nat.add_zero, Nat.add_assoc, Nat.add_sub_cancel_left]

/-- The cluster and the page of a slot word lie in its address. -/
theorem SLT_PAGE_decode : (R.SLT_PAGE c p n k - R.SLT_PAGE 0 0 0 0) / 0x800 = c ∧
    (R.SLT_PAGE c p n k - R.SLT_PAGE 0 0 0 0) / 0x400 % 2 = p := by
  rw [SLT_PAGE_offset]; omega

theorem SLT_PAGE_ge : R.STR_TRGCFG 0 ≤ R.SLT_PAGE c p n k := by simp only [R.STR_TRGCFG, R.SLT_PAGE]; omega

theorem exec_slotPageWrite_of_takesWrite {s : State} {acc : Acc} (v : Word) (h : s.takesWrite acc (R.SLT_PAGE c p n k))
    (hown : s.mirrorOnly = false) : exec (.slotPageWrite acc c p n k v) s = .next (s.writePage acc (R.SLT_PAGE c p n k) v) := by
  have hexec : exec (.slotPageWrite acc c p n k v) s = execSlotPageWrite acc c p n k v s := by rfl
  rw [hexec, execSlotPageWrite, State.guardWrite_of_takesWrite s acc _ _ h, State.ifOwn, if_neg (by rw [hown]; decide)]

/-- LOCKED_WR set, and the write denied at target 17. -/
def State.pageRefused (s : State) (acc : Acc) (a : Nat) : State := (s.raiseFlag F.SLT_STAT_LOCKED_WR 182).denyAt 17 acc .write a

theorem State.writePage_refused {s : State} {acc : Acc} (v : Word) (h : p.val = s.page c ∨ s.hasCommit c) :
    s.writePage acc (R.SLT_PAGE c p n k) v = s.pageRefused acc (R.SLT_PAGE c p n k) := by
  obtain ⟨hc, hp⟩ := SLT_PAGE_decode c p n k
  simp only [State.writePage, State.pageRefused, hc, hp, if_pos h]

/-- Only the flag, the recorder and the capture know of a refused write. -/
theorem State.pageRefused_reg (s : State) (acc : Acc) (a : Nat) {b : Nat} (hlow : R.STR_TRGCFG 0 ≤ b) (hb : b ≠ R.SLT_STAT) :
    (s.pageRefused acc a).reg b = s.reg b := by
  have hpend : b ≠ R.RNG_INT_PEND (182 / 32) := by simp only [R.STR_TRGCFG] at hlow; simp only [R.RNG_INT_PEND]; omega
  rw [State.pageRefused, (unsnapped_reg hlow).denyAt _ (by decide), State.reg_raiseFlag_ne _ _ _ _ hb hpend]

theorem State.pageRefused_lockedWr (s : State) (acc : Acc) (a : Nat) : (s.pageRefused acc a).flag F.SLT_STAT_LOCKED_WR = true := by
  rw [State.pageRefused, State.flag_congr (State.fld_congr ((unsnapped_reg (by decide)).denyAt _ (by decide) acc .write a))]
  exact s.flag_raiseFlag _ (by decide) _ (by decide)

theorem State.pageRefused_slt (s : State) (acc : Acc) (a : Nat) : (s.pageRefused acc a).slt = s.slt := by
  rw [State.pageRefused, unsnapped_slt.denyAt _ (by decide), State.raiseFlag_slt]

theorem State.pageRefused_mem (s : State) (acc : Acc) (a : Nat) : (s.pageRefused acc a).mem = s.mem := by
  rw [State.pageRefused, unrecorded_mem.denyAt, State.raiseFlag_mem]

theorem State.flag_valid_lockedWr (s : State) : (s.raiseFlag F.SLT_STAT_LOCKED_WR 182).flag (F.ACC_T_FINFO_VALID 17) =
    s.flag (F.ACC_T_FINFO_VALID 17) :=
  State.flag_congr (State.fld_congr (s.reg_raiseFlag_ne _ _ _ (by decide) (by decide)))

end

/-- Settles O16: a refused write sets LOCKED_WR and is denied at target 17, and neither touches a slot word. -/
theorem activePageIsReadOnly : Obligations.ActivePageIsReadOnly := by
  unfold Obligations.ActivePageIsReadOnly
  intro s acc c p n k v htakes hown hlocked
  have hrefused := State.writePage_refused c p n k (acc := acc) v hlocked
  refine ⟨_, (exec_slotPageWrite_of_takesWrite c p n k v htakes hown).trans (congrArg _ hrefused), ?_, ?_, ?_, ?_, ?_, ?_⟩
  · intro c' p' n' k'
    exact s.pageRefused_reg acc _ (SLT_PAGE_ge c' p' n' k') (by simp only [R.SLT_PAGE, R.SLT_STAT]; omega)
  · exact s.pageRefused_lockedWr acc _
  · exact s.pageRefused_slt acc _
  · exact State.flag_valid_denyAt _ 17 acc .write _
  · intro hfree
    exact State.denyAt_captures _ 17 acc .write _ ((s.flag_valid_lockedWr).trans hfree)
  · exact s.pageRefused_mem acc _

end Sys2Proof.Machine
end

section
/-! Coverage: the readings of the state that the engine's accesses and its work on one frame of the cache do not enter (R57, R156, R159). -/

namespace Sys2Proof.Machine

/-! ### Registers that decide what the engine reaches -/

/-- A register that decides where an access of the engine goes and whether it is permitted: an entry of an access table (R56), or
COV_CBASE (R156). -/
def steersAccess (b : Nat) : Prop := (R.ACC_TE_BASE 0 0 ≤ b ∧ b < R.ACC_TE_BASE 18 0 ∧ b % 0x400 < 0x200) ∨ b = R.COV_CBASE

theorem not_steersAccess_pend {irq : Nat} (h : irq < 256) : ¬ steersAccess (R.RNG_INT_PEND (irq / 32)) := by
  simp only [steersAccess, R.ACC_TE_BASE, R.COV_CBASE, R.RNG_INT_PEND]
  omega

theorem not_steersAccess_of_cov {b : Nat} (hlo : R.COV_FSTAT ≤ b) : ¬ steersAccess b := by
  simp only [R.COV_FSTAT] at hlo
  simp only [steersAccess, R.ACC_TE_BASE, R.COV_CBASE]
  omega

theorem steersAccess_entry {x e : Nat} (hx : x < 18) (he : e < 64) :
    steersAccess (R.ACC_TE_BASE x e) ∧ steersAccess (R.ACC_TE_CTL x e) := by
  simp only [steersAccess, R.ACC_TE_BASE, R.ACC_TE_CTL, R.COV_CBASE]
  omega

/-- The entries of a table decide what it permits (R56). -/
theorem State.permits_of_entries {s t : State} (h : ∀ b, steersAccess b → t.reg b = s.reg b) {x : Nat} (hx : x < 18) (acc : Acc)
    (k : AccKind) (a : Nat) : t.permits x acc k a = s.permits x acc k a := by
  have hctl (e : Nat) (he : e < 64) (f : Fld) (hf : f.addr = R.ACC_TE_CTL x e) : t.fld f = s.fld f :=
    State.fld_congr (hf ▸ h _ (steersAccess_entry hx he).2)
  have hflag (e : Nat) (he : e < 64) (f : Fld) (hf : f.addr = R.ACC_TE_CTL x e) : t.flag f = s.flag f := State.flag_congr (hctl e he f hf)
  have hmatch : ∀ e ∈ List.range 64, t.accMatches x e acc.master a = s.accMatches x e acc.master a := by
    intro e he
    have he := List.mem_range.mp he
    have hbase : t.fld (F.ACC_TE_BASE_ADDR x e) = s.fld (F.ACC_TE_BASE_ADDR x e) := State.fld_congr (h _ (steersAccess_entry hx he).1)
    rw [State.accMatches, State.accMatches, hctl e he _ rfl, hctl e he _ rfl, hbase]
  have hfind : (List.range 64).find? (fun e => t.accMatches x e acc.master a) =
      (List.range 64).find? (fun e => s.accMatches x e acc.master a) := List.find?_congr hmatch
  unfold State.permits
  rw [hfind]
  split
  · rfl
  next e hentry =>
    have he := List.mem_range.mp (List.mem_of_find?_eq_some hentry)
    rw [hflag e he (F.ACC_TE_CTL_R x e) rfl, hflag e he (F.ACC_TE_CTL_W x e) rfl, hflag e he (F.ACC_TE_CTL_X x e) rfl,
      hflag e he (F.ACC_TE_CTL_PRIV x e) rfl, hflag e he (F.ACC_TE_CTL_SEC x e) rfl]

theorem State.firstDenied_of_entries {s t : State} (hpart : t.part = s.part) (h : ∀ b, steersAccess b → t.reg b = s.reg b)
    (acc : Acc) (k : AccKind) (a n : Nat) : t.firstDenied acc k a n = s.firstDenied acc k a n := by
  have hallowed : t.allowed acc k = s.allowed acc k := by
    funext b
    rw [State.allowed, State.allowed, hpart]
    split
    next x hx => rw [State.permits_of_entries h (targetOf_lt hx)]
    next => rfl
  rw [State.firstDenied, State.firstDenied, hallowed]

/-- What marking a cell of a frame can do (R170): nothing, a write that is denied, or a write that leaves the frame dirty. -/
theorem State.advance_cases (s : State) (f cell : Nat) : s.advance f cell = s ∨ ∃ (a : Nat) (bs : List Byte),
    s.advance f cell = (s.unitWrite (engine 13) a bs).2 ∨
    ∃ x, s.frame f = some x ∧ s.advance f cell = (s.unitWrite (engine 13) a bs).2.setFrame f (some { x with dirty := true }) := by
  unfold State.advance
  split
  · next x hx =>
    extract_lets a v b
    split
    · exact .inl rfl
    · refine .inr ⟨a, [BitVec.ofNat 8 b], ?_⟩
      split
      next ok u hu =>
      rw [hu]
      split
      · exact .inr ⟨x, hx, rfl⟩
      · exact .inl rfl
  · exact .inl rfl

/-! ### Readings beside one frame -/

/-- Frame f of the cache replaced in the engine's record. -/
def State.withFrame (s : State) (f : Nat) (x : Option Tile) : State :=
  { s with cov := { s.cov with frames := SMap.set (fun _ => none) s.cov.frames f x } }

/-- A reading of the state that frame f, memory, the recorder and the registers that decide no access do not enter: work of the engine on
frame f leaves it. -/
structure BesideFrame {α : Type} (f : Nat) (p : State → α) : Prop where
  setReg : ∀ (s : State) {b : Nat} (w : Word), ¬ steersAccess b → p (s.setReg b w) = p s
  withEvr : ∀ (s : State) (e : Evr), p { s with evr := e } = p s
  withMem : ∀ (s : State) (m : List (Nat × Byte)), p { s with mem := m } = p s
  withFrame : ∀ (s : State) (x : Option Tile), p (s.withFrame f x) = p s

theorem besideFrame_frame {f g : Nat} (h : g ≠ f) : BesideFrame f (fun s => s.frame g) :=
  ⟨fun _ _ _ _ => rfl, fun _ _ => rfl, fun _ _ => rfl, fun s _ => SMap.get_set_ne s.cov.frames _ h⟩

theorem besideFrame_wbAt (f : Nat) : BesideFrame f (fun s => s.cov.wbAt) :=
  ⟨fun _ _ _ _ => rfl, fun _ _ => rfl, fun _ _ => rfl, fun _ _ => rfl⟩

theorem besideFrame_marks (f : Nat) : BesideFrame f (fun s => s.cov.marks) :=
  ⟨fun _ _ _ _ => rfl, fun _ _ => rfl, fun _ _ => rfl, fun _ _ => rfl⟩

theorem besideFrame_ring (f n : Nat) : BesideFrame f (fun s => s.ring n) :=
  ⟨fun _ _ _ _ => rfl, fun _ _ => rfl, fun _ _ => rfl, fun _ _ => rfl⟩

theorem besideFrame_frameAddr (f g : Nat) : BesideFrame f (fun s => s.frameAddr g) := by
  refine ⟨fun s b w hb => ?_, fun _ _ => rfl, fun _ _ => rfl, fun _ _ => rfl⟩
  have hne : R.COV_CBASE ≠ b := fun h => hb (.inr h.symm)
  rw [State.frameAddr, State.fld_setReg_ne s _ _ F.COV_CBASE_ADDR hne, State.frameAddr]

theorem besideFrame_firstDenied (f : Nat) (acc : Acc) (k : AccKind) (a n : Nat) : BesideFrame f (fun s => s.firstDenied acc k a n) := by
  refine ⟨fun s b w hb => ?_, fun s e => ?_, fun s m => ?_, fun s x => ?_⟩
  · exact State.firstDenied_of_entries (s.setReg_part b w) (fun c hc => State.reg_setReg_ne s w fun h => hb (h ▸ hc)) acc k a n
  all_goals exact State.firstDenied_of_entries rfl (fun _ _ => rfl) acc k a n

section BesideFrame
variable {α : Type} {f : Nat} {p : State → α} (hp : BesideFrame f p)
include hp

theorem BesideFrame.setFld (s : State) {g : Fld} (v : Nat) (hg : ¬ steersAccess g.addr) : p (s.setFld g v) = p s := hp.setReg s _ hg

theorem BesideFrame.pend (s : State) {irq : Nat} (h : irq < 256) : p (s.pend irq) = p s := hp.setReg s _ (not_steersAccess_pend h)

theorem BesideFrame.raiseFlag (s : State) {g : Fld} {irq : Nat} (hg : ¬ steersAccess g.addr) (h : irq < 256) :
    p (s.raiseFlag g irq) = p s := by
  rw [State.raiseFlag, apply_ite p, hp.pend _ h, hp.setFld _ _ hg, ite_self]

theorem BesideFrame.covFlag (s : State) {g : Fld} (hg : R.COV_FSTAT ≤ g.addr) : p (s.covFlag g) = p s :=
  hp.raiseFlag s (not_steersAccess_of_cov hg) (by decide)

theorem BesideFrame.event (s : State) (code : Nat) (args : List Word) : p (s.event code args) = p s := by
  have hlost : ¬ steersAccess R.EVR_LOSTCNT := by simp only [steersAccess, R.ACC_TE_BASE, R.COV_CBASE, R.EVR_LOSTCNT]; omega
  have hstat : ¬ steersAccess R.EVR_STAT := by simp only [steersAccess, R.ACC_TE_BASE, R.COV_CBASE, R.EVR_STAT]; omega
  unfold State.event
  split
  · exact hp.withEvr s _
  · rw [State.loseEvent, hp.withEvr, hp.raiseFlag _ hstat (by decide), State.bump, hp.setFld _ _ hlost]

/-- The capture of a denied access lies beside the entries of its table (R57). -/
theorem BesideFrame.denyAt (s : State) {t : Nat} (ht : t < 18) (acc : Acc) (k : AccKind) (a : Nat) : p (s.denyAt t acc k a) = p s := by
  obtain ⟨hlo, hhi, hinfo⟩ : ¬ steersAccess (R.ACC_T_FADDR_LO t) ∧ ¬ steersAccess (R.ACC_T_FADDR_HI t) ∧
      ¬ steersAccess (R.ACC_T_FINFO t) := by
    simp only [steersAccess, R.ACC_TE_BASE, R.COV_CBASE, R.ACC_T_FADDR_LO, R.ACC_T_FADDR_HI, R.ACC_T_FINFO]
    omega
  simp only [State.denyAt]
  rw [apply_ite p, State.bump, hp.setFld _ _ hinfo, hp.pend _ (by omega), hp.setReg _ _ hinfo, hp.setReg _ _ hhi, hp.setReg _ _ hlo,
    ite_self, State.accessEvent, hp.event]

theorem BesideFrame.deny (s : State) (acc : Acc) (k : AccKind) (a : Nat) : p (s.deny acc k a) = p s := by
  unfold State.deny
  split
  · exact hp.denyAt s (targetOf_lt ‹_›) acc k a
  · exact hp.event s _ _

theorem BesideFrame.noteAbsent (s : State) (a n : Nat) (stop : Option Nat) : p (s.noteAbsent a n stop) = p s := by
  refine State.foldl_keeps (fun u b => ?_) _ s
  split
  · exact hp.event u _ _
  · rfl

theorem BesideFrame.unitRead (s : State) (acc : Acc) (a n : Nat) : p (s.unitRead acc a n).2 = p s := by
  unfold State.unitRead
  split
  · rw [hp.deny, hp.noteAbsent]
  · rw [hp.noteAbsent]

theorem BesideFrame.unitWrite (s : State) (acc : Acc) (a : Nat) (bs : List Byte) : p (s.unitWrite acc a bs).2 = p s := by
  unfold State.unitWrite
  split
  · rw [hp.deny, hp.noteAbsent]
  · rw [State.setBytes_keeps hp.withMem, hp.noteAbsent]

theorem BesideFrame.setFrame (s : State) (x : Option Tile) : p (s.setFrame f x) = p s := by
  have hcache : ¬ steersAccess R.COV_CACHE := not_steersAccess_of_cov (by decide)
  simp only [State.setFrame]
  rw [hp.setFld _ _ hcache, hp.setFld _ _ hcache]
  exact hp.withFrame s x

theorem BesideFrame.writeBackFailed (s : State) (idx : Nat) : p ((s.covFlag F.COV_STAT_WB_ERR).event 0x0403 [w32 idx]) = p s := by
  rw [hp.event, hp.covFlag _ (by decide)]

/-- Writing frame f back, whether or not it can be, leaves what frame f does not enter (R159). -/
theorem BesideFrame.writeBack (s : State) (ecc : Bool) : p (s.writeBack f ecc).2 = p s := by
  unfold State.writeBack
  split
  · next x _ =>
    have hread := hp.unitRead s (engine 13) (s.frameAddr f) 16384
    split_ifs
    · rfl
    · exact hp.writeBackFailed s _
    · split
      · next u hu => rw [hp.writeBackFailed, ← hread, hu]
      · next bs u hu =>
        rw [hu] at hread
        have hwrite := hp.unitWrite u (engine 13) x.addr bs
        dsimp only
        split_ifs
        · rw [State.bump, hp.setFld _ _ (not_steersAccess_of_cov (by decide)), hp.setFrame, hwrite, hread]
        · rw [hp.writeBackFailed, hwrite, hread]
  · rfl

/-- A mark in frame f leaves what frame f does not enter (R170). -/
theorem BesideFrame.advance (s : State) (cell : Nat) : p (s.advance f cell) = p s := by
  obtain h | ⟨a, bs, h | ⟨x, -, h⟩⟩ := s.advance_cases f cell
  · rw [h]
  · rw [h, hp.unitWrite]
  · rw [h, hp.setFrame, hp.unitWrite]

end BesideFrame

end Sys2Proof.Machine
end

section
/-! Coverage: the frames of the cache, their write-back and what the unload of a field leaves (R159, R174). -/

namespace Sys2Proof.Machine

/-! ### Frames -/

theorem unsnapped_cov : Unsnapped State.cov :=
  ⟨fun _ _ _ _ => rfl, fun _ _ => rfl, fun _ _ => rfl, fun _ _ => rfl, fun _ _ _ => rfl, fun _ _ => rfl⟩

theorem State.frame_congr {s t : State} (h : t.cov.frames = s.cov.frames) (f : Nat) : t.frame f = s.frame f := by
  rw [State.frame, State.frame, h]

@[simp] theorem State.frame_bump (s : State) (g : Fld) (k f : Nat) : (s.bump g k).frame f = s.frame f := rfl

@[simp] theorem State.frame_setFrame_same (s : State) (f : Nat) (x : Option Tile) : (s.setFrame f x).frame f = x :=
  SMap.get_set_same s.cov.frames f x

theorem State.frame_setFrame_ne (s : State) {f g : Nat} (x : Option Tile) (h : g ≠ f) : (s.setFrame f x).frame g = s.frame g :=
  (besideFrame_frame h).setFrame s x

@[simp] theorem State.setFrame_mem (s : State) (f : Nat) (x : Option Tile) : (s.setFrame f x).mem = s.mem := rfl

theorem SMap.find_eq_none_of_notMem {α : Type} {m : SMap α} {k : Nat} (h : k ∉ SMap.keys m) : SMap.find m k = none := by
  induction m with
  | nil => rfl
  | cons q m ih =>
    rw [SMap.keys, List.map_cons, List.mem_cons, not_or] at h
    obtain ⟨hq, hm⟩ := h
    rw [SMap.find, if_neg (Ne.symm hq), ih hm]

/-- A frame that holds a tile is listed. -/
theorem State.mem_frames_of_frame {s : State} {f : Nat} {x : Tile} (h : s.frame f = some x) : f ∈ SMap.keys s.cov.frames := by
  by_contra hno
  rw [State.frame, SMap.get, SMap.find_eq_none_of_notMem hno] at h
  cases h

/-- The frames of a list dropped. -/
def State.dropFrames (s : State) (l : List Nat) : State := l.foldl (fun s f => s.setFrame f none) s

theorem State.frame_dropFrames (s : State) (l : List Nat) (g : Nat) : (s.dropFrames l).frame g = if g ∈ l then none else s.frame g := by
  induction l generalizing s with
  | nil => rfl
  | cons f l ih =>
    refine (ih (s.setFrame f none)).trans ?_
    by_cases hg : g = f
    · simp [hg]
    · simp [hg, State.frame_setFrame_ne s none hg]

theorem BesideFrame.dropFrames {α : Type} {p : State → α} (hp : ∀ f, BesideFrame f p) (s : State) (l : List Nat) :
    p (s.dropFrames l) = p s :=
  State.foldl_keeps (fun u f => (hp f).setFrame u none) l s

theorem State.dropFrames_mem (s : State) (l : List Nat) : (s.dropFrames l).mem = s.mem :=
  State.foldl_keeps (p := State.mem) (fun u f => u.setFrame_mem f none) l s

/-! ### Permitted accesses -/

@[simp] theorem State.length_bytes (s : State) (a n : Nat) : (s.bytes a n).length = n := by
  rw [State.bytes, List.length_map, List.length_range]

theorem State.unitRead_of_permitted {s : State} {acc : Acc} {a n : Nat} (h : s.firstDenied acc .read a n = none) :
    s.unitRead acc a n = (some (s.bytes a n), s.noteAbsent a n none) := by
  rw [State.unitRead, h]

theorem State.length_of_unitRead {s u : State} {acc : Acc} {a n : Nat} {bs : List Byte} (h : s.unitRead acc a n = (some bs, u)) :
    bs.length = n := by
  unfold State.unitRead at h
  split at h
  · cases h
  · cases h
    exact s.length_bytes a n

theorem State.unitWrite_of_permitted {s : State} {acc : Acc} {a : Nat} {bs : List Byte} (h : s.firstDenied acc .write a bs.length = none) :
    s.unitWrite acc a bs = (true, (s.noteAbsent a bs.length none).setBytes a bs) := by
  rw [State.unitWrite, h]

/-! ### Writing a frame back (R159) -/

theorem State.writeBack_of_clean {s : State} {f : Nat} (h : ∀ x, s.frame f = some x → x.dirty = false) (ecc : Bool) :
    s.writeBack f ecc = (true, s) := by
  unfold State.writeBack
  split
  next x hx => simp [h x hx]
  next => rfl

/-- A dirty frame whose read and write go through is clean then, and its bytes count. -/
theorem State.writeBack_of_dirty {s u w : State} {f : Nat} {x : Tile} {bs : List Byte} (hx : s.frame f = some x) (hdirty : x.dirty = true)
    (hread : s.unitRead (engine 13) (s.frameAddr f) 16384 = (some bs, u)) (hwrite : u.unitWrite (engine 13) x.addr bs = (true, w)) :
    s.writeBack f false = (true, (w.setFrame f (some { x with dirty := false })).bump F.COV_WBKB_COUNT 16) := by
  simp only [State.writeBack, hx, hdirty, hread, hwrite]
  rfl

/-- The bytes of frame f can be read and the tile's place in memory written. -/
structure State.Writable (s : State) (f : Nat) (x : Tile) : Prop where
  held : s.frame f = some x
  read : s.firstDenied (engine 13) .read (s.frameAddr f) 16384 = none
  write : s.firstDenied (engine 13) .write x.addr 16384 = none

theorem State.Writable.of_isNone {s : State} {f : Nat} {x : Tile} (hheld : s.frame f = some x)
    (hread : (s.firstDenied (engine 13) .read (s.frameAddr f) 16384).isNone)
    (hwrite : (s.firstDenied (engine 13) .write x.addr 16384).isNone) :
    s.Writable f x :=
  ⟨hheld, Option.isNone_iff_eq_none.mp hread, Option.isNone_iff_eq_none.mp hwrite⟩

/-- Readings that none of the frames written back enter keep a frame writable. -/
theorem State.Writable.congr {s t : State} {f : Nat} {x : Tile} (h : s.Writable f x) (hframe : t.frame f = s.frame f)
    (haddr : t.frameAddr f = s.frameAddr f) (hdenied : ∀ k a n, t.firstDenied (engine 13) k a n = s.firstDenied (engine 13) k a n) :
    t.Writable f x :=
  ⟨hframe.trans h.held, by rw [haddr, hdenied, h.read], by rw [hdenied, h.write]⟩

theorem State.Writable.writeBack {s : State} {f : Nat} {x : Tile} (h : s.Writable f x) :
    (s.writeBack f false).2.frame f = some { x with dirty := false } := by
  cases hdirty : x.dirty with
  | false =>
    have hclean : ∀ y, s.frame f = some y → y.dirty = false := fun y hy => by
      rw [h.held] at hy
      cases hy
      exact hdirty
    rw [State.writeBack_of_clean hclean, h.held, ← hdirty]
  | true =>
    obtain ⟨bs, u, hread⟩ : ∃ bs u, s.unitRead (engine 13) (s.frameAddr f) 16384 = (some bs, u) :=
      ⟨_, _, State.unitRead_of_permitted h.read⟩
    have hkeep := (besideFrame_firstDenied f (engine 13) .write x.addr 16384).unitRead s (engine 13) (s.frameAddr f) 16384
    rw [hread] at hkeep
    have hpermitted : u.firstDenied (engine 13) .write x.addr bs.length = none := by
      rw [State.length_of_unitRead hread, hkeep, h.write]
    rw [State.writeBack_of_dirty h.held hdirty hread (State.unitWrite_of_permitted hpermitted), State.frame_bump, State.frame_setFrame_same]

/-- The state after one frame of the write-back of all: a frame whose data meets an ECC error stays as it is. -/
def State.frameBack (ecc : List (Fin 128)) (s : State) (f : Nat) : State := (s.writeBack f (ecc.any (fun g => g.val = f))).2

/-- Writing all frames back is writing them back one after another: one that is clean or empty does nothing. -/
theorem State.writeBackAll_state (s : State) (ecc : List (Fin 128)) :
    (s.writeBackAll ecc).2.2 = (List.range 128).foldl (State.frameBack ecc) s := by
  unfold State.writeBackAll
  generalize List.range 128 = l
  refine (List.foldl_hom (fun r : Nat × Bool × State => r.2.2) (init := (0, true, s)) fun r f => ?_).symm
  have hclean (h : ∀ x, r.2.2.frame f = some x → x.dirty = false) : State.frameBack ecc r.2.2 f = r.2.2 := by
    rw [State.frameBack, State.writeBack_of_clean h]
  split
  next x hx =>
    split
    next => rfl
    next hdirty =>
      refine hclean fun y hy => ?_
      obtain rfl : x = y := Option.some.inj (hx.symm.trans hy)
      exact eq_false_of_ne_true hdirty
  next hnone => exact hclean fun y hy => by simp [hnone] at hy

theorem BesideFrame.framesBack {α : Type} {p : State → α} {l : List Nat} (hp : ∀ f ∈ l, BesideFrame f p) (s : State)
    (ecc : List (Fin 128)) : p (l.foldl (State.frameBack ecc) s) = p s :=
  List.foldlRecOn (motive := fun u => p u = p s) _ _ rfl fun u hu f hf => ((hp f hf).writeBack u _).trans hu

theorem BesideFrame.writeBackAll {α : Type} {p : State → α} (hp : ∀ f, BesideFrame f p) (s : State) (ecc : List (Fin 128)) :
    p (s.writeBackAll ecc).2.2 = p s := by
  rw [State.writeBackAll_state, BesideFrame.framesBack fun f _ => hp f]

/-- A frame that can be written back is clean after the write-back of all: no other frame's write-back enters it. -/
theorem State.Writable.writeBackAll {s : State} {f : Fin 128} {x : Tile} (h : s.Writable f x) {ecc : List (Fin 128)} (hecc : f ∉ ecc) :
    (s.writeBackAll ecc).2.2.frame f = some { x with dirty := false } := by
  obtain ⟨before, after, hrange⟩ := List.append_of_mem (List.mem_range.mpr f.isLt)
  have hnodup := List.nodup_range (n := 128)
  rw [hrange, List.nodup_middle, List.nodup_cons, List.mem_append, not_or] at hnodup
  obtain ⟨⟨hbefore, hafter⟩, -⟩ := hnodup
  have hne {l : List Nat} (hl : f.val ∉ l) : ∀ g ∈ l, BesideFrame g (fun s => s.frame f) := fun g hg =>
    besideFrame_frame fun hfg => hl (hfg ▸ hg)
  have hthen : (before.foldl (State.frameBack ecc) s).Writable f x :=
    h.congr (BesideFrame.framesBack (hne hbefore) s ecc) (BesideFrame.framesBack (fun g _ => besideFrame_frameAddr g f) s ecc)
      fun k a n => BesideFrame.framesBack (fun g _ => besideFrame_firstDenied g _ k a n) s ecc
  have hnoErr : (ecc.any fun g => g.val = f.val) = false := by
    simp only [List.any_eq_false, decide_eq_true_eq]
    exact fun g hg hgf => hecc (Fin.ext hgf ▸ hg)
  rw [State.writeBackAll_state, hrange, List.foldl_append, List.foldl_cons, BesideFrame.framesBack (hne hafter), State.frameBack, hnoErr,
    hthen.writeBack]

/-! ### Unloading the field (R174) -/

theorem State.unload_cov (s : State) : s.unload.cov =
    { (s.dropFrames (SMap.keys s.cov.frames)).cov with desc := [], marks := [], denied := [] } := by
  simp only [State.unload]
  rw [unsnapped_cov.event, State.covFlag, State.raiseFlag_cov]
  rfl

theorem State.unload_frame (s : State) (f : Nat) : s.unload.frame f = none := by
  have hdrop : s.unload.cov.frames = (s.dropFrames (SMap.keys s.cov.frames)).cov.frames := by
    rw [s.unload_cov]
  rw [State.frame_congr hdrop, State.frame_dropFrames]
  split
  next => rfl
  next hkey =>
    by_contra hne
    obtain ⟨x, hx⟩ := Option.ne_none_iff_exists'.mp hne
    exact hkey (State.mem_frames_of_frame hx)

theorem State.unload_covLoaded (s : State) : s.unload.covLoaded = false := by
  have hreg : s.unload.reg R.COV_FSTAT = 0 := by
    simp only [State.unload]
    rw [(unsnapped_reg (by decide)).event, State.covFlag, State.reg_raiseFlag_ne _ _ _ _ (by decide) (by decide), State.reg_setReg_same]
  have hloaded : s.unload.fld F.COV_FSTAT_LOADED = 0 := congrArg F.COV_FSTAT_LOADED.get hreg
  rw [State.covLoaded, State.flag, hloaded]
  rfl

theorem State.unload_fieldChg (s : State) : s.unload.flag F.COV_STAT_FIELD_CHG = true := by
  simp only [State.unload]
  rw [State.flag_congr (State.fld_congr ((unsnapped_reg (by decide)).event _ _ _)), State.covFlag,
    State.flag_raiseFlag _ _ (by decide) _ (by decide)]

theorem State.unload_ring (s : State) (n : Nat) : s.unload.ring n = s.ring n := by
  have hdrop := BesideFrame.dropFrames (fun f => besideFrame_ring f n) s (SMap.keys s.cov.frames)
  simp only [State.unload]
  rw [(unreported_ring n).event, State.covFlag, (unreported_ring n).raiseFlag _ _ _ (by decide)]
  exact hdrop

end Sys2Proof.Machine
end

section
/-! Coverage: the fetch of a tile, the write-back when due, the miss timeout, the pool tail and the four queue commands (R158, R159, R171,
R174). -/

namespace Sys2Proof.Machine

/-! ### TILE_FETCH (R159) -/

/-- Marking a cell of a frame changes of its tile only whether it is dirty. -/
theorem State.advance_frame {s : State} {f : Nat} {x : Tile} (hx : s.frame f = some x) (cell : Nat) :
    ∃ b, (s.advance f cell).frame f = some { x with dirty := b } := by
  obtain h | ⟨a, bs, h | ⟨y, hy, h⟩⟩ := s.advance_cases f cell
  · exact ⟨x.dirty, by rw [h, hx]⟩
  · have hkeep : (s.unitWrite (engine 13) a bs).2.frame f = s.frame f :=
      State.frame_congr (congrArg Cov.frames (unsnapped_cov.unitWrite _ _ _ _)) f
    exact ⟨x.dirty, by rw [h, hkeep, hx]⟩
  · obtain rfl : x = y := Option.some.inj (hx.symm.trans hy)
    exact ⟨true, by rw [h, State.frame_setFrame_same]⟩

/-- The waiting marks of a tile act on its frame. -/
def State.markTile (s : State) (f : Nat) (marks : List (Nat × Nat × Nat)) : State := marks.foldl (fun s m => s.advance f m.2.2) s

theorem BesideFrame.markTile {α : Type} {f : Nat} {p : State → α} (hp : BesideFrame f p) (s : State) (marks : List (Nat × Nat × Nat)) :
    p (s.markTile f marks) = p s :=
  List.foldlRecOn (motive := fun u => p u = p s) _ _ rfl fun u hu m _ => (hp.advance u m.2.2).trans hu

theorem State.markTile_frame {s : State} {f : Nat} {x : Tile} (hx : s.frame f = some x) (marks : List (Nat × Nat × Nat)) :
    ∃ b, (s.markTile f marks).frame f = some { x with dirty := b } := by
  refine List.foldlRecOn (motive := fun u : State => ∃ b, u.frame f = some { x with dirty := b }) _ _ ⟨x.dirty, hx⟩ fun u hu m _ => ?_
  obtain ⟨b, hb⟩ := hu
  exact State.advance_frame hb _

/-- Whether a mark waits for a tile. -/
def waitsFor (l idx : Nat) (m : Nat × Nat × Nat) : Bool := m.1 = l && m.2.1 = idx

theorem waitsFor_iff (l idx : Nat) (m : Nat × Nat × Nat) : waitsFor l idx m = true ↔ m.1 = l ∧ m.2.1 = idx := by
  simp [waitsFor]

/-- The marks that wait, replaced in the engine's record. -/
def State.withMarks (s : State) (marks : List (Nat × Nat × Nat)) : State := { s with cov := { s.cov with marks := marks } }

/-- The bytes of a tile in frame f: the frame emptied, and the store of what was read. -/
def State.tileStored (s : State) (f a n : Nat) : State :=
  let u := (s.noteAbsent a n none).setFrame f none
  (u.noteAbsent (s.frameAddr f) n none).setBytes (s.frameAddr f) (s.bytes a n)

/-- The tile in frame f, its marks still waiting. -/
def State.tileIn (s : State) (l idx a f n : Nat) : State :=
  (s.setFrame f (some ⟨l, idx, a, false, s.ept.tickAt⟩)).bump F.COV_FETCHKB_COUNT (n / 1024)

/-- The marks of a tile taken from those that wait, its fetch no longer noted as denied. -/
def State.marksTaken (s : State) (l idx : Nat) : State :=
  (s.withMarks (s.cov.marks.filter (fun m => !waitsFor l idx m))).noteDenied l idx false

/-- A tile that a fetch can bring in: absent from the cache, present in the directory, a clean frame free, both accesses permitted. -/
structure State.Fetchable (s : State) (l idx a f : Nat) : Prop where
  absent : s.frameOf l idx = none
  present : s.dirEntry l idx = .present a
  free : s.freeFrame = some f
  clean : ∀ x, s.frame f = some x → x.dirty = false
  read : s.firstDenied (engine 13) .read a (tileBytes s.cov.desc l) = none
  write : s.firstDenied (engine 13) .write (s.frameAddr f) (tileBytes s.cov.desc l) = none

/-- A fetch whose read and write go through: the frame taken, and the waiting marks. -/
theorem State.Fetchable.fetchTile_of_access {s u w : State} {l idx a f : Nat} {bs : List Byte} (h : s.Fetchable l idx a f) (ecc : Bool)
    (hread : s.unitRead (engine 13) a (tileBytes s.cov.desc l) = (some bs, u))
    (hwrite : (u.setFrame f none).unitWrite (engine 13) ((u.setFrame f none).frameAddr f) bs = (true, w)) :
    s.fetchTile l idx ecc = ((w.tileIn l idx a f (tileBytes s.cov.desc l)).marksTaken l idx).markTile f
      ((w.tileIn l idx a f (tileBytes s.cov.desc l)).cov.marks.filter (waitsFor l idx)) := by
  simp only [State.fetchTile, h.absent, h.present, h.free, State.writeBack_of_clean h.clean, hread, hwrite]
  rfl

section
variable (s : State) (l idx a f n : Nat)

theorem State.tileStored_mem : (s.tileStored f a n).mem = (s.setBytes (s.frameAddr f) (s.bytes a n)).mem := by
  rw [State.tileStored]
  refine State.setBytes_mem_congr ?_ _ _
  rw [unrecorded_mem.noteAbsent, State.setFrame_mem, unrecorded_mem.noteAbsent]

theorem State.tileIn_frame : (s.tileIn l idx a f n).frame f = some ⟨l, idx, a, false, s.ept.tickAt⟩ := by
  rw [State.tileIn, State.frame_bump, State.frame_setFrame_same]

theorem State.tileIn_mem : (s.tileIn l idx a f n).mem = s.mem := by
  rw [State.tileIn, State.bump_mem, State.setFrame_mem]

theorem State.marksTaken_frame (g : Nat) : (s.marksTaken l idx).frame g = s.frame g := rfl

theorem State.marksTaken_mem : (s.marksTaken l idx).mem = s.mem := rfl

theorem State.marksTaken_marks : (s.marksTaken l idx).cov.marks = s.cov.marks.filter (fun m => !waitsFor l idx m) := rfl

end

section BesideFrame
variable {α : Type} {f : Nat} {p : State → α} (hp : BesideFrame f p)
include hp

theorem BesideFrame.tileStored (s : State) (a n : Nat) : p (s.tileStored f a n) = p s := by
  rw [State.tileStored, State.setBytes_keeps hp.withMem, hp.noteAbsent, hp.setFrame, hp.noteAbsent]

theorem BesideFrame.tileIn (s : State) (l idx a n : Nat) : p (s.tileIn l idx a f n) = p s := by
  rw [State.tileIn, State.bump, hp.setFld _ _ (not_steersAccess_of_cov (by decide)), hp.setFrame]

end BesideFrame

/-- The state as a fetch leaves it before the waiting marks act. -/
def State.tileFetched (s : State) (l idx a f : Nat) : State :=
  (s.tileStored f a (tileBytes s.cov.desc l)).tileIn l idx a f (tileBytes s.cov.desc l)

theorem State.Fetchable.fetchTile {s : State} {l idx a f : Nat} (h : s.Fetchable l idx a f) (ecc : Bool) :
    s.fetchTile l idx ecc = ((s.tileFetched l idx a f).marksTaken l idx).markTile f (s.cov.marks.filter (waitsFor l idx)) := by
  have hmarks : (s.tileFetched l idx a f).cov.marks = s.cov.marks :=
    ((besideFrame_marks f).tileIn _ _ _ _ _).trans ((besideFrame_marks f).tileStored s _ _)
  have haddr : ((s.noteAbsent a (tileBytes s.cov.desc l) none).setFrame f none).frameAddr f = s.frameAddr f :=
    ((besideFrame_frameAddr f f).setFrame _ _).trans ((besideFrame_frameAddr f f).noteAbsent _ _ _ _)
  have hpermitted : ((s.noteAbsent a (tileBytes s.cov.desc l) none).setFrame f none).firstDenied (engine 13) .write (s.frameAddr f)
      (s.bytes a (tileBytes s.cov.desc l)).length = none := by
    have hp := besideFrame_firstDenied f (engine 13) .write (s.frameAddr f) (tileBytes s.cov.desc l)
    rw [State.length_bytes, hp.setFrame, hp.noteAbsent, h.write]
  have hwrite := State.unitWrite_of_permitted hpermitted
  rw [State.length_bytes, ← haddr] at hwrite
  rw [h.fetchTile_of_access ecc (State.unitRead_of_permitted h.read) hwrite, ← hmarks, State.tileFetched, State.tileStored, haddr]

/-- What the fetch of such a tile leaves. -/
theorem State.Fetchable.leaves {s : State} {l idx a f : Nat} (h : s.Fetchable l idx a f) (ecc : Bool) :
    (∃ x, (s.fetchTile l idx ecc).frame f = some x ∧ x.layer = l ∧ x.idx = idx ∧ x.addr = a) ∧
      (∀ m ∈ (s.fetchTile l idx ecc).cov.marks, ¬ (m.1 = l ∧ m.2.1 = idx)) ∧
      (∀ g, g ≠ f → (s.fetchTile l idx ecc).frame g = s.frame g) ∧
      ((∀ m ∈ s.cov.marks, ¬ (m.1 = l ∧ m.2.1 = idx)) →
        (s.fetchTile l idx ecc).mem = (s.setBytes (s.frameAddr f) (s.bytes a (tileBytes s.cov.desc l))).mem) := by
  rw [h.fetchTile ecc]
  refine ⟨?_, ?_, ?_, ?_⟩
  · have hframe : ((s.tileFetched l idx a f).marksTaken l idx).frame f = some ⟨l, idx, a, false, _⟩ :=
      (State.marksTaken_frame _ l idx f).trans (State.tileIn_frame _ l idx a f _)
    obtain ⟨b, hb⟩ := State.markTile_frame hframe (s.cov.marks.filter (waitsFor l idx))
    exact ⟨_, hb, rfl, rfl, rfl⟩
  · intro m hm
    rw [(besideFrame_marks f).markTile, State.marksTaken_marks, List.mem_filter] at hm
    rw [← waitsFor_iff]
    simpa using hm.2
  · intro g hg
    have hp := besideFrame_frame hg
    rw [hp.markTile, State.marksTaken_frame, State.tileFetched, hp.tileIn, hp.tileStored]
  · intro hnone
    have hmarks : s.cov.marks.filter (waitsFor l idx) = [] :=
      List.filter_eq_nil_iff.mpr fun m hm hwaits => hnone m hm ((waitsFor_iff l idx m).mp hwaits)
    rw [hmarks, State.markTile, List.foldl_nil, State.marksTaken_mem, State.tileFetched, State.tileIn_mem, State.tileStored_mem]

theorem tileFetch_brings (s : State) (l : Fin 8) (idx : BitVec 24) (ecc : Bool) (a f : Nat) (hen : s.flag F.COV_CTL_EN)
    (hloaded : s.covLoaded) (hkind : within 1 3 (layKind s.cov.desc l)) (hidx : idx.toNat < layNtx s.cov.desc l * layNty s.cov.desc l)
    (hwanted : s.tileNear l idx.toNat ∨ ∃ m ∈ s.cov.marks, m.1 = l.val ∧ m.2.1 = idx.toNat) (h : s.Fetchable l idx.toNat a f) :
    Gives (exec (.tileFetch l idx ecc) s) (fun t => (∃ x, t.frame f = some x ∧ x.layer = l.val ∧ x.idx = idx.toNat ∧ x.addr = a) ∧
      (∀ m ∈ t.cov.marks, ¬ (m.1 = l.val ∧ m.2.1 = idx.toNat)) ∧
      (∀ g, g ≠ f → t.frame g = s.frame g) ∧
      ((∀ m ∈ s.cov.marks, ¬ (m.1 = l.val ∧ m.2.1 = idx.toNat)) →
        t.mem = (s.setBytes (s.frameAddr f) (s.bytes a (tileBytes s.cov.desc l))).mem)) := by
  have hexec : exec (.tileFetch l idx ecc) s = execTileFetch l idx ecc s := by rfl
  have hneeded : s.tileNear l idx.toNat ∨ s.cov.marks.any (fun m => m.1 = l.val && m.2.1 = idx.toNat) := by
    simpa using hwanted
  refine ⟨s.fetchTile l idx.toNat ecc, ?_, h.leaves ecc⟩
  rw [hexec, execTileFetch]
  exact if_pos ⟨hen, hloaded, hkind, hidx, hneeded⟩

/-! ### TILE_WRITEBACK, COV_MISS_TIMEOUT and COV_POOL_TAIL_WRITE (R158, R159, R171) -/

/-- The instant of a write-back noted. -/
def State.backNoted (s : State) : State := { s with cov := { s.cov with wbAt := s.now } }

theorem State.Writable.backNoted {s : State} {f : Nat} {x : Tile} (h : s.Writable f x) : s.backNoted.Writable f x :=
  h.congr rfl rfl fun k a n => State.firstDenied_of_entries rfl (fun _ _ => rfl) _ k a n

theorem tileWriteback_cleans (s : State) (ecc : List (Fin 128)) (hen : s.flag F.COV_CTL_EN) (hloaded : s.covLoaded)
    (hper : 0 < s.fld F.COV_WB_PERIOD) (hdue : s.due s.cov.wbAt (1000000 * s.fld F.COV_WB_PERIOD)) :
    Gives (exec (.tileWriteback ecc) s) (fun t => t.cov.wbAt = s.now ∧ ∀ (f : Fin 128) (x : Tile), s.frame f = some x → f ∉ ecc →
      (s.firstDenied (engine 13) .read (s.frameAddr f) 16384).isNone → (s.firstDenied (engine 13) .write x.addr 16384).isNone →
      t.frame f = some { x with dirty := false }) := by
  have hexec : exec (.tileWriteback ecc) s = execTileWriteback ecc s := by rfl
  refine ⟨(s.backNoted.writeBackAll ecc).2.2, ?_, ?_, fun f x hx hecc hread hwrite => ?_⟩
  · rw [hexec, execTileWriteback, State.backNoted]
    exact if_pos ⟨hen, hloaded, Nat.mul_pos (by decide) hper, hdue⟩
  · have hkept : (s.backNoted.writeBackAll ecc).2.2.cov.wbAt = s.backNoted.cov.wbAt := BesideFrame.writeBackAll besideFrame_wbAt _ ecc
    exact hkept
  · exact (State.Writable.of_isNone hx hread hwrite).backNoted.writeBackAll hecc

theorem State.ep_updEp_same (s : State) (e : Nat) (f : Ep → Ep) : (s.updEp e f).ep e = f (s.ep e) := State.ep_setEp_same s e _

/-- Whatever edge it makes, the decision OFF leaves no frontier (R171, R172). -/
theorem State.covOff_ep (s : State) (e t : Nat) : ∃ x : Ep, (s.covOff e t).ep e = { x with front := none, first := true } :=
  ⟨_, State.ep_updEp_same _ e _⟩

theorem covMissTimeout_ends (s : State) (e : Fin 4096) (t0 : Nat) (hmiss : (s.ep e).missAt = some t0) (hstate : (s.ep e).state ≠ epOUT)
    (htime : t0 + 1000000 * s.fld F.COV_MISS_MISSTO ≤ s.now) :
    Gives (exec (.covMissTimeout e) s) (fun t => (t.ep e).missAt = none ∧ (t.ep e).front = none ∧ (t.ep e).first) := by
  have hexec : exec (.covMissTimeout e) s = execCovMissTimeout e s := by rfl
  obtain ⟨x, hx⟩ := s.covOff_ep e s.ept.tickAt
  refine ⟨(s.covOff e s.ept.tickAt).updEp e (fun x => { x with missAt := none }), ?_, ?_⟩
  · simp only [hexec, execCovMissTimeout, hmiss]
    exact if_pos ⟨hstate, decide_eq_true htime⟩
  · beta_reduce
    rw [State.ep_updEp_same, hx]
    exact ⟨rfl, rfl, rfl⟩

theorem covPoolTailWrite_writes (s : State) (acc : Acc) (v : Word) (h : s.takesWrite acc R.COV_POOLTAIL) :
    Gives (exec (.covPoolTailWrite acc v) s) (fun t => s.wrote t R.COV_POOLTAIL v ∧
      (t.fld F.COV_POOLTAIL_IDX ≠ t.fld F.COV_POOLHEAD_IDX → t.cov.empty = false) ∧ t.mem = s.mem) := by
  have hexec : exec (.covPoolTailWrite acc v) s = execCovPoolTailWrite acc v s := by rfl
  have hwrote : s.wrote (s.writePlain R.COV_POOLTAIL v) R.COV_POOLTAIL v :=
    ⟨State.reg_setReg_same _ _ _, (s.writePlain_frame R.COV_POOLTAIL v).1⟩
  refine ⟨s.writePoolTail v, ?_, ?_⟩
  · rw [hexec, execCovPoolTailWrite, State.guardWrite_of_takesWrite s acc _ _ h]
  · rw [State.writePoolTail]
    split
    next => exact ⟨hwrote, fun _ => rfl, s.writePlain_mem R.COV_POOLTAIL v⟩
    next hequal => exact ⟨hwrote, fun hne => absurd hne hequal, s.writePlain_mem R.COV_POOLTAIL v⟩

/-! ### The queue commands (R174) -/

section
variable {s : State} {n : Fin 64} {d : Desc}

theorem State.covCmd_of_starts {op : Nat} (h : s.starts n d 3 op) (hown : s.mirrorOnly = false) (run : State → Desc → State) :
    s.covCmd n op run = run (s.startDesc n d) d := by
  obtain ⟨hd, hq, hop⟩ := h
  have hmirror : (s.startDesc n d).mirrorOnly = false := (s.mirrorOnly_startDesc n d).trans hown
  simp [State.covCmd, State.queueCmd, hd, hq, hop, State.ownDesc, hmirror]

theorem State.startDesc_cov : (s.startDesc n d).cov = s.cov := unsnapped_cov.startDesc s n.isLt d

theorem State.startDesc_covLoaded : (s.startDesc n d).covLoaded = s.covLoaded :=
  State.flag_congr (State.fld_congr ((unsnapped_reg (by decide)).startDesc s n.isLt d))

/-- The start of a descriptor denies the engine nothing. -/
theorem State.startDesc_firstDenied (acc : Acc) (k : AccKind) (a m : Nat) :
    (s.startDesc n d).firstDenied acc k a m = s.firstDenied acc k a m := by
  have hp := besideFrame_firstDenied 0 acc k a m
  have hhw : ¬ steersAccess (F.RNG_HW_IDX n).addr := by
    simp only [steersAccess, R.ACC_TE_BASE, R.COV_CBASE, F.RNG_HW_IDX, R.RNG_HW]
    omega
  have hring : ∀ (u : State) (r : Ring), (u.setRing n r).firstDenied acc k a m = u.firstDenied acc k a m := fun u r =>
    State.firstDenied_of_entries (u.setRing_part n r) (fun b _ => u.reg_setRing n r b) acc k a m
  rw [State.startDesc, hring, hp.setFld _ _ hhw, hp.noteAbsent]

theorem State.startDesc_frameAddr (f : Nat) : (s.startDesc n d).frameAddr f = s.frameAddr f := by
  rw [State.frameAddr, State.fld_congr ((unsnapped_reg (by decide)).startDesc s n.isLt d), State.frameAddr]

/-- A started descriptor that nothing completed is in flight, not complete. -/
theorem State.hasStarted_of_ring {t : State} (h : t.ring n = (s.startDesc n d).ring n) : t.hasStarted n d := by
  refine ⟨⟨d, none, 0, (s.ring n).cring, (s.ring n).queue, false⟩, ?_, rfl, rfl⟩
  rw [h, State.startDesc_ring]
  exact List.mem_append_right _ (List.mem_singleton_self _)

/-- Completing the descriptor just started is what completes it, where the work between left the ring alone. -/
theorem State.hasDone_complete {t : State} (h : t.ring n = (s.startDesc n d).ring n) (status result : Nat) :
    (t.complete n d.didx status result).hasDone n d status result := by
  refine ⟨⟨d, some (status, result), t.short, (s.ring n).cring, (s.ring n).queue, false⟩, ?_, rfl, rfl, rfl⟩
  rw [State.complete, State.ring_setRing_same, h, State.startDesc_ring, List.map_append]
  refine List.mem_append_right _ ?_
  simp

end

theorem State.complete_cov (s : State) (n didx status result : Nat) : (s.complete n didx status result).cov = s.cov := rfl

theorem State.complete_frame (s : State) (n didx status result f : Nat) : (s.complete n didx status result).frame f = s.frame f := rfl

theorem State.complete_covLoaded (s : State) (n didx status result : Nat) : (s.complete n didx status result).covLoaded = s.covLoaded := rfl

theorem State.complete_flag (s : State) (n didx status result : Nat) (g : Fld) : (s.complete n didx status result).flag g = s.flag g := rfl

theorem State.complete_mem (s : State) (n didx status result : Nat) : (s.complete n didx status result).mem = s.mem := rfl

/-- A FIELD_LOAD waits for the next tick. -/
def State.withLoad (s : State) (j : Nat × Nat × Nat) : State := { s with cov := { s.cov with loads := s.cov.loads ++ [j] } }

theorem State.withLoad_cov (s : State) (j : Nat × Nat × Nat) : (s.withLoad j).cov = { s.cov with loads := s.cov.loads ++ [j] } := rfl

theorem State.withLoad_ring (s : State) (j : Nat × Nat × Nat) (n : Nat) : (s.withLoad j).ring n = s.ring n := rfl

theorem State.withLoad_mem (s : State) (j : Nat × Nat × Nat) : (s.withLoad j).mem = s.mem := rfl

theorem State.runFieldLoad_waits (s : State) (n : Nat) {d : Desc} (hlen : d.len = 128) :
    s.runFieldLoad n d = s.withLoad (n, d.didx, d.addr) := by
  rw [State.runFieldLoad, if_neg (by omega), if_neg (by omega), State.withLoad]

theorem fieldLoad_waits (s : State) (n : Fin 64) (d : Desc) (h : s.starts n d 3 1) (hown : s.mirrorOnly = false) (hlen : d.len = 128) :
    Gives (exec (.fieldLoad n) s) (fun t => t.hasStarted n d ∧ t.cov = { s.cov with loads := s.cov.loads ++ [(n.val, d.didx, d.addr)] } ∧
      t.mem = s.mem) := by
  have hexec : exec (.fieldLoad n) s = .next (s.covCmd n 1 (fun s d => s.runFieldLoad n d)) := by rfl
  refine ⟨_, hexec.trans (congrArg _ (State.covCmd_of_starts h hown _)), ?_⟩
  rw [State.runFieldLoad_waits _ n hlen]
  refine ⟨State.hasStarted_of_ring (State.withLoad_ring _ _ _), ?_, ?_⟩
  · rw [State.withLoad_cov, State.startDesc_cov]
  · rw [State.withLoad_mem, State.startDesc_mem]

theorem fieldUnload_empties (s : State) (n : Fin 64) (d : Desc) (ecc : List (Fin 128)) (h : s.starts n d 3 2) (hown : s.mirrorOnly = false)
    (hloaded : s.covLoaded) :
    Gives (exec (.fieldUnload n ecc) s) (fun t => t.hasDone n d stOK 0 ∧ t.covLoaded = false ∧ t.cov.desc = [] ∧ t.cov.marks = [] ∧
      (∀ f, t.frame f = none) ∧ t.flag F.COV_STAT_FIELD_CHG) := by
  have hexec : exec (.fieldUnload n ecc) s = .next (s.covCmd n 2 (fun s d => s.runUnload n d ecc)) := by rfl
  have hring : (((s.startDesc n d).writeBackAll ecc).2.2.unload).ring n = (s.startDesc n d).ring n :=
    (State.unload_ring _ n).trans (BesideFrame.writeBackAll (fun f => besideFrame_ring f n) _ ecc)
  refine ⟨_, hexec.trans (congrArg _ (State.covCmd_of_starts h hown _)), ?_⟩
  rw [State.runUnload, if_pos (State.startDesc_covLoaded.trans hloaded)]
  refine ⟨State.hasDone_complete hring stOK 0, ?_, ?_, ?_, fun f => ?_, ?_⟩
  · rw [State.complete_covLoaded, State.unload_covLoaded]
  · rw [State.complete_cov, State.unload_cov]
  · rw [State.complete_cov, State.unload_cov]
  · rw [State.complete_frame, State.unload_frame]
  · rw [State.complete_flag, State.unload_fieldChg]

theorem State.runFlush_of_loaded {s : State} (n : Nat) (d : Desc) (ecc : List (Fin 128)) (h : s.covLoaded) :
    s.runFlush n d ecc = (s.writeBackAll ecc).2.2.complete n d.didx stOK (s.writeBackAll ecc).1 := by
  rw [State.runFlush, if_pos h]

theorem covFlush_cleans (s : State) (n : Fin 64) (d : Desc) (ecc : List (Fin 128)) (h : s.starts n d 3 3) (hown : s.mirrorOnly = false)
    (hloaded : s.covLoaded) :
    Gives (exec (.covFlush n ecc) s) (fun t => (∃ k, t.hasDone n d stOK k) ∧
      ∀ (f : Fin 128) (x : Tile), s.frame f = some x → f ∉ ecc →
      (s.firstDenied (engine 13) .read (s.frameAddr f) 16384).isNone → (s.firstDenied (engine 13) .write x.addr 16384).isNone →
      t.frame f = some { x with dirty := false }) := by
  have hexec : exec (.covFlush n ecc) s = .next (s.covCmd n 3 (fun s d => s.runFlush n d ecc)) := by rfl
  have hring : ((s.startDesc n d).writeBackAll ecc).2.2.ring n = (s.startDesc n d).ring n :=
    BesideFrame.writeBackAll (fun f => besideFrame_ring f n) _ ecc
  refine ⟨_, hexec.trans (congrArg _ (State.covCmd_of_starts h hown _)), ?_⟩
  rw [State.runFlush_of_loaded n d ecc (State.startDesc_covLoaded.trans hloaded)]
  refine ⟨⟨_, State.hasDone_complete hring stOK _⟩, fun f x hx hecc hread hwrite => ?_⟩
  have hs := State.Writable.of_isNone hx hread hwrite
  rw [State.complete_frame]
  exact (hs.congr (State.frame_congr (congrArg Cov.frames State.startDesc_cov) f) (State.startDesc_frameAddr f)
    fun k a m => State.startDesc_firstDenied _ k a m).writeBackAll hecc

/-- The frames that TILE_INVAL drops: those with a tile of the layer whose index lies in the range. -/
def State.hitFrames (s : State) (l lo cnt : Nat) : List Nat := (SMap.keys s.cov.frames).filter (fun f => match s.frame f with
  | some x => x.layer = l && within lo (lo + cnt - 1) x.idx && 0 < cnt
  | none => false)

theorem State.mem_hitFrames {s : State} {f : Nat} {x : Tile} (hx : s.frame f = some x) (l lo cnt : Nat) :
    f ∈ s.hitFrames l lo cnt ↔ x.layer = l ∧ lo ≤ x.idx ∧ x.idx < lo + cnt := by
  rw [State.hitFrames, List.mem_filter, and_iff_right (State.mem_frames_of_frame hx), hx]
  simp only [within, Bool.and_eq_true, decide_eq_true_eq]
  omega

/-- The tiles whose fetch was denied, replaced in the engine's record. -/
def State.withDenied (s : State) (l : List (Nat × Nat)) : State := { s with cov := { s.cov with denied := l } }

theorem State.withDenied_frame (s : State) (l : List (Nat × Nat)) (f : Nat) : (s.withDenied l).frame f = s.frame f := rfl

theorem State.withDenied_ring (s : State) (l : List (Nat × Nat)) (n : Nat) : (s.withDenied l).ring n = s.ring n := rfl

theorem State.withDenied_mem (s : State) (l : List (Nat × Nat)) : (s.withDenied l).mem = s.mem := rfl

/-- TILE_INVAL drops the frames that it hits and completes OK. -/
theorem State.runInval_drops {s : State} (n : Nat) {d : Desc} (hloaded : s.covLoaded)
    (hkind : layKind s.cov.desc (d.arg0 % 8) ≠ lkAPPLIED) :
    ∃ (l : List (Nat × Nat)) (k : Nat), s.runInval n d =
      ((s.dropFrames (s.hitFrames (d.arg0 % 8) d.arg1 d.arg2)).withDenied l).complete n d.didx stOK k := by
  rw [State.runInval]
  dsimp only
  rw [if_neg (by simp [hloaded]), if_neg hkind]
  exact ⟨_, _, rfl⟩

theorem tileInval_drops (s : State) (n : Fin 64) (d : Desc) (h : s.starts n d 3 4) (hown : s.mirrorOnly = false) (hloaded : s.covLoaded)
    (hkind : layKind s.cov.desc (d.arg0 % 8) ≠ lkAPPLIED) :
    Gives (exec (.tileInval n) s) (fun t => (∃ k, t.hasDone n d stOK k) ∧
      (∀ f x, t.frame f = some x → ¬ (x.layer = d.arg0 % 8 ∧ d.arg1 ≤ x.idx ∧ x.idx < d.arg1 + d.arg2)) ∧
      (∀ f x, s.frame f = some x → ¬ (x.layer = d.arg0 % 8 ∧ d.arg1 ≤ x.idx ∧ x.idx < d.arg1 + d.arg2) → t.frame f = some x) ∧
      t.mem = s.mem) := by
  have hexec : exec (.tileInval n) s = .next (s.covCmd n 4 (fun s d => s.runInval n d)) := by rfl
  have hframe (f : Nat) : (s.startDesc n d).frame f = s.frame f := State.frame_congr (congrArg Cov.frames State.startDesc_cov) f
  obtain ⟨l, k, hrun⟩ := State.runInval_drops n (State.startDesc_covLoaded.trans hloaded) (State.startDesc_cov ▸ hkind)
  refine ⟨_, hexec.trans (congrArg _ (State.covCmd_of_starts h hown _)), ?_⟩
  rw [hrun]
  refine ⟨⟨k, State.hasDone_complete (s := s) ?_ stOK k⟩, fun f x hx hhit => ?_, fun f x hx hmiss => ?_, ?_⟩
  · rw [State.withDenied_ring, BesideFrame.dropFrames fun f => besideFrame_ring f n]
  · rw [State.complete_frame, State.withDenied_frame, State.frame_dropFrames, Option.ite_none_left_eq_some] at hx
    exact hx.1 ((State.mem_hitFrames hx.2 _ _ _).mpr hhit)
  · have hkept := (State.mem_hitFrames ((hframe f).trans hx) _ _ _).not.mpr hmiss
    rw [State.complete_frame, State.withDenied_frame, State.frame_dropFrames, if_neg hkept, hframe, hx]
  · rw [State.complete_mem, State.withDenied_mem, State.dropFrames_mem, State.startDesc_mem]

/-- Settles O17: each clause by its own lemma; the fetch by what a fetchable tile leaves, the write-backs by the one they share, whose
frames do not enter one another (a failed one ends neither FIELD_UNLOAD nor FLUSH, log entry 49). -/
theorem coverageCommandsComplete : Obligations.CoverageCommandsComplete := by
  refine ⟨?_, tileWriteback_cleans, covMissTimeout_ends, covPoolTailWrite_writes, fieldLoad_waits, fieldUnload_empties, covFlush_cleans,
    tileInval_drops⟩
  intro s l idx ecc a f hen hloaded hkind hidx hwanted habsent hpresent hfree hclean hread hwrite
  exact tileFetch_brings s l idx ecc a f hen hloaded hkind hidx hwanted
    ⟨habsent, hpresent, hfree, hclean, Option.isNone_iff_eq_none.mp hread, Option.isNone_iff_eq_none.mp hwrite⟩

end Sys2Proof.Machine
end

section
/-! Drivers: the readings of the state that the channels of the solenoid drivers and of the load switches do not enter
(R205-R219, R224, R231-R234). -/

namespace Sys2Proof.Machine

/-- A reading of the state that neither the registers outside Bridle's window, nor the recorder, the free values and the records of the
driver channels enter: what a driver channel does leaves it. -/
structure Undriven {α : Type} (p : State → α) : Prop where
  setReg : ∀ (s : State) {b : Nat} (w : Word), b < R.BRD_CTL ∨ R.SOL_CTL 0 ≤ b → p (s.setReg b w) = p s
  withEvr : ∀ (s : State) (e : Evr), p { s with evr := e } = p s
  withFree : ∀ (s : State) (k : Nat), p { s with freeSeq := k } = p s
  setSch : ∀ (s : State) (n : Nat) (x : SCh), p (s.setSch n x) = p s
  setLch : ∀ (s : State) (n : Nat) (x : LCh), p (s.setLch n x) = p s

theorem undriven_reg {a : Nat} (hlo : R.BRD_CTL ≤ a) (hhi : a < R.SOL_CTL 0) : Undriven (fun s => s.reg a) :=
  ⟨fun s b w hb => State.reg_setReg_ne s w (by omega), fun _ _ => rfl, fun _ _ => rfl, fun _ _ _ => rfl, fun _ _ _ => rfl⟩

theorem undriven_fld {f : Fld} (hlo : R.BRD_CTL ≤ f.addr) (hhi : f.addr < R.SOL_CTL 0) : Undriven (fun s => s.fld f) :=
  ⟨fun s b w hb => State.fld_setReg_ne s b w f (by omega), fun _ _ => rfl, fun _ _ => rfl, fun _ _ _ => rfl, fun _ _ _ => rfl⟩

theorem SOL_STAT_ge (d : Nat) : R.SOL_CTL 0 ≤ R.SOL_STAT d := by simp only [R.SOL_CTL, R.SOL_STAT]; omega

theorem SOL_DEFERCNT_ge (d : Nat) : R.SOL_CTL 0 ≤ R.SOL_DEFERCNT d := by simp only [R.SOL_CTL, R.SOL_DEFERCNT]; omega

theorem SOL_SKIPCNT_ge (d : Nat) : R.SOL_CTL 0 ≤ R.SOL_SKIPCNT d := by simp only [R.SOL_CTL, R.SOL_SKIPCNT]; omega

theorem SOL_RCVFCNT_ge (d : Nat) : R.SOL_CTL 0 ≤ R.SOL_RCVFCNT d := by simp only [R.SOL_CTL, R.SOL_RCVFCNT]; omega

theorem SOL_BANKSTAT_ge (d k : Nat) : R.SOL_CTL 0 ≤ R.SOL_BANKSTAT d k := by simp only [R.SOL_CTL, R.SOL_BANKSTAT]; omega

/-- The registers of a solenoid channel lie above its die's control register. -/
theorem sol_channel_ge (d j : Nat) : R.SOL_CTL 0 ≤ R.SOL_CHSTAT d j ∧ R.SOL_CTL 0 ≤ R.SOL_CHI d j ∧ R.SOL_CTL 0 ≤ R.SOL_CHCMD d j ∧
    R.SOL_CTL 0 ≤ R.SOL_CMD d j ∧ R.SOL_CTL 0 ≤ R.SOL_CHSAFE d j := by
  simp only [R.SOL_CTL, R.SOL_CHSTAT, R.SOL_CHI, R.SOL_CHCMD, R.SOL_CMD, R.SOL_CHSAFE]
  omega

theorem SOL_CHSTAT_ge (d j : Nat) : R.SOL_CTL 0 ≤ R.SOL_CHSTAT d j := (sol_channel_ge d j).1

theorem LSW_STAT_ge (d : Nat) : R.SOL_CTL 0 ≤ R.LSW_STAT d := by simp only [R.SOL_CTL, R.LSW_STAT]; omega

theorem LSW_CHSTAT_ge (d j : Nat) : R.SOL_CTL 0 ≤ R.LSW_CHSTAT d j := by simp only [R.SOL_CTL, R.LSW_CHSTAT]; omega

theorem LSW_CHDUTY_ge (d j : Nat) : R.SOL_CTL 0 ≤ R.LSW_CHDUTY d j := by simp only [R.SOL_CTL, R.LSW_CHDUTY]; omega

theorem LSW_CHSAFE_ge (d j : Nat) : R.SOL_CTL 0 ≤ R.LSW_CHSAFE d j := by simp only [R.SOL_CTL, R.LSW_CHSAFE]; omega

theorem State.lt_of_mem_bankMembers {s : State} {n m : Nat} (hn : n < 64) (h : m ∈ s.bankMembers (n / 4)) : m < 64 := by
  obtain ⟨i, hi, rfl⟩ := List.mem_map.mp (List.mem_filter.mp h).1
  simp only [List.mem_cons, List.not_mem_nil, or_false] at hi
  omega

section Undriven
variable {α : Type} {p : State → α} (hp : Undriven p)
include hp

theorem Undriven.setFld (s : State) {f : Fld} (v : Nat) (hf : R.SOL_CTL 0 ≤ f.addr) : p (s.setFld f v) = p s := hp.setReg s _ (.inr hf)

theorem Undriven.setBit (s : State) {f : Fld} (b : Bool) (hf : R.SOL_CTL 0 ≤ f.addr) : p (s.setBit f b) = p s := hp.setFld s _ hf

theorem Undriven.bump (s : State) {f : Fld} (k : Nat) (hf : R.SOL_CTL 0 ≤ f.addr) : p (s.bump f k) = p s := hp.setFld s _ hf

theorem Undriven.pend (s : State) {irq : Nat} (h : irq < 256) : p (s.pend irq) = p s := by
  refine hp.setReg s _ (.inl ?_)
  simp only [R.RNG_INT_PEND, R.BRD_CTL]
  omega

theorem Undriven.raiseFlag (s : State) {f : Fld} {irq : Nat} (hf : f.addr < R.BRD_CTL ∨ R.SOL_CTL 0 ≤ f.addr) (h : irq < 256) :
    p (s.raiseFlag f irq) = p s := by
  rw [State.raiseFlag, apply_ite p, hp.pend _ h, State.setFld, hp.setReg _ _ hf, ite_self]

theorem Undriven.raiseBoth (s : State) {ch unit : Fld} {irq : Nat} (hch : R.SOL_CTL 0 ≤ ch.addr) (hunit : R.SOL_CTL 0 ≤ unit.addr)
    (h : irq < 256) : p (s.raiseBoth ch unit irq) = p s := by
  rw [State.raiseBoth, hp.raiseFlag _ (.inr hunit) h, hp.setFld _ _ hch]

theorem Undriven.event (s : State) (code : Nat) (args : List Word) : p (s.event code args) = p s := by
  unfold State.event
  split
  · exact hp.withEvr s _
  · rw [State.loseEvent, hp.withEvr, hp.raiseFlag _ (.inl (by decide)) (by decide), State.bump, State.setFld, hp.setReg _ _ (.inl (by decide))]

/-! ### Solenoid channels: status -/

theorem Undriven.bankShow (s : State) (k : Nat) : p (s.bankShow k) = p s := by
  unfold State.bankShow
  extract_lets waiting active feed token
  have htoken : p token = p s :=
    (hp.setBit feed _ (SOL_BANKSTAT_ge _ _)).trans ((hp.setBit active _ (SOL_BANKSTAT_ge _ _)).trans
      ((hp.setFld waiting _ (SOL_BANKSTAT_ge _ _)).trans (hp.setFld s _ (SOL_BANKSTAT_ge _ _))))
  split
  · exact (hp.setFld token _ (SOL_BANKSTAT_ge _ _)).trans htoken
  · exact htoken

theorem Undriven.solMirror (s : State) (n : Nat) : p (s.solMirror n) = p s := by
  obtain ⟨hstat, hi, hchcmd, hcmd, hsafe⟩ := sol_channel_ge (n / 32) (n % 32 + 1)
  simp only [State.solMirror]
  rw [apply_ite p, hp.setReg _ _ (.inr hsafe), hp.setReg _ _ (.inr hcmd), hp.setReg _ _ (.inr hchcmd), hp.setReg _ _ (.inr hi),
    hp.setFld _ _ hstat, apply_ite p, hp.setReg _ _ (.inr hstat), ite_self, ite_self]

theorem Undriven.solShow (s : State) (n : Nat) : p (s.solShow n) = p s := by
  rw [State.solShow, hp.bankShow, hp.solMirror]
  exact hp.setBit s _ (SOL_CHSTAT_ge _ _)

theorem Undriven.solFlag (s : State) {ch : Nat → Nat → Fld} {unit : Nat → Fld} {n : Nat} (hch : ∀ d j, (ch d j).addr = R.SOL_CHSTAT d j)
    (hunit : ∀ d, (unit d).addr = R.SOL_STAT d) (hn : n < 64) : p (s.solFlag ch unit n) = p s := by
  rw [State.solFlag, hp.solMirror]
  exact hp.raiseBoth s ((SOL_CHSTAT_ge _ _).trans_eq (hch _ _).symm) ((SOL_STAT_ge _).trans_eq (hunit _).symm) (by omega)

theorem Undriven.solTo (s : State) (n ph : Nat) : p (s.solTo n ph) = p s := by
  rw [State.solTo, hp.solShow, hp.setSch]
  exact hp.setFld s _ (SOL_CHSTAT_ge _ _)

/-! ### Solenoid channels: waveforms -/

theorem Undriven.solRcvFast (s : State) {n : Nat} (hn : n < 64) : p (s.solRcvFast n) = p s := by
  rw [State.solRcvFast, hp.bump _ _ (SOL_RCVFCNT_ge _), hp.solFlag _ (fun _ _ => rfl) (fun _ => rfl) hn]

theorem Undriven.solFall (s : State) {n : Nat} (mode ph : Nat) (hn : n < 64) : p (s.solFall n mode ph) = p s := by
  simp only [State.solFall]
  rw [hp.solTo, apply_ite p, hp.solRcvFast _ hn, ite_self]
  exact hp.setFld s _ (SOL_CHSTAT_ge _ _)

theorem Undriven.solOff (s : State) {n : Nat} (hn : n < 64) : p (s.solOff n) = p s := by
  simp only [State.solOff, State.solDecay]
  rw [apply_ite p, hp.solTo, apply_ite p, hp.solFall _ _ _ hn, ite_self, ite_self]

theorem Undriven.solWakeBank (s : State) {n : Nat} (hn : n < 64) : p (s.solWakeBank n) = p s := by
  refine List.foldlRecOn (motive := fun u => p u = p s) _ _ rfl fun u hu m hm => ?_
  rw [apply_ite p, hp.solShow, hp.solRcvFast _ (State.lt_of_mem_bankMembers hn hm), ← hu]
  exact (congrArg (ite _ · _) (hp.setFld u _ (SOL_CHSTAT_ge _ _))).trans (ite_self _)

theorem Undriven.solGrant (s : State) (n : Nat) : p (s.solGrant n) = p s := hp.solTo s n _

theorem Undriven.solNotReady (s : State) (n : Nat) : p (s.solNotReady n) = p s := by
  rw [State.solNotReady, apply_ite p, hp.solShow]
  exact (congrArg (ite _ _) (hp.setFld s _ (SOL_CHSTAT_ge _ _))).trans (ite_self _)

theorem Undriven.solSkip (s : State) {n : Nat} (hn : n < 64) : p (s.solSkip n) = p s := by
  rw [State.solSkip, hp.solTo, hp.bump _ _ (SOL_SKIPCNT_ge _), hp.solFlag _ (fun _ _ => rfl) (fun _ => rfl) hn]

theorem Undriven.solStart (s : State) {n : Nat} (te : Nat) (hn : n < 64) : p (s.solStart n te) = p s := by
  unfold State.solStart
  extract_lets w _ latched banded checked woken asked
  have hbanded : p banded = p s := (hp.setFld latched _ (SOL_CHSTAT_ge _ _)).trans (hp.setSch s n _)
  have hwoken : p woken = p s := by
    rw [hp.solWakeBank checked hn, apply_ite p, hp.event, hp.solFlag _ (fun _ _ => rfl) (fun _ => rfl) hn, ite_self, hbanded]
  have hasked : p asked = p s := (hp.solNotReady woken n).trans hwoken
  split_ifs
  · rw [hp.solTo, hwoken]
  · rw [hp.solGrant, hwoken]
  · rw [hp.solSkip _ hn, hasked]
  · rw [hp.solTo, hp.bump _ _ (SOL_DEFERCNT_ge _), hasked]

/-! ### Solenoid channels: level, command and destination -/

theorem Undriven.solAct (s : State) {n : Nat} (on : Bool) (te : Nat) (hn : n < 64) : p (s.solAct n on te) = p s := by
  unfold State.solAct
  split_ifs
  · exact hp.solShow s n
  · exact hp.solStart s te hn
  · exact hp.solShow s n
  · exact hp.solOff s hn

theorem Undriven.solEdge (s : State) {n : Nat} (on : Bool) (te : Nat) (hn : n < 64) : p (s.solEdge n on te) = p s := by
  rw [State.solEdge, hp.solAct _ _ _ hn]
  exact hp.setBit s _ (SOL_CHSTAT_ge _ _)

theorem Undriven.solCommand (s : State) {n : Nat} (hn : n < 64) : p (s.solCommand n) = p s := by
  have hcmd (v : Nat) : p (s.setFld (solF F.SOL_CHCMD_CMD n) v) = p s := hp.setFld s v (sol_channel_ge _ _).2.2.1
  simp only [State.solCommand]
  split_ifs
  · rw [hp.solShow, hp.solFlag _ (fun _ _ => rfl) (fun _ => rfl) hn, hcmd]
  · rw [hp.solShow, hcmd]
  · rw [hp.solShow, hcmd]

theorem Undriven.solDest (s : State) {n : Nat} (v : Nat) (hn : n < 64) : p (s.solDest n v) = p s := by
  have hmag : p (s.solMag n v) = p s := (hp.solCommand _ hn).trans (hp.setSch s n _)
  simp only [State.solDest]
  rw [apply_ite p, hp.solEdge _ _ _ hn, hmag, ite_self]

theorem Undriven.solName (s : State) (n : Nat) (named : Bool) : p (s.solName n named) = p s := by
  simp only [State.solName]
  rw [hp.solShow, apply_ite p, hp.setSch, ite_self]
  exact hp.setBit s _ (SOL_CHSTAT_ge _ _)

/-! ### Load switches -/

theorem Undriven.lswTo (s : State) (n st : Nat) : p (s.lswTo n st) = p s := by
  have hstate : p (s.setFld (lswF F.LSW_CHSTAT_STATE n) st) = p s := hp.setFld s _ (LSW_CHSTAT_ge _ _)
  have hlimit (u : State) : p (u.setFld (lswF F.LSW_CHSTAT_LIMITING n) 0) = p u := hp.setFld u _ (LSW_CHSTAT_ge _ _)
  refine (hp.setBit _ _ (LSW_CHSTAT_ge _ _)).trans ?_
  rw [apply_ite p, hlimit, ite_self, hstate]

theorem Undriven.lswFlag (s : State) {ch : Nat → Nat → Fld} {unit : Nat → Fld} {n : Nat} (hch : ∀ d j, (ch d j).addr = R.LSW_CHSTAT d j)
    (hunit : ∀ d, (unit d).addr = R.LSW_STAT d) (hn : n < 96) : p (s.lswFlag ch unit n) = p s :=
  hp.raiseBoth s ((LSW_CHSTAT_ge _ _).trans_eq (hch _ _).symm) ((LSW_STAT_ge _).trans_eq (hunit _).symm) (by omega)

theorem Undriven.setDuty (s : State) (n v : Nat) : p (s.setFld (lswF F.LSW_CHDUTY_DUTY n) v) = p s := hp.setFld s _ (LSW_CHDUTY_ge _ _)

theorem Undriven.lswSettle (s : State) (n : Nat) : p (s.lswSettle n) = p s := by
  unfold State.lswSettle
  extract_lets x settled
  have hsettled : p settled = p s := by
    simp only [settled]
    split
    · rw [apply_ite p, hp.setLch, hp.setDuty, ite_self]
    · rfl
  have hsafe (u : State) : p (u.setFld (lswF F.LSW_CHSAFE_DUTY n) (hSafeDuty (u.entry 2 n))) = p u := hp.setFld u _ (LSW_CHSAFE_ge _ _)
  clear_value settled
  split
  · split_ifs
    · rw [hsafe, hp.setLch, hsettled]
    · rw [hp.setLch, hsettled]
    · exact hsettled
  · exact hsettled

theorem Undriven.lswDuty (s : State) {n : Nat} (hn : n < 96) : p (s.lswDuty n) = p s := by
  have hclamp (u : State) : p (u.setFld (lswF F.LSW_CHSTAT_CLAMPED n) 1) = p u := hp.setFld u _ (LSW_CHSTAT_ge _ _)
  simp only [State.lswDuty]
  split
  · rw [apply_ite p, hp.lswFlag _ (fun _ _ => rfl) (fun _ => rfl) hn, ite_self, apply_ite p, hp.setLch, hp.setLch, hp.setDuty, ite_self,
      apply_ite p, hclamp, ite_self, hp.lswSettle]
  · rw [hp.setLch, hp.setDuty, hp.lswSettle]

theorem Undriven.lswStart (s : State) {n : Nat} (te : Nat) (hn : n < 96) : p (s.lswStart n te) = p s := by
  simp only [State.lswStart]
  rw [hp.lswTo, hp.lswDuty _ hn, hp.setLch]

theorem Undriven.lswAct (s : State) {n : Nat} (on : Bool) (te : Nat) (hn : n < 96) : p (s.lswAct n on te) = p s := by
  unfold State.lswAct
  split_ifs
  · rfl
  · exact hp.lswStart s te hn
  · rfl
  · exact hp.lswTo s n _

theorem Undriven.lswEdge (s : State) {n : Nat} (on : Bool) (te : Nat) (hn : n < 96) : p (s.lswEdge n on te) = p s := by
  rw [State.lswEdge, hp.lswAct _ _ _ hn]
  exact hp.setBit s _ (LSW_CHSTAT_ge _ _)

theorem Undriven.lswDest (s : State) {n : Nat} (v : Nat) (hn : n < 96) : p (s.lswDest n v) = p s := by
  have hmag : p (s.lswMag n v) = p s := (hp.lswDuty _ hn).trans (hp.setLch s n _)
  simp only [State.lswDest]
  rw [apply_ite p, hp.lswEdge _ _ _ hn, hmag, ite_self]

theorem Undriven.lswName (s : State) (n : Nat) (named : Bool) : p (s.lswName n named) = p s := by
  simp only [State.lswName]
  rw [apply_ite p, hp.setLch, ite_self]
  exact hp.setBit s _ (LSW_CHSTAT_ge _ _)

end Undriven

end Sys2Proof.Machine
end

section
/-! Bridle: the readings of the state that no register enters, and those that the sample of one loop does not enter (R181-R196, R201). -/

namespace Sys2Proof.Machine

/-- A reading of the state that no register enters, nor the recorder, the free values, the records of the driver channels and what the
groups last sent. -/
structure Unsampled {α : Type} (p : State → α) : Prop where
  setReg : ∀ (s : State) (b : Nat) (w : Word), p (s.setReg b w) = p s
  withEvr : ∀ (s : State) (e : Evr), p { s with evr := e } = p s
  withFree : ∀ (s : State) (k : Nat), p { s with freeSeq := k } = p s
  setSch : ∀ (s : State) (n : Nat) (x : SCh), p (s.setSch n x) = p s
  setLch : ∀ (s : State) (n : Nat) (x : LCh), p (s.setLch n x) = p s
  withSent : ∀ (s : State) (m : List (Nat × Option (Nat × Nat))), p { s with brd := { s.brd with gsent := m } } = p s

theorem unsampled_mem : Unsampled State.mem :=
  ⟨fun _ _ _ => rfl, fun _ _ => rfl, fun _ _ => rfl, fun _ _ _ => rfl, fun _ _ _ => rfl, fun _ _ => rfl⟩

theorem unsampled_bloop (n : Nat) : Unsampled (fun s => s.bloop n) :=
  ⟨fun _ _ _ => rfl, fun _ _ => rfl, fun _ _ => rfl, fun _ _ _ => rfl, fun _ _ _ => rfl, fun _ _ => rfl⟩

/-- A reading of such a reading. -/
theorem Unsampled.comp {α β : Type} {p : State → α} (hp : Unsampled p) (q : α → β) : Unsampled (fun s => q (p s)) :=
  ⟨fun s b w => congrArg q (hp.setReg s b w), fun s e => congrArg q (hp.withEvr s e), fun s k => congrArg q (hp.withFree s k),
    fun s n x => congrArg q (hp.setSch s n x), fun s n x => congrArg q (hp.setLch s n x), fun s m => congrArg q (hp.withSent s m)⟩

theorem Unsampled.undriven {α : Type} {p : State → α} (hp : Unsampled p) : Undriven p :=
  ⟨fun s b w _ => hp.setReg s b w, hp.withEvr, hp.withFree, hp.setSch, hp.setLch⟩

/-! ### Loops -/

@[simp] theorem State.bloop_setLoop_same (s : State) (n : Nat) (x : BLoop) : (s.setLoop n x).bloop n = x := SMap.get_set_same _ _ _

theorem State.bloop_setLoop_ne (s : State) {n m : Nat} (x : BLoop) (h : m ≠ n) : (s.setLoop n x).bloop m = s.bloop m :=
  SMap.get_set_ne _ _ h

/-- What a reading of one loop, its record replaced by one that reads the same, reads of any loop. -/
theorem State.bloop_setLoop_keeps {β : Type} {q : BLoop → β} (s : State) {n : Nat} {x : BLoop} (hx : q x = q (s.bloop n)) (m : Nat) :
    q ((s.setLoop n x).bloop m) = q (s.bloop m) := by
  by_cases h : m = n
  · rw [h, State.bloop_setLoop_same, hx]
  · rw [State.bloop_setLoop_ne s x h]

theorem State.reg_setLoop (s : State) (n : Nat) (x : BLoop) (a : Nat) : (s.setLoop n x).reg a = s.reg a := rfl

/-! ### What no register enters -/

section Unsampled
variable {α : Type} {p : State → α} (hp : Unsampled p)
include hp

theorem Unsampled.setFld (s : State) (f : Fld) (v : Nat) : p (s.setFld f v) = p s := hp.setReg s _ _

theorem Unsampled.setBit (s : State) (f : Fld) (b : Bool) : p (s.setBit f b) = p s := hp.setFld s f _

theorem Unsampled.raiseFlag (s : State) (f : Fld) (irq : Nat) : p (s.raiseFlag f irq) = p s := by
  rw [State.raiseFlag, apply_ite p, State.pend, hp.setReg, hp.setFld, ite_self]

theorem Unsampled.loopFlag (s : State) (n : Nat) (ch : Nat → Fld) (unit : Fld) : p (s.loopFlag n ch unit) = p s := by
  rw [State.loopFlag, State.raiseBoth, hp.raiseFlag, hp.setFld]

theorem Unsampled.brdBusy (s : State) : p s.brdBusy = p s := (hp.setFld _ _ _).trans (hp.withFree s _)

theorem Unsampled.loopShow (s : State) (n : Nat) (j : LJob) : p (s.loopShow n j) = p s := by
  simp only [State.loopShow, apply_ite p, hp.setReg, hp.setBit, hp.setFld, ite_self]

end Unsampled

@[simp] theorem State.bloop_setReg (s : State) (b : Nat) (w : Word) (n : Nat) : (s.setReg b w).bloop n = s.bloop n := rfl

@[simp] theorem State.bloop_setFld (s : State) (f : Fld) (v n : Nat) : (s.setFld f v).bloop n = s.bloop n := rfl

@[simp] theorem State.bloop_bump (s : State) (f : Fld) (k n : Nat) : (s.bump f k).bloop n = s.bloop n := rfl

@[simp] theorem State.bloop_raiseFlag (s : State) (f : Fld) (irq n : Nat) : (s.raiseFlag f irq).bloop n = s.bloop n :=
  (unsampled_bloop n).raiseFlag s f irq

@[simp] theorem State.bloop_loopFlag (s : State) (m : Nat) (ch : Nat → Fld) (unit : Fld) (n : Nat) :
    (s.loopFlag m ch unit).bloop n = s.bloop n :=
  (unsampled_bloop n).loopFlag s m ch unit

@[simp] theorem State.bloop_event (s : State) (code : Nat) (args : List Word) (n : Nat) : (s.event code args).bloop n = s.bloop n :=
  (unsampled_bloop n).undriven.event s code args

@[simp] theorem State.bloop_brdBusy (s : State) (n : Nat) : s.brdBusy.bloop n = s.bloop n := (unsampled_bloop n).brdBusy s

@[simp] theorem State.bloop_loopShow (s : State) (m : Nat) (j : LJob) (n : Nat) : (s.loopShow m j).bloop n = s.bloop n :=
  (unsampled_bloop n).loopShow s m j

/-! ### Destinations (R188) -/

section
variable {α : Type} {p : State → α}

theorem Undriven.destSteps (hp : Undriven p) (s : State) (v k lim : Nat) : p (s.destSteps v k lim).2 = p s := by
  unfold State.destSteps
  split_ifs
  · exact hp.withFree s _
  · rfl
  · rfl
  · rfl

/-- What a destination sends leaves what neither the conflict flags nor the kept command of its loop enter. -/
theorem Undriven.destSend (hp : Undriven p) {s : State} {k : Nat} (v : Nat)
    (hcmd : 16 ≤ k → ∀ (u : State) i, p (u.setLoop (k - 16) { u.bloop (k - 16) with cmd := i }) = p u)
    (hgroup : k < 16 → ∀ (u : State) b, p (u.setBit (F.BRD_GSTAT_CONFLICT k) b) = p u ∧ p (u.raiseFlag F.BRD_STAT_CONFLICT 185) = p u)
    (hloop : 16 ≤ k → ∀ u : State, p (u.loopFlag (k - 16) F.BRD_LSTAT_CONFLICT F.BRD_STAT_CONFLICT) = p u) :
    p (s.destSend k v) = p s := by
  unfold State.destSend
  split
  next cls ch _ =>
  extract_lets present
  split
  · rfl
  · next hpresent =>
    have hsol : cls = 1 → ch < 64 := by
      intro hcls
      simp [present, hcls, Part.hasSol] at hpresent
      omega
    have hhs : cls ≠ 1 → ch < 96 := by
      intro hcls
      simp [present, hcls, Part.hasHs] at hpresent
      omega
    split
    next i u hu =>
    have hdrawn : p u = p s := by
      rw [show u = (i, u).2 from rfl, ← hu]
      split_ifs <;> exact hp.destSteps s v _ _
    extract_lets _ kept may shown
    have hkept : p kept = p s := by
      simp only [kept]
      split
      · exact hdrawn
      · exact (hcmd (by omega) u _).trans hdrawn
    have hshown : p shown = p s := by
      simp only [shown]
      split
      · exact ((hgroup ‹_› kept _).1).trans hkept
      · exact hkept
    clear_value shown
    split_ifs
    · exact ((hgroup ‹_› shown true).2).trans hshown
    · exact (hloop (by omega) shown).trans hshown
    · exact hshown
    · exact (hp.solDest shown i (hsol ‹_›)).trans hshown
    · exact (hp.lswDest shown i (hhs ‹_›)).trans hshown

/-- What a group sends leaves what no register enters. -/
theorem Unsampled.destSend_group (hp : Unsampled p) (s : State) {g : Nat} (hg : g < 16) (v : Nat) : p (s.destSend g v) = p s :=
  hp.undriven.destSend v (fun h => absurd hg (by omega)) (fun _ u _ => ⟨hp.setBit u _ _, hp.raiseFlag u _ _⟩) (fun h => absurd hg (by omega))

/-- What a loop sends leaves what neither a register nor the command it keeps enters. -/
theorem Unsampled.destSend_loop (hp : Unsampled p) (s : State) (n v : Nat)
    (hcmd : ∀ (u : State) i, p (u.setLoop n { u.bloop n with cmd := i }) = p u) : p (s.destSend (16 + n) v) = p s := by
  refine hp.undriven.destSend v (fun _ => ?_) (fun h => absurd h (by omega)) (fun _ u => hp.loopFlag u _ _ _)
  rw [Nat.add_sub_cancel_left]
  exact hcmd

end

/-! ### The oscillation detector (R196) -/

/-- A sample of loop n has been counted. -/
def State.oscCounted (s : State) (n cnt : Nat) (sign : Int) (wide : Bool) (revs : List Nat) : State :=
  (s.setLoop n { s.bloop n with cnt := cnt, sign := sign, wide := wide, revs := revs }).setFld (F.BRD_LOSC_COUNT n) (min 255 revs.length)

/-- An oscillation of loop n has been detected, at a value. -/
def State.oscDetected (s : State) (n v : Nat) (args : List Word) : State :=
  (((s.setLoop n { s.bloop n with frz := v }).setFld (F.BRD_LSTAT_OSC n) 1).raiseFlag F.BRD_STAT_OSC 186).event 0x0503 args

/-- The detector does nothing, counts the sample, or counts it and detects an oscillation. -/
theorem State.oscCount_cases (s : State) (n : Nat) : s.oscCount n = s ∨ ∃ cnt sign wide revs,
    s.oscCount n = s.oscCounted n cnt sign wide revs ∨ ∃ v args, s.oscCount n = (s.oscCounted n cnt sign wide revs).oscDetected n v args := by
  unfold State.oscCount
  extract_lets x c cnt sg rev revs wide
  by_cases hskip : x.state ≠ lpRUN ∨ bOscN c = 0 ∨ s.flag (F.BRD_LSTAT_OSC n)
  · exact .inl (if_pos hskip)
  · rw [if_neg hskip]
    refine .inr ⟨cnt, if sg = 0 then x.sign else sg, wide, revs, ?_⟩
    by_cases hfound : bOscN c ≤ revs.length
    · exact .inr ⟨x.last, [w32 n, w32 x.zone, w32 revs.length], if_pos hfound⟩
    · exact .inl (if_neg hfound)

/-! ### Zones (R190, R196) -/

/-- Loop n with its scheduled and its active zone. -/
def State.rezoned (s : State) (n z zone : Nat) (calm : Bool) : State :=
  (s.setLoop n { s.bloop n with z := z, zone := zone }).setBit (F.BRD_LSTAT_CALM n) calm

@[simp] theorem State.bloop_rezoned (s : State) (n z zone : Nat) (calm : Bool) :
    (s.rezoned n z zone calm).bloop n = { s.bloop n with z := z, zone := zone } :=
  State.bloop_setLoop_same _ _ _

/-- A sample settles the zones; where the active one changes it flags it. -/
theorem State.rezone_cases (s : State) (n t : Nat) : ∃ z zone calm, (s.rezone n t).2 = s.rezoned n z zone calm ∨
    (s.rezone n t).2 = (s.rezoned n z zone calm).setFld (F.BRD_LSTAT_ZSW n) 1 := by
  unfold State.rezone
  extract_lets x c z calm zone zoned
  have hzoned : zoned = s.rezoned n z zone calm := rfl
  refine ⟨z, zone, calm, ?_⟩
  rw [hzoned]
  clear_value zone z
  split
  · exact .inl rfl
  · exact .inr rfl

/-- Loop n with its coefficients and no promotion pending. -/
def State.promoted (s : State) (n : Nat) (coef : List Nat) : State := s.setLoop n { s.bloop n with apply_ := false, coef := coef }

@[simp] theorem State.bloop_promoted (s : State) (n : Nat) (coef : List Nat) :
    (s.promoted n coef).bloop n = { s.bloop n with apply_ := false, coef := coef } :=
  State.bloop_setLoop_same _ _ _

/-- A pending promotion takes the shadow or, where that is not finite, keeps the coefficients and reports it (R191). -/
theorem State.promote_cases (s : State) (n : Nat) : (s.promote n).2 = s ∨ ∃ coef, (s.promote n).2 = s.promoted n coef ∨
    (s.promote n).2 = (s.promoted n coef).loopFlag n F.BRD_LSTAT_CONFIG F.BRD_STAT_CONFIG := by
  unfold State.promote
  extract_lets x sh
  clear_value sh
  split
  · exact .inl rfl
  · split
    · exact .inr ⟨sh, .inl rfl⟩
    · exact .inr ⟨x.coef, .inr rfl⟩

/-! ### What one loop does not enter -/

/-- A reading of the state that neither a register nor loop n enters: the sample of loop n leaves it. -/
structure BesideLoop {α : Type} (n : Nat) (p : State → α) : Prop extends Unsampled p where
  setLoop : ∀ (s : State) (x : BLoop), p (s.setLoop n x) = p s

theorem besideLoop_mem (n : Nat) : BesideLoop n State.mem := ⟨unsampled_mem, fun _ _ => rfl⟩

theorem besideLoop_bloop {n m : Nat} (h : m ≠ n) : BesideLoop n (fun s => s.bloop m) :=
  ⟨unsampled_bloop m, fun s x => s.bloop_setLoop_ne x h⟩

section BesideLoop
variable {α : Type} {n : Nat} {p : State → α} (hp : BesideLoop n p)
include hp

theorem BesideLoop.rezone (s : State) (t : Nat) : p (s.rezone n t).2 = p s := by
  obtain ⟨z, zone, calm, h | h⟩ := s.rezone_cases n t
  · rw [h, State.rezoned, hp.setBit, hp.setLoop]
  · rw [h, hp.setFld, State.rezoned, hp.setBit, hp.setLoop]

theorem BesideLoop.promote (s : State) : p (s.promote n).2 = p s := by
  obtain h | ⟨coef, h | h⟩ := s.promote_cases n
  · rw [h]
  · rw [h, State.promoted, hp.setLoop]
  · rw [h, hp.loopFlag, State.promoted, hp.setLoop]

theorem BesideLoop.oscCount (s : State) : p (s.oscCount n) = p s := by
  obtain h | ⟨cnt, sign, wide, revs, h | ⟨v, args, h⟩⟩ := s.oscCount_cases n
  · rw [h]
  · rw [h, State.oscCounted, hp.setFld, hp.setLoop]
  · rw [h, State.oscDetected, hp.undriven.event, hp.raiseFlag, hp.setFld, hp.setLoop, State.oscCounted, hp.setFld, hp.setLoop]

end BesideLoop

end Sys2Proof.Machine
end

section
/-! Bridle: what the sample of a loop leaves, and its entry into HOLD or FAIL (R183, R185-R193, R198, Table 7-3). -/

namespace Sys2Proof.Machine

/-! ### The loop that a sample starts from -/

/-- What of a loop decides how it rests: the last sample, the commands waiting, the manual value, the value shown and the value at
detection. -/
def BLoop.basis (x : BLoop) : Option Nat × List (Nat × Nat) × Option Nat × Nat × Nat := (x.lastAt, x.cmds, x.manual, x.last, x.frz)

theorem BLoop.command_eq (x : BLoop) (c : List Byte) (free : Nat) (q : Nat × Nat) :
    ∃ manual i, x.command c free q = { x with manual := manual, i := i } := by
  unfold BLoop.command
  split
  · exact ⟨_, x.i, rfl⟩
  · exact ⟨_, x.i, rfl⟩
  · exact ⟨x.manual, _, rfl⟩

/-- Commands leave the value shown and the value at detection. -/
theorem BLoop.foldl_command (c : List Byte) (free : Nat) (l : List (Nat × Nat)) (x : BLoop) :
    (l.foldl (fun x q => x.command c free q) x).last = x.last ∧ (l.foldl (fun x q => x.command c free q) x).frz = x.frz := by
  induction l generalizing x with
  | nil => exact ⟨rfl, rfl⟩
  | cons q l ih =>
    obtain ⟨manual, i, h⟩ := x.command_eq c free q
    rw [List.foldl_cons, h]
    exact ih _

/-- A loop at its sample: the commands taken, the instant noted. -/
def BLoop.taken (x : BLoop) (c : List Byte) (free : Nat) (j : LJob) : BLoop :=
  { x.cmds.foldl (fun x q => x.command c free q) x with cmds := [], lastAt := some j.at_, pos := j.pos, axc := 0 }

/-- A sample of loop n begins: the free value drawn, a deferred one flagged. -/
def State.loopBegun (s : State) (n : Nat) (j : LJob) : State :=
  if j.fast then (s.drawNat 32).2.loopFlag n F.BRD_LSTAT_AXFAST F.BRD_STAT_AXFAST else (s.drawNat 32).2

/-- More than one endpoint that supplies loop n is flagged. -/
def State.loopShared (s : State) (n : Nat) : State :=
  if 1 < (s.suppliers n).length then s.raiseFlag F.BRD_STAT_LOOPSHARE 185 else s

/-- A sample of loop n has taken the loop's commands. -/
def State.loopTaken (s : State) (n : Nat) (j : LJob) : State :=
  ((s.loopBegun n j).setLoop n ((s.bloop n).taken (s.entry 6 n) (s.drawNat 32).1 j)).loopShared n

/-- PV or SP of loop n, newly invalid, is reported (R193). -/
def State.loopJudged (s : State) (n : Nat) (new : Bool) : State :=
  if new then (s.loopFlag n F.BRD_LSTAT_PVFAIL F.BRD_STAT_PVFAIL).event 0x0502 [] else s

/-- The zone and the coefficients of loop n are those of its sample (R190, R191). -/
def State.loopSettled (s : State) (n t : Nat) : State := ((s.rezone n t).2.promote n).2

/-- A sample is the loop taken, judged and settled, then one of RUN or the rest of another state. -/
theorem State.loopSample_eq (s : State) (n : Nat) (j : LJob) : ∃ (new bad : Bool) (x : BLoop) (dt tt pv sp : Nat) (xfer first : Bool)
    (free spr : Nat), x.basis = ((((s.loopTaken n j).loopJudged n new).loopSettled n j.at_).bloop n).basis ∧
    s.loopSample n j = (((s.loopTaken n j).loopJudged n new).loopSettled n j.at_).setLoop n
      (if ((s.loopTaken n j).loopJudged n new).loopState n bad = lpRUN
        then { x.runSample (s.entry 6 n) dt tt pv sp xfer first free with xfer := false }
        else { x.rest (s.entry 6 n) (((s.loopTaken n j).loopJudged n new).loopState n bad) with xfer := false, spr := spr }) := by
  unfold State.loopSample State.loopSettled
  extract_lets t c
  split
  next free u hu =>
  obtain ⟨rfl, rfl⟩ := Prod.mk.inj hu
  extract_lets _ dt tt fast x begun taken raw sp bad judged st pv
  have hjudged : judged = (s.loopTaken n j).loopJudged n (bad && !x.pvbad) := rfl
  refine ⟨bad && !x.pvbad, bad, ?_⟩
  rw [← hjudged]
  clear_value judged
  split
  next zsw zoned hzoned =>
  split
  next prom settled hsettled =>
  rw [hzoned, hsettled]
  extract_lets _ _ first y xfer
  refine ⟨y, dt, tt, pv, sp.getD 0, xfer, first, _, if st = lpGATED then sp.getD y.spr else y.spr, ?_, rfl⟩
  simp only [y]
  split_ifs <;> rfl

/-! ### What a sample does not enter -/

section BesideLoop
variable {α : Type} {n : Nat} {p : State → α} (hp : BesideLoop n p)
include hp

theorem BesideLoop.loopTaken (s : State) (j : LJob) : p (s.loopTaken n j) = p s := by
  have hdrawn : p (s.drawNat 32).2 = p s := hp.withFree s _
  rw [State.loopTaken, State.loopShared, apply_ite p, hp.raiseFlag, ite_self, hp.setLoop, State.loopBegun, apply_ite p, hp.loopFlag, ite_self,
    hdrawn]

theorem BesideLoop.loopJudged (s : State) (new : Bool) : p (s.loopJudged n new) = p s := by
  rw [State.loopJudged, apply_ite p, hp.undriven.event, hp.loopFlag, ite_self]

theorem BesideLoop.loopSettled (s : State) (t : Nat) : p (s.loopSettled n t) = p s := by
  rw [State.loopSettled, hp.promote, hp.rezone]

theorem BesideLoop.loopSample (s : State) (j : LJob) : p (s.loopSample n j) = p s := by
  obtain ⟨new, bad, x, dt, tt, pv, sp, xfer, first, free, spr, -, h⟩ := s.loopSample_eq n j
  rw [h, hp.setLoop, hp.loopSettled, hp.loopJudged, hp.loopTaken]

theorem BesideLoop.loopEnter (s : State) : p (s.loopEnter n) = p s := by
  simp only [State.loopEnter]
  rw [hp.setLoop, hp.setLoop]

theorem BesideLoop.loopCompute (s : State) (j : LJob) : p (s.loopCompute n j) = p s := by
  rw [State.loopCompute, apply_ite p, hp.loopEnter, hp.loopSample, ite_self]

end BesideLoop

/-! ### The state of Table 7-3 -/

theorem State.loopState_mem (s : State) (n : Nat) (bad : Bool) : 1 ≤ s.loopState n bad ∧ s.loopState n bad ≤ 6 := by
  simp only [State.loopState]
  split_ifs <;> decide

/-- In MANUAL there is a manual value. -/
theorem State.manual_of_loopState {s : State} {n : Nat} {bad : Bool} (h : s.loopState n bad = lpMANUAL) : (s.bloop n).manual.isSome := by
  by_contra hno
  simp only [State.loopState, if_neg hno] at h
  split_ifs at h <;> exact absurd h (by decide)

/-- A loop whose axis is LOST or DISABLED is not in RUN (R183). -/
theorem State.loopState_ne_run {s : State} {n : Nat} (h : (s.bloop n).axc = 1 ∨ (s.bloop n).axc = 2) (bad : Bool) :
    s.loopState n bad ≠ lpRUN := by
  simp only [State.loopState]
  split_ifs with hmanual hgate hfail hhold hfrozen
  · decide
  · decide
  · decide
  · decide
  · decide
  · simp only [Bool.or_eq_true, decide_eq_true_eq, not_or] at hfail hhold
    exact absurd h (not_or.mpr ⟨hhold.2, hfail.2⟩)

/-! ### The outcome of a sample -/

/-- What a sample leaves of a loop whose entry is c and whose last and frozen values were given: its instant, no command, a state of
Table 7-3 and the value that state shows. -/
structure BLoop.Sampled (c : List Byte) (t last frz : Nat) (y : BLoop) : Prop where
  lastAt : y.lastAt = some t
  cmds : y.cmds = []
  state : 1 ≤ y.state ∧ y.state ≤ 6
  manual : y.state = lpMANUAL → y.manual = some y.last
  gated : y.state = lpGATED → y.last = bStartOut c
  fail : y.state = lpFAIL → y.last = bFailOut c
  hold : y.state = lpHOLD → y.last = last
  frozen : y.state = lpFROZEN → y.last = frz

/-- What a loop shows of a sample: the last sample, the commands waiting, the state, the manual value, the value shown. -/
def BLoop.outcome (x : BLoop) : Option Nat × List (Nat × Nat) × Nat × Option Nat × Nat := (x.lastAt, x.cmds, x.state, x.manual, x.last)

theorem BLoop.Sampled.congr {c : List Byte} {t last frz : Nat} {x y : BLoop} (h : x.Sampled c t last frz) (hxy : y.outcome = x.outcome) :
    y.Sampled c t last frz := by
  simp only [BLoop.outcome, Prod.mk.injEq] at hxy
  obtain ⟨hlastAt, hcmds, hstate, hmanual, hlast⟩ := hxy
  refine ⟨hlastAt.trans h.lastAt, hcmds.trans h.cmds, hstate ▸ h.state, fun hy => ?_, fun hy => ?_, fun hy => ?_, fun hy => ?_, fun hy => ?_⟩
  all_goals have hx := hstate.symm.trans hy
  · rw [hmanual, hlast, h.manual hx]
  · rw [hlast, h.gated hx]
  · rw [hlast, h.fail hx]
  · rw [hlast, h.hold hx]
  · rw [hlast, h.frozen hx]

/-- In RUN the value shown is free. -/
theorem BLoop.Sampled.of_run {c : List Byte} {t last frz : Nat} {y : BLoop} (hlastAt : y.lastAt = some t) (hcmds : y.cmds = [])
    (hrun : y.state = lpRUN) : y.Sampled c t last frz := by
  refine ⟨hlastAt, hcmds, ?_, fun h => ?_, fun h => ?_, fun h => ?_, fun h => ?_, fun h => ?_⟩
  · rw [hrun]; decide
  all_goals exact absurd (hrun.symm.trans h) (by decide)

theorem BLoop.runSample_state (x : BLoop) (c : List Byte) (dt tt pv sp : Nat) (xfer first : Bool) (free : Nat) :
    (x.runSample c dt tt pv sp xfer first free).state = lpRUN := rfl

/-- A loop that rests in a state shows the output of that state. -/
theorem BLoop.sampled_rest {x : BLoop} {c : List Byte} {t st : Nat} (hlastAt : x.lastAt = some t) (hcmds : x.cmds = [])
    (hst : 1 ≤ st ∧ st ≤ 6) (hmanual : st = lpMANUAL → x.manual.isSome) : (x.rest c st).Sampled c t x.last x.frz := by
  refine ⟨hlastAt, hcmds, hst, fun h => ?_, fun h => ?_, fun h => ?_, fun h => ?_, fun h => ?_⟩
  all_goals
    replace h : st = _ := h
    simp only [BLoop.rest, BLoop.held, h]
  · obtain ⟨v, hv⟩ := Option.isSome_iff_exists.mp (hmanual h)
    rw [hv]
    rfl
  · rfl
  · rfl
  · rfl
  · rfl

theorem State.bloop_loopTaken (s : State) (n : Nat) (j : LJob) :
    (s.loopTaken n j).bloop n = (s.bloop n).taken (s.entry 6 n) (s.drawNat 32).1 j := by
  rw [State.loopTaken, State.loopShared, apply_ite (State.bloop · n), State.bloop_raiseFlag, ite_self, State.bloop_setLoop_same]

@[simp] theorem State.bloop_loopJudged (s : State) (n : Nat) (new : Bool) (m : Nat) : (s.loopJudged n new).bloop m = s.bloop m := by
  rw [State.loopJudged, apply_ite (State.bloop · m), State.bloop_event, State.bloop_loopFlag, ite_self]

theorem State.basis_rezone (s : State) (n t : Nat) : ((s.rezone n t).2.bloop n).basis = (s.bloop n).basis := by
  obtain ⟨z, zone, calm, h | h⟩ := s.rezone_cases n t
  · rw [h, State.bloop_rezoned]
    rfl
  · rw [h, State.bloop_setFld, State.bloop_rezoned]
    rfl

theorem State.basis_promote (s : State) (n : Nat) : ((s.promote n).2.bloop n).basis = (s.bloop n).basis := by
  obtain h | ⟨coef, h | h⟩ := s.promote_cases n
  · rw [h]
  · rw [h, State.bloop_promoted]
    rfl
  · rw [h, State.bloop_loopFlag, State.bloop_promoted]
    rfl

theorem State.basis_loopSettled (s : State) (n t : Nat) : ((s.loopSettled n t).bloop n).basis = (s.bloop n).basis :=
  (State.basis_promote _ n).trans (s.basis_rezone n t)

/-- A sample takes the commands, ends in a state of Table 7-3 and shows its output. -/
theorem State.sampled_loopSample (s : State) (n : Nat) (j : LJob) :
    ((s.loopSample n j).bloop n).Sampled (s.entry 6 n) j.at_ (s.bloop n).last (s.bloop n).frz := by
  obtain ⟨new, bad, x, dt, tt, pv, sp, xfer, first, free, spr, hx, h⟩ := s.loopSample_eq n j
  obtain ⟨hlast, hfrz⟩ := BLoop.foldl_command (s.entry 6 n) (s.drawNat 32).1 (s.bloop n).cmds (s.bloop n)
  have hstate := ((s.loopTaken n j).loopJudged n new).loopState_mem n bad
  have hmanual := State.manual_of_loopState (s := (s.loopTaken n j).loopJudged n new) (n := n) (bad := bad)
  rw [State.basis_loopSettled, State.bloop_loopJudged, State.bloop_loopTaken] at hx
  rw [State.bloop_loopJudged, State.bloop_loopTaken] at hmanual
  simp only [BLoop.basis, Prod.mk.injEq] at hx
  obtain ⟨hxlastAt, hxcmds, hxmanual, hxlast, hxfrz⟩ := hx
  rw [h, State.bloop_setLoop_same]
  generalize ((s.loopTaken n j).loopJudged n new).loopState n bad = st at hstate hmanual
  rw [← hlast, ← hfrz]
  split
  · exact .of_run hxlastAt hxcmds (x.runSample_state (s.entry 6 n) dt tt pv sp xfer first free)
  · have hrest : (x.rest (s.entry 6 n) st).Sampled (s.entry 6 n) j.at_ x.last x.frz :=
      BLoop.sampled_rest hxlastAt hxcmds hstate fun hst => hxmanual ▸ hmanual hst
    rw [hxlast, hxfrz] at hrest
    exact hrest.congr rfl

end Sys2Proof.Machine
end

section
/-! Bridle: LOOP_SAMPLE, a sample or an entry of HOLD or FAIL of a loop outside a group, and a dropped sample (R181-R186, R201). -/

namespace Sys2Proof.Machine

/-! ### What a loop does after its output -/

@[simp] theorem BLoop.outcome_slew (x : BLoop) (d : Int) : (x.slew d).outcome = x.outcome := by
  unfold BLoop.slew
  split <;> rfl

theorem State.oscCount_of_ne_run {s : State} {n : Nat} (h : (s.bloop n).state ≠ lpRUN) : s.oscCount n = s := if_pos (.inl h)

/-- A reading of a loop that neither its detector nor the command it keeps enters. -/
structure Undetected {β : Type} (q : BLoop → β) : Prop where
  count : ∀ (x : BLoop) (cnt : Nat) (sign : Int) (wide : Bool) (revs : List Nat),
    q { x with cnt := cnt, sign := sign, wide := wide, revs := revs } = q x
  freeze : ∀ (x : BLoop) (v : Nat), q { x with frz := v } = q x
  keep : ∀ (x : BLoop) (i : Option Nat), q { x with cmd := i } = q x

theorem undetected_outcome : Undetected BLoop.outcome := ⟨fun _ _ _ _ _ => rfl, fun _ _ => rfl, fun _ _ => rfl⟩

section Undetected
variable {β : Type} {q : BLoop → β} (hq : Undetected q)
include hq

theorem Undetected.oscCount (s : State) (n m : Nat) : q ((s.oscCount n).bloop m) = q (s.bloop m) := by
  have hcounted (cnt : Nat) (sign : Int) (wide : Bool) (revs : List Nat) :
      q ((s.oscCounted n cnt sign wide revs).bloop m) = q (s.bloop m) :=
    s.bloop_setLoop_keeps (hq.count (s.bloop n) cnt sign wide revs) m
  obtain h | ⟨cnt, sign, wide, revs, h | ⟨v, args, h⟩⟩ := s.oscCount_cases n
  · rw [h]
  · rw [h, hcounted]
  · rw [h, State.oscDetected, State.bloop_event, State.bloop_raiseFlag, State.bloop_setFld, State.bloop_setLoop_keeps _ (hq.freeze _ v),
      hcounted]

theorem Undetected.destSend (s : State) (n v m : Nat) : q ((s.destSend (16 + n) v).bloop m) = q (s.bloop m) :=
  ((unsampled_bloop m).comp q).destSend_loop s n v fun u i => u.bloop_setLoop_keeps (hq.keep (u.bloop n) i) m

end Undetected

/-! ### The registers of a loop (R201) -/

/-- The status register of loop n shows the loop. -/
def State.loopStat (s : State) (n : Nat) : State :=
  let x := s.bloop n
  ((((((s.setFld (F.BRD_LSTAT_STATE n) x.state).setFld (F.BRD_LSTAT_ZONE n) x.zone).setFld (F.BRD_LSTAT_SZONE n) x.z).setBit
    (F.BRD_LSTAT_SAT_HI n) x.satHi).setBit (F.BRD_LSTAT_SAT_LO n) x.satLo).setBit (F.BRD_LSTAT_LOSING n) x.losing).setBit
    (F.BRD_LSTAT_SHDIRTY n) x.apply_

/-- The value registers of loop n show a loop's values. -/
def State.loopValues (s : State) (n : Nat) (x : BLoop) : State :=
  ((((s.setReg (R.BRD_LOUT n) (w32 x.last)).setReg (R.BRD_LPV n) (w32 x.pvf)).setReg (R.BRD_LSP n) (w32 x.spr)).setReg
    (R.BRD_LERR n) (w32 x.err)).setReg (R.BRD_LINT n) (w32 x.i)

theorem State.loopShow_eq (s : State) (n : Nat) (j : LJob) : s.loopShow n j =
    if j.enter then (s.loopStat n).loopValues n (s.bloop n)
    else ((s.loopStat n).loopValues n (s.bloop n)).setReg (R.BRD_LTIME n) (w32 j.at_) := rfl

/-- The registers that show loop n, but for the time of its sample. -/
def loopRegs (n : Nat) : List Nat := [R.BRD_LSTAT n, R.BRD_LOUT n, R.BRD_LPV n, R.BRD_LSP n, R.BRD_LERR n, R.BRD_LINT n]

theorem mem_loopRegs {n a : Nat} (h : a ∈ loopRegs n) : R.BRD_LSTAT n ≤ a ∧ a < R.BRD_LTIME n := by
  simp only [loopRegs, List.mem_cons, List.not_mem_nil, or_false] at h
  simp only [R.BRD_LSTAT, R.BRD_LOUT, R.BRD_LPV, R.BRD_LSP, R.BRD_LERR, R.BRD_LINT] at h
  simp only [R.BRD_LSTAT, R.BRD_LTIME]
  omega

theorem State.loopStat_within (s : State) (n : Nat) : Within [R.BRD_LSTAT n] s (s.loopStat n) := by
  have hmem : R.BRD_LSTAT n ∈ [R.BRD_LSTAT n] := List.mem_singleton_self _
  exact .setFld (.setFld (.setFld (.setFld (.setFld (.setFld (.setFld (.refl _ s) hmem) hmem) hmem) hmem) hmem) hmem) hmem

theorem State.loopValues_within (s : State) (n : Nat) (x : BLoop) :
    Within [R.BRD_LOUT n, R.BRD_LPV n, R.BRD_LSP n, R.BRD_LERR n, R.BRD_LINT n] s (s.loopValues n x) := by
  refine .setReg (.setReg (.setReg (.setReg (.setReg (.refl _ s) ?_) ?_) ?_) ?_) ?_ <;> simp

theorem State.loopShown_within (s : State) (n : Nat) : Within (loopRegs n) s ((s.loopStat n).loopValues n (s.bloop n)) :=
  ((s.loopStat_within n).mono (by simp [loopRegs])).trans (((s.loopStat n).loopValues_within n _).mono (by simp [loopRegs]))

/-- An entry of HOLD or FAIL leaves the time of the last sample. -/
theorem State.loopShow_enter_within (s : State) (n : Nat) {j : LJob} (h : j.enter) : Within (loopRegs n) s (s.loopShow n j) := by
  rw [State.loopShow_eq, if_pos h]
  exact s.loopShown_within n

theorem State.loopShow_within (s : State) (n : Nat) (j : LJob) : Within (R.BRD_LTIME n :: loopRegs n) s (s.loopShow n j) := by
  have hshown := (s.loopShown_within n).mono (List.subset_cons_self (R.BRD_LTIME n) _)
  rw [State.loopShow_eq]
  exact .ite hshown (hshown.setReg List.mem_cons_self)

theorem State.brdBusy_within (s : State) : Within [R.BRD_LOAD] s s.brdBusy :=
  .setFld (.beside (.refl _ s)) (List.mem_singleton_self _)

theorem State.reg_brdBusy (s : State) {a : Nat} (h : R.BRD_LOAD < a) : s.brdBusy.reg a = s.reg a :=
  s.brdBusy_within.onlyRegs a (by simpa using Nat.ne_of_gt h)

theorem BRD_LOAD_lt (n : Nat) : R.BRD_LOAD < R.BRD_LSTAT n ∧ R.BRD_LOAD < R.BRD_LOUT n ∧ R.BRD_LOAD < R.BRD_LTIME n := by
  simp only [R.BRD_LOAD, R.BRD_LSTAT, R.BRD_LOUT, R.BRD_LTIME]
  omega

theorem State.LTIME_loopShow (s : State) (n : Nat) {j : LJob} (h : j.enter = false) : (s.loopShow n j).reg (R.BRD_LTIME n) = w32 j.at_ := by
  rw [State.loopShow_eq, if_neg (by simp [h]), State.reg_setReg_same]

theorem State.LOUT_loopShow (s : State) (n : Nat) (j : LJob) : (s.loopShow n j).reg (R.BRD_LOUT n) = w32 (s.bloop n).last := by
  have hvalues (u : State) (x : BLoop) : (u.loopValues n x).reg (R.BRD_LOUT n) = w32 x.last := by
    simp [State.loopValues, State.reg_setReg, R.BRD_LOUT, R.BRD_LPV, R.BRD_LSP, R.BRD_LERR, R.BRD_LINT]
  rw [State.loopShow_eq]
  split
  · exact hvalues _ _
  · rw [State.reg_setReg_ne _ _ (by simp [R.BRD_LOUT, R.BRD_LTIME]), hvalues]

theorem State.STATE_loopShow (s : State) (n : Nat) (j : LJob) (h : (s.bloop n).state ≤ 6) :
    (s.loopShow n j).fld (F.BRD_LSTAT_STATE n) = (s.bloop n).state := by
  have hstat : (s.loopStat n).fld (F.BRD_LSTAT_STATE n) = (s.bloop n).state := by
    have hkeep (u : State) {f : Fld} (v : Nat) (hf : f.Ok) (h : 2 < f.lo) :
        (u.setFld f v).fld (F.BRD_LSTAT_STATE n) = u.fld (F.BRD_LSTAT_STATE n) :=
      State.fld_setFld_other u f _ hf (by simp [F.BRD_LSTAT_STATE]) (.inr h) v
    simp only [State.loopStat, State.setBit]
    rw [hkeep, hkeep, hkeep, hkeep, hkeep, hkeep, State.fld_setFld_same _ _ (by simp [Fld.Ok, F.BRD_LSTAT_STATE])]
    · exact Nat.mod_eq_of_lt (by simp only [F.BRD_LSTAT_STATE]; omega)
    all_goals
      simp [Fld.Ok, F.BRD_LSTAT_ZONE, F.BRD_LSTAT_SZONE, F.BRD_LSTAT_SAT_HI, F.BRD_LSTAT_SAT_LO, F.BRD_LSTAT_LOSING, F.BRD_LSTAT_SHDIRTY]
  have hvalues : ((s.loopStat n).loopValues n (s.bloop n)).fld (F.BRD_LSTAT_STATE n) = (s.bloop n).state := by
    refine (State.fld_congr (((s.loopStat n).loopValues_within n _).onlyRegs _ ?_)).trans hstat
    simp [F.BRD_LSTAT_STATE, R.BRD_LSTAT, R.BRD_LOUT, R.BRD_LPV, R.BRD_LSP, R.BRD_LERR, R.BRD_LINT]
  rw [State.loopShow_eq]
  split
  · exact hvalues
  · rw [State.fld_setReg_ne _ _ _ _ (by simp [F.BRD_LSTAT_STATE, R.BRD_LSTAT, R.BRD_LTIME]), hvalues]

/-! ### The job of a loop -/

/-- The job of loop n begins: a sample takes its place in what is due. -/
def State.loopDequeued (s : State) (n : Nat) (j : LJob) : State :=
  s.setLoop n (if j.enter then s.bloop n else { s.bloop n with nextAt := (s.loopRest n).1, dues := (s.loopRest n).2 })

/-- A loop whose value is final: as computed or, in RUN, limited by its slew. -/
def BLoop.FinalOf (x y : BLoop) : Prop :=
  x = { y with losing := false } ∨ y.state = lpRUN ∧ ∃ v d, x = { y with losing := false, last := v }.slew d

/-- What loop n computed counts and leaves for its destination, if it has one. -/
def State.loopSent (s : State) (n dscale : Nat) : State :=
  if (s.oscCount n).alone n then s.oscCount n else (s.oscCount n).destSend (16 + n) (fMul ((s.oscCount n).bloop n).last dscale)

theorem State.loopJob_eq (s : State) (n : Nat) (j : LJob) : ∃ x : BLoop, x.FinalOf (((s.loopDequeued n j).loopCompute n j).bloop n) ∧
    s.loopJob n j =
      (((((s.loopDequeued n j).loopCompute n j).setLoop n x).loopSent n (bDscale (s.entry 6 n))).loopShow n j).brdBusy := by
  unfold State.loopJob
  extract_lets c x0
  split
  next next dues hrest =>
  extract_lets computed y won x counted sent
  have hcomputed : computed = (s.loopDequeued n j).loopCompute n j := by
    simp only [computed, State.loopDequeued, hrest, x0]
  have hfinal : x.FinalOf y := by
    simp only [x]
    split
    next hrun => exact .inr ⟨hrun.1, _, _, rfl⟩
    next => exact .inl rfl
  refine ⟨x, hcomputed ▸ hfinal, ?_⟩
  rw [← hcomputed]
  rfl

theorem BesideLoop.loopSent {α : Type} {n : Nat} {p : State → α} (hp : BesideLoop n p) (s : State) (dscale : Nat) :
    p (s.loopSent n dscale) = p s := by
  rw [State.loopSent, apply_ite p, hp.destSend_loop _ _ _ fun u i => hp.setLoop u _, ite_self, hp.oscCount]

theorem BesideLoop.loopJob {α : Type} {n : Nat} {p : State → α} (hp : BesideLoop n p) (s : State) (j : LJob) : p (s.loopJob n j) = p s := by
  obtain ⟨x, -, h⟩ := s.loopJob_eq n j
  rw [h, hp.brdBusy, hp.loopShow, hp.loopSent, hp.setLoop, hp.loopCompute, State.loopDequeued, hp.setLoop]

theorem Undetected.loopSent {β : Type} {q : BLoop → β} (hq : Undetected q) (s : State) (n dscale m : Nat) :
    q ((s.loopSent n dscale).bloop m) = q (s.bloop m) := by
  rw [State.loopSent, apply_ite (fun u : State => q (u.bloop m)), hq.destSend, ite_self, hq.oscCount]

theorem State.bloop_loopDequeued (s : State) (n : Nat) (j : LJob) :
    ((s.loopDequeued n j).bloop n).basis = (s.bloop n).basis ∧ (j.enter → (s.loopDequeued n j).bloop n = s.bloop n) := by
  rw [State.loopDequeued, State.bloop_setLoop_same]
  split
  next h => exact ⟨rfl, fun _ => rfl⟩
  next h => exact ⟨rfl, fun henter => absurd henter h⟩

/-! ### A sample -/

/-- A limit of the value shown, which acts in RUN only, leaves the loop sampled. -/
theorem BLoop.Sampled.final {c : List Byte} {t last frz : Nat} {x y : BLoop} (h : y.Sampled c t last frz) (hx : x.FinalOf y) :
    x.Sampled c t last frz := by
  rcases hx with rfl | ⟨hrun, v, d, rfl⟩
  · exact h.congr rfl
  · have hlimited : ({ y with losing := false, last := v } : BLoop).Sampled c t last frz := .of_run h.lastAt h.cmds hrun
    exact hlimited.congr (BLoop.outcome_slew _ d)

theorem State.sampled_loopJob (s : State) (n : Nat) {j : LJob} (h : j.enter = false) :
    ((s.loopJob n j).bloop n).Sampled (s.entry 6 n) j.at_ (s.bloop n).last (s.bloop n).frz := by
  obtain ⟨x, hx, hjob⟩ := s.loopJob_eq n j
  have hcompute : (s.loopDequeued n j).loopCompute n j = (s.loopDequeued n j).loopSample n j := if_neg (by simp [h])
  have hbasis := (s.bloop_loopDequeued n j).1
  simp only [BLoop.basis, Prod.mk.injEq] at hbasis
  obtain ⟨-, -, -, hlast, hfrz⟩ := hbasis
  have hsampled := (s.loopDequeued n j).sampled_loopSample n j
  rw [← hcompute, hlast, hfrz] at hsampled
  rw [hjob, State.bloop_brdBusy, State.bloop_loopShow]
  refine (hsampled.final hx).congr ?_
  rw [undetected_outcome.loopSent, State.bloop_setLoop_same]

theorem exec_loopSample_of_due {s : State} {n : Fin 64} {j : LJob} (hown : bGen (s.entry 6 n) = false ∨ s.alone n)
    (hlate : s.loopLate n = false) (hdue : s.loopDue n = some j) : exec (.loopSample n) s = .next (s.loopJob n j) := by
  have hexec : exec (.loopSample n) s = execLoopSample n s := by rfl
  have hmember : ¬ (bGen (s.entry 6 n) = true ∧ (!s.alone n) = true) := by
    rcases hown with h | h <;> simp [h]
  simp only [hexec, execLoopSample, if_neg hmember, hlate, Bool.false_eq_true, if_false, hdue]

theorem loopSample_samples (s : State) (n : Fin 64) (j : LJob) (hown : bGen (s.entry 6 n) = false ∨ s.alone n) (hlate : s.loopLate n = false)
    (hdue : s.loopDue n = some j) (henter : j.enter = false) :
    Gives (exec (.loopSample n) s) (fun t => let x := t.bloop n
      x.lastAt = some j.at_ ∧ x.cmds = [] ∧ 1 ≤ x.state ∧ x.state ≤ 6 ∧ t.fld (F.BRD_LSTAT_STATE n) = x.state ∧
      t.reg (R.BRD_LOUT n) = w32 x.last ∧ t.reg (R.BRD_LTIME n) = w32 j.at_ ∧
      (x.state = lpMANUAL → x.manual = some x.last) ∧ (x.state = lpGATED → x.last = bStartOut (s.entry 6 n)) ∧
      (x.state = lpFAIL → x.last = bFailOut (s.entry 6 n)) ∧ (x.state = lpHOLD → x.last = (s.bloop n).last) ∧
      (x.state = lpFROZEN → x.last = (s.bloop n).frz) ∧ (∀ m, m ≠ n.val → t.bloop m = s.bloop m) ∧ t.mem = s.mem) := by
  obtain ⟨hlastAt, hcmds, hstate, hmanual, hgated, hfail, hhold, hfrozen⟩ := s.sampled_loopJob n henter
  obtain ⟨x, -, hjob⟩ := s.loopJob_eq n j
  obtain ⟨hlstat, hlout, hltime⟩ := BRD_LOAD_lt n
  refine ⟨s.loopJob n j, exec_loopSample_of_due hown hlate hdue, hlastAt, hcmds, hstate.1, hstate.2, ?_, ?_, ?_, hmanual, hgated, hfail,
    hhold, hfrozen, fun m hm => (besideLoop_bloop hm).loopJob s j, (besideLoop_mem n).loopJob s j⟩
  all_goals rw [hjob] at hstate ⊢
  all_goals rw [State.bloop_brdBusy, State.bloop_loopShow] at hstate
  · rw [State.fld_congr (State.reg_brdBusy _ hlstat), State.STATE_loopShow _ _ _ hstate.2, State.bloop_brdBusy, State.bloop_loopShow]
  · rw [State.reg_brdBusy _ hlout, State.LOUT_loopShow, State.bloop_brdBusy, State.bloop_loopShow]
  · rw [State.reg_brdBusy _ hltime, State.LTIME_loopShow _ _ henter]

/-! ### An entry of HOLD or FAIL (R183) -/

theorem State.axCond_cases (s : State) (c : List Byte) : s.axCond c = 0 ∨ s.axCond c = 1 ∨ s.axCond c = 2 := by
  unfold State.axCond
  split_ifs <;> simp

theorem State.axCond_loopDequeued (s : State) (n : Nat) (j : LJob) (c : List Byte) : (s.loopDequeued n j).axCond c = s.axCond c := rfl

/-- An entry of HOLD or FAIL is due only where the axis is LOST or DISABLED. -/
theorem State.axCond_of_enter {s : State} {n : Nat} {j : LJob} (hdue : s.loopDue n = some j) (h : j.enter) : s.axCond (s.entry 6 n) ≠ 0 := by
  intro hzero
  have hnext : s.loopNext n = some j := by
    unfold State.loopDue at hdue
    split at hdue
    next k hk =>
      rw [hk, (Option.ite_none_right_eq_some.mp hdue).2]
    next => cases hdue
  unfold State.loopNext at hnext
  extract_lets x c t entry at hnext
  have hentry : entry = none := if_neg fun hcond => hcond.1 hzero
  rw [hentry] at hnext
  split_ifs at hnext
  · rw [← Option.some.inj hnext] at h
    cases h
  · split at hnext
    · split_ifs at hnext
      rw [← Option.some.inj hnext] at h
      cases h
    · cases hnext

theorem State.bloop_loopEnter (s : State) (n : Nat) : ∃ x : BLoop, x.lastAt = (s.bloop n).lastAt ∧
    ∃ st, (s.loopEnter n).bloop n = x.rest (s.entry 6 n) st ∧ (s.axCond (s.entry 6 n) ≠ 0 → st ≠ lpRUN) := by
  have haxis (h : s.axCond (s.entry 6 n) ≠ 0) (u : State) (hu : (u.bloop n).axc = s.axCond (s.entry 6 n)) (bad : Bool) :
      u.loopState n bad ≠ lpRUN := by
    refine State.loopState_ne_run ?_ bad
    rw [hu]
    exact (s.axCond_cases _).resolve_left h
  refine ⟨_, ?_, _, State.bloop_setLoop_same _ _ _, fun h => haxis h _ ?_ _⟩
  all_goals rw [State.bloop_setLoop_same]

/-- A loop that is not in RUN leaves the time of its last sample. -/
theorem State.LTIME_loopSent {s : State} {n : Nat} (hn : n < 64) (h : (s.bloop n).state ≠ lpRUN) (dscale : Nat) :
    (s.loopSent n dscale).reg (R.BRD_LTIME n) = s.reg (R.BRD_LTIME n) := by
  have hapart : R.BRD_LTIME n ≠ R.BRD_LSTAT n ∧ R.BRD_LTIME n ≠ R.BRD_STAT ∧ R.BRD_LTIME n ≠ R.RNG_INT_PEND (185 / 32) := by
    simp only [R.BRD_LTIME, R.BRD_LSTAT, R.BRD_STAT, R.RNG_INT_PEND]
    omega
  obtain ⟨hlstat, hstat, hpend⟩ := hapart
  have hflag (u : State) : (u.loopFlag n F.BRD_LSTAT_CONFLICT F.BRD_STAT_CONFLICT).reg (R.BRD_LTIME n) = u.reg (R.BRD_LTIME n) := by
    rw [State.loopFlag, State.raiseBoth, State.reg_raiseFlag_ne _ _ _ _ hstat hpend, State.reg_setFld_ne _ _ _ _ hlstat]
  have hreg : Undriven (fun u => u.reg (R.BRD_LTIME n)) := by
    refine undriven_reg ?_ ?_ <;> simp only [R.BRD_CTL, R.BRD_LTIME, R.SOL_CTL] <;> omega
  rw [State.loopSent, State.oscCount_of_ne_run h]
  split
  · rfl
  · refine hreg.destSend _ (fun _ _ _ => rfl) (fun hk => absurd hk (by omega)) fun _ u => ?_
    rw [Nat.add_sub_cancel_left]
    exact hflag u

theorem loopSample_enters (s : State) (n : Fin 64) (j : LJob) (hown : bGen (s.entry 6 n) = false ∨ s.alone n) (hlate : s.loopLate n = false)
    (hdue : s.loopDue n = some j) (henter : j.enter) :
    Gives (exec (.loopSample n) s) (fun t => (t.bloop n).lastAt = (s.bloop n).lastAt ∧ (t.bloop n).state ≠ lpRUN ∧
      t.reg (R.BRD_LTIME n) = s.reg (R.BRD_LTIME n) ∧ t.mem = s.mem) := by
  obtain ⟨x, hx, hjob⟩ := s.loopJob_eq n j
  obtain ⟨y, hlastAt, st, hy, hst⟩ := (s.loopDequeued n j).bloop_loopEnter n
  have hcompute : (s.loopDequeued n j).loopCompute n j = (s.loopDequeued n j).loopEnter n := if_pos henter
  have haxis := State.axCond_of_enter hdue henter
  rw [← State.axCond_loopDequeued s n j] at haxis
  have hne : st ≠ lpRUN := hst haxis
  rw [hcompute] at hx hjob
  have hxy : x = { (s.loopDequeued n j).loopEnter n |>.bloop n with losing := false } := by
    refine hx.resolve_right fun hrun => hne ?_
    rw [← hrun.1, hy]
    rfl
  have hxstate : x.state = st := by rw [hxy, hy]; rfl
  have hxlastAt : x.lastAt = (s.bloop n).lastAt := by
    rw [hxy, hy, ← (s.bloop_loopDequeued n j).2 henter, ← hlastAt]
    rfl
  have houtcome : ((s.loopJob n j).bloop n).outcome = x.outcome := by
    rw [hjob, State.bloop_brdBusy, State.bloop_loopShow, undetected_outcome.loopSent, State.bloop_setLoop_same]
  simp only [BLoop.outcome, Prod.mk.injEq] at houtcome
  obtain ⟨htlastAt, -, htstate, -, -⟩ := houtcome
  refine ⟨s.loopJob n j, exec_loopSample_of_due hown hlate hdue, htlastAt.trans hxlastAt, ?_, ?_, (besideLoop_mem n).loopJob s j⟩
  · rwa [htstate, hxstate]
  · obtain ⟨-, -, hltime⟩ := BRD_LOAD_lt n
    have hrun : ((((s.loopDequeued n j).loopEnter n).setLoop n x).bloop n).state ≠ lpRUN := by rwa [State.bloop_setLoop_same, hxstate]
    rw [hjob, State.reg_brdBusy _ hltime, (State.loopShow_enter_within _ n henter).onlyRegs _ fun h => absurd (mem_loopRegs h).2 (lt_irrefl _),
      State.LTIME_loopSent n.isLt hrun, State.loopEnter, State.reg_setLoop, State.reg_setLoop, State.reg_setLoop, State.loopDequeued,
      State.reg_setLoop]

/-! ### A sample that comes too late (R184) -/

/-- A sample of loop m is dropped and flagged. -/
def State.loopOverrun (s : State) (m next : Nat) (dues : List LDue) : State :=
  (s.setLoop m { s.bloop m with nextAt := next, dues := dues }).loopFlag m F.BRD_LSTAT_OVERRUN F.BRD_STAT_OVERRUN

/-- The samples of loops dropped and counted once. -/
def State.loopsOverrun (s : State) (ms : List Nat) (rest : Nat × List LDue) : State :=
  (ms.foldl (fun s m => s.loopOverrun m rest.1 rest.2) s).bump F.BRD_OVRCNT_COUNT

theorem State.loopDrop_eq (s : State) (n : Nat) (ms : List Nat) : s.loopDrop n ms = s.loopsOverrun ms (s.loopRest n) := by
  unfold State.loopDrop
  generalize s.loopRest n = rest
  rfl

theorem State.loopsOverrun_single (s : State) (n : Nat) (rest : Nat × List LDue) :
    s.loopsOverrun [n] rest = (s.loopOverrun n rest.1 rest.2).bump F.BRD_OVRCNT_COUNT := by
  rw [State.loopsOverrun, List.foldl_cons, List.foldl_nil]

theorem BesideLoop.loopOverrun {α : Type} {n : Nat} {p : State → α} (hp : BesideLoop n p) (s : State) (next : Nat) (dues : List LDue) :
    p (s.loopOverrun n next dues) = p s := by
  rw [State.loopOverrun, hp.loopFlag, hp.setLoop]

theorem loopSample_drops (s : State) (n : Fin 64) (hown : bGen (s.entry 6 n) = false ∨ s.alone n) (hlate : s.loopLate n) :
    Gives (exec (.loopSample n) s) (fun t => (t.bloop n).lastAt = (s.bloop n).lastAt ∧ (t.bloop n).last = (s.bloop n).last ∧
      t.flag (F.BRD_LSTAT_OVERRUN n) ∧ t.flag F.BRD_STAT_OVERRUN ∧ (∀ m, m ≠ n.val → t.bloop m = s.bloop m) ∧ t.mem = s.mem) := by
  have hexec : exec (.loopSample n) s = execLoopSample n s := by rfl
  have hmember : ¬ (bGen (s.entry 6 n) = true ∧ (!s.alone n) = true) := by
    rcases hown with h | h <;> simp [h]
  have hdrop := (s.loopDrop_eq n [n.val]).trans (s.loopsOverrun_single n _)
  generalize (s.loopRest n).1 = next, (s.loopRest n).2 = dues at hdrop
  have hloop : (s.loopOverrun n next dues).bloop n = { s.bloop n with nextAt := next, dues := dues } := by
    rw [State.loopOverrun, State.bloop_loopFlag, State.bloop_setLoop_same]
  have hcount {f : Fld} (h : f.addr ≠ R.BRD_OVRCNT) :
      ((s.loopOverrun n next dues).bump F.BRD_OVRCNT_COUNT).flag f = (s.loopOverrun n next dues).flag f :=
    State.flag_congr (State.fld_setFld_ne _ _ _ h _)
  refine ⟨(s.loopOverrun n next dues).bump F.BRD_OVRCNT_COUNT, ?_, ?_, ?_, ?_, ?_, fun m hm => ?_, ?_⟩
  · simp only [hexec, execLoopSample, if_neg hmember, hlate, if_true, hdrop]
  · rw [State.bloop_bump, hloop]
  · rw [State.bloop_bump, hloop]
  · rw [hcount (by simp [F.BRD_LSTAT_OVERRUN, R.BRD_LSTAT, R.BRD_OVRCNT]; omega)]
    refine (State.flag_congr (State.fld_congr (State.reg_raiseFlag_ne _ _ _ _ ?_ ?_))).trans (State.flag_setFld_one _ _ ?_)
    · simp [F.BRD_LSTAT_OVERRUN, F.BRD_STAT_OVERRUN, R.BRD_LSTAT, R.BRD_STAT]; omega
    · simp [F.BRD_LSTAT_OVERRUN, R.BRD_LSTAT, R.RNG_INT_PEND]; omega
    · simp [F.BRD_LSTAT_OVERRUN, Fld.Ok]
  · rw [hcount (by decide)]
    exact State.flag_raiseFlag _ _ (by decide) _ (by decide)
  · rw [State.bloop_bump, (besideLoop_bloop hm).loopOverrun]
  · rw [State.bump_mem, (besideLoop_mem n).loopOverrun]

end Sys2Proof.Machine
end

section
/-! Bridle: GROUP_SAMPLE, one instant for every member of a group and the member that wins (R194, R195). -/

namespace Sys2Proof.Machine

/-! ### What a fold does for every one of its list -/

/-- What each step establishes of its own and keeps of the others holds of every one of the list. -/
theorem State.foldl_forall {β : Type} {f : State → β → State} {P : β → State → Prop} (hown : ∀ u x, P x (f u x))
    (hother : ∀ u x y, y ≠ x → P y u → P y (f u x)) (l : List β) (s : State) : ∀ x ∈ l, P x (l.foldl f s) := by
  have hkeep (x : β) (l : List β) (u : State) (hu : P x u) : P x (l.foldl f u) := by
    refine List.foldlRecOn (motive := P x) l f hu fun u hu y _ => ?_
    by_cases hxy : x = y
    · exact hxy ▸ hown u x
    · exact hother u y x hxy hu
  induction l generalizing s with
  | nil => exact fun _ h => absurd h List.not_mem_nil
  | cons a l ih =>
    intro x hx
    rcases List.mem_cons.mp hx with rfl | hx
    · exact hkeep x l _ (hown s x)
    · exact ih (f s a) x hx

/-! ### The lowest output -/

theorem fLt_trans {a b c : Nat} (hab : fLt a b) (hbc : fLt b c) : fLt a c := by
  simp only [fLt, Bool.and_eq_true, decide_eq_true_eq] at *
  obtain ⟨⟨ha, -⟩, hab⟩ := hab
  obtain ⟨⟨-, hc⟩, hbc⟩ := hbc
  exact ⟨⟨ha, hc⟩, hab.trans hbc⟩

/-- Below a value that is no NaN, one of two that are ordered. -/
theorem fLt_or_fLt {a b c : Nat} (hb : fNan b = false) (hac : fLt a c) : fLt a b ∨ fLt b c := by
  simp only [fLt, Bool.and_eq_true, Bool.not_eq_true', decide_eq_true_eq] at *
  obtain ⟨⟨ha, hc⟩, hac⟩ := hac
  rcases lt_or_ge (fKey a) (fKey b) with h | h
  · exact .inl ⟨⟨ha, hb⟩, h⟩
  · exact .inr ⟨⟨hb, hc⟩, h.trans_lt hac⟩

theorem fLt_nan_right {a b : Nat} (hb : fNan b = true) : fLt a b = false := by
  simp [fLt, hb]

/-- A NaN stays the winner. -/
theorem State.gwinner_of_nan {s : State} {w : Nat} (h : fNan (s.bloop w).u = true) (l : List Nat) : s.gwinner l w = w := by
  induction l with
  | nil => rfl
  | cons m l ih => rw [State.gwinner, fLt_nan_right h, if_neg Bool.false_ne_true, ih]

theorem State.gwinner_mem (s : State) (l : List Nat) (w : Nat) : s.gwinner l w ∈ w :: l := by
  induction l generalizing w with
  | nil => exact List.mem_singleton_self w
  | cons m l ih =>
    rw [State.gwinner]
    refine List.mem_cons.mpr ?_
    split
    · exact .inr (ih m)
    · exact (List.mem_cons.mp (ih w)).imp_right (List.mem_cons_of_mem m)

/-- No loop has a lower output than the winner (R194). -/
theorem State.gwinner_lowest (s : State) (l : List Nat) (w : Nat) :
    ∀ k ∈ w :: l, fLt (s.bloop k).u (s.bloop (s.gwinner l w)).u = false := by
  induction l generalizing w with
  | nil =>
    intro k hk
    rw [List.mem_singleton.mp hk]
    simp [State.gwinner, fLt]
  | cons m l ih =>
    have hstep : s.gwinner (m :: l) w = s.gwinner l (if fLt (s.bloop m).u (s.bloop w).u then m else w) := rfl
    have hboth : fLt (s.bloop w).u (s.bloop (s.gwinner (m :: l) w)).u = false ∧
        fLt (s.bloop m).u (s.bloop (s.gwinner (m :: l) w)).u = false := by
      by_cases hnan : fNan (s.bloop w).u = true
      · rw [State.gwinner_of_nan hnan]
        exact ⟨fLt_nan_right hnan, fLt_nan_right hnan⟩
      · rw [hstep]
        split
        next hlt =>
          have hm := ih m m List.mem_cons_self
          exact ⟨Bool.eq_false_iff.mpr fun h => Bool.eq_false_iff.mp hm (fLt_trans hlt h), hm⟩
        next hlt =>
          have hw := ih w w List.mem_cons_self
          refine ⟨hw, Bool.eq_false_iff.mpr fun h => ?_⟩
          exact (fLt_or_fLt (Bool.eq_false_iff.mpr hnan) h).elim hlt (Bool.eq_false_iff.mp hw)
    intro k hk
    rcases List.mem_cons.mp hk with rfl | hk
    · exact hboth.1
    · rcases List.mem_cons.mp hk with rfl | hk
      · exact hboth.2
      · rw [hstep]
        exact ih _ k (List.mem_cons_of_mem _ hk)

/-! ### The steps of a group's job -/

/-- Loop m takes the place of its group in what is due. -/
def State.memberDequeued (s : State) (m : Nat) (rest : Nat × List LDue) (j : LJob) : State :=
  s.setLoop m (if j.enter then s.bloop m else { s.bloop m with nextAt := rest.1, dues := rest.2 })

/-- Every member has its output. -/
def State.groupComputed (s : State) (ms : List Nat) (rest : Nat × List LDue) (j : LJob) : State :=
  ms.foldl (fun s m => (s.memberDequeued m rest j).loopCompute m j) s

/-- Every member but the winner loses. -/
def State.groupJudged (s : State) (ms : List Nat) (w : Nat) : State :=
  ms.foldl (fun s m => s.setLoop m { s.bloop m with losing := decide (m ≠ w) }) s

/-- The winner, as limited in a direction, is counted. -/
def State.groupCounted (s : State) (w : Nat) (d : Int) : State := (s.setLoop w ((s.bloop w).slew d)).oscCount w

/-- The group shows its winner and the value v that it sends. -/
def State.groupShown (s : State) (g w v : Nat) (sent : List (Nat × Option (Nat × Nat))) : State :=
  (({ s with brd := { s.brd with gsent := sent } } : State).setReg (R.BRD_GOUT g) (w32 v)).setFld (F.BRD_GSTAT_WINNER g) w

/-- Every member is shown. -/
def State.membersShown (s : State) (ms : List Nat) (j : LJob) : State := (ms.foldl (fun s m => s.loopShow m j) s).brdBusy

/-- The winner of the members once they have their outputs. -/
def State.groupWinner (s : State) (m : Nat) (l : List Nat) (j : LJob) : Nat :=
  (s.groupComputed (m :: l) (s.loopRest m) j).gwinner (m :: l) m

/-- The members computed and judged. -/
def State.groupTaken (s : State) (m : Nat) (l : List Nat) (j : LJob) : State :=
  (s.groupComputed (m :: l) (s.loopRest m) j).groupJudged (m :: l) (s.groupWinner m l j)

theorem State.groupWinner_mem (s : State) (m : Nat) (l : List Nat) (j : LJob) : s.groupWinner m l j ∈ m :: l := by
  rw [State.groupWinner]
  rcases List.mem_cons.mp (State.gwinner_mem _ (m :: l) m) with h | h
  · rw [h]
    exact List.mem_cons_self
  · exact h

theorem State.groupJob_eq {s : State} {g m : Nat} {l : List Nat} (h : s.gmembers g = m :: l) (j : LJob) : ∃ d v x sent, s.groupJob g j =
    ((((s.groupTaken m l j).groupCounted (s.groupWinner m l j) d).groupShown g (s.groupWinner m l j) v sent).destSend g x).membersShown
      (m :: l) j := by
  unfold State.groupJob State.groupTaken State.groupWinner
  simp only [h]
  generalize s.loopRest m = rest
  exact ⟨_, _, _, _, rfl⟩

/-! ### What a group's job leaves -/

section Unsampled
variable {α : Type} {p : State → α} (hp : Unsampled p)
include hp

theorem Unsampled.membersShown (s : State) (ms : List Nat) (j : LJob) : p (s.membersShown ms j) = p s :=
  (hp.brdBusy _).trans (State.foldl_keeps (fun u m => hp.loopShow u m j) ms s)

theorem Unsampled.groupShown (s : State) (g w v : Nat) (sent : List (Nat × Option (Nat × Nat))) : p (s.groupShown g w v sent) = p s := by
  rw [State.groupShown, hp.setFld, hp.setReg, hp.withSent]

/-- After the winner is counted a group's job changes registers and driver channels only. -/
theorem Unsampled.groupJob {s : State} {g m : Nat} {l : List Nat} (hg : g < 16) (h : s.gmembers g = m :: l) (j : LJob) :
    ∃ d, p (s.groupJob g j) = p ((s.groupTaken m l j).groupCounted (s.groupWinner m l j) d) := by
  obtain ⟨d, v, x, sent, hjob⟩ := State.groupJob_eq h j
  refine ⟨d, ?_⟩
  rw [hjob, hp.membersShown, hp.destSend_group _ hg, hp.groupShown]

end Unsampled

theorem State.groupJob_mem {s : State} {g m : Nat} {l : List Nat} (hg : g < 16) (h : s.gmembers g = m :: l) (j : LJob) :
    (s.groupJob g j).mem = s.mem := by
  obtain ⟨d, hjob⟩ := unsampled_mem.groupJob hg h j
  rw [hjob, State.groupCounted, (besideLoop_mem _).oscCount, State.setLoop_mem, State.groupTaken, State.groupJudged,
    State.foldl_keeps (p := State.mem) fun _ _ => State.setLoop_mem _ _ _, State.groupComputed]
  refine State.foldl_keeps (p := State.mem) (fun u k => ?_) _ s
  rw [(besideLoop_mem k).loopCompute, State.memberDequeued, State.setLoop_mem]

/-- What a loop is to its group after a sample: its instant, whether it loses, its output. -/
def BLoop.standing (x : BLoop) : Option Nat × Bool × Nat := (x.lastAt, x.losing, x.u)

theorem undetected_standing : Undetected BLoop.standing := ⟨fun _ _ _ _ _ => rfl, fun _ _ => rfl, fun _ _ => rfl⟩

theorem BLoop.standing_slew (x : BLoop) (d : Int) : (x.slew d).standing = x.standing := by
  unfold BLoop.slew
  split <;> rfl

theorem State.standing_groupCounted (s : State) (w : Nat) (d : Int) (k : Nat) :
    ((s.groupCounted w d).bloop k).standing = (s.bloop k).standing := by
  rw [State.groupCounted, undetected_standing.oscCount, State.bloop_setLoop_keeps s (BLoop.standing_slew _ d)]

theorem State.lastAt_groupComputed (s : State) (ms : List Nat) (rest : Nat × List LDue) {j : LJob} (h : j.enter = false) :
    ∀ k ∈ ms, ((s.groupComputed ms rest j).bloop k).lastAt = some j.at_ := by
  refine State.foldl_forall (P := fun k u => (u.bloop k).lastAt = some j.at_) (fun u k => ?_) (fun u k y hy hu => ?_) ms s
  · have hsample : (u.memberDequeued k rest j).loopCompute k j = (u.memberDequeued k rest j).loopSample k j := if_neg (by simp [h])
    rw [hsample]
    exact (State.sampled_loopSample _ k j).lastAt
  · rwa [(besideLoop_bloop hy).loopCompute, State.memberDequeued, State.bloop_setLoop_ne _ _ hy]

theorem State.groupJudged_keeps {β : Type} {q : BLoop → β} (hq : ∀ (x : BLoop) b, q { x with losing := b } = q x) (s : State) (ms : List Nat)
    (w k : Nat) : q ((s.groupJudged ms w).bloop k) = q (s.bloop k) :=
  State.foldl_keeps (p := fun u => q (u.bloop k)) (fun u m => u.bloop_setLoop_keeps (hq (u.bloop m) _) k) ms s

theorem State.losing_groupJudged (s : State) (ms : List Nat) (w : Nat) :
    ∀ k ∈ ms, ((s.groupJudged ms w).bloop k).losing = decide (k ≠ w) := by
  refine State.foldl_forall (P := fun k u => (u.bloop k).losing = decide (k ≠ w)) (fun u k => ?_) (fun u k y hy hu => ?_) ms s
  · rw [State.bloop_setLoop_same]
  · rwa [State.bloop_setLoop_ne _ _ hy]

/-- A member's standing after the job: sampled, losing unless it wins, with the output it computed. -/
theorem State.standing_groupJob {s : State} {g m : Nat} {l : List Nat} (hg : g < 16) (h : s.gmembers g = m :: l) {j : LJob}
    (henter : j.enter = false) : ∀ k ∈ m :: l, ((s.groupJob g j).bloop k).standing =
      (some j.at_, decide (k ≠ s.groupWinner m l j), ((s.groupComputed (m :: l) (s.loopRest m) j).bloop k).u) := by
  intro k hk
  obtain ⟨d, hjob⟩ := (unsampled_bloop k).groupJob hg h j
  have hlastAt := s.lastAt_groupComputed (m :: l) (s.loopRest m) henter k hk
  have hlosing := (s.groupComputed (m :: l) (s.loopRest m) j).losing_groupJudged (m :: l) (s.groupWinner m l j) k hk
  rw [hjob, State.standing_groupCounted, State.groupTaken, BLoop.standing, hlosing,
    State.groupJudged_keeps (q := BLoop.lastAt) fun _ _ => rfl, State.groupJudged_keeps (q := BLoop.u) fun _ _ => rfl, hlastAt]

/-! ### The registers of a group and of its members -/

theorem State.lt_of_mem_gmembers {s : State} {g k : Nat} (h : k ∈ s.gmembers g) : k < 64 := by
  have hclaim {n : Nat} (hn : n ∈ s.claimants g) : n < 64 := List.mem_range.mp (List.mem_filter.mp hn).1
  unfold State.gmembers at h
  split at h
  next => cases h
  next n l hl =>
    rw [hl] at hclaim
    rcases List.mem_cons.mp (List.mem_of_mem_take h) with rfl | hk
    · exact hclaim List.mem_cons_self
    · exact hclaim (List.mem_cons_of_mem n (List.mem_filter.mp hk).1)

/-- The registers of the loops lie above those of the groups. -/
theorem State.reg_membersShown (s : State) (ms : List Nat) (j : LJob) {a : Nat} (hlo : R.BRD_LOAD < a) (hhi : a < R.BRD_LSTAT 0) :
    (s.membersShown ms j).reg a = s.reg a := by
  refine (State.reg_brdBusy _ hlo).trans (State.foldl_keeps (p := fun u => u.reg a) (fun u m => ?_) ms s)
  refine (u.loopShow_within m j).onlyRegs a fun h => ?_
  have hge : R.BRD_LSTAT 0 ≤ R.BRD_LSTAT m ∧ R.BRD_LSTAT 0 ≤ R.BRD_LTIME m := by
    simp only [R.BRD_LSTAT, R.BRD_LTIME]
    omega
  rcases List.mem_cons.mp h with rfl | h
  · exact absurd hge.2 (Nat.not_le_of_lt hhi)
  · exact absurd (hge.1.trans (mem_loopRegs h).1) (Nat.not_le_of_lt hhi)

theorem State.LTIME_membersShown (s : State) (ms : List Nat) {j : LJob} (h : j.enter = false) :
    ∀ k ∈ ms, (s.membersShown ms j).reg (R.BRD_LTIME k) = w32 j.at_ := by
  intro k hk
  rw [State.membersShown, State.reg_brdBusy _ (BRD_LOAD_lt k).2.2]
  refine State.foldl_forall (P := fun k u => u.reg (R.BRD_LTIME k) = w32 j.at_) (fun u k => u.LTIME_loopShow k h) (fun u k y hy hu => ?_) ms s
    k hk
  refine ((u.loopShow_within k j).onlyRegs _ fun hmem => ?_).trans hu
  rcases List.mem_cons.mp hmem with heq | hmem
  · simp only [R.BRD_LTIME] at heq
    omega
  · have hbetween := mem_loopRegs hmem
    simp only [R.BRD_LSTAT, R.BRD_LTIME] at hbetween
    omega

theorem State.WINNER_groupShown (s : State) (g v : Nat) {w : Nat} (hw : w < 64) (sent : List (Nat × Option (Nat × Nat))) :
    (s.groupShown g w v sent).fld (F.BRD_GSTAT_WINNER g) = w := by
  rw [State.groupShown, State.fld_setFld_same _ _ (by simp [F.BRD_GSTAT_WINNER, Fld.Ok])]
  exact Nat.mod_eq_of_lt hw

/-- What the group sends leaves its winner. -/
theorem State.WINNER_destSend (s : State) {g : Nat} (hg : g < 16) (v : Nat) :
    (s.destSend g v).fld (F.BRD_GSTAT_WINNER g) = s.fld (F.BRD_GSTAT_WINNER g) := by
  have hdrive : Undriven (fun u => u.fld (F.BRD_GSTAT_WINNER g)) := by
    refine undriven_fld ?_ ?_ <;> simp only [F.BRD_GSTAT_WINNER, R.BRD_GSTAT, R.BRD_CTL, R.SOL_CTL] <;> omega
  have hstat : R.BRD_GSTAT g ≠ R.BRD_STAT ∧ R.BRD_GSTAT g ≠ R.RNG_INT_PEND (185 / 32) := by
    simp only [R.BRD_GSTAT, R.BRD_STAT, R.RNG_INT_PEND]
    omega
  refine hdrive.destSend v (fun _ _ _ => rfl) (fun _ u b => ⟨?_, ?_⟩) fun hk => absurd hk (by omega)
  · refine State.fld_setFld_other u _ _ ?_ ?_ ?_ _ <;> simp [F.BRD_GSTAT_CONFLICT, F.BRD_GSTAT_WINNER, Fld.Ok]
  · exact State.fld_congr (State.reg_raiseFlag_ne _ _ _ _ hstat.1 hstat.2)

theorem State.WINNER_groupJob {s : State} {g m : Nat} {l : List Nat} (hg : g < 16) (h : s.gmembers g = m :: l) (j : LJob) :
    (s.groupJob g j).fld (F.BRD_GSTAT_WINNER g) = s.groupWinner m l j := by
  obtain ⟨d, v, x, sent, hjob⟩ := State.groupJob_eq h j
  have hmem : s.groupWinner m l j ∈ s.gmembers g := h ▸ s.groupWinner_mem m l j
  have hgstat : R.BRD_LOAD < R.BRD_GSTAT g ∧ R.BRD_GSTAT g < R.BRD_LSTAT 0 := by
    simp only [R.BRD_LOAD, R.BRD_GSTAT, R.BRD_LSTAT]
    omega
  rw [hjob, State.fld_congr (State.reg_membersShown _ _ j hgstat.1 hgstat.2), State.WINNER_destSend _ hg,
    State.WINNER_groupShown _ _ _ (State.lt_of_mem_gmembers hmem)]

theorem State.LTIME_groupJob {s : State} {g m : Nat} {l : List Nat} (h : s.gmembers g = m :: l) {j : LJob} (henter : j.enter = false) :
    ∀ k ∈ m :: l, (s.groupJob g j).reg (R.BRD_LTIME k) = w32 j.at_ := by
  obtain ⟨d, v, x, sent, hjob⟩ := State.groupJob_eq h j
  rw [hjob]
  exact State.LTIME_membersShown _ _ henter

theorem groupSample_samples (s : State) (g : Fin 16) (m : Nat) (l : List Nat) (j : LJob) (hmembers : s.gmembers g = m :: l)
    (hlate : s.loopLate m = false) (hdue : s.loopDue m = some j) (henter : j.enter = false) :
    Gives (exec (.groupSample g) s) (fun t => t.fld (F.BRD_GSTAT_WINNER g) ∈ s.gmembers g ∧
      (∀ k ∈ s.gmembers g, (t.bloop k).lastAt = some j.at_ ∧ (t.bloop k).losing = decide (k ≠ t.fld (F.BRD_GSTAT_WINNER g)) ∧
        fLt (t.bloop k).u (t.bloop (t.fld (F.BRD_GSTAT_WINNER g))).u = false ∧ t.reg (R.BRD_LTIME k) = w32 j.at_) ∧ t.mem = s.mem) := by
  have hexec : exec (.groupSample g) s = execGroupSample g s := by rfl
  have hwinner := s.groupWinner_mem m l j
  have hstanding := State.standing_groupJob g.isLt hmembers henter
  simp only [BLoop.standing, Prod.mk.injEq] at hstanding
  refine ⟨s.groupJob g j, ?_, ?_⟩
  · simp only [hexec, execGroupSample, hmembers, hlate, Bool.false_eq_true, if_false, hdue]
  · beta_reduce
    rw [State.WINNER_groupJob g.isLt hmembers j, hmembers]
    refine ⟨hwinner, fun k hk => ?_, State.groupJob_mem g.isLt hmembers j⟩
    obtain ⟨hlastAt, hlosing, hu⟩ := hstanding k hk
    obtain ⟨-, -, huw⟩ := hstanding _ hwinner
    refine ⟨hlastAt, hlosing, ?_, State.LTIME_groupJob hmembers henter k hk⟩
    rw [hu, huw]
    exact State.gwinner_lowest _ _ _ k (List.mem_cons_of_mem m hk)

end Sys2Proof.Machine
end

section
/-! Bridle: COEF_APPLY, and what bringing loops, groups and destinations in line leaves (R188, R191, R194, R199). -/

namespace Sys2Proof.Machine

/-! ### Loops, groups and destinations in line with their entries -/

theorem Undriven.destNames {α : Type} {p : State → α} (hp : Undriven p) (s : State) : p s.destNames = p s := by
  unfold State.destNames
  extract_lets ds named
  refine (State.foldl_keeps (p := p) (fun u n => ?_) _ named).trans (State.foldl_keeps (p := p) (fun u n => ?_) _ s)
  · rw [apply_ite p, hp.lswName, ite_self]
  · rw [apply_ite p, hp.solName, ite_self]

/-- What starting, stopping and flagging a loop and counting a group leave, bringing all in line leaves. -/
theorem Undriven.brdConfig {α : Type} {p : State → α} (hp : Undriven p) (hstart : ∀ u n, p (State.loopStart u n) = p u)
    (hstop : ∀ u n, p (State.loopStop u n) = p u)
    (hflag : ∀ u n, p (State.loopFlag u n F.BRD_LSTAT_GRP_ERR F.BRD_STAT_GRP_ERR) = p u)
    (hgroup : ∀ u g k b, p (((u : State).setFld (F.BRD_GSTAT_NMEM g) k).setBit (F.BRD_GSTAT_ACTIVE g) b) = p u) (s : State) :
    p s.brdConfig = p s := by
  unfold State.brdConfig
  extract_lets started flagged counted
  have hstarted : p started = p s := by
    refine State.foldl_keeps (p := p) (fun u n => ?_) _ s
    rw [apply_ite p, hstart, apply_ite p, hstop, ite_self, ite_self]
  have hflagged : p flagged = p started := by
    refine State.foldl_keeps (p := p) (fun u n => ?_) _ started
    rw [apply_ite p, hflag, ite_self]
  have hcounted : p counted = p flagged := State.foldl_keeps (p := p) (fun u g => hgroup u g _ _) _ flagged
  rw [hp.destNames, hcounted, hflagged, hstarted]

theorem Unsampled.brdConfig {α : Type} {p : State → α} (hp : Unsampled p) (hstart : ∀ u n, p (State.loopStart u n) = p u)
    (hstop : ∀ (u : State) n, p (u.setLoop n { u.bloop n with on := false, state := 0 }) = p u) (s : State) : p s.brdConfig = p s :=
  hp.undriven.brdConfig hstart (fun u n => (hp.setFld _ _ _).trans (hstop u n)) (fun u n => hp.loopFlag u n _ _)
    (fun u _ _ _ => (hp.setBit _ _ _).trans (hp.setFld u _ _)) s

theorem State.brdConfig_mem (s : State) : s.brdConfig.mem = s.mem :=
  unsampled_mem.brdConfig (fun u n => u.setLoop_mem n _) (fun u n => u.setLoop_mem n _) s

/-- A pending promotion, and whether the coefficients were applied, stand through a start and a stop (R191, R199). -/
theorem State.applied_brdConfig (s : State) (k : Nat) :
    (s.brdConfig.bloop k).apply_ = (s.bloop k).apply_ ∧ (s.brdConfig.bloop k).armed = (s.bloop k).armed := by
  have hkeeps {q : BLoop → Bool} (hstart : ∀ (u : State) n, q ((u.loopStart n).bloop n) = q (u.bloop n))
      (hstop : ∀ x : BLoop, q { x with on := false, state := 0 } = q x) : q (s.brdConfig.bloop k) = q (s.bloop k) := by
    refine ((unsampled_bloop k).comp q).brdConfig (fun u n => ?_) (fun u n => u.bloop_setLoop_keeps (hstop _) k) s
    have hown := hstart u n
    rw [State.loopStart, State.bloop_setLoop_same] at hown
    exact u.bloop_setLoop_keeps hown k
  constructor
  · exact hkeeps (q := BLoop.apply_) (fun u n => by rw [State.loopStart, State.bloop_setLoop_same]) fun _ => rfl
  · exact hkeeps (q := BLoop.armed) (fun u n => by rw [State.loopStart, State.bloop_setLoop_same]) fun _ => rfl

theorem State.SHDIRTY_brdConfig (s : State) {k : Nat} (hk : k < 64) :
    s.brdConfig.fld (F.BRD_LSTAT_SHDIRTY k) = s.fld (F.BRD_LSTAT_SHDIRTY k) := by
  have hdrive : Undriven (fun u => u.fld (F.BRD_LSTAT_SHDIRTY k)) := by
    refine undriven_fld ?_ ?_ <;> simp only [F.BRD_LSTAT_SHDIRTY, R.BRD_LSTAT, R.BRD_CTL, R.SOL_CTL] <;> omega
  have hapart : R.BRD_LSTAT k ≠ R.BRD_STAT ∧ R.BRD_LSTAT k ≠ R.RNG_INT_PEND (185 / 32) := by
    simp only [R.BRD_LSTAT, R.BRD_STAT, R.RNG_INT_PEND]
    omega
  have hkeep (u : State) {f : Fld} (v : Nat) (hf : f.Ok) (h : f.hi < 15 ∨ 15 < f.lo) :
      (u.setFld f v).fld (F.BRD_LSTAT_SHDIRTY k) = u.fld (F.BRD_LSTAT_SHDIRTY k) :=
    State.fld_setFld_other u f _ hf (by simp [F.BRD_LSTAT_SHDIRTY]) h v
  refine hdrive.brdConfig (fun _ _ => rfl) (fun u n => ?_) (fun u n => ?_) (fun u g m b => ?_) s
  · exact hkeep _ 0 (by simp [F.BRD_LSTAT_STATE, Fld.Ok]) (.inl (by simp [F.BRD_LSTAT_STATE]))
  · refine (State.fld_congr (State.reg_raiseFlag_ne _ _ _ _ hapart.1 hapart.2)).trans ?_
    exact hkeep u 1 (by simp [F.BRD_LSTAT_GRP_ERR, Fld.Ok]) (.inr (by simp [F.BRD_LSTAT_GRP_ERR]))
  · rw [State.setBit, hkeep _ _ (by simp [F.BRD_GSTAT_ACTIVE, Fld.Ok]) (.inl (by simp [F.BRD_GSTAT_ACTIVE])),
      hkeep _ _ (by simp [F.BRD_GSTAT_NMEM, Fld.Ok]) (.inr (by simp [F.BRD_GSTAT_NMEM]))]

/-! ### COEF_APPLY (R191) -/

/-- The promotion of loop n made pending. -/
def State.applyShadow (s : State) (n : Nat) : State :=
  (s.setLoop n { s.bloop n with apply_ := true, armed := true }).setFld (F.BRD_LSTAT_SHDIRTY n) 1

/-- A promotion of loop n is pending, is shown, and lets the loop run. -/
structure State.Applied (s : State) (n : Nat) : Prop where
  apply_ : (s.bloop n).apply_
  armed : (s.bloop n).armed
  dirty : s.flag (F.BRD_LSTAT_SHDIRTY n)

theorem State.applied_applyShadow (s : State) (n : Nat) : (s.applyShadow n).Applied n := by
  have hloop : (s.applyShadow n).bloop n = { s.bloop n with apply_ := true, armed := true } := by
    rw [State.applyShadow, State.bloop_setFld, State.bloop_setLoop_same]
  exact ⟨by rw [hloop], by rw [hloop], State.flag_setFld_one _ _ (by simp [F.BRD_LSTAT_SHDIRTY, Fld.Ok])⟩

theorem State.Applied.applyShadow {s : State} {n m : Nat} (h : s.Applied n) (hne : n ≠ m) : (s.applyShadow m).Applied n := by
  have hloop : (s.applyShadow m).bloop n = s.bloop n := by
    rw [State.applyShadow, State.bloop_setFld, State.bloop_setLoop_ne _ _ hne]
  have haddr : R.BRD_LSTAT n ≠ R.BRD_LSTAT m := by
    simp only [R.BRD_LSTAT]
    omega
  have hdirty : (s.applyShadow m).flag (F.BRD_LSTAT_SHDIRTY n) = s.flag (F.BRD_LSTAT_SHDIRTY n) :=
    State.flag_congr ((State.fld_setFld_ne _ _ _ haddr _).trans (State.fld_congr (State.reg_setLoop s m _ _)))
  obtain ⟨happly, harmed, hflag⟩ := h
  exact ⟨hloop ▸ happly, hloop ▸ harmed, hdirty ▸ hflag⟩

theorem State.Applied.brdConfig {s : State} {n : Nat} (hn : n < 64) (h : s.Applied n) : s.brdConfig.Applied n := by
  obtain ⟨happly, harmed⟩ := s.applied_brdConfig n
  exact ⟨happly ▸ h.apply_, harmed ▸ h.armed, (State.flag_congr (s.SHDIRTY_brdConfig hn)).trans h.dirty⟩

theorem State.applyShadows_eq (s : State) (base : Nat) (w : Word) : s.applyShadows base w =
    ((List.range 32).foldl (fun s k => if w.toNat / 2 ^ k % 2 = 1 then s.applyShadow (base + k) else s) s).brdConfig := rfl

theorem State.applied_applyShadows (s : State) {base : Nat} (hbase : base ≤ 32) (w : Word) {k : Nat} (hk : k < 32)
    (hbit : w.toNat / 2 ^ k % 2 = 1) : (s.applyShadows base w).Applied (base + k) := by
  rw [State.applyShadows_eq]
  refine State.Applied.brdConfig (by omega) ?_
  refine State.foldl_forall (P := fun k u => w.toNat / 2 ^ k % 2 = 1 → u.Applied (base + k)) (fun u k hbit => ?_)
    (fun u k y hy hu hbit => ?_) _ s k (List.mem_range.mpr hk) hbit
  · rw [if_pos hbit]
    exact u.applied_applyShadow (base + k)
  · split
    · exact (hu hbit).applyShadow (by omega)
    · exact hu hbit

theorem State.applyShadows_mem (s : State) (base : Nat) (w : Word) : (s.applyShadows base w).mem = s.mem := by
  rw [State.applyShadows_eq, State.brdConfig_mem]
  refine State.foldl_keeps (p := State.mem) (fun u k => ?_) _ s
  rw [apply_ite State.mem, State.applyShadow, State.setFld_mem, State.setLoop_mem, ite_self]

theorem State.ifOwn_of_own {s : State} (h : s.mirrorOnly = false) (k : State → State) : s.ifOwn k = k s := by
  rw [State.ifOwn, h, if_neg Bool.false_ne_true]

theorem coefApply_applies (s : State) (acc : Acc) (hi : Bool) (v : Word) (h : s.takesWrite acc (if hi then R.BRD_APPLY_HI else R.BRD_APPLY_LO))
    (hown : s.mirrorOnly = false) :
    Gives (exec (.coefApply acc hi v) s) (fun t => (∀ k < 32, v.toNat / 2 ^ k % 2 = 1 →
      (t.bloop ((if hi then 32 else 0) + k)).apply_ ∧ (t.bloop ((if hi then 32 else 0) + k)).armed ∧
      t.flag (F.BRD_LSTAT_SHDIRTY ((if hi then 32 else 0) + k))) ∧ t.mem = s.mem) := by
  have hexec : exec (.coefApply acc hi v) s = execCoefApply acc hi v s := by rfl
  have hbase : (if hi then 32 else 0) ≤ 32 := by split <;> omega
  refine ⟨s.applyShadows (if hi then 32 else 0) v, ?_, fun k hk hbit => ?_, s.applyShadows_mem _ v⟩
  · rw [hexec, execCoefApply, State.guardWrite_of_takesWrite s acc _ _ h, State.ifOwn_of_own hown]
  · obtain ⟨happly, harmed, hdirty⟩ := s.applied_applyShadows hbase v hk hbit
    exact ⟨happly, harmed, hdirty⟩

end Sys2Proof.Machine
end

section
/-! Bridle: the release of an oscillation, software values, and the commands that wait for a loop's next sample (R180, R196, R198). -/

namespace Sys2Proof.Machine

/-! ### OSC_RELEASE (R196) -/

/-- A flag that a write clears, or that was clear, is clear after the write. -/
theorem FieldRow.written_of_w1c {f : FieldRow} (hf : f.access = .w1c) (hbit : f.hi = f.lo) {old : Word} (hold : old.getLsbD f.lo = false)
    (locked : Bool) (w : Word) : f.written locked old w = 0 := by
  have hget : f.written locked old w = (⟨0, f.hi, f.lo⟩ : Fld).get (old &&& ~~~w) := by
    simp only [FieldRow.written, hf]
  rw [hget, Fld.get_bit _ hbit, BitVec.getLsbD_and, hold, Bool.false_and, Bool.toNat_false]

/-- A write of the status register of loop n leaves its OSC clear where it was clear. -/
theorem State.OSC_writePlain (s : State) (n : Fin 64) (h : s.flag (F.BRD_LSTAT_OSC n) = false) (w : Word) :
    (s.writePlain (R.BRD_LSTAT n) w).flag (F.BRD_LSTAT_OSC n) = false := by
  have hmem : ∀ n : Fin 64, (⟨16, 16, .w1c, 0, .ctl, .rtx⟩ : FieldRow) ∈ fieldsAt (R.BRD_LSTAT n) := by decide +kernel
  have hold : (s.reg (R.BRD_LSTAT n)).getLsbD 16 = false := by
    have hget : s.fld (F.BRD_LSTAT_OSC n) = ((s.reg (R.BRD_LSTAT n)).getLsbD 16).toNat := Fld.get_bit (F.BRD_LSTAT_OSC n) rfl _
    rw [State.flag, hget] at h
    cases hbit : (s.reg (R.BRD_LSTAT n)).getLsbD 16
    · rfl
    · rw [hbit] at h
      exact absurd h (by decide)
  have hzero := FieldRow.written_of_w1c (f := ⟨16, 16, .w1c, 0, .ctl, .rtx⟩) rfl rfl hold (s.locked (R.BRD_LSTAT n)) w
  have hfld : (s.writePlain (R.BRD_LSTAT n) w).fld (F.BRD_LSTAT_OSC n) = 0 :=
    (State.fld_setReg_same s (F.BRD_LSTAT_OSC n) _).trans ((Fld.get_writtenWord _ _ _ (hmem n) _ _ _).trans hzero)
  rw [State.flag, hfld]
  rfl

theorem oscRelease_releases (s : State) (acc : Acc) (n : Fin 64) (h : s.takesWrite acc (R.BRD_LSTAT n)) :
    Gives (exec (.oscRelease acc n) s) (fun t => t.flag (F.BRD_LSTAT_OSC n) = false ∧ t.fld (F.BRD_LOSC_COUNT n) = 0 ∧
      t.bloop n = { s.bloop n with revs := [], sign := 0, wide := false, cnt := 0, xfer := (s.bloop n).xfer || s.flag (F.BRD_LSTAT_OSC n) } ∧
      (∀ a, a ≠ R.BRD_LSTAT n → a ≠ R.BRD_LOSC n → t.reg a = s.reg a) ∧ t.mem = s.mem) := by
  have hexec : exec (.oscRelease acc n) s = execOscRelease acc n s := by rfl
  have hone : (F.BRD_LSTAT_OSC n).get ((F.BRD_LSTAT_OSC n).put 0 1) = 1 := Fld.get_put_same _ (by simp [F.BRD_LSTAT_OSC, Fld.Ok]) 0 1
  have hapart : R.BRD_LSTAT n ≠ R.BRD_LOSC n := by simp [R.BRD_LSTAT, R.BRD_LOSC]
  have hosc : (s.oscRelease n).flag (F.BRD_LSTAT_OSC n) = false := by
    rw [State.oscRelease, State.flag_congr (State.fld_setFld_ne _ _ _ hapart _)]
    exact State.flag_setFld_zero _ _ (by simp [F.BRD_LSTAT_OSC, Fld.Ok])
  refine ⟨(s.oscRelease n).writePlain (R.BRD_LSTAT n) ((F.BRD_LSTAT_OSC n).put 0 1), ?_, ?_, ?_, ?_, fun a hstat hcount => ?_, ?_⟩
  · rw [hexec, execOscRelease, State.guardWrite_of_takesWrite s acc _ _ h, State.writeLstat, if_pos hone]
  · exact State.OSC_writePlain _ n hosc _
  · rw [State.writePlain, State.fld_setReg_ne _ _ _ _ hapart.symm, State.oscRelease]
    exact State.fld_setFld_same _ _ (by simp [F.BRD_LOSC_COUNT, Fld.Ok]) 0
  · simp only [State.writePlain, State.oscRelease, State.bloop_setReg, State.bloop_setFld, State.bloop_setLoop_same]
  · rw [State.writePlain, State.reg_setReg_ne _ _ hstat, State.oscRelease, State.reg_setFld_ne _ _ _ _ hcount,
      State.reg_setFld_ne _ _ _ _ hstat, State.reg_setLoop]
  · rw [State.writePlain_mem, State.oscRelease, State.setFld_mem, State.setFld_mem, State.setLoop_mem]

/-! ### Software values (R180) -/

theorem swValueWrite_freshens (s : State) (acc : Acc) (k : Fin 16) (v : Word) (h : s.takesWrite acc (R.BRD_SWVAL k))
    (hown : s.mirrorOnly = false) :
    Gives (exec (.swValueWrite acc k v) s) (fun t => s.wrote t (R.BRD_SWVAL k) v ∧
      SMap.get (fun _ => none) t.brd.sw k = some (s.now, true) ∧ t.brd.loops = s.brd.loops ∧ t.mem = s.mem) := by
  have hexec : exec (.swValueWrite acc k v) s = execSwValueWrite acc k v s := by rfl
  refine ⟨s.writeSwVal k v, ?_, ⟨State.reg_setReg_same _ _ _, fun a ha => State.reg_setReg_ne s _ ha⟩, ?_, rfl, rfl⟩
  · rw [hexec, execSwValueWrite, State.guardWrite_of_takesWrite s acc _ _ h, State.ifOwn_of_own hown]
  · exact SMap.get_set_same s.brd.sw k.val (some (s.now, true))

theorem swValueTimeout_stales (s : State) (k : Fin 16) (t0 : Nat) (hfresh : SMap.get (fun _ => none) s.brd.sw k.val = some (t0, true))
    (hto : s.fld F.BRD_SWTO_TO ≠ 0) (htime : t0 + 1000000 * s.fld F.BRD_SWTO_TO ≤ s.now) :
    Gives (exec (.swValueTimeout k) s) (fun t => SMap.get (fun _ => none) t.brd.sw k.val = some (t0, false) ∧
      t.brd.loops = s.brd.loops ∧ t.regs = s.regs ∧ t.mem = s.mem) := by
  have hexec : exec (.swValueTimeout k) s = execSwValueTimeout k s := by rfl
  refine ⟨{ s with brd := { s.brd with sw := SMap.set (fun _ => none) s.brd.sw k.val (some (t0, false)) } }, ?_,
    SMap.get_set_same s.brd.sw k.val (some (t0, false)), rfl, rfl, rfl⟩
  simp only [hexec, execSwValueTimeout, hfresh]
  exact if_pos ⟨hto, decide_eq_true htime⟩

/-! ### Commands that wait (R198) -/

theorem unsnapped_bloop (k : Nat) : Unsnapped (fun s => s.bloop k) :=
  ⟨fun _ _ _ _ => rfl, fun _ _ => rfl, fun _ _ => rfl, fun _ _ => rfl, fun _ _ _ => rfl, fun _ _ => rfl⟩

/-- Command q waits for the next sample of each loop of a list. -/
def State.loopsCommanded (s : State) (l : List Nat) (q : Nat × Nat) : State :=
  l.foldl (fun s k => s.setLoop k { s.bloop k with cmds := (s.bloop k).cmds ++ [q] }) s

theorem State.bloop_loopsCommanded (s : State) {l : List Nat} (hl : l.Nodup) (q : Nat × Nat) (k : Nat) :
    (s.loopsCommanded l q).bloop k = if k ∈ l then { s.bloop k with cmds := (s.bloop k).cmds ++ [q] } else s.bloop k := by
  induction l generalizing s with
  | nil => rfl
  | cons m l ih =>
    obtain ⟨hm, hl⟩ := List.nodup_cons.mp hl
    refine (ih (s.setLoop m { s.bloop m with cmds := (s.bloop m).cmds ++ [q] }) hl).trans ?_
    by_cases hk : k = m
    · subst hk
      rw [if_neg hm, if_pos List.mem_cons_self, State.bloop_setLoop_same]
    · simp only [State.bloop_setLoop_ne _ _ hk, List.mem_cons, hk, false_or]

theorem State.loopsCommanded_mem (s : State) (l : List Nat) (q : Nat × Nat) : (s.loopsCommanded l q).mem = s.mem :=
  State.foldl_keeps (p := State.mem) (fun u k => u.setLoop_mem k _) l s

theorem State.loopsCommanded_ring (s : State) (l : List Nat) (q : Nat × Nat) (n : Nat) : (s.loopsCommanded l q).ring n = s.ring n := by
  refine State.foldl_keeps (p := fun u => u.ring n) (fun u k => ?_) l s
  rfl

/-- The loops that a mask names. -/
def maskLoops (mask : Nat) : List Nat := (List.range 64).filter (fun k => mask / 2 ^ k % 2 = 1)

theorem nodup_maskLoops (mask : Nat) : (maskLoops mask).Nodup := List.nodup_range.filter _

theorem mem_maskLoops {mask k : Nat} (hk : k < 64) : k ∈ maskLoops mask ↔ mask.testBit k = true := by
  rw [maskLoops, List.mem_filter, and_iff_right (List.mem_range.mpr hk), Nat.testBit_eq_decide_div_mod_eq]

theorem State.runLoopCmd_of_permitted {s : State} {n : Nat} {d : Desc} (hlen : d.len = 8)
    (hread : s.firstDenied (engine 14) .read d.addr 8 = none) (hnan : d.op = 1 → fNan d.arg0 = false) :
    ∃ result, s.runLoopCmd n d =
      ((s.noteAbsent d.addr 8 none).loopsCommanded (maskLoops (leNat (s.bytes d.addr 8))) (d.op, d.arg0)).complete n d.didx stOK result := by
  have hvalid : ¬ (d.op = 1 ∧ fNan d.arg0 = true) := fun h => absurd (hnan h.1) (by simp [h.2])
  simp only [State.runLoopCmd, State.unitRead_of_permitted hread, hlen, if_neg hvalid]
  exact ⟨_, rfl⟩

section
variable {s : State} {n : Fin 64} {d : Desc} {op : Nat}

theorem State.brdCmd_of_starts (h : s.starts n d 4 op) (hown : s.mirrorOnly = false) : s.brdCmd n op = (s.startDesc n d).runLoopCmd n d := by
  obtain ⟨hd, hq, hop⟩ := h
  have hmirror : (s.startDesc n d).mirrorOnly = false := (s.mirrorOnly_startDesc n d).trans hown
  simp [State.brdCmd, State.queueCmd, hd, hq, hop, State.ownDesc, hmirror]

/-- A loop command waits for the next sample of the loops that its mask names and completes OK. -/
theorem brdCmd_commands (h : s.starts n d 4 op) (hown : s.mirrorOnly = false) (hlen : d.len = 8)
    (hread : (s.firstDenied (engine 14) .read d.addr 8).isNone) (hnan : op = 1 → fNan d.arg0 = false) :
    Gives (.next (s.brdCmd n op)) (fun t => (∃ k, t.hasDone n d stOK k) ∧
      (∀ k < 64, t.bloop k = (if (leNat (s.bytes d.addr 8)).testBit k then
        { s.bloop k with cmds := (s.bloop k).cmds ++ [(op, d.arg0)] } else s.bloop k)) ∧ t.mem = s.mem) := by
  have hop : d.op = op := h.2.2
  subst hop
  have hpermitted : (s.startDesc n d).firstDenied (engine 14) .read d.addr 8 = none :=
    (State.startDesc_firstDenied _ _ _ _).trans (Option.isNone_iff_eq_none.mp hread)
  have hbytes : (s.startDesc n d).bytes d.addr 8 = s.bytes d.addr 8 := State.bytes_congr (s.startDesc_mem n d) d.addr 8
  obtain ⟨result, hrun⟩ := State.runLoopCmd_of_permitted (n := n) hlen hpermitted hnan
  rw [State.brdCmd_of_starts h hown, hrun, hbytes]
  refine ⟨_, rfl, ⟨result, State.hasDone_complete (s := s) ?_ stOK result⟩, fun k hk => ?_, ?_⟩
  · rw [State.loopsCommanded_ring, (besideFrame_ring 0 n).noteAbsent]
  · have hkept : ((s.startDesc n d).noteAbsent d.addr 8 none).bloop k = s.bloop k :=
      ((unsnapped_bloop k).noteAbsent _ _ _ _).trans ((unsnapped_bloop k).startDesc s n.isLt d)
    refine (State.bloop_loopsCommanded _ (nodup_maskLoops _) _ k).trans ?_
    simp only [mem_maskLoops hk, hkept]
  · rw [State.complete_mem, State.loopsCommanded_mem, unrecorded_mem.noteAbsent, State.startDesc_mem]

end

theorem loopManual_commands (s : State) (n : Fin 64) (d : Desc) (h : s.starts n d 4 1) (hown : s.mirrorOnly = false) (hlen : d.len = 8)
    (hread : (s.firstDenied (engine 14) .read d.addr 8).isNone) (hnan : fNan d.arg0 = false) :
    Gives (exec (.loopManual n) s) (fun t => (∃ k, t.hasDone n d stOK k) ∧
      (∀ k < 64, t.bloop k = (if (leNat (s.bytes d.addr 8)).testBit k then
        { s.bloop k with cmds := (s.bloop k).cmds ++ [(1, d.arg0)] } else s.bloop k)) ∧ t.mem = s.mem) := by
  have hexec : exec (.loopManual n) s = .next (s.brdCmd n 1) := by rfl
  rw [hexec]
  exact brdCmd_commands h hown hlen hread fun _ => hnan

theorem loopAuto_commands (s : State) (n : Fin 64) (d : Desc) (h : s.starts n d 4 2) (hown : s.mirrorOnly = false) (hlen : d.len = 8)
    (hread : (s.firstDenied (engine 14) .read d.addr 8).isNone) :
    Gives (exec (.loopAuto n) s) (fun t => (∃ k, t.hasDone n d stOK k) ∧
      (∀ k < 64, t.bloop k = (if (leNat (s.bytes d.addr 8)).testBit k then
        { s.bloop k with cmds := (s.bloop k).cmds ++ [(2, d.arg0)] } else s.bloop k)) ∧ t.mem = s.mem) := by
  have hexec : exec (.loopAuto n) s = .next (s.brdCmd n 2) := by rfl
  rw [hexec]
  exact brdCmd_commands h hown hlen hread fun hop => absurd hop (by decide)

theorem intSet_commands (s : State) (n : Fin 64) (d : Desc) (h : s.starts n d 4 3) (hown : s.mirrorOnly = false) (hlen : d.len = 8)
    (hread : (s.firstDenied (engine 14) .read d.addr 8).isNone) :
    Gives (exec (.intSet n) s) (fun t => (∃ k, t.hasDone n d stOK k) ∧
      (∀ k < 64, t.bloop k = (if (leNat (s.bytes d.addr 8)).testBit k then
        { s.bloop k with cmds := (s.bloop k).cmds ++ [(3, d.arg0)] } else s.bloop k)) ∧ t.mem = s.mem) := by
  have hexec : exec (.intSet n) s = .next (s.brdCmd n 3) := by rfl
  rw [hexec]
  exact brdCmd_commands h hown hlen hread fun hop => absurd hop (by decide)

/-- Settles O18: each clause by its own lemma; a sample by the loop it computes, which the slew, the detector and the destination keep,
a group by the fold over its members, the three queue commands by the one they share. That the release of OSC makes a transfer only where
OSC was set, and that an entry of HOLD or FAIL leaves LTIME, is the model's choice (log entry 55). -/
theorem bridleCommandsComplete : Obligations.BridleCommandsComplete :=
  ⟨loopSample_samples, loopSample_enters, loopSample_drops, groupSample_samples, coefApply_applies, oscRelease_releases,
    swValueWrite_freshens, swValueTimeout_stales, loopManual_commands, loopAuto_commands, intSet_commands⟩

end Sys2Proof.Machine
end

section
/-! Solenoid channels: the readings of the state that showing their status, the notes of their waveforms and a change of another channel
do not enter (R205, R208, R211-R219, R224, R225). -/

namespace Sys2Proof.Machine

/-! ### Readings -/

/-- A field of the status of bank k that is derived from its channels (Table 8-11). -/
structure BankNote (k : Nat) (f : Fld) : Prop where
  addr : f.addr = R.SOL_BANKSTAT (k / 8) (k % 8)
  bits : f.lo ≤ f.hi ∧ f.hi < 24

/-- A field of the status of channel n in which its waveforms leave notes: decay mode, band, HELD, the flags from REG_ERR to PRF_ERR
(Table 8-10). -/
structure NoteField (n : Nat) (f : Fld) : Prop where
  addr : f.addr = R.SOL_CHSTAT (n / 32) (n % 32)
  bits : f.lo ≤ f.hi ∧ ((4 ≤ f.lo ∧ f.hi ≤ 7) ∨ (9 ≤ f.lo ∧ f.hi ≤ 9) ∨ (20 ≤ f.lo ∧ f.hi ≤ 27))

theorem bankNote {k hi lo : Nat} (h : lo ≤ hi ∧ hi < 24) : BankNote k ⟨R.SOL_BANKSTAT (k / 8) (k % 8), hi, lo⟩ := ⟨rfl, h⟩

theorem noteField {n hi lo : Nat} (h : lo ≤ hi ∧ ((4 ≤ lo ∧ hi ≤ 7) ∨ (9 ≤ lo ∧ hi ≤ 9) ∨ (20 ≤ lo ∧ hi ≤ 27))) :
    NoteField n ⟨R.SOL_CHSTAT (n / 32) (n % 32), hi, lo⟩ := ⟨rfl, h⟩

theorem fldOk {a hi lo : Nat} (h : lo ≤ hi ∧ hi < 32) : Fld.Ok ⟨a, hi, lo⟩ := h

/-- A register that a channel changes beside its own and its bank's: a flag or counter of its die, or one below the drivers. -/
def isDieNote (b : Nat) : Prop := b < R.SOL_CTL 0 ∨ (4 ≤ b % 0x100000 ∧ b % 0x100000 ≤ 0x10)

theorem isDieNote_pend {irq : Nat} (h : irq < 256) : isDieNote (R.RNG_INT_PEND (irq / 32)) := by
  refine .inl ?_
  simp only [R.RNG_INT_PEND, R.SOL_CTL]
  omega

theorem isDieNote_STAT (d : Nat) : isDieNote (R.SOL_STAT d) := by simp only [isDieNote, R.SOL_STAT]; omega

theorem isDieNote_DEFERCNT (d : Nat) : isDieNote (R.SOL_DEFERCNT d) := by simp only [isDieNote, R.SOL_DEFERCNT]; omega

theorem isDieNote_SKIPCNT (d : Nat) : isDieNote (R.SOL_SKIPCNT d) := by simp only [isDieNote, R.SOL_SKIPCNT]; omega

theorem isDieNote_RCVFCNT (d : Nat) : isDieNote (R.SOL_RCVFCNT d) := by simp only [isDieNote, R.SOL_RCVFCNT]; omega

/-- What a channel has from its sources (Table 8-2), whether it is shed, whether it is a half whose own current still decays. -/
def SCh.source (x : SCh) : Option Nat × Option Nat × Option Nat × Option Nat × Bool × Bool :=
  (x.holder, x.rate, x.dest, x.kept, x.shed, x.parting)

theorem SCh.source_eq_iff {x y : SCh} : x.source = y.source ↔
    x.holder = y.holder ∧ x.rate = y.rate ∧ x.dest = y.dest ∧ x.kept = y.kept ∧ x.shed = y.shed ∧ x.parting = y.parting := by
  simp only [SCh.source, Prod.mk.injEq]

/-- A reading of the state that HELD, the derived status of a bank and the odd half of a pair do not enter: showing a channel leaves it. -/
structure Unshown {α : Type} (p : State → α) : Prop where
  held : ∀ (s : State) (n v : Nat), p (s.setFld (solF F.SOL_CHSTAT_HELD n) v) = p s
  bank : ∀ (s : State) {k : Nat} {f : Fld} (v : Nat), BankNote k f → p (s.setFld f v) = p s
  mirror : ∀ (s : State) {n : Nat}, n % 2 = 0 → p (s.solMirror n) = p s

/-- A reading that the notes of waveforms do not enter either. -/
structure Unnoted {α : Type} (p : State → α) : Prop extends Unshown p where
  note : ∀ (s : State) {n : Nat} {f : Fld} (v : Nat), NoteField n f → p (s.setFld f v) = p s
  die : ∀ (s : State) {b : Nat} (w : Word), isDieNote b → p (s.setReg b w) = p s
  withEvr : ∀ (s : State) (e : Evr), p { s with evr := e } = p s

/-- A reading that the phase and the waveform of channel n do not enter either. -/
structure Unwaved {α : Type} (n : Nat) (p : State → α) : Prop extends Unnoted p where
  phase : ∀ (s : State) (v : Nat), p (s.setFld (solF F.SOL_CHSTAT_PHASE n) v) = p s
  setSch : ∀ (s : State) (x : SCh), x.source = (s.sch n).source → p (s.setSch n x) = p s

/-- A reading that neither the status nor the command of channel n enters. -/
structure BesideChannel {α : Type} (n : Nat) (p : State → α) : Prop extends Unwaved n p where
  stat : ∀ (s : State) {f : Fld} (v : Nat), f.addr = R.SOL_CHSTAT (n / 32) (n % 32) → f.Ok → p (s.setFld f v) = p s
  command : ∀ (s : State) (v : Nat), p (s.setFld (solF F.SOL_CHCMD_CMD n) v) = p s

/-! ### Showing a channel -/

section Unshown
variable {α : Type} {p : State → α} (hp : Unshown p)
include hp

theorem Unshown.bankShow (s : State) (k : Nat) : p (s.bankShow k) = p s := by
  unfold State.bankShow
  extract_lets waiting active feed token
  have htoken : p token = p s :=
    calc p token
      _ = p feed := hp.bank feed _ (bankNote (by decide))
      _ = p active := hp.bank active _ (bankNote (by decide))
      _ = p waiting := hp.bank waiting _ (bankNote (by decide))
      _ = p s := hp.bank s _ (bankNote (by decide))
  split
  · exact (hp.bank token _ (bankNote (by decide))).trans htoken
  · exact htoken

theorem Unshown.solShow (s : State) (n : Nat) : p (s.solShow n) = p s := by
  rw [State.solShow, hp.bankShow, hp.mirror _ (by omega), State.setBit, hp.held]

end Unshown

/-! ### Waveforms -/

section Unnoted
variable {α : Type} {p : State → α} (hp : Unnoted p)
include hp

theorem Unnoted.bump (s : State) {f : Fld} (k : Nat) (hf : isDieNote f.addr) : p (s.bump f k) = p s := hp.die s _ hf

theorem Unnoted.raiseFlag (s : State) {f : Fld} {irq : Nat} (hf : isDieNote f.addr) (h : irq < 256) : p (s.raiseFlag f irq) = p s := by
  rw [State.raiseFlag, apply_ite p, State.pend, hp.die _ _ (isDieNote_pend h), State.setFld, hp.die _ _ hf, ite_self]

theorem Unnoted.event (s : State) (code : Nat) (args : List Word) : p (s.event code args) = p s := by
  unfold State.event
  split
  · exact hp.withEvr s _
  · rw [State.loseEvent, hp.withEvr, hp.raiseFlag _ (.inl (by decide)) (by decide), hp.bump _ _ (.inl (by decide))]

theorem Unnoted.solFlag (s : State) {ch : Nat → Nat → Fld} {unit : Nat → Fld} {n : Nat} (hch : ∀ m, NoteField m (solF ch m))
    (hunit : ∀ d, (unit d).addr = R.SOL_STAT d) (hn : n < 64) : p (s.solFlag ch unit n) = p s := by
  rw [State.solFlag, hp.mirror _ (by omega), State.raiseBoth, hp.raiseFlag _ (hunit _ ▸ (isDieNote_STAT _)) (by omega),
    hp.note _ _ (hch _)]

theorem Unnoted.solRcvFast (s : State) {n : Nat} (hn : n < 64) : p (s.solRcvFast n) = p s := by
  rw [State.solRcvFast, hp.bump _ _ (isDieNote_RCVFCNT _), hp.solFlag _ (fun _ => noteField (by decide)) (fun _ => rfl) hn]

theorem Unnoted.solWakeBank (s : State) {n : Nat} (hn : n < 64) : p (s.solWakeBank n) = p s := by
  refine List.foldlRecOn (motive := fun u => p u = p s) _ _ rfl fun u hu m hm => ?_
  have hfast : p (u.setFld (solF F.SOL_CHSTAT_DECAY m) 1) = p u := hp.note u 1 (noteField (by decide))
  rw [apply_ite p, hp.solShow, hp.solRcvFast _ (State.lt_of_mem_bankMembers hn hm), hfast, ite_self, hu]

theorem Unnoted.solNotReady (s : State) (n : Nat) : p (s.solNotReady n) = p s := by
  have hflag : p (s.setFld (solF F.SOL_CHSTAT_BST_NRDY n) 1) = p s := hp.note s 1 (noteField (by decide))
  rw [State.solNotReady, apply_ite p, hp.solShow, hflag, ite_self]

end Unnoted

section Unwaved
variable {α : Type} {n : Nat} {p : State → α} (hp : Unwaved n p)
include hp

theorem Unwaved.solTo (s : State) (ph : Nat) : p (s.solTo n ph) = p s := by
  rw [State.solTo, hp.solShow]
  exact (hp.setSch (s.setFld (solF F.SOL_CHSTAT_PHASE n) ph) { s.sch n with phaseAt := s.now } rfl).trans (hp.phase s ph)

theorem Unwaved.solFall (s : State) (mode ph : Nat) (hn : n < 64) : p (s.solFall n mode ph) = p s := by
  simp only [State.solFall]
  rw [hp.solTo, apply_ite p, hp.solRcvFast _ hn, ite_self]
  exact hp.note s _ (noteField (by decide))

theorem Unwaved.solOff (s : State) (hn : n < 64) : p (s.solOff n) = p s := by
  simp only [State.solOff, State.solDecay]
  rw [apply_ite p, hp.solTo, apply_ite p, hp.solFall _ _ _ hn, ite_self, ite_self]

theorem Unwaved.solSkip (s : State) (hn : n < 64) : p (s.solSkip n) = p s := by
  rw [State.solSkip, hp.solTo, hp.bump _ _ (isDieNote_SKIPCNT _), hp.solFlag _ (fun _ => noteField (by decide)) (fun _ => rfl) hn]

theorem Unwaved.solStart (s : State) (te : Nat) (hn : n < 64) : p (s.solStart n te) = p s := by
  unfold State.solStart
  extract_lets w _ latched banded checked woken asked
  have hbanded : p banded = p s := (hp.note latched _ (noteField (by decide))).trans (hp.setSch s _ rfl)
  have hwoken : p woken = p s := by
    rw [hp.solWakeBank checked hn, apply_ite p, hp.event, hp.solFlag _ (fun _ => noteField (by decide)) (fun _ => rfl) hn, ite_self,
      hbanded]
  have hasked : p asked = p s := (hp.solNotReady woken n).trans hwoken
  split_ifs
  · rw [hp.solTo, hwoken]
  · rw [State.solGrant, hp.solTo, hwoken]
  · rw [hp.solSkip _ hn, hasked]
  · rw [hp.solTo, hp.bump _ _ (isDieNote_DEFERCNT _), hasked]

theorem Unwaved.solAct (s : State) (on : Bool) (te : Nat) (hn : n < 64) : p (s.solAct n on te) = p s := by
  unfold State.solAct
  split_ifs
  · exact hp.solShow s n
  · exact hp.solStart s te hn
  · exact hp.solShow s n
  · exact hp.solOff s hn

/-- The command of channel n brought up to date, as far as its register and the cut are no part of the reading. -/
theorem Unwaved.solCommand_of_set (s : State) (hcmd : ∀ v, p (s.setFld (solF F.SOL_CHCMD_CMD n) v) = p s) (hn : n < 64) :
    p (s.solCommand n) = p s := by
  simp only [State.solCommand]
  split_ifs
  · rw [hp.solShow, hp.solFlag _ (fun _ => noteField (by decide)) (fun _ => rfl) hn, hcmd]
  · rw [hp.solShow, hcmd]
  · rw [hp.solShow, hcmd]

end Unwaved

section BesideChannel
variable {α : Type} {n : Nat} {p : State → α} (hp : BesideChannel n p)
include hp

theorem BesideChannel.solCommand (s : State) (hn : n < 64) : p (s.solCommand n) = p s :=
  hp.solCommand_of_set s (hp.command s) hn

theorem BesideChannel.cause (s : State) (c : Nat) : p (s.setFld (solF F.SOL_CHSTAT_FCAUSE n) c) = p s :=
  hp.stat s c rfl (fldOk (by decide))

theorem BesideChannel.solEnterFault (s : State) (c : Nat) (hn : n < 64) : p (s.solEnterFault n c) = p s := by
  have hcause : p (s.setFld (solF (solCauseFlag c) n) 1) = p s := by
    unfold solCauseFlag
    split <;> exact hp.stat s 1 rfl (fldOk (by decide))
  simp only [State.solEnterFault]
  rw [hp.solTo, hp.raiseFlag _ (isDieNote_STAT _) (by omega), hp.cause, hcause]

theorem BesideChannel.solFree (s : State) : p (s.solFree n) = p s := by
  rw [State.solFree, hp.solTo, hp.cause]

end BesideChannel

end Sys2Proof.Machine
end

section
/-! Solenoid channels: the readings that a channel's own status, its command, its source and the registers of its die are (R205, R209,
R210, R225). -/

namespace Sys2Proof.Machine

/-! ### What no register holds -/

@[simp] theorem State.sch_setSch_same (s : State) (n : Nat) (x : SCh) : (s.setSch n x).sch n = x := SMap.get_set_same _ _ _

theorem State.sch_setSch_ne (s : State) {n m : Nat} (x : SCh) (h : m ≠ n) : (s.setSch n x).sch m = s.sch m := SMap.get_set_ne _ _ h

theorem Unmoved.solMirror {α : Type} {p : State → α} (hp : Unmoved p) (s : State) (n : Nat) : p (s.solMirror n) = p s := by
  simp only [State.solMirror]
  rw [apply_ite p, hp.setReg, hp.setReg, hp.setReg, hp.setReg, hp.setFld, apply_ite p, hp.setReg, ite_self, ite_self]

theorem Unmoved.unnoted {α : Type} {p : State → α} (hp : Unmoved p) : Unnoted p where
  held s _ _ := hp.setFld s _ _
  bank s _ _ _ _ := hp.setFld s _ _
  mirror s n _ := hp.solMirror s n
  note s _ _ _ _ := hp.setFld s _ _
  die s _ w _ := hp.setReg s _ w
  withEvr := hp.withEvr

theorem Unmoved.beside {α : Type} {n : Nat} {p : State → α} (hp : Unmoved p)
    (hsch : ∀ (s : State) (x : SCh), x.source = (s.sch n).source → p (s.setSch n x) = p s) : BesideChannel n p where
  toUnnoted := hp.unnoted
  phase s _ := hp.setFld s _ _
  setSch := hsch
  stat s _ _ _ _ := hp.setFld s _ _
  command s _ := hp.setFld s _ _

theorem unmoved_sol : Unmoved State.sol := ⟨fun _ _ _ => rfl, fun _ _ => rfl, fun _ _ _ => rfl⟩

theorem unmoved_sch (m : Nat) : Unmoved (fun s => s.sch m) := ⟨fun _ _ _ => rfl, fun _ _ => rfl, fun _ _ _ => rfl⟩

theorem unmoved_solHalf (m : Nat) : Unmoved (fun s => s.solHalf m) := ⟨fun _ _ _ => rfl, fun _ _ => rfl, fun _ _ _ => rfl⟩

theorem beside_sch {n m : Nat} (h : m ≠ n) : BesideChannel n (fun s => s.sch m) :=
  (unmoved_sch m).beside fun s x _ => s.sch_setSch_ne x h

theorem beside_mem (n : Nat) : BesideChannel n State.mem := unmoved_mem.beside fun _ _ _ => rfl

/-- What a channel has from its source is its own, whatever its waveform. -/
theorem State.source_setSch (s : State) {n : Nat} {x : SCh} (h : x.source = (s.sch n).source) (m : Nat) :
    ((s.setSch n x).sch m).source = (s.sch m).source := by
  by_cases hm : m = n
  · rw [hm, s.sch_setSch_same, h]
  · rw [s.sch_setSch_ne x hm]

theorem beside_source (n m : Nat) : BesideChannel n (fun s => (s.sch m).source) :=
  Unmoved.beside ⟨fun _ _ _ => rfl, fun _ _ => rfl, fun _ _ _ => rfl⟩ fun s _ h => s.source_setSch h m

theorem State.solHalf_of_source {s t : State} {m : Nat} (hslave : t.solSlave m = s.solSlave m)
    (h : (t.sch m).source = (s.sch m).source) : t.solHalf m = s.solHalf m := by
  obtain ⟨-, -, -, -, -, hparting⟩ := SCh.source_eq_iff.mp h
  rw [State.solHalf, State.solHalf, hslave, hparting]

theorem beside_solHalf (n m : Nat) : BesideChannel n (fun s => s.solHalf m) :=
  (unmoved_solHalf m).beside fun s _ h => State.solHalf_of_source (by rfl) (s.source_setSch h m)

theorem State.solHalf_of_solSlave {s : State} {n : Nat} (h : s.solSlave n = false) : s.solHalf n = false := by
  rw [State.solHalf, h, Bool.false_and]

/-! ### The odd half of a pair -/

/-- The registers that the odd half of the pair of channel n shares with it (R225). -/
def mirrorRegs (n : Nat) : List Nat :=
  [R.SOL_CHSTAT (n / 32) (n % 32 + 1), R.SOL_CHI (n / 32) (n % 32 + 1), R.SOL_CHCMD (n / 32) (n % 32 + 1), R.SOL_CMD (n / 32) (n % 32 + 1),
    R.SOL_CHSAFE (n / 32) (n % 32 + 1)]

theorem State.reg_solMirror_ne (s : State) (n : Nat) {a : Nat} (ha : a ∉ mirrorRegs n) : (s.solMirror n).reg a = s.reg a := by
  simp only [mirrorRegs, List.mem_cons, List.not_mem_nil, or_false, not_or] at ha
  obtain ⟨hstat, hi, hchcmd, hcmd, hsafe⟩ := ha
  simp only [State.solMirror]
  rw [apply_ite (State.reg · a), State.reg_setReg_ne _ _ hsafe, State.reg_setReg_ne _ _ hcmd, State.reg_setReg_ne _ _ hchcmd,
    State.reg_setReg_ne _ _ hi, State.reg_setFld_ne _ _ _ _ hstat, apply_ite (State.reg · a), State.reg_setReg_ne _ _ hstat, ite_self,
    ite_self]

/-- A half whose own current still decays keeps its status, but for SLAVE (R208). -/
theorem State.fld_solMirror_of_parting (s : State) {n : Nat} (h : (s.sch (n + 1)).parting = true) {f : Fld}
    (ha : f.addr = R.SOL_CHSTAT (n / 32) (n % 32 + 1)) (hhi : f.hi < 32) (hslave : f.hi < 11 ∨ 11 < f.lo) :
    (s.solMirror n).fld f = s.fld f := by
  have hother (b : Nat) (hb : b = R.SOL_CHI (n / 32) (n % 32 + 1) ∨ b = R.SOL_CHCMD (n / 32) (n % 32 + 1) ∨
      b = R.SOL_CMD (n / 32) (n % 32 + 1) ∨ b = R.SOL_CHSAFE (n / 32) (n % 32 + 1)) : f.addr ≠ b := by
    simp only [ha, R.SOL_CHSTAT, R.SOL_CHI, R.SOL_CHCMD, R.SOL_CMD, R.SOL_CHSAFE] at hb ⊢
    omega
  have hslaveFld : (s.setFld (F.SOL_CHSTAT_SLAVE (n / 32) (n % 32 + 1)) 1).fld f = s.fld f :=
    State.fld_setFld_other s _ f (fldOk (by decide)) hhi hslave.symm 1
  simp only [State.solMirror, h, if_true]
  rw [apply_ite (State.fld · f), State.fld_setReg_ne _ _ _ _ (hother _ (by simp)), State.fld_setReg_ne _ _ _ _ (hother _ (by simp)),
    State.fld_setReg_ne _ _ _ _ (hother _ (by simp)), State.fld_setReg_ne _ _ _ _ (hother _ (by simp)),
    hslaveFld, ite_self]

/-! ### A channel's own status -/

/-- A field of the status of channel m beside HELD, DEST and SLAVE. -/
structure ChField (m : Nat) (f : Fld) : Prop where
  addr : f.addr = R.SOL_CHSTAT (m / 32) (m % 32)
  bits : f.lo ≤ f.hi ∧ f.hi < 32 ∧ (f.hi ≤ 8 ∨ 12 ≤ f.lo)

/-- One in which a waveform leaves no note: PHASE, LEVEL, FCAUSE and the flags that FCAUSE names. -/
structure PlainField (m : Nat) (f : Fld) : Prop extends ChField m f where
  plain : f.hi ≤ 2 ∨ 8 ≤ f.lo ∧ f.hi ≤ 19

theorem plainField {m hi lo : Nat} (h : (lo ≤ hi ∧ hi < 32 ∧ (hi ≤ 8 ∨ 12 ≤ lo)) ∧ (hi ≤ 2 ∨ 8 ≤ lo ∧ hi ≤ 19)) :
    PlainField m ⟨R.SOL_CHSTAT (m / 32) (m % 32), hi, lo⟩ := ⟨⟨rfl, h.1⟩, h.2⟩

theorem chField {m hi lo : Nat} (h : lo ≤ hi ∧ hi < 32 ∧ (hi ≤ 8 ∨ 12 ≤ lo)) : ChField m ⟨R.SOL_CHSTAT (m / 32) (m % 32), hi, lo⟩ :=
  ⟨rfl, h⟩

/-- A field of the status of channel m, while the channel has a status of its own (R205). -/
def State.ownFld (m : Nat) (f : Fld) (s : State) : Option Nat := if s.solHalf m then none else some (s.fld f)

theorem State.ownFld_of_half {s : State} {m : Nat} {f : Fld} (h : s.solHalf m = false) : s.ownFld m f = some (s.fld f) := by
  rw [State.ownFld, h]; rfl

theorem State.ownFld_congr {s t : State} {m : Nat} {f : Fld} (hhalf : t.solHalf m = s.solHalf m)
    (hfld : s.solHalf m = false → t.fld f = s.fld f) : t.ownFld m f = s.ownFld m f := by
  rw [State.ownFld, State.ownFld, hhalf]
  cases h : s.solHalf m
  · rw [hfld h]
  · rfl

/-- A channel with a status of its own reads as before where its own reading is as before. -/
theorem State.fld_of_ownFld {s t : State} {m : Nat} {f : Fld} (h : t.ownFld m f = s.ownFld m f) (hs : s.solHalf m = false) :
    t.fld f = s.fld f := by
  rw [State.ownFld_of_half hs, State.ownFld] at h
  split at h
  · cases h
  · exact Option.some.inj h

theorem ChField.setReg {m : Nat} {f : Fld} (hf : ChField m f) (s : State) {b : Nat} (w : Word) (hb : b ≠ R.SOL_CHSTAT (m / 32) (m % 32)) :
    (s.setReg b w).ownFld m f = s.ownFld m f :=
  State.ownFld_congr rfl fun _ => State.fld_setReg_ne _ _ _ _ (hf.addr ▸ hb.symm)

theorem SOL_CHSTAT_inj {m n : Nat} (h : R.SOL_CHSTAT (m / 32) (m % 32) = R.SOL_CHSTAT (n / 32) (n % 32)) : m = n := by
  simp only [R.SOL_CHSTAT] at h
  omega

theorem ChField.setFld {m n : Nat} {f g : Fld} (hf : ChField m f) (s : State) (v : Nat) (hg : g.addr = R.SOL_CHSTAT (n / 32) (n % 32))
    (hok : g.Ok) (h : m = n → g.hi < f.lo ∨ f.hi < g.lo) : (s.setFld g v).ownFld m f = s.ownFld m f := by
  by_cases hm : m = n
  · exact State.ownFld_congr rfl fun _ => State.fld_setFld_other s g f hok hf.bits.2.1 (h hm) v
  · exact hf.setReg s _ fun ha => hm (SOL_CHSTAT_inj (ha.symm.trans hg))

theorem ChField.solMirror {m : Nat} {f : Fld} (hf : ChField m f) (s : State) {n : Nat} (hn : n % 2 = 0) :
    (s.solMirror n).ownFld m f = s.ownFld m f := by
  refine State.ownFld_congr ((unmoved_solHalf m).solMirror s n) fun hhalf => ?_
  by_cases hm : m = n + 1
  · subst hm
    have haddr : f.addr = R.SOL_CHSTAT (n / 32) (n % 32 + 1) := by rw [hf.addr]; congr 1 <;> omega
    by_cases hpair : s.solPairs n = true
    · have hslave : s.solSlave (n + 1) = true := by
        rw [State.solSlave, Nat.add_sub_cancel, hpair, Bool.and_true]
        exact decide_eq_true (by omega)
      have hparting : (s.sch (n + 1)).parting = true := by simpa [State.solHalf, hslave] using hhalf
      have hbits := hf.bits
      exact s.fld_solMirror_of_parting hparting haddr hbits.2.1 (by omega)
    · rw [State.solMirror, if_neg hpair]
  · refine State.fld_congr (s.reg_solMirror_ne n ?_)
    rw [hf.addr]
    simp only [mirrorRegs, R.SOL_CHSTAT, R.SOL_CHI, R.SOL_CHCMD, R.SOL_CMD, R.SOL_CHSAFE, List.mem_cons, List.not_mem_nil, or_false]
    omega

theorem SOL_CHSTAT_ne_bank (m k : Nat) : R.SOL_BANKSTAT (k / 8) (k % 8) ≠ R.SOL_CHSTAT (m / 32) (m % 32) := by
  simp only [R.SOL_BANKSTAT, R.SOL_CHSTAT]
  omega

theorem SOL_CHSTAT_ne_die {m b : Nat} (h : isDieNote b) : b ≠ R.SOL_CHSTAT (m / 32) (m % 32) := by
  simp only [isDieNote, R.SOL_CTL, R.SOL_CHSTAT] at h ⊢
  omega

theorem ChField.unshown {m : Nat} {f : Fld} (hf : ChField m f) : Unshown (State.ownFld m f) where
  held s n v := hf.setFld s v rfl (fldOk (by decide)) fun _ => by
    have hbits := hf.bits
    show 9 < f.lo ∨ f.hi < 9
    omega
  bank s k g v hg := hf.setReg s _ (hg.addr ▸ SOL_CHSTAT_ne_bank m k)
  mirror s n hn := hf.solMirror s hn

theorem PlainField.unnoted {m : Nat} {f : Fld} (hf : PlainField m f) : Unnoted (State.ownFld m f) where
  toUnshown := hf.unshown
  note s n g v hg := hf.setFld s v hg.addr ⟨hg.bits.1, by have := hg.bits; omega⟩ fun _ => by
    have hplain := hf.plain
    have hbits := hf.bits
    have hnote := hg.bits
    omega
  die s b w hb := hf.setReg s w (SOL_CHSTAT_ne_die hb)
  withEvr s e := State.ownFld_congr rfl fun _ => rfl

/-- A channel's own field is no part of its waveform, but for PHASE. -/
theorem PlainField.unwaved {m n : Nat} {f : Fld} (hf : PlainField m f) (h : m = n → 2 < f.lo) : Unwaved n (State.ownFld m f) where
  toUnnoted := hf.unnoted
  phase s v := hf.setFld s v rfl (fldOk (by decide)) fun hm => .inl (h hm)
  setSch s x hx := State.ownFld_congr ((beside_solHalf n m).setSch s x hx) fun _ => rfl

theorem PlainField.beside {m n : Nat} {f : Fld} (hf : PlainField m f) (h : m ≠ n) : BesideChannel n (State.ownFld m f) where
  toUnwaved := hf.unwaved fun hm => absurd hm h
  stat s g v hg hok := hf.setFld s v hg hok fun hm => absurd hm h
  command s v := hf.setReg s _ (by simp only [solF, F.SOL_CHCMD_CMD, R.SOL_CHCMD, R.SOL_CHSTAT]; omega)

/-! ### A channel's command -/

/-- A reading of the command of channel m: its command registers and its source enter, nothing else that a channel's work changes. -/
structure CommandReading {α : Type} (m : Nat) (q : State → α) : Prop where
  setReg : ∀ (s : State) {b : Nat} (w : Word), b ≠ R.SOL_CMD (m / 32) (m % 32) → b ≠ R.SOL_CHCMD (m / 32) (m % 32) →
    q (s.setReg b w) = q s
  withEvr : ∀ (s : State) (e : Evr), q { s with evr := e } = q s
  setSch : ∀ (s : State) {n : Nat} {x : SCh}, x.source = (s.sch n).source → q (s.setSch n x) = q s

/-- A reading of channel m while it is no half of a pair. -/
def State.unitReading {α : Type} (m : Nat) (q : State → α) (s : State) : Option α := if s.solSlave m then none else some (q s)

theorem State.unitReading_of_unit {α : Type} {s : State} {m : Nat} {q : State → α} (h : s.solSlave m = false) :
    s.unitReading m q = some (q s) := by
  rw [State.unitReading, h]; rfl

theorem State.unitReading_congr {α : Type} {s t : State} {m : Nat} {q : State → α} (hslave : t.solSlave m = s.solSlave m)
    (h : s.solSlave m = false → q t = q s) : t.unitReading m q = s.unitReading m q := by
  rw [State.unitReading, State.unitReading, hslave]
  cases hs : s.solSlave m
  · rw [h hs]
  · rfl

theorem State.eq_of_unitReading {α : Type} {s t : State} {m : Nat} {q : State → α} (h : t.unitReading m q = s.unitReading m q)
    (hs : s.solSlave m = false) : q t = q s := by
  rw [State.unitReading_of_unit hs, State.unitReading] at h
  split at h
  · cases h
  · exact Option.some.inj h

section CommandReading
variable {α : Type} {m : Nat} {q : State → α} (hq : CommandReading m q)
include hq

theorem CommandReading.unit_setReg (s : State) {b : Nat} (w : Word)
    (h : b ≠ R.SOL_CMD (m / 32) (m % 32) ∧ b ≠ R.SOL_CHCMD (m / 32) (m % 32)) : (s.setReg b w).unitReading m q = s.unitReading m q :=
  State.unitReading_congr rfl fun _ => hq.setReg s w h.1 h.2

theorem CommandReading.solMirror (s : State) {n : Nat} (hn : n % 2 = 0) : (s.solMirror n).unitReading m q = s.unitReading m q := by
  have hslave : (s.solMirror n).solSlave m = s.solSlave m :=
    Unmoved.solMirror (p := fun s => s.solSlave m) ⟨fun _ _ _ => rfl, fun _ _ => rfl, fun _ _ _ => rfl⟩ s n
  refine State.unitReading_congr hslave fun hunit => ?_
  by_cases hpair : s.solPairs n = true
  · have hm : m ≠ n + 1 := by
      rintro rfl
      rw [State.solSlave, Nat.add_sub_cancel, hpair, Bool.and_true] at hunit
      exact of_decide_eq_false hunit (by omega)
    have hset (u : State) {b : Nat} (w : Word) (hb : b ∈ mirrorRegs n) : q (u.setReg b w) = q u := by
      simp only [mirrorRegs, R.SOL_CHSTAT, R.SOL_CHI, R.SOL_CHCMD, R.SOL_CMD, R.SOL_CHSAFE, List.mem_cons, List.not_mem_nil,
        or_false] at hb
      refine hq.setReg u w ?_ ?_ <;> simp only [R.SOL_CMD, R.SOL_CHCMD] <;> omega
    simp only [State.solMirror, hpair, if_true]
    rw [hset _ _ (by simp [mirrorRegs]), hset _ _ (by simp [mirrorRegs]), hset _ _ (by simp [mirrorRegs]), hset _ _ (by simp [mirrorRegs]),
      State.setFld, hset _ _ (by simp [mirrorRegs, F.SOL_CHSTAT_SLAVE]), apply_ite q, hset _ _ (by simp [mirrorRegs]), ite_self]
  · rw [State.solMirror, if_neg hpair]

theorem CommandReading.unwaved (n : Nat) : Unwaved n (State.unitReading m q) where
  held s k v := hq.unit_setReg s _ (by simp only [solF, F.SOL_CHSTAT_HELD, R.SOL_CHSTAT, R.SOL_CMD, R.SOL_CHCMD]; omega)
  bank s k f v hf := hq.unit_setReg s _ (by rw [hf.addr]; simp only [R.SOL_BANKSTAT, R.SOL_CMD, R.SOL_CHCMD]; omega)
  mirror s k hk := hq.solMirror s hk
  note s k f v hf := hq.unit_setReg s _ (by rw [hf.addr]; simp only [R.SOL_CHSTAT, R.SOL_CMD, R.SOL_CHCMD]; omega)
  die s b w hb := hq.unit_setReg s w (by simp only [isDieNote, R.SOL_CTL, R.SOL_CMD, R.SOL_CHCMD] at hb ⊢; omega)
  withEvr s e := State.unitReading_congr rfl fun _ => hq.withEvr s e
  phase s v := hq.unit_setReg s _ (by simp only [solF, F.SOL_CHSTAT_PHASE, R.SOL_CHSTAT, R.SOL_CMD, R.SOL_CHCMD]; omega)
  setSch s x hx := State.unitReading_congr rfl fun _ => hq.setSch s hx

theorem CommandReading.beside {n : Nat} (h : m ≠ n) : BesideChannel n (State.unitReading m q) where
  toUnwaved := hq.unwaved n
  stat s f v hf _ := hq.unit_setReg s _ (by rw [hf]; simp only [R.SOL_CHSTAT, R.SOL_CMD, R.SOL_CHCMD]; omega)
  command s v := hq.unit_setReg s _ (by simp only [solF, F.SOL_CHCMD_CMD, R.SOL_CMD, R.SOL_CHCMD]; omega)

end CommandReading

/-! ### The registers of a die -/

/-- A register of a die that its channels leave alone: below the banks' and beside the die's flags and counters. -/
def isDieReg (a : Nat) : Prop := R.SOL_CTL 0 ≤ a ∧ a % 0x100000 < 0x100 ∧ ¬ (4 ≤ a % 0x100000 ∧ a % 0x100000 ≤ 0x10)

theorem beside_dieReg {a : Nat} (ha : isDieReg a) (n : Nat) : BesideChannel n (fun s => s.reg a) := by
  obtain ⟨hlo, hhi, hnote⟩ := ha
  have hne (s : State) {b : Nat} (w : Word) (hb : isDieNote b ∨ 0x100 ≤ b % 0x100000) : (s.setReg b w).reg a = s.reg a :=
    State.reg_setReg_ne s w fun h => by
      subst h
      simp only [isDieNote] at hb
      omega
  have hchannel (k : Nat) : 0x100 ≤ R.SOL_CHSTAT (k / 32) (k % 32) % 0x100000 := by simp only [R.SOL_CHSTAT]; omega
  exact {
    held := fun s k v => hne s _ (.inr (hchannel k))
    bank := fun s k f v hf => hne s _ (.inr (by rw [hf.addr]; simp only [R.SOL_BANKSTAT]; omega))
    mirror := fun s k hk => s.reg_solMirror_ne k (by
      simp only [mirrorRegs, R.SOL_CHSTAT, R.SOL_CHI, R.SOL_CHCMD, R.SOL_CMD, R.SOL_CHSAFE, List.mem_cons, List.not_mem_nil, or_false]
      omega)
    note := fun s k f v hf => hne s _ (.inr (hf.addr ▸ hchannel k))
    die := fun s b w hb => hne s w (.inl hb)
    withEvr := fun _ _ => rfl
    phase := fun s v => hne s _ (.inr (hchannel n))
    setSch := fun _ _ _ => rfl
    stat := fun s f v hf _ => hne s _ (.inr (hf ▸ hchannel n))
    command := fun s v => hne s _ (.inr (by simp only [solF, F.SOL_CHCMD_CMD, R.SOL_CHCMD]; omega)) }

end Sys2Proof.Machine
end

section
/-! Solenoid channels: taking a channel to a phase, and the phases of its waveform (R212, R213, R217). -/

namespace Sys2Proof.Machine

/-! ### Reaching a phase -/

/-- A state reached from another by notes of waveforms alone. -/
structure State.Noted (s u : State) : Prop where
  keeps : ∀ {α : Type} {p : State → α}, Unnoted p → p u = p s

/-- Channel n is in a phase, entered now, the other channels and memory as they were. -/
structure State.Reached (s t : State) (n ph : Nat) : Prop where
  phase : t.solPhase n = ph
  entered : (t.sch n).phaseAt = s.now
  others : ∀ m, m ≠ n → t.sch m = s.sch m
  mem : t.mem = s.mem

theorem plainField_PHASE (m : Nat) : PlainField m (solF F.SOL_CHSTAT_PHASE m) := plainField (by decide)

theorem State.solTo_sol (s : State) (n ph : Nat) : (s.solTo n ph).sol = (s.setSch n { s.sch n with phaseAt := s.now }).sol :=
  unmoved_sol.unnoted.solShow _ n

theorem State.sch_congr {s t : State} (h : t.sol = s.sol) (m : Nat) : t.sch m = s.sch m := by rw [State.sch, State.sch, h]

theorem State.sch_solTo_same (s : State) (n ph : Nat) : (s.solTo n ph).sch n = { s.sch n with phaseAt := s.now } :=
  (State.sch_congr (s.solTo_sol n ph) n).trans (s.sch_setSch_same n _)

theorem State.sch_solTo_ne (s : State) {n m : Nat} (ph : Nat) (h : m ≠ n) : (s.solTo n ph).sch m = s.sch m :=
  (beside_sch h).solTo s ph

theorem State.solPhase_solTo {s : State} {n ph : Nat} (h : s.solHalf n = false) (hph : ph < 8) : (s.solTo n ph).solPhase n = ph := by
  let u := (s.setFld (solF F.SOL_CHSTAT_PHASE n) ph).setSch n { s.sch n with phaseAt := s.now }
  have hhalf : u.solHalf n = false :=
    ((beside_solHalf n n).setSch (s.setFld (solF F.SOL_CHSTAT_PHASE n) ph) { s.sch n with phaseAt := s.now } rfl).trans h
  have hset : u.fld (solF F.SOL_CHSTAT_PHASE n) = ph :=
    (State.fld_setFld_same s _ (fldOk (by decide)) ph).trans (Nat.mod_eq_of_lt hph)
  exact (State.fld_of_ownFld ((plainField_PHASE n).unshown.solShow u n) hhalf).trans hset

/-- A field of a channel's status other than PHASE survives its going to a phase. -/
theorem ChField.solTo {n : Nat} {f : Fld} (hf : ChField n f) (h : 2 < f.lo) (s : State) (ph : Nat) :
    (s.solTo n ph).ownFld n f = s.ownFld n f := by
  have hset : (s.setFld (solF F.SOL_CHSTAT_PHASE n) ph).ownFld n f = s.ownFld n f :=
    hf.setFld s ph rfl (fldOk (by decide)) fun _ => .inl h
  rw [State.solTo, hf.unshown.solShow, ← hset]
  exact State.ownFld_congr ((beside_solHalf n n).setSch (s.setFld (solF F.SOL_CHSTAT_PHASE n) ph) _ rfl) fun _ => rfl

theorem State.reached_solTo {s u : State} {n ph : Nat} (hhalf : u.solHalf n = false) (hph : ph < 8) (hnow : u.now = s.now)
    (hsch : ∀ m, m ≠ n → u.sch m = s.sch m) (hmem : u.mem = s.mem) : s.Reached (u.solTo n ph) n ph where
  phase := State.solPhase_solTo hhalf hph
  entered := by rw [State.sch_solTo_same]; exact hnow
  others m hm := (u.sch_solTo_ne ph hm).trans (hsch m hm)
  mem := ((beside_mem n).solTo u ph).trans hmem

theorem State.Noted.solHalf {s u : State} (h : s.Noted u) (m : Nat) : u.solHalf m = s.solHalf m := h.keeps (unmoved_solHalf m).unnoted

theorem State.Noted.sch {s u : State} (h : s.Noted u) (m : Nat) : u.sch m = s.sch m := h.keeps (unmoved_sch m).unnoted

theorem State.Noted.reached {s u : State} (h : s.Noted u) {n ph : Nat} (hhalf : s.solHalf n = false) (hph : ph < 8) :
    s.Reached (u.solTo n ph) n ph :=
  State.reached_solTo ((h.solHalf n).trans hhalf) hph (h.keeps unmoved_now.unnoted) (fun m _ => h.sch m) (h.keeps unmoved_mem.unnoted)

theorem State.Noted.refl (s : State) : s.Noted s := ⟨fun _ => rfl⟩

theorem State.reached_solFall {s : State} {n : Nat} (mode : Nat) {ph : Nat} (hn : n < 64) (hhalf : s.solHalf n = false) (hph : ph < 8) :
    s.Reached (s.solFall n mode ph) n ph := by
  unfold State.solFall
  extract_lets fast shown fallen
  have hnoted : s.Noted fallen := ⟨fun {_ p} hp =>
    calc p fallen
      _ = p shown := by rw [apply_ite p, hp.solRcvFast _ hn, ite_self]
      _ = p s := hp.note s _ (noteField (by decide))⟩
  exact hnoted.reached hhalf hph

/-! ### Flags that a channel raises -/

theorem State.solUnit_of_unit {s : State} {n : Nat} (h : s.solSlave n = false) : s.solUnit n = n := by rw [State.solUnit, h]; rfl

/-- A flag that a channel of its own raises reads set. -/
theorem State.ownFld_solFlag {s : State} {ch : Nat → Nat → Fld} {unit : Nat → Fld} {n : Nat} (hch : ChField n (solF ch n))
    (hbit : (solF ch n).lo = (solF ch n).hi) (hunit : ∀ d, (unit d).addr = R.SOL_STAT d) (hslave : s.solSlave n = false) (hn : n < 64) :
    (s.solFlag ch unit n).ownFld n (solF ch n) = some 1 := by
  have hset : (s.setFld (solF ch n) 1).fld (solF ch n) = 1 := by
    rw [State.fld_setFld_same s _ ⟨hch.bits.1, hch.bits.2.1⟩, hbit, Nat.add_sub_cancel_left]; rfl
  have hstat : isDieNote (unit (n / 32)).addr := hunit _ ▸ isDieNote_STAT _
  have hraise (u : State) : (u.raiseFlag (unit (n / 32)) (187 + n / 32)).ownFld n (solF ch n) = u.ownFld n (solF ch n) := by
    rw [State.raiseFlag, apply_ite (State.ownFld n _), State.pend, hch.setReg _ _ (SOL_CHSTAT_ne_die (isDieNote_pend (by omega))),
      State.setFld, hch.setReg _ _ (SOL_CHSTAT_ne_die hstat), ite_self]
  have hhalf : (s.setFld (solF ch n) 1).solHalf n = false := State.solHalf_of_solSlave hslave
  rw [State.solFlag, hch.solMirror _ (by omega), State.solUnit_of_unit hslave, State.raiseBoth, hraise, State.ownFld_of_half hhalf, hset]

theorem State.flag_of_ownFld {s : State} {m : Nat} {f : Fld} (h : s.ownFld m f = some 1) : s.flag f = true := by
  rw [State.ownFld] at h
  split at h
  · cases h
  · exact decide_eq_true (Option.some.inj h)

/-! ### The phases of a waveform -/

theorem peakSkip_holds (s : State) (n : Fin 64) (hph : s.solPhase n = phWAIT) (hslave : s.solSlave n = false)
    (hdue : (s.sch n).te + 1000 * s.fld (bankF F.SOL_BANKCFG_DEFER (n / 4)) ≤ s.now) :
    Gives (exec (.peakSkip n) s) (fun t => t.solPhase n = phHOLD ∧ (t.sch n).phaseAt = s.now ∧ t.flag (solF F.SOL_CHSTAT_PEAK_SKIP n) ∧
      (∀ m, m ≠ n.val → t.sch m = s.sch m) ∧ t.mem = s.mem) := by
  have hexec : exec (.peakSkip n) s = execPeakSkip n s := by rfl
  have hflag : ChField n (solF F.SOL_CHSTAT_PEAK_SKIP n) := chField (by decide)
  have hnoted : s.Noted ((s.solFlag F.SOL_CHSTAT_PEAK_SKIP F.SOL_STAT_PEAK_SKIP n).bump (F.SOL_SKIPCNT_COUNT (n / 32))) := ⟨fun hp =>
    (hp.bump _ _ (isDieNote_SKIPCNT _)).trans (hp.solFlag _ (fun _ => noteField (by decide)) (fun _ => rfl) n.isLt)⟩
  have hreached : s.Reached (s.solSkip n) n phHOLD := hnoted.reached (State.solHalf_of_solSlave hslave) (by decide)
  refine ⟨s.solSkip n, ?_, hreached.phase, hreached.entered, State.flag_of_ownFld (m := n) ?_, hreached.others, hreached.mem⟩
  · rw [hexec, execPeakSkip, if_pos ⟨hph, by rw [hslave]; rfl, decide_eq_true hdue⟩]
  · rw [State.solSkip, hflag.solTo (by decide : 2 < 21), State.bump]
    exact (hflag.setReg _ _ (SOL_CHSTAT_ne_die (isDieNote_SKIPCNT _))).trans
      (State.ownFld_solFlag hflag rfl (fun _ => rfl) hslave n.isLt)

theorem boostEnd_ends (s : State) (n : Fin 64) (hph : s.solPhase n = phBOOST) (hslave : s.solSlave n = false) :
    Gives (exec (.boostEnd n) s) (fun t => t.solPhase n = (if (s.sch n).wave.tpeak = 0 then phPKDEC else phPEAK) ∧
      (t.sch n).phaseAt = s.now ∧ (∀ m, m ≠ n.val → t.sch m = s.sch m) ∧ t.mem = s.mem) := by
  have hexec : exec (.boostEnd n) s = execBoostEnd n s := by rfl
  have hhalf := State.solHalf_of_solSlave hslave
  rw [hexec, execBoostEnd, if_pos ⟨hph, by rw [hslave]; rfl⟩]
  split
  · obtain ⟨hphase, hat, hothers, hmem⟩ : s.Reached (s.solPeakOver n) n phPKDEC := State.reached_solFall _ n.isLt hhalf (by decide)
    exact ⟨_, rfl, hphase, hat, hothers, hmem⟩
  · obtain ⟨hphase, hat, hothers, hmem⟩ : s.Reached (s.solTo n phPEAK) n phPEAK := (State.Noted.refl s).reached hhalf (by decide)
    exact ⟨_, rfl, hphase, hat, hothers, hmem⟩

theorem boostTo_peaks (s : State) (n : Fin 64) (hph : s.solPhase n = phBOOST) (hslave : s.solSlave n = false)
    (hdue : (s.sch n).phaseAt + 1000 * (s.sch n).wave.tbmax ≤ s.now) :
    Gives (exec (.boostTo n) s) (fun t => t.solPhase n = phPEAK ∧ (t.sch n).phaseAt = s.now ∧ t.flag (solF F.SOL_CHSTAT_BOOST_TO n) ∧
      (∀ m, m ≠ n.val → t.sch m = s.sch m) ∧ t.mem = s.mem) := by
  have hexec : exec (.boostTo n) s = execBoostTo n s := by rfl
  have hflag : ChField n (solF F.SOL_CHSTAT_BOOST_TO n) := chField (by decide)
  have hnoted : s.Noted (s.solFlag F.SOL_CHSTAT_BOOST_TO F.SOL_STAT_BOOST_TO n) :=
    ⟨fun hp => hp.solFlag _ (fun _ => noteField (by decide)) (fun _ => rfl) n.isLt⟩
  obtain ⟨hphase, hat, hothers, hmem⟩ := hnoted.reached (ph := phPEAK) (State.solHalf_of_solSlave hslave) (by decide)
  refine ⟨_, ?_, hphase, hat, State.flag_of_ownFld (m := n) ?_, hothers, hmem⟩
  · rw [hexec, execBoostTo, if_pos ⟨hph, by rw [hslave]; rfl, decide_eq_true hdue⟩]
  · rw [hflag.solTo (by decide : 2 < 23), State.ownFld_solFlag hflag rfl (fun _ => rfl) hslave n.isLt]

theorem peakEnd_decays (s : State) (n : Fin 64) (hph : s.solPhase n = phPEAK) (hslave : s.solSlave n = false)
    (hdue : (s.sch n).phaseAt + 1000 * (s.sch n).wave.tpeak ≤ s.now) :
    Gives (exec (.peakEnd n) s) (fun t => t.solPhase n = phPKDEC ∧ (t.sch n).phaseAt = s.now ∧
      (∀ m, m ≠ n.val → t.sch m = s.sch m) ∧ t.mem = s.mem) := by
  have hexec : exec (.peakEnd n) s = execPeakEnd n s := by rfl
  obtain ⟨hphase, hat, hothers, hmem⟩ : s.Reached (s.solPeakOver n) n phPKDEC :=
    State.reached_solFall _ n.isLt (State.solHalf_of_solSlave hslave) (by decide)
  refine ⟨_, ?_, hphase, hat, hothers, hmem⟩
  rw [hexec, execPeakEnd, if_pos ⟨hph, by rw [hslave]; rfl, decide_eq_true hdue⟩]

theorem holdEntry_holds (s : State) (n : Fin 64) (hph : s.solPhase n = phPKDEC) (hslave : s.solSlave n = false) :
    Gives (exec (.holdEntry n) s) (fun t => t.solPhase n = phHOLD ∧ (t.sch n).phaseAt = s.now ∧
      (∀ m, m ≠ n.val → t.sch m = s.sch m) ∧ t.mem = s.mem) := by
  have hexec : exec (.holdEntry n) s = execHoldEntry n s := by rfl
  obtain ⟨hphase, hat, hothers, hmem⟩ := (State.Noted.refl s).reached (ph := phHOLD) (State.solHalf_of_solSlave hslave) (by decide)
  refine ⟨_, ?_, hphase, hat, hothers, hmem⟩
  rw [hexec, execHoldEntry, if_pos ⟨hph, by rw [hslave]; rfl⟩]

theorem decayEnd_ends (s : State) (n : Fin 64) (hph : s.solPhase n = phDECAY) (hslave : s.solSlave n = false) :
    Gives (exec (.decayEnd n) s) (fun t => t.solPhase n = phOFF ∧ (t.sch n).phaseAt = s.now ∧
      (∀ m, m ≠ n.val → t.sch m = s.sch m) ∧ t.mem = s.mem) := by
  have hexec : exec (.decayEnd n) s = execDecayEnd n s := by rfl
  let u := s.setSch n { s.sch n with parting := false }
  have hhalf : u.solHalf n = false := State.solHalf_of_solSlave hslave
  obtain ⟨hphase, hat, hothers, hmem⟩ : s.Reached (u.solTo n phOFF) n phOFF :=
    State.reached_solTo hhalf (by decide) rfl (fun m hm => s.sch_setSch_ne _ hm) rfl
  refine ⟨_, ?_, hphase, hat, hothers, hmem⟩
  rw [hexec, execDecayEnd, if_pos ⟨hph, by rw [State.solHalf_of_solSlave hslave]; rfl⟩]

end Sys2Proof.Machine
end

section
/-! Solenoid channels: level and command, the enable of a die (R209, R210). -/

namespace Sys2Proof.Machine

/-! ### What a walk over the channels of a die leaves -/

/-- What the step of one of a list establishes, the steps of the others keep. -/
theorem State.foldl_reaches {β : Type} {f : State → β → State} {Q D : State → Prop} {x : β} {l : List β} (hl : l.Nodup) (hx : x ∈ l)
    (hown : ∀ u, Q u → D (f u x))
    (hbefore : ∀ u, ∀ y ∈ l, y ≠ x → Q u → Q (f u y)) (hafter : ∀ u, ∀ y ∈ l, y ≠ x → D u → D (f u y))
    {s : State} (hs : Q s) : D (l.foldl f s) := by
  induction l generalizing s with
  | nil => exact absurd hx List.not_mem_nil
  | cons a l ih =>
    obtain ⟨ha, hl⟩ := List.nodup_cons.mp hl
    rw [List.foldl_cons]
    by_cases hax : a = x
    · subst hax
      refine List.foldlRecOn (motive := D) l f (hown s hs) fun u hu y hy => ?_
      exact hafter u y (List.mem_cons_of_mem _ hy) (fun h => ha (h ▸ hy)) hu
    · exact ih hl ((List.mem_cons.mp hx).resolve_left (Ne.symm hax)) (fun u y hy => hbefore u y (List.mem_cons_of_mem _ hy))
        (fun u y hy => hafter u y (List.mem_cons_of_mem _ hy)) (hbefore s a List.mem_cons_self hax hs)

/-- What every step of a list keeps, the walk keeps. -/
theorem State.foldl_keeps_of_mem {α β : Type} {p : State → α} {f : State → β → State} {l : List β}
    (hf : ∀ u, ∀ x ∈ l, p (f u x) = p u)
    (s : State) : p (l.foldl f s) = p s :=
  List.foldlRecOn (motive := fun u => p u = p s) _ _ rfl fun u hu x hx => (hf u x hx).trans hu

/-! ### The command -/

theorem undriven_mem : Undriven State.mem :=
  ⟨fun _ _ _ _ => rfl, fun _ _ => rfl, fun _ _ => rfl, fun _ _ _ => rfl, fun _ _ _ => rfl⟩

theorem undriven_entry (t i : Nat) : Undriven (fun s => s.entry t i) :=
  ⟨fun _ _ _ _ => rfl, fun _ _ => rfl, fun _ _ => rfl, fun _ _ _ => rfl, fun _ _ _ => rfl⟩

theorem undriven_solValid (n : Nat) : Undriven (fun s => s.solValid n) :=
  ⟨fun _ _ _ _ => rfl, fun _ _ => rfl, fun _ _ => rfl, fun _ _ _ => rfl, fun _ _ _ => rfl⟩

theorem undriven_solSlave (n : Nat) : Undriven (fun s => s.solSlave n) :=
  ⟨fun _ _ _ _ => rfl, fun _ _ => rfl, fun _ _ => rfl, fun _ _ _ => rfl, fun _ _ _ => rfl⟩

theorem State.solValid_unit {s : State} {n : Nat} (h : s.solValid n = true) : s.solSlave n = false := by
  simp only [State.solValid, State.solOk, Bool.and_eq_true, Bool.not_eq_true'] at h
  exact h.2

theorem State.solValid_max {s : State} {n : Nat} (h : s.solValid n = true) : vMax (s.entry 1 n) ≤ 32000 := by
  simp only [State.solValid, State.solOk, Bool.and_eq_true, decide_eq_true_eq] at h
  obtain ⟨⟨⟨⟨⟨-, hmax⟩, -⟩, -⟩, -⟩, -⟩ := h
  split at hmax <;> omega

theorem commandReading_CMD (m : Nat) : CommandReading m (fun s => s.reg (R.SOL_CMD (m / 32) (m % 32))) :=
  ⟨fun s _ w hcmd _ => State.reg_setReg_ne s w hcmd.symm, fun _ _ => rfl, fun _ _ _ _ => rfl⟩

theorem commandReading_CHCMD (m : Nat) : CommandReading m (fun s => s.fld (solF F.SOL_CHCMD_CMD m)) :=
  ⟨fun s _ w _ hchcmd => State.fld_setReg_ne s _ w _ hchcmd.symm, fun _ _ => rfl, fun _ _ _ _ => rfl⟩

/-- The command of a source from what the channel has of it and the command register (Table 8-2). -/
theorem State.solSource_congr {s t : State} {n : Nat} (hsource : (t.sch n).source = (s.sch n).source) (hentry : t.entry 1 n = s.entry 1 n)
    (hcmd : t.reg (R.SOL_CMD (n / 32) (n % 32)) = s.reg (R.SOL_CMD (n / 32) (n % 32))) : t.solSource n = s.solSource n := by
  obtain ⟨hholder, hrate, hdest, hkept, -, -⟩ := SCh.source_eq_iff.mp hsource
  have hfld : t.fld (solF F.SOL_CMD_I n) = s.fld (solF F.SOL_CMD_I n) := State.fld_congr hcmd
  simp only [State.solSource, hholder, hrate, hdest, hkept, hentry, hfld]

theorem commandReading_solSource (m : Nat) : CommandReading m (fun s => s.solSource m) :=
  ⟨fun s _ w hcmd _ => State.solSource_congr rfl rfl (State.reg_setReg_ne s w hcmd.symm), fun _ _ => rfl,
    fun s _ _ hx => State.solSource_congr (s.source_setSch hx m) rfl rfl⟩

/-- The hold command in force: the source's, cut to I_MAX (R209). -/
theorem State.fld_CHCMD_solCommand {s : State} {n : Nat} (hvalid : s.solValid n = true) (hn : n < 64) :
    (s.solCommand n).fld (solF F.SOL_CHCMD_CMD n) = min (s.solSource n) (vMax (s.entry 1 n)) := by
  have hmax := State.solValid_max hvalid
  have hcut := (commandReading_CHCMD n).unwaved n
  let u := s.setFld (solF F.SOL_CHCMD_CMD n) (min (s.solSource n) (vMax (s.entry 1 n)))
  have hset : u.fld (solF F.SOL_CHCMD_CMD n) = min (s.solSource n) (vMax (s.entry 1 n)) :=
    (State.fld_setFld_same s _ (fldOk (by decide)) _).trans
      (Nat.mod_eq_of_lt (show _ < 2 ^ 16 from Nat.lt_of_le_of_lt (Nat.min_le_right _ _) (by omega)))
  simp only [State.solCommand, hvalid, if_true]
  refine (State.eq_of_unitReading (s := u) (q := fun s => s.fld (solF F.SOL_CHCMD_CMD n)) ?_ (State.solValid_unit hvalid)).trans hset
  rw [hcut.solShow, apply_ite (State.unitReading n _), hcut.solFlag _ (fun _ => noteField (by decide)) (fun _ => rfl) hn, ite_self]

/-! ### A write of the command register (R210) -/

/-- The command register of a free channel written, and what the channel kept of earlier sources given up (R210). -/
def State.cmdWritten (s : State) (n : Nat) (w : Word) : State :=
  let u := s.writePlain (R.SOL_CMD (n / 32) (n % 32)) w
  u.setSch n { u.sch n with kept := none, dest := none }

theorem State.sch_cmdWritten (s : State) (n : Nat) (w : Word) : (s.cmdWritten n w).sch n = { s.sch n with kept := none, dest := none } :=
  State.sch_setSch_same _ _ _

theorem State.takeSolCmd_of_free {s : State} {n : Nat} (w : Word) (hholder : (s.sch n).holder = none)
    (hdest : s.flag (solF F.SOL_CHSTAT_DEST n) = false) (hslave : s.solSlave n = false) :
    s.takeSolCmd n w = ((s.cmdWritten n w).solCommand n).solEdge n (((s.cmdWritten n w).solCommand n).flag (solF F.SOL_CMD_ON n))
      ((s.cmdWritten n w).solCommand n).now := by
  simp only [State.takeSolCmd, hholder, hdest, hslave]
  rfl

theorem State.writeSolCmd_of_unmasked {s : State} (n : Nat) (w : Word) (h : s.tdmMasked = false) : s.writeSolCmd n w = s.takeSolCmd n w := by
  have hown : s.mirrorOnly = false := by
    simp only [State.tdmMasked, State.mirrorOnly, Bool.or_eq_false_iff] at h ⊢
    exact h.1.1
  simp only [State.writeSolCmd, State.ownCmd, h, State.ifOwn_of_own hown, ite_self, if_false, Bool.false_eq_true]

theorem State.LEVEL_solEdge {s : State} {n : Nat} (on : Bool) (te : Nat) (hslave : s.solSlave n = false) (hn : n < 64) :
    (s.solEdge n on te).flag (solF F.SOL_CHSTAT_LEVEL n) = on := by
  have hlevel : PlainField n (solF F.SOL_CHSTAT_LEVEL n) := plainField (by decide)
  have hkeep := (hlevel.unwaved fun _ => (by decide : 2 < 8)).solAct (n := n) (s.setBit (solF F.SOL_CHSTAT_LEVEL n) on) on te hn
  have hfld : (s.solEdge n on te).fld (solF F.SOL_CHSTAT_LEVEL n) = if on then 1 else 0 := by
    refine (State.fld_of_ownFld hkeep (State.solHalf_of_solSlave hslave)).trans ?_
    refine (State.fld_setFld_same s _ (fldOk (by decide)) _).trans ?_
    cases on <;> rfl
  rw [State.flag, hfld]
  cases on <;> rfl

/-- An edge leaves what a command is read from. -/
theorem CommandReading.solEdge {α : Type} {m : Nat} {q : State → α} (hq : CommandReading m q) {s : State} {n : Nat} (on : Bool) (te : Nat)
    (hslave : s.solSlave m = false) (hn : n < 64) : q (s.solEdge n on te) = q s := by
  refine State.eq_of_unitReading (((hq.unwaved n).solAct _ on te hn).trans ?_) hslave
  exact hq.unit_setReg s _ (by simp only [solF, F.SOL_CHSTAT_LEVEL, R.SOL_CHSTAT, R.SOL_CMD, R.SOL_CHCMD]; omega)

/-- What the channel's command leaves of a reading of its command that the command in force does not enter. -/
theorem CommandReading.solCommand {α : Type} {m : Nat} {q : State → α} (hq : CommandReading m q)
    (hcmd : ∀ (s : State) (v : Nat), q (s.setFld (solF F.SOL_CHCMD_CMD m) v) = q s) {s : State} (hslave : s.solSlave m = false) (hm : m < 64) :
    q (s.solCommand m) = q s :=
  State.eq_of_unitReading ((hq.unwaved m).solCommand_of_set s (fun v => State.unitReading_congr rfl fun _ => hcmd s v) hm) hslave

theorem SOL_CMD_ne_CHCMD (n : Nat) : R.SOL_CMD (n / 32) (n % 32) ≠ R.SOL_CHCMD (n / 32) (n % 32) := by
  simp only [R.SOL_CMD, R.SOL_CHCMD]
  omega

theorem State.reg_CMD_solCommand {s : State} {n : Nat} (hslave : s.solSlave n = false) (hn : n < 64) :
    (s.solCommand n).reg (R.SOL_CMD (n / 32) (n % 32)) = s.reg (R.SOL_CMD (n / 32) (n % 32)) :=
  (commandReading_CMD n).solCommand (fun s _ => State.reg_setReg_ne s _ (SOL_CMD_ne_CHCMD n)) hslave hn

theorem solCmdWrite_commands (s : State) (acc : Acc) (n : Fin 64) (v : Word) (h : s.takesWrite acc (R.SOL_CMD (n / 32) (n % 32)))
    (hmask : s.tdmMasked = false) (hholder : (s.sch n).holder = none) (hdest : s.flag (solF F.SOL_CHSTAT_DEST n) = false)
    (hslave : s.solSlave n = false) :
    Gives (exec (.solCmdWrite acc n v) s) (fun t =>
      t.reg (R.SOL_CMD (n / 32) (n % 32)) = writtenWord (R.SOL_CMD (n / 32) (n % 32)) (s.locked (R.SOL_CMD (n / 32) (n % 32)))
        (s.reg (R.SOL_CMD (n / 32) (n % 32))) v ∧
      t.flag (solF F.SOL_CHSTAT_LEVEL n) = t.flag (solF F.SOL_CMD_ON n) ∧
      (s.solValid n → t.fld (solF F.SOL_CHCMD_CMD n) = min (t.fld (solF F.SOL_CMD_I n)) (vMax (s.entry 1 n))) ∧
      (t.sch n).kept = none ∧ (t.sch n).dest = none ∧ t.mem = s.mem) := by
  have hexec : exec (.solCmdWrite acc n v) s = execSolCmdWrite acc n v s := by rfl
  let written := s.cmdWritten n v
  let taken := written.solCommand n
  let t := taken.solEdge n (taken.flag (solF F.SOL_CMD_ON n)) taken.now
  have hrun : execSolCmdWrite acc n v s = .next t := by
    rw [execSolCmdWrite, State.guardWrite_of_takesWrite s acc _ _ h, State.writeSolCmd_of_unmasked _ _ hmask,
      State.takeSolCmd_of_free v hholder hdest hslave]
  have hunit : written.solSlave n = false := hslave
  have hunitTaken : taken.solSlave n = false := (undriven_solSlave n).solCommand written n.isLt |>.trans hunit
  have hcmd : t.reg (R.SOL_CMD (n / 32) (n % 32)) = taken.reg (R.SOL_CMD (n / 32) (n % 32)) :=
    (commandReading_CMD n).solEdge _ _ hunitTaken n.isLt
  have hcmdTaken : taken.reg (R.SOL_CMD (n / 32) (n % 32)) = written.reg (R.SOL_CMD (n / 32) (n % 32)) :=
    State.reg_CMD_solCommand hunit n.isLt
  have hsource : (t.sch n).source = (written.sch n).source :=
    ((beside_source n n).solAct _ _ _ n.isLt).trans ((beside_source n n).solCommand written n.isLt)
  have hwritten : written.sch n = { s.sch n with kept := none, dest := none } := s.sch_cmdWritten n v
  obtain ⟨-, -, hdestKept, hkeptKept, -, -⟩ := SCh.source_eq_iff.mp hsource
  refine ⟨t, hexec.trans hrun, hcmd.trans (hcmdTaken.trans (State.reg_setReg_same s _ _)), ?_, fun hvalid => ?_, ?_, ?_, ?_⟩
  · rw [State.LEVEL_solEdge _ _ hunitTaken n.isLt]
    exact (State.flag_congr (State.fld_congr hcmd)).symm
  · have hchcmd : t.fld (solF F.SOL_CHCMD_CMD n) = taken.fld (solF F.SOL_CHCMD_CMD n) :=
      (commandReading_CHCMD n).solEdge _ _ hunitTaken n.isLt
    have hfrom : written.solSource n = written.fld (solF F.SOL_CMD_I n) := by
      simp only [State.solSource, hwritten, hholder, Option.isSome_none, Bool.false_eq_true, if_false]
    have hfld : t.fld (solF F.SOL_CMD_I n) = written.fld (solF F.SOL_CMD_I n) := State.fld_congr (hcmd.trans hcmdTaken)
    rw [hchcmd, hfld, ← hfrom]
    exact State.fld_CHCMD_solCommand (s := written) hvalid n.isLt
  · exact hkeptKept.trans (congrArg SCh.kept hwritten)
  · exact hdestKept.trans (congrArg SCh.dest hwritten)
  · exact (undriven_mem.solEdge taken _ _ n.isLt).trans (undriven_mem.solCommand written n.isLt)

/-! ### The enable of a die (R210) -/

/-- Channel n is in a phase that a channel turned off can be in: OFF, DECAY, or FAULT. -/
def State.isOff (s : State) (n : Nat) : Prop := s.solPhase n = phOFF ∨ s.solPhase n = phDECAY ∨ s.solPhase n = phFAULT

theorem State.solPhase_lt (s : State) (n : Nat) : s.solPhase n < 8 := s.fld_lt (solF F.SOL_CHSTAT_PHASE n)

/-- The off-edge of a channel takes it to OFF, or to DECAY, where it is in neither of them nor in FAULT (Table 8-7). -/
theorem State.isOff_solOff {s : State} {n : Nat} (hhalf : s.solHalf n = false) (hn : n < 64) : (s.solOff n).isOff n := by
  simp only [State.solOff]
  split_ifs with hwait hon
  · exact .inl (State.solPhase_solTo hhalf (by decide))
  · exact .inr (.inl (State.reached_solFall _ hn hhalf (by decide)).phase)
  · have hlt := s.solPhase_lt n
    simp only [within, Bool.and_eq_true, decide_eq_true_eq] at hon
    simp only [State.isOff, phOFF, phWAIT, phBOOST, phHOLD, phDECAY, phFAULT] at hwait hon ⊢
    omega

theorem State.isOff_of_ownFld {s t : State} {n : Nat} (hphase : t.ownFld n (solF F.SOL_CHSTAT_PHASE n) = s.ownFld n (solF F.SOL_CHSTAT_PHASE n))
    (hhalf : s.solHalf n = false) (h : s.isOff n) : t.isOff n := by
  have heq : t.solPhase n = s.solPhase n := State.fld_of_ownFld hphase hhalf
  rwa [State.isOff, heq]

/-- Every channel of a list but the halves is turned off. -/
theorem State.isOff_allOff {s : State} {d j : Nat} (hd : d < 2) (hj : j < 32) (hhalf : s.solHalf (32 * d + j) = false) :
    ((List.range 32).foldl (fun s j => s.solOff (32 * d + j)) s).isOff (32 * d + j) := by
  have hlt {i : Nat} (hi : i ∈ List.range 32) : 32 * d + i < 64 := by have := List.mem_range.mp hi; omega
  have hne {i : Nat} (hi : i ≠ j) : 32 * d + j ≠ 32 * d + i := by omega
  refine (State.foldl_reaches (Q := fun u => u.solHalf (32 * d + j) = false)
    (D := fun u => u.solHalf (32 * d + j) = false ∧ u.isOff (32 * d + j)) List.nodup_range (List.mem_range.mpr hj) ?_ ?_ ?_ hhalf).2
  · exact fun u hu => ⟨((beside_solHalf _ _).solOff u (by omega)).trans hu, State.isOff_solOff hu (by omega)⟩
  · exact fun u i hi _ hu => ((beside_solHalf _ _).solOff u (hlt hi)).trans hu
  · exact fun u i hi hij hu => ⟨((beside_solHalf _ _).solOff u (hlt hi)).trans hu.1,
      State.isOff_of_ownFld (((plainField_PHASE _).beside (hne hij)).solOff u (hlt hi)) hu.1 hu.2⟩

/-- A channel with a valid entry takes the command and the level of its source (R210). -/
def State.resume (s : State) (n : Nat) : State :=
  if s.solValid n then (s.solCommand n).solAct n (s.flag (solF F.SOL_CHSTAT_LEVEL n)) s.now else s

theorem BesideChannel.resume {α : Type} {n : Nat} {p : State → α} (hp : BesideChannel n p) (s : State) (hn : n < 64) :
    p (s.resume n) = p s := by
  rw [State.resume, apply_ite p, hp.solAct _ _ _ hn, hp.solCommand _ hn, ite_self]

theorem Undriven.resume {α : Type} {n : Nat} {p : State → α} (hp : Undriven p) (s : State) (hn : n < 64) :
    p (s.resume n) = p s := by
  rw [State.resume, apply_ite p, hp.solAct _ _ _ hn, hp.solCommand _ hn, ite_self]

/-- Channel n has a valid entry, whose bytes are e, and its source commands v. -/
structure State.Sourced (n : Nat) (e : List Byte) (v : Nat) (s : State) : Prop where
  valid : s.solValid n = true
  entry : s.entry 1 n = e
  source : s.solSource n = v

section
variable {s : State} {n m : Nat} {e : List Byte} {v : Nat}

theorem State.Sourced.resume_ne (h : s.Sourced m e v) (hn : n < 64) (hm : m ≠ n) : (s.resume n).Sourced m e v where
  valid := ((undriven_solValid m).resume s hn).trans h.valid
  entry := ((undriven_entry 1 m).resume s hn).trans h.entry
  source := (State.eq_of_unitReading (((commandReading_solSource m).beside hm).resume s hn) (State.solValid_unit h.valid)).trans h.source

theorem State.CHCMD_resume_ne (h : s.Sourced m e v) (hn : n < 64) (hm : m ≠ n) :
    (s.resume n).fld (solF F.SOL_CHCMD_CMD m) = s.fld (solF F.SOL_CHCMD_CMD m) :=
  State.eq_of_unitReading (((commandReading_CHCMD m).beside hm).resume s hn) (State.solValid_unit h.valid)

theorem State.Sourced.resume_same (h : s.Sourced n e v) (hn : n < 64) :
    (s.resume n).Sourced n e v ∧ (s.resume n).fld (solF F.SOL_CHCMD_CMD n) = min v (vMax e) := by
  have hunit := State.solValid_unit h.valid
  have hunit' : (s.solCommand n).solSlave n = false := ((undriven_solSlave n).solCommand s hn).trans hunit
  have hsource : (s.resume n).solSource n = s.solSource n := by
    rw [State.resume, if_pos h.valid,
      State.eq_of_unitReading (((commandReading_solSource n).unwaved n).solAct _ _ _ hn) hunit']
    exact (commandReading_solSource n).solCommand
      (fun s _ => State.solSource_congr rfl rfl (State.reg_setReg_ne s _ (SOL_CMD_ne_CHCMD n))) hunit hn
  have hchcmd : (s.resume n).fld (solF F.SOL_CHCMD_CMD n) = (s.solCommand n).fld (solF F.SOL_CHCMD_CMD n) := by
    rw [State.resume, if_pos h.valid,
      State.eq_of_unitReading (((commandReading_CHCMD n).unwaved n).solAct _ _ _ hn) hunit']
  refine ⟨⟨((undriven_solValid n).resume s hn).trans h.valid, ((undriven_entry 1 n).resume s hn).trans h.entry, hsource.trans h.source⟩, ?_⟩
  rw [hchcmd, State.fld_CHCMD_solCommand h.valid hn, h.source, h.entry]

end

/-- Every channel of a list with a valid entry takes its source's command. -/
theorem State.CHCMD_allResume {s : State} {d j : Nat} (hd : d < 2) (hj : j < 32) (hvalid : s.solValid (32 * d + j) = true) :
    ((List.range 32).foldl (fun s j => s.resume (32 * d + j)) s).fld (solF F.SOL_CHCMD_CMD (32 * d + j)) =
      min (s.solSource (32 * d + j)) (vMax (s.entry 1 (32 * d + j))) := by
  have hlt {i : Nat} (hi : i ∈ List.range 32) : 32 * d + i < 64 := by have := List.mem_range.mp hi; omega
  have hne {i : Nat} (hi : i ≠ j) : 32 * d + j ≠ 32 * d + i := by omega
  refine (State.foldl_reaches (Q := State.Sourced (32 * d + j) (s.entry 1 (32 * d + j)) (s.solSource (32 * d + j)))
    (D := fun u => u.Sourced (32 * d + j) (s.entry 1 (32 * d + j)) (s.solSource (32 * d + j)) ∧ u.fld (solF F.SOL_CHCMD_CMD (32 * d + j)) =
      min (s.solSource (32 * d + j)) (vMax (s.entry 1 (32 * d + j)))) List.nodup_range (List.mem_range.mpr hj) ?_ ?_ ?_ ⟨hvalid, rfl, rfl⟩).2
  · exact fun u hu => hu.resume_same (by omega)
  · exact fun u i hi hij hu => hu.resume_ne (hlt hi) (hne hij)
  · exact fun u i hi hij hu => ⟨hu.1.resume_ne (hlt hi) (hne hij), (State.CHCMD_resume_ne hu.1 (hlt hi) (hne hij)).trans hu.2⟩

/-- A write of SOL_CTL by the value of EN before and after (R210). -/
theorem State.writeSolCtl_cases (s : State) (d : Nat) (w : Word) :
    (s.flag (F.SOL_CTL_EN d) = true ∧ (s.writePlain (R.SOL_CTL d) w).flag (F.SOL_CTL_EN d) = false ∧
      s.writeSolCtl d w = (List.range 32).foldl (fun s j => s.solOff (32 * d + j)) (s.writePlain (R.SOL_CTL d) w)) ∨
    (s.flag (F.SOL_CTL_EN d) = false ∧ (s.writePlain (R.SOL_CTL d) w).flag (F.SOL_CTL_EN d) = true ∧
      s.writeSolCtl d w = (List.range 32).foldl (fun s j => s.resume (32 * d + j)) (s.writePlain (R.SOL_CTL d) w)) ∨
    (s.flag (F.SOL_CTL_EN d) = (s.writePlain (R.SOL_CTL d) w).flag (F.SOL_CTL_EN d) ∧ s.writeSolCtl d w = s.writePlain (R.SOL_CTL d) w) := by
  simp only [State.writeSolCtl]
  cases s.flag (F.SOL_CTL_EN d) <;> cases (s.writePlain (R.SOL_CTL d) w).flag (F.SOL_CTL_EN d)
  · exact .inr (.inr ⟨rfl, rfl⟩)
  · exact .inr (.inl ⟨rfl, rfl, rfl⟩)
  · exact .inl ⟨rfl, rfl, rfl⟩
  · exact .inr (.inr ⟨rfl, rfl⟩)

/-- What the channels of a die leave, whether they are turned off or resume, a write of SOL_CTL leaves. -/
theorem State.writeSolCtl_keeps {α : Type} {p : State → α} (s : State) {d : Nat} (w : Word)
    (hoff : ∀ (u : State) {n : Nat}, n < 64 → p (u.solOff n) = p u) (hresume : ∀ (u : State) {n : Nat}, n < 64 → p (u.resume n) = p u)
    (hd : d < 2) : p (s.writeSolCtl d w) = p (s.writePlain (R.SOL_CTL d) w) := by
  have hlt {i : Nat} (hi : i ∈ List.range 32) : 32 * d + i < 64 := by have := List.mem_range.mp hi; omega
  obtain ⟨-, -, h⟩ | ⟨-, -, h⟩ | ⟨-, h⟩ := s.writeSolCtl_cases d w
  · rw [h, State.foldl_keeps_of_mem fun u i hi => hoff u (hlt hi)]
  · rw [h, State.foldl_keeps_of_mem fun u i hi => hresume u (hlt hi)]
  · rw [h]

theorem solEnable_switches (s : State) (acc : Acc) (d : Fin 2) (v : Word) (h : s.takesWrite acc (R.SOL_CTL d)) :
    Gives (exec (.solEnable acc d v) s) (fun t =>
      t.reg (R.SOL_CTL d) = writtenWord (R.SOL_CTL d) (s.locked (R.SOL_CTL d)) (s.reg (R.SOL_CTL d)) v ∧
      (s.flag (F.SOL_CTL_EN d) → t.flag (F.SOL_CTL_EN d) = false → ∀ j < 32, s.solSlave (32 * d + j) = false →
        t.solPhase (32 * d + j) = phOFF ∨ t.solPhase (32 * d + j) = phDECAY ∨ t.solPhase (32 * d + j) = phFAULT) ∧
      (s.flag (F.SOL_CTL_EN d) = false → t.flag (F.SOL_CTL_EN d) → ∀ j < 32, s.solValid (32 * d + j) →
        t.fld (solF F.SOL_CHCMD_CMD (32 * d + j)) = min (s.solSource (32 * d + j)) (vMax (s.entry 1 (32 * d + j)))) ∧ t.mem = s.mem) := by
  have hexec : exec (.solEnable acc d v) s = execSolEnable acc d v s := by rfl
  let written := s.writePlain (R.SOL_CTL d) v
  have hreg (n : Nat) : BesideChannel n (fun s => s.reg (R.SOL_CTL d)) :=
    beside_dieReg (by simp only [isDieReg, R.SOL_CTL]; omega) n
  have hctl : (s.writeSolCtl d v).reg (R.SOL_CTL d) = written.reg (R.SOL_CTL d) :=
    State.writeSolCtl_keeps (p := fun s => s.reg (R.SOL_CTL d)) s v (fun u n hn => (hreg n).solOff u hn)
      (fun u n hn => (hreg n).resume u hn) d.isLt
  have hen : (s.writeSolCtl d v).flag (F.SOL_CTL_EN d) = written.flag (F.SOL_CTL_EN d) := State.flag_congr (State.fld_congr hctl)
  refine ⟨s.writeSolCtl d v, ?_, hctl.trans (State.reg_setReg_same s _ _),
    fun hon hoff j hj hslave => ?_, fun hoff hon j hj hvalid => ?_, ?_⟩
  · rw [hexec, execSolEnable, State.guardWrite_of_takesWrite s acc _ _ h]
  · obtain ⟨-, -, hrun⟩ | ⟨hwas, -, -⟩ | ⟨hsame, -⟩ := s.writeSolCtl_cases d v
    · rw [hrun]
      exact State.isOff_allOff (s := written) d.isLt hj (State.solHalf_of_solSlave hslave)
    · rw [hwas] at hon; cases hon
    · rw [hsame, ← hen, hoff] at hon; cases hon
  · obtain ⟨hwas, -, -⟩ | ⟨-, -, hrun⟩ | ⟨hsame, -⟩ := s.writeSolCtl_cases d v
    · rw [hoff] at hwas; cases hwas
    · have hsource : written.solSource (32 * d + j) = s.solSource (32 * d + j) :=
        (commandReading_solSource _).setReg s _ (by simp only [R.SOL_CTL, R.SOL_CMD]; omega) (by simp only [R.SOL_CTL, R.SOL_CHCMD]; omega)
      rw [hrun, State.CHCMD_allResume (s := written) d.isLt hj hvalid, hsource]
      rfl
    · rw [hoff, ← hen, hon] at hsame; cases hsame
  · exact State.writeSolCtl_keeps (p := State.mem) s v (fun u n hn => undriven_mem.solOff u hn) (fun u n hn => undriven_mem.resume u hn) d.isLt

end Sys2Proof.Machine
end

section
/-! Boost converters: the measured voltage, the enable and the faults (R204). -/

namespace Sys2Proof.Machine

/-! ### The measured voltage -/

theorem SOL_BSTCFG_ne_BSTSTAT (b : Nat) : R.SOL_BSTCFG (b / 2) (b % 2) ≠ R.SOL_BSTSTAT (b / 2) (b % 2) := by
  simp only [R.SOL_BSTCFG, R.SOL_BSTSTAT]
  omega

/-- A reading that neither the status register of converter b enters, nor whether the converter is stopped. -/
theorem State.boostVolt_keeps {α : Type} {p : State → α} {b : Nat}
    (hreg : ∀ (s : State) (w : Word), p (s.setReg (R.SOL_BSTSTAT (b / 2) (b % 2)) w) = p s)
    (hstop : ∀ (s : State) (x : Bool), p (s.setStopped b x) = p s) (s : State) (v : Nat) : p (s.boostVolt b v) = p s := by
  have hvmeas : p (s.setFld (bstF F.SOL_BSTSTAT_VMEAS b) v) = p s := hreg s _
  unfold State.boostVolt
  extract_lets measured switching
  refine (hreg switching _).trans (Eq.trans ?_ hvmeas)
  rw [apply_ite p, hstop, ite_self]

theorem State.boostVolt_chs (s : State) (b v : Nat) : (s.boostVolt b v).sol.chs = s.sol.chs :=
  State.boostVolt_keeps (p := fun s => s.sol.chs) (fun _ _ => rfl) (fun _ _ => rfl) s v

theorem State.boostVolt_mem (s : State) (b v : Nat) : (s.boostVolt b v).mem = s.mem :=
  State.boostVolt_keeps (p := State.mem) (fun _ _ => rfl) (fun _ _ => rfl) s v

theorem State.reg_BSTCFG_boostVolt (s : State) (b v : Nat) :
    (s.boostVolt b v).reg (R.SOL_BSTCFG (b / 2) (b % 2)) = s.reg (R.SOL_BSTCFG (b / 2) (b % 2)) :=
  State.boostVolt_keeps (p := fun s => s.reg (R.SOL_BSTCFG (b / 2) (b % 2)))
    (fun s w => State.reg_setReg_ne s w (SOL_BSTCFG_ne_BSTSTAT b)) (fun _ _ => rfl) s v

theorem State.reg_setStopped (s : State) (b : Nat) (x : Bool) (a : Nat) : (s.setStopped b x).reg a = s.reg a := rfl

theorem State.setStopped_chs (s : State) (b : Nat) (x : Bool) : (s.setStopped b x).sol.chs = s.sol.chs := rfl

theorem State.boostStopped_setFld (s : State) (b : Nat) (f : Fld) (v : Nat) : (s.setFld f v).boostStopped b = s.boostStopped b := rfl

theorem State.boostStopped_setBit (s : State) (b : Nat) (f : Fld) (x : Bool) : (s.setBit f x).boostStopped b = s.boostStopped b := rfl

theorem State.boostStopped_setStopped (s : State) (b : Nat) (x : Bool) : (s.setStopped b x).boostStopped b = x := SMap.get_set_same _ _ _

theorem State.flag_setBit (s : State) (f : Fld) (hf : f.Ok) (x : Bool) : (s.setBit f x).flag f = x := by
  cases x
  · exact s.flag_setFld_zero f hf
  · exact s.flag_setFld_one f hf

/-- READY while EN is 1 and the voltage is at or above RDY % of SETPT (R204). -/
theorem State.READY_boostVolt (s : State) (b v : Nat) : (s.boostVolt b v).flag (bstF F.SOL_BSTSTAT_READY b) =
    (s.flag (bstF F.SOL_BSTCFG_EN b) && decide (s.fld (bstF F.SOL_BSTCFG_RDY b) * s.fld (bstF F.SOL_BSTCFG_SETPT b) * 50 ≤ 100 * v)) := by
  unfold State.boostVolt
  extract_lets measured switching
  have hcfg : switching.reg (R.SOL_BSTCFG (b / 2) (b % 2)) = s.reg (R.SOL_BSTCFG (b / 2) (b % 2)) :=
    calc switching.reg (R.SOL_BSTCFG (b / 2) (b % 2))
      _ = measured.reg (R.SOL_BSTCFG (b / 2) (b % 2)) := by
        simp only [switching]
        rw [apply_ite (State.reg · _), State.reg_setStopped, ite_self]
      _ = s.reg (R.SOL_BSTCFG (b / 2) (b % 2)) := State.reg_setReg_ne s _ (SOL_BSTCFG_ne_BSTSTAT b)
  have hfld (f : Nat → Nat → Fld) (hf : ∀ d k, (f d k).addr = R.SOL_BSTCFG d k) : switching.fld (bstF f b) = s.fld (bstF f b) :=
    State.fld_congr ((congrArg switching.reg (hf _ _)).trans (hcfg.trans (congrArg s.reg (hf _ _)).symm))
  have hok : (bstF F.SOL_BSTSTAT_READY b).Ok := fldOk (by decide)
  rw [State.flag_setBit _ _ hok, State.flag_congr (hfld F.SOL_BSTCFG_EN fun _ _ => rfl), hfld F.SOL_BSTCFG_RDY fun _ _ => rfl,
    hfld F.SOL_BSTCFG_SETPT fun _ _ => rfl]

/-- A stopped converter switches again once its voltage has fallen to SETPT (R204). -/
theorem State.boostStopped_boostVolt (s : State) (b v : Nat) : (s.boostVolt b v).boostStopped b =
    (s.boostStopped b && !decide (v ≤ 50 * s.fld (bstF F.SOL_BSTCFG_SETPT b))) := by
  unfold State.boostVolt
  extract_lets measured switching
  have hsetpt : measured.fld (bstF F.SOL_BSTCFG_SETPT b) = s.fld (bstF F.SOL_BSTCFG_SETPT b) :=
    State.fld_setFld_ne s _ _ (SOL_BSTCFG_ne_BSTSTAT b) v
  have hstopped : measured.boostStopped b = s.boostStopped b := s.boostStopped_setFld b _ v
  rw [State.boostStopped_setBit, apply_ite (State.boostStopped · b), State.boostStopped_setStopped, hstopped, hsetpt]
  generalize decide (v ≤ 50 * s.fld (bstF F.SOL_BSTCFG_SETPT b)) = fallen
  cases s.boostStopped b <;> cases fallen <;> rfl

/-! ### Commands -/

theorem boostEnable_enables (s : State) (acc : Acc) (b : Fin 4) (v : Word) (w : Word) (h : s.takesWrite acc (R.SOL_BSTCFG (b / 2) (b % 2)))
    (hw : w = writtenWord (R.SOL_BSTCFG (b / 2) (b % 2)) (s.locked (R.SOL_BSTCFG (b / 2) (b % 2))) (s.reg (R.SOL_BSTCFG (b / 2) (b % 2))) (v ||| 1))
    (hsetpt : within 48 120 ((bstF F.SOL_BSTCFG_SETPT b).get w)) :
    Gives (exec (.boostEnable acc b v) s) (fun t => t.reg (R.SOL_BSTCFG (b / 2) (b % 2)) = w ∧
      t.flag (bstF F.SOL_BSTSTAT_READY b) = ((bstF F.SOL_BSTCFG_EN b).get w = 1 ∧
        (bstF F.SOL_BSTCFG_RDY b).get w * (bstF F.SOL_BSTCFG_SETPT b).get w * 50 ≤ 100 * s.fld (bstF F.SOL_BSTSTAT_VMEAS b) : Bool) ∧
      t.sol.chs = s.sol.chs ∧ t.mem = s.mem) := by
  have hexec : exec (.boostEnable acc b v) s = execBoostEnable acc b v s := by rfl
  let written := s.setReg (R.SOL_BSTCFG (b / 2) (b % 2)) w
  have hvmeas : written.fld (bstF F.SOL_BSTSTAT_VMEAS b) = s.fld (bstF F.SOL_BSTSTAT_VMEAS b) :=
    State.fld_setReg_ne s _ w _ (SOL_BSTCFG_ne_BSTSTAT b).symm
  have hfld (f : Nat → Nat → Fld) (hf : ∀ d k, (f d k).addr = R.SOL_BSTCFG d k) : written.fld (bstF f b) = (bstF f b).get w := by
    rw [State.fld, bstF, hf]
    exact congrArg _ (State.reg_setReg_same s _ w)
  refine ⟨written.boostVolt b (written.fld (bstF F.SOL_BSTSTAT_VMEAS b)), ?_, ?_, ?_, ?_, ?_⟩
  · rw [hexec, execBoostEnable, State.guardWrite_of_takesWrite s acc _ _ h]
    simp only [State.writeBstCfg, ← hw, hsetpt, if_true, written]
  · rw [State.reg_BSTCFG_boostVolt]
    exact State.reg_setReg_same s _ w
  · rw [State.READY_boostVolt, hvmeas, State.flag, hfld F.SOL_BSTCFG_EN fun _ _ => rfl, hfld F.SOL_BSTCFG_RDY fun _ _ => rfl,
      hfld F.SOL_BSTCFG_SETPT fun _ _ => rfl, Bool.decide_and]
  · exact State.boostVolt_chs written b _
  · exact State.boostVolt_mem written b _

/-- A fault of converter b: its flag, and the flag and interrupt of the die (R204). -/
def State.boostFault (s : State) (f : Nat → Nat → Fld) (b : Nat) : State :=
  (s.setFld (bstF f b) 1).raiseFlag (F.SOL_STAT_BST_FAULT (b / 2)) (187 + b / 2)

theorem SOL_STAT_ne_pend (d : Nat) : R.SOL_STAT d ≠ R.RNG_INT_PEND ((187 + d) / 32) := by
  simp only [R.SOL_STAT, R.RNG_INT_PEND]
  omega

section
variable (s : State) (f : Nat → Nat → Fld) (b : Fin 4)

theorem State.flag_boostFault (haddr : ∀ d k, (f d k).addr = R.SOL_BSTSTAT d k) (hok : ∀ d k, (f d k).Ok) :
    (s.boostFault f b).flag (bstF f b) = true := by
  have hreg : (s.boostFault f b).reg (bstF f b).addr = (s.setFld (bstF f b) 1).reg (bstF f b).addr := by
    refine State.reg_raiseFlag_ne _ _ _ _ ?_ ?_ <;> rw [bstF, haddr] <;>
      simp only [F.SOL_STAT_BST_FAULT, R.SOL_BSTSTAT, R.SOL_STAT, R.RNG_INT_PEND] <;> omega
  exact (State.flag_congr (State.fld_congr hreg)).trans (State.flag_setFld_one s _ (hok _ _))

theorem State.BST_FAULT_boostFault : (s.boostFault f b).flag (F.SOL_STAT_BST_FAULT (b / 2)) = true :=
  State.flag_raiseFlag _ _ (fldOk (by decide)) _ (SOL_STAT_ne_pend _)

theorem State.boostFault_sol : (s.boostFault f b).sol = s.sol := State.raiseFlag_sol _ _ _

theorem State.boostFault_mem : (s.boostFault f b).mem = s.mem := State.raiseFlag_mem _ _ _

end

/-- An event leaves the registers of the drivers. -/
theorem State.flag_event_driver (s : State) (code : Nat) (args : List Word) {f : Fld} (hf : R.SOL_CTL 0 ≤ f.addr) :
    (s.event code args).flag f = s.flag f := by
  refine State.flag_congr (State.fld_congr (State.event_onlyRegs _ _ _ _ fun hmem => ?_))
  simp only [eventRegs, R.EVR_LOSTCNT, R.EVR_STAT, R.RNG_INT_PEND, R.SOL_CTL, List.mem_cons, List.not_mem_nil, or_false] at hmem hf
  omega

theorem State.boostStopped_congr {s t : State} (h : t.sol = s.sol) (b : Nat) : t.boostStopped b = s.boostStopped b := by
  rw [State.boostStopped, State.boostStopped, h]

theorem State.SETPT_boostVolt (s : State) (b v : Nat) : (s.boostVolt b v).fld (bstF F.SOL_BSTCFG_SETPT b) = s.fld (bstF F.SOL_BSTCFG_SETPT b) :=
  State.fld_congr (s.reg_BSTCFG_boostVolt b v)

theorem boostUv_faults (s : State) (b : Fin 4) (v ms : BitVec 16) (hpart : s.part.hasSol (16 * b)) (hen : s.flag (bstF F.SOL_BSTCFG_EN b))
    (hv : v.toNat < 40 * s.fld (bstF F.SOL_BSTCFG_SETPT b)) (hms : 10 ≤ ms.toNat) :
    Gives (exec (.boostUv b v ms) s) (fun t => t.flag (bstF F.SOL_BSTSTAT_UV b) ∧ t.flag (F.SOL_STAT_BST_FAULT (b / 2)) ∧
      t.boostStopped b = false ∧ t.sol.chs = s.sol.chs ∧ t.mem = s.mem) := by
  have hexec : exec (.boostUv b v ms) s = execBoostUv b v ms s := by rfl
  have henabled : (s.boostVolt b v.toNat).flag (bstF F.SOL_BSTCFG_EN b) = true :=
    (State.flag_congr (State.fld_congr (s.reg_BSTCFG_boostVolt b v.toNat))).trans hen
  have hfell : v.toNat ≤ 50 * s.fld (bstF F.SOL_BSTCFG_SETPT b) := by omega
  refine ⟨(s.boostVolt b v.toNat).boostFault F.SOL_BSTSTAT_UV b, ?_, State.flag_boostFault _ _ b (fun _ _ => rfl) (fun _ _ => fldOk (by decide)),
    State.BST_FAULT_boostFault _ _ b, ?_, ?_, ?_⟩
  · rw [hexec, execBoostUv, if_pos hpart]
    simp only [henabled, State.SETPT_boostVolt, decide_eq_true hv, decide_eq_true hms, Bool.and_self, if_true, State.boostFault]
  · rw [State.boostStopped_congr (State.boostFault_sol _ _ b), State.boostStopped_boostVolt, decide_eq_true hfell, Bool.not_true, Bool.and_false]
  · rw [State.boostFault_sol, State.boostVolt_chs]
  · rw [State.boostFault_mem, State.boostVolt_mem]

theorem solBoostFault_stops (s : State) (b : Fin 4) (v : BitVec 16) (hpart : s.part.hasSol (16 * b)) (hswitching : s.boostStopped b = false)
    (hv : min (50 * s.fld (bstF F.SOL_BSTCFG_SETPT b) + 800) 6300 ≤ v.toNat) :
    Gives (exec (.solBoostFault b v) s) (fun t => t.flag (bstF F.SOL_BSTSTAT_OV b) ∧ t.flag (F.SOL_STAT_BST_FAULT (b / 2)) ∧
      t.boostStopped b ∧ t.sol.chs = s.sol.chs ∧ t.mem = s.mem) := by
  have hexec : exec (.solBoostFault b v) s = execSolBoostFault b v s := by rfl
  have hnotStopped : (s.boostVolt b v.toNat).boostStopped b = false := by rw [State.boostStopped_boostVolt, hswitching, Bool.false_and]
  refine ⟨(((s.boostVolt b v.toNat).setStopped b true).boostFault F.SOL_BSTSTAT_OV b).event 0x0603 [], ?_, ?_, ?_, ?_, ?_, ?_⟩
  · rw [hexec, execSolBoostFault, if_pos hpart]
    simp only [hnotStopped, State.SETPT_boostVolt, decide_eq_true hv, Bool.not_false, Bool.and_self, if_true, State.boostFault]
  · rw [State.flag_event_driver _ _ _ (by simp only [bstF, F.SOL_BSTSTAT_OV, R.SOL_BSTSTAT, R.SOL_CTL]; omega)]
    exact State.flag_boostFault _ _ b (fun _ _ => rfl) fun _ _ => fldOk (by decide)
  · rw [State.flag_event_driver _ _ _ (SOL_STAT_ge _), State.BST_FAULT_boostFault]
  · rw [State.boostStopped_congr (unmoved_sol.event _ _ _), State.boostStopped_congr (State.boostFault_sol _ _ b), State.boostStopped_setStopped]
  · rw [unmoved_sol.event, State.boostFault_sol, State.setStopped_chs, State.boostVolt_chs]
  · rw [unmoved_mem.event, State.boostFault_mem, State.setStopped_mem, State.boostVolt_mem]

end Sys2Proof.Machine
end

section
/-! The bank token and the bands (R216, R217), and the settling of the waveform commands. -/

namespace Sys2Proof.Machine

/-! ### The members of a bank -/

theorem State.lt_of_mem_bank {s : State} {k n : Nat} (hk : k < 16) (h : n ∈ s.bankMembers k) : n < 64 := by
  obtain ⟨i, hi, rfl⟩ := List.mem_map.mp (List.mem_filter.mp h).1
  simp only [List.mem_cons, List.not_mem_nil, or_false] at hi
  omega

theorem State.solHalf_of_mem_bankMembers {s : State} {k n : Nat} (h : n ∈ s.bankMembers k) : s.solHalf n = false := by
  simpa using (List.mem_filter.mp h).2

theorem State.nodup_bankMembers (s : State) (k : Nat) : (s.bankMembers k).Nodup := by
  refine List.Nodup.filter _ (List.Nodup.map (fun a b h => Nat.add_left_cancel h) ?_)
  decide

theorem State.bankMembers_congr {s t : State} (h : ∀ m, t.solHalf m = s.solHalf m) (k : Nat) : t.bankMembers k = s.bankMembers k := by
  simp only [State.bankMembers, h]

theorem State.mem_bankMembers {s : State} {n : Nat} (h : s.solHalf n = false) : n ∈ s.bankMembers (n / 4) := by
  refine List.mem_filter.mpr ⟨List.mem_map.mpr ⟨n % 4, ?_, by omega⟩, by rw [h]; rfl⟩
  have hlt : n % 4 < 4 := by omega
  interval_cases n % 4 <;> decide

/-! ### The token -/

/-- Which channels of a bank hold the token, and which wait for it, is no matter of notes. -/
theorem State.Noted.solPhase {s u : State} (h : s.Noted u) {m : Nat} (hhalf : s.solHalf m = false) : u.solPhase m = s.solPhase m :=
  State.fld_of_ownFld (h.keeps (plainField_PHASE m).unnoted) hhalf

theorem State.Noted.bankMembers {s u : State} (h : s.Noted u) (k : Nat) : u.bankMembers k = s.bankMembers k :=
  State.bankMembers_congr h.solHalf k

theorem State.Noted.bankHolder {s u : State} (h : s.Noted u) (k : Nat) : u.bankHolder k = s.bankHolder k := by
  rw [State.bankHolder, State.bankHolder, h.bankMembers]
  exact List.find?_congr fun m hm => by rw [h.solPhase (State.solHalf_of_mem_bankMembers hm)]

theorem State.Noted.solCanStart {s u : State} (h : s.Noted u) (n : Nat) : u.solCanStart n = s.solCanStart n := by
  have hready : u.reg (R.SOL_BSTSTAT (n / 16 / 2) (n / 16 % 2)) = s.reg (R.SOL_BSTSTAT (n / 16 / 2) (n / 16 % 2)) :=
    h.keeps (beside_dieReg (by simp only [isDieReg, R.SOL_CTL, R.SOL_BSTSTAT]; omega) 0).toUnnoted
  have hflag : u.solBoostReady n = s.solBoostReady n := State.flag_congr (State.fld_congr hready)
  rw [State.solCanStart, State.solCanStart, h.sch, hflag]

theorem State.Noted.bankNext {s u : State} (h : s.Noted u) (k : Nat) : u.bankNext k = s.bankNext k := by
  rw [State.bankNext, State.bankNext, h.bankMembers]
  refine List.foldl_ext _ _ _ fun best m hm => ?_
  simp only [h.solPhase (State.solHalf_of_mem_bankMembers hm), h.solCanStart, h.sch]

theorem State.mem_of_bankNext {s : State} {k n : Nat} (h : s.bankNext k = some n) : n ∈ s.bankMembers k := by
  have hinv : ∀ m, s.bankNext k = some m → m ∈ s.bankMembers k := by
    refine List.foldlRecOn (motive := fun best => ∀ m, best = some m → m ∈ s.bankMembers k) _ _ (fun m hm => by cases hm) ?_
    intro best hbest x hx m hm
    split at hm
    · split at hm
      · split at hm
        · exact Option.some.inj hm ▸ hx
        · exact hbest m hm
      · exact Option.some.inj hm ▸ hx
    · exact hbest m hm
  exact hinv n h

/-- The waiting requests of a bank that find their boost feed not READY show it (R218). -/
def State.bankAsked (s : State) (k : Nat) : State :=
  (s.bankMembers k).foldl (fun s n => if s.solPhase n = phWAIT then s.solNotReady n else s) s

theorem State.noted_bankAsked (s : State) (k : Nat) : s.Noted (s.bankAsked k) :=
  ⟨fun {_ p} hp => State.foldl_keeps (p := p) (fun u n => by rw [apply_ite p, hp.solNotReady, ite_self]) _ s⟩

theorem tokenGrant_grants (s u : State) (k : Fin 16) (v : BitVec 16) (n : Nat) (hpart : s.part.hasSol (4 * k))
    (hu : u = s.boostVolt (k / 4) v.toNat) (hfree : u.bankHolder k = none) (hnext : u.bankNext k = some n) :
    Gives (exec (.tokenGrant k v) s) (fun t => t.solPhase n = (if (s.sch n).wave.bsten then phBOOST else phPEAK) ∧
      (t.sch n).phaseAt = s.now ∧ (∀ m, m ≠ n → t.sch m = s.sch m) ∧ t.mem = s.mem) := by
  have hexec : exec (.tokenGrant k v) s = execTokenGrant k v s := by rfl
  have hnoted := u.noted_bankAsked k
  have hsch (m : Nat) : u.sch m = s.sch m := by rw [State.sch, hu, State.boostVolt_chs, State.sch]
  have hnow : u.now = s.now := hu ▸ State.boostVolt_keeps (p := State.now) (fun _ _ => rfl) (fun _ _ => rfl) s v.toNat
  have hmem : u.mem = s.mem := hu ▸ s.boostVolt_mem _ _
  have hph : (if ((u.bankAsked k).sch n).wave.bsten then phBOOST else phPEAK) < 8 := by split <;> decide
  obtain ⟨hphase, hat, hothers, hkept⟩ : u.Reached ((u.bankAsked k).solGrant n) n _ :=
    hnoted.reached (State.solHalf_of_mem_bankMembers (State.mem_of_bankNext hnext)) hph
  refine ⟨(u.bankAsked k).solGrant n, ?_, ?_, hat.trans hnow, fun m hm => (hothers m hm).trans (hsch m), hkept.trans hmem⟩
  · rw [hexec, execTokenGrant, if_pos hpart]
    simp only [← hu]
    rw [← State.bankAsked, hnoted.bankHolder, hnoted.bankNext, hfree, hnext]
  · rw [hphase, hnoted.sch, hsch]

/-! ### The bands -/

theorem State.bandStep_congr {s t : State} (h : t.regs = s.regs) (d p : Nat) (c : Int) (fuel b : Nat) :
    t.bandStep d p c fuel b = s.bandStep d p c fuel b := by
  have hfld (f : Fld) : t.fld f = s.fld f := by rw [State.fld, State.fld, State.reg, State.reg, h]
  have hbound (b : Nat) : t.solTB d p b = s.solTB d p b := by
    simp only [State.solTB, State.fldInt, State.reg, h]
  induction fuel generalizing b with
  | zero => rfl
  | succ fuel ih => simp only [State.bandStep, hfld, hbound, ih]

/-- What the bands read beside the channels: a band evaluation leaves it. -/
structure State.SameBands (s t : State) : Prop where
  regs : t.regs = s.regs
  entries : t.entries = s.entries
  part : t.part = s.part

section
variable {s t : State} (h : s.SameBands t)
include h

theorem State.SameBands.entry (i : Nat) : t.entry 1 i = s.entry 1 i := by rw [State.entry, State.entry, h.entries]

theorem State.SameBands.solValid (n : Nat) : t.solValid n = s.solValid n := by
  simp only [State.solValid, State.solOk, State.solSlave, State.solPairs, State.hasEntry, h.entry, h.part]

theorem State.SameBands.fld (f : Fld) : t.fld f = s.fld f := by rw [State.fld, State.fld, State.reg, State.reg, h.regs]

theorem State.SameBands.solTemp (n : Nat) : t.solTemp n = s.solTemp n := by
  simp only [State.solTemp, h.fld, h.entry]

end

/-- A channel with another tracked band. -/
def SCh.withBand (x : SCh) (b : Nat) : SCh := { x with beta := b }

/-- The band that channel j of die d tracks at a temperature (R216). -/
def State.trackedBand (s : State) (d j : Nat) (c : Int) : Nat :=
  s.bandStep d (vProfile (s.entry 1 (32 * d + j))) c 8 (s.sch (32 * d + j)).beta

/-- Channel j of die d updates its tracked band by the reading of its sensor (R216). -/
def State.bandTracked (d : Nat) (s : State) (j : Nat) : State :=
  match s.solValid (32 * d + j), s.solTemp (32 * d + j) with
  | true, some c => s.setSch (32 * d + j) ((s.sch (32 * d + j)).withBand (s.trackedBand d j c))
  | _, _ => s

theorem State.bandTracked_keeps {α : Type} {p : State → α} {d j : Nat}
    (hp : ∀ (s : State) (x : SCh), p (s.setSch (32 * d + j) x) = p s) (s : State) : p (State.bandTracked d s j) = p s := by
  unfold State.bandTracked
  split
  · exact hp _ _
  · rfl

theorem State.bandsTracked_keeps {α : Type} {p : State → α} (hp : ∀ (s : State) (n : Nat) (x : SCh), p (s.setSch n x) = p s) (d : Nat)
    (s : State) : p ((List.range 32).foldl (State.bandTracked d) s) = p s :=
  State.foldl_keeps (p := p) (fun u _ => State.bandTracked_keeps (fun s x => hp s _ x) u) _ s

theorem State.sameBands_bandTracked (s : State) (d j : Nat) : s.SameBands (State.bandTracked d s j) where
  regs := State.bandTracked_keeps (fun _ _ => rfl) s
  entries := State.bandTracked_keeps (fun _ _ => rfl) s
  part := State.bandTracked_keeps (fun _ _ => rfl) s

theorem State.sameBands_bandsTracked (s : State) (d : Nat) : s.SameBands ((List.range 32).foldl (State.bandTracked d) s) where
  regs := State.bandsTracked_keeps (fun _ _ _ => rfl) d s
  entries := State.bandsTracked_keeps (fun _ _ _ => rfl) d s
  part := State.bandsTracked_keeps (fun _ _ _ => rfl) d s

/-- Every channel of the die with a valid entry and a temperature tracks its band. -/
theorem State.sch_bandsTracked {s : State} {d j : Nat} {c : Int} (hj : j < 32) (hvalid : s.solValid (32 * d + j) = true)
    (htemp : s.solTemp (32 * d + j) = some c) :
    ((List.range 32).foldl (State.bandTracked d) s).sch (32 * d + j) = (s.sch (32 * d + j)).withBand (s.trackedBand d j c) := by
  have hother {u : State} {i : Nat} (hi : i ≠ j) : (State.bandTracked d u i).sch (32 * d + j) = u.sch (32 * d + j) :=
    State.bandTracked_keeps (p := fun s => s.sch (32 * d + j)) (fun s x => s.sch_setSch_ne x (by omega)) u
  refine State.foldl_reaches (Q := fun u => s.SameBands u ∧ u.sch (32 * d + j) = s.sch (32 * d + j))
    (D := fun u => u.sch (32 * d + j) = (s.sch (32 * d + j)).withBand (s.trackedBand d j c))
    List.nodup_range (List.mem_range.mpr hj) ?_ ?_ ?_ ⟨⟨rfl, rfl, rfl⟩, rfl⟩
  · rintro u ⟨hsame, hsch⟩
    have hrun : State.bandTracked d u j = u.setSch (32 * d + j) ((u.sch (32 * d + j)).withBand (u.trackedBand d j c)) := by
      unfold State.bandTracked
      split
      next x _ hx => rw [Option.some.inj (htemp.symm.trans ((hsame.solTemp _).symm.trans hx))]
      next hnone => exact absurd ((hsame.solTemp _).trans htemp) (hnone c ((hsame.solValid _).trans hvalid))
    rw [hrun, State.sch_setSch_same, State.trackedBand, hsch, hsame.entry, State.bandStep_congr hsame.regs, ← State.trackedBand]
  · rintro u i - hi ⟨hsame, hsch⟩
    have hstep := u.sameBands_bandTracked d i
    exact ⟨⟨hstep.regs.trans hsame.regs, hstep.entries.trans hsame.entries, hstep.part.trans hsame.part⟩, (hother hi).trans hsch⟩
  · exact fun u i _ hi hu => (hother hi).trans hu

/-- The last band evaluation of each die replaced. -/
def State.withBandAt (s : State) (m : List (Nat × Nat)) : State := { s with sol := { s.sol with bandAt := m } }

theorem State.sch_withBandAt (s : State) (m : List (Nat × Nat)) (n : Nat) : (s.withBandAt m).sch n = s.sch n := rfl

theorem State.withBandAt_mem (s : State) (m : List (Nat × Nat)) : (s.withBandAt m).mem = s.mem := rfl

/-- The last band evaluations of the dies, that of die d now (R216). -/
def State.bandNow (s : State) (d : Fin 2) : List (Nat × Nat) := SMap.set (fun _ => 0) s.sol.bandAt d (s.now / 10000000 * 10000000)

/-- The readings of a band evaluation taken in, and the instant of it (R216). -/
def State.bandRead (s : State) (d : Fin 2) (temps : List (Fin 8 × BitVec 16)) (currents : List (Fin 32 × BitVec 16))
    (volts : List (Fin 2 × BitVec 16)) : State :=
  let s := s.withBandAt (s.bandNow d)
  let s := temps.foldl (fun s x => s.setFld (F.SOL_BANKTEMP_TEMP d x.1) x.2.toNat) s
  let s := volts.foldl (fun s x => s.boostVolt (2 * d + x.1) x.2.toNat) s
  currents.foldl (fun s x => (s.setFld (F.SOL_CHI_IMEAS d x.1) x.2.toNat).solShow (32 * d + x.1)) s

/-- The readings change registers alone, beside the converters that switch again. -/
theorem State.bandRead_keeps {α : Type} {p : State → α} (hp : Unmoved p)
    (hstop : ∀ (s : State) (b : Nat) (x : Bool), p (s.setStopped b x) = p s) (s : State) (d : Fin 2)
    (temps : List (Fin 8 × BitVec 16)) (currents : List (Fin 32 × BitVec 16)) (volts : List (Fin 2 × BitVec 16)) :
    p (s.bandRead d temps currents volts) = p (s.withBandAt (s.bandNow d)) := by
  unfold State.bandRead
  rw [State.foldl_keeps (p := p), State.foldl_keeps (p := p), State.foldl_keeps (p := p)]
  · exact fun u x => hp.setFld u _ _
  · exact fun u x => State.boostVolt_keeps (fun s w => hp.setReg s _ w) (fun s y => hstop s _ y) u _
  · exact fun u x => (hp.unnoted.solShow _ _).trans (hp.setFld u _ _)

theorem execBandEval_of_due {s : State} {d : Fin 2} (temps : List (Fin 8 × BitVec 16)) (currents : List (Fin 32 × BitVec 16))
    (volts : List (Fin 2 × BitVec 16)) (hpart : s.part.hasSol (32 * d)) (hdue : s.due (SMap.get (fun _ => 0) s.sol.bandAt d) 10000000) :
    execBandEval d temps currents volts s = .next ((List.range 32).foldl (State.bandTracked d) (s.bandRead d temps currents volts)) := by
  unfold execBandEval
  refine (if_pos (by rw [hpart, hdue]; rfl)).trans (congrArg Host.Outcome.next (List.foldl_ext _ _ _ fun u j _ => ?_))
  unfold State.bandTracked State.trackedBand SCh.withBand
  extract_lets n
  subst n
  cases u.solValid (32 * d + j) <;> cases u.solTemp (32 * d + j) <;> rfl

theorem bandEval_tracks (s : State) (d : Fin 2) (temps : List (Fin 8 × BitVec 16)) (currents : List (Fin 32 × BitVec 16))
    (volts : List (Fin 2 × BitVec 16)) (hpart : s.part.hasSol (32 * d)) (hdue : s.due (SMap.get (fun _ => 0) s.sol.bandAt d) 10000000) :
    Gives (exec (.bandEval d temps currents volts) s) (fun t => SMap.get (fun _ => 0) t.sol.bandAt d = s.now / 10000000 * 10000000 ∧
      (∀ (j : Nat) (c : Int), j < 32 → t.solValid (32 * d + j) → t.solTemp (32 * d + j) = some c →
        t.sch (32 * d + j) = { s.sch (32 * d + j) with
          beta := t.bandStep d (vProfile (t.entry 1 (32 * d + j))) c 8 (s.sch (32 * d + j)).beta }) ∧ t.mem = s.mem) := by
  have hexec : exec (.bandEval d temps currents volts) s = execBandEval d temps currents volts s := by rfl
  let read := s.bandRead d temps currents volts
  have hsame := read.sameBands_bandsTracked d
  have hsch (n : Nat) : read.sch n = s.sch n :=
    (State.bandRead_keeps (unmoved_sch n) (fun _ _ _ => rfl) s d temps currents volts).trans (s.sch_withBandAt _ n)
  have hat : read.sol.bandAt = s.bandNow d :=
    State.bandRead_keeps (p := fun s => s.sol.bandAt) ⟨fun _ _ _ => rfl, fun _ _ => rfl, fun _ _ _ => rfl⟩ (fun _ _ _ => rfl) s d temps
      currents volts
  refine ⟨(List.range 32).foldl (State.bandTracked d) read, ?_, ?_, fun j c hj hvalid htemp => ?_, ?_⟩
  · rw [hexec, execBandEval_of_due _ _ _ hpart hdue]
  · rw [State.bandsTracked_keeps (p := fun s => s.sol.bandAt) (fun _ _ _ => rfl), hat, State.bandNow, SMap.get_set_same]
  · rw [hsame.solValid] at hvalid
    rw [hsame.solTemp] at htemp
    rw [State.sch_bandsTracked hj hvalid htemp, State.trackedBand, hsch, hsame.entry, State.bandStep_congr hsame.regs]
    rfl
  · rw [State.bandsTracked_keeps (p := State.mem) (fun _ _ _ => rfl), State.bandRead_keeps unmoved_mem (fun _ _ _ => rfl), State.withBandAt_mem]

/-! ### The settling -/

/-- Settles O19: each clause by its own lemma. The phases come from the one of going to a phase, the command from what the walk over a die's
channels leaves of each, the token from the notes that leave its holder and the next request, the bands from the walk that tracks them. -/
theorem solenoidWaveformCommandsComplete : Obligations.SolenoidWaveformCommandsComplete :=
  ⟨solCmdWrite_commands, solEnable_switches, tokenGrant_grants, peakSkip_holds, boostEnd_ends, boostTo_peaks, peakEnd_decays,
    holdEntry_holds, decayEnd_ends, bandEval_tracks, boostEnable_enables⟩

end Sys2Proof.Machine
end

section
/-! Faults of the solenoid channels and banks, and their release (R220, R221). -/

namespace Sys2Proof.Machine

/-! ### Entering FAULT -/

theorem plainField_FCAUSE (m : Nat) : PlainField m (solF F.SOL_CHSTAT_FCAUSE m) := plainField (by decide)

theorem plainField_BANK (m : Nat) : PlainField m (solF F.SOL_CHSTAT_BANK m) := plainField (by decide)

/-- Channel n has a status of its own, a phase and a cause. -/
structure State.Stands (n ph c : Nat) (s : State) : Prop where
  own : s.solHalf n = false
  phase : s.solPhase n = ph
  cause : s.fld (solF F.SOL_CHSTAT_FCAUSE n) = c

/-- What the phase and the cause of channel n do not enter, beside it. -/
theorem State.Stands.of_ownFld {s t : State} {n ph c : Nat} (h : s.Stands n ph c) (hhalf : t.solHalf n = s.solHalf n)
    (hphase : t.ownFld n (solF F.SOL_CHSTAT_PHASE n) = s.ownFld n (solF F.SOL_CHSTAT_PHASE n))
    (hcause : t.ownFld n (solF F.SOL_CHSTAT_FCAUSE n) = s.ownFld n (solF F.SOL_CHSTAT_FCAUSE n)) : t.Stands n ph c where
  own := hhalf.trans h.own
  phase := (State.fld_of_ownFld hphase h.own).trans h.phase
  cause := (State.fld_of_ownFld hcause h.own).trans h.cause

theorem State.Stands.solEnterFault_ne {s : State} {n m ph c : Nat} (h : s.Stands m ph c) (k : Nat) (hn : n < 64) (hm : m ≠ n) :
    (s.solEnterFault n k).Stands m ph c :=
  h.of_ownFld ((beside_solHalf n m).solEnterFault s k hn) (((plainField_PHASE m).beside hm).solEnterFault s k hn)
    (((plainField_FCAUSE m).beside hm).solEnterFault s k hn)

theorem State.Stands.solFree_ne {s : State} {n m ph c : Nat} (h : s.Stands m ph c) (hm : m ≠ n) : (s.solFree n).Stands m ph c :=
  h.of_ownFld ((beside_solHalf n m).solFree s) (((plainField_PHASE m).beside hm).solFree s) (((plainField_FCAUSE m).beside hm).solFree s)

/-- A channel of its own that goes to a phase keeps its cause. -/
theorem State.stands_solTo {s : State} {n ph : Nat} (hhalf : s.solHalf n = false) (hph : ph < 8) :
    (s.solTo n ph).Stands n ph (s.fld (solF F.SOL_CHSTAT_FCAUSE n)) where
  own := ((beside_solHalf n n).solTo s ph).trans hhalf
  phase := State.solPhase_solTo hhalf hph
  cause := State.fld_of_ownFld ((plainField_FCAUSE n).toChField.solTo (by decide : 2 < 12) s ph) hhalf

/-- A channel of its own that enters FAULT stands there with the cause (R220). -/
theorem State.stands_solEnterFault {s : State} {n c : Nat} (hhalf : s.solHalf n = false) (hc : c < 16) (hn : n < 64) :
    (s.solEnterFault n c).Stands n phFAULT c := by
  let caused := (s.setFld (solF (solCauseFlag c) n) 1).setFld (solF F.SOL_CHSTAT_FCAUSE n) c
  let raised := caused.raiseFlag (F.SOL_STAT_FAULT (n / 32)) (187 + n / 32)
  have hown : caused.solHalf n = false := ((unmoved_solHalf n).setFld _ _ _).trans (((unmoved_solHalf n).setFld _ _ _).trans hhalf)
  have hset : caused.fld (solF F.SOL_CHSTAT_FCAUSE n) = c :=
    (State.fld_setFld_same _ _ (fldOk (by decide)) c).trans (Nat.mod_eq_of_lt hc)
  have hnote : isDieNote (F.SOL_STAT_FAULT (n / 32)).addr := isDieNote_STAT _
  have hraised : raised.fld (solF F.SOL_CHSTAT_FCAUSE n) = c :=
    (State.fld_of_ownFld ((plainField_FCAUSE n).unnoted.raiseFlag caused hnote (by omega)) hown).trans hset
  have hownRaised : raised.solHalf n = false := ((unmoved_solHalf n).unnoted.raiseFlag caused hnote (by omega)).trans hown
  have hstands := State.stands_solTo (ph := phFAULT) hownRaised (by decide)
  rwa [hraised] at hstands

/-- A channel's unit is a channel of its own (R205). -/
theorem State.solSlave_solUnit (s : State) (n : Nat) : s.solSlave (s.solUnit n) = false := by
  unfold State.solUnit
  split
  next h =>
    rw [State.solSlave, Bool.and_eq_true, decide_eq_true_eq] at h
    rw [State.solSlave, decide_eq_false (by omega), Bool.false_and]
  next h => exact Bool.eq_false_iff.mpr h

theorem State.solUnit_le (s : State) (n : Nat) : s.solUnit n ≤ n := by
  unfold State.solUnit
  split <;> omega

/-- The FCAUSE code of a fault that SOL_FAULT brings: SHORT, OT, OPEN. -/
def faultCause (cause : Fin 3) : Nat := if cause.val = 0 then 1 else if cause.val = 1 then 2 else 4

theorem faultCause_eq (cause : Fin 3) : faultCause cause = if cause.val = 2 then 4 else cause.val + 1 := by
  revert cause
  decide

theorem faultCause_lt (cause : Fin 3) : faultCause cause < 16 := by
  revert cause
  decide

theorem faultCause_open (cause : Fin 3) : faultCause cause = 4 → cause.val = 2 := by
  revert cause
  decide

theorem solFault_faults (s : State) (half : Fin 64) (n : Nat) (cause : Fin 3) (us : BitVec 32) (hunit : n = s.solUnit half)
    (hpart : s.part.hasSol n) (hph : s.solPhase n ≠ phFAULT) (hcut : s.cut (n / 32) ≠ 2) (hvalid : cause.val = 2 → s.solValid n)
    (hopen : cause.val = 2 → (s.solPhase n = phHOLD ∧ 400 ≤ s.fld (solF F.SOL_CHCMD_CMD n) ∧ 2000 ≤ us.toNat) ∨
      (s.solPhase n = phOFF ∧ vOpenchk (s.entry 1 n) ∧ 10000 ≤ us.toNat ∧ s.offTest 0 n)) :
    Gives (exec (.solFault half cause us) s) (fun t => t.solPhase n = phFAULT ∧
      t.fld (solF F.SOL_CHSTAT_FCAUSE n) = (if cause.val = 2 then 4 else cause.val + 1) ∧
      (∀ m, m ≠ n → t.sch m = s.sch m) ∧ t.mem = s.mem) := by
  have hexec : exec (.solFault half cause us) s = execSolFault half cause us s := by rfl
  have hslave : s.solSlave n = false := hunit ▸ s.solSlave_solUnit half
  have hn : n < 64 := hunit ▸ Nat.lt_of_le_of_lt (s.solUnit_le half) half.isLt
  let faulted := s.solEnterFault n (faultCause cause)
  have hstands : faulted.Stands n phFAULT (faultCause cause) :=
    State.stands_solEnterFault (State.solHalf_of_solSlave hslave) (faultCause_lt cause) hn
  have hevent := hstands.of_ownFld (t := faulted.event 0x0601 [w32 n, w32 (faultCause cause)]) ((unmoved_solHalf n).event _ _ _)
    ((plainField_PHASE n).unnoted.event _ _ _) ((plainField_FCAUSE n).unnoted.event _ _ _)
  refine ⟨_, ?_, hevent.phase, hevent.cause.trans (faultCause_eq cause), fun m hm => ?_, ?_⟩
  · rw [hexec, execSolFault, ← hunit]
    refine if_pos ?_
    simp only [Bool.and_eq_true, Bool.or_eq_true, decide_eq_true_eq]
    refine ⟨⟨⟨hpart, hph⟩, hcut⟩, or_iff_not_imp_left.mpr fun h => ?_⟩
    have hcause : cause.val = 2 := faultCause_open cause (not_not.mp h)
    exact ⟨hvalid hcause, hopen hcause⟩
  · exact ((unmoved_sch m).event _ _ _).trans ((beside_sch hm).solEnterFault s _ hn)
  · exact (unmoved_mem.event _ _ _).trans ((beside_mem n).solEnterFault s _ hn)

/-! ### A bank's overcurrent -/

theorem solBankFault_faults (s : State) (k : Fin 16) (hactive : ∃ n ∈ s.bankMembers k, s.solActive n) (hcut : s.cut (k / 8) ≠ 2) :
    Gives (exec (.solBankFault k) s) (fun t => (∀ n ∈ s.bankMembers k, t.solPhase n = phFAULT ∧ t.fld (solF F.SOL_CHSTAT_FCAUSE n) = 3) ∧
      t.flag (bankF F.SOL_BANKSTAT_BANK_SHORT k) ∧ t.mem = s.mem) := by
  have hexec : exec (.solBankFault k) s = execSolBankFault k s := by rfl
  let faulted := (s.bankMembers k).foldl (fun s n => s.solEnterFault n 3) s
  let short := faulted.setFld (bankF F.SOL_BANKSTAT_BANK_SHORT k) 1
  let raised := short.raiseFlag (F.SOL_STAT_BANK_FAULT (k / 8)) (187 + k / 8)
  have hnote : isDieNote (F.SOL_STAT_BANK_FAULT (k / 8)).addr := isDieNote_STAT _
  have hmember (n : Nat) (hn : n ∈ s.bankMembers k) : faulted.Stands n phFAULT 3 := by
    refine State.foldl_reaches (Q := fun u => u.solHalf n = false) (s.nodup_bankMembers k) hn ?_ ?_ ?_ (State.solHalf_of_mem_bankMembers hn)
    · exact fun u hu => State.stands_solEnterFault hu (by decide) (State.lt_of_mem_bank k.isLt hn)
    · exact fun u m hm _ hu => ((beside_solHalf m n).solEnterFault u 3 (State.lt_of_mem_bank k.isLt hm)).trans hu
    · exact fun u m hm hmn hu => hu.solEnterFault_ne 3 (State.lt_of_mem_bank k.isLt hm) hmn.symm
  have hnoted {α : Type} {p : State → α} (hp : Unnoted p) (hshort : p short = p faulted) :
      p (raised.event 0x0602 [w32 k.val]) = p faulted :=
    (hp.event raised _ _).trans ((hp.raiseFlag short hnote (by omega)).trans hshort)
  have hfield {n : Nat} {f : Fld} (hf : PlainField n f) : short.ownFld n f = faulted.ownFld n f :=
    hf.toChField.setReg faulted _ (SOL_CHSTAT_ne_bank n k)
  refine ⟨raised.event 0x0602 [w32 k.val], ?_, fun n hn => ?_, ?_, ?_⟩
  · rw [hexec, execSolBankFault, if_pos (Bool.and_eq_true_iff.mpr ⟨List.any_eq_true.mpr hactive, decide_eq_true hcut⟩)]
  · have hstands := (hmember n hn).of_ownFld (hnoted (unmoved_solHalf n).unnoted ((unmoved_solHalf n).setFld _ _ _))
      (hnoted (plainField_PHASE n).unnoted (hfield (plainField_PHASE n))) (hnoted (plainField_FCAUSE n).unnoted (hfield (plainField_FCAUSE n)))
    exact ⟨hstands.phase, hstands.cause⟩
  · have hreg : raised.reg (R.SOL_BANKSTAT (k / 8) (k % 8)) = short.reg (R.SOL_BANKSTAT (k / 8) (k % 8)) :=
      State.reg_raiseFlag_ne _ _ _ _ (by simp only [F.SOL_STAT_BANK_FAULT, R.SOL_BANKSTAT, R.SOL_STAT]; omega)
        (by simp only [R.SOL_BANKSTAT, R.RNG_INT_PEND]; omega)
    rw [State.flag_event_driver _ _ _ (SOL_BANKSTAT_ge _ _)]
    exact (State.flag_congr (State.fld_congr hreg)).trans (State.flag_setFld_one faulted _ (fldOk (by decide)))
  · refine (hnoted unmoved_mem.unnoted (unmoved_mem.setFld _ _ _)).trans (State.foldl_keeps_of_mem (p := State.mem) (fun u n hn => ?_) s)
    exact (beside_mem n).solEnterFault u 3 (State.lt_of_mem_bank k.isLt hn)

/-! ### A regulation error -/

theorem solRegErr_flags (s : State) (n : Fin 64) (err ms : BitVec 16) (hvalid : s.solValid n) (hph : s.solPhase n = phHOLD)
    (htol : vRegTol (s.entry 1 n) ≠ 0) (herr : vRegTol (s.entry 1 n) < err.toNat) (hms : vRegT (s.entry 1 n) ≤ ms.toNat) :
    Gives (exec (.solRegErr n err ms) s) (fun t =>
      t.flag (solF F.SOL_CHSTAT_REG_ERR n) ∧ t.solPhase n = phHOLD ∧ t.sol = s.sol ∧ t.mem = s.mem) := by
  have hexec : exec (.solRegErr n err ms) s = execSolRegErr n err ms s := by rfl
  have hslave := State.solValid_unit hvalid
  have hflag : ChField n (solF F.SOL_CHSTAT_REG_ERR n) := chField (by decide)
  have hnoted : s.Noted ((s.solFlag F.SOL_CHSTAT_REG_ERR F.SOL_STAT_REG_ERR n).solShow n) :=
    ⟨fun hp => (hp.solShow _ _).trans (hp.solFlag _ (fun _ => noteField (by decide)) (fun _ => rfl) n.isLt)⟩
  refine ⟨_, ?_, State.flag_of_ownFld (m := n) ?_, (hnoted.solPhase (State.solHalf_of_solSlave hslave)).trans hph,
    hnoted.keeps unmoved_sol.unnoted, hnoted.keeps unmoved_mem.unnoted⟩
  · rw [hexec, execSolRegErr]
    exact if_pos (by simp only [hvalid, hph, htol, herr, hms, ne_eq, not_false_eq_true, decide_true, Bool.and_self])
  · rw [hflag.unshown.solShow, State.ownFld_solFlag hflag rfl (fun _ => rfl) hslave n.isLt]

/-! ### Release -/

theorem State.stands_solFree {s : State} {n : Nat} (hhalf : s.solHalf n = false) : (s.solFree n).Stands n phOFF 0 := by
  have hset : (s.setFld (solF F.SOL_CHSTAT_FCAUSE n) 0).fld (solF F.SOL_CHSTAT_FCAUSE n) = 0 :=
    State.fld_setFld_same s _ (fldOk (by decide)) 0
  have hown : (s.setFld (solF F.SOL_CHSTAT_FCAUSE n) 0).solHalf n = false := ((unmoved_solHalf n).setFld s _ 0).trans hhalf
  have hstands := State.stands_solTo (ph := phOFF) hown (by decide)
  rwa [hset] at hstands

/-- The bit that FCAUSE names is one of the four causes' (Table 8-10). -/
theorem State.solCauseBit_cases {s : State} {n : Nat} (h : within 1 4 (s.fld (solF F.SOL_CHSTAT_FCAUSE n)) = true) :
    s.solCauseBit n ≠ 0 ∧ s.solCauseBit n &&& 0x10000000 = 0 := by
  simp only [within, Bool.and_eq_true, decide_eq_true_eq] at h
  have hcause : s.fld (solF F.SOL_CHSTAT_FCAUSE n) = 1 ∨ s.fld (solF F.SOL_CHSTAT_FCAUSE n) = 2 ∨ s.fld (solF F.SOL_CHSTAT_FCAUSE n) = 3 ∨
      s.fld (solF F.SOL_CHSTAT_FCAUSE n) = 4 := by omega
  rcases hcause with h | h | h | h <;> rw [State.solCauseBit, h] <;> decide

/-- The status register of channel n with 1 written to the flag that FCAUSE names, shown (R221). -/
def State.causeCleared (s : State) (n : Nat) : State := (s.writePlain (R.SOL_CHSTAT (n / 32) (n % 32)) (s.solCauseBit n)).solShow n

theorem State.writeSolChstat_cause {s : State} {n : Nat} (hslave : s.solSlave n = false)
    (hcause : within 1 4 (s.fld (solF F.SOL_CHSTAT_FCAUSE n)) = true) : s.writeSolChstat n (s.solCauseBit n) =
      if s.fld (solF F.SOL_CHSTAT_FCAUSE n) = 3 then (s.causeCleared n).bankFree (n / 4) else (s.causeCleared n).solFree n := by
  obtain ⟨hbit, hshed⟩ := State.solCauseBit_cases hcause
  simp only [State.writeSolChstat, hslave, Bool.false_eq_true, if_false, BitVec.and_self, hbit, ne_eq, not_false_eq_true, and_self, if_true,
    hshed, not_true_eq_false, State.causeCleared]

theorem SOL_CHSTAT_fields (n : Fin 64) : (⟨18, 18, .w1c, 0, .pwr, .mod⟩ : FieldRow) ∈ fieldsAt (R.SOL_CHSTAT (n / 32) (n % 32)) ∧
    (⟨15, 12, .ro, 0, .pwr, .mod⟩ : FieldRow) ∈ fieldsAt (R.SOL_CHSTAT (n / 32) (n % 32)) := by
  revert n
  decide +kernel

/-- 1 written to a flag clears it (R11). -/
theorem get_clear_bit (a j : Nat) (old w : Word) (h : w.getLsbD j = true) : (⟨a, j, j⟩ : Fld).get (old &&& ~~~w) = 0 := by
  apply Nat.eq_of_testBit_eq
  intro i
  rw [Fld.testBit_get, Nat.zero_testBit, BitVec.getLsbD_and, BitVec.getLsbD_not]
  by_cases hi : i = 0
  · simp [hi, h]
  · rw [decide_eq_false (show ¬ i < j + 1 - j by omega), Bool.false_and]

section
variable {s : State} {n : Fin 64} (hslave : s.solSlave n = false)

theorem State.causeCleared_solHalf (m : Nat) : (s.causeCleared n).solHalf m = s.solHalf m :=
  ((unmoved_solHalf m).unnoted.solShow _ _).trans ((unmoved_solHalf m).setReg _ _ _)

theorem State.causeCleared_mem : (s.causeCleared n).mem = s.mem := unmoved_mem.unnoted.solShow _ _

/-- The other channels of the bank are as they were. -/
theorem State.causeCleared_ownFld {m : Nat} {f : Fld} (hf : PlainField m f) (hm : m ≠ n.val) : (s.causeCleared n).ownFld m f = s.ownFld m f :=
  (hf.unshown.solShow _ _).trans (hf.toChField.setReg s _ fun h => hm (SOL_CHSTAT_inj h).symm)

include hslave

theorem State.causeCleared_FCAUSE : (s.causeCleared n).fld (solF F.SOL_CHSTAT_FCAUSE n) = s.fld (solF F.SOL_CHSTAT_FCAUSE n) := by
  have hown : (s.writePlain (R.SOL_CHSTAT (n / 32) (n % 32)) (s.solCauseBit n)).solHalf n = false :=
    ((unmoved_solHalf n).setReg _ _ _).trans (State.solHalf_of_solSlave hslave)
  refine (State.fld_of_ownFld ((plainField_FCAUSE n).unshown.solShow _ n) hown).trans ?_
  refine (State.fld_setReg_same s (solF F.SOL_CHSTAT_FCAUSE n) _).trans ?_
  exact Fld.get_writtenWord _ (R.SOL_CHSTAT (n / 32) (n % 32)) _ (SOL_CHSTAT_fields n).2 _ _ _

theorem State.causeCleared_BANK (hcause : s.fld (solF F.SOL_CHSTAT_FCAUSE n) = 3) : (s.causeCleared n).flag (solF F.SOL_CHSTAT_BANK n) = false := by
  have hown : (s.writePlain (R.SOL_CHSTAT (n / 32) (n % 32)) (s.solCauseBit n)).solHalf n = false :=
    ((unmoved_solHalf n).setReg _ _ _).trans (State.solHalf_of_solSlave hslave)
  have hfld : (s.causeCleared n).fld (solF F.SOL_CHSTAT_BANK n) = 0 := by
    refine (State.fld_of_ownFld ((plainField_BANK n).unshown.solShow _ n) hown).trans ?_
    refine (State.fld_setReg_same s (solF F.SOL_CHSTAT_BANK n) _).trans ?_
    refine (Fld.get_writtenWord _ (R.SOL_CHSTAT (n / 32) (n % 32)) _ (SOL_CHSTAT_fields n).1 _ _ _).trans ?_
    rw [State.solCauseBit, hcause]
    exact get_clear_bit 0 18 _ _ (by decide)
  rw [State.flag, hfld]
  rfl

/-- With BANK cleared in every channel of the bank, the release takes each of them that has the cause to OFF (R221). -/
theorem State.stands_bankFree (hcause : s.fld (solF F.SOL_CHSTAT_FCAUSE n) = 3)
    (hothers : ∀ m ∈ s.bankMembers (n / 4), m ≠ n.val → ¬ (s.fld (solF F.SOL_CHSTAT_FCAUSE m) = 3 ∧ s.flag (solF F.SOL_CHSTAT_BANK m))) :
    ((s.causeCleared n).bankFree (n / 4)).Stands n phOFF 0 := by
  have hhalf := State.solHalf_of_solSlave hslave
  have hmembers : (s.causeCleared n).bankMembers (n / 4) = s.bankMembers (n / 4) :=
    State.bankMembers_congr (fun m => s.causeCleared_solHalf m) _
  have hcleared : (s.bankMembers (n / 4)).any (fun m => (s.causeCleared n).fld (solF F.SOL_CHSTAT_FCAUSE m) = 3 &&
      (s.causeCleared n).flag (solF F.SOL_CHSTAT_BANK m)) = false := by
    refine List.any_eq_false.mpr fun m hm => ?_
    by_cases hmn : m = n.val
    · rw [hmn, State.causeCleared_BANK hslave hcause, Bool.and_false]
      exact Bool.false_ne_true
    · have hown := State.solHalf_of_mem_bankMembers hm
      have hfld {f : Fld} (hf : PlainField m f) : (s.causeCleared n).fld f = s.fld f := State.fld_of_ownFld (s.causeCleared_ownFld hf hmn) hown
      rw [hfld (plainField_FCAUSE m), State.flag_congr (hfld (plainField_BANK m)), Bool.and_eq_true, decide_eq_true_eq]
      exact hothers m hm hmn
  have hrun : (s.causeCleared n).bankFree (n / 4) = (s.bankMembers (n / 4)).foldl
      (fun s m => if s.fld (solF F.SOL_CHSTAT_FCAUSE m) = 3 then s.solFree m else s) (s.causeCleared n) := by
    rw [State.bankFree, hmembers, hcleared]
    rfl
  rw [hrun]
  refine State.foldl_reaches (Q := fun u => u.solHalf n = false ∧ u.fld (solF F.SOL_CHSTAT_FCAUSE n) = 3) (s.nodup_bankMembers _)
    (State.mem_bankMembers hhalf) ?_ ?_ ?_ ⟨(s.causeCleared_solHalf n).trans hhalf, (State.causeCleared_FCAUSE hslave).trans hcause⟩
  · rintro u ⟨hown, hu⟩
    rw [if_pos hu]
    exact State.stands_solFree hown
  · rintro u m - hm ⟨hown, hu⟩
    split
    · exact ⟨((beside_solHalf m n).solFree u).trans hown,
        (State.fld_of_ownFld (((plainField_FCAUSE n).beside hm.symm).solFree u) hown).trans hu⟩
    · exact ⟨hown, hu⟩
  · intro u m _ hm hu
    split
    · exact hu.solFree_ne hm.symm
    · exact hu

end

theorem State.bankFree_mem (s : State) (k : Nat) : (s.bankFree k).mem = s.mem := by
  rw [State.bankFree, apply_ite State.mem]
  refine (congrArg (ite _ _) (State.foldl_keeps (p := State.mem) (fun u m => ?_) _ s)).trans (ite_self _)
  rw [apply_ite State.mem, (beside_mem m).solFree, ite_self]

theorem solFaultRelease_frees (s : State) (acc : Acc) (n : Fin 64) (h : s.takesWrite acc (R.SOL_CHSTAT (n / 32) (n % 32)))
    (hslave : s.solSlave n = false)
    (hcause : s.fld (solF F.SOL_CHSTAT_FCAUSE n) = 1 ∨ s.fld (solF F.SOL_CHSTAT_FCAUSE n) = 2 ∨ s.fld (solF F.SOL_CHSTAT_FCAUSE n) = 4 ∨
      (s.fld (solF F.SOL_CHSTAT_FCAUSE n) = 3 ∧ ∀ m ∈ s.bankMembers (n / 4), m ≠ n.val →
        ¬ (s.fld (solF F.SOL_CHSTAT_FCAUSE m) = 3 ∧ s.flag (solF F.SOL_CHSTAT_BANK m)))) :
    Gives (exec (.solFaultRelease acc n) s) (fun t => t.solPhase n = phOFF ∧ t.fld (solF F.SOL_CHSTAT_FCAUSE n) = 0 ∧ t.mem = s.mem) := by
  have hexec : exec (.solFaultRelease acc n) s = execSolFaultRelease acc n s := by rfl
  have hwithin : within 1 4 (s.fld (solF F.SOL_CHSTAT_FCAUSE n)) = true := by
    simp only [within, Bool.and_eq_true, decide_eq_true_eq]
    omega
  have hown : (s.causeCleared n).solHalf n = false := (s.causeCleared_solHalf n).trans (State.solHalf_of_solSlave hslave)
  rw [hexec, execSolFaultRelease, State.guardWrite_of_takesWrite s acc _ _ h, State.writeSolChstat_cause hslave hwithin]
  split
  next hbank =>
    have hothers := hcause.resolve_left (by omega) |>.resolve_left (by omega) |>.resolve_left (by omega)
    have hstands := State.stands_bankFree hslave hbank hothers.2
    exact ⟨_, rfl, hstands.phase, hstands.cause, (State.bankFree_mem _ _).trans s.causeCleared_mem⟩
  next =>
    have hstands := State.stands_solFree hown
    exact ⟨_, rfl, hstands.phase, hstands.cause, ((beside_mem n).solFree _).trans s.causeCleared_mem⟩

/-! ### The settling -/

/-- Settles O20: each clause by its own lemma. What a channel that faults, or is released, leaves of the others carries the two walks over a
bank; the converters' clauses rest on what their measured voltage leaves. -/
theorem solenoidFaultCommandsComplete : Obligations.SolenoidFaultCommandsComplete :=
  ⟨solFault_faults, solBankFault_faults, solRegErr_flags, solFaultRelease_frees, boostUv_faults, solBoostFault_stops⟩

end Sys2Proof.Machine
end

section
/-! Load-switch channels: the readings of the state that the duty of a channel, and a channel as a whole, do not enter (R231-R236, R240). -/

namespace Sys2Proof.Machine

/-! ### Readings -/

/-- A register in which a switch of die d leaves notes outside its own: flags and counters of the die, pending words, the recorder's. -/
def isSwitchNote (d b : Nat) : Prop := b < R.BRD_CTL ∨ (R.LSW_STAT d ≤ b ∧ b ≤ R.LSW_RETRYCNT d)

theorem isSwitchNote_STAT (d : Nat) : isSwitchNote d (R.LSW_STAT d) := by
  simp only [isSwitchNote, R.LSW_STAT, R.LSW_RETRYCNT]
  omega

theorem isSwitchNote_SHEDCNT (d : Nat) : isSwitchNote d (R.LSW_SHEDCNT d) := by
  simp only [isSwitchNote, R.LSW_STAT, R.LSW_SHEDCNT, R.LSW_RETRYCNT]
  omega

theorem isSwitchNote_RETRYCNT (d : Nat) : isSwitchNote d (R.LSW_RETRYCNT d) := by
  simp only [isSwitchNote, R.LSW_STAT, R.LSW_RETRYCNT]
  omega

theorem isSwitchNote_pend {irq : Nat} (d : Nat) (h : irq < 256) : isSwitchNote d (R.RNG_INT_PEND (irq / 32)) := by
  simp only [isSwitchNote, R.RNG_INT_PEND, R.BRD_CTL]
  omega

/-- What a channel keeps of the commands of its sources, and the instant of its last start: its duty does not change them. -/
def LCh.standing (x : LCh) : Option Nat × Option Nat × Nat := (x.kept, x.dest, x.startAt)

/-- A diagnostic flag in the status of channel n (Table 9-9). -/
structure DiagFlag (n : Nat) (f : Fld) : Prop where
  addr : f.addr = R.LSW_CHSTAT (n / 48) (n % 48)
  bits : 18 ≤ f.lo ∧ f.lo ≤ f.hi ∧ f.hi < 32

theorem diagFlag {n hi lo : Nat} (h : 18 ≤ lo ∧ lo ≤ hi ∧ hi < 32) : DiagFlag n ⟨R.LSW_CHSTAT (n / 48) (n % 48), hi, lo⟩ := ⟨rfl, h⟩

/-- A reading of the state that bringing the duty of channel n up to date leaves: neither its duty registers enter it, nor its
diagnostic flags, nor what waits for a PWM period, nor the notes of its die. -/
structure Undutied {α : Type} (n : Nat) (p : State → α) : Prop where
  note : ∀ (s : State) {b : Nat} (w : Word), isSwitchNote (n / 48) b → p (s.setReg b w) = p s
  withEvr : ∀ (s : State) (e : Evr), p { s with evr := e } = p s
  duty : ∀ (s : State) {b : Nat} (w : Word), b = R.LSW_CHDUTY (n / 48) (n % 48) ∨ b = R.LSW_CHSAFE (n / 48) (n % 48) → p (s.setReg b w) = p s
  flag : ∀ (s : State) {f : Fld} (v : Nat), DiagFlag n f → p (s.setFld f v) = p s
  waiting : ∀ (s : State) (x : LCh), x.standing = (s.lch n).standing → p (s.setLch n x) = p s

/-- A reading that neither the status of channel n nor its record enters. -/
structure BesideSwitch {α : Type} (n : Nat) (p : State → α) : Prop extends Undutied n p where
  stat : ∀ (s : State) {f : Fld} (v : Nat), f.addr = R.LSW_CHSTAT (n / 48) (n % 48) → f.Ok → p (s.setFld f v) = p s
  setLch : ∀ (s : State) (x : LCh), p (s.setLch n x) = p s

/-! ### A latch -/

/-- The flag of a latch's cause (R236). -/
def State.lswCauseFlag (s : State) (n c : Nat) : State :=
  match c with
  | 1 => s.lswFlag F.LSW_CHSTAT_SHORT F.LSW_STAT_SHORT n
  | 2 => s.lswFlag F.LSW_CHSTAT_OVERLOAD F.LSW_STAT_OVERLOAD n
  | _ => s.setFld (lswF F.LSW_CHSTAT_OT n) 1

/-- A latch of channel n noted: the flag of its cause, the event, its instant (R236). -/
def State.lswCaught (s : State) (n c : Nat) : State :=
  let u := (s.lswCauseFlag n c).event 0x0701 [w32 n, w32 c]
  u.setLch n { u.lch n with latchAt := u.now }

/-- A latch: RETRY while retries are left, else FAULT with its cause (R236). -/
theorem State.lswLatch_eq (s : State) (n c : Nat) : s.lswLatch n c =
    if (s.lswCaught n c).fld (lswF F.LSW_CHSTAT_RETRIES n) < ((s.lswCaught n c).lch n).retry then (s.lswCaught n c).lswTo n lsRETRY
    else (((s.lswCaught n c).setFld (lswF F.LSW_CHSTAT_FCAUSE n) c).raiseFlag (F.LSW_STAT_FAULT (n / 48)) (189 + n / 48)).lswTo n lsFAULT := by
  rfl

/-! ### The duty -/

section Undutied
variable {α : Type} {n : Nat} {p : State → α} (hp : Undutied n p)
include hp

theorem Undutied.raiseFlag (s : State) {f : Fld} {irq : Nat} (hf : isSwitchNote (n / 48) f.addr) (h : irq < 256) :
    p (s.raiseFlag f irq) = p s := by
  rw [State.raiseFlag, apply_ite p, State.pend, hp.note _ _ (isSwitchNote_pend _ h), State.setFld, hp.note _ _ hf, ite_self]

theorem Undutied.bump (s : State) {f : Fld} (k : Nat) (hf : isSwitchNote (n / 48) f.addr) : p (s.bump f k) = p s := hp.note s _ hf

theorem Undutied.event (s : State) (code : Nat) (args : List Word) : p (s.event code args) = p s := by
  unfold State.event
  split
  · exact hp.withEvr s _
  · rw [State.loseEvent, hp.withEvr, hp.raiseFlag _ (.inl (by decide)) (by decide), hp.bump _ _ (.inl (by decide))]

theorem Undutied.lswFlag (s : State) {ch : Nat → Nat → Fld} {unit : Nat → Fld} (hch : ∀ m, DiagFlag m (lswF ch m))
    (hunit : ∀ d, (unit d).addr = R.LSW_STAT d) (hn : n < 112) : p (s.lswFlag ch unit n) = p s := by
  rw [State.lswFlag, State.raiseBoth, hp.raiseFlag _ (hunit _ ▸ isSwitchNote_STAT _) (by omega), hp.flag _ _ (hch n)]

theorem Undutied.lswCauseFlag (s : State) (c : Nat) (hn : n < 112) : p (s.lswCauseFlag n c) = p s := by
  unfold State.lswCauseFlag
  split
  · exact hp.lswFlag s (fun _ => diagFlag (by decide)) (fun _ => rfl) hn
  · exact hp.lswFlag s (fun _ => diagFlag (by decide)) (fun _ => rfl) hn
  · exact hp.flag s 1 (diagFlag (by decide))

theorem Undutied.setDuty (s : State) (v : Nat) : p (s.setFld (lswF F.LSW_CHDUTY_DUTY n) v) = p s := hp.duty s _ (.inl rfl)

theorem Undutied.setNext (s : State) (x : Option (Nat × Nat)) : p (s.setLch n { s.lch n with next := x }) = p s := hp.waiting s _ rfl

theorem Undutied.lswSettle (s : State) : p (s.lswSettle n) = p s := by
  unfold State.lswSettle
  extract_lets x settled
  have hsettled : p settled = p s := by
    simp only [settled]
    split
    next t v _ =>
      split
      · exact (hp.setNext (s.setFld (lswF F.LSW_CHDUTY_DUTY n) v) none).trans (hp.setDuty s v)
      · rfl
    next => rfl
  have hdone : p (settled.setLch n { settled.lch n with old := none }) = p s :=
    (hp.waiting settled { settled.lch n with old := none } rfl).trans hsettled
  clear_value settled
  split
  · split_ifs
    · exact (hp.duty _ _ (.inr rfl)).trans hdone
    · exact hdone
    · exact hsettled
  · exact hsettled

theorem Undutied.lswDuty (s : State) (hn : n < 112) : p (s.lswDuty n) = p s := by
  unfold State.lswDuty
  extract_lets settled v clamped
  have hsettled : p settled = p s := hp.lswSettle s
  have hclamp : p (settled.setFld (lswF F.LSW_CHSTAT_CLAMPED n) 1) = p settled := hp.flag settled 1 (diagFlag (by decide))
  have hclamped : p clamped = p s := by
    rw [apply_ite p, hclamp, hsettled, ite_self]
  clear_value settled clamped
  split
  · split
    next a sat _ =>
      extract_lets taken
      have htaken : p taken = p s := by
        simp only [taken]
        split
        · exact (hp.setNext clamped _).trans hclamped
        · exact (hp.setNext (clamped.setFld (lswF F.LSW_CHDUTY_DUTY n) a) none).trans ((hp.setDuty clamped a).trans hclamped)
      rw [apply_ite p, hp.lswFlag _ (fun _ => diagFlag (by decide)) (fun _ => rfl) hn, ite_self, htaken]
  · exact (hp.setNext (settled.setFld (lswF F.LSW_CHDUTY_DUTY n) 0) none).trans ((hp.setDuty settled 0).trans hsettled)

end Undutied

/-! ### A channel -/

/-- Going to a state writes the status of the channel alone. -/
theorem State.lswTo_keeps {α : Type} {n : Nat} {p : State → α}
    (hstat : ∀ (u : State) (f : Fld) (v : Nat), f.addr = R.LSW_CHSTAT (n / 48) (n % 48) → f.Ok → p (u.setFld f v) = p u) (s : State) (st : Nat) :
    p (s.lswTo n st) = p s := by
  have hlimit (u : State) : p (u.setFld (lswF F.LSW_CHSTAT_LIMITING n) 0) = p u := hstat u _ 0 rfl (fldOk (by decide))
  refine (hstat _ _ _ rfl (fldOk (by decide))).trans ?_
  rw [apply_ite p, hlimit, ite_self]
  exact hstat s _ st rfl (fldOk (by decide))

section BesideSwitch
variable {α : Type} {n : Nat} {p : State → α} (hp : BesideSwitch n p)
include hp

theorem BesideSwitch.lswTo (s : State) (st : Nat) : p (s.lswTo n st) = p s :=
  State.lswTo_keeps (fun u _ v ha hok => hp.stat u v ha hok) s st

theorem BesideSwitch.lswStart (s : State) (te : Nat) (hn : n < 112) : p (s.lswStart n te) = p s := by
  simp only [State.lswStart]
  rw [hp.lswTo, hp.lswDuty _ hn, hp.setLch]

theorem BesideSwitch.lswAct (s : State) (on : Bool) (te : Nat) (hn : n < 112) : p (s.lswAct n on te) = p s := by
  unfold State.lswAct
  split_ifs
  · rfl
  · exact hp.lswStart s te hn
  · rfl
  · exact hp.lswTo s _

theorem BesideSwitch.lswEdge (s : State) (on : Bool) (te : Nat) (hn : n < 112) : p (s.lswEdge n on te) = p s := by
  rw [State.lswEdge, hp.lswAct _ _ _ hn]
  exact hp.stat s _ rfl (fldOk (by decide))

theorem BesideSwitch.lswBack (s : State) (hn : n < 112) : p (s.lswBack n) = p s := by
  rw [State.lswBack, hp.lswAct _ _ _ hn, hp.lswTo]

theorem BesideSwitch.lswLatch (s : State) (c : Nat) (hn : n < 112) : p (s.lswLatch n c) = p s := by
  have hcaught : p (s.lswCaught n c) = p s := (hp.setLch _ _).trans ((hp.event _ _ _).trans (hp.lswCauseFlag s c hn))
  have hcause : p ((s.lswCaught n c).setFld (lswF F.LSW_CHSTAT_FCAUSE n) c) = p s := (hp.stat _ c rfl (fldOk (by decide))).trans hcaught
  rw [State.lswLatch_eq, apply_ite p, hp.lswTo, hp.lswTo, hp.raiseFlag _ (isSwitchNote_STAT _) (by omega), hcaught, hcause, ite_self]

end BesideSwitch

/-! ### Readings of other things -/

/-- A reading that neither the drivers' registers nor their channels enter. -/
theorem Undriven.besideSwitch {α : Type} {p : State → α} (hp : Undriven p) (n : Nat) : BesideSwitch n p where
  note s b w hb := hp.setReg s w (by simp only [isSwitchNote, R.LSW_STAT, R.SOL_CTL] at hb ⊢; omega)
  withEvr := hp.withEvr
  duty s b w hb := hp.setReg s w (.inr (by simp only [R.LSW_CHDUTY, R.LSW_CHSAFE, R.SOL_CTL] at hb ⊢; omega))
  flag s f v hf := hp.setFld s v (hf.addr ▸ LSW_CHSTAT_ge _ _)
  waiting s x _ := hp.setLch s n x
  stat s f v hf _ := hp.setFld s v (hf ▸ LSW_CHSTAT_ge _ _)
  setLch s x := hp.setLch s n x

/-- A register that channel n does not write. -/
def isOffSwitch (n a : Nat) : Prop := ¬ isSwitchNote (n / 48) a ∧ a ≠ R.LSW_CHSTAT (n / 48) (n % 48) ∧
  a ≠ R.LSW_CHDUTY (n / 48) (n % 48) ∧ a ≠ R.LSW_CHSAFE (n / 48) (n % 48)

theorem besideSwitch_reg {n a : Nat} (h : isOffSwitch n a) : BesideSwitch n (fun s => s.reg a) := by
  obtain ⟨hnote, hstat, hduty, hsafe⟩ := h
  exact {
    note := fun s b w hb => State.reg_setReg_ne s w fun h => hnote (h ▸ hb)
    withEvr := fun _ _ => rfl
    duty := fun s b w hb => State.reg_setReg_ne s w fun h => hb.elim (fun hb => hduty (h.trans hb)) fun hb => hsafe (h.trans hb)
    flag := fun s f v hf => State.reg_setFld_ne s f v a (hf.addr ▸ hstat)
    waiting := fun _ _ _ => rfl
    stat := fun s f v hf _ => State.reg_setFld_ne s f v a (hf ▸ hstat)
    setLch := fun _ _ => rfl }

theorem isOffSwitch_CHSTAT {m n : Nat} (h : m ≠ n) : isOffSwitch n (R.LSW_CHSTAT (m / 48) (m % 48)) := by
  simp only [isOffSwitch, isSwitchNote, R.BRD_CTL, R.LSW_STAT, R.LSW_RETRYCNT, R.LSW_CHSTAT, R.LSW_CHDUTY, R.LSW_CHSAFE]
  omega

theorem isOffSwitch_CMD (m n : Nat) : isOffSwitch n (R.LSW_CMD (m / 48) (m % 48)) := by
  simp only [isOffSwitch, isSwitchNote, R.BRD_CTL, R.LSW_STAT, R.LSW_RETRYCNT, R.LSW_CHSTAT, R.LSW_CHDUTY, R.LSW_CHSAFE, R.LSW_CMD]
  omega

theorem isOffSwitch_CTL (d n : Nat) : isOffSwitch n (R.LSW_CTL d) := by
  simp only [isOffSwitch, isSwitchNote, R.BRD_CTL, R.LSW_STAT, R.LSW_RETRYCNT, R.LSW_CHSTAT, R.LSW_CHDUTY, R.LSW_CHSAFE, R.LSW_CTL]
  omega

/-- The registers of the Tandem unit lie above those of the drivers. -/
theorem isOffSwitch_of_ge {n a : Nat} (hn : n < 112) (h : R.TDM_STATE ≤ a) : isOffSwitch n a := by
  simp only [isOffSwitch, isSwitchNote, R.BRD_CTL, R.LSW_STAT, R.LSW_RETRYCNT, R.LSW_CHSTAT, R.LSW_CHDUTY, R.LSW_CHSAFE, R.TDM_STATE] at h ⊢
  omega

@[simp] theorem State.lch_setLch_same (s : State) (n : Nat) (x : LCh) : (s.setLch n x).lch n = x := SMap.get_set_same _ _ _

theorem State.lch_setLch_ne (s : State) {n m : Nat} (x : LCh) (h : m ≠ n) : (s.setLch n x).lch m = s.lch m := SMap.get_set_ne _ _ h

theorem besideSwitch_lch {m n : Nat} (h : m ≠ n) : BesideSwitch n (fun s => s.lch m) where
  note _ _ _ _ := rfl
  withEvr _ _ := rfl
  duty _ _ _ _ := rfl
  flag _ _ _ _ := rfl
  waiting s x _ := s.lch_setLch_ne x h
  stat _ _ _ _ _ := rfl
  setLch s x := s.lch_setLch_ne x h

/-- What stands of a channel's record whatever its duty. -/
theorem undutied_standing (n : Nat) : Undutied n (fun s => (s.lch n).standing) where
  note _ _ _ _ := rfl
  withEvr _ _ := rfl
  duty _ _ _ _ := rfl
  flag _ _ _ _ := rfl
  waiting s x hx := (congrArg LCh.standing (s.lch_setLch_same n x)).trans hx

/-- A field of the status of channel n below its diagnostic flags: STATE, LEVEL, DEST, HELD, LIMITING, RETRIES, FCAUSE. -/
structure SwitchField (n : Nat) (f : Fld) : Prop where
  addr : f.addr = R.LSW_CHSTAT (n / 48) (n % 48)
  bits : f.lo ≤ f.hi ∧ f.hi < 18

theorem switchField {n hi lo : Nat} (h : lo ≤ hi ∧ hi < 18) : SwitchField n ⟨R.LSW_CHSTAT (n / 48) (n % 48), hi, lo⟩ := ⟨rfl, h⟩

theorem SwitchField.undutied {n : Nat} {f : Fld} (hf : SwitchField n f) : Undutied n (fun s => s.fld f) where
  note s b w hb := State.fld_setReg_ne s b w f fun h => by
    rw [hf.addr] at h
    simp only [isSwitchNote, ← h, R.BRD_CTL, R.LSW_STAT, R.LSW_RETRYCNT, R.LSW_CHSTAT] at hb
    omega
  withEvr _ _ := rfl
  duty s b w hb := State.fld_setReg_ne s b w f (by
    rw [hf.addr]
    simp only [R.LSW_CHSTAT, R.LSW_CHDUTY, R.LSW_CHSAFE] at hb ⊢
    omega)
  flag s g v hg := by
    have hbits := hf.bits
    have hdiag := hg.bits
    exact State.fld_setFld_other s g f ⟨hdiag.2.1, hdiag.2.2⟩ (by omega) (by omega) v
  waiting _ _ _ := rfl

/-- A field of a register that channel n does not write. -/
theorem besideSwitch_fld {n : Nat} {f : Fld} (h : isOffSwitch n f.addr) : BesideSwitch n (fun s => s.fld f) := by
  have hreg := besideSwitch_reg h
  exact {
    note := fun s _ w hb => State.fld_congr (hreg.note s w hb)
    withEvr := fun _ _ => rfl
    duty := fun s _ w hb => State.fld_congr (hreg.duty s w hb)
    flag := fun s _ v hf => State.fld_congr (hreg.flag s v hf)
    waiting := fun _ _ _ => rfl
    stat := fun s _ v hf hok => State.fld_congr (hreg.stat s v hf hok)
    setLch := fun _ _ => rfl }

theorem besideSwitch_lswState {m n : Nat} (h : m ≠ n) : BesideSwitch n (fun s => s.lswState m) :=
  besideSwitch_fld (isOffSwitch_CHSTAT h)

theorem switchField_STATE (n : Nat) : SwitchField n (lswF F.LSW_CHSTAT_STATE n) := switchField (by decide)

end Sys2Proof.Machine
end

section
/-! Load-switch channels: the state that a channel reaches, and what its start, its level and its return leave of its status (R231, R232,
R236, R239, Table 9-5). -/

namespace Sys2Proof.Machine

/-! ### Reaching a state -/

theorem State.lswState_lswTo (s : State) (n : Nat) {st : Nat} (h : st < 8) : (s.lswTo n st).lswState n = st := by
  have hset : (s.setFld (lswF F.LSW_CHSTAT_STATE n) st).fld (lswF F.LSW_CHSTAT_STATE n) = st :=
    (State.fld_setFld_same s _ (fldOk (by decide)) st).trans (Nat.mod_eq_of_lt h)
  have hlimit (u : State) : (u.setFld (lswF F.LSW_CHSTAT_LIMITING n) 0).fld (lswF F.LSW_CHSTAT_STATE n) = u.fld (lswF F.LSW_CHSTAT_STATE n) :=
    State.fld_setFld_other u _ _ (fldOk (by decide)) (by decide : 2 < 32) (.inr (by decide : 2 < 9)) 0
  refine (State.fld_setFld_other _ _ _ (fldOk (by decide)) (by decide : 2 < 32) (.inr (by decide : 2 < 8)) _).trans ?_
  rw [apply_ite (State.fld · _), hlimit, ite_self, hset]

theorem State.lswTo_lsw (s : State) (n st : Nat) : (s.lswTo n st).lsw = s.lsw :=
  State.lswTo_keeps (p := State.lsw) (fun u f v _ _ => u.setFld_lsw f v) s st

theorem State.lch_congr {s t : State} (h : t.lsw = s.lsw) (n : Nat) : t.lch n = s.lch n := by rw [State.lch, State.lch, h]

/-- A field of the status of channel n that its going to a state leaves: all but STATE, HELD and LIMITING. -/
structure LastingField (n : Nat) (f : Fld) : Prop where
  addr : f.addr = R.LSW_CHSTAT (n / 48) (n % 48)
  bits : (3 ≤ f.lo ∧ f.hi < 8) ∨ (10 ≤ f.lo ∧ f.hi < 32)

theorem lastingField {n hi lo : Nat} (h : (3 ≤ lo ∧ hi < 8) ∨ (10 ≤ lo ∧ hi < 32)) :
    LastingField n ⟨R.LSW_CHSTAT (n / 48) (n % 48), hi, lo⟩ := ⟨rfl, h⟩

theorem LastingField.lswTo {n : Nat} {f : Fld} (hf : LastingField n f) (s : State) (st : Nat) : (s.lswTo n st).fld f = s.fld f := by
  have hbits := hf.bits
  have hother (u : State) {hi lo : Nat} (v : Nat) (h : lo ≤ hi ∧ (hi < 3 ∨ (8 ≤ lo ∧ hi < 10))) :
      (u.setFld ⟨R.LSW_CHSTAT (n / 48) (n % 48), hi, lo⟩ v).fld f = u.fld f :=
    State.fld_setFld_other u _ f ⟨h.1, by show hi < 32; omega⟩ (by omega) (by show hi < f.lo ∨ f.hi < lo; omega) v
  refine (hother _ _ (by decide)).trans ?_
  rw [apply_ite (State.fld · f)]
  exact (congrArg (ite _ _) ((hother _ 0 (by decide)).trans (hother s st (by decide)))).trans (by rw [ite_eq_right_iff]; exact fun _ => hother s st (by decide))

/-! ### Starting -/

/-- The state of a channel that starts: INRUSH where its entry gives a window, else ON (Table 9-5). -/
def startState (e : List Byte) : Nat := if 0 < hTinr e then lsINRUSH else lsON

theorem startState_le (e : List Byte) : startState e ≤ lsON := by
  unfold startState
  split <;> decide

theorem startState_lt (e : List Byte) : startState e < 8 := Nat.lt_of_le_of_lt (startState_le e) (by decide)

theorem State.lswState_lswStart (s : State) (n te : Nat) : (s.lswStart n te).lswState n = startState (s.entry 2 n) :=
  State.lswState_lswTo _ n (startState_lt _)

theorem State.standing_lswStart (s : State) {n : Nat} (te : Nat) (hn : n < 112) :
    ((s.lswStart n te).lch n).standing = ((s.lch n).kept, (s.lch n).dest, te) := by
  simp only [State.lswStart]
  rw [State.lch_congr (State.lswTo_lsw _ _ _), (undutied_standing n).lswDuty _ hn, State.lch_setLch_same]
  rfl

theorem SwitchField.lswStart {n : Nat} {f : Fld} (hf : SwitchField n f) (hlasts : LastingField n f) (s : State) (te : Nat) (hn : n < 112) :
    (s.lswStart n te).fld f = s.fld f := by
  simp only [State.lswStart]
  rw [hlasts.lswTo, hf.undutied.lswDuty _ hn]
  rfl

/-! ### A level -/

theorem State.lswAct_of_drives {s : State} {n : Nat} (h : s.lswDrives n = true) (te : Nat) :
    s.lswAct n true te = (if s.lswState n = lsOFF then s.lswStart n te else s) ∧ s.lswAct n false te = s.lswTo n lsOFF := by
  simp [State.lswAct, h]

/-- What a channel keeps of its sources' commands, whatever level it is brought to. -/
theorem State.kept_lswAct (s : State) {n : Nat} (on : Bool) (te : Nat) (hn : n < 112) :
    ((s.lswAct n on te).lch n).kept = (s.lch n).kept ∧ ((s.lswAct n on te).lch n).dest = (s.lch n).dest := by
  unfold State.lswAct
  split_ifs
  · exact ⟨rfl, rfl⟩
  · have hstanding := s.standing_lswStart te hn
    exact ⟨congrArg Prod.fst hstanding, congrArg (·.2.1) hstanding⟩
  · exact ⟨rfl, rfl⟩
  · rw [State.lch_congr (State.lswTo_lsw _ _ _)]
    exact ⟨rfl, rfl⟩

theorem SwitchField.lswAct {n : Nat} {f : Fld} (hf : SwitchField n f) (hlasts : LastingField n f) (s : State) (on : Bool) (te : Nat)
    (hn : n < 112) : (s.lswAct n on te).fld f = s.fld f := by
  unfold State.lswAct
  split_ifs
  · rfl
  · exact hf.lswStart hlasts s te hn
  · rfl
  · exact hlasts.lswTo s _

/-- A channel that comes back is neither in SHED nor in THERM (R239, R244). -/
theorem State.lswState_lswBack_le (s : State) (n : Nat) : (s.lswBack n).lswState n ≤ lsON := by
  have hoff : (s.lswTo n lsOFF).lswState n = lsOFF := s.lswState_lswTo n (by decide)
  unfold State.lswBack State.lswAct
  split_ifs
  · rw [hoff]; decide
  · rw [State.lswState_lswStart]
    exact startState_le _
  · rw [State.lswState_lswTo _ _ (by decide)]; decide

/-! ### Whether a channel acts -/

/-- What decides whether channel n acts, beside its state. -/
def State.actsBy (s : State) (n : Nat) : Bool × Bool × Nat × Bool :=
  (s.lswValid n, s.flag (F.LSW_CTL_EN (n / 48)), s.cut (n / 48), s.hiZ 1 n)

theorem State.lswDrives_congr {s t : State} {n : Nat} (hacts : t.actsBy n = s.actsBy n) (hstate : t.lswState n = s.lswState n) :
    t.lswDrives n = s.lswDrives n := by
  simp only [State.actsBy, Prod.mk.injEq] at hacts
  obtain ⟨hvalid, hen, hcut, hhiz⟩ := hacts
  simp only [State.lswDrives, hvalid, hen, hcut, hhiz, hstate]

theorem State.actsBy_congr {s t : State} {n : Nat} (hvalid : t.lswValid n = s.lswValid n) (hcut : t.cut (n / 48) = s.cut (n / 48))
    (hpwr : t.pwr = s.pwr) (hctl : t.reg (R.LSW_CTL (n / 48)) = s.reg (R.LSW_CTL (n / 48))) (htdm : t.reg R.TDM_STATE = s.reg R.TDM_STATE)
    (hwire : t.reg (R.TDM_WIRE_HS (n / 32)) = s.reg (R.TDM_WIRE_HS (n / 32))) : t.actsBy n = s.actsBy n := by
  have hen : t.flag (F.LSW_CTL_EN (n / 48)) = s.flag (F.LSW_CTL_EN (n / 48)) := State.flag_congr (State.fld_congr hctl)
  have hpstate : t.fld F.TDM_STATE_PSTATE = s.fld F.TDM_STATE_PSTATE := State.fld_congr htdm
  have hchannels : t.fld (F.TDM_WIRE_HS_CHANNELS (n / 32)) = s.fld (F.TDM_WIRE_HS_CHANNELS (n / 32)) := State.fld_congr hwire
  have hhiz : t.hiZ 1 n = s.hiZ 1 n := by simp only [State.hiZ, State.tdmMasked, State.mirrored, hpstate, hchannels, hpwr]
  rw [State.actsBy, State.actsBy, hvalid, hen, hcut, hhiz]

theorem undriven_lswValid (n : Nat) : Undriven (fun s => s.lswValid n) :=
  ⟨fun _ _ _ _ => rfl, fun _ _ => rfl, fun _ _ => rfl, fun _ _ _ => rfl, fun _ _ _ => rfl⟩

theorem undriven_cut (d : Nat) : Undriven (fun s => s.cut d) :=
  ⟨fun _ _ _ _ => rfl, fun _ _ => rfl, fun _ _ => rfl, fun _ _ _ => rfl, fun _ _ _ => rfl⟩

theorem undriven_pwr : Undriven State.pwr :=
  ⟨fun _ _ _ _ => rfl, fun _ _ => rfl, fun _ _ => rfl, fun _ _ _ => rfl, fun _ _ _ => rfl⟩

theorem undriven_now : Undriven State.now :=
  ⟨fun _ _ _ _ => rfl, fun _ _ => rfl, fun _ _ => rfl, fun _ _ _ => rfl, fun _ _ _ => rfl⟩

/-- What a change leaves that is beside a channel, it leaves of what decides whether another, or the same, acts. -/
theorem State.actsBy_of_beside {s t : State} {n : Nat} (m : Nat) (hn : n < 112)
    (h : ∀ {α : Type} {p : State → α}, BesideSwitch n p → p t = p s) : t.actsBy m = s.actsBy m :=
  State.actsBy_congr (h ((undriven_lswValid m).besideSwitch n)) (h ((undriven_cut _).besideSwitch n)) (h (undriven_pwr.besideSwitch n))
    (h (besideSwitch_reg (isOffSwitch_CTL _ n))) (h (besideSwitch_reg (isOffSwitch_of_ge hn (Nat.le_refl _))))
    (h (besideSwitch_reg (isOffSwitch_of_ge hn (by simp only [R.TDM_STATE, R.TDM_WIRE_HS]; omega))))

end Sys2Proof.Machine
end

section
/-! Load-switch channels: a write of the command register and of the enable of a die (R231, R232). -/

namespace Sys2Proof.Machine

/-! ### The command -/

/-- The command register of a free channel written, and what the channel kept of earlier sources given up (R231). -/
def State.lswCmdWritten (s : State) (n : Nat) (w : Word) : State :=
  let u := s.writePlain (R.LSW_CMD (n / 48) (n % 48)) w
  u.setLch n { u.lch n with kept := none, dest := none }

theorem State.writeLswCmd_of_unmasked {s : State} (n : Nat) (w : Word) (h : s.tdmMasked = false) : s.writeLswCmd n w = s.takeLswCmd n w := by
  have hown : s.mirrorOnly = false := by
    simp only [State.tdmMasked, State.mirrorOnly, Bool.or_eq_false_iff] at h ⊢
    exact h.1.1
  simp only [State.writeLswCmd, State.ownCmd, h, State.ifOwn_of_own hown, ite_self, if_false, Bool.false_eq_true]

theorem State.takeLswCmd_of_free {s : State} {n : Nat} {w : Word} (hholder : (s.lch n).holder = none)
    (hdest : s.flag (lswF F.LSW_CHSTAT_DEST n) = false)
    (hduty : (s.writePlain (R.LSW_CMD (n / 48) (n % 48)) w).fld (lswF F.LSW_CMD_DUTY n) ≤ 10000) :
    s.takeLswCmd n w = ((s.lswCmdWritten n w).lswDuty n).lswEdge n (((s.lswCmdWritten n w).lswDuty n).flag (lswF F.LSW_CMD_ON n))
      ((s.lswCmdWritten n w).lswDuty n).now := by
  simp only [State.takeLswCmd, hholder, hdest, Option.isSome_none, Bool.or_self, Bool.false_eq_true, if_false, Nat.not_lt.mpr hduty]
  rfl

/-- A write of the command register leaves what decides whether a channel acts. -/
theorem State.actsBy_lswCmdWritten (s : State) {n : Nat} (w : Word) (hn : n < 112) : (s.lswCmdWritten n w).actsBy n = s.actsBy n := by
  have hne {a : Nat} (ha : a ≠ R.LSW_CMD (n / 48) (n % 48)) : (s.lswCmdWritten n w).reg a = s.reg a := State.reg_setReg_ne s _ ha
  refine State.actsBy_congr rfl rfl rfl (hne ?_) (hne ?_) (hne ?_) <;>
    simp only [R.LSW_CTL, R.LSW_CMD, R.TDM_STATE, R.TDM_WIRE_HS] <;> omega

section
variable {s : State} {n : Nat} (on : Bool) (te : Nat) (hn : n < 112)
include hn

theorem State.LEVEL_lswEdge : (s.lswEdge n on te).flag (lswF F.LSW_CHSTAT_LEVEL n) = on :=
  (State.flag_congr (SwitchField.lswAct (switchField (by decide)) (lastingField (by decide)) _ on te hn)).trans
    (State.flag_setBit s _ (fldOk (by decide)) on)

/-- The state of a channel that acts after an edge (Table 9-5). -/
theorem State.lswState_lswEdge (h : s.lswDrives n = true) :
    (on = true → s.lswState n = lsOFF → (s.lswEdge n on te).lswState n = startState (s.entry 2 n)) ∧
    (on = false → (s.lswEdge n on te).lswState n = lsOFF) := by
  have hlevel {α : Type} {p : State → α} (hp : BesideSwitch n p) : p (s.setBit (lswF F.LSW_CHSTAT_LEVEL n) on) = p s :=
    hp.stat s _ rfl (fldOk (by decide))
  have hstate : (s.setBit (lswF F.LSW_CHSTAT_LEVEL n) on).lswState n = s.lswState n :=
    State.fld_setFld_other s _ _ (fldOk (by decide)) (by decide : 2 < 32) (.inr (by decide : 2 < 6)) _
  have hdrives := (State.lswDrives_congr (State.actsBy_of_beside n hn hlevel) hstate).trans h
  obtain ⟨hactOn, hactOff⟩ := State.lswAct_of_drives hdrives te
  constructor
  · rintro rfl hoff
    rw [State.lswEdge, hactOn, if_pos (hstate.trans hoff), State.lswState_lswStart]
    rfl
  · rintro rfl
    rw [State.lswEdge, hactOff, State.lswState_lswTo _ _ (by decide)]

end

theorem lswCmdWrite_commands (s : State) (acc : Acc) (n : Fin 96) (v w : Word) (h : s.takesWrite acc (R.LSW_CMD (n / 48) (n % 48)))
    (hmask : s.tdmMasked = false) (hholder : (s.lch n).holder = none) (hdest : s.flag (lswF F.LSW_CHSTAT_DEST n) = false)
    (hw : w = writtenWord (R.LSW_CMD (n / 48) (n % 48)) (s.locked (R.LSW_CMD (n / 48) (n % 48))) (s.reg (R.LSW_CMD (n / 48) (n % 48))) v)
    (hduty : (lswF F.LSW_CMD_DUTY n).get w ≤ 10000) :
    Gives (exec (.lswCmdWrite acc n v) s) (fun t => t.reg (R.LSW_CMD (n / 48) (n % 48)) = w ∧
      t.flag (lswF F.LSW_CHSTAT_LEVEL n) = ((lswF F.LSW_CMD_ON n).get w = 1 : Bool) ∧ (t.lch n).kept = none ∧ (t.lch n).dest = none ∧
      (s.lswDrives n → (lswF F.LSW_CMD_ON n).get w = 1 → s.lswState n = lsOFF →
        t.lswState n = if 0 < hTinr (s.entry 2 n) then lsINRUSH else lsON) ∧
      (s.lswDrives n → (lswF F.LSW_CMD_ON n).get w = 0 → t.lswState n = lsOFF) ∧
      (∀ m, m ≠ n.val → t.lch m = s.lch m) ∧ t.mem = s.mem) := by
  have hexec : exec (.lswCmdWrite acc n v) s = execLswCmdWrite acc n v s := by rfl
  have hn : n.val < 112 := by omega
  let written := s.lswCmdWritten n v
  let taken := written.lswDuty n
  let t := taken.lswEdge n (taken.flag (lswF F.LSW_CMD_ON n)) taken.now
  have hkeep {α : Type} {p : State → α} (hp : BesideSwitch n p) : p taken = p written := hp.lswDuty written hn
  have hcmd : written.reg (R.LSW_CMD (n / 48) (n % 48)) = w := (State.reg_setReg_same s _ _).trans hw.symm
  have hcmdTaken : taken.reg (R.LSW_CMD (n / 48) (n % 48)) = w := (hkeep (besideSwitch_reg (isOffSwitch_CMD n n))).trans hcmd
  have hon : taken.flag (lswF F.LSW_CMD_ON n) = ((lswF F.LSW_CMD_ON n).get w = 1 : Bool) :=
    congrArg (fun x => decide ((lswF F.LSW_CMD_ON n).get x = 1)) hcmdTaken
  have hrun : execLswCmdWrite acc n v s = .next t := by
    have hwritten : (s.writePlain (R.LSW_CMD (n / 48) (n % 48)) v).fld (lswF F.LSW_CMD_DUTY n) ≤ 10000 := by
      exact le_of_eq_of_le (congrArg (lswF F.LSW_CMD_DUTY n).get hcmd) hduty
    rw [execLswCmdWrite, State.guardWrite_of_takesWrite s acc _ _ h, State.writeLswCmd_of_unmasked _ _ hmask,
      State.takeLswCmd_of_free hholder hdest hwritten]
  have hstate : taken.lswState n = s.lswState n :=
    ((switchField_STATE n).undutied.lswDuty written hn).trans
      (State.fld_setReg_ne s _ _ _ (by simp only [lswF, F.LSW_CHSTAT_STATE, R.LSW_CHSTAT, R.LSW_CMD]; omega))
  have hdrives : taken.lswDrives n = s.lswDrives n :=
    State.lswDrives_congr ((State.actsBy_of_beside n hn hkeep).trans (s.actsBy_lswCmdWritten v hn)) hstate
  have hentry : taken.entry 2 n = s.entry 2 n := hkeep ((undriven_entry 2 n).besideSwitch n)
  have hstanding : (taken.lch n).standing = (written.lch n).standing := (undutied_standing n).lswDuty written hn
  have hwritten : written.lch n = { s.lch n with kept := none, dest := none } := State.lch_setLch_same _ _ _
  obtain ⟨hkept, hdestKept⟩ := (taken.setBit (lswF F.LSW_CHSTAT_LEVEL n) (taken.flag (lswF F.LSW_CMD_ON n))).kept_lswAct
    (taken.flag (lswF F.LSW_CMD_ON n)) taken.now hn
  refine ⟨t, hexec.trans hrun, ?_, (State.LEVEL_lswEdge _ _ hn).trans hon, ?_, ?_, fun hacts hone hoff => ?_, fun hacts hzero => ?_,
    fun m hm => ?_, ?_⟩
  · exact ((besideSwitch_reg (isOffSwitch_CMD n n)).lswEdge taken _ _ hn).trans hcmdTaken
  · exact hkept.trans ((congrArg Prod.fst hstanding).trans (congrArg LCh.kept hwritten))
  · exact hdestKept.trans ((congrArg (·.2.1) hstanding).trans (congrArg LCh.dest hwritten))
  · rw [(State.lswState_lswEdge _ _ hn (hdrives.trans hacts)).1 (hon.trans (decide_eq_true hone)) (hstate.trans hoff), hentry]
    rfl
  · exact (State.lswState_lswEdge _ _ hn (hdrives.trans hacts)).2 (hon.trans (decide_eq_false (by omega)))
  · exact ((besideSwitch_lch hm).lswEdge taken _ _ hn).trans ((hkeep (besideSwitch_lch hm)).trans (State.lch_setLch_ne _ _ hm))
  · exact (undriven_mem.lswEdge taken _ _ n.isLt).trans (undriven_mem.lswDuty written n.isLt)

/-! ### The enable of a die -/

/-- Channel j of die d takes the level of its source, its PWM period staggered by its place in its cluster (R232). -/
def State.lswResume (d : Nat) (s : State) (j : Nat) : State :=
  let n := 48 * d + j
  let s := s.lswAct n (s.flag (lswF F.LSW_CHSTAT_LEVEL n)) s.now
  if s.lswOn n then s.setLch n { s.lch n with phase := s.now + (j % 8) * (pwmPeriod (s.lch n).pwmf / 8) } else s

/-- Channel j of die d turned off, unless it is in FAULT, SHED or THERM (R232). -/
def State.lswDisable (d : Nat) (s : State) (j : Nat) : State :=
  if s.lswState (48 * d + j) < lsFAULT then s.lswTo (48 * d + j) lsOFF else s

theorem BesideSwitch.lswResume {α : Type} {p : State → α} {d j : Nat} (hp : BesideSwitch (48 * d + j) p) (s : State) (hn : 48 * d + j < 112) :
    p (State.lswResume d s j) = p s := by
  simp only [State.lswResume]
  rw [apply_ite p, hp.setLch, ite_self, hp.lswAct _ _ _ hn]

theorem BesideSwitch.lswDisable {α : Type} {p : State → α} {d j : Nat} (hp : BesideSwitch (48 * d + j) p) (s : State) :
    p (State.lswDisable d s j) = p s := by
  rw [State.lswDisable, apply_ite p, hp.lswTo, ite_self]

/-- A write of LSW_CTL by the value of EN before and after (R232). -/
theorem State.writeLswCtl_cases (s : State) (d : Nat) (w : Word) :
    (s.flag (F.LSW_CTL_EN d) = true ∧ (s.writePlain (R.LSW_CTL d) w).flag (F.LSW_CTL_EN d) = false ∧
      s.writeLswCtl d w = (List.range 48).foldl (State.lswDisable d) (s.writePlain (R.LSW_CTL d) w)) ∨
    (s.flag (F.LSW_CTL_EN d) = false ∧ (s.writePlain (R.LSW_CTL d) w).flag (F.LSW_CTL_EN d) = true ∧
      s.writeLswCtl d w = (List.range 48).foldl (State.lswResume d) (s.writePlain (R.LSW_CTL d) w)) ∨
    (s.flag (F.LSW_CTL_EN d) = (s.writePlain (R.LSW_CTL d) w).flag (F.LSW_CTL_EN d) ∧ s.writeLswCtl d w = s.writePlain (R.LSW_CTL d) w) := by
  simp only [State.writeLswCtl]
  cases s.flag (F.LSW_CTL_EN d) <;> cases (s.writePlain (R.LSW_CTL d) w).flag (F.LSW_CTL_EN d)
  · exact .inr (.inr ⟨rfl, rfl⟩)
  · exact .inr (.inl ⟨rfl, rfl, rfl⟩)
  · exact .inl ⟨rfl, rfl, rfl⟩
  · exact .inr (.inr ⟨rfl, rfl⟩)

/-- What every channel of a die leaves beside it, a write of LSW_CTL leaves of the register written. -/
theorem State.writeLswCtl_keeps {α : Type} {p : State → α} (hp : ∀ n, BesideSwitch n p) (s : State) {d : Nat} (w : Word) (hd : d < 2) :
    p (s.writeLswCtl d w) = p (s.writePlain (R.LSW_CTL d) w) := by
  obtain ⟨-, -, h⟩ | ⟨-, -, h⟩ | ⟨-, h⟩ := s.writeLswCtl_cases d w
  · rw [h, State.foldl_keeps fun u j => (hp _).lswDisable u]
  · rw [h, State.foldl_keeps_of_mem fun u j hj => (hp _).lswResume u (by have := List.mem_range.mp hj; omega)]
  · rw [h]

/-- Every channel of a die is OFF, or in FAULT, SHED or THERM, once all are turned off. -/
theorem State.lswState_allDisabled (s : State) {d j : Nat} (hj : j < 48) :
    ((List.range 48).foldl (State.lswDisable d) s).lswState (48 * d + j) = lsOFF ∨
      lsFAULT ≤ ((List.range 48).foldl (State.lswDisable d) s).lswState (48 * d + j) := by
  refine State.foldl_reaches (Q := fun _ => True) (D := fun u => u.lswState (48 * d + j) = lsOFF ∨ lsFAULT ≤ u.lswState (48 * d + j))
    List.nodup_range (List.mem_range.mpr hj) (fun u _ => ?_) (fun _ _ _ _ _ => trivial) (fun u i _ hij hu => ?_) trivial
  · unfold State.lswDisable
    split
    next => exact .inl (u.lswState_lswTo _ (by decide))
    next h => exact .inr (Nat.not_lt.mp h)
  · rwa [(besideSwitch_lswState (show 48 * d + j ≠ 48 * d + i by omega)).lswDisable]

/-- Channel n is about to start: it acts, is OFF, its level is ON, its entry is e. -/
structure State.Starts (n : Nat) (e : List Byte) (s : State) : Prop where
  drives : s.lswDrives n = true
  off : s.lswState n = lsOFF
  level : s.flag (lswF F.LSW_CHSTAT_LEVEL n) = true
  entry : s.entry 2 n = e

theorem State.Starts.lswResume_ne {s : State} {d j i : Nat} {e : List Byte} (h : s.Starts (48 * d + j) e) (hij : i ≠ j) (hi : 48 * d + i < 112) :
    (State.lswResume d s i).Starts (48 * d + j) e := by
  have hne : 48 * d + j ≠ 48 * d + i := by omega
  have hkeep {α : Type} {p : State → α} (hp : BesideSwitch (48 * d + i) p) : p (State.lswResume d s i) = p s := hp.lswResume s hi
  exact {
    drives := (State.lswDrives_congr (State.actsBy_of_beside _ hi hkeep) (hkeep (besideSwitch_lswState hne))).trans h.drives
    off := (hkeep (besideSwitch_lswState hne)).trans h.off
    level := (State.flag_congr (hkeep (besideSwitch_fld (isOffSwitch_CHSTAT hne)))).trans h.level
    entry := (hkeep ((undriven_entry 2 _).besideSwitch _)).trans h.entry }

theorem State.Starts.lswResume_same {s : State} {d j : Nat} {e : List Byte} (h : s.Starts (48 * d + j) e) :
    (State.lswResume d s j).lswState (48 * d + j) = startState e := by
  have hact : (s.lswAct (48 * d + j) (s.flag (lswF F.LSW_CHSTAT_LEVEL (48 * d + j))) s.now).lswState (48 * d + j) = startState e := by
    rw [h.level, (State.lswAct_of_drives h.drives s.now).1, if_pos h.off, State.lswState_lswStart, h.entry]
  simp only [State.lswResume]
  refine (apply_ite (State.lswState · (48 * d + j)) _ _ _).trans (Eq.trans ?_ hact)
  exact ite_self _

/-- A channel that is about to start has started once every channel of its die has taken its level. -/
theorem State.Starts.allResumed {s : State} {d j : Nat} {e : List Byte} (h : s.Starts (48 * d + j) e) (hd : d < 2) (hj : j < 48) :
    ((List.range 48).foldl (State.lswResume d) s).lswState (48 * d + j) = startState e := by
  have hlt {i : Nat} (hi : i ∈ List.range 48) : 48 * d + i < 112 := by have := List.mem_range.mp hi; omega
  refine State.foldl_reaches (Q := State.Starts (48 * d + j) e) (D := fun u => u.lswState (48 * d + j) = startState e) List.nodup_range
    (List.mem_range.mpr hj) (fun u hu => hu.lswResume_same) (fun u i hi hij hu => hu.lswResume_ne hij (hlt hi)) (fun u i hi hij hu => ?_) h
  rwa [(besideSwitch_lswState (show 48 * d + j ≠ 48 * d + i by omega)).lswResume u (hlt hi)]

/-- A word written to LSW_CTL of a die that enables it leaves a channel ready to start that was OFF with its level ON. -/
theorem State.starts_writePlain_CTL (s : State) {d j : Nat} (v : Word) (hen : (s.writePlain (R.LSW_CTL d) v).flag (F.LSW_CTL_EN d) = true)
    (hd : d < 2) (hcut : s.cut d = 0) (hj : j < 48) (hvalid : s.lswValid (48 * d + j) = true) (hhiz : s.hiZ 1 (48 * d + j) = false)
    (hstate : s.lswState (48 * d + j) = lsOFF) (hlevel : s.flag (lswF F.LSW_CHSTAT_LEVEL (48 * d + j)) = true) :
    (s.writePlain (R.LSW_CTL d) v).Starts (48 * d + j) (s.entry 2 (48 * d + j)) := by
  let written := s.writePlain (R.LSW_CTL d) v
  have hne {f : Fld} (ha : f.addr ≠ R.LSW_CTL d) : written.fld f = s.fld f := State.fld_setReg_ne s _ _ f ha
  have hdie : (48 * d + j) / 48 = d := by omega
  have hchstat : (lswF F.LSW_CHSTAT_STATE (48 * d + j)).addr ≠ R.LSW_CTL d := by
    simp only [lswF, F.LSW_CHSTAT_STATE, R.LSW_CHSTAT, R.LSW_CTL]; omega
  have hpstate : written.fld F.TDM_STATE_PSTATE = s.fld F.TDM_STATE_PSTATE := hne (by simp only [F.TDM_STATE_PSTATE, R.TDM_STATE, R.LSW_CTL]; omega)
  have hwire (k : Nat) : written.fld (F.TDM_WIRE_HS_CHANNELS k) = s.fld (F.TDM_WIRE_HS_CHANNELS k) :=
    hne (by simp only [F.TDM_WIRE_HS_CHANNELS, R.TDM_WIRE_HS, R.LSW_CTL]; omega)
  have hhizWritten : written.hiZ 1 (48 * d + j) = false := by
    simp only [State.hiZ, State.tdmMasked, State.mirrored, hpstate, hwire] at hhiz ⊢
    exact hhiz
  have hoff : written.lswState (48 * d + j) = lsOFF := (hne hchstat).trans hstate
  have hvalidWritten : written.lswValid (48 * d + j) = true := hvalid
  have hcutWritten : written.cut d = 0 := hcut
  have hdrives : written.lswDrives (48 * d + j) = true := by
    simp only [State.lswDrives, hdie, hvalidWritten, show written.flag (F.LSW_CTL_EN d) = true from hen, hcutWritten, hoff, hhizWritten]
    rfl
  exact ⟨hdrives, hoff, (State.flag_congr (hne (f := lswF F.LSW_CHSTAT_LEVEL (48 * d + j)) hchstat)).trans hlevel, rfl⟩

theorem lswEnable_switches (s : State) (acc : Acc) (d : Fin 2) (v : Word) (h : s.takesWrite acc (R.LSW_CTL d)) :
    Gives (exec (.lswEnable acc d v) s) (fun t => t.reg (R.LSW_CTL d) = writtenWord (R.LSW_CTL d) (s.locked (R.LSW_CTL d)) (s.reg (R.LSW_CTL d)) v ∧
      (s.flag (F.LSW_CTL_EN d) → t.flag (F.LSW_CTL_EN d) = false → ∀ j < 48, t.lswState (48 * d + j) = lsOFF ∨ lsFAULT ≤ t.lswState (48 * d + j)) ∧
      (s.flag (F.LSW_CTL_EN d) = false → t.flag (F.LSW_CTL_EN d) → s.cut d = 0 → ∀ j < 48, s.lswValid (48 * d + j) →
        s.hiZ 1 (48 * d + j) = false → s.lswState (48 * d + j) = lsOFF → s.flag (lswF F.LSW_CHSTAT_LEVEL (48 * d + j)) →
        t.lswState (48 * d + j) = if 0 < hTinr (s.entry 2 (48 * d + j)) then lsINRUSH else lsON) ∧ t.mem = s.mem) := by
  have hexec : exec (.lswEnable acc d v) s = execLswEnable acc d v s := by rfl
  let written := s.writePlain (R.LSW_CTL d) v
  have hctl : (s.writeLswCtl d v).reg (R.LSW_CTL d) = written.reg (R.LSW_CTL d) :=
    State.writeLswCtl_keeps (fun n => besideSwitch_reg (isOffSwitch_CTL d n)) s v d.isLt
  have hen : (s.writeLswCtl d v).flag (F.LSW_CTL_EN d) = written.flag (F.LSW_CTL_EN d) := State.flag_congr (State.fld_congr hctl)
  refine ⟨s.writeLswCtl d v, ?_, hctl.trans (State.reg_setReg_same s _ _), fun hon hoff j hj => ?_,
    fun hoff hon hcut j hj hvalid hhiz hstate hlevel => ?_, State.writeLswCtl_keeps undriven_mem.besideSwitch s v d.isLt⟩
  · rw [hexec, execLswEnable, State.guardWrite_of_takesWrite s acc _ _ h]
  · obtain ⟨-, -, hrun⟩ | ⟨hwas, -, -⟩ | ⟨hsame, -⟩ := s.writeLswCtl_cases d v
    · rw [hrun]
      exact State.lswState_allDisabled written hj
    · rw [hwas] at hon; cases hon
    · rw [hsame, ← hen, hoff] at hon; cases hon
  · obtain ⟨hwas, -, -⟩ | ⟨-, -, hrun⟩ | ⟨hsame, -⟩ := s.writeLswCtl_cases d v
    · rw [hoff] at hwas; cases hwas
    · have hstarts := s.starts_writePlain_CTL v (hen.symm.trans hon) d.isLt hcut hj hvalid hhiz hstate hlevel
      rw [hrun]
      exact hstarts.allResumed d.isLt hj
    · rw [hoff, ← hen, hon] at hsame; cases hsame

end Sys2Proof.Machine
end

section
/-! Load-switch channels: the end of the inrush window, latches, retries, the release of a fault, open loads (R234-R237). -/

namespace Sys2Proof.Machine

/-! ### Flags -/

/-- The status of a channel is no note of its die. -/
theorem LSW_CHSTAT_ne_note {n b : Nat} (h : isSwitchNote (n / 48) b) : R.LSW_CHSTAT (n / 48) (n % 48) ≠ b := by
  simp only [isSwitchNote, R.BRD_CTL, R.LSW_STAT, R.LSW_RETRYCNT, R.LSW_CHSTAT] at h ⊢
  omega

/-- A flag that a channel raises reads set. -/
theorem State.flag_lswFlag (s : State) {ch : Nat → Nat → Fld} {unit : Nat → Fld} {n : Nat} (hch : DiagFlag n (lswF ch n))
    (hunit : ∀ d, (unit d).addr = R.LSW_STAT d) (hn : n < 112) : (s.lswFlag ch unit n).flag (lswF ch n) = true := by
  have hreg : (s.lswFlag ch unit n).reg (lswF ch n).addr = (s.setFld (lswF ch n) 1).reg (lswF ch n).addr := by
    rw [hch.addr]
    exact State.reg_raiseFlag_ne _ _ _ _ (LSW_CHSTAT_ne_note (hunit _ ▸ isSwitchNote_STAT _))
      (LSW_CHSTAT_ne_note (isSwitchNote_pend _ (by omega)))
  obtain ⟨-, hok⟩ := hch.bits
  exact (State.flag_congr (State.fld_congr hreg)).trans (State.flag_setFld_one s _ hok)

theorem LSW_STAT_ne_pend (d : Nat) : R.LSW_STAT d ≠ R.RNG_INT_PEND ((189 + d) / 32) := by
  simp only [R.LSW_STAT, R.RNG_INT_PEND]
  omega

theorem unmoved_lsw : Unmoved State.lsw := ⟨fun _ _ _ => rfl, fun _ _ => rfl, fun _ _ _ => rfl⟩

theorem State.lswFlag_lsw (s : State) (ch : Nat → Nat → Fld) (unit : Nat → Fld) (n : Nat) : (s.lswFlag ch unit n).lsw = s.lsw :=
  State.raiseFlag_lsw _ _ _

/-! ### Latches -/

section
variable (s : State) {n : Nat} (c : Nat)

theorem State.lswCauseFlag_lsw : (s.lswCauseFlag n c).lsw = s.lsw := by
  unfold State.lswCauseFlag
  split
  · exact s.lswFlag_lsw _ _ n
  · exact s.lswFlag_lsw _ _ n
  · exact State.setFld_lsw s _ 1

variable (hn : n < 112)
include hn

theorem State.OVERLOAD_lswCauseFlag (hc : c = 2) : (s.lswCauseFlag n c).flag (lswF F.LSW_CHSTAT_OVERLOAD n) = true := by
  unfold State.lswCauseFlag
  split
  next => cases hc
  next => exact s.flag_lswFlag (diagFlag (by decide)) (fun _ => rfl) hn
  next h => exact absurd hc h

theorem State.lch_lswCaught : (s.lswCaught n c).lch n = { s.lch n with latchAt := s.now } := by
  have hnow : ((s.lswCauseFlag n c).event 0x0701 [w32 n, w32 c]).now = s.now :=
    (unmoved_now.event _ _ _).trans ((undriven_now.besideSwitch n).lswCauseFlag s c hn)
  have hlch : ((s.lswCauseFlag n c).event 0x0701 [w32 n, w32 c]).lch n = s.lch n :=
    State.lch_congr ((unmoved_lsw.event _ _ _).trans (s.lswCauseFlag_lsw c)) n
  rw [State.lswCaught, State.lch_setLch_same, hlch, hnow]

theorem SwitchField.lswCaught {f : Fld} (hf : SwitchField n f) : (s.lswCaught n c).fld f = s.fld f :=
  (hf.undutied.event _ _ _).trans (hf.undutied.lswCauseFlag s c hn)

theorem State.lswLatch_cases :
    (s.fld (lswF F.LSW_CHSTAT_RETRIES n) < (s.lch n).retry ∧ s.lswLatch n c = (s.lswCaught n c).lswTo n lsRETRY) ∨
    ((s.lch n).retry ≤ s.fld (lswF F.LSW_CHSTAT_RETRIES n) ∧ s.lswLatch n c =
      (((s.lswCaught n c).setFld (lswF F.LSW_CHSTAT_FCAUSE n) c).raiseFlag (F.LSW_STAT_FAULT (n / 48)) (189 + n / 48)).lswTo n lsFAULT) := by
  have hretries : (s.lswCaught n c).fld (lswF F.LSW_CHSTAT_RETRIES n) = s.fld (lswF F.LSW_CHSTAT_RETRIES n) :=
    SwitchField.lswCaught s c hn (switchField (by decide))
  rw [State.lswLatch_eq, hretries, State.lch_lswCaught s c hn]
  by_cases h : s.fld (lswF F.LSW_CHSTAT_RETRIES n) < (s.lch n).retry
  · exact .inl ⟨h, if_pos h⟩
  · exact .inr ⟨Nat.not_lt.mp h, if_neg h⟩

theorem State.latchAt_lswLatch : ((s.lswLatch n c).lch n).latchAt = s.now := by
  obtain ⟨-, h⟩ | ⟨-, h⟩ := s.lswLatch_cases c hn
  · rw [h, State.lch_congr (State.lswTo_lsw _ _ _), State.lch_lswCaught s c hn]
  · rw [h, State.lch_congr (State.lswTo_lsw _ _ _), State.lch_congr (State.raiseFlag_lsw _ _ _)]
    exact congrArg LCh.latchAt (s.lch_lswCaught c hn)

theorem State.lswState_lswLatch : (s.lswLatch n c).lswState n =
    if s.fld (lswF F.LSW_CHSTAT_RETRIES n) < (s.lch n).retry then lsRETRY else lsFAULT := by
  obtain ⟨hleft, h⟩ | ⟨hnone, h⟩ := s.lswLatch_cases c hn
  · rw [h, State.lswState_lswTo _ _ (by decide), if_pos hleft]
  · rw [h, State.lswState_lswTo _ _ (by decide), if_neg (Nat.not_lt.mpr hnone)]

/-- A flag of the channel that its latch raises stays through the latch. -/
theorem State.fld_lswLatch_diag {f : Fld} (hf : DiagFlag n f) : (s.lswLatch n c).fld f = (s.lswCauseFlag n c).fld f := by
  have hbits := hf.bits
  have hlasts : LastingField n f := ⟨hf.addr, .inr ⟨by omega, hbits.2.2⟩⟩
  have hcaught : (s.lswCaught n c).fld f = (s.lswCauseFlag n c).fld f := by
    refine State.fld_congr (State.event_onlyRegs _ _ _ _ ?_)
    simp only [hf.addr, eventRegs, R.LSW_CHSTAT, R.EVR_LOSTCNT, R.EVR_STAT, R.RNG_INT_PEND, List.mem_cons, List.not_mem_nil, or_false]
    omega
  obtain ⟨-, h⟩ | ⟨-, h⟩ := s.lswLatch_cases c hn
  · rw [h, hlasts.lswTo, hcaught]
  · have hraise : f.addr ≠ (F.LSW_STAT_FAULT (n / 48)).addr ∧ f.addr ≠ R.RNG_INT_PEND ((189 + n / 48) / 32) := by
      rw [hf.addr]
      exact ⟨LSW_CHSTAT_ne_note (isSwitchNote_STAT _), LSW_CHSTAT_ne_note (isSwitchNote_pend _ (by omega))⟩
    rw [h, hlasts.lswTo, State.fld_congr (State.reg_raiseFlag_ne _ _ _ _ hraise.1 hraise.2), ← hcaught]
    exact State.fld_setFld_other _ _ f (fldOk (by decide)) hbits.2.2 (.inl (show 15 < f.lo by omega)) c

/-- FAULT names its cause, and the die shows it (R236). -/
theorem State.cause_lswLatch (h : (s.lch n).retry ≤ s.fld (lswF F.LSW_CHSTAT_RETRIES n)) (hc : c < 8) :
    (s.lswLatch n c).fld (lswF F.LSW_CHSTAT_FCAUSE n) = c ∧ (s.lswLatch n c).flag (F.LSW_STAT_FAULT (n / 48)) = true := by
  obtain ⟨hleft, -⟩ | ⟨-, hrun⟩ := s.lswLatch_cases c hn
  · omega
  have hlasts : LastingField n (lswF F.LSW_CHSTAT_FCAUSE n) := lastingField (by decide)
  rw [hrun]
  constructor
  · rw [hlasts.lswTo, State.fld_congr (State.reg_raiseFlag_ne _ _ _ _ (LSW_CHSTAT_ne_note (isSwitchNote_STAT _))
      (LSW_CHSTAT_ne_note (isSwitchNote_pend _ (by omega))))]
    exact (State.fld_setFld_same _ _ (fldOk (by decide)) c).trans (Nat.mod_eq_of_lt hc)
  · have hoff : (F.LSW_STAT_FAULT (n / 48)).addr ≠ R.LSW_CHSTAT (n / 48) (n % 48) := (LSW_CHSTAT_ne_note (isSwitchNote_STAT _)).symm
    have hkeep (u : State) : (u.lswTo n lsFAULT).fld (F.LSW_STAT_FAULT (n / 48)) = u.fld (F.LSW_STAT_FAULT (n / 48)) :=
      State.lswTo_keeps (p := fun s => s.fld (F.LSW_STAT_FAULT (n / 48))) (fun w f v hf _ => State.fld_setFld_ne w f _ (hf ▸ hoff) v) u _
    rw [State.flag_congr (hkeep _)]
    exact State.flag_raiseFlag _ _ (fldOk (by decide)) _ (LSW_STAT_ne_pend _)

end

/-! ### The end of the inrush window -/

theorem inrushEnd_ends (s : State) (n : Fin 96) (limiting : Bool) (hstate : s.lswState n = lsINRUSH)
    (hdue : (s.lch n).startAt + 100000 * (s.lch n).tInr ≤ s.now) :
    Gives (exec (.inrushEnd n limiting) s) (fun t => (limiting = false → t.lswState n = lsON ∧ t.lsw = s.lsw) ∧
      (limiting → t.flag (lswF F.LSW_CHSTAT_OVERLOAD n) ∧ (t.lch n).latchAt = s.now ∧
        t.lswState n = if s.fld (lswF F.LSW_CHSTAT_RETRIES n) < (s.lch n).retry then lsRETRY else lsFAULT) ∧
      (∀ m, m ≠ n.val → t.lch m = s.lch m) ∧ t.mem = s.mem) := by
  have hexec : exec (.inrushEnd n limiting) s = execInrushEnd n limiting s := by rfl
  have hn : n.val < 112 := by omega
  let u := s.setBit (lswF F.LSW_CHSTAT_LIMITING n) limiting
  have hset {α : Type} {p : State → α} (hp : BesideSwitch n p) : p u = p s := hp.stat s _ rfl (fldOk (by decide))
  have hlsw : u.lsw = s.lsw := State.setFld_lsw s _ _
  rw [hexec, execInrushEnd, if_pos ⟨hstate, decide_eq_true hdue⟩]
  cases limiting with
  | false =>
    refine ⟨u.lswTo n lsON, congrArg _ (if_neg Bool.false_ne_true), fun _ => ⟨u.lswState_lswTo n (by decide), (u.lswTo_lsw n _).trans hlsw⟩, nofun, fun m hm => ?_, ?_⟩
    · exact ((besideSwitch_lch hm).lswTo u _).trans (hset (besideSwitch_lch hm))
    · exact (undriven_mem.lswTo u n _).trans (hset (undriven_mem.besideSwitch n))
  | true =>
    have hretries : u.fld (lswF F.LSW_CHSTAT_RETRIES n) = s.fld (lswF F.LSW_CHSTAT_RETRIES n) :=
      State.fld_setFld_other s _ _ (fldOk (by decide)) (by decide : 12 < 32) (.inl (by decide : 9 < 10)) _
    refine ⟨u.lswLatch n 2, congrArg _ (if_pos rfl), nofun, fun _ => ⟨?_, (u.latchAt_lswLatch 2 hn).trans (hset (undriven_now.besideSwitch n)), ?_⟩, fun m hm => ?_, ?_⟩
    · have hflag : DiagFlag n (lswF F.LSW_CHSTAT_OVERLOAD n) := diagFlag (by decide)
      exact (State.flag_congr (u.fld_lswLatch_diag 2 hn hflag)).trans (u.OVERLOAD_lswCauseFlag 2 hn rfl)
    · rw [u.lswState_lswLatch 2 hn, hretries, State.lch_congr hlsw]
    · exact ((besideSwitch_lch hm).lswLatch u 2 hn).trans (hset (besideSwitch_lch hm))
    · exact ((undriven_mem.besideSwitch n).lswLatch u 2 hn).trans (hset (undriven_mem.besideSwitch n))

/-! ### A fault -/

theorem lswFault_latches (s : State) (n : Fin 96) (cause : Fin 3) (us : BitVec 32) (hon : s.lswOn n) (hcut : s.cut (n / 48) ≠ 2)
    (hoverload : cause.val = 1 → s.lswState n = lsON ∧ 2000 ≤ us.toNat) :
    Gives (exec (.lswFault n cause us) s) (fun t => (t.lch n).latchAt = s.now ∧
      (s.fld (lswF F.LSW_CHSTAT_RETRIES n) < (s.lch n).retry → t.lswState n = lsRETRY) ∧
      ((s.lch n).retry ≤ s.fld (lswF F.LSW_CHSTAT_RETRIES n) → t.lswState n = lsFAULT ∧ t.fld (lswF F.LSW_CHSTAT_FCAUSE n) = cause.val + 1 ∧
        t.flag (F.LSW_STAT_FAULT (n / 48))) ∧ (∀ m, m ≠ n.val → t.lch m = s.lch m) ∧ t.mem = s.mem) := by
  have hexec : exec (.lswFault n cause us) s = execLswFault n cause us s := by rfl
  have hn : n.val < 112 := by omega
  refine ⟨s.lswLatch n (cause.val + 1), ?_, s.latchAt_lswLatch _ hn, fun hleft => ?_, fun hnone => ?_,
    fun m hm => (besideSwitch_lch hm).lswLatch s _ hn, (undriven_mem.besideSwitch n).lswLatch s _ hn⟩
  · rw [hexec, execLswFault]
    refine if_pos ?_
    simp only [Bool.and_eq_true, Bool.or_eq_true, decide_eq_true_eq]
    refine ⟨⟨hon, hcut⟩, or_iff_not_imp_left.mpr fun h => hoverload ?_⟩
    omega
  · rw [s.lswState_lswLatch _ hn, if_pos hleft]
  · rw [s.lswState_lswLatch _ hn, if_neg (Nat.not_lt.mpr hnone)]
    exact ⟨rfl, s.cause_lswLatch _ hn hnone (by omega)⟩

/-! ### Retries -/

theorem lswRetry_restarts (s : State) (n : Fin 96) (hstate : s.lswState n = lsRETRY)
    (hdue : (s.lch n).latchAt + 1000000 * (s.lch n).rspace ≤ s.now) (hlevel : s.flag (lswF F.LSW_CHSTAT_LEVEL n)) :
    Gives (exec (.lswRetry n) s) (fun t => t.lswState n = (if 0 < hTinr (s.entry 2 n) then lsINRUSH else lsON) ∧
      t.fld (lswF F.LSW_CHSTAT_RETRIES n) = (s.fld (lswF F.LSW_CHSTAT_RETRIES n) + 1) % 8 ∧ (t.lch n).startAt = s.now ∧
      (∀ m, m ≠ n.val → t.lch m = s.lch m) ∧ t.mem = s.mem) := by
  have hexec : exec (.lswRetry n) s = execLswRetry n s := by rfl
  have hn : n.val < 112 := by omega
  have hretries : SwitchField n (lswF F.LSW_CHSTAT_RETRIES n) := switchField (by decide)
  let counted := s.setFld (lswF F.LSW_CHSTAT_RETRIES n) (s.fld (lswF F.LSW_CHSTAT_RETRIES n) + 1)
  let u := counted.bump (F.LSW_RETRYCNT_COUNT (n / 48))
  have hset {α : Type} {p : State → α} (hp : BesideSwitch n p) : p u = p s :=
    (hp.bump counted _ (isSwitchNote_RETRYCNT _)).trans (hp.stat s _ rfl (fldOk (by decide)))
  refine ⟨u.lswStart n u.now, ?_, ?_, ?_, ?_, fun m hm => ?_, ?_⟩
  · rw [hexec, execLswRetry]
    exact if_pos ⟨hstate, decide_eq_true hdue, hlevel⟩
  · rw [u.lswState_lswStart, hset ((undriven_entry 2 n).besideSwitch n), startState]
  · rw [hretries.lswStart (lastingField (by decide)) u u.now hn]
    exact (hretries.undutied.bump counted _ (isSwitchNote_RETRYCNT _)).trans (State.fld_setFld_same s _ (fldOk (by decide)) _)
  · exact (congrArg (·.2.2) (u.standing_lswStart u.now hn)).trans (hset (undriven_now.besideSwitch n))
  · exact ((besideSwitch_lch hm).lswStart u _ hn).trans (hset (besideSwitch_lch hm))
  · exact (undriven_mem.lswStart u _ n.isLt).trans (hset (undriven_mem.besideSwitch n))

theorem retryCountClear_clears (s : State) (n : Fin 96) (hon : s.lswOn n)
    (hdue : max (s.lch n).startAt (s.lch n).latchAt + 1000000000 ≤ s.now) :
    Gives (exec (.retryCountClear n) s) (fun t => t.fld (lswF F.LSW_CHSTAT_RETRIES n) = 0 ∧ t.lswState n = s.lswState n ∧
      (∀ a, a ≠ R.LSW_CHSTAT (n / 48) (n % 48) → t.reg a = s.reg a) ∧ t.lsw = s.lsw ∧ t.mem = s.mem) := by
  have hexec : exec (.retryCountClear n) s = execRetryCountClear n s := by rfl
  refine ⟨s.setFld (lswF F.LSW_CHSTAT_RETRIES n) 0, ?_, State.fld_setFld_same s _ (fldOk (by decide)) 0, ?_,
    fun a ha => State.reg_setFld_ne s _ 0 a ha, rfl, rfl⟩
  · rw [hexec, execRetryCountClear]
    exact if_pos (Bool.and_eq_true_iff.mpr ⟨hon, decide_eq_true hdue⟩)
  · exact State.fld_setFld_other s _ _ (fldOk (by decide)) (by decide : 2 < 32) (.inr (by decide : 2 < 10)) 0

/-! ### The release of a fault -/

/-- The bit that FCAUSE names is one of the three causes' (Table 9-9). -/
theorem State.lswCauseBit_cases {s : State} {n : Nat} (h : within 1 3 (s.fld (lswF F.LSW_CHSTAT_FCAUSE n)) = true) :
    s.lswCauseBit n ≠ 0 ∧ s.lswCauseBit n &&& 0x4000000 = 0 := by
  simp only [within, Bool.and_eq_true, decide_eq_true_eq] at h
  have hcause : s.fld (lswF F.LSW_CHSTAT_FCAUSE n) = 1 ∨ s.fld (lswF F.LSW_CHSTAT_FCAUSE n) = 2 ∨ s.fld (lswF F.LSW_CHSTAT_FCAUSE n) = 3 := by
    omega
  rcases hcause with h | h | h <;> rw [State.lswCauseBit, h] <;> decide

/-- The bit that FCAUSE names is not SHED, whatever FCAUSE holds. -/
theorem State.shed_and_lswCauseBit (s : State) (n : Nat) : 0x4000000 &&& s.lswCauseBit n = 0 := by
  unfold State.lswCauseBit
  split <;> rfl

/-- The status register of channel n with 1 written to the flag that FCAUSE names, released (R236). -/
def State.lswReleased (s : State) (n : Nat) : State :=
  let u := s.writePlain (R.LSW_CHSTAT (n / 48) (n % 48)) (s.lswCauseBit n)
  ((u.setFld (lswF F.LSW_CHSTAT_FCAUSE n) 0).setFld (lswF F.LSW_CHSTAT_RETRIES n) 0).lswTo n lsOFF

theorem State.writeLswChstat_cause {s : State} {n : Nat} (hcause : within 1 3 (s.fld (lswF F.LSW_CHSTAT_FCAUSE n)) = true) :
    s.writeLswChstat n (s.lswCauseBit n) = s.lswReleased n := by
  obtain ⟨hbit, hshed⟩ := State.lswCauseBit_cases hcause
  simp only [State.writeLswChstat, BitVec.and_self, hbit, hshed, ne_eq, not_false_eq_true, and_self, not_true_eq_false, false_and, if_true,
    if_false, State.lswReleased]

theorem lswFaultRelease_frees (s : State) (acc : Acc) (n : Fin 96) (h : s.takesWrite acc (R.LSW_CHSTAT (n / 48) (n % 48)))
    (hcause : within 1 3 (s.fld (lswF F.LSW_CHSTAT_FCAUSE n))) :
    Gives (exec (.lswFaultRelease acc n) s) (fun t => t.lswState n = lsOFF ∧ t.fld (lswF F.LSW_CHSTAT_FCAUSE n) = 0 ∧
      t.fld (lswF F.LSW_CHSTAT_RETRIES n) = 0 ∧ t.lsw = s.lsw ∧ t.mem = s.mem) := by
  have hexec : exec (.lswFaultRelease acc n) s = execLswFaultRelease acc n s := by rfl
  let written := s.writePlain (R.LSW_CHSTAT (n / 48) (n % 48)) (s.lswCauseBit n)
  let freed := written.setFld (lswF F.LSW_CHSTAT_FCAUSE n) 0
  have hfcause : LastingField n (lswF F.LSW_CHSTAT_FCAUSE n) := lastingField (by decide)
  have hretries : LastingField n (lswF F.LSW_CHSTAT_RETRIES n) := lastingField (by decide)
  refine ⟨s.lswReleased n, ?_, State.lswState_lswTo _ n (by decide), (hfcause.lswTo _ _).trans ?_, (hretries.lswTo _ _).trans ?_,
    State.lswTo_lsw _ n _, undriven_mem.lswTo _ n _⟩
  · rw [hexec, execLswFaultRelease, State.guardWrite_of_takesWrite s acc _ _ h, State.writeLswChstat_cause hcause]
  · exact (State.fld_setFld_other freed _ _ (fldOk (by decide)) (by decide : 15 < 32) (.inl (by decide : 12 < 13)) 0).trans
      (State.fld_setFld_same written _ (fldOk (by decide)) 0)
  · exact State.fld_setFld_same freed _ (fldOk (by decide)) 0

/-! ### Open loads -/

theorem lswOpenLoad_flags (s : State) (n : Fin 96) (ms : BitVec 16) (hvalid : s.lswValid n) (hms : 10 ≤ ms.toNat) (hcut : s.cut (n / 48) ≠ 2)
    (hopen : (s.lswOn n ∧ hOlmode (s.lswEntry n) ≠ 0 ∧ 50000 ≤ s.lswOnPhase n) ∨
      (s.lswState n = lsOFF ∧ hOloff (s.lswEntry n) ∧ s.offTest 1 n)) :
    Gives (exec (.lswOpenLoad n ms) s) (fun t => t.flag (lswF F.LSW_CHSTAT_OPEN n) ∧ t.lswState n = s.lswState n ∧ t.lsw = s.lsw ∧
      t.mem = s.mem) := by
  have hexec : exec (.lswOpenLoad n ms) s = execLswOpenLoad n ms s := by rfl
  have hn : n.val < 112 := by omega
  refine ⟨s.lswFlag F.LSW_CHSTAT_OPEN F.LSW_STAT_OPEN n, ?_, s.flag_lswFlag (diagFlag (by decide)) (fun _ => rfl) hn,
    (switchField_STATE n).undutied.lswFlag s (fun _ => diagFlag (by decide)) (fun _ => rfl) hn, s.lswFlag_lsw _ _ n, ?_⟩
  · rw [hexec, execLswOpenLoad]
    refine if_pos ?_
    simp only [Bool.and_eq_true, Bool.or_eq_true, decide_eq_true_eq, hvalid, hms, hcut, ne_eq, not_false_eq_true, true_and, and_true]
    simpa only [and_assoc] using hopen
  · exact undriven_mem.lswFlag s (fun _ _ => rfl) (fun _ => rfl) n.isLt

end Sys2Proof.Machine
end

section
/-! The return of a shed load (R244), and the settling of the load-switch commands. -/

namespace Sys2Proof.Machine

/-! ### The shed list -/

theorem undriven_shedList (d : Nat) : Undriven (fun s => s.shedList d) :=
  ⟨fun _ _ _ _ => rfl, fun _ _ => rfl, fun _ _ => rfl, fun _ _ _ => rfl, fun _ _ _ => rfl⟩

/-- What the number of shed loads of a group leaves, showing it for every group leaves. -/
theorem State.shedShow_keeps {α : Type} {p : State → α} {d : Nat} (hp : ∀ (s : State) (g v : Nat), p (s.setFld (F.LSW_GRPSTAT_NSHED d g) v) = p s)
    (s : State) : p (s.shedShow d) = p s :=
  State.foldl_keeps (p := p) (fun u g => hp u g _) _ s

theorem LSW_GRPSTAT_ge (d g : Nat) : R.SOL_CTL 0 ≤ R.LSW_GRPSTAT d g := by simp only [R.SOL_CTL, R.LSW_GRPSTAT]; omega

theorem Undriven.shedShow {α : Type} {p : State → α} (hp : Undriven p) (s : State) (d : Nat) : p (s.shedShow d) = p s :=
  State.shedShow_keeps (fun u _ v => hp.setFld u v (LSW_GRPSTAT_ge _ _)) s

theorem State.shedList_setShedList (s : State) (d : Nat) (l : List Nat) : (s.setShedList d l).shedList d = l := SMap.get_set_same _ _ _

theorem State.not_mem_unlist (s : State) (d x : Nat) : x ∉ (s.unlist d x).shedList d := by
  rw [State.unlist, (undriven_shedList d).shedShow, State.shedList_setShedList]
  simp

theorem Undriven.unlist {α : Type} {p : State → α} (hp : Undriven p) (hlist : ∀ (s : State) (d : Nat) (l : List Nat), p (s.setShedList d l) = p s)
    (s : State) (d x : Nat) : p (s.unlist d x) = p s := by
  rw [State.unlist, hp.shedShow, hlist]

/-! ### The return -/

/-- A load of die d returns to the level, or the waveform, of its source (R244). -/
def State.loadBack (s : State) (d x : Nat) : State :=
  if x < 64 then (s.unlist d x).lswBack (48 * d + x) else s.solUnshed (32 * d + (x - 64))

/-- The instant of a return of group g of die d. -/
def State.noteBack (d : Nat) (s : State) (g : Nat) : State :=
  { s with lsw := { s.lsw with back := SMap.set (fun _ => 0) s.lsw.back (4 * d + g) s.now } }

theorem State.shedBack_eq (s : State) (d x : Nat) : s.shedBack d x = (groupsOf x).foldl (State.noteBack d) (s.loadBack d x) := by rfl

theorem State.shedBack_keeps {α : Type} {p : State → α} {d : Nat} (hp : ∀ (s : State) (g : Nat), p (State.noteBack d s g) = p s) (s : State) (x : Nat) :
    p (s.shedBack d x) = p (s.loadBack d x) := by
  rw [State.shedBack_eq, State.foldl_keeps hp]

theorem State.loadBack_of_switch (s : State) (d : Nat) {x : Nat} (h : x < 64) : s.loadBack d x = (s.unlist d x).lswBack (48 * d + x) := if_pos h

/-! ### A load switch -/

theorem LSW_CHSTAT_STATE_field (n : Fin 96) : (⟨2, 0, .ro, 0, .pwr, .mod⟩ : FieldRow) ∈ fieldsAt (R.LSW_CHSTAT (n / 48) (n % 48)) := by
  revert n
  decide +kernel

/-- A write of the status register of a channel leaves its state. -/
theorem State.lswState_writePlain_CHSTAT (s : State) (n : Fin 96) (w : Word) :
    (s.writePlain (R.LSW_CHSTAT (n / 48) (n % 48)) w).lswState n = s.lswState n :=
  (State.fld_setReg_same s (lswF F.LSW_CHSTAT_STATE n) _).trans
    (Fld.get_writtenWord _ (R.LSW_CHSTAT (n / 48) (n % 48)) _ (LSW_CHSTAT_STATE_field n) _ _ _)

theorem State.writeLswChstat_shed {s : State} {n : Fin 96} (h : s.lswState n = lsSHED) :
    s.writeLswChstat n 0x4000000 = (s.writePlain (R.LSW_CHSTAT (n / 48) (n % 48)) 0x4000000).shedBack (n / 48) (n % 48) := by
  have hstate := (s.lswState_writePlain_CHSTAT n 0x4000000).trans h
  have hbit : (0x4000000 : Word) &&& 0x4000000 ≠ 0 := by decide
  simp only [State.writeLswChstat, s.shed_and_lswCauseBit n, ne_eq, not_true_eq_false, and_false, if_false]
  exact if_pos ⟨hbit, hstate⟩

theorem shedReturnWrite_switch (s : State) (acc : Acc) (ch : Fin 160) (hch : ch.val < 96)
    (h : s.takesWrite acc (R.LSW_CHSTAT (ch.val / 48) (ch.val % 48))) (hshed : s.lswState ch = lsSHED) :
    Gives (exec (.shedReturnWrite acc ch) s) (fun t => ch.val % 48 ∉ t.shedList (ch.val / 48) ∧ t.lswState ch ≠ lsSHED ∧ t.mem = s.mem) := by
  have hexec : exec (.shedReturnWrite acc ch) s = execShedReturnWrite acc ch s := by rfl
  let written := s.writePlain (R.LSW_CHSTAT (ch.val / 48) (ch.val % 48)) 0x4000000
  let u := written.unlist (ch.val / 48) (ch.val % 48)
  have hnum : 48 * (ch.val / 48) + ch.val % 48 = ch.val := by omega
  have hback : written.loadBack (ch.val / 48) (ch.val % 48) = u.lswBack ch := by
    rw [State.loadBack_of_switch _ _ (by omega), hnum]
  have hkeep {α : Type} {p : State → α} (hp : Undriven p) : p (u.lswBack ch) = p u := (hp.besideSwitch ch).lswBack u (by omega)
  refine ⟨written.shedBack (ch.val / 48) (ch.val % 48), ?_, ?_, ?_, ?_⟩
  · have hwrite : s.writeLswChstat ch 0x4000000 = written.shedBack (ch.val / 48) (ch.val % 48) :=
      State.writeLswChstat_shed (n := ⟨ch.val, hch⟩) hshed
    rw [hexec, execShedReturnWrite, if_pos hch, State.guardWrite_of_takesWrite s acc _ _ h, hwrite]
  · rw [State.shedBack_keeps (p := fun s => s.shedList (ch.val / 48)) (fun _ _ => rfl), hback, hkeep (undriven_shedList _)]
    exact written.not_mem_unlist _ _
  · have hle := u.lswState_lswBack_le ch
    rw [State.shedBack_keeps (p := fun s => s.lswState ch) (fun _ _ => rfl), hback]
    simp only [lsON, lsSHED] at hle ⊢
    omega
  · rw [State.shedBack_keeps (p := State.mem) (fun _ _ => rfl), hback, hkeep undriven_mem]
    exact undriven_mem.unlist (fun _ _ _ => rfl) written _ _

/-! ### A solenoid channel -/

theorem State.unlist_sol (s : State) (d x : Nat) : (s.unlist d x).sol = s.sol :=
  State.shedShow_keeps (p := State.sol) (fun u _ v => u.setFld_sol _ v) (s.setShedList d ((s.shedList d).filter (· ≠ x)))

section
variable {s : State} {n : Nat} (hn : n < 64) (hshed : (s.sch n).shed = true)
include hn hshed

/-- A shed solenoid channel that returns is not shed, and off the list; memory stays (R244). -/
theorem State.solUnshed_returns : ((s.solUnshed n).sch n).shed = false ∧ 64 + n % 32 ∉ (s.solUnshed n).shedList (n / 32) ∧
    (s.solUnshed n).mem = s.mem := by
  let cleared := s.setSch n { s.sch n with shed := false }
  let u := cleared.unlist (n / 32) (64 + n % 32)
  have hrun : s.solUnshed n = (u.solCommand n).solAct n (u.flag (solF F.SOL_CHSTAT_LEVEL n)) u.now := by
    rw [State.solUnshed, if_pos hshed]
  have hsch : u.sch n = { s.sch n with shed := false } := (State.sch_congr (State.unlist_sol _ _ _) n).trans (State.sch_setSch_same _ _ _)
  have hsource : ((s.solUnshed n).sch n).source = (u.sch n).source := by
    rw [hrun]
    exact ((beside_source n n).solAct _ _ _ hn).trans ((beside_source n n).solCommand u hn)
  have hkeep {α : Type} {p : State → α} (hp : Undriven p) : p (s.solUnshed n) = p u := by
    rw [hrun, hp.solAct _ _ _ hn, hp.solCommand _ hn]
  obtain ⟨-, -, -, -, hkept, -⟩ := SCh.source_eq_iff.mp hsource
  refine ⟨hkept.trans (congrArg SCh.shed hsch), ?_, ?_⟩
  · rw [hkeep (undriven_shedList _)]
    exact cleared.not_mem_unlist _ _
  · exact (hkeep undriven_mem).trans (undriven_mem.unlist (fun _ _ _ => rfl) cleared _ _)

end

/-- The bit that FCAUSE of a solenoid channel names is not SHED. -/
theorem State.shed_and_solCauseBit (s : State) (n : Nat) : 0x10000000 &&& s.solCauseBit n = 0 := by
  unfold State.solCauseBit
  split <;> rfl

theorem State.writeSolChstat_shed {s : State} {n : Nat} (hslave : s.solSlave n = false) :
    s.writeSolChstat n 0x10000000 = ((s.writePlain (R.SOL_CHSTAT (n / 32) (n % 32)) 0x10000000).solShow n).solUnshed n := by
  have hbit : (0x10000000 : Word) &&& 0x10000000 ≠ 0 := by decide
  simp only [State.writeSolChstat, hslave, s.shed_and_solCauseBit n, ne_eq, not_true_eq_false, and_false, if_false, Bool.false_eq_true]
  exact if_pos hbit

theorem shedReturnWrite_solenoid (s : State) (acc : Acc) (ch : Fin 160) (hch : 96 ≤ ch.val)
    (h : s.takesWrite acc (R.SOL_CHSTAT ((ch.val - 96) / 32) ((ch.val - 96) % 32))) (hslave : s.solSlave (ch.val - 96) = false)
    (hshed : (s.sch (ch.val - 96)).shed) :
    Gives (exec (.shedReturnWrite acc ch) s) (fun t => 64 + (ch.val - 96) % 32 ∉ t.shedList ((ch.val - 96) / 32) ∧
      (t.sch (ch.val - 96)).shed = false ∧ t.mem = s.mem) := by
  have hexec : exec (.shedReturnWrite acc ch) s = execShedReturnWrite acc ch s := by rfl
  have hn : ch.val - 96 < 64 := by omega
  let written := s.writePlain (R.SOL_CHSTAT ((ch.val - 96) / 32) ((ch.val - 96) % 32)) 0x10000000
  let shown := written.solShow (ch.val - 96)
  have hsch : shown.sch (ch.val - 96) = s.sch (ch.val - 96) := (unmoved_sch _).unnoted.solShow written _
  have hmem : shown.mem = s.mem := unmoved_mem.unnoted.solShow written _
  obtain ⟨hreturned, hlist, hkept⟩ := State.solUnshed_returns (s := shown) hn (hsch ▸ hshed)
  refine ⟨shown.solUnshed (ch.val - 96), ?_, hlist, hreturned, hkept.trans hmem⟩
  rw [hexec, execShedReturnWrite, if_neg (by omega)]
  exact congrArg _ ((State.guardWrite_of_takesWrite s acc _ _ h).trans (State.writeSolChstat_shed hslave))

/-! ### The settling -/

/-- Settles O21: each clause by its own lemma. What a channel's duty leaves, and what a channel leaves of the others, carries the start, the
latch and the walk over a die. -/
theorem loadSwitchCommandsComplete : Obligations.LoadSwitchCommandsComplete :=
  ⟨lswCmdWrite_commands, lswEnable_switches, inrushEnd_ends, lswFault_latches, lswRetry_restarts, retryCountClear_clears, lswFaultRelease_frees,
    lswOpenLoad_flags, fun s acc ch => ⟨shedReturnWrite_switch s acc ch, shedReturnWrite_solenoid s acc ch⟩⟩

end Sys2Proof.Machine
end

section
/-! Load switches: the temperature of a cluster (R240). -/

namespace Sys2Proof.Machine

/-! ### The load to shed next -/

/-- The better of the load found so far and another, by the shedding order (R243). -/
def State.shedBetter (s : State) (d : Nat) (best : Option Nat) (x : Nat) : Option Nat :=
  match best with
  | some y => if s.shedKey d x < s.shedKey d y then some x else best
  | none => some x

theorem State.shedFirst_eq (s : State) (d : Nat) (l : List Nat) : s.shedFirst d l = l.foldl (s.shedBetter d) none := by rfl

theorem State.shedBetter_cases (s : State) (d : Nat) (best : Option Nat) (x : Nat) :
    s.shedBetter d best x = some x ∨ (s.shedBetter d best x = best ∧ best ≠ none) := by
  unfold State.shedBetter
  split
  · split
    · exact .inl rfl
    · exact .inr ⟨rfl, Option.some_ne_none _⟩
  · exact .inl rfl

/-- The load to shed next is one of those given, where there is any. -/
theorem State.mem_of_shedFirst {s : State} {d : Nat} {l : List Nat} {x : Nat} (h : s.shedFirst d l = some x) : x ∈ l := by
  have hinv : ∀ y, l.foldl (s.shedBetter d) none = some y → y ∈ l := by
    refine List.foldlRecOn (motive := fun best => ∀ y, best = some y → y ∈ l) _ _ nofun fun best hbest z hz y hy => ?_
    obtain hnew | ⟨hold, -⟩ := s.shedBetter_cases d best z
    · exact Option.some.inj (hnew.symm.trans hy) ▸ hz
    · exact hbest y (hold.symm.trans hy)
  exact hinv x (s.shedFirst_eq d l ▸ h)

theorem State.shedFirst_isSome {s : State} {d : Nat} {l : List Nat} (h : l ≠ []) : ∃ x, s.shedFirst d l = some x := by
  obtain ⟨a, l, rfl⟩ := List.exists_cons_of_ne_nil h
  refine Option.ne_none_iff_exists'.mp ?_
  rw [State.shedFirst_eq, List.foldl_cons]
  refine List.foldlRecOn (motive := fun best => best ≠ none) l _ (Option.some_ne_none a) fun best hbest z _ => ?_
  obtain hnew | ⟨hold, -⟩ := s.shedBetter_cases d best z
  · exact hnew ▸ Option.some_ne_none z
  · exact fun hnone => hbest (hold.symm.trans hnone)

/-! ### What a sample of a cluster does -/

/-- The channels of cluster c on its die. -/
def clusterChannels (c : Nat) : List Nat := (List.range 8).map (8 * (c % 6) + ·)

theorem lt_of_mem_clusterChannels {c j : Nat} (h : j ∈ clusterChannels c) : j < 48 := by
  obtain ⟨i, hi, rfl⟩ := List.mem_map.mp h
  have := List.mem_range.mp hi
  omega

theorem nodup_clusterChannels (c : Nat) : (clusterChannels c).Nodup := List.nodup_range.map fun _ _ => Nat.add_left_cancel

theorem mem_clusterChannels {c i : Nat} (h : i < 8) : 8 * (c % 6) + i ∈ clusterChannels c := List.mem_map_of_mem (List.mem_range.mpr h)

/-- The temperature of cluster c stored, in its record and in its register (R240). -/
def State.thermStored (s : State) (c : Nat) (temp : BitVec 16) : State :=
  let u : State := { s with lsw := { s.lsw with cl := SMap.set (fun _ => ⟨0, 0⟩) s.lsw.cl c ⟨temp.toInt, s.now / 250000 * 250000⟩ } }
  u.setFld (F.LSW_CLSTAT_TEMP (c / 6) (c % 6)) temp.toNat

/-- A channel that is on brings its duty up to date with the voltage measured (R233). -/
def State.dutyMeasured (d : Nat) (s : State) (j : Nat) : State := if s.lswOn (48 * d + j) then s.lswDuty (48 * d + j) else s

/-- The group voltages and channel currents of cluster c measured, the duties brought up to date (R233, R234). -/
def State.clusterMeasured (s : State) (c : Nat) (currents : List (Fin 8 × BitVec 16)) (volts : List (Fin 4 × BitVec 16)) : State :=
  (clusterChannels c).foldl (State.dutyMeasured (c / 6))
    (currents.foldl (fun s x => s.lswMeasured (48 * (c / 6) + 8 * (c % 6) + x.1) x.2.toNat)
      (volts.foldl (fun s x => s.groupVolt (c / 6) x.1 x.2.toNat) s))

/-- The stage of cluster c, noted with its event. -/
def State.stageNoted (s : State) (c st : Nat) : State :=
  (s.setFld (F.LSW_CLSTAT_STAGE (c / 6) (c % 6)) st).event 0x0704 [w32 c, w32 st]

/-- A channel in its inrush window takes the limit of stage 1. -/
def State.inrushHot (d : Nat) (s : State) (j : Nat) : State :=
  if s.lswState (48 * d + j) = lsINRUSH then s.setLch (48 * d + j) { s.lch (48 * d + j) with hot := true } else s

/-- Stage 1 of cluster c begins. -/
def State.clusterHeated (s : State) (c : Nat) : State :=
  (clusterChannels c).foldl (State.inrushHot (c / 6))
    ((s.raiseBoth (F.LSW_CLSTAT_CL_HOT (c / 6) (c % 6)) (F.LSW_STAT_CL_HOT (c / 6)) (189 + c / 6)).stageNoted c 1)

/-- A channel off by the thermal rule comes back. -/
def State.thermBack (d : Nat) (s : State) (j : Nat) : State :=
  if s.lswState (48 * d + j) = lsTHERM then s.lswBack (48 * d + j) else s

/-- The thermal rule of cluster c ends. -/
def State.clusterCooled (s : State) (c : Nat) : State :=
  (clusterChannels c).foldl (State.thermBack (c / 6)) (s.setFld (F.LSW_CLSTAT_STAGE (c / 6) (c % 6)) 0)

/-- Stage 2 of cluster c turns off channel j. -/
def State.thermShed (s : State) (c j : Nat) : State :=
  ((s.lswFlag F.LSW_CHSTAT_THERM F.LSW_STAT_THERM (48 * (c / 6) + j)).lswTo (48 * (c / 6) + j) lsTHERM).stageNoted c 2

/-- A sample that is due, by the temperature and the stage (R240). -/
theorem execClusterThermSample_cases {s : State} {c : Fin 12} {temp : BitVec 16} {currents : List (Fin 8 × BitVec 16)}
    {volts : List (Fin 4 × BitVec 16)} {u : State} (hu : u = (s.thermStored c temp).clusterMeasured c currents volts)
    (hpart : s.part.hasHs (8 * c)) (hdue : s.due (s.therm c).at_ 250000) (hcut : s.cut (c / 6) ≠ 2) :
    ∃ t, execClusterThermSample c temp currents volts s = .next t ∧
      ((temp.toInt < 1400 ∧ u.fld (F.LSW_CLSTAT_STAGE (c / 6) (c % 6)) = 0 ∧ t = u) ∨
       (temp.toInt < 1400 ∧ u.fld (F.LSW_CLSTAT_STAGE (c / 6) (c % 6)) ≠ 0 ∧ t = u.clusterCooled c) ∨
       (1500 < temp.toInt ∧ u.fld (F.LSW_CLSTAT_STAGE (c / 6) (c % 6)) = 0 ∧ t = u.clusterHeated c) ∨
       (1400 ≤ temp.toInt ∧ temp.toInt ≤ 1500 ∧ t = u) ∨
       (1400 ≤ temp.toInt ∧ u.fld (F.LSW_CLSTAT_STAGE (c / 6) (c % 6)) ≠ 0 ∧ (t = u ∨ ∃ j, j < 48 ∧ t = u.thermShed c j))) := by
  subst hu
  have hguard : (s.part.hasHs (8 * c) && s.due (s.therm c).at_ 250000 && decide (s.cut (c / 6) ≠ 2)) = true := by
    simp only [hpart, hdue, hcut, ne_eq, not_false_eq_true, decide_true, Bool.and_self]
  simp only [execClusterThermSample, hguard, if_true]
  by_cases hcool : temp.toInt < 1400
  · rw [if_pos hcool]
    split
    next hstage => exact ⟨_, rfl, .inl ⟨hcool, hstage, rfl⟩⟩
    next hstage => exact ⟨_, rfl, .inr (.inl ⟨hcool, hstage, rfl⟩)⟩
  · rw [if_neg hcool]
    split
    next hstage =>
      split
      next hhot => exact ⟨_, rfl, .inr (.inr (.inl ⟨hhot, hstage, rfl⟩))⟩
      next hhot => exact ⟨_, rfl, .inr (.inr (.inr (.inl ⟨by omega, by omega, rfl⟩)))⟩
    next hstage =>
      split
      · split
        next j hj => exact ⟨_, rfl, .inr (.inr (.inr (.inr ⟨by omega, hstage, .inr ⟨j, lt_of_mem_clusterChannels (List.mem_of_mem_filter (State.mem_of_shedFirst hj)), rfl⟩⟩)))⟩
        next => exact ⟨_, rfl, .inr (.inr (.inr (.inr ⟨by omega, hstage, .inl rfl⟩)))⟩
      · exact ⟨_, rfl, .inr (.inr (.inr (.inr ⟨by omega, hstage, .inl rfl⟩)))⟩

/-! ### What it leaves -/

/-- A reading that the measurements of cluster c do not enter. -/
structure Unmeasured {α : Type} (c : Nat) (p : State → α) : Prop where
  beside : ∀ n, BesideSwitch n p
  volt : ∀ (s : State) (g : Fin 4) (v : Nat), p (s.groupVolt (c / 6) g v) = p s
  current : ∀ (s : State) (n v : Nat), p (s.setFld (lswF F.LSW_CHI_IMEAS n) v) = p s

/-- One that its thermal rule, beside the temperature stored, does not enter either. -/
structure Unheated {α : Type} (c : Nat) (p : State → α) : Prop extends Unmeasured c p where
  stage : ∀ (s : State) (v : Nat), p (s.setFld (F.LSW_CLSTAT_STAGE (c / 6) (c % 6)) v) = p s
  hot : ∀ s : State, p (s.setFld (F.LSW_CLSTAT_CL_HOT (c / 6) (c % 6)) 1) = p s

theorem Unmeasured.clusterMeasured {α : Type} {c : Nat} {p : State → α} (hp : Unmeasured c p) (hc : c < 12) (s : State)
    (currents : List (Fin 8 × BitVec 16)) (volts : List (Fin 4 × BitVec 16)) : p (s.clusterMeasured c currents volts) = p s := by
  have hduty (u : State) (j : Nat) (hj : j ∈ clusterChannels c) : p (State.dutyMeasured (c / 6) u j) = p u := by
    rw [State.dutyMeasured, apply_ite p, (hp.beside _).lswDuty _ (by have := lt_of_mem_clusterChannels hj; omega), ite_self]
  have hlimiting (u : State) (n v : Nat) : p (u.setFld (lswF F.LSW_CHSTAT_LIMITING n) v) = p u := (hp.beside n).stat u v rfl (fldOk (by decide))
  have hmeasured (u : State) (n i : Nat) : p (u.lswMeasured n i) = p u := by rw [State.lswMeasured, State.setBit, hlimiting, hp.current]
  rw [State.clusterMeasured, State.foldl_keeps_of_mem hduty, State.foldl_keeps fun u (x : Fin 8 × BitVec 16) => hmeasured u _ _,
    State.foldl_keeps fun u (x : Fin 4 × BitVec 16) => hp.volt u x.1 _]

theorem Unmeasured.allHot {α : Type} {c : Nat} {p : State → α} (hp : Unmeasured c p) (s : State) :
    p ((clusterChannels c).foldl (State.inrushHot (c / 6)) s) = p s :=
  State.foldl_keeps (fun u j => by rw [State.inrushHot, apply_ite p, (hp.beside _).setLch, ite_self]) _ s

theorem Unmeasured.allBack {α : Type} {c : Nat} {p : State → α} (hp : Unmeasured c p) (hc : c < 12) (s : State) :
    p ((clusterChannels c).foldl (State.thermBack (c / 6)) s) = p s := by
  refine State.foldl_keeps_of_mem (fun u j hj => ?_) s
  rw [State.thermBack, apply_ite p, (hp.beside _).lswBack _ (by have := lt_of_mem_clusterChannels hj; omega), ite_self]

section Unheated
variable {α : Type} {c : Nat} {p : State → α} (hp : Unheated c p) (hc : c < 12)
include hp

theorem Unheated.stageNoted (s : State) (st : Nat) : p (s.stageNoted c st) = p s := by
  rw [State.stageNoted, (hp.beside 0).event, hp.stage]

include hc

theorem Unheated.clusterHeated (s : State) : p (s.clusterHeated c) = p s := by
  have hraise (u : State) : p (u.raiseFlag (F.LSW_STAT_CL_HOT (c / 6)) (189 + c / 6)) = p u := by
    refine (hp.beside (48 * (c / 6))).raiseFlag u ?_ (by omega)
    rw [Nat.mul_div_cancel_left _ (by decide : 0 < 48)]
    exact isSwitchNote_STAT _
  rw [State.clusterHeated, hp.allHot, hp.stageNoted, State.raiseBoth, hraise, hp.hot]

theorem Unheated.clusterCooled (s : State) : p (s.clusterCooled c) = p s := by
  rw [State.clusterCooled, hp.allBack hc, hp.stage]

theorem Unheated.thermShed (s : State) {j : Nat} (hj : j < 48) : p (s.thermShed c j) = p s := by
  rw [State.thermShed, hp.stageNoted, (hp.beside _).lswTo, (hp.beside _).lswFlag _ (fun _ => diagFlag (by decide)) (fun _ => rfl) (by omega)]

end Unheated

/-! ### The readings of the statement -/

theorem Undriven.unheated {α : Type} {p : State → α} (hp : Undriven p) (c : Nat)
    (hvolt : ∀ (s : State) (g : Fin 4) (v : Nat), p (s.groupVolt (c / 6) g v) = p s) : Unheated c p where
  beside := hp.besideSwitch
  volt := hvolt
  current s n v := hp.setFld s v (by simp only [lswF, F.LSW_CHI_IMEAS, R.SOL_CTL, R.LSW_CHI]; omega)
  stage s v := hp.setFld s v (by simp only [F.LSW_CLSTAT_STAGE, R.SOL_CTL, R.LSW_CLSTAT]; omega)
  hot s := hp.setFld s 1 (by simp only [F.LSW_CLSTAT_CL_HOT, R.SOL_CTL, R.LSW_CLSTAT]; omega)

theorem undriven_therm (c : Nat) : Undriven (fun s => s.therm c) :=
  ⟨fun _ _ _ _ => rfl, fun _ _ => rfl, fun _ _ => rfl, fun _ _ _ => rfl, fun _ _ _ => rfl⟩

theorem LSW_CLSTAT_not_note {d k m : Nat} (hk : k < 6) : ¬ isSwitchNote m (R.LSW_CLSTAT d k) := by
  simp only [isSwitchNote, R.BRD_CTL, R.LSW_STAT, R.LSW_RETRYCNT, R.LSW_CLSTAT]
  omega

theorem isOffSwitch_CLSTAT {d k : Nat} (n : Nat) (hk : k < 6) : isOffSwitch n (R.LSW_CLSTAT d k) := by
  refine ⟨LSW_CLSTAT_not_note hk, ?_⟩
  simp only [R.LSW_CHSTAT, R.LSW_CHDUTY, R.LSW_CHSAFE, R.LSW_CLSTAT]
  omega

/-- The fields of the status of cluster c are no part of what is measured of its channels and groups. -/
theorem unmeasured_CLSTAT (c : Nat) {f : Fld} (hf : f.addr = R.LSW_CLSTAT (c / 6) (c % 6)) : Unmeasured c (fun s => s.fld f) where
  beside n := besideSwitch_fld (hf ▸ isOffSwitch_CLSTAT n (Nat.mod_lt _ (by decide)))
  volt s g v := by
    have hg := g.isLt
    exact State.fld_setFld_ne s (F.LSW_GRPV_VMEAS (c / 6) g) f (by rw [hf]; simp only [F.LSW_GRPV_VMEAS, R.LSW_GRPV, R.LSW_CLSTAT]; omega) v
  current s n v := State.fld_setFld_ne s _ f (by rw [hf]; simp only [lswF, F.LSW_CHI_IMEAS, R.LSW_CHI, R.LSW_CLSTAT]; omega) v

theorem unheated_TEMP (c : Nat) : Unheated c (fun s => s.fld (F.LSW_CLSTAT_TEMP (c / 6) (c % 6))) where
  toUnmeasured := unmeasured_CLSTAT c rfl
  stage s v := State.fld_setFld_other s _ _ (fldOk (by decide)) (by decide : 15 < 32) (.inr (by decide : 15 < 24)) v
  hot s := State.fld_setFld_other s _ _ (fldOk (by decide)) (by decide : 15 < 32) (.inr (by decide : 15 < 31)) 1

/-- No channel of a cluster stays off by the thermal rule once it has ended (R240). -/
theorem State.lswState_clusterCooled (s : State) {c i : Nat} (hc : c < 12) (hi : i < 8) :
    (s.clusterCooled c).lswState (48 * (c / 6) + (8 * (c % 6) + i)) ≠ lsTHERM := by
  refine State.foldl_reaches (Q := fun _ => True) (D := fun u => u.lswState (48 * (c / 6) + (8 * (c % 6) + i)) ≠ lsTHERM)
    (nodup_clusterChannels c) (mem_clusterChannels hi) (fun u _ => ?_) (fun _ _ _ _ _ => trivial) (fun u j hj hji hu => ?_) trivial
  · unfold State.thermBack
    split
    next =>
      have hle := u.lswState_lswBack_le (48 * (c / 6) + (8 * (c % 6) + i))
      simp only [lsON, lsTHERM] at hle ⊢
      omega
    next h => exact h
  · unfold State.thermBack
    split
    · have hlt := lt_of_mem_clusterChannels hj
      rwa [(besideSwitch_lswState (show 48 * (c / 6) + (8 * (c % 6) + i) ≠ 48 * (c / 6) + j by omega)).lswBack _ (by omega)]
    · exact hu

theorem State.STAGE_clusterCooled (s : State) {c : Nat} (hc : c < 12) :
    (s.clusterCooled c).fld (F.LSW_CLSTAT_STAGE (c / 6) (c % 6)) = 0 :=
  ((unmeasured_CLSTAT c (f := F.LSW_CLSTAT_STAGE (c / 6) (c % 6)) rfl).allBack hc _).trans (State.fld_setFld_same s _ (fldOk (by decide)) 0)

/-- Stage 1 shows as STAGE and as CL_HOT (R240). -/
theorem State.CLSTAT_clusterHeated (s : State) {c : Nat} (hc : c < 12) :
    (s.clusterHeated c).fld (F.LSW_CLSTAT_STAGE (c / 6) (c % 6)) = 1 ∧ (s.clusterHeated c).flag (F.LSW_CLSTAT_CL_HOT (c / 6) (c % 6)) = true := by
  let raised := s.raiseBoth (F.LSW_CLSTAT_CL_HOT (c / 6) (c % 6)) (F.LSW_STAT_CL_HOT (c / 6)) (189 + c / 6)
  have hkeep {f : Fld} (hf : f.addr = R.LSW_CLSTAT (c / 6) (c % 6)) :
      (s.clusterHeated c).fld f = (raised.setFld (F.LSW_CLSTAT_STAGE (c / 6) (c % 6)) 1).fld f :=
    ((unmeasured_CLSTAT c hf).allHot _).trans (((unmeasured_CLSTAT c hf).beside 0).event _ _ _)
  have hraised : raised.fld (F.LSW_CLSTAT_CL_HOT (c / 6) (c % 6)) =
      (s.setFld (F.LSW_CLSTAT_CL_HOT (c / 6) (c % 6)) 1).fld (F.LSW_CLSTAT_CL_HOT (c / 6) (c % 6)) := by
    refine State.fld_congr (State.reg_raiseFlag_ne _ _ _ _ ?_ ?_)
    · simp only [F.LSW_CLSTAT_CL_HOT, F.LSW_STAT_CL_HOT, R.LSW_CLSTAT, R.LSW_STAT]
      omega
    · simp only [F.LSW_CLSTAT_CL_HOT, R.LSW_CLSTAT, R.RNG_INT_PEND]
      omega
  constructor
  · exact (hkeep rfl).trans (State.fld_setFld_same raised _ (fldOk (by decide)) 1)
  · refine (State.flag_congr ((hkeep rfl).trans (Eq.trans ?_ hraised))).trans (State.flag_setFld_one s _ (fldOk (by decide)))
    exact State.fld_setFld_other raised _ _ (fldOk (by decide)) (by decide : 31 < 32) (.inl (by decide : 25 < 31)) 1

theorem State.therm_thermStored (s : State) (c : Nat) (temp : BitVec 16) :
    (s.thermStored c temp).therm c = ⟨temp.toInt, s.now / 250000 * 250000⟩ := SMap.get_set_same _ _ _

theorem clusterThermSample_samples (s : State) (c : Fin 12) (temp : BitVec 16) (currents : List (Fin 8 × BitVec 16))
    (volts : List (Fin 4 × BitVec 16)) (hpart : s.part.hasHs (8 * c)) (hdue : s.due (s.therm c).at_ 250000) (hcut : s.cut (c / 6) ≠ 2) :
    Gives (exec (.clusterThermSample c temp currents volts) s) (fun t => t.therm c = ⟨temp.toInt, s.now / 250000 * 250000⟩ ∧
      t.fld (F.LSW_CLSTAT_TEMP (c / 6) (c % 6)) = temp.toNat ∧
      (temp.toInt < 1400 → t.fld (F.LSW_CLSTAT_STAGE (c / 6) (c % 6)) = 0 ∧
        (s.fld (F.LSW_CLSTAT_STAGE (c / 6) (c % 6)) ≠ 0 → ∀ j < 8, t.lswState (8 * c + j) ≠ lsTHERM)) ∧
      (1500 < temp.toInt → s.fld (F.LSW_CLSTAT_STAGE (c / 6) (c % 6)) = 0 → t.fld (F.LSW_CLSTAT_STAGE (c / 6) (c % 6)) = 1 ∧
        t.flag (F.LSW_CLSTAT_CL_HOT (c / 6) (c % 6))) ∧ t.mem = s.mem) := by
  have hexec : exec (.clusterThermSample c temp currents volts) s = execClusterThermSample c temp currents volts s := by rfl
  have hc := c.isLt
  let stored := s.thermStored c temp
  obtain ⟨t, hrun, hcases⟩ := execClusterThermSample_cases (u := stored.clusterMeasured c currents volts) rfl hpart hdue hcut
  have hstage : (stored.clusterMeasured c currents volts).fld (F.LSW_CLSTAT_STAGE (c / 6) (c % 6)) = s.fld (F.LSW_CLSTAT_STAGE (c / 6) (c % 6)) :=
    ((unmeasured_CLSTAT c (f := F.LSW_CLSTAT_STAGE (c / 6) (c % 6)) rfl).clusterMeasured hc stored currents volts).trans
      (State.fld_setFld_other _ _ _ (fldOk (by decide)) (by decide : 25 < 32) (.inl (by decide : 15 < 24)) _)
  have hkeep {α : Type} {p : State → α} (hp : Unheated c p) : p t = p stored := by
    have hmeasured := hp.clusterMeasured hc stored currents volts
    obtain ⟨-, -, rfl⟩ | ⟨-, -, rfl⟩ | ⟨-, -, rfl⟩ | ⟨-, -, rfl⟩ | ⟨-, -, rfl | ⟨j, hj, rfl⟩⟩ := hcases
    · exact hmeasured
    · exact (hp.clusterCooled hc _).trans hmeasured
    · exact (hp.clusterHeated hc _).trans hmeasured
    · exact hmeasured
    · exact hmeasured
    · exact (hp.thermShed hc _ hj).trans hmeasured
  rw [hstage] at hcases
  refine ⟨t, hexec.trans hrun, (hkeep ((undriven_therm c).unheated c fun _ _ _ => rfl)).trans (s.therm_thermStored c temp), ?_,
    fun hcool => ?_, fun hhot hzero => ?_, hkeep (undriven_mem.unheated c fun _ _ _ => rfl)⟩
  · exact (hkeep (unheated_TEMP c)).trans ((State.fld_setFld_same _ _ (fldOk (by decide)) _).trans (Nat.mod_eq_of_lt temp.isLt))
  · obtain ⟨-, hzero, rfl⟩ | ⟨-, -, rfl⟩ | ⟨hhot, -⟩ | ⟨hwarm, -⟩ | ⟨hwarm, -⟩ := hcases
    · exact ⟨hstage.trans hzero, fun hne => absurd hzero hne⟩
    · refine ⟨State.STAGE_clusterCooled _ hc, fun _ j hj => ?_⟩
      have hnum : 8 * c.val + j = 48 * (c / 6) + (8 * (c % 6) + j) := by omega
      rw [hnum]
      exact State.lswState_clusterCooled _ hc hj
    · omega
    · omega
    · omega
  · obtain ⟨hcool, -⟩ | ⟨hcool, -⟩ | ⟨-, -, rfl⟩ | ⟨-, hwarm, -⟩ | ⟨-, hne, -⟩ := hcases
    · omega
    · omega
    · exact State.CLSTAT_clusterHeated _ hc
    · omega
    · exact absurd hzero hne

end Sys2Proof.Machine
end

section
/-! Load switches and the loads of a die: what the measured current of a group, shedding and a return leave (R241-R244). -/

namespace Sys2Proof.Machine

/-! ### The registers of the load switches -/

/-- A register in the load-switch window of a die. -/
def isLswReg (a : Nat) : Prop := R.SOL_CTL 0 ≤ a ∧ 0x40000 ≤ a % 0x100000 ∧ a % 0x100000 < 0x80000

/-- A reading that no register outside the load-switch windows enters, nor the recorder, nor a solenoid channel: what the solenoid
channels and the digital points do leaves it. -/
structure Unsilenced {α : Type} (p : State → α) : Prop where
  setReg : ∀ (s : State) {b : Nat} (w : Word), ¬ isLswReg b → p (s.setReg b w) = p s
  withEvr : ∀ (s : State) (e : Evr), p { s with evr := e } = p s
  setSch : ∀ (s : State) (n : Nat) (x : SCh), p (s.setSch n x) = p s

theorem unsilenced_fld {f : Fld} (h : isLswReg f.addr) : Unsilenced (fun s => s.fld f) :=
  ⟨fun s b w hb => State.fld_setReg_ne s b w f fun hab => hb (hab ▸ h), fun _ _ => rfl, fun _ _ _ => rfl⟩

theorem Unsilenced.setFld {α : Type} {p : State → α} (hp : Unsilenced p) (s : State) {f : Fld} (v : Nat) (hf : ¬ isLswReg f.addr) :
    p (s.setFld f v) = p s := hp.setReg s _ hf

theorem not_isLswReg_channel (d : Nat) {j : Nat} (h : j ≤ 32) : ¬ isLswReg (R.SOL_CHSTAT d j) ∧ ¬ isLswReg (R.SOL_CHI d j) ∧
    ¬ isLswReg (R.SOL_CHCMD d j) ∧ ¬ isLswReg (R.SOL_CMD d j) ∧ ¬ isLswReg (R.SOL_CHSAFE d j) := by
  simp only [isLswReg, R.SOL_CHSTAT, R.SOL_CHI, R.SOL_CHCMD, R.SOL_CMD, R.SOL_CHSAFE]
  omega

theorem not_isLswReg_CHSTAT (n : Nat) : ¬ isLswReg (R.SOL_CHSTAT (n / 32) (n % 32)) :=
  (not_isLswReg_channel _ (Nat.le_of_lt (Nat.mod_lt _ (by decide)))).1

theorem Unsilenced.solMirror {α : Type} {p : State → α} (hp : Unsilenced p) (s : State) (n : Nat) : p (s.solMirror n) = p s := by
  obtain ⟨hstat, hi, hchcmd, hcmd, hsafe⟩ := not_isLswReg_channel (n / 32) (show n % 32 + 1 ≤ 32 by omega)
  simp only [State.solMirror]
  rw [apply_ite p, hp.setReg _ _ hsafe, hp.setReg _ _ hcmd, hp.setReg _ _ hchcmd, hp.setReg _ _ hi, hp.setFld _ _ hstat, apply_ite p,
    hp.setReg _ _ hstat, ite_self, ite_self]

theorem Unsilenced.besideChannel {α : Type} {p : State → α} (hp : Unsilenced p) (n : Nat) : BesideChannel n p where
  held s k v := hp.setFld s v (not_isLswReg_CHSTAT k)
  bank s k f v hf := hp.setFld s v (by rw [hf.addr]; simp only [isLswReg, R.SOL_BANKSTAT]; omega)
  mirror s k _ := hp.solMirror s k
  note s k f v hf := hp.setFld s v (hf.addr ▸ not_isLswReg_CHSTAT k)
  die s b w hb := hp.setReg s w (by simp only [isDieNote, isLswReg] at hb ⊢; omega)
  withEvr := hp.withEvr
  phase s v := hp.setFld s v (not_isLswReg_CHSTAT n)
  setSch s x _ := hp.setSch s n x
  stat s f v hf _ := hp.setFld s v (hf ▸ not_isLswReg_CHSTAT n)
  command s v := hp.setFld s v (not_isLswReg_channel _ (Nat.le_of_lt (Nat.mod_lt _ (by decide)))).2.2.1

theorem Unsilenced.solShed {α : Type} {p : State → α} (hp : Unsilenced p) (s : State) {n : Nat} (hn : n < 64) : p (s.solShed n) = p s := by
  have hchannel := hp.besideChannel n
  have hflag (u : State) : p (u.setFld (solF F.SOL_CHSTAT_SHED n) 1) = p u := hp.setFld u 1 (not_isLswReg_CHSTAT n)
  rw [State.solShed, hchannel.solShow, hflag, hp.setSch, hchannel.solOff _ hn]

theorem Undriven.solShed {α : Type} {p : State → α} (hp : Undriven p) (s : State) {n : Nat} (hn : n < 64) : p (s.solShed n) = p s := by
  have hflag (u : State) : p (u.setFld (solF F.SOL_CHSTAT_SHED n) 1) = p u := hp.setFld u 1 (SOL_CHSTAT_ge _ _)
  rw [State.solShed, hp.solShow, hflag, hp.setSch, hp.solOff _ hn]

/-! ### The measured current -/

/-- A register in which the overload of a target of die d is noted: die flags and counters, IMEAS and flags of die and groups. -/
def isGroupNote (d b : Nat) : Prop := b < R.BRD_CTL ∨ (R.LSW_STAT d ≤ b ∧ b ≤ R.LSW_DIESTAT d) ∨ ∃ g < 4, b = R.LSW_GRPSTAT d g

/-- A reading that the measured current and the overload flags of die d do not enter. -/
structure Ungrouped {α : Type} (d : Nat) (p : State → α) : Prop where
  note : ∀ (s : State) {b : Nat} (w : Word), isGroupNote d b → p (s.setReg b w) = p s
  withEvr : ∀ (s : State) (e : Evr), p { s with evr := e } = p s

theorem isGroupNote_DIESTAT (d : Nat) : isGroupNote d (R.LSW_DIESTAT d) := by
  simp only [isGroupNote, R.LSW_STAT, R.LSW_DIESTAT]
  omega

theorem isGroupNote_STAT (d : Nat) : isGroupNote d (R.LSW_STAT d) := by
  simp only [isGroupNote, R.LSW_STAT, R.LSW_DIESTAT]
  omega

theorem isGroupNote_GRPSTAT (d : Nat) {g : Nat} (h : g < 4) : isGroupNote d (R.LSW_GRPSTAT d g) := .inr (.inr ⟨g, h, rfl⟩)

section Ungrouped
variable {α : Type} {d : Nat} {p : State → α} (hp : Ungrouped d p)
include hp

theorem Ungrouped.setFld (s : State) {f : Fld} (v : Nat) (hf : isGroupNote d f.addr) : p (s.setFld f v) = p s := hp.note s _ hf

theorem Ungrouped.raiseFlag (s : State) {f : Fld} {irq : Nat} (hf : isGroupNote d f.addr) (h : irq < 256) : p (s.raiseFlag f irq) = p s := by
  have hpend : isGroupNote d (R.RNG_INT_PEND (irq / 32)) := .inl (by simp only [R.RNG_INT_PEND, R.BRD_CTL]; omega)
  rw [State.raiseFlag, apply_ite p, State.pend, hp.note _ _ hpend, hp.setFld _ _ hf, ite_self]

theorem Ungrouped.event (s : State) (code : Nat) (args : List Word) : p (s.event code args) = p s := by
  unfold State.event
  split
  · exact hp.withEvr s _
  · rw [State.loseEvent, hp.withEvr, hp.raiseFlag _ (.inl (by decide)) (by decide), State.bump, hp.setFld _ _ (.inl (by decide))]

theorem Ungrouped.lswCurrent (s : State) {g : Nat} (i : Nat) (hg : g < 5) : p (s.lswCurrent d g i) = p s := by
  have hdie (u : State) (v : Nat) : p (u.setFld (F.LSW_DIESTAT_ITOTAL d) v) = p u := hp.setFld u v (isGroupNote_DIESTAT d)
  unfold State.lswCurrent
  split
  next => exact hdie s i
  next h =>
    have hgroup : p (s.setFld (F.LSW_GRPSTAT_IMEAS d g) i) = p s := hp.setFld s i (isGroupNote_GRPSTAT d (show g < 4 by omega))
    exact (hdie _ _).trans hgroup

end Ungrouped

theorem Undriven.ungrouped {α : Type} {p : State → α} (hp : Undriven p) (d : Nat) : Ungrouped d p where
  note s b w hb := hp.setReg s w (by
    obtain hb | hb | ⟨g, -, rfl⟩ := hb
    · exact .inl hb
    · exact .inr ((LSW_STAT_ge d).trans hb.1)
    · exact .inr (LSW_GRPSTAT_ge d g))
  withEvr := hp.withEvr

/-! ### The loads that can be shed -/

theorem State.shedable_congr {s t : State} {d : Nat} (hswitch : ∀ n, t.lswState n = s.lswState n) (hphase : ∀ n, t.solPhase n = s.solPhase n)
    (hsol : t.sol = s.sol) (hentries : t.entries = s.entries) (g : Nat) : t.shedable d g = s.shedable d g := by
  have hentry (i : Nat) : t.entry 1 i = s.entry 1 i := by rw [State.entry, State.entry, hentries]
  have hslave (n : Nat) : t.solSlave n = s.solSlave n := by simp only [State.solSlave, State.solPairs, State.hasEntry, hentry]
  simp only [State.shedable, State.lswOn, State.solActive, State.solHalf, State.sch_congr hsol, hswitch, hphase, hslave]

theorem ungrouped_shedable (d g : Nat) : Ungrouped d (fun s => s.shedable d g) where
  note s b w hb := by
    have hb' : b < R.BRD_CTL ∨ (0x40004 ≤ b % 0x100000 ∧ b % 0x100000 < 0x40080) := by
      obtain hb | hb | ⟨g, hg, rfl⟩ := hb
      · exact .inl hb
      · exact .inr (by simp only [R.LSW_STAT, R.LSW_DIESTAT] at hb; omega)
      · exact .inr (by simp only [R.LSW_GRPSTAT]; omega)
    refine State.shedable_congr (fun n => State.fld_setReg_ne s b w _ ?_) (fun n => State.fld_setReg_ne s b w _ ?_) rfl rfl g
    · simp only [lswF, F.LSW_CHSTAT_STATE, R.LSW_CHSTAT, R.BRD_CTL] at hb' ⊢
      omega
    · simp only [solF, F.SOL_CHSTAT_PHASE, R.SOL_CHSTAT, R.BRD_CTL] at hb' ⊢
      omega
  withEvr _ _ := rfl

/-- A load that can be shed is a switch or a solenoid channel of the die. -/
theorem State.bound_of_mem_shedable {s : State} {d g x : Nat} (h : x ∈ s.shedable d g) : x < 48 ∨ (64 ≤ x ∧ x < 96) := by
  simp only [State.shedable, List.mem_filter, List.mem_append, List.mem_map, List.mem_range] at h
  obtain ⟨⟨hlt, -⟩ | ⟨j, ⟨hlt, -⟩, rfl⟩, -⟩ := h <;> omega

/-! ### Shedding -/

/-- A load on the list counted, off, its flag set, the event (R242). -/
def State.shedLoad (s : State) (d x : Nat) : State :=
  let s := s.bump (F.LSW_SHEDCNT_COUNT d)
  if x < 64 then ((s.lswFlag F.LSW_CHSTAT_SHED F.LSW_STAT_SHED (48 * d + x)).lswTo (48 * d + x) lsSHED).event 0x0702 [w32 (48 * d + x)]
  else ((s.solShed (32 * d + (x - 64))).raiseFlag (F.LSW_STAT_SHED d) (189 + d)).event 0x0702 [w32 (32 * d + (x - 64))]

theorem State.shedOne_of_some {s : State} {d g x : Nat} (h : s.shedFirst d (s.shedable d g) = some x) :
    s.shedOne d g = ((s.setShedList d (x :: s.shedList d)).shedShow d).shedLoad d x := by
  rw [State.shedOne, h]
  rfl

theorem State.shedOne_cases (s : State) (d g : Nat) : (s.shedable d g = [] ∧ s.shedOne d g = s) ∨
    ∃ x ∈ s.shedable d g, s.shedOne d g = ((s.setShedList d (x :: s.shedList d)).shedShow d).shedLoad d x := by
  by_cases h : s.shedable d g = []
  · refine .inl ⟨h, ?_⟩
    rw [State.shedOne, h]
    rfl
  · obtain ⟨x, hx⟩ := s.shedFirst_isSome (d := d) h
    exact .inr ⟨x, State.mem_of_shedFirst hx, State.shedOne_of_some hx⟩

section
variable {α : Type} {p : State → α} {d : Nat} (hswitch : ∀ n, BesideSwitch n p)
  (hsol : ∀ (s : State) {n : Nat}, n < 64 → p (s.solShed n) = p s) (hd : d < 2)
include hswitch hsol hd

theorem State.shedLoad_keeps (s : State) {x : Nat} (hx : x < 48 ∨ (64 ≤ x ∧ x < 96)) : p (s.shedLoad d x) = p s := by
  have hdie : 48 * d / 48 = d := Nat.mul_div_cancel_left _ (by decide)
  have hcount : p (s.bump (F.LSW_SHEDCNT_COUNT d)) = p s := (hswitch (48 * d)).bump s _ (hdie.symm ▸ isSwitchNote_SHEDCNT d)
  have hflag (u : State) : p (u.raiseFlag (F.LSW_STAT_SHED d) (189 + d)) = p u :=
    (hswitch (48 * d)).raiseFlag u (hdie.symm ▸ isSwitchNote_STAT d) (by omega)
  unfold State.shedLoad
  extract_lets counted
  split
  · rw [(hswitch 0).event, (hswitch _).lswTo, (hswitch _).lswFlag _ (fun _ => diagFlag (by decide)) (fun _ => rfl) (by omega), hcount]
  · rw [(hswitch 0).event, hflag, hsol _ (by omega), hcount]

theorem State.shedOne_keeps (hlist : ∀ (s : State) (l : List Nat), p ((s.setShedList d l).shedShow d) = p s) (s : State) (g : Nat) :
    p (s.shedOne d g) = p s := by
  obtain ⟨-, h⟩ | ⟨x, hx, h⟩ := s.shedOne_cases d g
  · rw [h]
  · rw [h, State.shedLoad_keeps hswitch hsol hd _ (State.bound_of_mem_shedable hx), hlist]

end

theorem Undriven.shedOne {α : Type} {p : State → α} {d : Nat} (hp : Undriven p) (hd : d < 2)
    (hlist : ∀ (s : State) (l : List Nat), p (s.setShedList d l) = p s) (s : State) (g : Nat) : p (s.shedOne d g) = p s :=
  State.shedOne_keeps hp.besideSwitch (fun u _ hn => hp.solShed u hn) hd (fun u l => (hp.shedShow _ d).trans (hlist u l)) s g

/-- Shedding puts a load on the list where one is on (R242). -/
theorem State.shedList_shedOne {s : State} {d g : Nat} (hd : d < 2) (h : s.shedable d g ≠ []) :
    ∃ x ∈ s.shedable d g, (s.shedOne d g).shedList d = x :: s.shedList d := by
  obtain ⟨hnone, -⟩ | ⟨x, hx, hrun⟩ := s.shedOne_cases d g
  · exact absurd hnone h
  · have hlist := undriven_shedList d
    refine ⟨x, hx, ?_⟩
    rw [hrun, State.shedLoad_keeps hlist.besideSwitch (fun u _ hn => hlist.solShed u hn) hd _ (State.bound_of_mem_shedable hx),
      hlist.shedShow, State.shedList_setShedList]

/-! ### Overloads -/

theorem State.ovl_setOvl_same (s : State) (d g : Nat) (x : Option Nat) : (s.setOvl d g x).ovl d g = x := SMap.get_set_same _ _ _

theorem undriven_ovl (d g : Nat) : Undriven (fun s => s.ovl d g) :=
  ⟨fun _ _ _ _ => rfl, fun _ _ => rfl, fun _ _ => rfl, fun _ _ _ => rfl, fun _ _ _ => rfl⟩

/-- A group's configuration is no part of its measured current (R248). -/
theorem ungrouped_GRPCFG (d g : Nat) {f : Fld} (hf : f.addr = R.LSW_GRPCFG d g) (hg : g < 4) : Ungrouped d (fun s => s.fld f) where
  note s b w hb := State.fld_setReg_ne s b w f (by
    rw [hf]
    obtain hb | hb | ⟨k, hk, rfl⟩ := hb
    · simp only [R.LSW_GRPCFG, R.BRD_CTL] at hb ⊢
      omega
    · simp only [R.LSW_GRPCFG, R.LSW_STAT, R.LSW_DIESTAT] at hb ⊢
      omega
    · simp only [R.LSW_GRPCFG, R.LSW_GRPSTAT]
      omega)
  withEvr _ _ := rfl

theorem ungrouped_lswLimit (d g : Nat) (hg : g < 5) : Ungrouped d (fun s => s.lswLimit d g) := by
  unfold State.lswLimit
  split
  · exact ⟨fun _ _ _ _ => rfl, fun _ _ => rfl⟩
  · exact ungrouped_GRPCFG d g rfl (by omega)

/-- The flag of the overload of target g: of the die, or of a group (R241). -/
def ovlFlag (d g : Nat) : Fld := if g = 4 then F.LSW_DIESTAT_DIE_OVL d else F.LSW_GRPSTAT_GRP_OVL d g

/-- The overload flag of a target is one bit that no channel writes, and not NSHED. -/
theorem ovlFlag_facts {d g : Nat} (hg : g < 5) : (ovlFlag d g).Ok ∧ isLswReg (ovlFlag d g).addr ∧ (∀ n, isOffSwitch n (ovlFlag d g).addr) ∧
    ((ovlFlag d g).hi < 24 ∨ 29 < (ovlFlag d g).lo) := by
  unfold ovlFlag
  split
  · refine ⟨fldOk (by decide), ?_, fun n => ?_, .inl (by decide : 16 < 24)⟩
    · simp only [isLswReg, F.LSW_DIESTAT_DIE_OVL, R.LSW_DIESTAT, R.SOL_CTL]
      omega
    · simp only [isOffSwitch, isSwitchNote, F.LSW_DIESTAT_DIE_OVL, R.LSW_DIESTAT, R.BRD_CTL, R.LSW_STAT, R.LSW_RETRYCNT, R.LSW_CHSTAT,
        R.LSW_CHDUTY, R.LSW_CHSAFE]
      omega
  · refine ⟨fldOk (by decide), ?_, fun n => ?_, .inr (by decide : 29 < 31)⟩
    · simp only [isLswReg, F.LSW_GRPSTAT_GRP_OVL, R.LSW_GRPSTAT, R.SOL_CTL]
      omega
    · simp only [isOffSwitch, isSwitchNote, F.LSW_GRPSTAT_GRP_OVL, R.LSW_GRPSTAT, R.BRD_CTL, R.LSW_STAT, R.LSW_RETRYCNT, R.LSW_CHSTAT,
        R.LSW_CHDUTY, R.LSW_CHSAFE]
      omega

end Sys2Proof.Machine
end

section
/-! Load switches: overloads of a group or a die, shedding step by step, and the restoring of shed loads (R241, R242, R244). -/

namespace Sys2Proof.Machine

/-! ### An overload begins -/

/-- The overload of target g of die d flagged and recorded, its instant noted (R241). -/
def State.ovlNoted (s : State) (d g : Nat) : State :=
  let s := if g = 4 then s.raiseBoth (F.LSW_DIESTAT_DIE_OVL d) (F.LSW_STAT_DIE_OVL d) (189 + d)
    else s.raiseBoth (F.LSW_GRPSTAT_GRP_OVL d g) (F.LSW_STAT_GRP_OVL d) (189 + d)
  (s.event 0x0703 []).setOvl d g (some s.now)

/-- The flag of an overload's target raised, with the flag of the die. -/
def State.ovlRaised (s : State) (d g : Nat) : State :=
  s.raiseBoth (ovlFlag d g) (if g = 4 then F.LSW_STAT_DIE_OVL d else F.LSW_STAT_GRP_OVL d) (189 + d)

theorem State.ovlNoted_eq (s : State) (d g : Nat) :
    s.ovlNoted d g = ((s.ovlRaised d g).event 0x0703 []).setOvl d g (some (s.ovlRaised d g).now) := by
  unfold State.ovlNoted State.ovlRaised ovlFlag
  split <;> rfl

section
variable {d g : Nat} (hd : d < 2) (hg : g < 5)
include hd hg

theorem Ungrouped.ovlRaised {α : Type} {p : State → α} (hp : Ungrouped d p) (s : State) : p (s.ovlRaised d g) = p s := by
  have hflag : isGroupNote d (ovlFlag d g).addr := by
    unfold ovlFlag
    split
    · exact isGroupNote_DIESTAT d
    · exact isGroupNote_GRPSTAT d (show g < 4 by omega)
  have hunit : isGroupNote d (if g = 4 then F.LSW_STAT_DIE_OVL d else F.LSW_STAT_GRP_OVL d).addr := by
    split <;> exact isGroupNote_STAT d
  rw [State.ovlRaised, State.raiseBoth, hp.raiseFlag _ hunit (by omega), hp.setFld _ _ hflag]

theorem Ungrouped.ovlNoted {α : Type} {p : State → α} (hp : Ungrouped d p) (hovl : ∀ (s : State) (x : Option Nat), p (s.setOvl d g x) = p s)
    (s : State) : p (s.ovlNoted d g) = p s := by
  rw [State.ovlNoted_eq, hovl, hp.event, hp.ovlRaised hd hg]

theorem State.flag_ovlNoted (s : State) : (s.ovlNoted d g).flag (ovlFlag d g) = true := by
  obtain ⟨hok, hlsw, hoff, -⟩ := ovlFlag_facts (d := d) hg
  obtain ⟨hnote, -⟩ := hoff (48 * d)
  rw [Nat.mul_div_cancel_left _ (by decide : 0 < 48)] at hnote
  have hunit : (ovlFlag d g).addr ≠ (if g = 4 then F.LSW_STAT_DIE_OVL d else F.LSW_STAT_GRP_OVL d).addr := fun h => by
    refine hnote (h ▸ ?_)
    split <;> exact isSwitchNote_STAT d
  have hpend : (ovlFlag d g).addr ≠ R.RNG_INT_PEND ((189 + d) / 32) := fun h => hnote (h ▸ isSwitchNote_pend d (by omega))
  have hraised : (s.ovlRaised d g).flag (ovlFlag d g) = true :=
    (State.flag_congr (State.fld_congr (State.reg_raiseFlag_ne _ _ _ _ hunit hpend))).trans (State.flag_setFld_one s _ hok)
  rw [State.ovlNoted_eq]
  exact (State.flag_event_driver (s.ovlRaised d g) 0x0703 [] hlsw.1).trans hraised

/-- An overload flag stays while loads are shed. -/
theorem State.flag_shedOne (s : State) : (s.shedOne d g).flag (ovlFlag d g) = s.flag (ovlFlag d g) := by
  obtain ⟨⟨hord, hhi⟩, hlsw, hoff, hbits⟩ := ovlFlag_facts (d := d) hg
  have hbeside := unsilenced_fld hlsw
  refine State.flag_congr (State.shedOne_keeps (p := fun s => s.fld (ovlFlag d g)) (fun n => besideSwitch_fld (hoff n))
    (fun u _ hn => hbeside.solShed u hn) hd (fun u l => ?_) s g)
  refine (State.shedShow_keeps (p := fun s => s.fld (ovlFlag d g)) (fun w k v => ?_) (u.setShedList d l)).trans rfl
  exact State.fld_setFld_other w _ _ (fldOk (by decide)) hhi (by show 29 < (ovlFlag d g).lo ∨ (ovlFlag d g).hi < 24; omega) v

end

theorem lswGrpOvl_begins (s : State) (d : Fin 2) (g : Fin 5) (inst mean us : BitVec 16) (hpart : s.part.hasHs (48 * d)) (hidle : s.ovl d g = none)
    (hcut : s.cut d ≠ 2) (hover : s.lswLimit d g < mean.toNat ∨ (g.val < 4 ∧ 400 < inst.toNat ∧ 50 ≤ us.toNat)) :
    Gives (exec (.lswGrpOvl d g inst mean us) s) (fun t => t.ovl d g = some s.now ∧
      t.flag (if g.val = 4 then F.LSW_DIESTAT_DIE_OVL d else F.LSW_GRPSTAT_GRP_OVL d g) ∧
      (s.shedable d g ≠ [] → ∃ x ∈ s.shedable d g, t.shedList d = x :: s.shedList d) ∧ t.mem = s.mem) := by
  have hexec : exec (.lswGrpOvl d g inst mean us) s = execLswGrpOvl d g inst mean us s := by rfl
  have hd := d.isLt
  have hg := g.isLt
  let measured := s.lswCurrent d g inst.toNat
  let noted := measured.ovlNoted d g
  have hmeasured {α : Type} {p : State → α} (hp : Ungrouped d p) : p measured = p s := hp.lswCurrent s _ hg
  have hraised {α : Type} {p : State → α} (hp : Ungrouped d p) : p (measured.ovlRaised d g) = p s :=
    (hp.ovlRaised hd hg measured).trans (hmeasured hp)
  have hnoted {α : Type} {p : State → α} (hp : Ungrouped d p) (hovl : ∀ (s : State) (x : Option Nat), p (s.setOvl d g x) = p s) : p noted = p s :=
    (hp.ovlNoted hd hg hovl measured).trans (hmeasured hp)
  have hshedable : noted.shedable d g = s.shedable d g := hnoted (ungrouped_shedable d g) fun _ _ => rfl
  refine ⟨noted.shedOne d g, ?_, ?_, ?_, fun hne => ?_, ?_⟩
  · have hmidle : (measured.ovl d g).isNone = true := by rw [hmeasured ((undriven_ovl d g).ungrouped d), hidle]; rfl
    have hmover : measured.lswLimit d g < mean.toNat ∨ (g.val < 4 ∧ 400 < inst.toNat ∧ 50 ≤ us.toNat) := by
      rwa [hmeasured (ungrouped_lswLimit d g hg)]
    rw [hexec, execLswGrpOvl, if_pos ⟨hpart, hcut⟩]
    exact if_pos ⟨hmidle, hmover⟩
  · have hnow : (measured.ovlRaised d g).now = s.now := hraised (undriven_now.ungrouped d)
    have hovl : noted.ovl d g = some (measured.ovlRaised d g).now :=
      (congrArg (State.ovl · d g) (measured.ovlNoted_eq d g)).trans (State.ovl_setOvl_same _ _ _ _)
    rw [(undriven_ovl d g).shedOne hd (fun _ _ => rfl), hovl, hnow]
  · exact (State.flag_shedOne hd hg noted).trans (State.flag_ovlNoted hd hg measured)
  · obtain ⟨x, hx, hlist⟩ := State.shedList_shedOne (s := noted) (g := g) hd (hshedable ▸ hne)
    exact ⟨x, hshedable ▸ hx, hlist.trans (congrArg (x :: ·) (hnoted ((undriven_shedList d).ungrouped d) fun _ _ => rfl))⟩
  · exact (undriven_mem.shedOne hd (fun _ _ => rfl) noted g).trans (hnoted (undriven_mem.ungrouped d) fun _ _ => rfl)

/-! ### An overload goes on, or ends -/

theorem shedStep_sheds (s : State) (d : Fin 2) (g : Fin 5) (inst : BitVec 16) (t0 : Nat) (hrun : s.ovl d g = some t0)
    (hdue : t0 + 1000000 ≤ s.now) (hcut : s.cut d ≠ 2) :
    Gives (exec (.shedStep d g inst) s) (fun t =>
      (s.lswLimit d g < inst.toNat → t.ovl d g = some s.now ∧ (s.shedable d g ≠ [] → ∃ x ∈ s.shedable d g, t.shedList d = x :: s.shedList d)) ∧
      (inst.toNat ≤ s.lswLimit d g → t.ovl d g = none ∧ t.shedList d = s.shedList d) ∧ t.mem = s.mem) := by
  have hd := d.isLt
  have hg := g.isLt
  let measured := s.lswCurrent d g inst.toNat
  have hmeasured {α : Type} {p : State → α} (hp : Ungrouped d p) : p measured = p s := hp.lswCurrent s _ hg
  have hlimit : measured.lswLimit d g = s.lswLimit d g := hmeasured (ungrouped_lswLimit d g hg)
  have hexec : exec (.shedStep d g inst) s = if measured.lswLimit d g < inst.toNat then .next ((measured.setOvl d g (some measured.now)).shedOne d g)
      else .next (measured.setOvl d g none) := by
    have harm : exec (.shedStep d g inst) s = execShedStep d g inst s := by rfl
    rw [harm, execShedStep, hrun]
    exact if_pos ⟨decide_eq_true hdue, hcut⟩
  rw [hexec]
  by_cases hover : s.lswLimit d g < inst.toNat
  · let timed := measured.setOvl d g (some measured.now)
    have hshedable : timed.shedable d g = s.shedable d g := hmeasured (ungrouped_shedable d g)
    refine ⟨timed.shedOne d g, if_pos (hlimit.symm ▸ hover), fun _ => ⟨?_, fun hne => ?_⟩, fun hle => absurd hover (Nat.not_lt.mpr hle), ?_⟩
    · rw [(undriven_ovl d g).shedOne hd (fun _ _ => rfl), State.ovl_setOvl_same, hmeasured (undriven_now.ungrouped d)]
    · obtain ⟨x, hx, hlist⟩ := State.shedList_shedOne (s := timed) (g := g) hd (hshedable ▸ hne)
      exact ⟨x, hshedable ▸ hx, hlist.trans (congrArg (x :: ·) (hmeasured ((undriven_shedList d).ungrouped d)))⟩
    · exact (undriven_mem.shedOne hd (fun _ _ => rfl) timed g).trans (hmeasured (undriven_mem.ungrouped d))
  · refine ⟨measured.setOvl d g none, if_neg (hlimit.symm ▸ hover), fun h => absurd h hover, fun _ => ⟨State.ovl_setOvl_same _ _ _ _, ?_⟩, ?_⟩
    · exact hmeasured ((undriven_shedList d).ungrouped d)
    · exact hmeasured (undriven_mem.ungrouped d)

/-! ### The restoring of a shed load -/

/-- The instant of the last return of a load of group g of die d. -/
def State.backAt (d g : Nat) (s : State) : Nat := SMap.get (fun _ => 0) s.lsw.back (4 * d + g)

theorem undriven_backAt (d g : Nat) : Undriven (State.backAt d g) :=
  ⟨fun _ _ _ _ => rfl, fun _ _ => rfl, fun _ _ => rfl, fun _ _ _ => rfl, fun _ _ _ => rfl⟩

theorem nodup_groupsOf (x : Nat) : (groupsOf x).Nodup := by
  unfold groupsOf
  split_ifs <;> simp

/-- A return is noted for each of the load's groups (R244). -/
theorem State.backAt_noted (s : State) (d : Nat) {g x : Nat} (h : g ∈ groupsOf x) :
    ((groupsOf x).foldl (State.noteBack d) s).backAt d g = s.now := by
  refine State.foldl_reaches (f := State.noteBack d) (Q := fun u => u.now = s.now) (D := fun u => u.backAt d g = s.now) (nodup_groupsOf x) h
    (fun u hu => ?_) (fun u k _ _ hu => hu) (fun u k _ hk hu => ?_) rfl
  · exact (SMap.get_set_same _ _ _).trans hu
  · exact (SMap.get_set_ne _ _ (by omega)).trans hu

/-- A load of a group is a switch or a solenoid channel of its die. -/
theorem lt_of_mem_groupsOf {x g : Nat} (h : g ∈ groupsOf x) (hg : g < 4) : x < 96 := by
  by_contra hx
  have hnone : groupsOf x = [(x - 64) / 8] := by
    unfold groupsOf
    rw [if_neg (by omega), if_neg (by omega), if_neg (by omega), if_neg (by omega), if_neg (by omega), if_neg (by omega)]
  rw [hnone, List.mem_singleton] at h
  omega

theorem Undriven.loadBack {α : Type} {p : State → α} (hp : Undriven p) {d x : Nat}
    (hlist : ∀ (s : State) (d : Nat) (l : List Nat), p (s.setShedList d l) = p s) (hd : d < 2) (hx : x < 96) (s : State) :
    p (s.loadBack d x) = p s := by
  unfold State.loadBack
  split
  · rw [(hp.besideSwitch _).lswBack _ (by omega), hp.unlist hlist]
  · have hn : 32 * d + (x - 64) < 64 := by omega
    unfold State.solUnshed
    split
    · rw [hp.solAct _ _ _ hn, hp.solCommand _ hn, hp.unlist hlist, hp.setSch]
    · rfl

theorem State.not_mem_loadBack {s : State} {d x : Nat} (hd : d < 2) (hx : x < 96) (h : x < 64 ∨ (s.sch (32 * d + (x - 64))).shed = true) :
    x ∉ (s.loadBack d x).shedList d := by
  unfold State.loadBack
  split
  next hlt =>
    rw [((undriven_shedList d).besideSwitch _).lswBack _ (by omega)]
    exact s.not_mem_unlist d x
  next hge =>
    have hnum : (32 * d + (x - 64)) / 32 = d ∧ 64 + (32 * d + (x - 64)) % 32 = x := by omega
    have hoff := (State.solUnshed_returns (s := s) (n := 32 * d + (x - 64)) (by omega) (h.resolve_left hge)).2.1
    rwa [hnum.1, hnum.2] at hoff

theorem shedRestore_returns (s : State) (d : Fin 2) (g : Fin 4) (inst ms : BitVec 16) (x : Nat) (hpart : s.part.hasHs (48 * d)) (hcut : s.cut d ≠ 2)
    (hauto : s.flag (F.LSW_GRPCFG_AUTO d g))
    (hlow : 100 * inst.toNat ≤ s.fld (F.LSW_GRPCFG_RST_PCT d g) * s.fld (F.LSW_GRPCFG_GLIM d g))
    (hms : s.fld (F.LSW_GRPCFG_RST_T d g) ≤ ms.toNat)
    (hdue : SMap.get (fun _ => 0) s.lsw.back (4 * d + g) + 1000000 * s.fld (F.LSW_GRPCFG_RST_T d g) ≤ s.now)
    (hfirst : (s.shedList d).find? (fun y => (groupsOf y).contains g.val) = some x) (hshed : x < 64 ∨ (s.sch (32 * d + (x - 64))).shed) :
    Gives (exec (.shedRestore d g inst ms) s) (fun t => x ∉ t.shedList d ∧ SMap.get (fun _ => 0) t.lsw.back (4 * d + g) = s.now ∧
      t.mem = s.mem) := by
  have hexec : exec (.shedRestore d g inst ms) s = execShedRestore d g inst ms s := by rfl
  have hd := d.isLt
  have hg := g.isLt
  let measured := s.lswCurrent d g inst.toNat
  have hmeasured {α : Type} {p : State → α} (hp : Ungrouped d p) : p measured = p s := hp.lswCurrent s _ (by omega)
  have hcfg {f : Fld} (hf : f.addr = R.LSW_GRPCFG d g) : measured.fld f = s.fld f := hmeasured (ungrouped_GRPCFG d g hf hg)
  have hgroup : g.val ∈ groupsOf x := by
    have hcontains := List.find?_some hfirst
    exact List.contains_iff_mem.mp hcontains
  have hx := lt_of_mem_groupsOf hgroup hg
  have hsch : measured.sch (32 * d + (x - 64)) = s.sch (32 * d + (x - 64)) :=
    hmeasured (p := fun s => s.sch (32 * d + (x - 64))) ⟨fun _ _ _ _ => rfl, fun _ _ => rfl⟩
  have hkept : x < 64 ∨ (measured.sch (32 * d + (x - 64))).shed = true := hsch.symm ▸ hshed
  refine ⟨measured.shedBack d x, ?_, ?_, ?_, ?_⟩
  · have hguard : (measured.flag (F.LSW_GRPCFG_AUTO d g) &&
        decide (100 * inst.toNat ≤ measured.fld (F.LSW_GRPCFG_RST_PCT d g) * measured.fld (F.LSW_GRPCFG_GLIM d g)) &&
        decide (s.fld (F.LSW_GRPCFG_RST_T d g) ≤ ms.toNat) &&
        measured.elapsed (SMap.get (fun _ => 0) measured.lsw.back (4 * d + g)) (1000000 * s.fld (F.LSW_GRPCFG_RST_T d g))) = true := by
      have hback : SMap.get (fun _ => 0) measured.lsw.back (4 * d + g) = SMap.get (fun _ => 0) s.lsw.back (4 * d + g) :=
        hmeasured ((undriven_backAt d g).ungrouped d)
      have hnow : measured.now = s.now := hmeasured (undriven_now.ungrouped d)
      rw [State.flag_congr (hcfg (f := F.LSW_GRPCFG_AUTO d g) rfl), hcfg (f := F.LSW_GRPCFG_RST_PCT d g) rfl,
        hcfg (f := F.LSW_GRPCFG_GLIM d g) rfl, hback, State.elapsed, hnow, hauto, decide_eq_true hlow, decide_eq_true hms, decide_eq_true hdue]
      rfl
    have hlist : (measured.shedList d).find? (fun y => (groupsOf y).contains g.val) = some x := by
      rw [hmeasured ((undriven_shedList d).ungrouped d), hfirst]
    rw [hexec, execShedRestore, if_pos ⟨hpart, hcut⟩]
    refine (if_pos hguard).trans ?_
    rw [hlist]
  · rw [State.shedBack_keeps (p := fun s => s.shedList d) (fun _ _ => rfl)]
    exact State.not_mem_loadBack hd hx hkept
  · have hnow : (measured.loadBack d x).now = s.now :=
      (undriven_now.loadBack (fun _ _ _ => rfl) hd hx measured).trans (hmeasured (undriven_now.ungrouped d))
    rw [State.shedBack_eq]
    exact (State.backAt_noted _ d hgroup).trans hnow
  · rw [State.shedBack_keeps (p := State.mem) (fun _ _ => rfl), undriven_mem.loadBack (fun _ _ _ => rfl) hd hx]
    exact hmeasured (undriven_mem.ungrouped d)

end Sys2Proof.Machine
end

section
/-! Load switches: supply faults of a die (R245), and the settling of the group commands. -/

namespace Sys2Proof.Machine

/-! ### The outputs of a die -/

theorem Unwaved.solOffFast {α : Type} {n : Nat} {p : State → α} (hp : Unwaved n p) (s : State) (hn : n < 64) : p (s.solOffFast n) = p s := by
  simp only [State.solOffFast, State.solDecay]
  rw [apply_ite p, hp.solTo, apply_ite p, hp.solFall _ _ _ hn, ite_self, ite_self]

/-- What the registers of the digital points do not enter, bringing the points of a die up to date leaves. -/
theorem State.dioShowDie_keeps {α : Type} {p : State → α}
    (hp : ∀ (s : State) (b : Nat) (w : Word), R.SOL_CTL 0 ≤ b → 0x80000 ≤ b % 0x100000 → p (s.setReg b w) = p s) (s : State) (d : Nat) :
    p (s.dioShowDie d) = p s := by
  refine State.foldl_keeps (fun u j => ?_) _ s
  have hlevel (v : State) (b : Bool) : p (v.setBitAt (R.DIO_OUTLVL ((32 * d + j) / 32)) ((32 * d + j) % 32) b) = p v :=
    hp v _ _ (by simp only [R.SOL_CTL, R.DIO_OUTLVL]; omega) (by simp only [R.DIO_OUTLVL]; omega)
  have hstat (v : State) {f : Fld} (x : Nat) (hf : f.addr = R.DIO_PTSTAT ((32 * d + j) / 32) ((32 * d + j) % 32)) : p (v.setFld f x) = p v :=
    hp v _ _ (by rw [hf]; simp only [R.SOL_CTL, R.DIO_PTSTAT]; omega) (by rw [hf]; simp only [R.DIO_PTSTAT]; omega)
  have hsupok (v : State) (b : Bool) : p (v.setBit (F.DIO_CLSTAT_SUPOK ((32 * d + j) / 32) ((32 * d + j) % 32 / 8)) b) = p v :=
    hp v _ _ (by simp only [F.DIO_CLSTAT_SUPOK, R.SOL_CTL, R.DIO_CLSTAT]; omega) (by simp only [F.DIO_CLSTAT_SUPOK, R.DIO_CLSTAT]; omega)
  simp only [State.dioShow]
  rw [hsupok, State.setBit, hstat _ _ rfl, hstat _ _ rfl, hlevel]

theorem Unsilenced.dioShowDie {α : Type} {p : State → α} (hp : Unsilenced p) (s : State) (d : Nat) : p (s.dioShowDie d) = p s :=
  State.dioShowDie_keeps (fun u _ w _ hdio => hp.setReg u w fun h => by have := h.2.2; omega) s d

theorem Undriven.dioShowDie {α : Type} {p : State → α} (hp : Undriven p) (s : State) (d : Nat) : p (s.dioShowDie d) = p s :=
  State.dioShowDie_keeps (fun u _ w hsol _ => hp.setReg u w (.inr hsol)) s d

theorem Unsilenced.solSilence {α : Type} {p : State → α} (hp : Unsilenced p) (s : State) {d : Nat} (hd : d < 2) : p (s.solSilence d) = p s := by
  have hstop (u : State) (b : Nat) (hb : b ∈ [0, 1]) : p ((u.setFld (F.SOL_BSTCFG_EN d b) 0).setFld (F.SOL_BSTSTAT_READY d b) 0) = p u := by
    have hlt : b ≤ 1 := by
      simp only [List.mem_cons, List.not_mem_nil, or_false] at hb
      omega
    rw [hp.setFld _ _ (by simp only [isLswReg, F.SOL_BSTSTAT_READY, R.SOL_BSTSTAT]; omega),
      hp.setFld _ _ (by simp only [isLswReg, F.SOL_BSTCFG_EN, R.SOL_BSTCFG]; omega)]
  unfold State.solSilence
  rw [State.foldl_keeps_of_mem hstop]
  exact State.foldl_keeps_of_mem (fun u j hj => (hp.besideChannel _).solOffFast u (by have := List.mem_range.mp hj; omega)) s

/-! ### The switches of a die -/

/-- Channel j of die d turned off where it is on, or waits for a retry (Table 9-7). -/
def State.lswCutOff (d : Nat) (s : State) (j : Nat) : State :=
  if s.lswOn (48 * d + j) || s.lswState (48 * d + j) = lsRETRY then s.lswTo (48 * d + j) lsOFF else s

/-- Channel j of die d, where the module has it, held on (Table 9-7). -/
def State.lswHeldOn (d : Nat) (s : State) (j : Nat) : State := if s.part.hasHs (48 * d + j) then s.lswTo (48 * d + j) lsON else s

theorem State.dieOff_eq (s : State) (d : Nat) : s.dieOff d = (((List.range 48).foldl (State.lswCutOff d) s).solSilence d).dioShowDie d := by rfl

theorem State.dieOn_eq (s : State) (d : Nat) : s.dieOn d = ((List.range 48).foldl (State.lswHeldOn d) s).dioShowDie d := by rfl

theorem State.lswOn_congr {s t : State} {n : Nat} (h : t.lswState n = s.lswState n) : t.lswOn n = s.lswOn n := by
  rw [State.lswOn, State.lswOn, h]

theorem State.lswOn_allCutOff (s : State) {d j : Nat} (hj : j < 48) : ((List.range 48).foldl (State.lswCutOff d) s).lswOn (48 * d + j) = false := by
  refine State.foldl_reaches (Q := fun _ => True) (D := fun u => u.lswOn (48 * d + j) = false) List.nodup_range (List.mem_range.mpr hj)
    (fun u _ => ?_) (fun _ _ _ _ _ => trivial) (fun u i _ hij hu => ?_) trivial
  · unfold State.lswCutOff
    split
    next => rw [State.lswOn, u.lswState_lswTo _ (by decide)]; rfl
    next h =>
      rw [Bool.or_eq_true, not_or] at h
      exact Bool.eq_false_of_not_eq_true h.1
  · unfold State.lswCutOff
    split
    · exact (State.lswOn_congr ((besideSwitch_lswState (show 48 * d + j ≠ 48 * d + i by omega)).lswTo u _)).trans hu
    · exact hu

theorem State.lswState_allHeldOn {s : State} {d j : Nat} (hj : j < 48) (hpart : s.part.hasHs (48 * d + j) = true) :
    ((List.range 48).foldl (State.lswHeldOn d) s).lswState (48 * d + j) = lsON := by
  have hkeep (u : State) (n : Nat) : (u.lswTo n lsON).part = u.part := State.lswTo_keeps (fun w f v _ _ => w.setFld_part f v) u _
  refine State.foldl_reaches (Q := fun u => u.part.hasHs (48 * d + j) = true) (D := fun u => u.lswState (48 * d + j) = lsON) List.nodup_range
    (List.mem_range.mpr hj) (fun u hu => ?_) (fun u i _ _ hu => ?_) (fun u i _ hij hu => ?_) hpart
  · rw [State.lswHeldOn, if_pos hu, u.lswState_lswTo _ (by decide)]
  · unfold State.lswHeldOn
    split
    · rwa [hkeep]
    · exact hu
  · unfold State.lswHeldOn
    split
    · exact ((besideSwitch_lswState (show 48 * d + j ≠ 48 * d + i by omega)).lswTo u _).trans hu
    · exact hu

/-- A reading that neither the status of a switch enters, nor anything of the other outputs: a supply fault leaves it. -/
structure Uncut {α : Type} (p : State → α) : Prop extends Unsilenced p where
  stat : ∀ (s : State) (n : Nat) (f : Fld) (v : Nat), f.addr = R.LSW_CHSTAT (n / 48) (n % 48) → f.Ok → p (s.setFld f v) = p s

theorem Uncut.dieOff {α : Type} {p : State → α} (hp : Uncut p) (s : State) {d : Nat} (hd : d < 2) : p (s.dieOff d) = p s := by
  have hto (u : State) (n st : Nat) : p (u.lswTo n st) = p u := State.lswTo_keeps (fun w f v => hp.stat w n f v) u st
  rw [State.dieOff_eq, hp.dioShowDie, hp.solSilence _ hd, State.foldl_keeps (p := p) fun u j => by rw [State.lswCutOff, apply_ite p, hto, ite_self]]

theorem Uncut.dieOn {α : Type} {p : State → α} (hp : Uncut p) (s : State) (d : Nat) : p (s.dieOn d) = p s := by
  have hto (u : State) (n st : Nat) : p (u.lswTo n st) = p u := State.lswTo_keeps (fun w f v => hp.stat w n f v) u st
  rw [State.dieOn_eq, hp.dioShowDie, State.foldl_keeps (p := p) fun u j => by rw [State.lswHeldOn, apply_ite p, hto, ite_self]]

theorem isLswReg_CHSTAT (n : Nat) : isLswReg (R.LSW_CHSTAT (n / 48) (n % 48)) := by
  simp only [isLswReg, R.SOL_CTL, R.LSW_CHSTAT]
  omega

theorem State.lswOn_dieOff (s : State) {d j : Nat} (hd : d < 2) (hj : j < 48) : (s.dieOff d).lswOn (48 * d + j) = false := by
  have hstate : Unsilenced (fun s => s.lswState (48 * d + j)) := unsilenced_fld (isLswReg_CHSTAT _)
  rw [State.dieOff_eq, State.lswOn_congr ((hstate.dioShowDie _ d).trans (hstate.solSilence _ hd)), State.lswOn_allCutOff s hj]

theorem State.lswState_dieOn {s : State} {d j : Nat} (hj : j < 48) (hpart : s.part.hasHs (48 * d + j) = true) :
    (s.dieOn d).lswState (48 * d + j) = lsON := by
  have hstate : Unsilenced (fun s => s.lswState (48 * d + j)) := unsilenced_fld (isLswReg_CHSTAT _)
  rw [State.dieOn_eq, hstate.dioShowDie, State.lswState_allHeldOn hj hpart]

theorem uncut_cuts (d : Nat) : Uncut (fun s => s.cuts d) := ⟨⟨fun _ _ _ _ => rfl, fun _ _ => rfl, fun _ _ _ => rfl⟩, fun _ _ _ _ _ _ => rfl⟩

theorem uncut_mem : Uncut State.mem := ⟨⟨fun _ _ _ _ => rfl, fun _ _ => rfl, fun _ _ _ => rfl⟩, fun _ _ _ _ _ _ => rfl⟩

theorem uncut_SUPPLY (d : Nat) : Uncut (fun s => s.fld (F.LSW_STAT_SUPPLY d)) where
  toUnsilenced := unsilenced_fld (by simp only [isLswReg, F.LSW_STAT_SUPPLY, R.LSW_STAT, R.SOL_CTL]; omega)
  stat s n f v hf _ := State.fld_setFld_ne s f _ (by rw [hf]; simp only [F.LSW_STAT_SUPPLY, R.LSW_STAT, R.LSW_CHSTAT]; omega) v

/-! ### Faults in force -/

theorem State.cuts_setCut_on {s : State} {d bit : Nat} (h : s.cuts d / bit % 2 = 0) : (s.setCut d bit true).cuts d = s.cuts d + bit := by
  simp only [State.setCut, h, Nat.zero_ne_one, if_false, if_true]
  exact SMap.get_set_same _ _ _

theorem State.cuts_setCut_off {s : State} {d bit : Nat} (h : s.cuts d / bit % 2 = 1) : (s.setCut d bit false).cuts d = s.cuts d - bit := by
  simp only [State.setCut, h, if_true, Bool.false_eq_true, if_false]
  exact SMap.get_set_same _ _ _

/-- Reverse battery decides where the ground is not lost, a low supply where neither is in force (log entry 37). -/
theorem State.cut_eq_of_cuts {s : State} {d m : Nat} (h : s.cuts d = m) :
    (m % 2 = 0 → m / 2 % 2 = 1 → s.cut d = 2) ∧ (m % 4 = 0 → m / 4 % 2 = 1 → s.cut d = 3) := by
  subst h
  constructor <;> intro hlow hbit <;> simp only [State.cut]
  · rw [if_neg (by omega), if_pos hbit]
  · rw [if_neg (by omega), if_neg (by omega), if_pos hbit]

theorem State.mem_setCut (s : State) (d bit : Nat) (on : Bool) : (s.setCut d bit on).mem = s.mem := rfl

theorem State.fld_setCut (s : State) (d bit : Nat) (on : Bool) (f : Fld) : (s.setCut d bit on).fld f = s.fld f := rfl

section
variable (s : State) (d k : Nat)

theorem State.lswSupplyEvent_lsw : (s.lswSupplyEvent d k).lsw = s.lsw := (unmoved_lsw.event _ _ _).trans (State.raiseFlag_lsw _ _ _)

theorem State.lswSupplyEvent_mem : (s.lswSupplyEvent d k).mem = s.mem := (unmoved_mem.event _ _ _).trans (State.raiseFlag_mem _ _ _)

theorem State.lswSupplyEvent_part : (s.lswSupplyEvent d k).part = s.part :=
  (Unmoved.event (p := State.part) ⟨fun _ _ _ => rfl, fun _ _ => rfl, fun _ _ _ => rfl⟩ _ _ _).trans (State.raiseFlag_part _ _ _)

theorem State.SUPPLY_lswSupplyEvent : (s.lswSupplyEvent d k).flag (F.LSW_STAT_SUPPLY d) = true := by
  rw [State.lswSupplyEvent, State.flag_event_driver _ _ _ (LSW_STAT_ge d)]
  exact State.flag_raiseFlag _ _ (fldOk (by decide)) _ (LSW_STAT_ne_pend d)

theorem State.cuts_lswSupplyEvent : (s.lswSupplyEvent d k).cuts d = s.cuts d := by rw [State.cuts, State.cuts, State.lswSupplyEvent_lsw]

end

/-! ### A supply fault begins -/

/-- What a supply fault of a kind that has begun does to the outputs of die d (Table 9-7). -/
def State.cutOutputs (s : State) (d kind : Nat) : State :=
  if kind = 0 then s.dieOff d
  else if kind = 1 then (if s.cut d = 2 then s.dieOn d else s)
  else if s.cut d = 3 then s.dieOff d else s

theorem Uncut.cutOutputs {α : Type} {p : State → α} (hp : Uncut p) (s : State) {d : Nat} (kind : Nat) (hd : d < 2) :
    p (s.cutOutputs d kind) = p s := by
  unfold State.cutOutputs
  split_ifs
  · exact hp.dieOff s hd
  · exact hp.dieOn s d
  · rfl
  · exact hp.dieOff s hd
  · rfl

theorem execLswSupply_begin {s : State} {d : Fin 2} {kind : Fin 3} (ms : BitVec 16) (hpart : s.part.hasHs (48 * d))
    (hfree : s.cuts d / 2 ^ kind.val % 2 = 0) :
    execLswSupply d kind true ms s = .next (((s.lswSupplyEvent d kind).setCut d (2 ^ kind.val) true).cutOutputs d kind) := by
  have hoff : ¬ s.cuts d / 2 ^ kind.val % 2 = 1 := by omega
  simp only [execLswSupply, if_pos hpart, if_neg hoff, if_true]
  obtain ⟨k, hk⟩ := kind
  obtain rfl | rfl | rfl : k = 0 ∨ k = 1 ∨ k = 2 := by omega
  · simp only [State.cutOutputs, if_true, Nat.pow_zero]
  · simp only [State.cutOutputs, Nat.one_ne_zero, if_false, if_true, Nat.pow_one]
  · simp only [State.cutOutputs, State.dieLow, OfNat.ofNat_ne_zero, OfNat.ofNat_ne_one, if_false, Nat.reducePow]
    rfl

theorem lswSupply_begins (s : State) (d : Fin 2) (kind : Fin 3) (ms : BitVec 16) (hpart : s.part.hasHs (48 * d))
    (hfree : s.cuts d / 2 ^ kind.val % 2 = 0) :
    Gives (exec (.lswSupply d kind true ms) s) (fun t => t.cuts d = s.cuts d + 2 ^ kind.val ∧ t.flag (F.LSW_STAT_SUPPLY d) ∧
      (kind.val = 0 ∨ (kind.val = 2 ∧ s.cuts d % 4 = 0) → ∀ j < 48, t.lswOn (48 * d + j) = false) ∧
      (kind.val = 1 → s.cuts d % 2 = 0 → ∀ j < 48, s.part.hasHs (48 * d + j) → t.lswState (48 * d + j) = lsON) ∧ t.mem = s.mem) := by
  have hexec : exec (.lswSupply d kind true ms) s = execLswSupply d kind true ms s := by rfl
  have hd := d.isLt
  let noted := s.lswSupplyEvent d kind
  let u := noted.setCut d (2 ^ kind.val) true
  have hcuts : u.cuts d = s.cuts d + 2 ^ kind.val := by
    have hnoted : noted.cuts d = s.cuts d := s.cuts_lswSupplyEvent d kind
    rw [State.cuts_setCut_on (hnoted.symm ▸ hfree), hnoted]
  obtain ⟨hreverse, hlow⟩ := State.cut_eq_of_cuts hcuts
  refine ⟨u.cutOutputs d kind, hexec.trans (execLswSupply_begin ms hpart hfree), ((uncut_cuts d).cutOutputs u kind hd).trans hcuts,
    ?_, fun hkind j hj => ?_, fun hkind hground j hj hhas => ?_, ?_⟩
  · have hflag : u.flag (F.LSW_STAT_SUPPLY d) = true := (State.flag_congr (noted.fld_setCut _ _ _ _)).trans (s.SUPPLY_lswSupplyEvent d kind)
    exact (State.flag_congr ((uncut_SUPPLY d).cutOutputs u kind hd)).trans hflag
  · have hrun : u.cutOutputs d kind = u.dieOff d := by
      rcases hkind with hkind | ⟨hkind, hnone⟩
      · rw [State.cutOutputs, if_pos hkind]
      · have hcut : u.cut d = 3 := by
          rw [hkind] at hlow hfree
          exact hlow (by omega) (by omega)
        rw [State.cutOutputs, if_neg (by omega), if_neg (by omega), if_pos hcut]
    rw [hrun]
    exact State.lswOn_dieOff u hd hj
  · have hcut : u.cut d = 2 := by
      rw [hkind] at hreverse hfree
      exact hreverse (by omega) (by omega)
    have hpartKept : u.part = s.part := s.lswSupplyEvent_part d kind
    rw [State.cutOutputs, if_neg (by omega), if_pos hkind, if_pos hcut]
    exact State.lswState_dieOn hj (hpartKept.symm ▸ hhas)
  · exact (uncut_mem.cutOutputs u kind hd).trans ((noted.mem_setCut _ _ _).trans (s.lswSupplyEvent_mem d kind))

/-! ### A supply fault ends -/

/-- An entry that a test does not keep reads as its default. -/
theorem SMap.get_keep_of_not {α : Type} {dflt : Nat → α} (m : SMap α) {keep : Nat → Bool} {k : Nat} (h : keep k = false) :
    SMap.get dflt (SMap.keep m keep) k = dflt k := by
  have hfind : SMap.find (SMap.keep m keep) k = none := by
    induction m with
    | nil => rfl
    | cons e m ih =>
      obtain ⟨j, v⟩ := e
      by_cases hj : keep j = true
      · have hjk : j ≠ k := fun hjk => by rw [hjk, h] at hj; cases hj
        simpa [SMap.keep, List.filter_cons, hj, SMap.find, hjk] using ih
      · simpa [SMap.keep, List.filter_cons, hj] using ih
  rw [SMap.get, hfind]

/-- The accepted entries of a die's switches are gone after its power-off (Table 9-8). -/
theorem State.entry_dieClear (s : State) {d j : Nat} (hd : d < 2) (hj : j < 48) : (s.dieClear d).entry 2 (48 * d + j) = [] := by
  have htable : entryKey 2 (48 * d + j) / 4096 = 2 := by simp only [entryKey]; omega
  have hdie : entryKey 2 (48 * d + j) % 4096 / 48 = d := by
    have hindex : entryKey 2 (48 * d + j) % 4096 = 48 * d + j := by simp only [entryKey]; omega
    omega
  simp only [State.entry, State.dieClear]
  refine SMap.get_keep_of_not (dflt := fun _ => []) _ ?_
  simp only [htable, hdie, decide_true, Bool.not_true]

theorem State.dieClear_cuts (s : State) (d : Nat) : (s.dieClear d).cuts d = s.cuts d := rfl

theorem State.dieClear_mem (s : State) (d : Nat) : (s.dieClear d).mem = s.mem := rfl

/-- Channel j of die d takes the level of its source (Table 9-7). -/
def State.lswLevel (d : Nat) (s : State) (j : Nat) : State := s.lswAct (48 * d + j) (s.flag (lswF F.LSW_CHSTAT_LEVEL (48 * d + j))) s.now

theorem Undriven.dieReturn {α : Type} {p : State → α} (hp : Undriven p) (s : State) {d : Nat} (hd : d < 2) :
    p (s.dieReturn d) = p (s.setCut d 4 false) := by
  have hswitch (u : State) (j : Nat) (hj : j ∈ List.range 48) : p (State.lswLevel d u j) = p u :=
    hp.lswAct u _ _ (by have := List.mem_range.mp hj; omega)
  have hchannel (u : State) (j : Nat) (hj : j ∈ List.range 32) : p (if u.solValid (32 * d + j) then
      u.solAct (32 * d + j) (u.flag (solF F.SOL_CHSTAT_LEVEL (32 * d + j))) u.now else u) = p u := by
    rw [apply_ite p, hp.solAct _ _ _ (by have := List.mem_range.mp hj; omega), ite_self]
  unfold State.dieReturn
  extract_lets u switched channels
  split
  · rfl
  · rw [hp.dioShowDie]
    exact (State.foldl_keeps_of_mem hchannel _).trans (State.foldl_keeps_of_mem hswitch _)

theorem undriven_cuts (d : Nat) : Undriven (fun s => s.cuts d) :=
  ⟨fun _ _ _ _ => rfl, fun _ _ => rfl, fun _ _ => rfl, fun _ _ _ => rfl, fun _ _ _ => rfl⟩

theorem lswSupply_ends (s : State) (d : Fin 2) (kind : Fin 3) (ms : BitVec 16) (hpart : s.part.hasHs (48 * d))
    (hon : s.cuts d / 2 ^ kind.val % 2 = 1) (hms : kind.val = 2 → 10 ≤ ms.toNat) :
    Gives (exec (.lswSupply d kind false ms) s) (fun t => t.cuts d = s.cuts d - 2 ^ kind.val ∧
      (kind.val < 2 → ∀ j < 48, t.entry 2 (48 * d + j) = []) ∧ t.mem = s.mem) := by
  have hexec : exec (.lswSupply d kind false ms) s = execLswSupply d kind false ms s := by rfl
  have hcuts := State.cuts_setCut_off hon
  have hmem := s.mem_setCut d (2 ^ kind.val) false
  simp only [hexec, execLswSupply, if_pos hpart, if_pos hon, Bool.false_eq_true, if_false]
  obtain ⟨k, hk⟩ := kind
  obtain rfl | rfl | rfl : k = 0 ∨ k = 1 ∨ k = 2 := by omega
  · exact ⟨_, rfl, (State.dieClear_cuts _ _).trans hcuts, fun _ j hj => State.entry_dieClear _ d.isLt hj, (State.dieClear_mem _ _).trans hmem⟩
  · exact ⟨_, rfl, (State.dieClear_cuts _ _).trans hcuts, fun _ j hj => State.entry_dieClear _ d.isLt hj, (State.dieClear_mem _ _).trans hmem⟩
  · exact ⟨_, congrArg _ (if_pos (hms rfl)), ((undriven_cuts d).dieReturn s d.isLt).trans hcuts, fun h => absurd h (Nat.lt_irrefl 2),
      (undriven_mem.dieReturn s d.isLt).trans hmem⟩

/-! ### The settling -/

/-- Settles O22: each clause by its own lemma. The walks over a cluster or a die rest on what a switch leaves of the others; shedding and its
return on what a switch and a solenoid channel leave of the shed list. -/
theorem loadGroupCommandsComplete : Obligations.LoadGroupCommandsComplete :=
  ⟨clusterThermSample_samples, lswGrpOvl_begins, shedStep_sheds, shedRestore_returns, lswSupply_begins, lswSupply_ends⟩

end Sys2Proof.Machine
end
